-- ==== Sys2Proof/Word.lean ====
section
/-! DEFINITION. The word types of the HF1920 (R6: little-endian, bit 0 the least significant bit). -/
namespace Sys2Proof

/-- One byte of a packet, a register field, a memory or a bus. -/
abbrev Byte := BitVec 8
/-- One 16-bit word: an engine program word, a window pointer. -/
abbrev Half := BitVec 16
/-- One 32-bit register word. -/
abbrev Word := BitVec 32
/-- One 64-bit quantity: a unique ID, a time stamp in ns (R8). -/
abbrev Long := BitVec 64

end Sys2Proof
end

