-- ==== Sys2Proof/Syntax.lean ====
section
/-! DEFINITION. The commands of the block: one constructor of `Instr` per row of spec/opcode_table.json, with the
operands the row needs. A row of Table 2-6 carries the command packet; a row that stands for an event of the
environment (a bus byte, a pin edge, a received frame, a converted quantity) carries what the environment supplies. -/
namespace Sys2Proof

/-- The two host interfaces (R85): 0 the two-wire target, 1 the quad serial target (R356). -/
inductive Iface where
  | twi | quad
  deriving DecidableEq, Repr

/-- Where a command comes from (R66): a local interface, or the pair of entry device address and entry interface. -/
inductive Origin where
  | loc (i : Iface)
  | remote (entry : Byte) (i : Iface)
  deriving DecidableEq, Repr

/-- A command packet as it reaches step 1 of Table 2-5, less its opcode, which the row names, and its CRC (R48). -/
structure Packet where
  origin : Origin
  tag : Byte
  dest : Byte
  flags : Byte
  params : List Byte
  deriving DecidableEq, Repr

/-- How an NVM operation ended: done, or an erase, a program or a verify that failed (status NVM_ERROR). -/
inductive NvmResult where
  | ok | eraseFail | programFail | verifyFail
  deriving DecidableEq, Repr

/-- Who writes a register: a session slot's WRITE_REG, the firmware or the extension through an aperture (R514). -/
inductive Writer where
  | session (slot : Fin 6)
  | firmware
  | extension
  deriving DecidableEq, Repr

/-- An item of the bridge that a common-mode window watches (R266): a lane or a group's sense pair. -/
inductive WinItem where
  | lane (n : Fin 32)
  | group (g : Fin 8)
  deriving DecidableEq, Repr

/-- A hardware time stamp (R318): ns, and a fraction in 1/65,536 ns. -/
structure Stamp where
  ns : Long
  frac : Half
  deriving DecidableEq, Repr

/-- What the front end delivers for one grid frame (R163, R169): per sense lane the in-phase chip samples of the code
chips (mutual) or the charges of the measured chips per line (self), the lanes whose amplifier overloaded, and the
shadow samples of the two tail-guard slots per lane (R238). -/
structure FrameInput where
  chips : List (List Int)
  overload : List Nat
  shadow : List (List Int)
  vtxLow : Bool
  deriving DecidableEq, Repr

/-- The decimator output of one converting lane at an instant (R285): the untrimmed value, and what the modulator saw
within the sample's window: 0 no overload, 1 an overload of positive sign, 2 of negative sign (R298). -/
structure SampleInput where
  lane : Fin 32
  value : Int
  overload : Fin 3
  deriving DecidableEq, Repr

/-- A received SYNC payload (Table 10-3), with the transmit stamp t1 the sender inserted. -/
structure SyncFrame where
  t1 : Stamp
  seq : Half
  interval : Nat
  depth : Nat
  acq : Bool
  sched : Bool
  pps : Bool
  holdover : Bool
  llAddr : Byte
  llUid : Long
  p : Nat
  t0 : Long
  n0 : Word
  deriving DecidableEq, Repr

/-- A received HELLO (R339). -/
structure Hello where
  uid : Long
  port : Fin 4
  priority : Byte
  addr : Byte
  deriving DecidableEq, Repr

/-- A frame as forwarded (Table 11-4): the header fields and the payload. -/
structure Frame where
  dest : Byte
  source : Byte
  cls : Fin 4
  type : Nat
  hops : Nat
  payload : List Byte
  deriving DecidableEq, Repr

/-- One port entry of a TOPO record (Table 11-7). -/
structure TopoPort where
  nbrUid : Long
  nbrPort : Nat
  state : Nat
  mode : Nat
  deriving DecidableEq, Repr

/-- A TOPO record (Table 11-7). -/
structure Topo where
  uid : Long
  seq : Word
  priority : Byte
  pin : Byte
  addr : Byte
  joined : Bool
  heldDormant : Bool
  modeLag : Bool
  prepHeld : Bool
  modeGen : Half
  modeId : Half
  parent : Byte
  depth : Byte
  ports : List TopoPort
  deriving DecidableEq, Repr

/-- An ASSIGN record (R351): its originator, its sequence number and up to 24 (UID, address) pairs. -/
structure Assign where
  uid : Long
  seq : Word
  pairs : List (Long × Byte)
  deriving DecidableEq, Repr

/-- A CMD or RPL segment (R356). -/
structure Segment where
  iface : Iface
  tag : Byte
  seg : Nat
  last : Bool
  bytes : List Byte
  deriving DecidableEq, Repr

/-- A STREAM segment (R357). -/
structure StreamSeg where
  stream : Fin 16
  seq : Half
  bytes : List Byte
  deriving DecidableEq, Repr

/-- An ALARM frame's payload (R358). -/
structure AlarmMsg where
  aseq : Half
  resent : Bool
  entry : List Byte
  deriving DecidableEq, Repr

/-- An admission request as a device on the route or the destination sees it (R378, check 6). -/
structure AdmissionReq where
  src : Byte
  dest : Byte
  stream : Fin 16
  iface : Iface
  e : Nat
  rate : Nat
  sources : Nat
  release : Bool
  deriving DecidableEq, Repr

/-- A grant or a refusal of an admission request, or the end of a reservation (R378). -/
structure AdmissionReply where
  stream : Fin 16
  granted : Bool
  final : Bool
  deriving DecidableEq, Repr

/-- One write of a mode change (Table 11-12). -/
structure ModeWrite where
  dev : Byte
  addr : Word
  value : Word
  deriving DecidableEq, Repr

/-- A fabric-wide mode change (R361, Table 11-12). -/
structure ModeChange where
  id : Half
  target : Word
  newP : Nat
  writes : List ModeWrite
  deriving DecidableEq, Repr

/-- An acknowledgement of a PREPARE, a COMMIT or an ABORT (R362, R363): who, of what, with which status. -/
structure ModeAck where
  src : Byte
  id : Half
  kind : Fin 3
  status : Byte
  deriving DecidableEq, Repr

/-- What a device treats as the commit of its prepared change (R365). -/
inductive CommitKind where
  | frame (src : Byte) (id : Half)
  | sync (n0 : Word) (p : Nat)
  | topo (id : Half)
  deriving DecidableEq, Repr

/-- Why a received frame is discarded (R342). -/
inductive DiscardCause where
  | crc | length | reservedType | classMismatch | aborted
  deriving DecidableEq, Repr

/-- The commands of the block, one per row of the opcode table. -/
inductive Instr where
  /-- NOP (R78): Command that returns OK with no data and has no other effect. -/
  | nop (p : Packet)
  /-- IDENTIFY (R79): Command that returns the device ID, revision, unique ID, firmware version, active slot and fabric address. -/
  | identify (p : Packet)
  /-- GET_STATUS (R80): Command that returns the power state, reset cause, role, flags, faulted blocks, current epoch and time. -/
  | getStatus (p : Packet)
  /-- SESSION_OPEN (R69): Command that ends any session in the slot, draws a fresh 16-byte challenge and holds it pending. -/
  | sessionOpen (p : Packet)
  /-- SESSION_AUTH (R449): Command that checks the HMAC response against the pending challenge and grants the role or counts a failure. -/
  | sessionAuth (p : Packet)
  /-- SESSION_CLOSE (R68): Command that returns the slot to role NONE. -/
  | sessionClose (p : Packet)
  /-- SET_POWER_STATE (R122): Deferred command that starts a commanded power-state transition. -/
  | setPowerState (p : Packet)
  /-- RESET (R133): Command that queues its reply and arms a full or soft reset. -/
  | reset (p : Packet)
  /-- READ_REG (R82): Command that performs COUNT reads of WIDTH bytes from device space and returns them. -/
  | readReg (p : Packet)
  /-- WRITE_REG (R84): Command that checks a run of writes as a whole and then applies them in address order, stopping at the first write refused. -/
  | writeReg (p : Packet)
  /-- SAVE_CONFIG (R59): Deferred command that captures the shadow registers and starts writing the older configuration copy. -/
  | saveConfig (p : Packet)
  /-- LOAD_CONFIG (R138): Deferred command that loads the newer valid configuration copy into the shadow registers. -/
  | loadConfig (p : Packet)
  /-- GRID_CONFIG (R178): Command that sets swing, slew, phase, listen options and the frame schedule in the shadow registers. -/
  | gridConfig (p : Packet)
  /-- REGION_DEFINE (R170): Command that defines one region's rectangle, type, enable and base gain. -/
  | regionDefine (p : Packet)
  /-- DRIVE_PLAN (R160): Command that sets the mode of each drive line. -/
  | drivePlan (p : Packet)
  /-- GRID_START (R177): Command that makes grid acquisition pending for the next boundary or a named epoch. -/
  | gridStart (p : Packet)
  /-- GRID_STOP (R177): Command that ends grid acquisition at the next epoch boundary and cancels a pending start. -/
  | gridStop (p : Packet)
  /-- CAPTURE_REFERENCE (R179): Deferred command that starts averaging the next 16 frames of each kind for the reference image. -/
  | captureReference (p : Packet)
  /-- READ_FRAME (R173): Command that returns a window of a held frame from the ring. -/
  | readFrame (p : Packet)
  /-- SELFCAP_CONFIG (R168): Command that sets a self set's lines, gain and guard mode. -/
  | selfcapConfig (p : Packet)
  /-- TOUCH_CONFIG (R187): Command that sets a region's touch mode, gains, thresholds and alarm classes. -/
  | touchConfig (p : Packet)
  /-- CONTROL_DEFINE (R211): Command that defines a slider or wheel control and its elements. -/
  | controlDefine (p : Packet)
  /-- GESTURE_CONFIG (R217): Command that sets a region's enabled gestures, wake bits and gesture limits. -/
  | gestureConfig (p : Packet)
  /-- BASELINE_RESET (R189): Command that cancels the contacts of the named regions and starts their start-up windows at the next boundary. -/
  | baselineReset (p : Packet)
  /-- CONTACT_POLICY (R207): Command that sets the keeper gate, down and lift frames, maximum contacts and hold limit. -/
  | contactPolicy (p : Packet)
  /-- READ_CONTACTS (R219): Command that returns the CONTACTS payload of the last processed mutual frame. -/
  | readContacts (p : Packet)
  /-- CARRIER_TABLE (R243): Command that writes carrier table entries and optionally names a new current carrier at a boundary. -/
  | carrierTable (p : Packet)
  /-- HOP_POLICY (R240): Command that sets the hop mode, flicker window, margin, hold, hop set, dwell, holdoff and limit. -/
  | hopPolicy (p : Packet)
  /-- NOISE_SURVEY (R245): Deferred command that starts measuring the flicker index of a set of carriers. -/
  | noiseSurvey (p : Packet)
  /-- EMBER_CONFIG (R246): Command that sets the ember scan rate, gangs and thresholds for the next entry to EMBER. -/
  | emberConfig (p : Packet)
  /-- BRIDGE_CONFIG (R264): Command that sets the enable, reference, gain and bias of a set of bridge lanes. -/
  | bridgeConfig (p : Packet)
  /-- EXCITE_SET (R259): Command that sets the excitation mode, chop, blanking and sense bias of a set of groups. -/
  | exciteSet (p : Packet)
  /-- CMWIN_SET (R266): Command that sets the common-mode window thresholds of lanes and sense pairs. -/
  | cmwinSet (p : Packet)
  /-- CHECK_DAC (R275): Command that connects or disconnects the check DAC to a set of lanes in REPLACE or SUM mode. -/
  | checkDac (p : Packet)
  /-- LANE_REINSTATE (R437): Command that reinstates snuffed bridge lanes and groups and clears their histories. -/
  | laneReinstate (p : Packet)
  /-- TRIM_APPLY (R279): Command that reloads the bridge trim DACs from a fresh read of the trim record, or sets them to neutral. -/
  | trimApply (p : Packet)
  /-- TRIM_READ (R277): Command that returns bytes of the factory trim record. -/
  | trimRead (p : Packet)
  /-- CONV_CONFIG (R289): Command that sets the rate, format, start source, delay, burst and interval of a set of lanes. -/
  | convConfig (p : Packet)
  /-- FILTER_SELECT (R288): Command that selects the ROM response and optionally the rate of a set of lanes. -/
  | filterSelect (p : Packet)
  /-- CONV_START (R290): Command that makes the named lanes start converting at a boundary. -/
  | convStart (p : Packet)
  /-- CONV_STOP (R290): Command that makes the named lanes stop converting at a boundary. -/
  | convStop (p : Packet)
  /-- DECIM_SYNC (R294): Command that requests a decimator reset of every converting lane at a boundary. -/
  | decimSync (p : Packet)
  /-- THRESH_SET (R302): Command that sets one threshold of a lane. -/
  | threshSet (p : Packet)
  /-- ONSET_CONFIG (R304): Command that sets the onset detector of a set of lanes. -/
  | onsetConfig (p : Packet)
  /-- TIME_SET (R327): Command that sets, steps, arms a PPS load of, or starts a slew of the lamplighter's time base. -/
  | timeSet (p : Packet)
  /-- TIME_GET (R315): Command that returns the time, time-base state, depth, parent, offset, path, rate and epoch. -/
  | timeGet (p : Packet)
  /-- SERVO_CONFIG (R321): Command that sets the servo shifts, PPS options, lock threshold, PPS width, rate trim and port asymmetries. -/
  | servoConfig (p : Packet)
  /-- TRIGGER_SET (R329): Command that configures and arms one time trigger. -/
  | triggerSet (p : Packet)
  /-- CAPTURE_CONFIG (R330): Command that configures a capture unit and clears its results. -/
  | captureConfig (p : Packet)
  /-- BEACON_CONFIG (R317): Command that sets the beacon interval and beacon ports. -/
  | beaconConfig (p : Packet)
  /-- EPOCH_SET (R23): Command that establishes the epoch schedule with N0 = 0 on the lamplighter. -/
  | epochSet (p : Packet)
  /-- FABRIC_JOIN (R348): Deferred command that joins the fabric or leaves it. -/
  | fabricJoin (p : Packet)
  /-- FABRIC_STATUS (R349): Command that returns the fabric, lamplighter, port and mode-change status. -/
  | fabricStatus (p : Packet)
  /-- ROUTE_READ (R353): Command that returns route table entries. -/
  | routeRead (p : Packet)
  /-- MODE_PREPARE (R361): Deferred command on the lamplighter that sends a fabric-wide mode change to every device for preparation. -/
  | modePrepare (p : Packet)
  /-- MODE_COMMIT (R363): Deferred command on the lamplighter that commits or aborts the prepared mode change. -/
  | modeCommit (p : Packet)
  /-- PORT_CONFIG (R338): Command that sets port modes and polarities, restarts training and reinstates snuffed ports. -/
  | portConfig (p : Packet)
  /-- LAMPLIGHTER_PRIORITY (R349): Command that sets the election priority, pinned address and auto-join. -/
  | lamplighterPriority (p : Packet)
  /-- STREAM_DEFINE (R375): Command that defines or deletes a stream's drain and sources and withdraws its admission. -/
  | streamDefine (p : Packet)
  /-- STREAM_ADMIT (R378): Command that runs the admission checks and grants a share. -/
  | streamAdmit (p : Packet)
  /-- STREAM_START (R380): Command that makes the named streams start at a boundary. -/
  | streamStart (p : Packet)
  /-- STREAM_STOP (R380): Command that makes the named streams stop at a boundary. -/
  | streamStop (p : Packet)
  /-- STREAM_READ (R382): Command that releases records below RELEASE and returns whole records of a drain-2 stream. -/
  | streamRead (p : Packet)
  /-- DRAIN_DECLARE (R383): Command that declares a drain's rate and latency. -/
  | drainDeclare (p : Packet)
  /-- FAULT_READ (R423): Command that returns the fault registers of one block or of all blocks. -/
  | faultRead (p : Packet)
  /-- FAULT_ACK (R426): Command that atomically acknowledges the named raised sources of one block. -/
  | faultAck (p : Packet)
  /-- SEVERITY_SET (R424): Command that sets a source's configured severity and detection enable. -/
  | severitySet (p : Packet)
  /-- THERMAL_CONFIG (R444): Command that sets the taper threshold, hysteresis, warning level and taper enable. -/
  | thermalConfig (p : Packet)
  /-- HEALTH_READ (R438): Command that returns the results of the latest housekeeping round. -/
  | healthRead (p : Packet)
  /-- KEY_SET (R453): Deferred command that installs, replaces or clears a role key. -/
  | keySet (p : Packet)
  /-- JOURNAL_READ (R463): Command that optionally releases journal entries and returns entries with an authenticated head. -/
  | journalRead (p : Packet)
  /-- JOURNAL_POLICY (R462): Deferred command that sets the journal overwrite or refuse policy. -/
  | journalPolicy (p : Packet)
  /-- IMAGE_BEGIN (R467): Command that checks an image header and erases its region in the inactive slot to open a transfer. -/
  | imageBegin (p : Packet)
  /-- IMAGE_DATA (R467): Command that programs the next payload bytes of the open image transfer. -/
  | imageData (p : Packet)
  /-- IMAGE_END (R466): Deferred command that checks the received image, fills the other regions and validates the slot. -/
  | imageEnd (p : Packet)
  /-- IMAGE_ACTIVATE (R468): Deferred command that marks the inactive slot pending, or cancels a pending activation. -/
  | imageActivate (p : Packet)
  /-- DECODE_LOAD (R473): Deferred command that checks, programs and loads a new decode table and control store. -/
  | decodeLoad (p : Packet)
  /-- POWER_TRANSITION_COMPLETE (R122): End of a commanded power transition with its completion reply. -/
  | powerTransitionComplete (us : Nat)
  /-- SAVE_CONFIG_DONE (R142): End of the configuration copy write and read-back, with the completion reply. -/
  | saveConfigDone (r : NvmResult)
  /-- LOAD_CONFIG_DONE (R143): End of the configuration load, with the completion reply. -/
  | loadConfigDone
  /-- CAPTURE_REFERENCE_DONE (R182): End of the 16-frame average: the reference image is stored if stable, and the completion reply is sent. -/
  | captureReferenceDone (r : NvmResult)
  /-- NOISE_SURVEY_DONE (R245): End of the survey, or its 30 s limit, with the flicker results reply. -/
  | noiseSurveyDone
  /-- FABRIC_JOIN_DONE (R348): End of a join at ADDR_VALID or of a leave, or the 1 s timeout, with the completion reply. -/
  | fabricJoinDone
  /-- MODE_PREPARE_DONE (R363): End of collecting acknowledgements, or the 200 ms limit, with ABORT on failure and the completion reply. -/
  | modePrepareDone
  /-- MODE_COMMIT_DONE (R363): End of a commit when all devices report APPLIED or 60 s pass, or end of an abort. -/
  | modeCommitDone
  /-- KEY_SET_DONE (R451): End of the key programming and read-back, which puts the key in use. -/
  | keySetDone (r : NvmResult)
  /-- JOURNAL_POLICY_DONE (R462): End of the policy programming, with the completion reply. -/
  | journalPolicyDone (r : NvmResult)
  /-- IMAGE_END_DONE (R466): End of the digest checks and region fills, which makes the slot valid or leaves it invalid. -/
  | imageEndDone (r : NvmResult)
  /-- IMAGE_ACTIVATE_DONE (R468): End of the programming of the pending activation, with the completion reply. -/
  | imageActivateDone (r : NvmResult)
  /-- DECODE_LOAD_DONE (R473): End of the decode region programming, which loads the decode table and control store in one engine cycle. -/
  | decodeLoadDone (r : NvmResult)
  /-- RELAY_TIMEOUT (R63): Expiry of the entry device's wait for a relayed reply, which queues TIMEOUT. -/
  | relayTimeout (i : Iface) (tag : Byte)
  /-- BROADCAST_SUMMARY (R65): Queuing of the broadcast summary once every device answers or 200 ms pass. -/
  | broadcastSummary (i : Iface) (tag : Byte)
  /-- CMD_MAILBOX_WRITE (R88): Host byte write into the command mailbox, appended to the command buffer. -/
  | cmdMailboxWrite (i : Iface) (b : Byte)
  /-- DOORBELL_SUBMIT (R89): Write of 0x01 to HW_DOORBELL, which submits the buffered packet. -/
  | doorbellSubmit (i : Iface)
  /-- DOORBELL_DISCARD (R90): Write of 0x02 to HW_DOORBELL, which empties the command buffer. -/
  | doorbellDiscard (i : Iface)
  /-- REPLY_MAILBOX_READ (R91): Host byte read of the reply mailbox, which returns the byte at the reply cursor and advances it. -/
  | replyMailboxRead (i : Iface)
  /-- REPLY_POP (R91): Write of 0x01 to HW_RPL_CTRL, which removes the head reply and admits a held reply. -/
  | replyPop (i : Iface)
  /-- REPLY_REWIND (R91): Write of 0x02 to HW_RPL_CTRL, which returns the cursor to the head reply's first byte. -/
  | replyRewind (i : Iface)
  /-- STREAM_PORT_READ (R92): Host byte read of the stream read port, which returns the next record byte. -/
  | streamPortRead (i : Iface)
  /-- STREAM_COMMIT (R93): Write of 0x01 to HW_RD_CTRL, which releases the records read. -/
  | streamCommit (i : Iface)
  /-- STREAM_REWIND (R93): Write of 0x02 to HW_RD_CTRL, which returns the stream cursor to the oldest unreleased record. -/
  | streamRewind (i : Iface)
  /-- ALARM_PORT_READ (R94): Host byte read of the alarm queue port, which removes the entry after its 32nd byte. -/
  | alarmPortRead (i : Iface)
  /-- WAKE_EXIT_REQUEST (R112): Write of 0xA5 to HW_WAKE, which in EMBER or RETAIN starts the exit to DORMANT. -/
  | wakeExitRequest (i : Iface)
  /-- WAKE_RELEASE (R112): Write of 0x5A to HW_WAKE, which releases WAKEn. -/
  | wakeRelease (i : Iface)
  /-- STATUS_FIELD_LATCH (R87): Read of the lowest byte of a multi-byte status field, which latches the whole field. -/
  | statusFieldLatch (i : Iface) (off : Half)
  /-- I2C_ADDRESS_PHASE (R97): START or repeated START followed by an address byte that the two-wire target acknowledges or ignores. -/
  | i2cAddressPhase (addr : BitVec 7) (read : Bool) (onePtr : Bool)
  /-- POINTER_LOAD (R99): Completion of the second pointer byte, which loads the window pointer. -/
  | pointerLoad (lo hi : Byte)
  /-- I2C_WRITE_BYTE (R101): Two-wire data byte applied at its acknowledge clock, advancing the pointer within its page. -/
  | i2cWriteByte (b : Byte)
  /-- I2C_READ_BYTE (R100): Two-wire read byte returned from the pointer, which then advances. -/
  | i2cReadByte (ready : Bool)
  /-- COND_DISCARD (R101): START, repeated START or STOP arriving within a byte, which discards the partial byte. -/
  | condDiscard (stop : Bool)
  /-- STOP_CONDITION (R101): STOP condition that returns the two-wire target to idle. -/
  | stopCondition (onePtr : Bool)
  /-- SCL_TIMEOUT (R103): SCL held low for 25 ms, which resets the two-wire target to idle. -/
  | sclTimeout
  /-- SDA_TIMEOUT (R103): SDA held low for 25 ms, which releases SDA and resets the two-wire target to idle. -/
  | sdaTimeout
  /-- QSPI_WRITE (R107): Quad serial WRITE transaction of window bytes at a pointer. -/
  | qspiWrite (ptr : Half) (data : List Byte)
  /-- QSPI_READ (R107): Quad serial READ transaction of window bytes at a pointer. -/
  | qspiRead (ptr : Half) (n : Nat)
  /-- READ_STATE (R107): Quad serial READ_STATE transaction that repeats HW_STATE. -/
  | readState (n : Nat)
  /-- BULK_READ (R109): Quad serial BULK_READ transaction that streams whole record bytes until CSn rises. -/
  | bulkRead (n : Nat)
  /-- CS_ABORT (R108): CSn rising within a byte, which discards the partial byte. -/
  | csAbort
  /-- BAD_INSTR (R108): Undefined quad serial instruction code, which leaves IO undriven until CSn rises. -/
  | badInstr (code : Byte)
  /-- CSN_EXIT_REQUEST (R110): CSn falling in EMBER or RETAIN, taken as an exit request. -/
  | csnExitRequest
  /-- SYNC_EDGE (R295): Recognised SYNC input edge, which stamps its instant and requests an all-lane decimator reset. -/
  | syncEdge (falling : Bool) (t : Long)
  /-- TRIG_EDGE (R116): Recognised TRIGn edge, fed to conversion start sources and capture units. -/
  | trigEdge (n : Fin 4) (falling : Bool) (t : Long)
  /-- PPSIN_EDGE (R323): Recognised PPSIN edge, which feeds the PPS servo or a pending SET_AT_PPS load. -/
  | ppsinEdge (falling : Bool) (t : Long)
  /-- PPS_LOST (R323): Passing of 2 s without a PPSIN edge, which freezes y and cancels a pending SET_AT_PPS. -/
  | ppsLost
  /-- PPSOUT_PULSE (R324): PPSOUT rising at each whole second of the counter and falling after PPS_WIDTH. -/
  | ppsoutPulse
  /-- TCLK_LOST (R322): Four missing TCLK cycles, which move the TIME PLL to XIN. -/
  | tclkLost
  /-- POR (R128): VDDAON rising through its threshold at power-on, a full reset. -/
  | por
  /-- SUPPLY_RESET (R129): VDDC, VDDA or VDDAON below its monitor threshold for more than 2 µs, a full reset. -/
  | supplyReset (lostAlwaysOn : Bool)
  /-- PIN_RESET (R128): nRESET held low for at least 1 µs, a full reset that ends when nRESET rises. -/
  | pinReset
  /-- RESET_BEGIN (R133): Start of a commanded full or soft reset when the RESET reply is popped, sent or 100 ms pass. -/
  | resetBegin
  /-- FIRMWARE_RESTART (R515): Firmware run again after a soft reset, setting HW_STATE[5] with the shadows kept. -/
  | firmwareRestart
  /-- IMAGE_SELF_CHECK (R469): Start-up loader attempt on a slot, with trial counting, fallback or recovery. -/
  | imageSelfCheck (selfTest : Bool)
  /-- STARTUP_CONFIG_LOAD (R134): Start-up load of the newer valid configuration copy, which sets HW_STATE[5] and lets packets be taken. -/
  | startupConfigLoad
  /-- EMBER_ENTRY (R126): Switch-off of XIN and entry to EMBER or RETAIN once the completion reply is popped or 50 ms pass. -/
  | emberEntry
  /-- EXIT_COMPLETE (R124): End of an exit from EMBER or RETAIN, landing in DORMANT. -/
  | exitComplete
  /-- SAFE_LOG_PROGRAM (R145): NVM controller programming of a SAFE log word at the start or end of a hold. -/
  | safeLogProgram
  /-- THERMAL_SHUTDOWN (R446): Either thermal diode reaching 140 °C, which shuts the device down without firmware. -/
  | thermalShutdown
  /-- THERMAL_RESTART (R446): Both diodes below 120 °C for 1 s, which starts the thermal restart reset. -/
  | thermalRestart
  /-- WDOG_WARN (R414): Watchdog reaching half its timeout, which raises WDOG_WARN. -/
  | wdogWarn
  /-- WATCHDOG_EXPIRY (R414): Watchdog expiry, which begins the WDOG reset. -/
  | watchdogExpiry
  /-- EPOCH_BOUNDARY (R31): Epoch boundary, at which shadows apply, decimators reset, streams and dark intervals change, taper changes and triggers fire. -/
  | epochBoundary
  /-- GRID_FRAME_START (R157): Start of a scheduled grid frame at its offset, on the carrier then current. -/
  | gridFrameStart
  /-- GRID_FRAME_COMPLETE (R157): Completion of a frame's decode, with node, listen and self values and the descriptor in grid state RAM. -/
  | gridFrameComplete (x : FrameInput)
  /-- IDLE_LISTEN_FRAME (R239): Idle listen frame at the candidate carrier in a qualifying idle gap of the epoch. -/
  | idleListenFrame (u : List (Option Int))
  /-- DRIVE_OVERCURRENT (R180): A drive line over 40 mA in 2 consecutive chip slots, which switches its driver off. -/
  | driveOvercurrent (line : Fin 120)
  /-- VTX_LOW (R180): VTX falling below 3.1 V or the programmed swing while the grid runs. -/
  | vtxLow (present : Bool)
  /-- TOUCH_MUTUAL_FRAME (R195): Touch pipeline processing of a mutual frame: signals, baselines, detection, keeper, controls, gestures and records. -/
  | touchMutualFrame (late : Bool)
  /-- TOUCH_SELF_FRAME (R199): Touch pipeline processing of a self frame: self baselines and self-line controls. -/
  | touchSelfFrame (late : Bool)
  /-- EMBER_SCAN (R247): One ember scan of the enabled gangs at the LPO-timed rate, with baseline update and detection. -/
  | emberScan (v : List (Option Int))
  /-- HOUSEKEEPING_ROUND (R438): Housekeeping round every 16 ms: 24 conversions, sensor cross-check, taper level, warnings and supply checks. -/
  | housekeepingRound (conv : List Int) (checkOk : Bool)
  /-- BRIDGE_SAMPLE (R301): Sample instant of a converting lane: word released with flags, thresholds and onset evaluated, word written. -/
  | bridgeSample (r : Fin 16) (x : List SampleInput)
  /-- CONV_INTERVAL_EVENT (R291): INTERVAL start-source event at T0 plus a multiple of PERIOD, selecting a burst. -/
  | convIntervalEvent
  /-- MOD_OVERLOAD (R298): Modulator input beyond ±1.1 × Vref / G, which resets the modulator. -/
  | modOverload (lane : Fin 32) (negative : Bool)
  /-- MOD_UNLOCK (R308): A MOD edge more than 4 ns from its ideal instant. -/
  | modUnlock
  /-- WINDOW_VIOLATION_BEGIN (R268): 32 consecutive violating comparator samples, which begin a window violation dated t_out. -/
  | windowViolationBegin (w : WinItem) (t : Long)
  /-- LEAD_EVENT_CLASSIFY (R269): Classing of a lane violation as a lead event once the sense-pair window has closed. -/
  | leadEventClassify (lane : Fin 32)
  /-- WINDOW_VIOLATION_END (R268): 32 consecutive complying comparator samples, which end a violation dated t_clear. -/
  | windowViolationEnd (w : WinItem) (t : Long)
  /-- TRANSIENT_CLOSE (R271): 100 ms free of violation after t_clear, which closes the event as transient. -/
  | transientClose (w : WinItem)
  /-- PERMANENT_DECISION (R271): A violation lasting 1 s, which makes the event permanent. -/
  | permanentDecision (w : WinItem)
  /-- EXC_OVERCURRENT (R258): Excitation current above 80 mA for 2 µs, which opens both force switches. -/
  | excOvercurrent (g : Fin 8)
  /-- VEX_LOW (R258): VEXg below 2.4 V for 32 fmod cycles. -/
  | vexLow (g : Fin 8) (present : Bool)
  /-- BRDG_CHANGE_APPLY (R265): Application of a waiting BRDG change at a group's output-sample boundary. -/
  | brdgChangeApply (g : Fin 8)
  /-- BRDG_SNUFF_APPLY (R273): Snuff of a lane or group taking effect at the next output-sample boundary. -/
  | brdgSnuffApply (w : WinItem)
  /-- TIME_TRIGGER_FIRE (R329): Firing of an armed time trigger at its instant. -/
  | timeTriggerFire (u : Fin 16)
  /-- SLEW_END (R327): End of an ADJUST_SLEW once the counter has gained VALUE. -/
  | slewEnd
  /-- SYNC_FRAME_SEND (R317): Sending of a beacon SYNC on the beacon ports at each multiple of Tb. -/
  | syncFrameSend
  /-- SYNC_FRAME_RECEIVE (R319): Receipt and check of a SYNC from the parent, taking t2 and the schedule. -/
  | syncFrameReceive (p : Fin 4) (f : SyncFrame) (t2 : Stamp)
  /-- DELAY_REQ_SEND (R319): Sending of DELAY_REQ on the parent port at t2 + Tb / 4. -/
  | delayReqSend (t3 : Stamp)
  /-- DELAY_REQ_RECEIVE (R319): Upstream receipt of DELAY_REQ, which sends a DELAY_RESP. -/
  | delayReqReceive (p : Fin 4) (seq : Half) (t4 : Stamp)
  /-- DELAY_RESP_RECEIVE (R321): Receipt of DELAY_RESP, which computes d and θ and updates the servo, or steps or discards. -/
  | delayRespReceive (p : Fin 4) (seq : Half) (t4 : Stamp)
  /-- DELAY_RESP_TIMEOUT (R320): No DELAY_RESP within Tb / 2 of t3, which discards the exchange. -/
  | delayRespTimeout
  /-- BEACON_MISSED (R325): Third consecutive missed beacon, which puts the follower in HOLDOVER. -/
  | beaconMissed
  /-- PORT_TRAINED (R338): Receipt of 64 matching training sets with peer receipt, which makes a port TRAINED. -/
  | portTrained (p : Fin 4) (uid : Long)
  /-- HELLO_SEND (R339): Sending of HELLO every 10 ms on each trained or up port. -/
  | helloSend
  /-- HELLO_RECEIVE (R339): Receipt of a valid HELLO, which makes a trained port UP. -/
  | helloReceive (p : Fin 4) (h : Hello)
  /-- LINK_DOWN (R339): Code errors, missing commas or 40 ms without HELLO, which return a port to TRAINING. -/
  | linkDown (p : Fin 4) (codeErrors : Nat)
  /-- CREDIT_RECEIVE (R345): Receipt of a CREDIT character, which returns buffer credit for a class. -/
  | creditReceive (p : Fin 4) (cls : Fin 4) (n : Byte)
  /-- FRAME_FORWARD (R344): Forwarding of a received frame not addressed to the device, with HOPS decreased. -/
  | frameForward (p : Fin 4) (f : Frame)
  /-- TOPO_ORIGINATE (R348): Origination of this device's TOPO record on joining, on change and every 1 s. -/
  | topoOriginate
  /-- TOPO_RECEIVE (R348): Receipt of a TOPO record, stored and flooded if newer. -/
  | topoReceive (p : Fin 4) (r : Topo)
  /-- TOPO_EXPIRY (R348): Removal of a TOPO record not refreshed for 4 s. -/
  | topoExpiry (uid : Long)
  /-- DATABASE_SETTLED (R349): Database unchanged for 50 ms, which elects the lamplighter and computes routes and parent. -/
  | databaseSettled
  /-- ASSIGN_RECEIVE (R351): Receipt of an ASSIGN record, which assigns fabric addresses. -/
  | assignReceive (p : Fin 4) (a : Assign)
  /-- CMD_FRAME_RECEIVE (R356): Receipt of a CMD segment, reassembled into a command packet. -/
  | cmdFrameReceive (p : Fin 4) (src dest : Byte) (g : Segment)
  /-- RPL_FRAME_RECEIVE (R64): Receipt of a RPL segment, which places a relayed reply in the entry interface's queue. -/
  | rplFrameReceive (p : Fin 4) (src : Byte) (g : Segment)
  /-- REASSEMBLY_TIMEOUT (R356): Discard of a packet still incomplete 10 ms after its last segment. -/
  | reassemblyTimeout (isReply : Bool) (src : Byte) (i : Iface) (tag : Byte)
  /-- STREAM_SEGMENT_SEND (R357): Sending of a STREAM segment of record bytes to a fabric drain. -/
  | streamSegmentSend (k : Fin 16)
  /-- STREAM_FRAME_RECEIVE (R357): Receipt of a STREAM segment into the receive share, with a STREAM_ACK as due. -/
  | streamFrameReceive (p : Fin 4) (src : Byte) (g : StreamSeg)
  /-- STREAM_ACK_RECEIVE (R357): Receipt of STREAM_ACK, which releases acknowledged bytes at the source. -/
  | streamAckReceive (p : Fin 4) (src : Byte) (k : Fin 16) (seq : Half)
  /-- STREAM_RESEND_TIMEOUT (R357): 2 ms without acknowledgement progress, which resends from the first unacknowledged segment. -/
  | streamResendTimeout (k : Fin 16)
  /-- ALARM_FRAME_RECEIVE (R358): Receipt of an ALARM frame by the lamplighter, which queues the entry and sends ALARM_ACK. -/
  | alarmFrameReceive (p : Fin 4) (src : Byte) (a : AlarmMsg)
  /-- ALARM_ACK_RECEIVE (R358): Receipt of ALARM_ACK, which drops the alarm from the pending set. -/
  | alarmAckReceive (p : Fin 4) (src : Byte) (aseq : Half)
  /-- ALARM_RESEND (R358): Resend every 1 ms of each unacknowledged alarm to the current lamplighter. -/
  | alarmResend
  /-- ADMISSION_REQUEST_RECEIVE (R378): Receipt of a class-2 admission request, which checks and reserves egress capacity. -/
  | admissionRequestReceive (p : Fin 4) (q : AdmissionReq)
  /-- MODE_PREPARE_RECEIVE (R362): Receipt of a mode change, which is checked, held as prepared and acknowledged. -/
  | modePrepareReceive (p : Fin 4) (src : Byte) (c : ModeChange)
  /-- MODE_ACK_RECEIVE (R363): Receipt of a prepare or commit acknowledgement by the lamplighter. -/
  | modeAckReceive (src : Byte) (a : ModeAck)
  /-- MODE_COMMIT_RECEIVE (R365): Receipt of COMMIT or an equivalent commit, which arms application at the target or a lagging boundary. -/
  | modeCommitReceive (how : CommitKind)
  /-- MODE_ABORT_RECEIVE (R366): Receipt of ABORT, which discards an unapplied change and clears MODE_LAG. -/
  | modeAbortReceive (src : Byte) (id : Half)
  /-- MODE_APPLIED_RECEIVE (R364): Receipt of an APPLIED report by the lamplighter. -/
  | modeAppliedReceive (src : Byte) (id : Half) (epoch : Word)
  /-- MODE_COMMIT_RESEND (R363): Resend every 10 ms of COMMIT to devices without acknowledgement, and ABORT after 60 s. -/
  | modeCommitResend
  /-- PREPARED_CHANGE_DISCARD (R366): Discard of an uncommitted change 2 s after the target or a lamplighter change. -/
  | preparedChangeDiscard
  /-- DRAIN_LATE (R383): Oldest unreleased record readable longer than LATENCY. -/
  | drainLate (k : Fin 16)
  /-- REPLY_STALL (R57): A reply queue full for 1 s. -/
  | replyStall (i : Iface)
  /-- SESSION_IDLE_TIMEOUT (R68): 600 s without a command in a slot, which ends the session. -/
  | sessionIdleTimeout (k : Fin 6)
  /-- CHALLENGE_EXPIRY (R69): Expiry of a pending challenge 10 s after SESSION_OPEN. -/
  | challengeExpiry (k : Fin 6)
  /-- LOCKOUT_END (R70): End of a slot's 60 s authentication lockout. -/
  | lockoutEnd (k : Fin 6)
  /-- STATE_PARITY (R427): A parity error detected in a block's state, raised and reacted to by hardware. -/
  | stateParity (b : Fin 14) (src : Fin 2)
  /-- BLOCK_RESET_RESTART (R434): Close of the 20 µs reset shadow and restart of the reset block. -/
  | blockResetRestart (b : Fin 14)
  /-- JOURNAL_ENTRY_PROGRAM (R140): Programming of a raised journal entry into NVM with its chain value. -/
  | journalEntryProgram
  /-- JOURNAL_SECTOR_ERASE (R460): Background erase of the next journal sector. -/
  | journalSectorErase (ok : Bool)
  /-- SNUFF_LIST_WRITE (R436): Rewrite and read-back of the older snuff list copy after a snuff or reinstatement. -/
  | snuffListWrite (r : NvmResult)
  /-- KEY_AREA_UPDATE (R456): Rewrite and read-back of the older keys-and-counters copy. -/
  | keyAreaUpdate (r : NvmResult)
  /-- FAULT_STAT_ACK (R426): W1C write of FLT_STAT bits, each an acknowledgement checked against its raised severity. -/
  | faultStatAck (w : Writer) (b : Fin 14) (mask : Word)
  /-- HKP_REINSTATE (R437): Keyed write of HKP_REINSTATE, which reinstates a snuffed grid line or temperature sensor. -/
  | hkpReinstate (w : Writer) (v : Word)
  /-- SEC_CFG_LOCK_WRITE (R457): MAKER write of SEC_CFG_LOCK, in force at once and programmed within 20 ms. -/
  | secCfgLockWrite (w : Writer) (v : Word)
  /-- TRIGGER_CFG_WRITE (R329): Write of TIME_TRGu_CFG, which arms or disarms the trigger. -/
  | triggerCfgWrite (w : Writer) (u : Fin 16) (v : Word)
  /-- TIME_NOW_LATCH (R314): Read of TIME_NOW_LO, which latches the high word and fraction. -/
  | timeNowLatch
  /-- REGISTER_WRITE (R514): Write to a register without a row of its own, checked as a whole word. -/
  | registerWrite (w : Writer) (a : Word) (v : Word)
  /-- APERTURE_BASE_WRITE (R396): Engine write of APn_B2, which applies aperture n's base and discards its latch and buffer. -/
  | apertureBaseWrite (n : Fin 4) (v : Byte)
  /-- WDKICK (R414): Engine write of WDKICK, where 0x5A then 0xA5 restarts the watchdog. -/
  | wdkick (v : Byte)
  /-- INTERRUPT_ENTRY (R411): Engine taking a pending enabled interrupt line, pushing state and vectoring. -/
  | interruptEntry
  /-- WAIT_RESUME (R413): End of WAIT when an enabled line becomes pending. -/
  | waitResume
  /-- MUL_DELIVERY (R409): Delivery of a multiply result to MULH:MULL two cycles after issue. -/
  | mulDelivery
  /-- DIV_DELIVERY (R409): Delivery of a divide result to QUO and REM, with V and DZ, ten cycles after issue. -/
  | divDelivery
  /-- EXT_OVERRUN (R419): Exhaustion of a hook's cycle budget, which ends the hook. -/
  | extOverrun
  /-- LPO_TICK (R411): 1 ms LPO tick that sets engine interrupt line 17. -/
  | lpoTick
  /-- ADD (R401): Engine instruction adding Ws to Wd. -/
  | add (d s : Fin 16)
  /-- ADC (R401): Engine instruction adding Ws and C to Wd. -/
  | adc (d s : Fin 16)
  /-- SUB (R401): Engine instruction subtracting Ws from Wd. -/
  | sub (d s : Fin 16)
  /-- SBC (R401): Engine instruction subtracting Ws and C from Wd. -/
  | sbc (d s : Fin 16)
  /-- AND (R401): Engine instruction forming Wd AND Ws. -/
  | and (d s : Fin 16)
  /-- OR (R401): Engine instruction forming Wd OR Ws. -/
  | or (d s : Fin 16)
  /-- XOR (R401): Engine instruction forming Wd XOR Ws. -/
  | xor (d s : Fin 16)
  /-- MOV (R401): Engine instruction copying Ws to Wd. -/
  | mov (d s : Fin 16)
  /-- CMP (R401): Engine instruction comparing Wd with Ws without writing. -/
  | cmp (d s : Fin 16)
  /-- TST (R401): Engine instruction testing Wd AND Ws without writing. -/
  | tst (d s : Fin 16)
  /-- MULU (R409): Engine instruction issuing an unsigned 8 × 8 multiply. -/
  | mulu (d s : Fin 16)
  /-- MULS (R409): Engine instruction issuing a signed 8 × 8 multiply. -/
  | muls (d s : Fin 16)
  /-- DIVU (R409): Engine instruction issuing an unsigned 16 ÷ 8 divide. -/
  | divu (pd : Fin 8) (s : Fin 16)
  /-- DIVS (R409): Engine instruction issuing a signed 16 ÷ 8 divide. -/
  | divs (pd : Fin 8) (s : Fin 16)
  /-- SHL (R410): Engine instruction shifting Wd left by an immediate count. -/
  | shl (d count : Fin 16)
  /-- SHR (R410): Engine instruction shifting Wd right logically by an immediate count. -/
  | shr (d count : Fin 16)
  /-- SAR (R410): Engine instruction shifting Wd right arithmetically by an immediate count. -/
  | sar (d count : Fin 16)
  /-- ROL (R410): Engine instruction rotating Wd left. -/
  | rol (d count : Fin 16)
  /-- ROR (R410): Engine instruction rotating Wd right. -/
  | ror (d count : Fin 16)
  /-- SHLR (R410): Engine instruction shifting Wd left by a register count. -/
  | shlr (d s : Fin 16)
  /-- SHRR (R410): Engine instruction shifting Wd right logically by a register count. -/
  | shrr (d s : Fin 16)
  /-- SARR (R410): Engine instruction shifting Wd right arithmetically by a register count. -/
  | sarr (d s : Fin 16)
  /-- NEG (R410): Engine instruction negating Wd. -/
  | neg (d : Fin 16)
  /-- NOT (R401): Engine instruction complementing Wd. -/
  | not (d : Fin 16)
  /-- INC (R410): Engine instruction incrementing Wd. -/
  | inc (d : Fin 16)
  /-- DEC (R410): Engine instruction decrementing Wd. -/
  | dec (d : Fin 16)
  /-- SWAPN (R401): Engine instruction swapping the nibbles of Wd. -/
  | swapn (d : Fin 16)
  /-- CLR (R401): Engine instruction clearing Wd. -/
  | clr (d : Fin 16)
  /-- MOVI (R401): Engine instruction loading an 8-bit immediate into Wd. -/
  | movi (d : Fin 16) (imm : Byte)
  /-- ADDI (R401): Engine instruction adding an 8-bit immediate to Wd. -/
  | addi (d : Fin 16) (imm : Byte)
  /-- CMPI (R401): Engine instruction comparing Wd with an 8-bit immediate. -/
  | cmpi (d : Fin 16) (imm : Byte)
  /-- ANDI (R401): Engine instruction ANDing Wd with an 8-bit immediate. -/
  | andi (d : Fin 16) (imm : Byte)
  /-- LD (R397): Engine instruction loading a byte from Pp + disp, optionally post-incrementing. -/
  | ld (d : Fin 16) (p : Fin 8) (inc : Bool) (disp : Fin 16)
  /-- ST (R397): Engine instruction storing a byte at Pp + disp, optionally post-incrementing. -/
  | st (s : Fin 16) (p : Fin 8) (inc : Bool) (disp : Fin 16)
  /-- BRA (R400): Engine instruction branching by a signed 12-bit word offset. -/
  | bra (rel : BitVec 12)
  /-- CALL (R400): Engine instruction calling by a signed 12-bit word offset. -/
  | call (rel : BitVec 12)
  /-- SKIP (R402): Engine instruction skipping the next instruction when a flag condition holds. -/
  | skip (cond : Fin 16)
  /-- SKBC (R402): Engine instruction skipping the next instruction when a bit of Wd is 0. -/
  | skbc (d : Fin 16) (b : Fin 8)
  /-- SKBS (R402): Engine instruction skipping the next instruction when a bit of Wd is 1. -/
  | skbs (d : Fin 16) (b : Fin 8)
  /-- BCLR (R400): Engine instruction clearing a bit of Wd. -/
  | bclr (d : Fin 16) (b : Fin 8)
  /-- BSET (R400): Engine instruction setting a bit of Wd. -/
  | bset (d : Fin 16) (b : Fin 8)
  /-- CUSTOMER_OPCODE (R416): Engine major opcode 0xF, running a decode-table entry's microcode. -/
  | customerOpcode (entry : Fin 16) (operand : Byte)
  /-- SYS_NOP (R400): Engine instruction doing nothing for one cycle. -/
  | sysNop
  /-- RET (R400): Engine instruction returning from a call. -/
  | ret
  /-- RETI (R411): Engine instruction restoring REPCNT, FLAGS and the return address after an interrupt. -/
  | reti
  /-- EI (R411): Engine instruction enabling interrupts. -/
  | ei
  /-- DI (R411): Engine instruction disabling interrupts. -/
  | di
  /-- WAIT (R413): Engine instruction that stops fetching until an enabled line is pending. -/
  | wait
  /-- JMPI (R400): Engine instruction jumping to the address in Pp. -/
  | jmpi (p : Fin 8)
  /-- CALLI (R400): Engine instruction calling the address in Pp. -/
  | calli (p : Fin 8)
  /-- MFS (R393): Engine instruction reading a special register into Wd. -/
  | mfs (d sr : Fin 16)
  /-- MTS (R393): Engine instruction writing Ws into a special register. -/
  | mts (s sr : Fin 16)
  /-- JMP (R400): Engine instruction jumping to a 16-bit absolute address. -/
  | jmp (target : Half)
  /-- CALL_ABS (R400): Engine instruction calling a 16-bit absolute address. -/
  | callAbs (target : Half)
  /-- PUSH (R399): Engine instruction pushing Ws onto the stack. -/
  | push (s : Fin 16)
  /-- POP (R399): Engine instruction popping the stack into Wd. -/
  | pop (d : Fin 16)
  /-- PADD (R400): Engine instruction adding a signed 8-bit immediate to Pp. -/
  | padd (p : Fin 8) (imm : Byte)
  /-- LDP (R400): Engine instruction loading a 16-bit immediate into Pp. -/
  | ldp (p : Fin 8) (imm : Half)
  /-- PUSHP (R399): Engine instruction pushing Pp. -/
  | pushp (p : Fin 8)
  /-- POPP (R399): Engine instruction popping into Pp. -/
  | popp (p : Fin 8)
  /-- MOVP (R400): Engine instruction copying Pq to Pp. -/
  | movp (p q : Fin 8)
  /-- PCMP (R400): Engine instruction comparing Pp with Pq as 16-bit values. -/
  | pcmp (p q : Fin 8)
  /-- REP_IMM (R407): Engine prefix repeating the next instruction an immediate number of times. -/
  | repImm (n : Byte)
  /-- REP_REG (R407): Engine prefix repeating the next instruction Ws times. -/
  | repReg (s : Fin 16)
  /-- LOOP_IMM (R403): Engine instruction starting a hardware loop with an immediate count. -/
  | loopImm (n : Byte) (len : Half)
  /-- LOOP_REG (R403): Engine instruction starting a hardware loop with a count from Pp. -/
  | loopReg (p : Fin 8) (len : Half)
  /-- LBREAK (R405): Engine instruction ending the innermost hardware loop. -/
  | lbreak
  /-- PLL_UNLOCK (R427): The CORE or TIME PLL out of lock for 1 µs, which raises SYS source PLL_UNLOCK and resets the SYS block by default. -/
  | pllUnlock (core : Bool)
  /-- SUPPLY_BACK_IN_RANGE (R129): Return of VDDC, VDDA or VDDAON within its limits, which ends a SUPPLY reset and starts the start-up sequence at t0. -/
  | supplyBackInRange
  /-- UNKNOWN_OPCODE (R51): Submitted command packet with an undefined opcode, or one that fails its length or CRC check, answered with UNKNOWN_OPCODE, BAD_LENGTH or BAD_CRC. -/
  | unknownOpcode (o : Origin) (bytes : List Byte)
  /-- ILLEGAL_OPCODE (R400): Engine word with a reserved sub-code or a non-zero must-be-zero field, executed as a 1-cycle no-operation that raises ILLEGAL_OPCODE. -/
  | illegalOpcode (w : Half)
  /-- PORT_MISMATCH (R338): Receipt of training ordered sets whose mode differs from the port's mode, which sets MISMATCH and raises PORT_MISMATCH while training goes on. -/
  | portMismatch (p : Fin 4)
  /-- FRAME_DISCARD (R342): Receipt of a frame that fails its CRC, length or class check, has a reserved TYPE or ends in ABORT, which is discarded and counted. -/
  | frameDiscard (p : Fin 4) (why : DiscardCause)
  /-- ADMISSION_REPLY_RECEIVE (R378): Receipt of the grant or refusal of a fabric admission request, or of a reservation release, from the devices on the route and from the destination. -/
  | admissionReplyReceive (src : Byte) (a : AdmissionReply)
  /-- TMODE_CHANGE (R477): Change of the TMODE ball, which while the device is in reset holds it in reset when high and lets it leave reset when low. -/
  | tmodeChange (high : Bool)
  deriving DecidableEq, Repr

end Sys2Proof
end

