-- ==== Sys2Proof/Decode.lean ====
section
/-! DEFINITION. The command a word of the opcode table spells. No row of the table gives bits: the commands are packets,
bus accesses and events, and a packet's bytes are longer than any word the table numbers. -/
namespace Sys2Proof

/-- The command a table word spells: none, since no row of the opcode table gives bits. -/
def decodeTableWord (_nbits _w : Nat) : Option Instr := none

end Sys2Proof
end

