-- ==== Sys2Proof/Machine/Bits.lean ====
section
/-! DEFINITION. Bit fields, byte order, saturation, check codes and the small list operations the rules use. -/
namespace Sys2Proof.Machine

open Sys2Proof

/-- The field of `n` bits of a word from bit `lo` up, as a number. -/
def fld (w : Word) (lo n : Nat) : Nat := (w.toNat >>> lo) % 2 ^ n

/-- Bit `k` of a word. -/
def bitOf (w : Word) (k : Nat) : Bool := w.getLsbD k

/-- The word whose `n` bits from bit `lo` up are those of `v`, the other bits those of `w`. -/
def setFld (w : Word) (lo n v : Nat) : Word :=
  let m : Word := (BitVec.ofNat 32 (2 ^ n - 1)) <<< lo
  (w &&& ~~~m) ||| ((BitVec.ofNat 32 (v % 2 ^ n)) <<< lo)

/-- A number placed at bit `lo` of a word of zeros, taken modulo `2 ^ n`. -/
def put (lo n v : Nat) : Nat := (v % 2 ^ n) * 2 ^ lo

/-- A bool as 0 or 1. -/
def b1 (b : Bool) : Nat := if b then 1 else 0

/-- The signed reading of an `n`-bit number. -/
def sx (n v : Nat) : Int := if v % 2 ^ n < 2 ^ (n - 1) then (v % 2 ^ n : Nat) else (v % 2 ^ n : Nat) - 2 ^ n

/-- The `n`-bit two's complement coding of an integer. -/
def ux (n : Nat) (v : Int) : Nat := (v % (2 ^ n : Nat)).toNat

/-- An integer clamped to `lo … hi`. -/
def clampI (lo hi v : Int) : Int := if v < lo then lo else if hi < v then hi else v

/-- `n` bytes of a number, least significant first (R6). -/
def le : Nat → Nat → List Byte
  | 0, _ => []
  | n + 1, v => BitVec.ofNat 8 v :: le n (v / 256)

/-- `n` bytes of an integer in two's complement, least significant first. -/
def leI (n : Nat) (v : Int) : List Byte := le n (ux (8 * n) v)

/-- The number whose bytes are given, least significant first. -/
def unle : List Byte → Nat
  | [] => 0
  | b :: bs => b.toNat + 256 * unle bs

/-- The number whose bytes are given, most significant first. -/
def unbe (l : List Byte) : Nat := unle l.reverse

/-- `n` bytes of a number, most significant first. -/
def be (n v : Nat) : List Byte := (le n v).reverse

/-- Byte `i` of a list; 0 past its end. -/
def u8 (l : List Byte) (i : Nat) : Nat := (l.getD i 0).toNat
/-- The `n`-byte little-endian number at offset `i`. -/
def uN (n : Nat) (l : List Byte) (i : Nat) : Nat := unle ((l.drop i).take n)
/-- The 16-bit number at offset `i`. -/
def u16 (l : List Byte) (i : Nat) : Nat := uN 2 l i
/-- The 32-bit number at offset `i`. -/
def u32 (l : List Byte) (i : Nat) : Nat := uN 4 l i
/-- The 64-bit number at offset `i`. -/
def u64 (l : List Byte) (i : Nat) : Nat := uN 8 l i
/-- The word at offset `i`. -/
def w32 (l : List Byte) (i : Nat) : Word := BitVec.ofNat 32 (u32 l i)
/-- All `n` bytes from offset `i` are 0x00. -/
def zeros (l : List Byte) (i n : Nat) : Bool := ((l.drop i).take n).all (· == 0)

/-- A 16-bit count raised by `k`, saturating. -/
def sat16 (c : Half) (k : Nat) : Half := BitVec.ofNat 16 (min 0xFFFF (c.toNat + k))

/-- Epoch `a` is later than epoch `b` (R24). -/
def laterW (a b : Word) : Bool :=
  let d := (a - b).toNat
  decide (1 ≤ d ∧ d < 2 ^ 31)

/-- Ceiling of a quotient. -/
def ceilDiv (a b : Nat) : Nat := (a + b - 1) / b

/-- Division rounding half away from zero. -/
def roundDiv (a : Int) (b : Nat) : Int :=
  if a < 0 then -(((2 * (-a) + b) / (2 * b) : Int)) else (2 * a + b) / (2 * b)

/-- Steps of the integer square root: `b` runs down the bits of the result. -/
def isqrtStep (n : Nat) : Nat → Nat → Nat
  | 0, r => r
  | k + 1, r => let c := r + 2 ^ k; if c * c ≤ n then isqrtStep n k c else isqrtStep n k r

/-- Floor of the square root of a number below `2 ^ 128`. -/
def isqrt (n : Nat) : Nat := isqrtStep n 64 0

/-- A list of integers in rising order, by insertion. -/
def insInt (x : Int) : List Int → List Int
  | [] => [x]
  | y :: ys => if x ≤ y then x :: y :: ys else y :: insInt x ys
/-- Insertion sort. -/
def sortInt (l : List Int) : List Int := l.foldl (fun a x => insInt x a) []

/-- The sum of a list. -/
def sumInt (l : List Int) : Int := l.foldl (· + ·) 0
/-- The sum of a list. -/
def sumNat (l : List Nat) : Nat := l.foldl (· + ·) 0
/-- The largest of a list, 0 when it is empty. -/
def maxNat (l : List Nat) : Nat := l.foldl max 0

/-- The element at place `i` of a vector changed by `f`. -/
def vmod {α : Type} {n : Nat} (v : Vector α n) (i : Fin n) (f : α → α) : Vector α n := v.set i.1 (f v[i]) i.2
/-- The element at place `i` of a vector changed by `f`, when there is one. -/
def vmodN {α : Type} {n : Nat} (v : Vector α n) (i : Nat) (f : α → α) : Vector α n :=
  if h : i < n then vmod v ⟨i, h⟩ f else v
/-- The element at place `i` of a vector, `d` when there is none. -/
def vget {α : Type} {n : Nat} (v : Vector α n) (i : Nat) (d : α) : α := if h : i < n then v[i] else d

/-- The value a list of pairs gives a key. -/
def look {α β : Type} [BEq α] (k : α) : List (α × β) → Option β
  | [] => none
  | (a, b) :: l => if a == k then some b else look k l
/-- A list of pairs with the value of a key replaced or added at the end. -/
def bind1 {α β : Type} [BEq α] (k : α) (v : β) : List (α × β) → List (α × β)
  | [] => [(k, v)]
  | (a, b) :: l => if a == k then (a, v) :: l else (a, b) :: bind1 k v l

/-- One byte into the CRC-16/CCITT-FALSE register (R50). -/
def crc16Bit : Nat → Half → Half
  | 0, c => c
  | n + 1, c => crc16Bit n (if c.getLsbD 15 then (c <<< 1) ^^^ 0x1021 else c <<< 1)
/-- CRC-16/CCITT-FALSE of a list of bytes (R50). -/
def crc16 (l : List Byte) : Half :=
  l.foldl (fun (c : Half) b => crc16Bit 8 (c ^^^ ((BitVec.setWidth 16 b) <<< (8 : Nat)))) (0xFFFF : Half)

/-- One byte into the CRC-32 register (IEEE 802.3, reflected). -/
def crc32Bit : Nat → Word → Word
  | 0, c => c
  | n + 1, c => crc32Bit n (if c.getLsbD 0 then (c >>> 1) ^^^ 0xEDB88320 else c >>> 1)
/-- CRC-32 (IEEE 802.3) of a list of bytes. -/
def crc32 (l : List Byte) : Word :=
  ~~~ (l.foldl (fun (c : Word) b => crc32Bit 8 (c ^^^ (BitVec.setWidth 32 b))) (0xFFFFFFFF : Word))

/-- A list made up to `n` elements with `x`, or cut to them. -/
def padTo {α : Type} (n : Nat) (x : α) (l : List α) : List α := (l ++ List.replicate (n - l.length) x).take n

/-- The bits of a mask below `n`, as the places at which it is 1. -/
def maskBits (n m : Nat) : List Nat := (List.range n).filter (fun i => m.testBit i)

/-- The number of ones of a mask below bit `n`. -/
def ones (n m : Nat) : Nat := (maskBits n m).length

end Sys2Proof.Machine
end

