-- ==== Sys2Proof/Machine/Crypto.lean ====
section
/-! DEFINITION. SHA-256, HMAC-SHA-256 and ECDSA verification over P-256 (FIPS 180-4, 198-1 and 186-4, which R449,
R459 and R464 name), as functions of bytes that Lean can evaluate. -/
namespace Sys2Proof.Machine

open Sys2Proof

/-- The round constants of SHA-256, first half. -/
def shaKLo : List Word :=
  [0x428A2F98, 0x71374491, 0xB5C0FBCF, 0xE9B5DBA5, 0x3956C25B, 0x59F111F1, 0x923F82A4, 0xAB1C5ED5,
   0xD807AA98, 0x12835B01, 0x243185BE, 0x550C7DC3, 0x72BE5D74, 0x80DEB1FE, 0x9BDC06A7, 0xC19BF174,
   0xE49B69C1, 0xEFBE4786, 0x0FC19DC6, 0x240CA1CC, 0x2DE92C6F, 0x4A7484AA, 0x5CB0A9DC, 0x76F988DA,
   0x983E5152, 0xA831C66D, 0xB00327C8, 0xBF597FC7, 0xC6E00BF3, 0xD5A79147, 0x06CA6351, 0x14292967]
/-- The round constants of SHA-256, second half. -/
def shaKHi : List Word :=
  [0x27B70A85, 0x2E1B2138, 0x4D2C6DFC, 0x53380D13, 0x650A7354, 0x766A0ABB, 0x81C2C92E, 0x92722C85,
   0xA2BFE8A1, 0xA81A664B, 0xC24B8B70, 0xC76C51A3, 0xD192E819, 0xD6990624, 0xF40E3585, 0x106AA070,
   0x19A4C116, 0x1E376C08, 0x2748774C, 0x34B0BCB5, 0x391C0CB3, 0x4ED8AA4A, 0x5B9CCA4F, 0x682E6FF3,
   0x748F82EE, 0x78A5636F, 0x84C87814, 0x8CC70208, 0x90BEFFFA, 0xA4506CEB, 0xBEF9A3F7, 0xC67178F2]
/-- The initial hash value of SHA-256. -/
def shaInit : List Word :=
  [0x6A09E667, 0xBB67AE85, 0x3C6EF372, 0xA54FF53A, 0x510E527F, 0x9B05688C, 0x1F83D9AB, 0x5BE0CD19]

/-- The next word of the message schedule, from the last sixteen, newest first. -/
def shaNext (w : List Word) : Word :=
  let g := fun i => w.getD i (0 : Word)
  let s0 := (g 14).rotateRight 7 ^^^ (g 14).rotateRight 18 ^^^ ((g 14) >>> (3 : Nat))
  let s1 := (g 1).rotateRight 17 ^^^ (g 1).rotateRight 19 ^^^ ((g 1) >>> (10 : Nat))
  g 15 + s0 + g 6 + s1

/-- The message schedule, newest word first: `n` words are added. -/
def shaSched : Nat → List Word → List Word
  | 0, w => w
  | n + 1, w => shaSched n (shaNext w :: w)

/-- The eight working variables. -/
structure ShaVars where
  a : Word
  b : Word
  c : Word
  d : Word
  e : Word
  f : Word
  g : Word
  h : Word
  deriving DecidableEq, Repr

/-- One round. -/
def shaRound (v : ShaVars) (kw : Word × Word) : ShaVars :=
  let t1 := v.h + (v.e.rotateRight 6 ^^^ v.e.rotateRight 11 ^^^ v.e.rotateRight 25)
    + ((v.e &&& v.f) ^^^ (~~~v.e &&& v.g)) + kw.1 + kw.2
  let t2 := (v.a.rotateRight 2 ^^^ v.a.rotateRight 13 ^^^ v.a.rotateRight 22)
    + ((v.a &&& v.b) ^^^ (v.a &&& v.c) ^^^ (v.b &&& v.c))
  ⟨t1 + t2, v.a, v.b, v.c, v.d + t1, v.e, v.f, v.g⟩

/-- The big-endian words of a block. -/
def beWords : Nat → List Byte → List Word
  | 0, _ => []
  | n + 1, l => BitVec.ofNat 32 (unbe (l.take 4)) :: beWords n (l.drop 4)

/-- One block. -/
def shaBlock (h : ShaVars) (blk : List Byte) : ShaVars :=
  let ws := (shaSched 48 (beWords 16 blk).reverse).reverse
  let v := ((shaKLo ++ shaKHi).zip ws).foldl shaRound h
  ⟨h.a + v.a, h.b + v.b, h.c + v.c, h.d + v.d, h.e + v.e, h.f + v.f, h.g + v.g, h.h + v.h⟩

/-- The blocks of a padded message. -/
def shaBlocks : Nat → ShaVars → List Byte → ShaVars
  | 0, h, _ => h
  | n + 1, h, l => shaBlocks n (shaBlock h (l.take 64)) (l.drop 64)

/-- SHA-256 of a list of bytes: 32 bytes. -/
def sha256 (m : List Byte) : List Byte :=
  let z := (55 + 64 - m.length % 64) % 64
  let p := m ++ [0x80] ++ List.replicate z 0 ++ be 8 (8 * m.length)
  let i := fun k => shaInit.getD k (0 : Word)
  let v := shaBlocks (p.length / 64) ⟨i 0, i 1, i 2, i 3, i 4, i 5, i 6, i 7⟩ p
  [v.a, v.b, v.c, v.d, v.e, v.f, v.g, v.h].flatMap (fun w => be 4 w.toNat)

/-- HMAC-SHA-256 under a key of at most 64 bytes. -/
def hmac (k m : List Byte) : List Byte :=
  let kp := padTo 64 0 k
  sha256 (kp.map (· ^^^ 0x5C) ++ sha256 (kp.map (· ^^^ 0x36) ++ m))

/-- The prime of P-256. -/
def p256p : Nat := 0xFFFFFFFF00000001000000000000000000000000FFFFFFFFFFFFFFFFFFFFFFFF
/-- The order of P-256. -/
def p256n : Nat := 0xFFFFFFFF00000000FFFFFFFFFFFFFFFFBCE6FAADA7179E84F3B9CAC2FC632551
/-- The coefficient b of P-256. -/
def p256b : Nat := 0x5AC635D8AA3A93E7B3EBBD55769886BC651D06B0CC53B0F63BCE3C3E27D2604B
/-- The base point of P-256. -/
def p256g : Nat × Nat :=
  (0x6B17D1F2E12C4247F8BCE6E563A440F277037D812DEB33A0F4A13945D898C296,
   0x4FE342E2FE1A7F9B8EE7EB4A7C0F9E162BCE33576B315ECECBB6406837BF51F5)

/-- A point of P-256 in Jacobian coordinates; z = 0 at infinity. -/
structure JPoint where
  x : Nat
  y : Nat
  z : Nat
  deriving DecidableEq, Repr

/-- The double of a point. -/
def jDouble (q : JPoint) : JPoint :=
  let m := p256p
  let yy := q.y * q.y % m
  let s := 4 * q.x * yy % m
  let zz := q.z * q.z % m
  let t := 3 * ((q.x + m - zz) % m) * ((q.x + zz) % m) % m
  let x := (t * t + 2 * m - 2 * s) % m
  let y := (t * ((s + m - x) % m) + m * 8 - 8 * (yy * yy % m)) % m
  ⟨x, y, 2 * q.y * q.z % m⟩

/-- The sum of two points. -/
def jAdd (a b : JPoint) : JPoint :=
  let m := p256p
  if a.z = 0 then b else if b.z = 0 then a else
  let z1 := a.z * a.z % m
  let z2 := b.z * b.z % m
  let u1 := a.x * z2 % m
  let u2 := b.x * z1 % m
  let s1 := a.y * b.z % m * z2 % m
  let s2 := b.y * a.z % m * z1 % m
  if u1 = u2 then (if s1 = s2 then jDouble a else ⟨1, 1, 0⟩) else
  let h := (u2 + m - u1) % m
  let r := (s2 + m - s1) % m
  let hh := h * h % m
  let h3 := h * hh % m
  let v := u1 * hh % m
  let x := (r * r + 3 * m - h3 - 2 * v) % m
  let y := (r * ((v + m - x) % m) + m - s1 * h3 % m) % m
  ⟨x, y, a.z * b.z % m * h % m⟩

/-- A multiple of a point, by the low `n` bits of the factor. -/
def jMul (k : Nat) (q : JPoint) : Nat → JPoint
  | 0 => ⟨1, 1, 0⟩
  | n + 1 =>
    let r := jMul (k / 2) (jDouble q) n
    if k % 2 = 1 then jAdd r q else r

/-- A power modulo `m`, by the low `n` bits of the exponent. -/
def powMod (m : Nat) : Nat → Nat → Nat → Nat
  | 0, _, _ => 1 % m
  | n + 1, a, e =>
    let r := powMod m n (a * a % m) (e / 2)
    if e % 2 = 1 then r * a % m else r

/-- The inverse modulo a prime. -/
def invMod (m a : Nat) : Nat := powMod m 256 (a % m) (m - 2)

/-- A pair of coordinates is a point of P-256 (R451). -/
def onCurve (q : Nat × Nat) : Bool :=
  decide (q.1 < p256p ∧ q.2 < p256p ∧
    q.2 * q.2 % p256p = (q.1 * q.1 % p256p * q.1 + p256p * 3 - 3 * q.1 + p256b) % p256p)

/-- ECDSA verification over P-256 with SHA-256 (R464): key, message, r and s. -/
def ecdsaOk (key : Nat × Nat) (msg : List Byte) (r s : Nat) : Bool :=
  if r = 0 ∨ p256n ≤ r ∨ s = 0 ∨ p256n ≤ s ∨ onCurve key = false then false else
  let e := unbe (sha256 msg)
  let w := invMod p256n s
  let x := jAdd (jMul (e * w % p256n) ⟨p256g.1, p256g.2, 1⟩ 256) (jMul (r * w % p256n) ⟨key.1, key.2, 1⟩ 256)
  if x.z = 0 then false else
  let zi := invMod p256p x.z
  decide (x.x * (zi * zi % p256p) % p256p % p256n = r)

end Sys2Proof.Machine
end

