-- ==== Sys2Proof/Machine/Regs.lean ====
section
/-! DEFINITION. The register map: the address of each register of the spec's register tables, the bits of each that
keep what is written (access RW) with their reset values, and the sources of Table 1-7's fault registers. -/
namespace Sys2Proof.Machine

open Sys2Proof

/-- A run of registers of one layout: base, stride, how many, the RW bits and the reset word. -/
structure RegRow where
  base : Nat
  stride : Nat
  count : Nat
  rw : Word
  reset : Word
  deriving DecidableEq, Repr

/-- SYS_ID. -/
abbrev Reg.sysId : Nat := 0x01000000
/-- HIF_I2C_CFG. -/
abbrev Reg.hifI2cCfg : Nat := 0x01010000
/-- HIF_I2C_ADDR. -/
abbrev Reg.hifI2cAddr : Nat := 0x01010004
/-- HIF_I2C_MASK. -/
abbrev Reg.hifI2cMask : Nat := 0x01010008
/-- HIF_I2C_STAT. -/
abbrev Reg.hifI2cStat : Nat := 0x0101000C
/-- HIF_QSPI_CFG. -/
abbrev Reg.hifQspiCfg : Nat := 0x01010010
/-- HIF_QSPI_STAT. -/
abbrev Reg.hifQspiStat : Nat := 0x01010014
/-- HIF_PROTO_CNT. -/
abbrev Reg.hifProtoCnt : Nat := 0x01010018
/-- HIF_IRQ_EN. -/
abbrev Reg.hifIrqEn : Nat := 0x01010020
/-- HIF_IRQ_STAT. -/
abbrev Reg.hifIrqStat : Nat := 0x01010024
/-- HIF_RD_WM. -/
abbrev Reg.hifRdWm : Nat := 0x01010028
/-- HIF_PIN_CFG. -/
abbrev Reg.hifPinCfg : Nat := 0x0101002C
/-- HIF_TRIG_CFG. -/
abbrev Reg.hifTrigCfg : Nat := 0x01010030
/-- HIF_PIN_STAT. -/
abbrev Reg.hifPinStat : Nat := 0x01010034
/-- SYS_STATE. -/
abbrev Reg.sysState : Nat := 0x01000010
/-- SYS_RESET_CAUSE. -/
abbrev Reg.sysResetCause : Nat := 0x01000014
/-- SYS_CLK_CFG. -/
abbrev Reg.sysClkCfg : Nat := 0x01000018
/-- SYS_TRANS. -/
abbrev Reg.sysTrans : Nat := 0x0100001C
/-- GRID_CFG. -/
abbrev Reg.gridCfg : Nat := 0x01020000
/-- GRID_STAT. -/
abbrev Reg.gridStat : Nat := 0x01020004
/-- GRID_FRAME_SEQ. -/
abbrev Reg.gridFrameSeq : Nat := 0x01020008
/-- GRID_FRAMES_LEFT. -/
abbrev Reg.gridFramesLeft : Nat := 0x0102000C
/-- GRID_SCHEDi. -/
abbrev Reg.gridSched (i : Nat) : Nat := 0x01020010 + 0x4 * i
/-- GRID_PLANw. -/
abbrev Reg.gridPlan (i : Nat) : Nat := 0x01020040 + 0x4 * i
/-- GRID_REGIONi_A. -/
abbrev Reg.gridRegionA (i : Nat) : Nat := 0x01020080 + 0x8 * i
/-- GRID_REGIONi_B. -/
abbrev Reg.gridRegionB (i : Nat) : Nat := 0x01020084 + 0x8 * i
/-- GRID_SELF_CFG. -/
abbrev Reg.gridSelfCfg : Nat := 0x010200C0
/-- GRID_REF_CFG. -/
abbrev Reg.gridRefCfg : Nat := 0x010200C4
/-- GRID_SELFs_LINES. -/
abbrev Reg.gridSelfLines (i j : Nat) : Nat := 0x01020100 + 0x40 * i + 0x4 * j
/-- GRID_LANE_PHASEw. -/
abbrev Reg.gridLanePhase (i : Nat) : Nat := 0x01020200 + 0x4 * i
/-- GRID_LANE_GAINw. -/
abbrev Reg.gridLaneGain (i : Nat) : Nat := 0x01020300 + 0x4 * i
/-- GRID_SNUFFw. -/
abbrev Reg.gridSnuff (i : Nat) : Nat := 0x01020340 + 0x4 * i
/-- GRID_TRIMw. -/
abbrev Reg.gridTrim (i : Nat) : Nat := 0x01020400 + 0x4 * i
/-- TCH_CFG. -/
abbrev Reg.tchCfg : Nat := 0x01030000
/-- TCH_STAT. -/
abbrev Reg.tchStat : Nat := 0x01030004
/-- TCH_HOLD_LIMIT. -/
abbrev Reg.tchHoldLimit : Nat := 0x01030008
/-- TCH_POLICY. -/
abbrev Reg.tchPolicy : Nat := 0x0103000C
/-- TCH_FRAME_SEQ. -/
abbrev Reg.tchFrameSeq : Nat := 0x01030010
/-- TCH_CNT. -/
abbrev Reg.tchCnt : Nat := 0x01030014
/-- TCH_CNT2. -/
abbrev Reg.tchCnt2 : Nat := 0x01030018
/-- TCH_RGNi_MODE. -/
abbrev Reg.tchRgnMode (i : Nat) : Nat := 0x01030100 + 0x20 * i
/-- TCH_RGNi_THR0. -/
abbrev Reg.tchRgnThr0 (i : Nat) : Nat := 0x01030104 + 0x20 * i
/-- TCH_RGNi_THR1. -/
abbrev Reg.tchRgnThr1 (i : Nat) : Nat := 0x01030108 + 0x20 * i
/-- TCH_RGNi_THR2. -/
abbrev Reg.tchRgnThr2 (i : Nat) : Nat := 0x0103010C + 0x20 * i
/-- TCH_RGNi_THR3. -/
abbrev Reg.tchRgnThr3 (i : Nat) : Nat := 0x01030110 + 0x20 * i
/-- TCH_RGNi_THR4. -/
abbrev Reg.tchRgnThr4 (i : Nat) : Nat := 0x01030114 + 0x20 * i
/-- TCH_RGNi_WET. -/
abbrev Reg.tchRgnWet (i : Nat) : Nat := 0x01030118 + 0x20 * i
/-- TCH_RGNi_STAT. -/
abbrev Reg.tchRgnStat (i : Nat) : Nat := 0x0103011C + 0x20 * i
/-- TCH_GSTi_CFG. -/
abbrev Reg.tchGstCfg (i : Nat) : Nat := 0x01030200 + 0x10 * i
/-- TCH_GSTi_T0. -/
abbrev Reg.tchGstT0 (i : Nat) : Nat := 0x01030204 + 0x10 * i
/-- TCH_GSTi_T1. -/
abbrev Reg.tchGstT1 (i : Nat) : Nat := 0x01030208 + 0x10 * i
/-- TCH_GSTi_T2. -/
abbrev Reg.tchGstT2 (i : Nat) : Nat := 0x0103020C + 0x10 * i
/-- TCH_CTLc_CFG. -/
abbrev Reg.tchCtlCfg (i : Nat) : Nat := 0x01030400 + 0x10 * i
/-- TCH_CTLc_THR. -/
abbrev Reg.tchCtlThr (i : Nat) : Nat := 0x01030404 + 0x10 * i
/-- TCH_CTLc_DELTA. -/
abbrev Reg.tchCtlDelta (i : Nat) : Nat := 0x01030408 + 0x10 * i
/-- TCH_CTLc_POS. -/
abbrev Reg.tchCtlPos (i : Nat) : Nat := 0x0103040C + 0x10 * i
/-- TCH_CTLc_ELw. -/
abbrev Reg.tchCtlEl (i j : Nat) : Nat := 0x01030800 + 0x40 * i + 0x4 * j
/-- CARR_ENTRYn_F. -/
abbrev Reg.carrEntryF (i : Nat) : Nat := 0x01040000 + 0x8 * i
/-- CARR_ENTRYn_C. -/
abbrev Reg.carrEntryC (i : Nat) : Nat := 0x01040004 + 0x8 * i
/-- CARR_CFG. -/
abbrev Reg.carrCfg : Nat := 0x01040080
/-- CARR_HOP. -/
abbrev Reg.carrHop : Nat := 0x01040084
/-- CARR_HOP2. -/
abbrev Reg.carrHop2 : Nat := 0x01040088
/-- CARR_STAT. -/
abbrev Reg.carrStat : Nat := 0x0104008C
/-- CARR_HOPS. -/
abbrev Reg.carrHops : Nat := 0x01040090
/-- CARR_TBL_EPOCH. -/
abbrev Reg.carrTblEpoch : Nat := 0x01040094
/-- CARR_FIn. -/
abbrev Reg.carrFi (i : Nat) : Nat := 0x01040100 + 0x4 * i
/-- CARR_EMB_CFG. -/
abbrev Reg.carrEmbCfg : Nat := 0x01040200
/-- CARR_EMB_GANGg_L. -/
abbrev Reg.carrEmbGangL (i : Nat) : Nat := 0x01040210 + 0x8 * i
/-- CARR_EMB_GANGg_T. -/
abbrev Reg.carrEmbGangT (i : Nat) : Nat := 0x01040214 + 0x8 * i
/-- CARR_EMB_STAT. -/
abbrev Reg.carrEmbStat : Nat := 0x01040250
/-- CARR_EMB_VALg. -/
abbrev Reg.carrEmbVal (i : Nat) : Nat := 0x01040260 + 0x4 * i
/-- BRDG_STAT. -/
abbrev Reg.brdgStat : Nat := 0x01050000
/-- BRDG_SNUFF. -/
abbrev Reg.brdgSnuff : Nat := 0x01050004
/-- BRDG_VIOL. -/
abbrev Reg.brdgViol : Nat := 0x01050008
/-- BRDG_INVALID. -/
abbrev Reg.brdgInvalid : Nat := 0x0105000C
/-- BRDG_EGg_CFG. -/
abbrev Reg.brdgEgCfg (i : Nat) : Nat := 0x01050040 + 0x8 * i
/-- BRDG_EGg_WIN. -/
abbrev Reg.brdgEgWin (i : Nat) : Nat := 0x01050044 + 0x8 * i
/-- BRDG_EGg_STAT. -/
abbrev Reg.brdgEgStat (i : Nat) : Nat := 0x01050080 + 0x4 * i
/-- BRDG_CHECK. -/
abbrev Reg.brdgCheck : Nat := 0x01050280
/-- BRDG_CHECK_LANES. -/
abbrev Reg.brdgCheckLanes : Nat := 0x01050284
/-- BRDG_TRIM_CHECK. -/
abbrev Reg.brdgTrimCheck : Nat := 0x01050380
/-- BRDG_LANEn_CFG. -/
abbrev Reg.brdgLaneCfg (i : Nat) : Nat := 0x01050100 + 0x8 * i
/-- BRDG_LANEn_WIN. -/
abbrev Reg.brdgLaneWin (i : Nat) : Nat := 0x01050104 + 0x8 * i
/-- BRDG_LANEn_STAT. -/
abbrev Reg.brdgLaneStat (i : Nat) : Nat := 0x01050200 + 0x4 * i
/-- BRDG_TRIMn. -/
abbrev Reg.brdgTrim (i : Nat) : Nat := 0x01050300 + 0x4 * i
/-- CONV_STAT. -/
abbrev Reg.convStat : Nat := 0x01060000
/-- CONV_RUN. -/
abbrev Reg.convRun : Nat := 0x01060004
/-- CONV_PEND. -/
abbrev Reg.convPend : Nat := 0x01060008
/-- CONV_SYNC_CFG. -/
abbrev Reg.convSyncCfg : Nat := 0x0106000C
/-- CONV_SYNC_EPOCH. -/
abbrev Reg.convSyncEpoch : Nat := 0x01060010
/-- CONV_SYNC_EDGE_LO. -/
abbrev Reg.convSyncEdgeLo : Nat := 0x01060014
/-- CONV_SYNC_EDGE_HI. -/
abbrev Reg.convSyncEdgeHi : Nat := 0x01060018
/-- CONV_INTERVAL. -/
abbrev Reg.convInterval : Nat := 0x0106001C
/-- CONV_APPLY_EPOCH. -/
abbrev Reg.convApplyEpoch : Nat := 0x01060020
/-- CONV_CNT. -/
abbrev Reg.convCnt : Nat := 0x01060024
/-- CONV_LANEn_CFG. -/
abbrev Reg.convLaneCfg (i : Nat) : Nat := 0x01060100 + 0x40 * i
/-- CONV_LANEn_SRC. -/
abbrev Reg.convLaneSrc (i : Nat) : Nat := 0x01060104 + 0x40 * i
/-- CONV_LANEn_THRt. -/
abbrev Reg.convLaneThr (i j : Nat) : Nat := 0x01060108 + 0x40 * i + 0x8 * j
/-- CONV_LANEn_HYSt. -/
abbrev Reg.convLaneHys (i j : Nat) : Nat := 0x0106010C + 0x40 * i + 0x8 * j
/-- CONV_LANEn_ONS0. -/
abbrev Reg.convLaneOns0 (i : Nat) : Nat := 0x01060118 + 0x40 * i
/-- CONV_LANEn_ONS1. -/
abbrev Reg.convLaneOns1 (i : Nat) : Nat := 0x0106011C + 0x40 * i
/-- CONV_LANEn_ONS2. -/
abbrev Reg.convLaneOns2 (i : Nat) : Nat := 0x01060120 + 0x40 * i
/-- CONV_LANEn_STAT. -/
abbrev Reg.convLaneStat (i : Nat) : Nat := 0x01060124 + 0x40 * i
/-- CONV_LANEn_LAST. -/
abbrev Reg.convLaneLast (i : Nat) : Nat := 0x01060128 + 0x40 * i
/-- CONV_LANEn_CNT. -/
abbrev Reg.convLaneCnt (i : Nat) : Nat := 0x0106012C + 0x40 * i
/-- TIME_NOW_LO. -/
abbrev Reg.timeNowLo : Nat := 0x01070000
/-- TIME_NOW_HI. -/
abbrev Reg.timeNowHi : Nat := 0x01070004
/-- TIME_NOW_FRAC. -/
abbrev Reg.timeNowFrac : Nat := 0x01070008
/-- TIME_INCR_FRAC. -/
abbrev Reg.timeIncrFrac : Nat := 0x0107000C
/-- TIME_INCR_INT. -/
abbrev Reg.timeIncrInt : Nat := 0x01070010
/-- TIME_STAT. -/
abbrev Reg.timeStat : Nat := 0x01070014
/-- TIME_SERVO_CFG. -/
abbrev Reg.timeServoCfg : Nat := 0x01070018
/-- TIME_RATE_TRIM. -/
abbrev Reg.timeRateTrim : Nat := 0x0107001C
/-- TIME_OFFSET. -/
abbrev Reg.timeOffset : Nat := 0x01070020
/-- TIME_RATE. -/
abbrev Reg.timeRate : Nat := 0x01070024
/-- TIME_INTEG. -/
abbrev Reg.timeInteg : Nat := 0x01070028
/-- TIME_PATH. -/
abbrev Reg.timePath : Nat := 0x0107002C
/-- TIME_EPOCH_P. -/
abbrev Reg.timeEpochP : Nat := 0x01070030
/-- TIME_EPOCH_T0_LO. -/
abbrev Reg.timeEpochT0Lo : Nat := 0x01070034
/-- TIME_EPOCH_T0_HI. -/
abbrev Reg.timeEpochT0Hi : Nat := 0x01070038
/-- TIME_EPOCH_N0. -/
abbrev Reg.timeEpochN0 : Nat := 0x0107003C
/-- TIME_EPOCH_NOW. -/
abbrev Reg.timeEpochNow : Nat := 0x01070040
/-- TIME_BEACON_CFG. -/
abbrev Reg.timeBeaconCfg : Nat := 0x01070048
/-- TIME_CNT. -/
abbrev Reg.timeCnt : Nat := 0x0107004C
/-- TIME_CNT2. -/
abbrev Reg.timeCnt2 : Nat := 0x01070050
/-- TIME_PPS_CFG. -/
abbrev Reg.timePpsCfg : Nat := 0x01070058
/-- TIME_PORTn_ASYM. -/
abbrev Reg.timePortAsym (i : Nat) : Nat := 0x01070060 + 0x4 * i
/-- TIME_TRGu_CFG. -/
abbrev Reg.timeTrgCfg (i : Nat) : Nat := 0x01070100 + 0x20 * i
/-- TIME_TRGu_INST_LO. -/
abbrev Reg.timeTrgInstLo (i : Nat) : Nat := 0x01070104 + 0x20 * i
/-- TIME_TRGu_INST_HI. -/
abbrev Reg.timeTrgInstHi (i : Nat) : Nat := 0x01070108 + 0x20 * i
/-- TIME_TRGu_PERIOD. -/
abbrev Reg.timeTrgPeriod (i : Nat) : Nat := 0x0107010C + 0x20 * i
/-- TIME_TRGu_COUNT. -/
abbrev Reg.timeTrgCount (i : Nat) : Nat := 0x01070110 + 0x20 * i
/-- TIME_TRGu_NEXT_LO. -/
abbrev Reg.timeTrgNextLo (i : Nat) : Nat := 0x01070114 + 0x20 * i
/-- TIME_TRGu_NEXT_HI. -/
abbrev Reg.timeTrgNextHi (i : Nat) : Nat := 0x01070118 + 0x20 * i
/-- TIME_TRGu_STAT. -/
abbrev Reg.timeTrgStat (i : Nat) : Nat := 0x0107011C + 0x20 * i
/-- TIME_CAPc_CFG. -/
abbrev Reg.timeCapCfg (i : Nat) : Nat := 0x01070400 + 0x10 * i
/-- TIME_CAPc_LO. -/
abbrev Reg.timeCapLo (i : Nat) : Nat := 0x01070404 + 0x10 * i
/-- TIME_CAPc_HI. -/
abbrev Reg.timeCapHi (i : Nat) : Nat := 0x01070408 + 0x10 * i
/-- TIME_CAPc_STAT. -/
abbrev Reg.timeCapStat (i : Nat) : Nat := 0x0107040C + 0x10 * i
/-- LINK_PORTn_CFG. -/
abbrev Reg.linkPortCfg (i : Nat) : Nat := 0x01080000 + 0x4000 * i
/-- LINK_PORTn_STAT. -/
abbrev Reg.linkPortStat (i : Nat) : Nat := 0x01080004 + 0x4000 * i
/-- LINK_PORTn_NBR_LO. -/
abbrev Reg.linkPortNbrLo (i : Nat) : Nat := 0x01080008 + 0x4000 * i
/-- LINK_PORTn_NBR_HI. -/
abbrev Reg.linkPortNbrHi (i : Nat) : Nat := 0x0108000C + 0x4000 * i
/-- LINK_PORTn_ERR. -/
abbrev Reg.linkPortErr (i : Nat) : Nat := 0x01080010 + 0x4000 * i
/-- LINK_PORTn_CNT. -/
abbrev Reg.linkPortCnt (i : Nat) : Nat := 0x01080014 + 0x4000 * i
/-- LINK_PORTn_LOAD. -/
abbrev Reg.linkPortLoad (i : Nat) : Nat := 0x01080018 + 0x4000 * i
/-- LINK_CFG. -/
abbrev Reg.linkCfg : Nat := 0x01083000
/-- LINK_STAT. -/
abbrev Reg.linkStat : Nat := 0x01083004
/-- LINK_LL. -/
abbrev Reg.linkLl : Nat := 0x01083008
/-- LINK_LL_UID_LO. -/
abbrev Reg.linkLlUidLo : Nat := 0x0108300C
/-- LINK_LL_UID_HI. -/
abbrev Reg.linkLlUidHi : Nat := 0x01083010
/-- LINK_TOPO_GEN. -/
abbrev Reg.linkTopoGen : Nat := 0x01083014
/-- LINK_MODE. -/
abbrev Reg.linkMode : Nat := 0x01083018
/-- LINK_MODE_PREP. -/
abbrev Reg.linkModePrep : Nat := 0x0108301C
/-- LINK_MODE_TARGET. -/
abbrev Reg.linkModeTarget : Nat := 0x01083020
/-- LINK_MODE_NEWP. -/
abbrev Reg.linkModeNewp : Nat := 0x01083024
/-- LINK_CNT. -/
abbrev Reg.linkCnt : Nat := 0x01083028
/-- LINK_ALARM_CNT. -/
abbrev Reg.linkAlarmCnt : Nat := 0x0108302C
/-- LINK_ALARM_PEND. -/
abbrev Reg.linkAlarmPend : Nat := 0x01083030
/-- LINK_ROUTEa. -/
abbrev Reg.linkRoute (i : Nat) : Nat := 0x01083400 + 0x4 * i
/-- RES_CFG. -/
abbrev Reg.resCfg : Nat := 0x01090000
/-- RES_STAT. -/
abbrev Reg.resStat : Nat := 0x01090004
/-- RES_ALARM_STAT. -/
abbrev Reg.resAlarmStat : Nat := 0x01090008
/-- RES_DRAINd_RATE. -/
abbrev Reg.resDrainRate (i : Nat) : Nat := 0x01090010 + 0x8 * i
/-- RES_DRAINd_LAT. -/
abbrev Reg.resDrainLat (i : Nat) : Nat := 0x01090014 + 0x8 * i
/-- RES_STREAMs_CFG. -/
abbrev Reg.resStreamCfg (i : Nat) : Nat := 0x01090100 + 0x40 * i
/-- RES_STREAMs_SHARE. -/
abbrev Reg.resStreamShare (i : Nat) : Nat := 0x01090104 + 0x40 * i
/-- RES_STREAMs_STAT. -/
abbrev Reg.resStreamStat (i : Nat) : Nat := 0x01090108 + 0x40 * i
/-- RES_STREAMs_SEQ. -/
abbrev Reg.resStreamSeq (i : Nat) : Nat := 0x0109010C + 0x40 * i
/-- RES_STREAMs_E. -/
abbrev Reg.resStreamE (i : Nat) : Nat := 0x01090110 + 0x40 * i
/-- RES_STREAMs_CNT. -/
abbrev Reg.resStreamCnt (i : Nat) : Nat := 0x01090114 + 0x40 * i
/-- RES_STREAMs_WIN. -/
abbrev Reg.resStreamWin (i : Nat) : Nat := 0x01090118 + 0x40 * i
/-- RES_STREAMs_LANES. -/
abbrev Reg.resStreamLanes (i : Nat) : Nat := 0x0109011C + 0x40 * i
/-- RES_STREAMs_SRC. -/
abbrev Reg.resStreamSrc (i : Nat) : Nat := 0x01090120 + 0x40 * i
/-- RES_STREAMs_SRC2. -/
abbrev Reg.resStreamSrc2 (i : Nat) : Nat := 0x01090124 + 0x40 * i
/-- ENG_DECODEk. -/
abbrev Reg.engDecode (i : Nat) : Nat := 0x010B0100 + 0x4 * i
/-- ENG_STAT. -/
abbrev Reg.engStat : Nat := 0x010B0000
/-- ENG_PC. -/
abbrev Reg.engPc : Nat := 0x010B0004
/-- ENG_WDOG_CFG. -/
abbrev Reg.engWdogCfg : Nat := 0x010B0008
/-- ENG_WDOG_STAT. -/
abbrev Reg.engWdogStat : Nat := 0x010B000C
/-- ENG_IRQ_EN. -/
abbrev Reg.engIrqEn : Nat := 0x010B0010
/-- ENG_IRQ_PEND. -/
abbrev Reg.engIrqPend : Nat := 0x010B0014
/-- ENG_EXT_CFG. -/
abbrev Reg.engExtCfg : Nat := 0x010B0018
/-- ENG_EXT_STAT. -/
abbrev Reg.engExtStat : Nat := 0x010B001C
/-- ENG_EXT_CNT. -/
abbrev Reg.engExtCnt : Nat := 0x010B0020
/-- ENG_BUSY. -/
abbrev Reg.engBusy : Nat := 0x010B0024
/-- HKP_CFG. -/
abbrev Reg.hkpCfg : Nat := 0x010A0000
/-- HKP_STAT. -/
abbrev Reg.hkpStat : Nat := 0x010A0004
/-- HKP_SNUFF. -/
abbrev Reg.hkpSnuff : Nat := 0x010A0008
/-- HKP_REINSTATE. -/
abbrev Reg.hkpReinstate : Nat := 0x010A000C
/-- HKP_ROUND. -/
abbrev Reg.hkpRound : Nat := 0x010A0010
/-- HKP_CNT. -/
abbrev Reg.hkpCnt : Nat := 0x010A0014
/-- HKP_CHc. -/
abbrev Reg.hkpCh (i : Nat) : Nat := 0x010A0100 + 0x4 * i
/-- SEC_STAT. -/
abbrev Reg.secStat : Nat := 0x010D0000
/-- SEC_CFG_LOCK. -/
abbrev Reg.secCfgLock : Nat := 0x010D0004
/-- SEC_JRN_HEAD. -/
abbrev Reg.secJrnHead : Nat := 0x010D0008
/-- SEC_JRN_OLDEST. -/
abbrev Reg.secJrnOldest : Nat := 0x010D000C
/-- SEC_JRN_RELEASED. -/
abbrev Reg.secJrnReleased : Nat := 0x010D0010
/-- SEC_JRN_LOST. -/
abbrev Reg.secJrnLost : Nat := 0x010D0014
/-- SEC_FW_COUNTER. -/
abbrev Reg.secFwCounter : Nat := 0x010D0018
/-- SEC_MAKER_COUNTER. -/
abbrev Reg.secMakerCounter : Nat := 0x010D001C
/-- SEC_SLOTs. -/
abbrev Reg.secSlot (i : Nat) : Nat := 0x010D0020 + 0x4 * i
/-- SEC_SLOTs_VER. -/
abbrev Reg.secSlotVer (i : Nat) : Nat := 0x010D0028 + 0x4 * i
/-- SEC_SESSk. -/
abbrev Reg.secSess (i : Nat) : Nat := 0x010D0040 + 0x4 * i
/-- NVM_STAT. -/
abbrev Reg.nvmStat : Nat := 0x010C0000
/-- NVM_WEAR. -/
abbrev Reg.nvmWear : Nat := 0x010C0004
/-- NVM_ECC. -/
abbrev Reg.nvmEcc : Nat := 0x010C0008
/-- Fault register `k` (word index of Table 1-7) of block `b`. -/
abbrev Reg.flt (b k : Nat) : Nat := 0x0100F000 + 0x10000 * b + 4 * k

/-- RW registers of the SYS block, its FLT_EN and FLT_SEVk last. -/
def sysRows : List RegRow :=
  [⟨0x01000018, 0x4, 1, 0x00000007, 0x00000000⟩,
   ⟨0x0100F004, 0x4, 1, 0x00000007, 0x0000000F⟩,
   ⟨0x0100F008, 0x4, 1, 0x000001FF, 0x0000085B⟩]

/-- RW registers of the HIF block, its FLT_EN and FLT_SEVk last. -/
def hifRows : List RegRow :=
  [⟨0x01010000, 0x4, 1, 0x0000000F, 0x0000000D⟩,
   ⟨0x01010004, 0x4, 1, 0xFFFFFFFF, 0x000000AC⟩,
   ⟨0x01010008, 0x4, 1, 0x00007F7F, 0x00007F2C⟩,
   ⟨0x01010010, 0x4, 1, 0x000000F7, 0x00000001⟩,
   ⟨0x01010020, 0x4, 1, 0x000007FF, 0x000000C3⟩,
   ⟨0x01010028, 0x4, 1, 0xFFFFFFFF, 0x00000000⟩,
   ⟨0x0101002C, 0x4, 1, 0x00000077, 0x00000044⟩,
   ⟨0x01010030, 0x4, 1, 0x3F3F3F3F, 0x00000000⟩,
   ⟨0x0101F004, 0x4, 1, 0x0000000F, 0x0000000F⟩,
   ⟨0x0101F008, 0x4, 1, 0x00000FFF, 0x00000203⟩]

/-- RW registers of the GRID block, its FLT_EN and FLT_SEVk last. -/
def gridRows : List RegRow :=
  [⟨0x01020000, 0x4, 1, 0x0000FF7F, 0x0000005F⟩,
   ⟨0x01020010, 0x4, 8, 0x00FFFFF7, 0x00000000⟩,
   ⟨0x01020040, 0x4, 7, 0xFFFFFFFF, 0x00000000⟩,
   ⟨0x0102005C, 0x4, 1, 0x0000FFFF, 0x00000000⟩,
   ⟨0x01020080, 0x8, 8, 0xFFFF7F7F, 0x00000000⟩,
   ⟨0x01020084, 0x8, 8, 0x0000000F, 0x00000000⟩,
   ⟨0x010200C0, 0x4, 1, 0x000000FF, 0x00000044⟩,
   ⟨0x010200C4, 0x4, 1, 0x0000FFFF, 0x00000040⟩,
   ⟨0x01020100, 0x4, 8, 0xFFFFFFFF, 0x00000000⟩,
   ⟨0x01020120, 0x4, 1, 0x00FFFFFF, 0x00000000⟩,
   ⟨0x01020140, 0x4, 8, 0xFFFFFFFF, 0x00000000⟩,
   ⟨0x01020160, 0x4, 1, 0x00FFFFFF, 0x00000000⟩,
   ⟨0x01020200, 0x4, 40, 0xFFFFFFFF, 0x00000000⟩,
   ⟨0x0102F004, 0x4, 1, 0x0000003F, 0x0000003F⟩,
   ⟨0x0102F008, 0x4, 1, 0x0003FFFF, 0x0000B282⟩]

/-- RW registers of the TCH block, its FLT_EN and FLT_SEVk last. -/
def tchRows : List RegRow :=
  [⟨0x01030000, 0x4, 1, 0xFFFF00F7, 0x00200087⟩,
   ⟨0x01030008, 0x4, 1, 0x0000FFFF, 0x00000000⟩,
   ⟨0x0103000C, 0x4, 1, 0x3FFFFFFF, 0x28210200⟩,
   ⟨0x01030100, 0x20, 8, 0x1F0F3FF7, 0x00063840⟩,
   ⟨0x01030104, 0x20, 8, 0xFFFFFFFF, 0x01900258⟩,
   ⟨0x01030108, 0x20, 8, 0xFFFFFFFF, 0x0064012C⟩,
   ⟨0x0103010C, 0x20, 8, 0xFFFFFFFF, 0x00300050⟩,
   ⟨0x01030110, 0x20, 8, 0xFFFFFFFF, 0x008000C8⟩,
   ⟨0x01030114, 0x20, 8, 0xFFFFFFFF, 0x00000000⟩,
   ⟨0x01030118, 0x20, 8, 0x00FFFFFF, 0x00040010⟩,
   ⟨0x01030200, 0x10, 8, 0x00FFFFFF, 0x0000C800⟩,
   ⟨0x01030204, 0x10, 8, 0xFFFFFFFF, 0x012C0100⟩,
   ⟨0x01030208, 0x10, 8, 0xFFFFFFFF, 0x01F40800⟩,
   ⟨0x0103020C, 0x10, 8, 0x0000FFFF, 0x000003E8⟩,
   ⟨0x01030400, 0x10, 16, 0x00073F0F, 0x00000000⟩,
   ⟨0x01030404, 0x10, 16, 0xFFFFFFFF, 0x00200040⟩,
   ⟨0x01030408, 0x10, 16, 0x00000FFF, 0x00000010⟩,
   ⟨0x01030800, 0x4, 256, 0xFFFFFFFF, 0x00000000⟩,
   ⟨0x0103F004, 0x4, 1, 0x0000003F, 0x0000003F⟩,
   ⟨0x0103F008, 0x4, 1, 0x0003FFFF, 0x0000004B⟩]

/-- RW registers of the CARR block, its FLT_EN and FLT_SEVk last. -/
def carrRows : List RegRow :=
  [⟨0x01040000, 0x8, 16, 0x0007FFFF, 0x0003D090⟩,
   ⟨0x01040004, 0x8, 1, 0x0000011F, 0x00000104⟩,
   ⟨0x0104000C, 0x8, 15, 0x0000011F, 0x00000004⟩,
   ⟨0x01040080, 0x4, 1, 0xFF0F7F3F, 0x07041020⟩,
   ⟨0x01040084, 0x4, 1, 0xFFFFFFFF, 0x00400001⟩,
   ⟨0x01040088, 0x4, 1, 0xFFFFFFFF, 0x00000100⟩,
   ⟨0x01040200, 0x4, 1, 0x00F7FF3F, 0x0041000A⟩,
   ⟨0x01040210, 0x8, 8, 0x01FF01FF, 0x00000000⟩,
   ⟨0x01040214, 0x8, 8, 0xFFFFFFFF, 0x0040000C⟩,
   ⟨0x0104F004, 0x4, 1, 0x0000000F, 0x0000000F⟩,
   ⟨0x0104F008, 0x4, 1, 0x00000FFF, 0x0000000B⟩]

/-- RW registers of the BRDG block, its FLT_EN and FLT_SEVk last. -/
def brdgRows : List RegRow :=
  [⟨0x01050040, 0x8, 8, 0x00033F1F, 0x00020800⟩,
   ⟨0x01050044, 0x8, 8, 0x0000FFFF, 0x0000FFE0⟩,
   ⟨0x01050100, 0x8, 32, 0x0000031F, 0x00000200⟩,
   ⟨0x01050104, 0x8, 32, 0x0000FFFF, 0x0000C040⟩,
   ⟨0x0105F004, 0x4, 1, 0x000000FF, 0x000000FF⟩,
   ⟨0x0105F008, 0x4, 1, 0x00FFFFFF, 0x00252083⟩]

/-- RW registers of the CONV block, its FLT_EN and FLT_SEVk last. -/
def convRows : List RegRow :=
  [⟨0x0106000C, 0x4, 1, 0x0000FFFF, 0x00000064⟩,
   ⟨0x0106001C, 0x4, 1, 0x00FFFFFF, 0x00000000⟩,
   ⟨0x01060100, 0x40, 32, 0x000F73FF, 0x00000029⟩,
   ⟨0x01060104, 0x40, 32, 0xFFFFFFFF, 0x00010000⟩,
   ⟨0x01060108, 0x40, 32, 0x07FFFFFF, 0x007FFFFF⟩,
   ⟨0x01060110, 0x40, 32, 0x07FFFFFF, 0x007FFFFF⟩,
   ⟨0x0106010C, 0x40, 32, 0xFFFFFFFF, 0x00000000⟩,
   ⟨0x01060114, 0x40, 32, 0xFFFFFFFF, 0x00000000⟩,
   ⟨0x01060118, 0x40, 32, 0xFF0F7F03, 0x50040800⟩,
   ⟨0x0106011C, 0x40, 32, 0xFFFFFFFF, 0x00000080⟩,
   ⟨0x01060120, 0x40, 32, 0x0000FFFF, 0x00000060⟩,
   ⟨0x0106F004, 0x4, 1, 0x0000001F, 0x0000001F⟩,
   ⟨0x0106F008, 0x4, 1, 0x00007FFF, 0x00000643⟩]

/-- RW registers of the TIME block, its FLT_EN and FLT_SEVk last. -/
def timeRows : List RegRow :=
  [⟨0x01070018, 0x4, 1, 0xFF03F7F7, 0x0A003141⟩,
   ⟨0x0107001C, 0x4, 1, 0xFFFFFFFF, 0x00000000⟩,
   ⟨0x01070048, 0x4, 1, 0x000000F7, 0x000000F2⟩,
   ⟨0x01070058, 0x4, 1, 0x000001FF, 0x00000064⟩,
   ⟨0x01070060, 0x4, 4, 0x0000FFFF, 0x00000000⟩,
   ⟨0x01070100, 0x20, 16, 0x00000007, 0x00000000⟩,
   ⟨0x01070104, 0x20, 16, 0xFFFFFFFF, 0x00000000⟩,
   ⟨0x01070108, 0x20, 16, 0xFFFFFFFF, 0x00000000⟩,
   ⟨0x0107010C, 0x20, 16, 0xFFFFFFFF, 0x00000000⟩,
   ⟨0x01070110, 0x20, 16, 0xFFFFFFFF, 0x00000000⟩,
   ⟨0x01070400, 0x10, 8, 0x00000137, 0x00000010⟩,
   ⟨0x0107F004, 0x4, 1, 0x000001FF, 0x000001FF⟩,
   ⟨0x0107F008, 0x4, 1, 0x07FFFFFF, 0x0004824B⟩]

/-- RW registers of the LINK block, its FLT_EN and FLT_SEVk last. -/
def linkRows : List RegRow :=
  [⟨0x01080000, 0x4000, 4, 0x0000000F, 0x00000000⟩,
   ⟨0x01083000, 0x4, 1, 0x0001FFFF, 0x0000FF80⟩,
   ⟨0x0108F004, 0x4, 1, 0x000007FF, 0x000007FF⟩,
   ⟨0x0108F008, 0x4, 1, 0x3FFFFFFF, 0x0824928B⟩,
   ⟨0x0108F00C, 0x4, 1, 0x00000007, 0x00000000⟩]

/-- RW registers of the RES block, its FLT_EN and FLT_SEVk last. -/
def resRows : List RegRow :=
  [⟨0x01090000, 0x4, 1, 0x000000FF, 0x00000005⟩,
   ⟨0x01090010, 0x8, 3, 0xFFFFFFFF, 0x00000000⟩,
   ⟨0x01090014, 0x8, 3, 0x00FFFFFF, 0x00000000⟩,
   ⟨0x01090100, 0x40, 16, 0x01FFFF07, 0x00000000⟩,
   ⟨0x01090118, 0x40, 16, 0xFFFFFFFF, 0x9F007700⟩,
   ⟨0x0109011C, 0x40, 16, 0xFFFFFFFF, 0x00000000⟩,
   ⟨0x01090120, 0x40, 16, 0xFFFF01FF, 0x00000000⟩,
   ⟨0x01090124, 0x40, 16, 0xFFFFFFFF, 0x00000000⟩,
   ⟨0x0109F004, 0x4, 1, 0x0000001F, 0x0000001F⟩,
   ⟨0x0109F008, 0x4, 1, 0x00007FFF, 0x0000020B⟩]

/-- RW registers of the HKP block, its FLT_EN and FLT_SEVk last. -/
def hkpRows : List RegRow :=
  [⟨0x010A0000, 0x4, 1, 0x01FF1FFF, 0x01690573⟩,
   ⟨0x010AF004, 0x4, 1, 0x000003FF, 0x000003FF⟩,
   ⟨0x010AF008, 0x4, 1, 0x3FFFFFFF, 0x0B248313⟩]

/-- RW registers of the ENG block, its FLT_EN and FLT_SEVk last. -/
def engRows : List RegRow :=
  [⟨0x010B0008, 0x4, 1, 0x80000FFF, 0x000007D0⟩,
   ⟨0x010B0010, 0x4, 1, 0x00FFFFFF, 0x00000000⟩,
   ⟨0x010B0018, 0x4, 1, 0xFFFF007F, 0x00000000⟩,
   ⟨0x010BF004, 0x4, 1, 0x00000FFF, 0x00000FFF⟩,
   ⟨0x010BF008, 0x4, 1, 0x3FFFFFFF, 0x0B25925B⟩,
   ⟨0x010BF00C, 0x4, 1, 0x0000003F, 0x00000009⟩]

/-- RW registers of the NVM block, its FLT_EN and FLT_SEVk last. -/
def nvmRows : List RegRow :=
  [⟨0x010CF004, 0x4, 1, 0x0000003F, 0x0000003F⟩,
   ⟨0x010CF008, 0x4, 1, 0x0003FFFF, 0x00009243⟩]

/-- RW registers of the SEC block, its FLT_EN and FLT_SEVk last. -/
def secRows : List RegRow :=
  [⟨0x010DF004, 0x4, 1, 0x0000003F, 0x0000003F⟩,
   ⟨0x010DF008, 0x4, 1, 0x0003FFFF, 0x00009243⟩]

/-- The RW registers of block `b`, numbered as in Table 1-1. -/
def blockRows (b : Nat) : List RegRow :=
  match b with
  | 0 => sysRows
  | 1 => hifRows
  | 2 => gridRows
  | 3 => tchRows
  | 4 => carrRows
  | 5 => brdgRows
  | 6 => convRows
  | 7 => timeRows
  | 8 => linkRows
  | 9 => resRows
  | 10 => hkpRows
  | 11 => engRows
  | 12 => nvmRows
  | 13 => secRows
  | _ => []

/-- The block a register address lies in, numbered as in Table 1-1; 14 for none. -/
def blockOf (a : Nat) : Nat := if 0x01000000 ≤ a ∧ a < 0x010E0000 then (a - 0x01000000) / 0x10000 else 14

/-- An address is one of a row's registers. -/
def rowHas (r : RegRow) (a : Nat) : Bool :=
  decide (r.base ≤ a ∧ a < r.base + r.stride * r.count ∧ (a - r.base) % r.stride = 0)

/-- The row of a register address. -/
def regRow (a : Nat) : Option RegRow := (blockRows (blockOf a)).find? (fun r => rowHas r a)

/-- The reset word of the RW bits at an address; 0 where no register has RW bits. -/
def regReset (a : Nat) : Word := match regRow a with | some r => r.reset | none => 0

/-- The RW bits at an address. -/
def regMask (a : Nat) : Word := match regRow a with | some r => r.rw | none => 0

/-- The number of fault sources a block defines (the tables R423 names), numbered from 0. -/
def sourceCount (b : Nat) : Nat :=
  match b with
  | 0 => 4
  | 1 => 4
  | 2 => 6
  | 3 => 6
  | 4 => 4
  | 5 => 8
  | 6 => 5
  | 7 => 9
  | 8 => 11
  | 9 => 5
  | 10 => 10
  | 11 => 12
  | 12 => 6
  | 13 => 6
  | _ => 0

/-- SYS source STATE_PARITY. -/
abbrev Src.sysStateParity : Nat := 0
/-- SYS source PLL_UNLOCK. -/
abbrev Src.sysPllUnlock : Nat := 1
/-- SYS source TRANSIT_LATE. -/
abbrev Src.sysTransitLate : Nat := 2
/-- SYS source SAFE_RESTORED. -/
abbrev Src.sysSafeRestored : Nat := 3
/-- HIF source STATE_PARITY. -/
abbrev Src.hifStateParity : Nat := 0
/-- HIF source BUS_TIMEOUT. -/
abbrev Src.hifBusTimeout : Nat := 1
/-- HIF source PROTOCOL. -/
abbrev Src.hifProtocol : Nat := 2
/-- HIF source REPLY_STALL. -/
abbrev Src.hifReplyStall : Nat := 3
/-- GRID source DRIVE_OVERCURRENT. -/
abbrev Src.gridDriveOvercurrent : Nat := 0
/-- GRID source LANE_OVERLOAD. -/
abbrev Src.gridLaneOverload : Nat := 1
/-- GRID source LANE_STUCK. -/
abbrev Src.gridLaneStuck : Nat := 2
/-- GRID source VTX_LOW. -/
abbrev Src.gridVtxLow : Nat := 3
/-- GRID source STATE_PARITY. -/
abbrev Src.gridStateParity : Nat := 4
/-- GRID source TRIM_INVALID. -/
abbrev Src.gridTrimInvalid : Nat := 5
/-- TCH source STATE_PARITY. -/
abbrev Src.tchStateParity : Nat := 0
/-- TCH source PIPE_LATE. -/
abbrev Src.tchPipeLate : Nat := 1
/-- TCH source NO_SELF_FRAME. -/
abbrev Src.tchNoSelfFrame : Nat := 2
/-- TCH source CONTACT_OVERFLOW. -/
abbrev Src.tchContactOverflow : Nat := 3
/-- TCH source REGION_SKIPPED. -/
abbrev Src.tchRegionSkipped : Nat := 4
/-- TCH source HOLD_EXPIRED. -/
abbrev Src.tchHoldExpired : Nat := 5
/-- CARR source STATE_PARITY. -/
abbrev Src.carrStateParity : Nat := 0
/-- CARR source FLICKER_HIGH. -/
abbrev Src.carrFlickerHigh : Nat := 1
/-- CARR source NO_CANDIDATE. -/
abbrev Src.carrNoCandidate : Nat := 2
/-- CARR source EMBER_OVERLOAD. -/
abbrev Src.carrEmberOverload : Nat := 3
/-- BRDG source STATE_PARITY. -/
abbrev Src.brdgStateParity : Nat := 0
/-- BRDG source LEAD_EVENT. -/
abbrev Src.brdgLeadEvent : Nat := 1
/-- BRDG source LEAD_PERMANENT. -/
abbrev Src.brdgLeadPermanent : Nat := 2
/-- BRDG source EXS_EVENT. -/
abbrev Src.brdgExsEvent : Nat := 3
/-- BRDG source EXS_PERMANENT. -/
abbrev Src.brdgExsPermanent : Nat := 4
/-- BRDG source EXC_OVERCURRENT. -/
abbrev Src.brdgExcOvercurrent : Nat := 5
/-- BRDG source VEX_LOW. -/
abbrev Src.brdgVexLow : Nat := 6
/-- BRDG source TRIM_INVALID. -/
abbrev Src.brdgTrimInvalid : Nat := 7
/-- CONV source STATE_PARITY. -/
abbrev Src.convStateParity : Nat := 0
/-- CONV source MOD_OVERLOAD. -/
abbrev Src.convModOverload : Nat := 1
/-- CONV source MOD_UNLOCK. -/
abbrev Src.convModUnlock : Nat := 2
/-- CONV source QUEUE_OVERRUN. -/
abbrev Src.convQueueOverrun : Nat := 3
/-- CONV source SYNC_IGNORED. -/
abbrev Src.convSyncIgnored : Nat := 4
/-- TIME source STATE_PARITY. -/
abbrev Src.timeStateParity : Nat := 0
/-- TIME source HOLDOVER. -/
abbrev Src.timeHoldover : Nat := 1
/-- TIME source STEP. -/
abbrev Src.timeStep : Nat := 2
/-- TIME source SERVO_CLAMP. -/
abbrev Src.timeServoClamp : Nat := 3
/-- TIME source BAD_EXCHANGE. -/
abbrev Src.timeBadExchange : Nat := 4
/-- TIME source TCLK_LOST. -/
abbrev Src.timeTclkLost : Nat := 5
/-- TIME source PPS_LOST. -/
abbrev Src.timePpsLost : Nat := 6
/-- TIME source CAPTURE_OVERRUN. -/
abbrev Src.timeCaptureOverrun : Nat := 7
/-- TIME source TRIGGER_MISSED. -/
abbrev Src.timeTriggerMissed : Nat := 8
/-- LINK source STATE_PARITY. -/
abbrev Src.linkStateParity : Nat := 0
/-- LINK source LINK_DOWN. -/
abbrev Src.linkLinkDown : Nat := 1
/-- LINK source LINK_UNSTABLE. -/
abbrev Src.linkLinkUnstable : Nat := 2
/-- LINK source CRC_ERRORS. -/
abbrev Src.linkCrcErrors : Nat := 3
/-- LINK source PORT_MISMATCH. -/
abbrev Src.linkPortMismatch : Nat := 4
/-- LINK source ADDR_CONFLICT. -/
abbrev Src.linkAddrConflict : Nat := 5
/-- LINK source FABRIC_OVERSIZE. -/
abbrev Src.linkFabricOversize : Nat := 6
/-- LINK source FABRIC_DIAMETER. -/
abbrev Src.linkFabricDiameter : Nat := 7
/-- LINK source LAMPLIGHTER_CHANGE. -/
abbrev Src.linkLamplighterChange : Nat := 8
/-- LINK source MODE_LAG. -/
abbrev Src.linkModeLag : Nat := 9
/-- LINK source ALARM_RESEND. -/
abbrev Src.linkAlarmResend : Nat := 10
/-- RES source STATE_PARITY. -/
abbrev Src.resStateParity : Nat := 0
/-- RES source ALARM_QUEUE_FULL. -/
abbrev Src.resAlarmQueueFull : Nat := 1
/-- RES source STREAM_DARK. -/
abbrev Src.resStreamDark : Nat := 2
/-- RES source DRAIN_LATE. -/
abbrev Src.resDrainLate : Nat := 3
/-- RES source MARKS_OVER. -/
abbrev Src.resMarksOver : Nat := 4
/-- HKP source STATE_PARITY. -/
abbrev Src.hkpStateParity : Nat := 0
/-- HKP source SENSOR_DISAGREE. -/
abbrev Src.hkpSensorDisagree : Nat := 1
/-- HKP source SENSORS_LOW. -/
abbrev Src.hkpSensorsLow : Nat := 2
/-- HKP source TEMP_WARN. -/
abbrev Src.hkpTempWarn : Nat := 3
/-- HKP source TAPER. -/
abbrev Src.hkpTaper : Nat := 4
/-- HKP source SUPPLY_RANGE. -/
abbrev Src.hkpSupplyRange : Nat := 5
/-- HKP source CONFIG_ABSENT. -/
abbrev Src.hkpConfigAbsent : Nat := 6
/-- HKP source THERM_RESTART. -/
abbrev Src.hkpThermRestart : Nat := 7
/-- HKP source CONV_CHECK. -/
abbrev Src.hkpConvCheck : Nat := 8
/-- HKP source SNUFF_LIST_INVALID. -/
abbrev Src.hkpSnuffListInvalid : Nat := 9
/-- ENG source PROG_PARITY. -/
abbrev Src.engProgParity : Nat := 0
/-- ENG source DATA_PARITY. -/
abbrev Src.engDataParity : Nat := 1
/-- ENG source ILLEGAL_OPCODE. -/
abbrev Src.engIllegalOpcode : Nat := 2
/-- ENG source ILLEGAL_REP. -/
abbrev Src.engIllegalRep : Nat := 3
/-- ENG source UNMAPPED_ACCESS. -/
abbrev Src.engUnmappedAccess : Nat := 4
/-- ENG source STACK_FAULT. -/
abbrev Src.engStackFault : Nat := 5
/-- ENG source LOOP_OVERFLOW. -/
abbrev Src.engLoopOverflow : Nat := 6
/-- ENG source UCODE_RUNAWAY. -/
abbrev Src.engUcodeRunaway : Nat := 7
/-- ENG source FETCH_FAULT. -/
abbrev Src.engFetchFault : Nat := 8
/-- ENG source EXT_ACCESS. -/
abbrev Src.engExtAccess : Nat := 9
/-- ENG source EXT_OVERRUN. -/
abbrev Src.engExtOverrun : Nat := 10
/-- ENG source WDOG_WARN. -/
abbrev Src.engWdogWarn : Nat := 11
/-- NVM source STATE_PARITY. -/
abbrev Src.nvmStateParity : Nat := 0
/-- NVM source ECC_CORRECTED. -/
abbrev Src.nvmEccCorrected : Nat := 1
/-- NVM source ECC_UNCORRECTABLE. -/
abbrev Src.nvmEccUncorrectable : Nat := 2
/-- NVM source PROGRAM_FAIL. -/
abbrev Src.nvmProgramFail : Nat := 3
/-- NVM source ERASE_FAIL. -/
abbrev Src.nvmEraseFail : Nat := 4
/-- NVM source WEAR. -/
abbrev Src.nvmWear : Nat := 5
/-- SEC source STATE_PARITY. -/
abbrev Src.secStateParity : Nat := 0
/-- SEC source AUTH_FAIL. -/
abbrev Src.secAuthFail : Nat := 1
/-- SEC source AUTH_LOCKOUT. -/
abbrev Src.secAuthLockout : Nat := 2
/-- SEC source IMAGE_CHECK. -/
abbrev Src.secImageCheck : Nat := 3
/-- SEC source JOURNAL_FULL. -/
abbrev Src.secJournalFull : Nat := 4
/-- SEC source KEY_AREA. -/
abbrev Src.secKeyArea : Nat := 5

end Sys2Proof.Machine
end

