-- ==== Sys2Proof/Config.lean ====
section
/-! DEFINITION. What an implementation fixes and the values the spec leaves open. A constant without a body is a free
value: no proof can see what it is. -/
namespace Sys2Proof

/-- The device's 64-bit unique ID (R3). The spec gives no number: it differs on every device. Log entry 1. -/
opaque Config.uid : Long
/-- The words of Plynvi's factory firmware payload, low byte first (R517, R464). Log entry 2. -/
opaque Config.factoryFirmware : List Byte
/-- The 160 header bytes of the factory firmware image (R464). Log entry 2. -/
opaque Config.factoryHeader : List Byte
/-- The 32-bit version of the factory firmware (R79, Table 2-10). Log entry 2. -/
opaque Config.factoryVersion : Word
/-- The ROLLBACK field of the factory firmware image (R517). Log entry 2. -/
opaque Config.factoryRollback : Word
/-- The bridge trims of the factory trim record: OFFSET and GAIN of lane n (Table 8-5). Log entry 3. -/
opaque Config.bridgeTrim : Nat → BitVec 10 × BitVec 10
/-- The grid trims of the factory trim record: sense lanes 0-159, then the self trims of lines 0-279, Q2.14 (Table 8-5).
Log entry 3. -/
opaque Config.gridTrim : Nat → Half
/-- CAL_TEMP of the factory trim record (Table 8-5). Log entry 3. -/
opaque Config.calTemp : Half
/-- X and Y of Plynvi's root public key, held in mask ROM (R448). Log entry 4. -/
opaque Config.rootKey : Nat × Nat
/-- The challenge drawn from the noise source at the n-th draw (R449): 16 bytes, a free value. Log entry 5. -/
opaque Config.challenge : Nat → BitVec 128
/-- VEX of a group lies below REFP when a command tests it (Table 8-8): an analog level no row carries, a free value of
the group and of the free-value counter. Log entry 41. -/
opaque Config.vexBelowRefp : Nat → Nat → Bool
/-- The board applies 3.3 V to VDDIO, else 1.8 V: the level sensed at each POR (R480). Log entry 46. -/
opaque Config.vddio33 : Bool
/-- The RESULT byte of a MODE journal entry made without a commit: "MODE_LAG status", for which the spec gives no code
(Table 15-8). Log entry 47. -/
opaque Config.modeLagStatus : Byte
/-- The RESULT byte of the MODE journal entry an abort makes: Table 15-8 lists no code for it. Log entry 47. -/
opaque Config.modeAbortStatus : Byte
/-- The epoch of application in a MODE journal entry of a change that is prepared or aborted, and so has none
(Table 15-8). Log entry 47. -/
opaque Config.modeNoEpoch : Word
/-- The SLOT byte of a journal entry whose origin holds no session slot: Table 15-8 states none. Log entry 31. -/
opaque Config.noSlotByte : Byte
/-- The sequence number of a configuration copy saved while neither copy is valid: R142 states none. Log entry 49. -/
opaque Config.firstSave : Word
/-- The body bytes the firmware's own layout gives a configuration copy (R516): the layout is the firmware's, so the
bytes are a free function of the shadow words. Log entry 6. -/
opaque Config.configBody : List (Nat × Word) → List Byte
/-- The n-th byte an opaque source yields where the spec says the contents are undefined to readers (R228) or not
preserved. Log entry 7. -/
opaque Config.freeByte : Nat → Byte
/-- The n-th value the spec leaves open where a number results. Log entry 8. -/
opaque Config.freeInt : Nat → Int
/-- The n-th choice the spec leaves open where either of two outcomes may happen (R166, R129). Log entry 8. -/
opaque Config.freeBit : Nat → Bool

end Sys2Proof
end

