-- ==== Sys2Proof/Machine/State.lean ====
section
/-! DEFINITION. The state of the HF1920 as plain data: every register, memory, queue, counter, mode and pin the spec
gives the block, the queue of waiting commands, and the reasons a step can stop. The default of a field is its value
in `State.reset`, the state right after the first power-on of a device as it leaves the factory (R517, Table 4-9). -/
namespace Sys2Proof.Machine

open Sys2Proof

/-- A sparse byte memory: (address, byte), addresses strictly rising, no entry equal to what an unlisted address
reads as. -/
abbrev Memory := List Host.Cell

/-- A sparse file of register words: (address, word), addresses strictly rising, no entry equal to the reset word. -/
abbrev RegFile := List (Nat × Word)

/-- The power states of Table 4-1 (R118). -/
inductive PowerState where
  | dormant | standby | active | ember | retain
  deriving DecidableEq, Repr

/-- The time-base states of Table 10-2 (R315). -/
inductive TimeState where
  | stopped | free | lamplighter | locking | locked | holdover
  deriving DecidableEq, Repr

/-- Port states, coded as LINK_PORTn_STAT.STATE (Table 11-14). -/
inductive PortState where
  | off | training | trained | up | snuffed
  deriving DecidableEq, Repr

/-- The baseline states of a node (Table 6-1). -/
inductive NodeCode where
  | outside | learn | track | pause | frozen | relearn
  deriving DecidableEq, Repr

/-- Why a reply in a queue matters beyond its bytes: a popped RESET reply begins the reset (R133), a popped EMBER or
RETAIN completion lets XIN be switched off (R126). -/
inductive ReplyPurpose where
  | normal | reset | ember
  deriving DecidableEq, Repr

/-! ### SYS -/

/-- A commanded transition in progress (R122). -/
structure Transition where
  start : PowerState
  target : PowerState
  boundary : Bool
  deriving DecidableEq, Repr

structure SysSt where
  /-- Power state, SYS_STATE.STATE, HW_STATE[2:0] (R118). -/
  power : PowerState := .dormant
  /-- An accepted exit request not yet complete, SYS_STATE.EXIT_PEND, HW_STATE[4] (R124). -/
  exitPend : Bool := false
  /-- Start-up complete, SYS_STATE.CFG_LOADED, HW_STATE[5] (R134, R515). -/
  cfgLoaded : Bool := false
  /-- A held DORMANT, SYS_STATE.HELD (R131). -/
  held : Bool := false
  /-- The commanded transition in progress, SYS_STATE.TRANSIT and TARGET (R122). -/
  trans : Option Transition := none
  /-- No valid configuration copy at the last load, SYS_STATE.CFG_DEFAULT (R137). -/
  cfgDefault : Bool := false
  /-- Cause of the last reset, SYS_RESET_CAUSE.CAUSE (R128). -/
  cause : BitVec 4 := 1
  /-- Cause of the reset before, SYS_RESET_CAUSE.PREV (R130). -/
  prev : BitVec 4 := 0
  /-- Resets since the last POR, SYS_RESET_CAUSE.COUNT, saturating (R130). -/
  count : Half := 0
  /-- Running from the other slot after a fallback, SYS_RESET_CAUSE.FALLBACK (R135). -/
  fallback : Bool := false
  /-- Image slot running, SYS_RESET_CAUSE.SLOT: false A, true B (Table 4-12). -/
  slot : Bool := false
  /-- Duration of the last commanded transition in us, SYS_TRANS.LAST_US (R126). -/
  lastUs : Half := 0
  /-- The device is held in reset by nRESET, a supply, TMODE or the restart condition (R129, R446, R477). -/
  inReset : Bool := false
  /-- A supply is out of range (R129). -/
  supplyOut : Bool := false
  /-- The supply fall took the always-on domain below its re-arm level (R129). -/
  lostAlwaysOn : Bool := false
  /-- Level of the TMODE ball (R477). -/
  tmode : Bool := false
  /-- Hardware thermal shutdown in force (R446). -/
  thermal : Bool := false
  /-- A reset has been taken while the hardware thermal shutdown stands (R446). -/
  thermalReset : Bool := false
  /-- Reference of the TIME PLL in force: 0 XIN, 1 TCLK 10 MHz, 2 TCLK 25 MHz (R149, R322). -/
  tref : BitVec 2 := 0
  /-- XIN_MODE in force since the last start of the oscillator (R149). -/
  xinMode : Bool := false
  /-- A commanded reset armed by RESET: true full, false soft (R133). -/
  resetArmed : Option Bool := none
  /-- A completed transition to EMBER or RETAIN waiting for its reply to be popped (R126). -/
  emberArmed : Option PowerState := none
  /-- The firmware runs, ENG_STAT.RUN (R134). -/
  fwRun : Bool := false
  /-- ms counted on LPO since power-on; carries the idle times and limits in seconds (R37, R68). -/
  lpoMs : Nat := 0
  /-- The thermal restart was the last reset, so start-up raises THERM_RESTART (Table 14-9). -/
  thermRestart : Bool := false
  deriving DecidableEq, Repr

/-- The SAFE hold (R144 to R147). -/
structure SafeSt where
  /-- Hold active, SYS_STATE.SAFE, HW_STATE[3] (R144). -/
  hold : Bool := false
  /-- The always-on SAFE latch (R145). -/
  latch : Bool := false
  /-- SAFE log words due and not yet programmed, oldest first: true a hold began (R145, R456). -/
  logDue : List Bool := []
  /-- Time of the acknowledgement after which acquisition may resume 2 ms later (R146). -/
  resumeAfter : Option Nat := none
  deriving DecidableEq, Repr

/-! ### HIF -/

/-- A command mailbox (R88, R89). -/
structure Mailbox where
  /-- Bytes stored, at most 4,104. -/
  buf : List Byte := []
  /-- HW_CMD_COUNT, saturating at 0xFFFF. -/
  count : Half := 0
  /-- SUBMITTED; CMD_READY is its negation. -/
  submitted : Bool := false
  deriving DecidableEq, Repr

/-- A reply packet and what its pop starts. -/
structure Reply where
  bytes : List Byte
  purpose : ReplyPurpose
  deriving DecidableEq, Repr

/-- What each host interface has of its own (R85). -/
structure HostPort where
  /-- Command mailbox (R88). -/
  mbox : Mailbox := {}
  /-- Reply queue, at most 8 (R57). -/
  replies : List Reply := []
  /-- Replies held outside the full queue, in order of production (R57). -/
  heldReplies : List Reply := []
  /-- Reply cursor in the head reply (R91). -/
  rplCursor : Nat := 0
  /-- Stream cursor: bytes read past the oldest unreleased record (R92, R93). -/
  rdCursor : Nat := 0
  /-- HW_PORT_STAT[3:0]: CMD_OVERRUN, RPL_UNDERRUN, RD_UNDERRUN, ALARM_UNDERRUN (Table 3-2). -/
  portStat : BitVec 4 := 0
  /-- The latched multi-byte status field: its lowest offset and bytes (R87). -/
  latch : Option (Nat × List Byte) := none
  /-- Window pointer (R99, R100). -/
  pointer : Half := 0
  /-- Protocol events, HIF_PROTO_CNT (Table 3-11). -/
  protoCnt : Half := 0
  /-- The bytes the last window or bus access returned to the host. -/
  lastRead : List Byte := []
  deriving DecidableEq, Repr

structure HifSt where
  /-- Two-wire port. -/
  twi : HostPort := {}
  /-- Quad serial port. -/
  quad : HostPort := {}
  /-- HIF_I2C_STAT[3:0]: SCL_TIMEOUT, SDA_TIMEOUT, COND_DISCARD, READ_LATE (Table 3-8); READ_LATE is also shown in
  HW_PORT_STAT[4] of the two-wire port. -/
  i2cStat : BitVec 4 := 0
  /-- HIF_I2C_STAT.BUS_BUSY. -/
  busBusy : Bool := false
  /-- HIF_I2C_STAT.LAST_ADDR. -/
  lastAddr : BitVec 7 := 0
  /-- The transaction the two-wire target answers: none idle, some true a read, some false a write (R99). -/
  twiSel : Option Bool := none
  /-- Two-wire configuration in force since the last START: HIF_I2C_CFG, HIF_I2C_ADDR, HIF_I2C_MASK (R98). -/
  twiCfg : Word × Word × Word := (0x0000000D, 0x000000AC, 0x00007F2C)
  /-- Quad serial configuration in force since the last CSn fall (R107). -/
  quadCfg : Word := 1
  /-- HIF_QSPI_STAT[1:0]: CS_ABORT, BAD_INSTR. -/
  qspiStat : BitVec 2 := 0
  /-- HIF_QSPI_STAT.ACTIVE: CSn low. -/
  csLow : Bool := false
  /-- HIF_IRQ_STAT[10:7]: FAULT, WAKE, MODE_LAG, PROTO (Table 3-13). -/
  irqEvents : BitVec 4 := 0
  /-- WAKEn asserted (R112). -/
  wakePin : Bool := false
  /-- Level of the SYNC ball, HIF_PIN_STAT.SYNC. -/
  syncLevel : Bool := false
  /-- Levels of TRIG3-TRIG0, HIF_PIN_STAT.TRIG. -/
  trigLevel : BitVec 4 := 0
  /-- The shared alarm port cursor in the oldest entry (R94). -/
  alarmCursor : Nat := 0
  /-- SYNC output pulses driven (R115): rise instants, newest first. -/
  syncPulses : List Nat := []
  deriving DecidableEq, Repr

/-! ### Commands, sessions, keys, journal (SEC) and NVM -/

/-- An outstanding deferred command (R56, R58). -/
structure Outstanding where
  opcode : Byte
  origin : Origin
  slot : Option (Fin 6)
  role : BitVec 2
  tag : Byte
  /-- reply flags: executed for a broadcast or relayed origin. -/
  broadcast : Bool
  params : List Byte
  deriving DecidableEq, Repr

/-- A relayed command whose reply the entry device awaits (R63). -/
structure Relay where
  iface : Iface
  tag : Byte
  dest : Byte
  opcode : Byte
  accepted : Bool
  deriving DecidableEq, Repr

/-- A broadcast whose answers the entry device collects (R65): (address, status) of each device that answered. -/
structure Bcast where
  iface : Iface
  tag : Byte
  opcode : Byte
  asked : List Byte
  answers : List (Byte × Byte)
  deriving DecidableEq, Repr

/-- One session slot (R66 to R70). -/
structure Session where
  /-- Origin that holds the slot: fixed for slots 0 and 1 (R66). -/
  origin : Option Origin := none
  /-- Role held, 0 NONE to 3 MAKER, SEC_SESSk.ROLE. -/
  role : BitVec 2 := 0
  /-- Pending challenge and the role named (R69). -/
  challenge : Option (BitVec 128 × BitVec 2) := none
  /-- Session key KS, 32 bytes (R450). -/
  ks : List Byte := []
  /-- Count N of KEY_SET commands completed in this session (R453). -/
  keySets : Byte := 0
  /-- Consecutive failed authentications, 0-5 (R70). -/
  fails : Nat := 0
  /-- Locked out (R70). -/
  lockout : Bool := false
  /-- LPO time in ms of the last command in the slot (SEC_SESSk.IDLE). -/
  lastMs : Nat := 0
  deriving DecidableEq, Repr

/-- A journal entry raised and not yet programmed (R140): Table 15-7 without SEQ and CHAIN. -/
structure RaisedEntry where
  time : Long
  role : Byte
  opcode : Byte
  result : Byte
  kind : Byte
  data : List Byte
  deriving DecidableEq, Repr

/-- A programmed journal entry (Table 15-7). -/
structure JEntry where
  seq : Nat
  body : RaisedEntry
  chain : List Byte
  /-- Some JOURNAL_READ has returned it (R461), and the slots whose present session it was returned to (R463). -/
  read : Bool
  readBy : BitVec 6
  deriving DecidableEq, Repr

/-- A keys-and-counters copy (Table 15-6). -/
structure KeysCopy where
  seq : Word := 0
  installed : BitVec 4 := 0
  policy : Bool := false
  confirmed : Bool := false
  pendingAct : Bool := false
  trial : BitVec 2 := 0
  safe : Bool := false
  cfgLock : BitVec 10 := 0
  fwCounter : Word := 0
  makerCounter : Word := 0
  released : Word := 0xFFFFFFFF
  opKey : List Byte := []
  instKey : List Byte := []
  makerKey : List Byte := []
  imageKey : List Byte := []
  /-- SAFE log words programmed, oldest first, at most 255: true a hold began. -/
  safeLog : List Bool := []
  deriving DecidableEq, Repr

/-- A configuration copy (Table 4-14): its sequence number, the writer's version and the items of R143. -/
structure CfgCopy where
  seq : Word
  version : Word
  items : RegFile
  deriving DecidableEq, Repr

/-- Every snuffed item (Table 14-6). -/
structure SnuffSet where
  lines : BitVec 280 := 0
  lanes : BitVec 32 := 0
  groups : BitVec 8 := 0
  ports : BitVec 4 := 0
  sensors : BitVec 9 := 0
  deriving DecidableEq, Repr

/-- A snuff list copy (Table 14-6). -/
structure SnuffCopy where
  seq : Word := 0
  items : SnuffSet := {}
  deriving DecidableEq, Repr

/-- One region of an image slot (R466): header and payload, or erased. -/
structure Image where
  header : List Byte
  payload : List Byte
  /-- VERSION and ROLLBACK of the header (Table 15-10). -/
  version : Word
  rollback : Word
  deriving DecidableEq, Repr

/-- An image slot (R466). -/
structure ImageSlot where
  fw : Option Image := none
  ext : Option Image := none
  dec : Option Image := none
  /-- The slot is valid, SEC_SLOTs.VALID. -/
  valid : Bool := false
  deriving DecidableEq, Repr

/-- An open image transfer (R467). -/
structure Transfer where
  kind : Byte
  dropMaker : Bool
  header : List Byte
  received : List Byte
  deriving DecidableEq, Repr

structure NvmSt where
  /-- Image slot A (Table 15-5). -/
  slotA : ImageSlot := { fw := some ⟨Config.factoryHeader, Config.factoryFirmware, Config.factoryVersion, Config.factoryRollback⟩, valid := true }
  /-- Image slot B. -/
  slotB : ImageSlot := {}
  /-- Configuration copies 0 and 1; none is erased or invalid (R142). -/
  cfg0 : Option CfgCopy := none
  cfg1 : Option CfgCopy := none
  /-- Snuff list copies 0 and 1 (R436). -/
  snuff0 : Option SnuffCopy := some {}
  snuff1 : Option SnuffCopy := none
  /-- Reference image bytes, when the area is not erased (Table 5-8). -/
  reference : Option (List Byte) := none
  /-- Programmed journal entries, by journal slot (R458): oldest first. -/
  journal : List JEntry := []
  /-- Journal sector that the background erase of R460 has still to erase. -/
  eraseDue : Option Nat := none
  /-- The trim record fails its check (R277): false as it leaves the factory. -/
  trimBad : Bool := false
  /-- Keys-and-counters copies 0 and 1 (R456). -/
  keys0 : Option KeysCopy := some { fwCounter := Config.factoryRollback, makerCounter := Config.factoryRollback }
  keys1 : Option KeysCopy := none
  /-- Erase counts by sector, NVM_WEAR (Table 15-12): (sector, count) for sectors erased at least once. -/
  erases : List (Nat × Nat) := []
  /-- Sectors whose contents an operation that failed has left open (status NVM_ERROR). -/
  junk : List Nat := []
  /-- NVM_ECC (Table 15-12): CORRECTED and UNCORRECTABLE. -/
  eccCorrected : Half := 0
  eccBad : Half := 0
  deriving DecidableEq, Repr

/-- The key an outstanding KEY_SET programs at its completion (R451): target, CLEAR, key bytes, and the slot of the
session that issued it, while that session lasts. -/
structure KeyJob where
  target : Nat
  clear : Bool
  key : List Byte
  slot : Option (Fin 6)
  deriving DecidableEq, Repr

structure SecSt where
  /-- Session slots 0-5 (R66). -/
  sessions : Vector Session 6 :=
    #v[{ origin := some (.loc .twi) }, { origin := some (.loc .quad) }, {}, {}, {}, {}]
  /-- Outstanding deferred commands, oldest first (R58). -/
  outstanding : List Outstanding := []
  /-- Relayed commands awaiting a reply (R63). -/
  relays : List Relay := []
  /-- Broadcasts awaiting answers (R65). -/
  bcasts : List Bcast := []
  /-- SEC_CFG_LOCK (R73). -/
  cfgLock : BitVec 10 := 0
  /-- Keys and counters in force, as loaded at start-up or updated (R456). -/
  keys : KeysCopy := { fwCounter := Config.factoryRollback, makerCounter := Config.factoryRollback }
  /-- SEC_STAT.KEY_AREA_DEFAULT (R456). -/
  keyAreaDefault : Bool := false
  /-- An update of the keys-and-counters area is due (R456, R457, R463). -/
  keysDue : Bool := false
  /-- Recovery (R470). -/
  recovery : Bool := false
  /-- Journal entries raised and not yet programmed, oldest first (R140). -/
  raised : List RaisedEntry := []
  /-- SEC_JRN_LOST.LOST and .UNREAD (R461, R462), saturating. -/
  lost : Half := 0
  unread : Half := 0
  /-- Entries lost since the last RELEASE entry (R462). -/
  lostSinceRelease : Nat := 0
  /-- Entries lost since the last JOURNAL_READ (Table 15-9). -/
  lostSinceRead : Bool := false
  /-- JOURNAL_FULL already raised for the present refusal (R462). -/
  fullRaised : Bool := false
  /-- The open image transfer (R467). -/
  transfer : Option Transfer := none
  /-- The key of an outstanding KEY_SET (R451). -/
  keyJob : Option KeyJob := none
  /-- The shadow words an outstanding SAVE_CONFIG stores: taken when it returned ACCEPTED (R59). -/
  saving : RegFile := []
  /-- Challenges drawn so far: the index of the next draw (R449). -/
  draws : Nat := 0
  /-- Firmware version that runs (R79); 0 in recovery. -/
  fwVersion : Word := 0
  deriving DecidableEq, Repr

/-! ### Faults -/

/-- The state of one unacknowledged occurrence chain (R431): source, item, raised severity, occurrences. -/
structure FaultItem where
  source : Nat
  item : Nat
  severity : Nat
  occur : Nat
  conseq : Bool
  escalated : Bool
  deriving DecidableEq, Repr

/-- The fault logic of one block (R423). -/
structure FaultSt where
  /-- FLT_STAT. -/
  stat : Word := 0
  /-- FLT_FIRST. -/
  first : Word := 0
  /-- FLT_CNT.RAISED and .CONSEQ. -/
  raisedCnt : Half := 0
  conseqCnt : Half := 0
  /-- Unacknowledged occurrences by source and item (R431). -/
  items : List FaultItem := []
  deriving DecidableEq, Repr

/-- A reset shadow in progress (R434, R435): the resetting block and the source that caused its reset. -/
structure Shadow where
  block : Nat
  source : Nat
  deriving DecidableEq, Repr

/-- What a block reset puts off until its shadow closes. -/
structure FaultAll where
  /-- The 14 blocks in the order of Table 1-1. -/
  blocks : Vector FaultSt 14 := Vector.replicate 14 {}
  /-- Open reset shadows, the one that began first at the head (R435). -/
  shadows : List Shadow := []
  /-- Raises recorded in EMBER or RETAIN whose reactions wait for DORMANT: block, source, item, severity (R429). -/
  deferred : List (Nat × Nat × Nat × Nat) := []
  deriving DecidableEq, Repr

/-! ### GRID -/

/-- A grid frame in progress (R157, R174). -/
structure FrameRun where
  slot : Nat
  kind : Nat
  carrier : Nat
  hop : Bool
  t0 : Nat
  epoch : Word
  deriving DecidableEq, Repr

/-- A completed frame held in the ring (R173). -/
structure HeldFrame where
  buffer : Nat
  slot : Nat
  kind : Nat
  seq : Word
  t0 : Nat
  epoch : Word
  dur : Nat
  deriving DecidableEq, Repr

/-- What CAPTURE_REFERENCE has gathered of one kind: frames counted, and per value its sum, minimum, maximum and the
frames in which it had a value. -/
structure CaptureKind where
  frames : Nat := 0
  acc : List (Int × Int × Int × Nat) := []
  deriving DecidableEq, Repr

/-- An outstanding CAPTURE_REFERENCE (R179). -/
structure Capture where
  kinds : Vector CaptureKind 3 := Vector.replicate 3 {}
  firstEpoch : Option Word := none
  carrier : Nat := 0
  ended : Bool := false
  deriving DecidableEq, Repr

structure GridSt where
  /-- GRID_STAT.RUNNING. -/
  running : Bool := false
  /-- A pending GRID_START: epoch at which it applies and FRAMES (R177). -/
  startAt : Option (Word × Nat) := none
  /-- A pending GRID_STOP: its boundary (R177). -/
  stopAt : Option Word := none
  /-- A limited run whose frames are done: stops at the next boundary (R177). -/
  runDone : Bool := false
  /-- GRID_FRAMES_LEFT; the run is limited when `limited`. -/
  framesLeft : Word := 0
  limited : Bool := false
  /-- FRAME_SEQ of the next completed frame (Table 5-5). -/
  nextSeq : Word := 0
  /-- GRID_FRAME_SEQ: FRAME_SEQ of the last completed frame. -/
  frameSeq : Word := 0
  /-- GRID_STAT.LAST_SLOT and .CARRIER. -/
  lastSlot : Nat := 0
  lastCarrier : Nat := 0
  /-- GRID_STAT.VTX_LOW. -/
  vtxLow : Bool := false
  /-- GRID_STAT.TRIM_DEFAULT (R167). -/
  trimDefault : Bool := false
  /-- GRID_TRIM: none the reset value 0x4000 everywhere, some the trims loaded from the record (R167). -/
  trims : Option (List Half) := none
  /-- The frame in progress (R157). -/
  frame : Option FrameRun := none
  /-- Index in GRID_SCHED of the next frame of this epoch. -/
  nextSlot : Nat := 0
  /-- A frame of the epoch in progress was lost (R181). -/
  frameLost : Bool := false
  /-- Held frames, newest first (R173), and how many of them the run since the last GRID_START completed, at most 5. -/
  ring : List HeldFrame := []
  runFrames : Nat := 0
  /-- The carrier of the last frame of each slot, for FLAGS.HOP (R174). -/
  slotCarrier : List (Nat × Nat) := []
  /-- Consecutive frames in which each sense lane overloaded: (lane, frames) (Table 5-7). -/
  overRuns : List (Nat × Nat) := []
  /-- Drive lines whose driver was switched off in this epoch (R180). -/
  driversOff : List Nat := []
  /-- The outstanding CAPTURE_REFERENCE (R179). -/
  capture : Option Capture := none
  /-- The reference image in NVM passes its CRC-32 (R182), GRID_STAT.REF_VALID. -/
  refValid : Bool := false
  /-- The reference the touch pipeline still uses until the next boundary after a capture stored a new one: whether it
  is valid, and its bytes (CAPTURE_REFERENCE). -/
  refOld : Option (Bool × List Byte) := none
  /-- A GRID block reset waits to restart acquisition (R181). -/
  restart : Bool := false
  deriving DecidableEq, Repr

/-! ### TCH -/

/-- A footprint node of a contact (R196): drive line, sense lane, Bf and hj in Q16.16. -/
structure FootNode where
  d : Nat
  n : Nat
  bf : Int
  hj : Int
  deriving DecidableEq, Repr

/-- One entry of the contact table (R207 to R210). -/
structure Contact where
  slot : Nat
  region : Nat
  /-- ID once reported DOWN; none while tentative. -/
  id : Option Nat
  hover : Bool
  x : Int
  y : Int
  prevX : Int
  prevY : Int
  /-- Seen in its last two frames (R207). -/
  seenTwice : Bool
  strength : Nat
  peak : Int
  area : Nat
  edge : Bool
  presentAtStart : Bool
  driftNone : Bool
  /-- Further consecutive matches while tentative; consecutive misses once reported. -/
  matched : Nat
  missed : Nat
  /-- START_TIME of the frame of DOWN, td (R198). -/
  downTime : Nat
  downX : Int
  downY : Int
  /-- START_TIME and last seen. -/
  seen : Bool
  /-- Drift h in Q16.16, and the ring: node and its baseline at first report (R196). -/
  drift : Int
  ring : List (Nat × Nat × Int)
  foot : List FootNode
  /-- The only touch contact of its region since DOWN (R217). -/
  alone : Bool
  longDone : Bool
  /-- The frame of the LONG_PRESS decision has passed (R217). -/
  longSeen : Bool
  /-- Reported with CANCELLED in the next window frame 1 or record (R189, section 6.11). -/
  cancelled : Bool
  deriving DecidableEq, Repr

/-- What the pipeline keeps per region (R184 to R218). -/
structure RegionSt where
  /-- Start-up window in progress: frames seen in the present 8, and windows begun (R189, R190). -/
  window : Option (Nat × Nat) := none
  /-- BASELINE_RESET MODE = 1 for this window: the reference is ignored. -/
  ignoreRef : Bool := false
  /-- Values of the window's frames, newest first: (node values of the region, lane-major). -/
  winVals : List (List (Option Int)) := []
  refUsed : Bool := false
  /-- Nodes active in the previous processed frame (R200, R214). -/
  actives : List (Nat × Nat) := []
  /-- WET on, its count of qualifying frames, and the wet rectangle (R205). -/
  wet : Bool := false
  wetRun : Nat := 0
  wetRect : Option (Nat × Nat × Nat × Nat) := none
  presence : Bool := false
  liquid : Bool := false
  liquidRun : Nat := 0
  /-- Last reported area count (R214). -/
  lastArea : Nat := 0
  /-- Nodes whose NODE_CHANGE is disarmed (R215). -/
  changed : List (Nat × Nat) := []
  /-- Nodes that were anti in the previous processed frame are marked in the node state byte (Table 6-10). -/
  relearn : List (Nat × Nat × Nat × Int) := []
  /-- START_TIME of the region's last processed mutual frame (R189). -/
  lastTime : Option Nat := none
  /-- NO_SELF_FRAME and CONTACT_OVERFLOW already raised in this window (R203, R208). -/
  noSelfRaised : Bool := false
  overflowRaised : Bool := false
  /-- Contacts reported in the region in the last frame. -/
  contacts : Nat := 0
  /-- Groups present at start: their nodes, and DRIFT_NONE (R191). -/
  present : List (List (Nat × Nat) × Bool) := []
  /-- The region's previous TAP: UP time, x, y (R217). -/
  lastTap : Option (Nat × Int × Int) := none
  deriving DecidableEq, Repr

/-- What the pipeline keeps per self set (R194, R199, R203). -/
structure SelfSt where
  /-- Frames of the self window seen, none once it has ended. -/
  window : Option Nat := some 0
  winVals : List (List (Option Int)) := []
  /-- The last processed self frame: START_TIME, end time, signal per line. -/
  last : Option (Nat × Nat × List (Option Int)) := none
  deriving DecidableEq, Repr

/-- What the pipeline keeps per control (R211 to R213). -/
structure ControlSt where
  touched : Bool := false
  position : Nat := 0
  strength : Nat := 0
  lastReported : Nat := 0
  /-- Baselines of a node-set control follow the node's own. -/
  everReported : Bool := false
  deriving DecidableEq, Repr

structure TchSt where
  regions : Vector RegionSt 8 := Vector.replicate 8 {}
  selfs : Vector SelfSt 2 := Vector.replicate 2 {}
  controls : Vector ControlSt 16 := Vector.replicate 16 {}
  /-- The contact table (R207). -/
  contacts : List Contact := []
  /-- TCH_STAT.ID_NEXT (R210). -/
  idNext : Nat := 0
  /-- Freed IDs not yet passed by ID_NEXT: (id, IDs still to pass) (R210). -/
  idFreed : List (Nat × Nat) := []
  /-- The next CONTACTS record carries RESTART (R210). -/
  restart : Bool := false
  /-- TCH_STAT.RUNNING, .NO_SELF, .CONTACTS. -/
  running : Bool := false
  noSelf : Bool := false
  reported : Nat := 0
  /-- TCH_FRAME_SEQ, and the SLOT of that frame. -/
  frameSeq : Word := 0
  lastSlot : Nat := 0
  /-- TCH_CNT and TCH_CNT2, saturating. -/
  cntOverflow : Half := 0
  cntStuck : Half := 0
  cntAnti : Half := 0
  cntSkipped : Half := 0
  /-- EPOCH and CONTACTS payload of the last processed mutual frame (READ_CONTACTS). -/
  lastPayload : Option (Word × List Byte) := none
  /-- Regions with a BASELINE_RESET waiting for the boundary: mask and MODE. -/
  resetWait : List (Nat × Bool) := []
  /-- Frames completed and not yet processed, oldest first (R222). -/
  todo : List HeldFrame := []
  /-- Lines whose self baseline has a value (R194). -/
  selfBased : BitVec 280 := 0
  /-- TCH processing waits for the close of a reset shadow (R225). -/
  restartWait : Bool := false
  deriving DecidableEq, Repr

/-! ### CARR -/

/-- A gang of the ember scan while in EMBER (R248, R249). -/
structure GangSt where
  /-- Baseline B once set, exactly: a numerator and the power of two it is divided by, in 1/8 pC. -/
  base : Option (Int × Nat) := none
  /-- Values of the scans that still gather the first baseline, newest first. -/
  first : List Int := []
  /-- The last s, rounded; none where the last scan gave no value. -/
  signal : Option Int := none
  /-- Consecutive scans with s at or above APPROACH and TOUCH. -/
  approachRun : Nat := 0
  touchRun : Nat := 0
  armed : Bool := true
  negRun : Nat := 0
  /-- Scans of a rebase gathered (R248). -/
  rebase : Option (List Int) := none
  overloaded : Bool := false
  /-- A scan has measured the gang since entry. -/
  seen : Bool := false
  deriving DecidableEq, Repr

/-- An outstanding NOISE_SURVEY (R245). -/
structure Survey where
  mask : Nat
  values : Nat
  standalone : Bool
  running : Bool
  /-- Values gathered: (entry, lane, values of that lane). -/
  got : List (Nat × Nat × List Int)
  deriving DecidableEq, Repr

structure CarrSt where
  /-- CARR_STAT.ACTIVE. -/
  active : Nat := 0
  /-- The shadow candidate, none while the shadow is off (R237). -/
  shadow : Option Nat := none
  /-- CARR_STAT.DWELL_LEFT. -/
  dwellLeft : Nat := 0
  /-- A decided hop: target, earliest start instant, FI of the target (R241). -/
  hop : Option (Nat × Nat × Nat) := none
  /-- Consecutive evaluations in which the hop condition held (R240). -/
  holdRun : Nat := 0
  /-- Mutual frames since the last hop; none before the first (R240). -/
  sinceHop : Option Nat := none
  /-- CARR_STAT.NOISY and .BLOCKED. -/
  noisy : Bool := false
  blocked : Bool := false
  /-- Windows: per mutual frame (sum of u^2, N), newest first (R234, R237). -/
  curWin : List (Nat × Nat) := []
  candWin : List (Nat × Nat) := []
  /-- Shadow chip samples of the block being filled, per lane (R238). -/
  blocks : List (Nat × List Int) := []
  /-- Shadow values gathered since the last mutual frame: (sum of u^2, N). -/
  gathered : Nat × Nat := (0, 0)
  /-- CARR_FIn: FI and AGE (R235). -/
  fi : Vector (Half × Half) 16 := Vector.replicate 16 (0, 0xFFFF)
  /-- The pending AT_EPOCH change: epoch, register words, a named CURRENT (R243). -/
  pendingSet : Option (Word × List (Nat × Word) × Option Nat) := none
  /-- A CURRENT named by CARRIER_TABLE for the next boundary (R243). -/
  named : Option Nat := none
  /-- CARR_HOPS, saturating. -/
  hops : Half := 0
  cancelled : Half := 0
  survey : Option Survey := none
  /-- The ember scan: gangs, scans since entry, CARR_EMB_STAT (R247 to R250). -/
  gangs : Vector GangSt 8 := Vector.replicate 8 {}
  scans : Half := 0
  approach : Byte := 0
  touch : Byte := 0
  /-- The first frame on a new carrier owes a HOP event: old, new, V2 (R252). -/
  hopEvent : Option (Nat × Nat × Nat) := none
  deriving DecidableEq, Repr

/-! ### BRDG -/

/-- How the last violation of a window has been classed: not yet or not as an event, as an event, as one decided
permanent (R269, R271, R272). -/
inductive WinClass where
  | none | event | permanent
  deriving DecidableEq, Repr

/-- A common-mode window watched on a lane or a sense pair (R268 to R274). -/
structure WinSt where
  /-- The violation in progress, dated t_out. -/
  viol : Option Nat := none
  /-- The last violation, as (t_out, t_clear) or still running, for R272. -/
  lastViol : Option (Nat × Option Nat) := none
  /-- INVALID marking in force: from t_out, and samples still to be marked after t_clear (R270). -/
  invalidLeft : Nat := 0
  /-- How the last violation was classed (R269). -/
  classed : WinClass := .none
  /-- t_out of events begun, newest first (R271), and how many of them are neither transient nor permanent yet. -/
  events : List Nat := []
  openEv : Nat := 0
  /-- An ended event not yet closed as transient: t_clear (R271). -/
  clear : Option Nat := none
  /-- TRANSIENTS, saturating. -/
  transients : Half := 0
  deriving DecidableEq, Repr

/-- A change of BRDG registers waiting for its named epoch (R264). -/
structure BrdgChange where
  epoch : Word
  writes : List (Nat × Word)
  deriving DecidableEq, Repr

structure BrdgSt where
  lanes : Vector WinSt 32 := Vector.replicate 32 {}
  groups : Vector WinSt 8 := Vector.replicate 8 {}
  /-- BRDG_EGg_STAT.OVERCURRENT and .VEX_LOW. -/
  overcurrent : BitVec 8 := 0
  vexLow : BitVec 8 := 0
  /-- Force switches closed, BRDG_STAT.EXC_ON (R120). -/
  excOn : BitVec 8 := 0
  /-- Check DAC: MODE, ATTEN, CODE, lanes connected; and the connection waiting for boundaries (R275, R276). -/
  chkMode : BitVec 2 := 0
  chkAtten : BitVec 3 := 0
  chkCode : BitVec 12 := 0
  chkLanes : Word := 0
  /-- Lanes whose check connection applies at their next output-sample boundary (R276). -/
  chkWait : Word := 0
  /-- Lanes connected in effect: samples carry CHECK (R276). -/
  chkOn : Word := 0
  /-- BRDG_STAT.TRIM_DEFAULT and .TRIM_NEUTRAL (R279). -/
  trimDefault : Bool := false
  trimNeutral : Bool := false
  /-- BRDG_TRIMn: OFFSET and GAIN (R278). -/
  trims : Vector (BitVec 10 × BitVec 10) 32 := Vector.replicate 32 (0x200, 0x200)
  /-- BRDG_TRIM_CHECK. -/
  trimCheck : Word := 0
  /-- AT_EPOCH changes waiting, oldest first (R264). -/
  waiting : List BrdgChange := []
  /-- A BRDG block reset is less than 20 us old; groups whose switches it still holds open (R282). -/
  restart : Bool := false
  held : BitVec 8 := 0
  deriving DecidableEq, Repr

/-! ### CONV -/

/-- One threshold of a lane (R302). -/
structure ThrSt where
  armed : Bool := true
  run : Nat := 0
  deriving DecidableEq, Repr

/-- One lane's conversion state (R290 to R306). -/
structure LaneSt where
  /-- CONV_LANEn_STAT.CONVERTING. -/
  on : Bool := false
  /-- Pending start or stop: its epoch (R290). -/
  startAt : Option Word := none
  stopAt : Option Word := none
  /-- CONTINUOUS: selected from this instant on; the first sample is still due its FIRST (R291). -/
  runFrom : Option Nat := none
  /-- Instants still to acquire in the running burst, and the instants of events whose first selected instant is still
  to come, oldest first (R291, R292). -/
  burstLeft : Nat := 0
  evq : List Nat := []
  firstDue : Bool := false
  /-- CONV_LANEn_STAT.SETTLE_LEFT (R296). -/
  settle : Nat := 0
  /-- An overload whose bits are still in the filter window: negative, and the samples that still hold one (R298). -/
  ovl : Option (Bool × Nat) := none
  /-- SETTLING samples still due after the last overloaded sample (R298). -/
  ovlLeft : Nat := 0
  thr : Vector ThrSt 2 := Vector.replicate 2 { armed := false }
  /-- Onset: last acting value, magnitudes of the differences newest first, armed, sum of squares of the frozen LTA
  window, samples since the trigger (R304, R306). -/
  lastX : Option Int := none
  diffs : List Nat := []
  onsetArmed : Bool := true
  ltaFrozen : Option Nat := none
  sinceTrig : Nat := 0
  /-- Index of the next sample within the epoch (R29). -/
  nextIdx : Nat := 0
  /-- CONV_LANEn_LAST. -/
  last : Word := 0
  /-- CONV_LANEn_CNT. -/
  events : Half := 0
  trigs : Half := 0
  /-- Words are zero and INVALID until the lane's restart (R309); the restart comes with the next sample. -/
  blank : Bool := false
  restartDue : Bool := false
  /-- A MOD edge error since the last sample: it carries INVALID (Table 9-11). -/
  badEdge : Bool := false
  deriving DecidableEq, Repr

structure ConvSt where
  lanes : Vector LaneSt 32 := Vector.replicate 32 {}
  /-- All-lane resets pending: target epochs of DECIM_SYNC; the earliest instant of a SYNC edge's (R294, R295). -/
  decimAt : List Word := []
  syncFrom : Option Nat := none
  /-- CONV_STAT.LAST_RESET, CONV_SYNC_EPOCH, CONV_SYNC_EDGE. -/
  lastReset : BitVec 3 := 0
  syncEpoch : Word := 0
  syncEdge : Long := 0
  /-- CONV_CNT. -/
  syncs : Half := 0
  retrig : Half := 0
  /-- The pending AT_EPOCH change: epoch and register words (CONV_STAT.PENDING_SET). -/
  pendingSet : Option (Word × List (Nat × Word)) := none
  /-- The last INTERVAL event (R291), and the period in ns of the epoch before the present one. -/
  lastInterval : Option Nat := none
  prevP : Nat := 0
  /-- Events of the epoch for EVENT records, newest first: (lane, entry) (Table 12-2). -/
  events : List (Nat × List Byte) := []
  /-- Acquisition paused by a taper or the SAFE hold (R286, R445). -/
  paused : Bool := false
  deriving DecidableEq, Repr

/-! ### TIME -/

/-- A time trigger (R329). -/
structure TrigSt where
  armed : Bool := false
  mode : Nat := 0
  mark : Bool := false
  next : Nat := 0
  period : Nat := 0
  instant : Nat := 0
  /-- Firings remaining, TIME_TRGu_COUNT while armed. -/
  count : Word := 0
  fired : Half := 0
  missed : Half := 0
  deriving DecidableEq, Repr

/-- A capture unit's results (R330). -/
structure CapSt where
  time : Long := 0
  valid : Bool := false
  overrun : Bool := false
  falling : Bool := false
  step : Bool := false
  count : Half := 0
  deriving DecidableEq, Repr

/-- The epoch schedule (R22): P in us, T0 in ns, N0. -/
structure Schedule where
  p : Nat
  t0 : Nat
  n0 : Word
  deriving DecidableEq, Repr

/-- A beacon exchange in progress (R319): t1, t2 and t3 in 1/65,536 ns, SEQ and port. -/
structure Exchange where
  t1 : Int
  t2 : Int
  t3 : Option Int
  seq : Half
  port : Nat
  llUid : Long
  deriving DecidableEq, Repr

structure TimeSt where
  /-- TIME_STAT.STATE. -/
  state : TimeState := .stopped
  /-- The counter in ns and its fraction in 2^-32 ns (R311). -/
  ns : Nat := 0
  frac : Nat := 0
  /-- TIME_NOW_HI and TIME_NOW_FRAC as latched (R314). -/
  latchHi : Word := 0
  latchFrac : Word := 0
  /-- INCR as INCR_INT * 2^32 + INCR_FRAC (R311). -/
  incr : Nat := 0x800000000
  /-- TIME_STAT.ACQ. -/
  acq : Bool := false
  /-- y and I in 10^-12 (R321). -/
  y : Int := 0
  integ : Int := 0
  clamped : Bool := false
  clampRun : Nat := 0
  /-- Last theta and d_avg in 1/65,536 ns (R319). -/
  theta : Int := 0
  dAvg : Option Int := none
  accepted : Nat := 0
  /-- TIME_OFFSET and TIME_PATH as shown, in 1/16 ns. -/
  thetaReg : Int := 0
  pathReg : Int := 0
  /-- The counter right after the last step, while its tick lasts: a capture then carries STEP (R330). -/
  stepTick : Option (Nat × Nat) := none
  /-- Receive stamp in ns of the last SYNC accepted (R325). -/
  lastSync : Option Nat := none
  /-- The exchange in progress. -/
  exch : Option Exchange := none
  /-- A first large theta waiting for a second that agrees (R326). -/
  bigTheta : Option Int := none
  /-- Consecutive exchanges within, and beyond, LOCK_THR (Table 10-2). -/
  inThr : Nat := 0
  outThr : Nat := 0
  /-- Consecutive beacons missed (R325). -/
  missedRun : Nat := 0
  /-- Tb in force: INTERVAL (R317). -/
  interval : BitVec 3 := 2
  /-- Depth in the time tree (R316). -/
  depth : Nat := 0
  /-- PPS servo: running, an edge seen (R323). -/
  ppsOn : Bool := false
  ppsSeen : Bool := false
  ppsLost : Bool := false
  /-- SET_AT_PPS pending value (R327). -/
  ppsSet : Option Nat := none
  /-- ADJUST_SLEW in progress: ns still to gain, signed (R327). -/
  slew : Option Int := none
  /-- Whole seconds: next PPSOUT rise, and its level (R324). -/
  ppsOut : Bool := false
  /-- The epoch schedule (R22). -/
  sched : Option Schedule := none
  /-- A schedule carried by SYNC, to adopt at its first boundary (R328). -/
  adopt : Option Schedule := none
  /-- Number of the last boundary taken: the epoch in progress; none before the first (R31). -/
  epoch : Option Word := none
  /-- Last epoch acquired (R26, R36). -/
  lastAcq : Option Word := none
  /-- Next SEQ of SYNC per port (Table 10-3). -/
  syncSeq : Vector Half 4 := Vector.replicate 4 0
  trigs : Vector TrigSt 16 := Vector.replicate 16 {}
  caps : Vector CapSt 8 := Vector.replicate 8 {}
  /-- TIME_CNT and TIME_CNT2. -/
  steps : Half := 0
  holdovers : Half := 0
  badExch : Half := 0
  missed : Half := 0
  /-- TCLK was lost since the last DORMANT to STANDBY transition (R322). -/
  tclkLost : Bool := false
  /-- A forward or backward step since the last boundary taken: decimators restart (Table 9-4). -/
  stepped : Bool := false
  deriving DecidableEq, Repr

/-! ### LINK -/

/-- One port (R336 to R347). -/
structure PortSt where
  state : PortState := .off
  nbrUid : Long := 0
  nbrPort : Fin 4 := 0
  nbrAddr : Byte := 0xFF
  loop : Bool := false
  mismatch : Bool := false
  /-- LINK_PORTn_ERR and _CNT, saturating. -/
  codeErr : Half := 0
  crcErr : Half := 0
  discards : Half := 0
  retrains : Half := 0
  /-- LPO times in ms of retrains and of CRC errors (Table 11-10). -/
  retrainMs : List Nat := []
  crcMs : List Nat := []
  /-- Credit held per class: frames for class 0, 64-byte units otherwise (R345). -/
  credit : Vector Nat 4 := #v[8, 512, 128, 128]
  /-- Frames that wait for credit or for the port, oldest first (R339, R346). -/
  waiting : List Frame := []
  /-- Class-1 frames that left while a class-2 frame waited (R346). -/
  starve : Nat := 0
  /-- Frames that have left the port, oldest first. -/
  sent : List Frame := []
  /-- Frames of the last 100 ms: instant in ns, STREAM record bytes, characters on the line (LINK_PORTn_LOAD). -/
  tx : List (Nat × Nat × Nat) := []
  deriving DecidableEq, Repr

/-- A packet being reassembled (R356). -/
structure Reasm where
  isReply : Bool
  src : Byte
  iface : Iface
  tag : Byte
  next : Nat
  bytes : List Byte
  dest : Byte
  deriving DecidableEq, Repr

/-- A class-0 event that LINK holds until it is acknowledged (R358). -/
structure PendAlarm where
  aseq : Half
  sent : Bool
  entry : List Byte
  deriving DecidableEq, Repr

/-- A mode change held as prepared (R362). -/
structure Prepared where
  change : ModeChange
  committed : Bool
  lagging : Bool
  /-- The old schedule has ended and the change applies at the first boundary of the new one (R365). -/
  resume : Bool
  deriving DecidableEq, Repr

/-- The lamplighter's own record of the change in flight (R361 to R363). -/
structure Flight where
  change : ModeChange
  asked : List Byte
  acks : List (Byte × Byte)
  prepared : Bool
  /-- COMMIT sent; devices that acknowledged it; devices that reported APPLIED with their epoch. -/
  commitSent : Bool
  commitAcks : List Byte
  applied : List (Byte × Word)
  aborted : Bool
  abortAcks : List Byte
  deriving DecidableEq, Repr

structure LinkSt where
  ports : Vector PortSt 4 := Vector.replicate 4 {}
  /-- LINK_STAT.JOINED. -/
  joined : Bool := false
  /-- LINK_STAT.SETTLED. -/
  settled : Bool := false
  /-- Address held, and its validity (R351). -/
  addr : Option Byte := none
  /-- PIN in force since the last join; 0xFF none (R351, LAMPLIGHTER_PRIORITY). -/
  pin : Byte := 0xFF
  /-- The elected lamplighter: UID, priority and address (R349); none while the device is standalone. -/
  ll : Option (Long × Byte × Byte) := none
  /-- Parent port and DEPTH (R349). -/
  parent : Option (Fin 4) := none
  depth : Nat := 0
  /-- Topology database: the newest record of each other originator (R348). -/
  topo : List Topo := []
  /-- This device's TOPO SEQ, and the newest ASSIGN record held (R348, R351). -/
  topoSeq : Word := 0
  assigns : List Assign := []
  assignSeq : Word := 0
  /-- The database changed since the last settling. -/
  dirty : Bool := false
  /-- LINK_TOPO_GEN. -/
  topoGen : Word := 0
  /-- Route table: (address, port, hops) of valid entries (R353). -/
  routes : List (Nat × Fin 4 × Nat) := []
  /-- LINK_MODE: MODE_GEN and MODE_ID (R34, R364). -/
  modeGen : Half := 0
  modeId : Half := 0
  /-- MODE_LAG (R364). -/
  modeLag : Bool := false
  /-- The prepared change held (R362). -/
  prep : Option Prepared := none
  /-- The lamplighter's change in flight (R361). -/
  flight : Option Flight := none
  /-- Packets being reassembled (R356). -/
  reasm : List Reasm := []
  /-- Reassembled command packets not yet taken (engine line 16). -/
  cmdReady : Nat := 0
  /-- Alarms unsent or unacknowledged (R358), next ASEQ, and accepted ASEQs per source (the last 64). -/
  alarms : List PendAlarm := []
  aseq : Half := 0
  seenAseq : List (Byte × Half) := []
  /-- LINK_CNT and LINK_ALARM_CNT, saturating. -/
  elections : Half := 0
  noRoute : Half := 0
  alarmSent : Half := 0
  alarmResent : Half := 0
  /-- A FABRIC_JOIN is outstanding: true join (R348). -/
  joining : Option Bool := none
  /-- Reservations granted on this device's egress ports: origin, stream, port, R (R378). -/
  reserved : List (Byte × Nat × Nat × Nat) := []
  deriving DecidableEq, Repr

/-! ### RES -/

/-- A record in a stream's share (R372). -/
structure Rec where
  /-- Order of completion in the reservoir, over all streams (R382). -/
  order : Nat
  seq : Word
  /-- Header, payload and padding. -/
  bytes : List Byte
  /-- DRAIN_LATE already raised for it (R383). -/
  late : Bool
  /-- Its place in the share. -/
  off : Nat
  deriving DecidableEq, Repr

/-- A dark run in progress (R381). -/
structure DarkRun where
  first : Word
  last : Word
  cause : Nat
  sources : Nat
  start : Nat
  stop : Nat
  parity : Bool
  deriving DecidableEq, Repr

/-- A BRIDGE_BLOCK under construction (R300): lane group key, first time, index, instants so far. -/
structure BlockRun where
  rate : Nat
  align : Bool
  coding : Bool
  source : Nat
  lanes : Nat
  resp : Nat
  firstTime : Nat
  firstIdx : Nat
  count : Nat
  epoch : Word
  words : List Byte
  deriving DecidableEq, Repr

/-- An admission that waits for the answers of the route and the destination (R378, check 6): whose reply is due, the
pages and place meant, and what admission computed. -/
structure Asking where
  origin : Origin
  tag : Byte
  dest : Byte
  pages : Nat
  base : Nat
  e : Nat
  rate : Nat
  share : Nat
  deriving DecidableEq, Repr

/-- One stream (R375 to R385). -/
structure StreamSt where
  /-- The admission: pages granted, first page, E, R (R379). -/
  admitted : Bool := false
  pages : Nat := 0
  base : Nat := 0
  e : Nat := 0
  rate : Nat := 0
  running : Bool := false
  startAt : Option Word := none
  stopAt : Option Word := none
  overAdmit : Bool := false
  /-- Fabric receive stream: its origin (R385). -/
  rx : Option (Byte × Nat) := none
  /-- Dark with cause RESERVOIR_FULL, waiting to resume (R381). -/
  full : Bool := false
  /-- Dark runs in progress (R381), and the sources dark in the epoch in progress: (cause code, mask). -/
  darks : List DarkRun := []
  darkNow : List (Nat × Nat) := []
  /-- Unused reservation of the epoch in progress, and of the epoch before it (R380). -/
  reserved : Nat := 0
  prevReserved : Nat := 0
  /-- The epoch being acquired and the sources acquired in it; the same of the epoch before. -/
  accEpoch : Option Word := none
  accMask : Nat := 0
  prevEpoch : Option Word := none
  prevMask : Nat := 0
  seq : Word := 0
  /-- Records not yet released, oldest first. -/
  recs : List Rec := []
  /-- Next place in the share. -/
  wp : Nat := 0
  /-- Blocks under construction (R300). -/
  blocks : List BlockRun := []
  /-- TIME_MARK entries of the epoch in progress, oldest first (R331, R376). -/
  marks : List (List Byte) := []
  darkRuns : Half := 0
  marksLost : Half := 0
  /-- Fabric transport (R357): sequence of the first unacknowledged segment, segments sent and unacknowledged, and
  bytes of the oldest record already acknowledged; at the destination: next SEG_SEQ, segments since the
  last ack, its instant, and record bytes not yet whole. -/
  segBase : Half := 0
  segsOut : List Nat := []
  ackedBytes : Nat := 0
  rxNext : Half := 0
  rxCount : Nat := 0
  rxAck : Nat := 0
  rxBytes : List Byte := []
  /-- An admission request in flight (R378): answers awaited. -/
  asking : Option Asking := none
  deriving DecidableEq, Repr

/-- An alarm queue entry (Table 12-6): its 32 bytes. -/
abbrev AlarmEntry := List Byte

structure ResSt where
  /-- The 2 MiB reservoir SRAM as device space shows it (R370). Unlisted bytes read 0x00. -/
  mem : Memory := []
  streams : Vector StreamSt 16 := Vector.replicate 16 {}
  /-- The alarm queue, oldest first, at most 64 (R386). -/
  alarms : List AlarmEntry := []
  /-- RES_ALARM_STAT.LOST, and LOST_BEFORE owed to the next entry (R387). -/
  alarmLost : Half := 0
  lostBefore : Bool := false
  /-- Records completed so far: the order of completion. -/
  order : Nat := 0
  /-- A RES block reset keeps streams dark up to the restart (R389). -/
  restart : Bool := false
  deriving DecidableEq, Repr

/-! ### HKP -/

structure HkpSt where
  /-- HKP_CHc.VALUE of the last round (Table 14-8). -/
  ch : Vector Half 24 := Vector.replicate 24 0
  /-- HKP_CHc.RUN: consecutive rounds disagreeing, per sensor (R442). -/
  disagree : Vector Nat 9 := Vector.replicate 9 0
  /-- Tj in 0.01 degrees (R440). -/
  tj : Int := 0
  /-- TEMP_WARN raised and not yet re-armed (R440). -/
  warned : Bool := false
  /-- SENSORS_LOW raised (R443). -/
  sensorsLow : Bool := false
  /-- Taper level computed, and in force since the last boundary (R444). -/
  k : Nat := 0
  kActive : Nat := 0
  hotRun : Nat := 0
  coolRun : Nat := 0
  /-- Taper pause in progress (R445). -/
  pause : Bool := false
  /-- The internal check channel was outside its limits in the last round (Table 14-10). -/
  checkBad : Bool := false
  /-- Consecutive rounds with a supply out of range, at most 2, channels 9-13 (R439). -/
  supplyRun : Vector Nat 5 := Vector.replicate 5 0
  /-- HKP_ROUND, HKP_CNT. -/
  rounds : Word := 0
  taperEpochs : Half := 0
  disagreeCnt : Half := 0
  /-- TAPER_EPOCHS of HEALTH_READ, saturating at 32 bits (Table 14-12). -/
  taperTotal : Nat := 0
  deriving DecidableEq, Repr

/-! ### ENG -/

/-- A loop's registers (R392). -/
structure LoopRegs where
  lstart : Half := 0
  lend : Half := 0
  lcount : Half := 0
  deriving DecidableEq, Repr

/-- A multiply or divide on its way: cycles until delivery, and what it delivers (R409). -/
structure MulDue where
  left : Nat
  product : Half
  deriving DecidableEq, Repr
structure DivDue where
  left : Nat
  quo : Byte
  rem : Byte
  v : Bool
  dz : Bool
  deriving DecidableEq, Repr

/-- The registers an aperture has (R396, R397). -/
structure Aperture where
  b0 : Byte := 0
  b1 : Byte := 0
  base : BitVec 20 := 0
  /-- Read latch: word address and word. -/
  latch : Option (Nat × Word) := none
  /-- Write buffer: word address and bytes gathered. -/
  wbuf : Option (Nat × Word) := none
  deriving DecidableEq, Repr

/-- What the hardware saved at a hook call (R419). -/
structure HookSave where
  hook : Nat
  w8 : Vector Byte 8
  sp : Half
  ldepth : Nat
  ret : Half
  budget : Nat
  writes : Nat
  inHandler : Nat
  deriving DecidableEq, Repr

/-- A decode-table entry (Table 13-13). -/
structure DecodeEntry where
  start : Byte := 0
  en : Bool := false
  repOk : Bool := false
  limit : Byte := 0
  deriving DecidableEq, Repr

structure EngSt where
  /-- W0-W15 (R392). -/
  w : Vector Byte 16 := Vector.replicate 16 0
  pc : Half := 0
  sp : Half := 0x8000
  /-- FLAGS (Table 13-1): Z C N V DZ RP IE. -/
  fz : Bool := false
  fc : Bool := false
  fn : Bool := false
  fv : Bool := false
  fdz : Bool := false
  frp : Bool := false
  fie : Bool := false
  /-- LSTART, LEND, LCOUNT of the innermost loop, and the enclosing loops, innermost first. -/
  loop : LoopRegs := {}
  loopStack : List LoopRegs := []
  ldepth : Nat := 0
  repcnt : Byte := 0
  /-- MULH:MULL, QUO, REM. -/
  mul : Half := 0
  quo : Byte := 0
  rem : Byte := 0
  /-- Results on their way. -/
  mulDue : List MulDue := []
  divDue : Option DivDue := none
  /-- High bytes latched by a read of a low byte: SPH, LCOUNTH, LSTARTH, LENDH (R393). -/
  latchSp : Option Byte := none
  latchLcount : Option Byte := none
  latchLstart : Option Byte := none
  latchLend : Option Byte := none
  /-- Held writes of SPL and LCOUNTL (R393). -/
  heldSpl : Option Byte := none
  heldLcountl : Option Byte := none
  /-- The next instruction is skipped (R402). -/
  skipNext : Bool := false
  /-- A REP prefix has been decoded and its first iteration has not begun (R408). -/
  repFirst : Bool := false
  /-- The PC was advanced past 0xFFFF: the next fetch wraps (R394). -/
  wrap : Bool := false
  /-- Engine cycles spent since the engine's registers were last reset (R398, R400). -/
  cycles : Nat := 0
  /-- ENG_STAT.WAITING. -/
  waiting : Bool := false
  /-- Local registers: apertures, STACK_LIM (Table 13-4). -/
  aps : Vector Aperture 4 := Vector.replicate 4 {}
  stackLim : Half := 0x7000
  /-- Engine data RAM, 32 KiB. Unlisted bytes read 0x00 (R394). -/
  ram : Memory := []
  /-- Program RAM words loaded: firmware, then extension from 0xC000 (R394). -/
  fwWords : List Half := []
  extWords : List Half := []
  /-- ENG_DECODEk and the control store (R415). -/
  decode : Vector DecodeEntry 16 := Vector.replicate 16 {}
  store : List Word := []
  /-- Pending edge lines 15, 17-23 (R411). -/
  edges : Word := 0
  /-- Interrupts nested: return happens by RETI. -/
  handler : Nat := 0
  /-- The hook in progress (R419), and ENG_EXT_STAT, ENG_EXT_CNT. -/
  hook : Option HookSave := none
  lastHook : Nat := 0
  lastW0 : Byte := 0
  calls : Half := 0
  overruns : Half := 0
  /-- ENG_STAT.LAST_RESTART and .RESTARTS. -/
  lastRestart : Bool := false
  restarts : Half := 0
  /-- Watchdog: ms left, warned, key 0x5A seen; ENG_WDOG_STAT.WARNS (R414). -/
  wdLeft : Nat := 2000
  wdWarned : Bool := false
  wdKey : Bool := false
  warns : Half := 0
  /-- Cycles outside WAIT per 1,000 over the last second (ENG_BUSY). -/
  busy : Nat := 0
  /-- ENG_WDOG_CFG.LOCK written 1 (Table 13-16). -/
  wdLock : Bool := false
  deriving DecidableEq, Repr

/-! ### The whole state -/

structure State where
  /-- Shadow register words: what commands, WRITE_REG and the configuration load write (R178). -/
  shadow : RegFile := []
  /-- Active register words: what the running blocks use (R31, R138). -/
  active : RegFile := []
  /-- Grid state RAM, 512 KiB, by offset (R172). Unlisted bytes read 0x00. -/
  gram : Memory := []
  sys : SysSt := {}
  safe : SafeSt := {}
  hif : HifSt := {}
  sec : SecSt := {}
  nvm : NvmSt := {}
  flt : FaultAll := {}
  /-- Snuffed items in force, and items listed whose snuff waits for its boundary (R162, R273). -/
  snuff : SnuffSet := {}
  snuffDue : SnuffSet := {}
  /-- Reinstated items whose return waits for its boundary or round (R437). -/
  snuffOff : SnuffSet := {}
  /-- A rewrite of the older snuff list copy is due (R436). -/
  snuffWrite : Bool := false
  grid : GridSt := {}
  tch : TchSt := {}
  carr : CarrSt := {}
  brdg : BrdgSt := {}
  conv : ConvSt := {}
  time : TimeSt := {}
  link : LinkSt := {}
  res : ResSt := {}
  hkp : HkpSt := {}
  eng : EngSt := {}
  /-- The model's own counter of free values used: index of the next one (no register of the spec). -/
  freeCtr : Nat := 0
  /-- The commands that wait, first in, first out. -/
  pending : List Instr := []
  deriving DecidableEq, Repr

/-- The state right after the first power-on of a device as it leaves the factory (R128, R517, Table 4-9). -/
def State.reset : State := {}

/-- Why the block stops with a fault. -/
inductive Fault where
  /-- Raised by no command: every event the spec describes leaves a next state. Safe. -/
  | none
  deriving DecidableEq, Repr

/-- Why the block refuses a command. -/
inductive Refusal where
  /-- Raised by exec's arms of commands that have no meaning yet. Safe. -/
  | notModelled (mnemonic : String)
  deriving DecidableEq, Repr

end Sys2Proof.Machine
end

