-- ==== Sys2Proof/Machine/Ops.lean ====
section
/-! DEFINITION. The named operations over memories, register files, the time base, the journal, the links, the reply
queues and the alarm queue that the meanings share. -/
namespace Sys2Proof.Machine

open Sys2Proof

/-! ### Sparse files and memories -/

/-- A sparse file with the value of a key replaced, in canonical form: keys rising, no value equal to `d`. -/
def sparseSet {β : Type} [DecidableEq β] (d : β) (a : Nat) (v : β) : List (Nat × β) → List (Nat × β)
  | [] => if v = d then [] else [(a, v)]
  | (b, w) :: l =>
    if a < b then (if v = d then (b, w) :: l else (a, v) :: (b, w) :: l)
    else if a = b then (if v = d then l else (a, v) :: l)
    else (b, w) :: sparseSet d a v l

/-- What a byte of memory that nothing has written reads as (log entry 9). -/
def memDefault : Byte := 0

/-- Keys rise strictly from `lo` on, and no byte equals the default. -/
def memWfFrom : Nat → Memory → Bool
  | _, [] => true
  | lo, (a, b) :: l => decide (lo ≤ a) && decide (b ≠ memDefault) && memWfFrom (a + 1) l

/-- The canonical form of a memory. -/
def Memory.wf (m : Memory) : Bool := memWfFrom 0 m

/-- One byte of a memory. -/
def memByte (m : Memory) (a : Nat) : Byte := (look a m).getD memDefault

/-- The cells a run of bytes makes at an address. -/
def cells : Nat → List Byte → Memory
  | _, [] => []
  | a, b :: bs => if b = memDefault then cells (a + 1) bs else (a, b) :: cells (a + 1) bs

/-- A memory with a run of bytes written at an address. -/
def memWrite (a : Nat) (bs : List Byte) (m : Memory) : Memory :=
  m.filter (fun c => decide (c.1 < a)) ++ cells a bs ++ m.filter (fun c => decide (a + bs.length ≤ c.1))

/-- A run of bytes read from cells whose addresses all lie at or above `a`. -/
def readRun : Nat → Nat → Memory → List Byte
  | 0, _, _ => []
  | n + 1, a, [] => memDefault :: readRun n (a + 1) []
  | n + 1, a, (b, x) :: l => if b = a then x :: readRun n (a + 1) l else memDefault :: readRun n (a + 1) ((b, x) :: l)

/-- `n` bytes of a memory from an address up. -/
def memRead (m : Memory) (a n : Nat) : List Byte := readRun n a (m.dropWhile (fun c => decide (c.1 < a)))

/-- The word of a register file at an address. -/
def fileGet (f : RegFile) (a : Nat) : Word := (look a f).getD (regReset a)

/-- A register file with the word at an address replaced: only RW bits are kept, the others are the reset word's. -/
def fileSet (a : Nat) (w : Word) (f : RegFile) : RegFile :=
  sparseSet (regReset a) a ((w &&& regMask a) ||| (regReset a &&& ~~~(regMask a))) f

/-- The shadow word at an address. -/
def shw (s : State) (a : Nat) : Word := fileGet s.shadow a
/-- The active word at an address. -/
def acw (s : State) (a : Nat) : Word := fileGet s.active a
/-- The shadow word at an address replaced. -/
def setShw (a : Nat) (w : Word) (s : State) : State := { s with shadow := fileSet a w s.shadow }
/-- The active word at an address replaced. -/
def setAcw (a : Nat) (w : Word) (s : State) : State := { s with active := fileSet a w s.active }
/-- Shadow words replaced, in order. -/
def setShws (ws : List (Nat × Word)) (s : State) : State := ws.foldl (fun t p => setShw p.1 p.2 t) s

/-- The part of a register file in an address range. -/
def fileSlice (lo hi : Nat) (f : RegFile) : RegFile := f.filter (fun p => decide (lo ≤ p.1 ∧ p.1 < hi))

/-- The active words of an address range taken from the shadow (R31, R138). -/
def applyRange (lo hi : Nat) (s : State) : State :=
  { s with active := s.active.filter (fun p => decide (p.1 < lo)) ++ fileSlice lo hi s.shadow
      ++ s.active.filter (fun p => decide (hi ≤ p.1)) }

/-- The active words of a block taken from the shadow. -/
def applyBlock (b : Nat) (s : State) : State := applyRange (0x01000000 + 0x10000 * b) (0x01010000 + 0x10000 * b) s

/-! ### Free values -/

/-- The next free choice between two outcomes. -/
def freshBit (s : State) : Bool × State := (Config.freeBit s.freeCtr, { s with freeCtr := s.freeCtr + 1 })
/-- A quotient whose rounding the spec leaves open: the floor, or one more by a free choice where it is not exact. -/
def freeDiv (a : Int) (b : Nat) (s : State) : Int × State :=
  if a % b = 0 then (a / b, s) else
  (a / b + (b1 (Config.freeBit s.freeCtr) : Nat), { s with freeCtr := s.freeCtr + 1 })
/-- The next free number. -/
def freshInt (s : State) : Int × State := (Config.freeInt s.freeCtr, { s with freeCtr := s.freeCtr + 1 })

/-- An edge line of the engine latches an event (R411). -/
def edgeLine (n : Nat) (s : State) : State := { s with eng := { s.eng with edges := s.eng.edges ||| (1#32 <<< n) } }

/-! ### Identity, time and epochs -/

/-- This device's address as SOURCE: the assigned one, or 0xFE (R49). -/
def ownAddr (s : State) : Byte := s.link.addr.getD 0xFE

/-- The eight bytes of the unique ID, low byte first. -/
def uidBytes : List Byte := le 8 Config.uid.toNat

/-- The time base runs (Table 10-2). -/
def timeRuns (s : State) : Bool := s.time.state != .stopped

/-- Time is acquired (R312). -/
def timeAcq (s : State) : Bool := timeRuns s && s.time.acq

/-- The firmware stamp of an entry: the counter, 0 when time is not acquired (Table 15-7). -/
def stampAcq (s : State) : Nat := if timeAcq s then s.time.ns else 0

/-- The firmware stamp of a reply: the counter, 0 when the time base does not run (Table 2-11). -/
def stampRun (s : State) : Nat := if timeRuns s then s.time.ns else 0

/-- The period in ns. -/
def Schedule.pNs (c : Schedule) : Nat := c.p * 1000

/-- The start instant of an epoch of a schedule: N0 + k starts at T0 + k·P (R22). -/
def epochStart (c : Schedule) (e : Word) : Nat := c.t0 + (e - c.n0).toNat * c.pNs

/-- The epoch number at an instant: N0 − 1 before T0 (R22). -/
def epochAt (c : Schedule) (t : Nat) : Word :=
  if t < c.t0 then c.n0 - 1 else c.n0 + BitVec.ofNat 32 ((t - c.t0) / c.pNs)

/-- The current epoch: it exists while a schedule exists and time runs and is acquired (R25). -/
def currentEpoch (s : State) : Option Word :=
  if timeAcq s then s.time.sched.map (fun c => epochAt c s.time.ns) else none

/-- The current epoch as reported: 0 when none exists (R25). -/
def reportEpoch (s : State) : Word := (currentEpoch s).getD 0

/-- The number of the next boundary. -/
def nextEpoch (s : State) : Option Word := (currentEpoch s).map (· + 1)

/-- Mode-epoch parity (R34). -/
def parity (s : State) : Bool := s.link.modeGen.getLsbD 0

/-- The device is its own lamplighter or the elected one (R349). -/
def isLamplighter (s : State) : Bool :=
  match s.link.ll with
  | none => true
  | some (u, _, _) => u == Config.uid

/-- The test of a target epoch (R24, R25): none when it passes, else the status. -/
def targetBad (s : State) (e : Word) : Option Byte :=
  match currentEpoch s with
  | none => some 0x30
  | some c => if laterW e c then none else some 0x13

/-- The power state is STANDBY or ACTIVE, where the time base and the ports run (Table 4-1). -/
def awake (s : State) : Bool := s.sys.power == .standby || s.sys.power == .active

/-- EMBER or RETAIN: the engine is stopped (R76). -/
def asleep (s : State) : Bool := s.sys.power == .ember || s.sys.power == .retain

/-! ### The journal -/

/-- Unreleased entries: those above RELEASED_SEQ (R462). -/
def unreleased (s : State) : Nat :=
  if s.sec.keys.released = 0xFFFFFFFF then s.nvm.journal.length
  else (s.nvm.journal.filter (fun e => decide (s.sec.keys.released.toNat < e.seq))).length

/-- The journal is full (R462). -/
def journalFull (s : State) : Bool := decide (3712 ≤ unreleased s)

/-- The journal is full and refusing (R462, R74). -/
def journalRefuses (s : State) : Bool := s.sec.keys.policy && journalFull s

/-- An entry raised: its TIME is taken now, it is programmed later (R140). -/
def journalRaise (role opcode result kind : Byte) (data : List Byte) (s : State) : State :=
  { s with sec := { s.sec with raised := s.sec.raised ++
      [⟨BitVec.ofNat 64 (stampAcq s), role, opcode, result, kind, padTo 8 0 data⟩] } }

/-- The 24 bytes of an entry that its chain value covers (Table 15-7). -/
def entryBody (seq : Nat) (e : RaisedEntry) : List Byte :=
  le 4 seq ++ le 8 e.time.toNat ++ [e.role, e.opcode, e.result, e.kind] ++ e.data

/-- CHAIN of the newest entry, CHAIN(−1) while the journal is empty (R459). -/
def lastChain (s : State) : List Byte :=
  match s.nvm.journal.getLast? with
  | some e => e.chain
  | none => (sha256 uidBytes).take 8

/-- SEQ of the next entry. -/
def nextSeq (s : State) : Nat :=
  match s.nvm.journal.getLast? with
  | some e => e.seq + 1
  | none => 0

/-- Journal sector of a sequence number (R458, R460). -/
def seqSector (q : Nat) : Nat := q % 4096 / 64

/-! ### Links -/

/-- Credit a frame takes: whole frames for class 0, else 64-byte units of header, payload and CRC-32 (R345; log
entry 20). -/
def frameUnits (f : Frame) : Nat := if f.cls = 0 then 1 else ceilDiv (f.payload.length + 10) 64

/-- A port can carry a frame: UP, or TRAINED for a HELLO or a beacon frame, with no loop (R317, R338, R339). -/
def portCarries (p : PortSt) (f : Frame) : Bool :=
  !p.loop && (p.state == .up || (p.state == .trained && (f.type == 0 || f.type == 4 || f.type == 5 || f.type == 6)))

/-- A frame leaves a port at instant `t`: its credit is taken, and the run of class-1 frames of R346 counted. -/
def frameLeaves (t : Nat) (f : Frame) (p : PortSt) : PortSt :=
  { p with
    credit := vmod p.credit f.cls (· - frameUnits f)
    sent := p.sent ++ [f]
    tx := p.tx.filter (fun x => decide (t < x.1 + 100000000)) ++
      [(t, if f.type = 0x14 then f.payload.length - 4 else 0, f.payload.length + 12)]
    starve := if f.cls = 1 then (if p.waiting.any (fun g => g.cls == 2) then p.starve + 1 else 0)
      else if f.cls = 2 then 0 else p.starve }

/-- The first waiting frame of a class that the port can carry with the credit it holds. -/
def headOf (p : PortSt) (c : Fin 4) : Option Frame :=
  match p.waiting.find? (fun g => g.cls == c) with
  | some f => if portCarries p f && decide (frameUnits f ≤ p.credit[c]) then some f else none
  | none => none

/-- The next frame to leave: class 0 first, then 1 before 2 before 3, with the exception of R346. -/
def pickFrame (p : PortSt) : Option Frame :=
  match headOf p 0 with
  | some f => some f
  | none =>
    match (if 32 ≤ p.starve then headOf p 2 else none) with
    | some f => some f
    | none =>
      match headOf p 1 with
      | some f => some f
      | none =>
        match headOf p 2 with
        | some f => some f
        | none => headOf p 3

/-- Up to `n` waiting frames leave a port (R346). -/
def drainPort (t : Nat) : Nat → PortSt → PortSt
  | 0, p => p
  | n + 1, p =>
    match pickFrame p with
    | none => p
    | some f => drainPort t n (frameLeaves t f { p with waiting := p.waiting.erase f })

/-- A frame queued on a port; it leaves at once when nothing of its class waits and credit is held. -/
def queueFrame (t : Nat) (f : Frame) (p : PortSt) : PortSt :=
  let p := { p with waiting := p.waiting ++ [f] }
  drainPort t p.waiting.length p

/-- A frame sent on a port. -/
def sendOn (n : Fin 4) (f : Frame) (s : State) : State :=
  { s with link := { s.link with ports := vmod s.link.ports n (queueFrame s.time.ns f) } }

/-- The four ports. -/
def allPorts : List (Fin 4) := [0, 1, 2, 3]

/-- A frame sent on every port of a list. -/
def sendOnAll (ns : List (Fin 4)) (f : Frame) (s : State) : State := ns.foldl (fun t n => sendOn n f t) s

/-- A port is UP. -/
def portUp (s : State) (n : Fin 4) : Bool := s.link.ports[n].state == .up

/-- The ports that are UP. -/
def upPorts (s : State) : List (Fin 4) := allPorts.filter (portUp s)

/-- A port on which a tree child hangs: its neighbour's TOPO record names the neighbour's port as PARENT (R354). -/
def childPort (s : State) (n : Fin 4) : Bool :=
  portUp s n && s.link.topo.any (fun r =>
    decide (r.uid = s.link.ports[n].nbrUid) && r.parent == BitVec.ofNat 8 s.link.ports[n].nbrPort.val)

/-- The tree ports: the parent port and every child port (R354). -/
def treePorts (s : State) : List (Fin 4) :=
  allPorts.filter (fun n => s.link.parent == some n || childPort s n)

/-- The port of a route table entry (R353). -/
def routePort (s : State) (a : Byte) : Option (Fin 4) := (look a.toNat s.link.routes).map (·.1)

/-- A routed frame sent from this device toward its DEST; with no valid entry it is dropped and counted (R353). -/
def sendRouted (f : Frame) (s : State) : State :=
  match routePort s f.dest with
  | some n => sendOn n f s
  | none => { s with link := { s.link with noRoute := sat16 s.link.noRoute 1 } }

/-- A frame of this device: SOURCE is its address, HOPS 16 (Table 11-4). -/
def ownFrame (s : State) (dest : Byte) (cls : Fin 4) (type : Nat) (payload : List Byte) : Frame :=
  ⟨dest, ownAddr s, cls, type, 16, payload⟩

/-- A hop-local frame of class 2 (Tables 11-4 and 11-5). -/
def hopFrame (s : State) (type : Nat) (payload : List Byte) : Frame := ⟨0xFE, ownAddr s, 2, type, 1, payload⟩

/-- The segments of a packet: a 4-byte header and up to 252 bytes each (R356). -/
def segments (i tag : Byte) : Nat → Nat → List Byte → List (List Byte)
  | 0, _, _ => []
  | n + 1, k, l =>
    let last := decide (l.length ≤ 252)
    ([i, tag, BitVec.ofNat 8 k, BitVec.ofNat 8 (b1 last)] ++ l.take 252)
      :: (if last then [] else segments i tag n (k + 1) (l.drop 252))

/-- The code of an interface (R356). -/
def ifaceByte : Iface → Byte
  | .twi => 0
  | .quad => 1

/-- A packet carried to a device in CMD or RPL frames (R356). -/
def sendPacket (dest : Byte) (cls : Fin 4) (type : Nat) (i : Iface) (tag : Byte) (bytes : List Byte) (s : State) : State :=
  (segments (ifaceByte i) tag 17 0 bytes).foldl (fun t g => sendRouted (ownFrame t dest cls type g) t) s

/-! ### Replies -/

/-- What an interface has of its own. -/
def hostPort (s : State) : Iface → HostPort
  | .twi => s.hif.twi
  | .quad => s.hif.quad

/-- What an interface has of its own, changed. -/
def modPort (i : Iface) (f : HostPort → HostPort) (s : State) : State :=
  match i with
  | .twi => { s with hif := { s.hif with twi := f s.hif.twi } }
  | .quad => { s with hif := { s.hif with quad := f s.hif.quad } }

/-- A reply packet (Table 2-2): SOURCE, FLAGS with DIR = 1, and the CRC of R50. -/
def replyBytes (src : Byte) (status tag : Byte) (final relayed summary : Bool) (data : List Byte) : List Byte :=
  let h := [status, tag] ++ le 2 data.length ++ [src, BitVec.ofNat 8 (1 + 2 * b1 final + 4 * b1 relayed + 8 * b1 summary)]
    ++ data
  h ++ le 2 (crc16 h).toNat

/-- A reply into an interface's queue; held outside it while it holds 8 (R57). -/
def queueReply (i : Iface) (r : Reply) (s : State) : State :=
  modPort i (fun p => if p.heldReplies.isEmpty && decide (p.replies.length < 8) then { p with replies := p.replies ++ [r] }
    else { p with heldReplies := p.heldReplies ++ [r] }) s

/-- An answer to a broadcast noted at the entry device (R65). -/
def noteAnswer (i : Iface) (tag src status : Byte) (s : State) : State :=
  { s with sec := { s.sec with bcasts := s.sec.bcasts.map (fun b =>
      if b.iface == i && b.tag == tag && b.answers.all (fun a => a.1 != src) then
        { b with answers := b.answers ++ [(src, status)] } else b) } }

/-- A reply to an origin: into the local queue, into the entry device's queue by RPL frames, or, for the entry
device's own part of a broadcast, into the summary (R49, R64, R65). Only a final reply answers a broadcast (log entry
21). -/
def reply (o : Origin) (bcast : Bool) (tag status : Byte) (final : Bool) (data : List Byte) (why : ReplyPurpose)
    (s : State) : State :=
  match o with
  | .loc i =>
    if bcast then (if final then noteAnswer i tag (ownAddr s) status s else s)
    else queueReply i ⟨replyBytes (ownAddr s) status tag final false false data, why⟩ s
  | .remote entry i =>
    let b := replyBytes (ownAddr s) status tag final true false data
    sendPacket entry (if 256 < b.length then 3 else 2) 0x09 i tag b s

/-- The commit of a held change noted where it is the change meant (R365). -/
def commitHeld (mine : ModeChange → Bool) (s : State) : State :=
  { s with link := { s.link with prep := s.link.prep.map (fun x =>
      if mine x.change then { x with committed := true } else x) } }

/-- A SYNC schedule is the one a held change brings (R365). -/
def syncCommits (n0 : Word) (p : Nat) (c : ModeChange) : Bool := c.newP != 0 && c.newP == p && c.target == n0

/-! ### The alarm queue -/

/-- Words of 32 bytes in the alarm queue, its capacity 64 (R386). -/
def alarmRoom (s : State) : Bool := decide (s.res.alarms.length < 64)

/-- LINK holds a class-0 event of a joined device until it is acknowledged, and sends it to the lamplighter when its
address is valid (R358). -/
def alarmToFabric (entry : List Byte) (s : State) : State :=
  if s.link.joined && !isLamplighter s && decide (s.link.alarms.length < 64) then
    let q := s.link.aseq
    let s := { s with link := { s.link with aseq := q + 1, alarms := s.link.alarms ++ [(⟨q, false, entry⟩ : PendAlarm)] } }
    match s.link.addr, s.link.ll with
    | some _, some (_, _, la) =>
      let f := ownFrame s la 0 0x10 (le 2 q.toNat ++ [0, 0] ++ entry)
      let s := sendRouted f s
      { s with link := { s.link with
          alarms := s.link.alarms.map (fun (a : PendAlarm) => if a.aseq = q then { a with sent := true } else a)
          alarmSent := sat16 s.link.alarmSent 1 } }
    | _, _ => s
  else s

/-- A wake event: HIF_IRQ_STAT.WAKE set and WAKEn asserted (R112). -/
def wakeEvent (s : State) : State :=
  { s with hif := { s.hif with irqEvents := s.hif.irqEvents ||| 0b0010, wakePin := true } }

/-- A protocol event of an interface: its count, IRQ bit PROTO, as R90, R99, R101, R103 and R108 call for; the HIF
source PROTOCOL is raised beside it. -/
def protoCount (i : Iface) (s : State) : State :=
  let s := modPort i (fun p => { p with protoCnt := sat16 p.protoCnt 1 }) s
  { s with hif := { s.hif with irqEvents := s.hif.irqEvents ||| 0b1000 } }

/-! ### Sessions -/

/-- The session slot an origin runs under: 0 two-wire, 1 quad serial, 2 to 5 the remote origins (R66). -/
def slotOf (s : State) (o : Origin) : Option (Fin 6) :=
  match o with
  | .loc .twi => some 0
  | .loc .quad => some 1
  | .remote _ _ => ([2, 3, 4, 5] : List (Fin 6)).find? (fun k => s.sec.sessions[k].origin == some o)

/-- The role an origin holds (R67). -/
def roleOf (s : State) (o : Origin) : BitVec 2 :=
  match slotOf s o with
  | some k => s.sec.sessions[k].role
  | none => 0

/-- A session slot changed. -/
def modSession (k : Fin 6) (f : Session → Session) (s : State) : State :=
  { s with sec := { s.sec with sessions := vmod s.sec.sessions k f } }

/-- A session ended: the slot returns to NONE, and a remote slot is freed; failure count and lockout stay (R68, R70). -/
def endSession (k : Fin 6) (s : State) : State :=
  let s := modSession k (fun e => { e with
    role := 0, challenge := none, ks := [], keySets := 0, origin := if k.val < 2 then e.origin else none }) s
  let bit : BitVec 6 := 1#6 <<< k.val
  { s with
    nvm := { s.nvm with journal := s.nvm.journal.map (fun (e : JEntry) => { e with readBy := e.readBy &&& ~~~bit }) }
    sec := { s.sec with keyJob := s.sec.keyJob.map (fun j => if j.slot = some k then { j with slot := none } else j) } }

/-- The six slots. -/
def allSlots : List (Fin 6) := [0, 1, 2, 3, 4, 5]

/-- The address and interface bytes of an origin: 0xFE for a local interface (Table 15-2). -/
def originBytes : Origin → Byte × Byte
  | .loc i => (0xFE, ifaceByte i)
  | .remote a i => (a, ifaceByte i)

/-! ### Keys and NVM -/

/-- One erase of an NVM sector counted (NVM_WEAR). -/
def countErase (k : Nat) (s : State) : State :=
  { s with nvm := { s.nvm with erases := sparseSet 0 k ((look k s.nvm.erases).getD 0 + 1) s.nvm.erases } }


/-! ### Snuffed items -/

/-- A drive or sense line is snuffed (R162). -/
def lineSnuffed (s : State) (i : Nat) : Bool := s.snuff.lines.getLsbD i
/-- A bridge lane is snuffed, alone or with its group (R273). -/
def laneSnuffed (s : State) (n : Nat) : Bool := s.snuff.lanes.getLsbD n || s.snuff.groups.getLsbD (n / 4)
/-- A temperature sensor is snuffed (R442). -/
def sensorSnuffed (s : State) (i : Nat) : Bool := s.snuff.sensors.getLsbD i

end Sys2Proof.Machine
end

