-- ==== Sys2Proof/Machine/Records.lean ====
section
/-! DEFINITION. Records, shares, reservations and dark runs of the reservoir (sections 12.1 to 12.5), which the
acquiring blocks, the faults and the epoch boundary share. -/
namespace Sys2Proof.Machine

open Sys2Proof

/-- The sixteen streams. -/
def allStreams : List (Fin 16) := List.finRange 16

/-- SOURCES of a stream (Table 12-3). -/
def streamSources (s : State) (k : Nat) : Nat := fld (shw s (Reg.resStreamCfg k)) 16 9
/-- DRAIN of a stream (R382). -/
def streamDrain (s : State) (k : Nat) : Nat := fld (shw s (Reg.resStreamCfg k)) 0 2

/-- A stream changed. -/
def modStream (k : Fin 16) (f : StreamSt → StreamSt) (s : State) : State :=
  { s with res := { s.res with streams := vmod s.res.streams k f } }

/-- A length rounded up to a multiple of 4 (R372). -/
def pad4 (n : Nat) : Nat := (n + 3) / 4 * 4

/-- A record of this device's own DARK slot: it takes no space of the share (R370, R381). -/
def inSlot (st : StreamSt) (r : Rec) : Bool := st.rx.isNone && r.bytes.headD 0 == 6

/-- Bytes of a stream's records not yet released that lie in its share. -/
def heldBytes (st : StreamSt) : Nat :=
  sumNat ((st.recs.filter (fun r => !inSlot st r)).map (fun r => r.bytes.length)) -
    (if (st.recs.head?.map (inSlot st)).getD true then 0 else st.ackedBytes)

/-- The free space of a share (R371). -/
def freeSpace (st : StreamSt) : Nat := st.pages * 4096 - heldBytes st - st.reserved - st.prevReserved

/-- A record: header, payload and padding (R372). -/
def recordBytes (type k : Nat) (seq epoch : Word) (payload : List Byte) : List Byte :=
  [BitVec.ofNat 8 type, BitVec.ofNat 8 k] ++ le 2 payload.length ++ le 4 seq.toNat ++ le 4 epoch.toNat ++ payload
    ++ List.replicate (pad4 payload.length - payload.length) 0

/-- Bytes placed in a share from offset `off`, wrapping at its end (log entry 24). -/
def placeBytes (base size off : Nat) (bs : List Byte) (m : Memory) : Memory :=
  if size = 0 then m else
  let a := base * 4096
  memWrite a ((bs.drop (size - off)).take size) (memWrite (a + off) (bs.take (size - off)) m)

/-- The 40-byte DARK slot of a stream in pages 496 to 511 (R370; its place there is log entry 24's). -/
def darkSlot (k : Nat) : Nat := 0x1F0000 + 40 * k

/-- Finished record bytes appended to a stream, in order of completion: with `spend` into its share, out of the
reservation of the record's epoch (R380); else a DARK record into its slot (R381). -/
def appendRecord (k : Fin 16) (epoch : Word) (bs : List Byte) (spend : Bool) (s : State) : State :=
  let st := s.res.streams[k]
  let size := st.pages * 4096
  let n := bs.length
  let cur := spend && st.accEpoch == some epoch
  let prev := spend && !cur
  let st' := { st with
    seq := st.seq + 1
    recs := st.recs ++ [⟨s.res.order, st.seq, bs, false, st.wp⟩]
    wp := if size = 0 then 0 else if spend then (st.wp + n) % size else st.wp
    reserved := if cur then st.reserved - n else st.reserved
    prevReserved := if prev then st.prevReserved - n else st.prevReserved }
  { s with res := { s.res with
    mem := if spend then placeBytes st.base size st.wp bs s.res.mem
      else memWrite (darkSlot k.val) (bs.take 40) s.res.mem
    order := s.res.order + 1
    streams := s.res.streams.set k.1 st' k.2 } }

/-- A record of an acquired epoch written to a stream (R372, R373). -/
def putRecord (k : Fin 16) (type : Nat) (epoch : Word) (payload : List Byte) (s : State) : State :=
  appendRecord k epoch (recordBytes type k.val (s.res.streams[k].seq) epoch payload) true s

/-- A stream takes records of a source for an epoch it acquired. -/
def streamTakes (st : StreamSt) (epoch : Word) (bit : Nat) : Bool :=
  (st.accEpoch == some epoch && st.accMask.testBit bit) || (st.prevEpoch == some epoch && st.prevMask.testBit bit)

/-- A record of a source written to every stream that takes it; each stream may have its own payload or none. -/
def emit (bit type : Nat) (epoch : Word) (payload : Fin 16 → Option (List Byte)) (s : State) : State :=
  allStreams.foldl (fun (t : State) (k : Fin 16) =>
    if streamTakes t.res.streams[k] epoch bit then
      match payload k with
      | some p => putRecord k type epoch p t
      | none => t
    else t) s

/-! ### Dark runs -/

/-- The payload of a DARK record (Table 12-5). -/
def darkPayload (r : DarkRun) : List Byte :=
  le 4 r.first.toNat ++ le 4 r.last.toNat ++ [BitVec.ofNat 8 r.cause, BitVec.ofNat 8 (b1 r.parity)] ++ le 2 r.sources
    ++ le 8 r.start ++ le 8 r.stop

/-- A DARK record written for an ended run (R381): its slot always has room. -/
def writeDark (k : Fin 16) (r : DarkRun) (s : State) : State :=
  let s := appendRecord k r.first (recordBytes 6 k.val (s.res.streams[k].seq) r.first (darkPayload r)) false s
  modStream k (fun st => { st with darkRuns := sat16 st.darkRuns 1 }) s

/-- The masks of the causes of one epoch with the higher code governing each source (R381). -/
def governed (m : List (Nat × Nat)) : List (Nat × Nat) :=
  let g := fun c => ((m.filter (fun p => p.1 == c)).map (·.2)).foldl (· ||| ·) 0
  let hi := fun c => ((m.filter (fun p => decide (c < p.1))).map (·.2)).foldl (· ||| ·) 0
  ([4, 3, 2, 1].map (fun c => (c, g c &&& (0x1FF ^^^ (hi c &&& 0x1FF))))).filter (fun p => p.2 != 0)

/-- What the runs in progress become when epoch `e` is dark as `want` says: those that end, and those in progress. -/
def stepDarks (e : Word) (start stop : Nat) (par : Bool) (want : List (Nat × Nat)) (runs : List DarkRun) :
    List DarkRun × List DarkRun :=
  let fits := fun (r : DarkRun) => want.contains (r.cause, r.sources)
  let ended := runs.filterMap (fun r =>
    if fits r then none else if r.last = e then (if r.first = e then none else some { r with last := e - 1, stop := start })
    else some r)
  let kept := (runs.filter fits).map (fun r => if r.last = e then r else { r with last := e, stop := stop })
  let new := (want.filter (fun w => !(runs.any (fun r => r.cause == w.1 && r.sources == w.2)))).map
    (fun w => (⟨e, e, w.1, w.2, start, stop, par⟩ : DarkRun))
  (ended, kept ++ new)

/-- The dark runs of a stream brought to epoch `e`, with the records of the runs that end (R381). -/
def darkEpoch (k : Fin 16) (e : Word) (start stop : Nat) (s : State) : State :=
  let st := s.res.streams[k]
  let (ended, now) := stepDarks e start stop (parity s) (governed st.darkNow) st.darks
  ended.foldl (fun t r => writeDark k r t) (modStream k (fun st => { st with darks := now }) s)

/-- Every dark run of a stream ended, as a stop does (R381). -/
def closeDarks (k : Fin 16) (s : State) : State :=
  let rs := s.res.streams[k].darks
  rs.foldl (fun t r => writeDark k r t) (modStream k (fun st => { st with darks := [], darkNow := [] }) s)

/-- The epoch in progress is dark for some sources of every running stream: cause and mask (R381). -/
def markDark (cause mask : Nat) (s : State) : State :=
  match s.time.epoch, s.time.sched with
  | some e, some c =>
    allStreams.foldl (fun (t : State) (k : Fin 16) =>
      let st := t.res.streams[k]
      let m := mask &&& streamSources t k
      if st.running && m != 0 && (st.accEpoch == some e || !st.darkNow.isEmpty) then
        darkEpoch k e (epochStart c e) (epochStart c e + c.pNs)
          (modStream k (fun x => { x with darkNow := x.darkNow ++ [(cause, m)] }) t)
      else t) s
  | _, _ => s

/-- The sources the grid feeds: FRAME and the touch and carrier sources (Table 12-3). -/
def gridSources : Nat := 0b000011111
/-- The sources the touch pipeline feeds. -/
def touchSources : Nat := 0b000001110

end Sys2Proof.Machine
end

