-- ==== Sys2Proof/Machine/TimeOps.lean ====
section
/-! DEFINITION. The counter, its rate and its triggers (sections 10.1, 10.2 and 10.7), which resets, the power states and
the TIME commands share. -/
namespace Sys2Proof.Machine

open Sys2Proof

/-- INCR in 2^-32 ns for a rate y in 10^-12: 8 ns × (1 − y), rounded (R311, section 10.4's example). -/
def incrOf (y : Int) : Nat := (8 * 2 ^ 32 - roundDiv (8 * 2 ^ 32 * y) (10 ^ 12)).toNat

/-- y held within ±500 ppm (R321). -/
def clampY (y : Int) : Int := clampI (-500000000) 500000000 y

/-- The rate correction y put in force; a slew in progress holds INCR at its own value (R311, TIME_SET). -/
def setRate (y : Int) (s : State) : State :=
  { s with time := { s.time with
    y := y
    incr := match s.time.slew with
      | none => incrOf y
      | some v => incrOf (if 0 < v then -500000000 else 500000000) } }

/-- TIME_RATE_TRIM as a signed number. -/
def rateTrim (s : State) : Int := sx 32 (shw s Reg.timeRateTrim).toNat

/-- The counter starts at 0, not acquired (Table 4-2, R312): state FREE at the rate of TIME_RATE_TRIM. -/
def timeStart (s : State) : State :=
  setRate (clampY (rateTrim s)) { s with time := { s.time with
    state := .free, ns := 0, frac := 0, acq := false, integ := 0, clamped := false, clampRun := 0, theta := 0
    thetaReg := 0, pathReg := 0, stepTick := none, lastSync := none, dAvg := none, accepted := 0, exch := none, bigTheta := none, inThr := 0, outThr := 0, missedRun := 0
    ppsOn := false, ppsSeen := false, ppsLost := false, ppsSet := none, slew := none, stepped := false, epoch := none
    tclkLost := false } }

/-- The time base stops: the counter holds no value, every trigger is disarmed, PPSOUT is low (R121, R519). -/
def timeStop (s : State) : State :=
  { s with time := { s.time with
    state := .stopped, ns := 0, frac := 0, acq := false, y := 0, integ := 0, incr := 0x800000000, clamped := false
    clampRun := 0, theta := 0, thetaReg := 0, pathReg := 0, stepTick := none, lastSync := none, dAvg := none, accepted := 0, exch := none, bigTheta := none, inThr := 0, outThr := 0
    missedRun := 0, ppsOn := false, ppsSeen := false, ppsLost := false, ppsSet := none, slew := none, ppsOut := false
    stepped := false, epoch := none
    trigs := s.time.trigs.map (fun t => { t with armed := false }) } }

/-- The counter advanced to at least an instant (R313: an action takes place at the first tick at or after it). -/
def advanceTo (t : Nat) (s : State) : State :=
  if s.time.ns < t then { s with time := { s.time with ns := t, frac := 0 } } else s

/-- One TIME tick: the counter adds INCR (R311). -/
def tickTime (s : State) : State :=
  if timeRuns s then
    let f := s.time.frac + s.time.incr
    { s with time := { s.time with ns := (s.time.ns + f / 2 ^ 32) % 2 ^ 64, frac := f % 2 ^ 32 } }
  else s

/-- Tb in ns: 31.25 ms × 2^INTERVAL (R317). -/
def tbNs (s : State) : Nat := 31250000 * 2 ^ s.time.interval.toNat

/-- The first instant of a periodic run later than `t`. -/
def firstAfter (start period t : Nat) : Nat :=
  if t < start then start else if period = 0 then start else start + ((t - start) / period + 1) * period

/-- INSTANT of a trigger's registers. -/
def trigInstant (s : State) (u : Nat) : Nat :=
  (shw s (Reg.timeTrgInstLo u)).toNat + 2 ^ 32 * (shw s (Reg.timeTrgInstHi u)).toNat

/-- A trigger armed from its registers as they stand (R329), and whether a MISSED is counted. -/
def armTrigger (u : Fin 16) (s : State) : State × Bool :=
  let cfg := shw s (Reg.timeTrgCfg u)
  let mode := fld cfg 0 2
  let inst := trigInstant s u
  let per := (shw s (Reg.timeTrgPeriod u)).toNat
  let cnt := shw s (Reg.timeTrgCount u)
  let lim := s.time.ns + 10000
  let late := (mode == 1 || mode == 2) && decide (inst ≤ lim) && cnt != 0
  let next := match mode with
    | 1 => if inst ≤ lim then none else some inst
    | 2 => if inst ≤ lim then some (firstAfter inst per lim) else some inst
    | 3 => s.time.sched.map (fun (c : Schedule) => firstAfter (c.t0 + inst) c.pNs lim)
    | _ => none
  let t : TrigSt := { (s.time.trigs[u] : TrigSt) with
    armed := next.isSome && cnt != 0
    mode := mode
    mark := bitOf cfg 2
    next := if cnt = 0 then 0 else next.getD 0
    period := per
    instant := inst
    count := cnt
    missed := if late then sat16 s.time.trigs[u].missed 1 else s.time.trigs[u].missed }
  ({ s with time := { s.time with trigs := s.time.trigs.set u.1 t u.2 } }, late)

/-- What remains of a trigger after an instant of it has passed, fired or not (R329). -/
def trigNext (s : State) (t : TrigSt) (lim : Nat) (fired : Bool) : TrigSt :=
  let count := if fired && t.count != 0xFFFFFFFF then t.count - 1 else t.count
  let next := match t.mode with
    | 2 => some (firstAfter t.instant t.period lim)
    | 3 => s.time.sched.map (fun (c : Schedule) => firstAfter (c.t0 + t.instant) c.pNs lim)
    | _ => none
  { t with
    armed := next.isSome && count != 0
    next := if count = 0 then 0 else next.getD 0
    count := count }

/-- A time mark entry (Table 10-7). -/
def markEntry (s : State) (time : Nat) (kind unit : Nat) (falling step : Bool) (data : Nat) : List Byte :=
  le 8 time ++ [BitVec.ofNat 8 kind, BitVec.ofNat 8 unit,
    BitVec.ofNat 8 (b1 (parity s) + 2 * b1 falling + 4 * b1 step), 0] ++ le 4 data

end Sys2Proof.Machine
end

