-- ==== Sys2Proof/Machine/Faults.lean ====
section
/-! DEFINITION. The fault logic of a block: raising with severity, repeat, escalation and consequence, the reactions of
Table 14-2 (snuff, block reset, SAFE hold), acknowledgement, and the events that raise faults beside their effect. -/
namespace Sys2Proof.Machine

open Sys2Proof

/-- Item number 0xFFFF: no item named (Table 14-14). -/
def noItem : Nat := 0xFFFF

/-- A block's fault logic. -/
def fltOf (s : State) (b : Nat) : FaultSt := vget s.flt.blocks b {}

/-- A block's fault logic changed. -/
def modFlt (b : Nat) (f : FaultSt → FaultSt) (s : State) : State :=
  { s with flt := { s.flt with blocks := vmodN s.flt.blocks b f } }

/-- A source is detected: its FLT_EN bit (R424). -/
def srcEnabled (s : State) (b src : Nat) : Bool := bitOf (shw s (Reg.flt b 1)) src

/-- The configured severity of a source (R423). -/
def srcSeverity (s : State) (b src : Nat) : Nat := fld (shw s (Reg.flt b (2 + src / 10))) (3 * (src % 10)) 3

/-- The consumers of each block's output (Table 14-4). -/
def consumers (b : Nat) : List Nat :=
  match b with
  | 0 => [1, 2, 3, 4, 5, 6, 7, 8, 9, 10, 11, 12, 13]
  | 1 => [9]
  | 2 => [3, 4, 9]
  | 3 => [9]
  | 4 => [2, 3]
  | 5 => [6, 9]
  | 6 => [9]
  | 7 => [2, 4, 6, 8, 9]
  | 8 => [7, 9]
  | 9 => [1, 8]
  | 11 => [1, 12, 13]
  | 12 => [11, 13]
  | 13 => [12]
  | _ => []

/-- Sources that are never consequential: STATE_PARITY, PROG_PARITY and DATA_PARITY (R435). -/
def neverConsequential (b src : Nat) : Bool :=
  if b = 2 then src == Src.gridStateParity else if b = 11 then src == 0 || src == 1 else src == 0

/-- The highest raised severity a source holds over its unacknowledged items (R431). -/
def raisedSeverity (f : FaultSt) (src : Nat) : Nat :=
  maxNat ((f.items.filter (fun i => i.source == src)).map (·.severity))

/-- Some fault of raised severity `sev` or above is unacknowledged in a block. -/
def blockHolds (f : FaultSt) (sev : Nat) : Bool := f.items.any (fun i => decide (sev ≤ i.severity))

/-! ### The SAFE hold -/

/-- The SAFE hold begins: outputs inert, acquisition halted, the latch set, the log word due, the epoch in progress
dark with cause FAULT (R144, R145). -/
def safeBegin (s : State) : State :=
  if s.safe.hold then s else
  markDark 4 0x1FF { s with
    safe := { s.safe with hold := true, latch := true, logDue := s.safe.logDue ++ [true], resumeAfter := none }
    grid := { s.grid with frame := none }
    brdg := { s.brdg with excOn := 0 }
    conv := { s.conv with paused := true } }

/-- Group g's excitation is to be on: ACTIVE with no hold, its mode not OFF, the group not snuffed, tripped or held open
by a reset (R120, R258, R259, R273, R282). -/
def excWanted (s : State) (g : Nat) : Bool :=
  s.sys.power == .active && !s.safe.hold && !s.sys.inReset && fld (acw s (Reg.brdgEgCfg g)) 0 2 != 0
    && !s.snuff.groups.getLsbD g && !s.brdg.overcurrent.getLsbD g && !s.brdg.held.getLsbD g

/-- The force switches set as they are to be. -/
def excFix (s : State) : State :=
  { s with brdg := { s.brdg with
    excOn := BitVec.ofNat 8 (sumNat ((List.range 8).map (fun g => if excWanted s g then 2 ^ g else 0))) } }

/-- The SAFE hold ends: the latch cleared, the log word due, acquisition to resume 2 ms later (R146). -/
def safeEnd (s : State) : State :=
  excFix { s with safe := { s.safe with
    hold := false, latch := false, logDue := s.safe.logDue ++ [false], resumeAfter := some (s.time.ns + 2000000) } }

/-! ### Snuffing -/

/-- An item is snuffed or about to be. -/
def itemSnuffed (s : State) (b item : Nat) : Bool :=
  let on := fun (x : SnuffSet) =>
    if b = 2 then x.lines.getLsbD item
    else if b = 5 ∨ b = 6 then (if item < 32 then x.lanes.getLsbD item else x.groups.getLsbD (item - 32))
    else if b = 8 then x.ports.getLsbD item
    else if b = 10 then x.sensors.getLsbD item
    else false
  on s.snuff || on s.snuffDue

/-- The bits of an item set in a set of snuffed items. -/
def snuffAdd (b item : Nat) (x : SnuffSet) : SnuffSet :=
  if b = 2 then { x with lines := x.lines ||| (1#280 <<< item) }
  else if b = 5 ∨ b = 6 then
    (if item < 32 then { x with lanes := x.lanes ||| (1#32 <<< item) }
     else { x with groups := x.groups ||| (1#8 <<< (item - 32)) })
  else if b = 8 then { x with ports := x.ports ||| (1#4 <<< item) }
  else if b = 10 then { x with sensors := x.sensors ||| (1#9 <<< item) }
  else x

/-- The bits of an item cleared in a set of snuffed items. -/
def snuffDel (b item : Nat) (x : SnuffSet) : SnuffSet :=
  if b = 2 then { x with lines := x.lines &&& ~~~(1#280 <<< item) }
  else if b = 5 ∨ b = 6 then
    (if item < 32 then { x with lanes := x.lanes &&& ~~~(1#32 <<< item) }
     else { x with groups := x.groups &&& ~~~(1#8 <<< (item - 32)) })
  else if b = 8 then { x with ports := x.ports &&& ~~~(1#4 <<< item) }
  else if b = 10 then { x with sensors := x.sensors &&& ~~~(1#9 <<< item) }
  else x

/-- The number of items a block's snuffs can name (Table 14-14). -/
def itemCount (b : Nat) : Nat :=
  if b = 2 then 280 else if b = 5 then 40 else if b = 6 then 32 else if b = 8 then 4 else if b = 10 then 9 else 0

/-- A DEGRADE reaction: the named item snuffed, journaled, the snuff list rewrite due (R427, R436). A port is snuffed
at once (R367); a line, lane, group or sensor at its next boundary (R162, R273, R442), at once where no epoch runs. -/
def snuffItem (b item : Nat) (s : State) : State :=
  if itemCount b ≤ item ∨ itemSnuffed s b item then s else
  let s := journalRaise 0xFF 0xFF 0 0x05 ([BitVec.ofNat 8 b] ++ le 2 item) { s with snuffWrite := true }
  if b = 8 then
    { s with
      snuff := snuffAdd b item s.snuff
      link := { s.link with ports := vmodN s.link.ports item (fun p => { p with
        state := .snuffed, nbrUid := 0, nbrAddr := 0xFF, waiting := [] }) } }
  else if b = 2 ∧ (currentEpoch s).isNone then { s with snuff := snuffAdd b item s.snuff }
  else { s with snuffDue := snuffAdd b item s.snuffDue }

/-! ### Block resets -/

/-- The ports sent back to TRAINING with empty buffers and full credit (R338, R368). -/
def retrainPort (p : PortSt) : PortSt :=
  if p.state = .off ∨ p.state = .snuffed then p else
  { p with
    state := .training, nbrUid := 0, nbrAddr := 0xFF, loop := false, waiting := [], starve := 0
    credit := #v[8, 512, 128, 128] }

/-- What a touch pipeline restart forgets: baselines, contacts, windows, controls (Table 4-9). -/
def touchForget (s : State) : State :=
  { s with tch := { s.tch with
    regions := Vector.replicate 8 {}, selfs := Vector.replicate 2 {}, controls := Vector.replicate 16 {}
    contacts := [], reported := 0, todo := [], running := false, noSelf := false, idFreed := [], idNext := 0, selfBased := 0, restart := true } }

/-- The registers of Tables 13-1 and 13-4 at their reset values; data RAM, program RAM and the control store stand
(R392, R421). -/
def engineReset (s : State) : State :=
  { s with eng := { ({} : EngSt) with
    ram := s.eng.ram, fwWords := s.eng.fwWords, extWords := s.eng.extWords, decode := s.eng.decode
    store := s.eng.store, edges := s.eng.edges, lastHook := s.eng.lastHook, lastW0 := s.eng.lastW0
    calls := s.eng.calls, overruns := s.eng.overruns, lastRestart := s.eng.lastRestart, restarts := s.eng.restarts
    warns := s.eng.warns, wdLock := s.eng.wdLock, busy := s.eng.busy } }

/-- The block's own part of a reset, at its start (R181, R225, R254, R282, R309, R334, R368, R389, R421, Table 4-9). -/
def resetEffects (b : Nat) (s : State) : State :=
  match b with
  | 1 =>
    let clear := fun (p : HostPort) => { p with
      mbox := {}, replies := [], heldReplies := [], rplCursor := 0, pointer := 0, latch := none }
    { s with
      hif := { s.hif with twi := clear s.hif.twi, quad := clear s.hif.quad, twiSel := none }
      sec := { s.sec with outstanding := [], relays := [], bcasts := [] } }
  | 2 =>
    touchForget (markDark 4 gridSources { s with grid := { s.grid with
      frame := none, frameLost := true, restart := s.grid.running || s.grid.restart, driversOff := [], overRuns := [] } })
  | 3 =>
    let s := markDark 4 touchSources s
    let on := s.grid.running
    let s := touchForget s
    { s with tch := { s.tch with restartWait := on } }
  | 4 =>
    { s with carr := { s.carr with
      curWin := [], candWin := [], blocks := [], gathered := (0, 0), hop := none, holdRun := 0, shadow := none
      dwellLeft := 0 } }
  | 5 =>
    { s with brdg := { s.brdg with
      excOn := 0, chkOn := 0, chkWait := 0, chkLanes := 0, chkMode := 0, restart := true, held := 0xFF } }
  | 6 =>
    { s with conv := { s.conv with
      lanes := s.conv.lanes.map (fun l => { l with
        blank := l.on, thr := Vector.replicate 2 {}, lastX := none, diffs := [], onsetArmed := true
        ltaFrozen := none, sinceTrig := 0, ovl := none }) } }
  | 7 =>
    let s := { s with time := { s.time with
      caps := s.time.caps.map (fun _ => {}), dAvg := none, accepted := 0, integ := s.time.y } }
    let s := (List.finRange 16).foldl (fun t u => (armTrigger u t).1) s
    if s.time.state = .locking ∨ s.time.state = .locked then
      { s with time := { s.time with state := .holdover, exch := none } } else s
  | 8 => { s with link := { s.link with ports := s.link.ports.map retrainPort } }
  | 9 =>
    let s := { s with res := { s.res with
      streams := s.res.streams.map (fun st => { st with blocks := [], marks := [] }), restart := true } }
    markDark 4 0x1FF s
  | 11 => { engineReset s with sys := { s.sys with fwRun := false } }
  | _ => s

/-- A block reset begins (R434): its reset shadow opens, its registers are restored from the configuration shadow. -/
def blockReset (b src : Nat) (s : State) : State :=
  if s.flt.shadows.any (fun x => x.block == b) then s else
  resetEffects b (applyBlock b { s with flt := { s.flt with shadows := s.flt.shadows ++ [⟨b, src⟩] } })

/-! ### Raising -/

/-- The reaction of a raised severity beyond recording (Table 14-2). -/
def react (b src item sev : Nat) (s : State) : State :=
  let s := if 1 ≤ sev then { s with hif := { s.hif with irqEvents := s.hif.irqEvents ||| 0b0001 } } else s
  let s := if 2 ≤ sev then snuffItem b item s else s
  if sev = 3 then blockReset b src s else if sev = 4 then safeBegin s else s

/-- The severity an occurrence takes, and whether that is an escalation (R431). -/
def nextSeverity (s : State) (b src item : Nat) : Nat × Bool :=
  let c := srcSeverity s b src
  match (fltOf s b).items.find? (fun i => i.source == src && i.item == item && !i.conseq) with
  | some i => if c = 0 then (0, false) else (min 4 (i.severity + 1), true)
  | none => (c, false)

/-- FLT_FIRST as recorded (Table 14-1). -/
def firstWord (src sev : Nat) (conseq esc : Bool) (cb cs : Nat) : Word :=
  BitVec.ofNat 32 (put 0 5 src + put 5 3 sev + 256 + put 9 1 (b1 conseq) + put 10 1 (b1 esc) + put 16 4 cb + put 20 5 cs)

/-- The recording of an occurrence in the block's fault logic. -/
def recordFault (src item sev : Nat) (conseq esc : Bool) (cb cs : Nat) (f : FaultSt) : FaultSt :=
  let same := fun (i : FaultItem) => i.source == src && i.item == item && i.conseq == conseq
  let old := f.items.find? same
  let it : FaultItem := ⟨src, item, sev, (old.map (·.occur)).getD 0 + 1, conseq, esc⟩
  { stat := f.stat ||| (1#32 <<< src)
    first := if f.stat = 0 then firstWord src sev conseq esc cb cs else f.first
    raisedCnt := sat16 f.raisedCnt 1
    conseqCnt := sat16 f.conseqCnt (b1 conseq)
    items := f.items.filter (fun i => !(same i)) ++ [it] }

/-- One raise of a source, with the reset shadows open at the start of the cycle (R424, R427, R429, R431, R435). -/
def raiseIn (open0 : List Shadow) (b src item : Nat) (s : State) : State :=
  if open0.any (fun x => x.block == b) || !srcEnabled s b src then s else
  let cause := if neverConsequential b src then none else open0.find? (fun x => (consumers x.block).contains b)
  let (sev, esc) := match cause with
    | some _ => (0, false)
    | none => nextSeverity s b src item
  let conseq := cause.isSome
  let cb := (cause.map (·.block)).getD 0
  let cs := (cause.map (·.source)).getD 0
  let conf := srcSeverity s b src
  let s := modFlt b (recordFault src item sev conseq esc cb cs) s
  let s := if (conseq && decide (1 ≤ conf)) || (!conseq && decide (1 ≤ sev)) then
      journalRaise 0xFF 0xFF (BitVec.ofNat 8 sev) 0x04
        ([BitVec.ofNat 8 b, BitVec.ofNat 8 src, BitVec.ofNat 8 conf, BitVec.ofNat 8 (b1 conseq + 2 * b1 esc)]
          ++ le 2 item ++ [BitVec.ofNat 8 cb, BitVec.ofNat 8 cs]) s
    else s
  if conseq then s
  else if asleep s then { s with flt := { s.flt with deferred := s.flt.deferred ++ [(b, src, item, sev)] } }
  else react b src item sev s

/-- One raise of a source (item `noItem` where it names none). -/
def raise (b src item : Nat) (s : State) : State := raiseIn s.flt.shadows b src item s

/-- Order of the faults of one cycle: descending raised severity, ascending source, ascending block (R432). -/
def faultBefore (s : State) (x y : Nat × Nat × Nat) : Bool :=
  let a := (nextSeverity s x.1 x.2.1 x.2.2).1
  let c := (nextSeverity s y.1 y.2.1 y.2.2).1
  decide (c < a ∨ (c = a ∧ (x.2.1 < y.2.1 ∨ (x.2.1 = y.2.1 ∧ x.1 ≤ y.1))))

/-- A fault put in its place in the order of R432. -/
def faultInsert (s : State) (x : Nat × Nat × Nat) : List (Nat × Nat × Nat) → List (Nat × Nat × Nat)
  | [] => [x]
  | y :: l => if faultBefore s x y then x :: y :: l else y :: faultInsert s x l

/-- Several faults raised in one cycle: block, source, item (R432, R433). -/
def raiseAll (l : List (Nat × Nat × Nat)) (s : State) : State :=
  let sorted := l.foldr (faultInsert s) []
  sorted.foldl (fun t x => raiseIn s.flt.shadows x.1 x.2.1 x.2.2 t) s

/-! ### Acknowledgement -/

/-- Sources of a mask acknowledged in a block: raised severity and repeat state cleared; FLT_FIRST clears when FLT_STAT
becomes 0; the last SAFE fault acknowledged ends the hold (R423, R426, R146). -/
def acknowledge (b mask : Nat) (s : State) : State :=
  let f := fltOf s b
  let hadSafe := f.items.any (fun i => mask.testBit i.source && decide (4 ≤ i.severity))
  let stat := f.stat &&& ~~~(BitVec.ofNat 32 mask)
  let s := modFlt b (fun f => { f with
    stat := stat
    first := if stat = 0 then 0 else f.first
    items := f.items.filter (fun i => !mask.testBit i.source) }) s
  if hadSafe && s.safe.hold && (List.range 14).all (fun k => !blockHolds (fltOf s k) 4) then safeEnd s else s

/-- The lowest role that acknowledges a raised severity (Table 2-9). -/
def ackRole (sev : Nat) : BitVec 2 := if 4 ≤ sev then 3 else if sev = 3 then 2 else 1

/-! ### Events that raise beside their effect -/

/-- A protocol event counted on an interface, with the HIF source PROTOCOL (R117's counts, Table 14-10). -/
def protoEvent (i : Iface) (s : State) : State := raise 1 Src.hifProtocol noItem (protoCount i s)

/-- A class-0 event of this device into the alarm queue and onto the fabric (R16, R386, R387, R358). -/
def pushAlarm (block : Nat) (event : List Byte) (epoch : Word) (s : State) : State :=
  let entry := fun (lost : Bool) => event ++ le 4 epoch.toNat ++ [ownAddr s, BitVec.ofNat 8 block,
    BitVec.ofNat 8 (2 * b1 lost), 0] ++ uidBytes
  let s := if alarmRoom s then
      edgeLine 23 { s with res := { s.res with alarms := s.res.alarms ++ [entry s.res.lostBefore], lostBefore := false } }
    else
      raise 9 Src.resAlarmQueueFull noItem
        { s with res := { s.res with alarmLost := sat16 s.res.alarmLost 1, lostBefore := true } }
  alarmToFabric (entry false) s

/-- A time mark for every stream that takes the TIME_MARK source in the epoch in progress: into the reservation up to
MARKS, then from free space, else lost (R331, R376). -/
def addMark (entry : List Byte) (s : State) : State :=
  allStreams.foldl (fun (t : State) (k : Fin 16) =>
    let st := t.res.streams[k]
    match s.time.epoch with
    | none => t
    | some e =>
      if !(st.accEpoch == some e && st.accMask.testBit 7) then t
      else if st.marks.length < fld (shw t (Reg.resStreamSrc2 k)) 0 16 then
        modStream k (fun x => { x with marks := x.marks ++ [entry] }) t
      else if 16 ≤ freeSpace st ∧ st.marks.length < 4095 then
        modStream k (fun x => { x with marks := x.marks ++ [entry], reserved := x.reserved + 16 }) t
      else
        raise 9 Src.resMarksOver noItem (modStream k (fun x => { x with marksLost := sat16 x.marksLost 1 }) t)) s

/-- The condition JOURNAL_FULL raised once when the journal becomes full and refusing (R462). -/
def checkJournalFull (s : State) : State :=
  if journalRefuses s then
    if s.sec.fullRaised then s else raise 13 Src.secJournalFull noItem { s with sec := { s.sec with fullRaised := true } }
  else { s with sec := { s.sec with fullRaised := false } }

/-! ### NVM -/

/-- `n` sectors from `k` up erased: counted, WEAR raised for a sector that reaches 90,000 (Table 14-10). -/
def countErases (k n : Nat) (s : State) : State :=
  (List.range n).foldl (fun t i =>
    let t := countErase (k + i) t
    if look (k + i) t.nvm.erases = some 90000 then raise 12 Src.nvmWear noItem t else t) s

/-- The faults of an NVM operation that failed (Table 14-10). -/
def nvmFault (r : NvmResult) (s : State) : State :=
  match r with
  | .ok => s
  | .eraseFail => raise 12 Src.nvmEraseFail noItem s
  | .programFail => raise 12 Src.nvmProgramFail noItem s
  | .verifyFail => raise 12 Src.nvmProgramFail noItem s

/-- An erase and program of sectors that failed: its faults, and contents the spec leaves open. -/
def nvmFailed (r : NvmResult) (k n : Nat) (s : State) : State :=
  let ks := (List.range n).map (k + ·)
  nvmFault r { s with nvm := { s.nvm with junk := s.nvm.junk.filter (fun x => !ks.contains x) ++ ks } }

/-- Sectors whose contents are what was programmed. -/
def nvmGood (k n : Nat) (s : State) : State :=
  { s with nvm := { s.nvm with junk := s.nvm.junk.filter (fun x => decide (x < k ∨ k + n ≤ x)) } }

/-! ### The journal -/

/-- An entry is unreleased (R462). -/
def entryUnreleased (s : State) (e : JEntry) : Bool :=
  s.sec.keys.released == 0xFFFFFFFF || decide (s.sec.keys.released.toNat < e.seq)

/-- Entries held in a journal sector. -/
def sectorEntries (s : State) (k : Nat) : List JEntry := s.nvm.journal.filter (fun e => seqSector e.seq == k)

/-- The erase of a journal sector would destroy an unreleased entry under the refuse policy (R462). -/
def eraseBarred (s : State) (k : Nat) : Bool := s.sec.keys.policy && (sectorEntries s k).any (entryUnreleased s)

/-- A journal sector erased (R460), with what the loss of unread entries calls for (R461). -/
def eraseSector (k : Nat) (s : State) : State :=
  let n := (sectorEntries s k).countP (fun e => !e.read)
  let s := countErases (440 + k) 1 { s with nvm := { s.nvm with
    journal := s.nvm.journal.filter (fun e => seqSector e.seq != k)
    eraseDue := if s.nvm.eraseDue = some k then none else s.nvm.eraseDue } }
  if n = 0 then s else
  raise 13 Src.secJournalFull noItem { s with sec := { s.sec with unread := sat16 s.sec.unread n, lostSinceRead := true } }

/-- The entry slot of a sequence number is erased. -/
def slotErased (s : State) (q : Nat) : Bool := s.nvm.journal.all (fun e => e.seq % 4096 != q % 4096)

/-- The oldest raised entry programmed into NVM (R459). An erase of R460 still due is made first where the entry needs it
and R462 does not bar it; an entry that finds no erased slot is counted as lost. Into the first slot of a sector, the
erase of the following sector falls due. -/
def programOne (s : State) : State :=
  match s.sec.raised with
  | [] => s
  | e :: rest =>
    let s := { s with sec := { s.sec with raised := rest } }
    let q := nextSeq s
    let s := if slotErased s q || eraseBarred s (seqSector q) then s else eraseSector (seqSector q) s
    if slotErased s q then
      let c := (sha256 (lastChain s ++ entryBody q e)).take 8
      { s with nvm := { s.nvm with
          journal := s.nvm.journal ++ [⟨q, e, c, false, 0⟩]
          eraseDue := if q % 64 = 0 then some ((seqSector q + 1) % 64) else s.nvm.eraseDue } }
    else { s with sec := { s.sec with
          lost := sat16 s.sec.lost 1, lostSinceRelease := s.sec.lostSinceRelease + 1, lostSinceRead := true } }

/-- The `n` oldest raised entries programmed. -/
def programN : Nat → State → State
  | 0, s => s
  | n + 1, s => programN n (programOne s)

/-- Every raised entry programmed, in the order raised (R140). -/
def programAll (s : State) : State := programN s.sec.raised.length s

/-- A trigger armed, with its MISSED raised (R329). -/
def armRaise (u : Fin 16) (s : State) : State :=
  let (t, late) := armTrigger u s
  if late then raise 7 Src.timeTriggerMissed noItem t else t

end Sys2Proof.Machine
end

