-- ==== Sys2Proof/Machine/Operands.lean ====
section
/-! DEFINITION. The checking order of Table 2-5, shared by every row that carries a command packet: what the opcode index
(Table 2-6) gives each opcode, rights and locks, the BUSY cases of R58, relaying and broadcast, the journal entry, and
the completion of a deferred command. -/
namespace Sys2Proof.Machine

open Sys2Proof

/-- A row of Table 2-6. -/
structure OpInfo where
  op : Nat
  /-- Rights: 0 NONE to 3 MAKER. -/
  rights : Nat
  /-- Legal states: bit 0 DORMANT, bit 1 STANDBY, bit 2 ACTIVE. -/
  states : Nat
  /-- Done = D. -/
  deferred : Bool
  /-- R = Y. -/
  read : Bool
  /-- J = Y. -/
  journal : Bool
  /-- SAFE = Y. -/
  safe : Bool
  /-- B = Y. -/
  bcast : Bool
  deriving DecidableEq, Repr

/-- Group 0x00 of Table 2-6. -/
def opRows0 : List OpInfo :=
  [⟨0x00, 0, 7, false, true, false, true, true⟩,
   ⟨0x01, 0, 7, false, true, false, true, false⟩,
   ⟨0x02, 0, 7, false, true, false, true, true⟩,
   ⟨0x03, 0, 7, false, false, false, true, false⟩,
   ⟨0x04, 0, 7, false, false, true, true, false⟩,
   ⟨0x05, 0, 7, false, false, false, true, false⟩,
   ⟨0x08, 1, 7, true, false, true, false, true⟩,
   ⟨0x09, 1, 7, false, false, true, true, false⟩,
   ⟨0x0A, 1, 7, false, true, false, true, false⟩,
   ⟨0x0B, 2, 7, false, false, true, false, false⟩,
   ⟨0x0C, 2, 7, true, false, true, false, false⟩,
   ⟨0x0D, 2, 3, true, false, true, false, false⟩]

/-- Group 0x10 of Table 2-6. -/
def opRows1 : List OpInfo :=
  [⟨0x10, 2, 7, false, false, true, false, false⟩,
   ⟨0x11, 2, 7, false, false, true, false, false⟩,
   ⟨0x12, 2, 7, false, false, true, false, false⟩,
   ⟨0x13, 1, 4, false, false, true, false, true⟩,
   ⟨0x14, 1, 4, false, false, true, false, true⟩,
   ⟨0x15, 2, 4, true, false, true, false, false⟩,
   ⟨0x16, 1, 4, false, true, false, false, false⟩,
   ⟨0x17, 2, 7, false, false, true, false, false⟩]

/-- Group 0x20 of Table 2-6. -/
def opRows2 : List OpInfo :=
  [⟨0x20, 2, 7, false, false, true, false, false⟩,
   ⟨0x21, 2, 7, false, false, true, false, false⟩,
   ⟨0x22, 2, 7, false, false, true, false, false⟩,
   ⟨0x23, 2, 4, false, false, true, false, false⟩,
   ⟨0x24, 2, 7, false, false, true, false, false⟩,
   ⟨0x25, 1, 4, false, true, false, false, false⟩]

/-- Group 0x30 of Table 2-6. -/
def opRows3 : List OpInfo :=
  [⟨0x30, 2, 7, false, false, true, false, false⟩,
   ⟨0x31, 2, 7, false, false, true, false, false⟩,
   ⟨0x32, 2, 6, true, false, true, false, false⟩,
   ⟨0x33, 2, 7, false, false, true, false, false⟩]

/-- Group 0x40 of Table 2-6. -/
def opRows4 : List OpInfo :=
  [⟨0x40, 2, 7, false, false, true, false, false⟩,
   ⟨0x41, 2, 7, false, false, true, false, false⟩,
   ⟨0x42, 2, 7, false, false, true, false, false⟩,
   ⟨0x43, 2, 4, false, false, true, false, false⟩,
   ⟨0x44, 2, 7, false, false, true, false, false⟩,
   ⟨0x45, 2, 3, false, false, true, false, false⟩,
   ⟨0x46, 1, 7, false, true, false, true, false⟩]

/-- Group 0x50 of Table 2-6. -/
def opRows5 : List OpInfo :=
  [⟨0x50, 2, 7, false, false, true, false, false⟩,
   ⟨0x51, 2, 7, false, false, true, false, false⟩,
   ⟨0x52, 1, 4, false, false, true, false, true⟩,
   ⟨0x53, 1, 4, false, false, true, false, true⟩,
   ⟨0x54, 1, 4, false, false, true, false, true⟩,
   ⟨0x55, 2, 7, false, false, true, false, false⟩,
   ⟨0x56, 2, 7, false, false, true, false, false⟩]

/-- Group 0x60 of Table 2-6. -/
def opRows6 : List OpInfo :=
  [⟨0x60, 2, 6, false, false, true, false, false⟩,
   ⟨0x61, 1, 6, false, true, false, true, false⟩,
   ⟨0x62, 2, 7, false, false, true, false, false⟩,
   ⟨0x63, 2, 6, false, false, true, false, false⟩,
   ⟨0x64, 2, 6, false, false, true, false, false⟩,
   ⟨0x65, 2, 7, false, false, true, false, false⟩,
   ⟨0x66, 2, 6, false, false, true, false, false⟩]

/-- Group 0x70 of Table 2-6. -/
def opRows7 : List OpInfo :=
  [⟨0x70, 2, 2, true, false, true, false, false⟩,
   ⟨0x71, 1, 6, false, true, false, true, true⟩,
   ⟨0x72, 1, 6, false, true, false, true, false⟩,
   ⟨0x73, 2, 6, true, false, true, false, false⟩,
   ⟨0x74, 2, 6, true, false, true, false, false⟩,
   ⟨0x75, 2, 3, false, false, true, false, false⟩,
   ⟨0x76, 2, 7, false, false, true, false, false⟩]

/-- Group 0x80 of Table 2-6. -/
def opRows8 : List OpInfo :=
  [⟨0x80, 1, 7, false, false, false, false, false⟩,
   ⟨0x81, 1, 6, false, false, false, false, false⟩,
   ⟨0x82, 1, 4, false, false, true, false, true⟩,
   ⟨0x83, 1, 4, false, false, true, false, true⟩,
   ⟨0x84, 1, 6, false, true, false, true, false⟩,
   ⟨0x85, 1, 7, false, false, false, false, false⟩]

/-- Group 0x90 of Table 2-6. -/
def opRows9 : List OpInfo :=
  [⟨0x90, 1, 7, false, true, false, true, false⟩,
   ⟨0x91, 1, 7, false, false, true, true, false⟩,
   ⟨0x92, 2, 7, false, false, true, false, false⟩,
   ⟨0x93, 2, 7, false, false, true, false, false⟩,
   ⟨0x94, 1, 7, false, true, false, true, false⟩]

/-- Group 0xA0 of Table 2-6. -/
def opRowsA : List OpInfo :=
  [⟨0xA0, 0, 3, true, false, true, false, false⟩,
   ⟨0xA1, 1, 7, false, true, false, true, false⟩,
   ⟨0xA2, 3, 3, true, false, true, false, false⟩,
   ⟨0xA8, 3, 3, false, false, true, false, false⟩,
   ⟨0xA9, 3, 3, false, false, true, false, false⟩,
   ⟨0xAA, 3, 3, true, false, true, false, false⟩,
   ⟨0xAB, 3, 3, true, false, true, false, false⟩,
   ⟨0xAC, 3, 3, true, false, true, false, false⟩]

/-- The opcode index (Table 2-6). -/
def opTable : List OpInfo :=
  opRows0 ++ opRows1 ++ opRows2 ++ opRows3 ++ opRows4 ++ opRows5 ++ opRows6 ++ opRows7 ++ opRows8 ++ opRows9 ++ opRowsA

/-- The row of an opcode, none for a reserved one. -/
def opInfo (op : Nat) : Option OpInfo := opTable.find? (fun r => r.op == op)

/-- The outcome of steps 9 to 11: the state, the status, reply data, what the pop of the reply begins, and whether the
command made a journal entry of its own in place of a COMMAND entry; a silent outcome leaves its reply for later. -/
structure CmdResult where
  st : State
  status : Byte
  data : List Byte := []
  why : ReplyPurpose := .normal
  ownEntry : Bool := false
  silent : Bool := false
  deriving DecidableEq, Repr

/-- A command that ends with a failure status and no other effect. -/
def failCmd (s : State) (st : Byte) : CmdResult := { st := s, status := st }
/-- A command that completed. -/
def okCmd (s : State) (data : List Byte) : CmdResult := { st := s, status := 0x00, data := data }
/-- A deferred command whose work has started. -/
def acceptCmd (s : State) : CmdResult := { st := s, status := 0x01 }

/-- The first failing check of a list (R51): a condition that must hold, and the status if it fails. -/
def firstFail : List (Bool × Byte) → Option Byte
  | [] => none
  | (ok, st) :: l => if ok then firstFail l else some st

/-- Steps 9 to 11 from a list of checks and the effect when all pass. -/
def checked (s : State) (checks : List (Bool × Byte)) (go : Unit → CmdResult) : CmdResult :=
  match firstFail checks with
  | some st => failCmd s st
  | none => go ()

/-! ### Rights and locks -/

/-- The addresses an access run names (Table 2-12): the first alone where the run is malformed. -/
def runAddrs (ps : List Byte) : List Nat :=
  let a := u32 ps 0
  let w := u8 ps 4
  let c := u16 ps 6
  if (w = 1 ∨ w = 2 ∨ w = 4) ∧ c * w ≤ 4096 then a :: (List.range c).map (fun i => a + i * w) else [a]

/-- The role Table 2-9 gives a read of an address: none where no role may. -/
def readRole (a : Nat) : Option Nat := if 0x020FD000 ≤ a ∧ a < 0x020FE000 then none else some 1

/-- The role Table 2-9 gives a write of an address; INSTALLER, the entry of Table 2-6, where no row holds it. -/
def writeRole (a : Nat) : Nat :=
  let b := blockOf a
  if b = 11 ∨ b = 12 ∨ b = 13 then 3
  else if a < 0x00200000 ∨ (0x00400000 ≤ a ∧ a < 0x00480000) ∨ (0x00800000 ≤ a ∧ a < 0x00808000) then 3
  else 2

/-- The lowest role a command needs with its parameters (R71, R72, Table 2-9): none where no role is admitted. -/
def needRole (info : OpInfo) (p : Packet) (s : State) : Option Nat :=
  match info.op with
  | 0xA0 =>
    if p.params.isEmpty then some info.rights else
    match u8 p.params 0 with
    | 0 => some 2
    | 1 => some 3
    | 2 => if (match p.origin with | .loc _ => true | .remote _ _ => false) && !s.sec.keys.installed.getLsbD 2
        then some 0 else none
    | 3 => if (match p.origin with | .loc _ => true | .remote _ _ => false) && !s.sec.keys.installed.getLsbD 3
        then some 0 else none
    | _ => some info.rights
  | 0x91 =>
    if p.params.length < 8 ∨ 13 < u8 p.params 0 then some info.rights else
    let f := fltOf s (u8 p.params 0)
    some (maxNat (1 :: ((f.items.filter (fun i => (u32 p.params 4).testBit i.source)).map (fun i => (ackRole i.severity).toNat))))
  | 0x0A =>
    if p.params.length < 4 then some info.rights
    else if (runAddrs p.params).any (fun a => (readRole a).isNone) then none else some 1
  | 0x0B =>
    if p.params.length < 4 then some info.rights else some (maxNat ((runAddrs p.params).map writeRole))
  | _ => some info.rights

/-- The lock bit of a register address (Table 2-13): none where no bit locks it. -/
def lockBit (a : Nat) : Option Nat :=
  let b := blockOf a
  let o := a % 0x10000
  if 14 ≤ b then none
  else if 0xF000 ≤ o ∧ o < 0xF018 then some 9
  else if b ≤ 1 then some 0
  else if b ≤ 9 then some (b - 1)
  else if b = 10 then some 9
  else none

/-- A configuration lock applies to a command (R73). -/
def lockedCmd (info : OpInfo) (p : Packet) (s : State) : Bool :=
  let on := fun k => s.sec.cfgLock.getLsbD k
  if info.op = 0x0C ∨ info.op = 0x0D then on 0
  else if info.op = 0x0B then
    (runAddrs p.params).any (fun a => match lockBit a with | some k => on k | none => false)
  else
    let g := info.op / 16
    1 ≤ g && g ≤ 9 && !info.read && on g

/-- A write names the NVM read window (R44). -/
def nvmWindow (a : Nat) : Bool := decide (0x02000000 ≤ a ∧ a < 0x02100000)

/-- Step 5 of Table 2-5: none when it passes. -/
def roleCheck (info : OpInfo) (p : Packet) (s : State) : Option Byte :=
  let role := (roleOf s p.origin).toNat
  match needRole info p s with
  | none => some 0x20
  | some need =>
    if role < need then some (if role = 0 then 0x21 else 0x20)
    else if lockedCmd info p s && decide (role < 3) then some 0x20
    else if info.op = 0x0B ∧ 4 ≤ p.params.length ∧ (runAddrs p.params).any nvmWindow then some 0x20
    else none

/-- Opcodes the loader executes in recovery (R470): IDENTIFY, GET_STATUS, the session and the image commands. -/
def recoveryOps : List Nat := [0x01, 0x02, 0x03, 0x04, 0x05, 0xA8, 0xA9, 0xAA, 0xAB]

/-- Step 6: the power state is legal, and in recovery the loader executes the opcode. -/
def stateLegal (info : OpInfo) (s : State) : Bool :=
  (match s.sys.power with
    | .dormant => info.states.testBit 0
    | .standby => info.states.testBit 1
    | .active => info.states.testBit 2
    | _ => false) && (!s.sec.recovery || recoveryOps.contains info.op)

/-- The commands that write NVM (R58). -/
def nvmOps : List Nat := [0x0C, 0x15, 0xA0, 0xA2, 0xA9, 0xAA, 0xAB, 0xAC]

/-- A command of an opcode is outstanding. -/
def outOp (s : State) (op : Nat) : Bool := s.sec.outstanding.any (fun o => o.opcode.toNat == op)

/-- An address that a write may not reach while CAPTURE_REFERENCE is outstanding (R179, R227; log entry 30). -/
def captureBlocks (a : Nat) : Bool :=
  decide ((0x01020000 ≤ a ∧ a < 0x01030000) ∨ (0x01040000 ≤ a ∧ a < 0x01040200)
    ∨ (0x01030100 ≤ a ∧ a < 0x01030200 ∧ a % 0x20 = 0))

/-- The BUSY cases of R58. -/
def busyCmd (info : OpInfo) (p : Packet) (s : State) : Bool :=
  let mine := s.sec.outstanding.filter (fun o => o.origin == p.origin)
  mine.any (fun o => o.tag == p.tag)
  || (info.deferred && decide (4 ≤ mine.length))
  || (!info.read && s.sec.outstanding.any (fun o => o.opcode.toNat / 16 == info.op / 16))
  || (nvmOps.contains info.op && s.sec.outstanding.any (fun o => nvmOps.contains o.opcode.toNat))
  || (!info.read && outOp s 0x0D)
  || (outOp s 0x15 && (info.op == 0x30 || info.op == 0x31 || info.op == 0x20
      || (info.op == 0x0B && (runAddrs p.params).any captureBlocks)))

/-- Steps 5 to 8 of Table 2-5: the status of the first that fails. -/
def admitCheck (info : OpInfo) (p : Packet) (s : State) : Option Byte :=
  match roleCheck info p s with
  | some st => some st
  | none =>
    if !stateLegal info s then some 0x30
    else if s.safe.hold && !info.safe then some 0x70
    else if busyCmd info p s then some 0x31
    else if journalRefuses s && info.op != 0xA1 && decide (2 ≤ (needRole info p s).getD 0) then some 0x20
    else none

/-! ### Journal entries of commands -/

/-- The byte a slot has in journal data: a free value where the origin holds none (log entry 31). -/
def slotByte (k : Option (Fin 6)) : Byte :=
  match k with
  | some k => BitVec.ofNat 8 k.val
  | none => Config.noSlotByte

/-- A COMMAND entry (Table 15-8), programmed with every entry raised before it, so before the reply (R140). -/
def journalCommand (o : Origin) (slot : Option (Fin 6)) (role : BitVec 2) (tag op status : Byte) (params : List Byte)
    (s : State) : State :=
  checkJournalFull (programAll (journalRaise (BitVec.ofNat 8 role.toNat) op status 0x01
    ([tag, slotByte slot, (originBytes o).1, (originBytes o).2] ++ (sha256 params).take 4) s))

/-! ### Concluding -/

/-- What follows steps 5 to 11 on the device that executes: the journal entry, the reply, or the outstanding command. -/
def conclude (info : OpInfo) (p : Packet) (bcast : Bool) (slot : Option (Fin 6)) (role : BitVec 2) (r : CmdResult) :
    State :=
  if r.silent then r.st
  else if r.status = 0x01 then
    reply p.origin bcast p.tag 0x01 false [] .normal
      { r.st with sec := { r.st.sec with outstanding := r.st.sec.outstanding ++
          [⟨BitVec.ofNat 8 info.op, p.origin, slot, role, p.tag, bcast, p.params⟩] } }
  else
    let s := if info.journal && !r.ownEntry then
        journalCommand p.origin slot (if info.op = 0x04 then roleOf r.st p.origin else role) p.tag
          (BitVec.ofNat 8 info.op) r.status p.params r.st
      else r.st
    reply p.origin bcast p.tag r.status true r.data r.why s

/-- Steps 5 to 11 of Table 2-5 and their conclusion. -/
def executeCommand (info : OpInfo) (body : Packet → State → CmdResult) (p : Packet) (bcast : Bool) (s : State) : State :=
  let r := match admitCheck info p s with
    | some st => failCmd s st
    | none => body p s
  conclude info p bcast (slotOf s p.origin) (roleOf s p.origin) r

/-- A failure at step 3 or 4, at the entry device: journaled when the opcode is marked J. -/
def rejectCommand (info : OpInfo) (p : Packet) (st : Byte) (s : State) : State :=
  conclude info p false (slotOf s p.origin) (roleOf s p.origin) (failCmd s st)

/-! ### Taking a packet -/

/-- The bytes of a command packet (Table 2-1). -/
def packetBytes (op : Nat) (p : Packet) : List Byte :=
  let h := [BitVec.ofNat 8 op, p.tag] ++ le 2 p.params.length ++ [p.dest, p.flags] ++ p.params
  h ++ le 2 (crc16 h).toNat

/-- The device takes packets: start-up complete and the firmware running, or the loader in recovery (R76, R136, R470). -/
def takesPackets (s : State) : Bool :=
  !s.sys.inReset && !asleep s && ((s.sys.cfgLoaded && s.sys.fwRun) || s.sec.recovery)

/-- A packet of an origin is taken now: R57 holds it while the interface's reply queue is full or a reply is held. -/
def canTake (o : Origin) (s : State) : Bool :=
  takesPackets s &&
  (match o with
    | .loc i => decide ((hostPort s i).replies.length < 8) && (hostPort s i).heldReplies.isEmpty
    | .remote _ _ => true)

/-- A packet not taken stands submitted in its mailbox (R57, R136); a remote one stays with LINK. -/
def holdPacket (o : Origin) (bytes : List Byte) (s : State) : State :=
  match o with
  | .loc i => if asleep s || s.sys.inReset then s else
      modPort i (fun q => { q with mbox :=
        { buf := bytes.take 4104, count := BitVec.ofNat 16 (min 0xFFFF bytes.length), submitted := true } }) s
  | .remote _ _ => s

/-- Step 1 begins: the mailbox is empty and ready again (R89), and the slot's idle time restarts (R68). -/
def takePacket (o : Origin) (s : State) : State :=
  let s := match o with
    | .loc i => modPort i (fun q => { q with mbox := {} }) s
    | .remote _ _ => { s with link := { s.link with cmdReady := s.link.cmdReady - 1 } }
  match slotOf s o with
  | some k => modSession k (fun e => { e with lastMs := s.sys.lpoMs }) s
  | none => s

/-! ### Destinations -/

/-- A destination is this device (R62). -/
def destHere (s : State) (d : Byte) : Bool := d == 0xFE || s.link.addr == some d

/-- A destination is a reachable device (R62). -/
def destReachable (s : State) (d : Byte) : Bool :=
  s.link.addr.isSome && (match routePort s d with
    | some n => s.link.ports[n].state == .up || s.link.ports[n].state == .trained
    | none => false)

/-- A command forwarded to another device, and the wait of R63 begun. -/
def relayCommand (i : Iface) (op : Nat) (p : Packet) (s : State) : State :=
  let s := sendPacket p.dest 2 0x08 i p.tag (packetBytes op p) s
  { s with sec := { s.sec with relays := s.sec.relays ++ [⟨i, p.tag, p.dest, BitVec.ofNat 8 op, false⟩] } }

/-- The addresses of every device of the route table, this one last when it holds none. -/
def askedAddrs (s : State) : List Byte := (s.link.routes.map (fun r => (BitVec.ofNat 8 r.1 : Byte))).filter (· != ownAddr s) ++ [ownAddr s]

/-- A broadcast sent on from the entry device: the frames on its tree ports, and the collection of R65 begun. -/
def sendBroadcast (i : Iface) (op : Nat) (p : Packet) (s : State) : State :=
  let ports := treePorts s
  let s := (segments (ifaceByte i) p.tag 17 0 (packetBytes op p)).foldl
    (fun t g => sendOnAll ports (ownFrame t 0xFF 2 0x08 g) t) s
  { s with sec := { s.sec with bcasts := s.sec.bcasts ++ [⟨i, p.tag, BitVec.ofNat 8 op, askedAddrs s, []⟩] } }

/-- Steps 3 to 11 of Table 2-5 for a defined opcode whose packet passed steps 1 and 2 (R51, R52, R62, R65). -/
def checkCommand (info : OpInfo) (body : Packet → State → CmdResult) (p : Packet) (s : State) : State :=
  match p.origin with
  | .remote _ _ =>
    if p.flags != 0 then rejectCommand info p 0x13 s
    else if p.dest = 0xFF ∧ !info.bcast then rejectCommand info p 0x13 s
    else executeCommand info body p false s
  | .loc i =>
    if p.dest = 0xFF then
      if p.flags != 0 then rejectCommand info p 0x13 s
      else if !info.bcast then rejectCommand info p 0x13 s
      else
        let s := queueReply i ⟨replyBytes (ownAddr s) 0x01 p.tag false false false [], .normal⟩ s
        executeCommand info body p true (sendBroadcast i info.op p s)
    else if destHere s p.dest then
      if p.flags != 0 then rejectCommand info p 0x13 s else executeCommand info body p false s
    else if !destReachable s p.dest then rejectCommand info p 0x50 s
    else if p.flags != 0 then rejectCommand info p 0x13 s
    else relayCommand i info.op p s

/-- A command packet of a defined opcode, as far as the device takes it now. -/
def runCommand (op : Nat) (body : Packet → State → CmdResult) (p : Packet) (s : State) : State :=
  match opInfo op with
  | none => s
  | some info =>
    if canTake p.origin s then checkCommand info body p (takePacket p.origin s)
    else holdPacket p.origin (packetBytes op p) s

/-! ### Completion of deferred commands -/

/-- The oldest outstanding command of an opcode. -/
def findOut (s : State) (op : Nat) : Option Outstanding := s.sec.outstanding.find? (fun o => o.opcode.toNat == op)

/-- The completion of a deferred command (R56, R61): its journal entry with the final status, then the final reply. -/
def completeDeferred (op : Nat) (status : Byte) (data : List Byte) (why : ReplyPurpose) (s : State) : State :=
  match findOut s op with
  | none => s
  | some o =>
    let s := { s with sec := { s.sec with outstanding := s.sec.outstanding.erase o } }
    let s := if (opInfo op).any (·.journal) then journalCommand o.origin o.slot o.role o.tag o.opcode status o.params s else s
    reply o.origin o.broadcast o.tag status true data why s

end Sys2Proof.Machine
end

