-- ==== Sys2Proof/Machine/Fit.lean ====
section
/-! DEFINITION. Configuration as a candidate register file: reading fields, the frame schedule and its fit in the epoch
(R27, R158, R159), regions and gains (R165, R170, R187), which the grid, touch, carrier, time and mode-change rules share. -/
namespace Sys2Proof.Machine

open Sys2Proof

/-- Register words replaced in a file, in order. -/
def fileSets (ws : List (Nat × Word)) (f : RegFile) : RegFile := ws.foldl (fun g p => fileSet p.1 p.2 g) f

/-- A word from a number. -/
def wd (n : Nat) : Word := BitVec.ofNat 32 n

/-- The shadow register file replaced. -/
def withShadow (f : RegFile) (s : State) : State := { s with shadow := f }

/-- A block's shadow words reach its active words at once where its state runs and no schedule exists (R138); otherwise
they wait for the boundary. -/
def applyNow (b : Nat) (s : State) : State :=
  if s.sys.power = .active ∧ s.time.sched.isNone then applyBlock b s else s

/-! ### The frame schedule -/

/-- An enabled schedule entry: slot, kind, offset in us. -/
structure SlotDef where
  slot : Nat
  kind : Nat
  off : Nat
  deriving DecidableEq, Repr

/-- The enabled entries of a register file, in order of slot. -/
def slotDefs (f : RegFile) : List SlotDef :=
  (List.range 8).filterMap (fun i =>
    let w := fileGet f (Reg.gridSched i)
    if bitOf w 0 then some ⟨i, fld w 1 2, fld w 4 20⟩ else none)

/-- FREQ of a carrier entry. -/
def carrFreq (f : RegFile) (n : Nat) : Nat := fld (fileGet f (Reg.carrEntryF n)) 0 19
/-- CYCLES of a carrier entry. -/
def carrCycles (f : RegFile) (n : Nat) : Nat := fld (fileGet f (Reg.carrEntryC n)) 0 5
/-- EN of a carrier entry. -/
def carrEn (f : RegFile) (n : Nat) : Bool := bitOf (fileGet f (Reg.carrEntryC n)) 8
/-- HOP_SET. -/
def hopSet (f : RegFile) : Nat := fld (fileGet f Reg.carrHop) 0 16

/-- The current carrier a candidate configuration runs on: the CURRENT it names for the boundary, else the carrier in
use. -/
def curCarrier (s : State) : Nat := s.carr.named.getD s.carr.active

/-- The chip of a carrier as a fraction: cycles over frequency. -/
def chipOf (f : RegFile) (n : Nat) : Nat × Nat := (carrCycles f n, carrFreq f n)

/-- The longest chip among the current carrier and the hop set (R158). -/
def longestChip (f : RegFile) (cur : Nat) : Nat × Nat :=
  ((maskBits 16 (hopSet f)).map (chipOf f)).foldl (fun a b => if a.1 * b.2 < b.1 * a.2 then b else a) (chipOf f cur)

/-- Chip slots of a frame of a kind (R155, R156). -/
def frameSlots (kind : Nat) : Nat := if kind = 0 then 132 else 36

/-- Frames follow one another without overlap: each offset plus the frame's duration is at most the next offset, or the
period at the end, where one is given. Durations compare as exact fractions. -/
def slotsFit (chip : Nat × Nat) (p : Option Nat) : List SlotDef → Bool
  | [] => true
  | [a] =>
    (match p with
      | none => true
      | some p => decide (a.off * chip.2 + frameSlots a.kind * chip.1 * 1000000 ≤ p * chip.2))
  | a :: b :: l =>
    decide (a.off < b.off) && decide (a.off * chip.2 + frameSlots a.kind * chip.1 * 1000000 ≤ b.off * chip.2)
      && slotsFit chip p (b :: l)

/-- The enabled entries start at entry 0 and leave no disabled entry between them (R158). -/
def slotsPacked (l : List SlotDef) : Bool := l.map (·.slot) == List.range l.length

/-- The fit test of R27, R158 and R159 against a period, or without one. -/
def fitOk (f : RegFile) (cur : Nat) (p : Option Nat) : Bool :=
  let l := slotDefs f
  slotsPacked l && l.all (fun e => decide (e.kind ≤ 2 ∧ e.off ≤ 999999)) && slotsFit (longestChip f cur) p l

/-- The period of the schedule in force, in us. -/
def periodUs (s : State) : Option Nat := s.time.sched.map (·.p)

/-- Lines of a self set (R168). -/
def selfLines (f : RegFile) (set : Nat) : Nat :=
  (List.range 9).foldl (fun a w => a + (fileGet f (Reg.gridSelfLines set w)).toNat * 2 ^ (32 * w)) 0

/-- The entries that produce frames: a self entry whose set names no line is skipped (R169). -/
def runSlots (f : RegFile) : List SlotDef :=
  (slotDefs f).filter (fun e => e.kind == 0 || selfLines f (e.kind - 1) != 0)

/-! ### Regions -/

/-- A region of a register file. -/
structure Region where
  idx : Nat
  en : Bool
  field : Bool
  gain : Nat
  d0 : Nat
  d1 : Nat
  s0 : Nat
  s1 : Nat
  deriving DecidableEq, Repr

/-- Region `i`. -/
def regionOf (f : RegFile) (i : Nat) : Region :=
  let a := fileGet f (Reg.gridRegionA i)
  let b := fileGet f (Reg.gridRegionB i)
  ⟨i, bitOf b 0, bitOf b 1, fld b 2 2, fld a 0 7, fld a 8 7, fld a 16 8, fld a 24 8⟩

/-- The eight regions. -/
def regionsOf (f : RegFile) : List Region := (List.range 8).map (regionOf f)

/-- A region's rectangle is valid (R170). -/
def Region.valid (r : Region) : Bool := decide (r.d0 ≤ r.d1 ∧ r.d1 ≤ 119 ∧ r.s0 ≤ r.s1 ∧ r.s1 ≤ 159)

/-- A node lies in a region. -/
def Region.has (r : Region) (d n : Nat) : Bool := decide (r.d0 ≤ d ∧ d ≤ r.d1 ∧ r.s0 ≤ n ∧ n ≤ r.s1)

/-- Two regions share a node. -/
def Region.overlaps (a b : Region) : Bool :=
  decide (a.d0 ≤ b.d1 ∧ b.d0 ≤ a.d1 ∧ a.s0 ≤ b.s1 ∧ b.s0 ≤ a.s1)

/-- Every rectangle is valid and no two enabled regions share a node (R170). -/
def regionsOk (f : RegFile) : Bool :=
  let l := regionsOf f
  l.all Region.valid && l.all (fun a => l.all (fun b =>
    !(a.en && b.en && decide (a.idx < b.idx) && a.overlaps b)))

/-- The gain code G of a node: its enabled region's GAIN, 0 outside every region (R165). -/
def nodeGain (f : RegFile) (d n : Nat) : Nat :=
  match (regionsOf f).find? (fun r => r.en && r.has d n) with
  | some r => r.gain
  | none => 0

/-- The analog gain code L of a sense lane: the highest G among its nodes (R165). -/
def laneGain (f : RegFile) (n : Nat) : Nat :=
  maxNat (((regionsOf f).filter (fun r => r.en && decide (r.s0 ≤ n ∧ n ≤ r.s1))).map (·.gain))

/-- The effective gain of a region (R187). -/
def effGain (f : RegFile) (i : Nat) : Nat :=
  let m := fileGet f (Reg.tchRgnMode i)
  let base := fld m 4 2
  let step := bitOf m 0 || (bitOf m 1 && !bitOf (fileGet f (Reg.gridRegionB i)) 1)
  if step then min 3 (base + fld m 6 2) else base

/-- The effective gain of a region recomputed into GRID_REGIONi_B.GAIN (R187). -/
def fixGain (i : Nat) (f : RegFile) : RegFile :=
  fileSet (Reg.gridRegionB i) (setFld (fileGet f (Reg.gridRegionB i)) 2 2 (effGain f i)) f

/-- A write of GRID_REGIONi_B.GAIN sets BASE_GAIN (R187). -/
def setBaseGain (i g : Nat) (f : RegFile) : RegFile :=
  fixGain i (fileSet (Reg.tchRgnMode i) (setFld (fileGet f (Reg.tchRgnMode i)) 4 2 g) f)

/-- The mode of a drive line in the plan (Table 5-3). -/
def planMode (f : RegFile) (d : Nat) : Nat := fld (fileGet f (Reg.gridPlan (d / 16))) (2 * (d % 16)) 2

end Sys2Proof.Machine
end

