-- ==== Sys2Proof/Machine/Brdg.lean ====
section
/-! DEFINITION. Bridge lanes, excitation, common-mode windows, lead faults, the check DAC and the trims (chapter 8). -/
namespace Sys2Proof.Machine

open Sys2Proof

/-! ### Rates and responses -/

/-- ODR of a RATE code in S/s (Table 9-1). -/
def odrOf (r : Nat) : Nat :=
  [48000, 32000, 24000, 16000, 12000, 8000, 6000, 4000, 2000, 1000, 500, 250, 100, 50, 25, 10].getD r 10

/-- Settling length L of a RESP code (Table 9-2). -/
def respL (r : Nat) : Nat := [3, 4, 5, 20, 16, 16, 24, 24, 78, 78, 40, 40].getD r 0

/-- Ten times Cr of a RESP code (Table 9-2). -/
def respCr (r : Nat) : Nat := [8, 11, 14, 32, 72, 10, 109, 16, 378, 23, 164, 30].getD r 0

/-- RATE of a lane. -/
def laneRate (f : RegFile) (n : Nat) : Nat := fld (fileGet f (Reg.convLaneCfg n)) 0 4
/-- RESP of a lane. -/
def laneResp (f : RegFile) (n : Nat) : Nat := fld (fileGet f (Reg.convLaneCfg n)) 4 4
/-- EN of a lane. -/
def laneEn (f : RegFile) (n : Nat) : Bool := bitOf (fileGet f (Reg.brdgLaneCfg n)) 0
/-- MODE of a group. -/
def egMode (f : RegFile) (g : Nat) : Nat := fld (fileGet f (Reg.brdgEgCfg g)) 0 2
/-- M of a group: 2 to the power CHOP_M. -/
def egM (f : RegFile) (g : Nat) : Nat := 2 ^ fld (fileGet f (Reg.brdgEgCfg g)) 2 3
/-- BLANK of a group. -/
def egBlank (f : RegFile) (g : Nat) : Nat := fld (fileGet f (Reg.brdgEgCfg g)) 8 6

/-- The lanes of a group. -/
def groupLanes (g : Nat) : List Nat := [4 * g, 4 * g + 1, 4 * g + 2, 4 * g + 3]
/-- The 32 lanes. -/
def lanes32 : List Nat := List.range 32
/-- The 8 groups. -/
def groups8 : List Nat := List.range 8

/-- The conditions of R260 on a group. -/
def chopOk (f : RegFile) (g : Nat) : Bool :=
  egMode f g != 2 ||
  (match (groupLanes g).filter (laneEn f) with
    | [] => true
    | n :: l =>
      let odr := odrOf (laneRate f n)
      l.all (fun k => laneRate f k == laneRate f n) &&
      decide (odr * egM f g ≤ 48000 ∧ egBlank f g * 2 * odr * egM f g < 6144000))

/-- A RATE code fits a period: ODR × P is an integer (R28). -/
def rateFits (p : Option Nat) (r : Nat) : Bool :=
  match p with
  | none => true
  | some p => p * odrOf r % 1000000 == 0

/-- One lane's conversion state. -/
def laneOf (s : State) (n : Nat) : LaneSt := vget s.conv.lanes n {}

/-- One lane's conversion state changed. -/
def modLane (n : Nat) (f : LaneSt → LaneSt) (s : State) : State :=
  { s with conv := { s.conv with lanes := vmodN s.conv.lanes n f } }

/-- A lane converts now (R286, R290). -/
def laneOn (s : State) (n : Nat) : Bool := s.sys.power == .active && !s.conv.paused && (laneOf s n).on

/-- A lane of a group converts. -/
def groupOn (s : State) (g : Nat) : Bool := (groupLanes g).any (laneOn s)

/-- L of the response in force on a lane. -/
def laneL (s : State) (n : Nat) : Nat := respL (laneResp s.active n)

/-- A settling change of a lane: L samples from the next one on carry SETTLING (R265, R296). -/
def settleLane (n : Nat) (s : State) : State :=
  let l := laneL s n
  modLane n (fun (x : LaneSt) => if x.on then { x with settle := max x.settle l } else x) s

/-- Several lanes settle. -/
def settleLanes (l : List Nat) (s : State) : State := l.foldl (fun t n => settleLane n t) s

/-! ### Applying changes -/

/-- What of a group's excitation is a settling change. -/
def excKey (f : RegFile) (g : Nat) : Nat × Nat × Nat := (egMode f g, egM f g, egBlank f g)
/-- What of a lane's configuration is a settling change: EN, REF and GAIN. -/
def laneKey (f : RegFile) (n : Nat) : Nat := fld (fileGet f (Reg.brdgLaneCfg n)) 0 5

/-- The lanes that a change from one active file to another affects (R265). -/
def settled (old new : RegFile) : List Nat :=
  lanes32.filter (fun n => excKey old (n / 4) != excKey new (n / 4) || laneKey old n != laneKey new n)

/-- The shadow words of a group and its lanes put in force, with their settling (R264, R265). -/
def applyGroup (g : Nat) (s : State) : State :=
  let old := s.active
  let a := Reg.brdgEgCfg g
  let b := Reg.brdgLaneCfg (4 * g)
  let s := applyRange b (b + 32) (applyRange a (a + 8) s)
  excFix (settleLanes (settled old s.active) s)

/-- Groups held open by a reset that may close now: excitation closes as a settling change (R282). -/
def closeHeld (gs : List Nat) (s : State) : State :=
  if s.brdg.restart then s else
  let l := gs.filter (fun g => s.brdg.held.getLsbD g)
  let m : BitVec 8 := BitVec.ofNat 8 (sumNat (l.map (fun g => 2 ^ g)))
  let s := { s with brdg := { s.brdg with held := s.brdg.held &&& ~~~m } }
  excFix (settleLanes (l.flatMap groupLanes) s)

/-- AT_EPOCH changes taken into the shadow at their epoch (R264). -/
def brdgDue (m : Word) (s : State) : State :=
  let due := s.brdg.waiting.filter (fun (c : BrdgChange) => !laterW c.epoch m)
  let s := due.foldl (fun t (c : BrdgChange) => withShadow (fileSets c.writes t.shadow) t) s
  { s with brdg := { s.brdg with waiting := s.brdg.waiting.filter (fun (c : BrdgChange) => laterW c.epoch m) } }

/-- A window's state after a snuff or a stop: nothing is watched, the histories stand (R267, R273). -/
def winStop (w : WinSt) : WinSt :=
  { w with
    viol := none, lastViol := none, invalidLeft := 0, classed := .none
    openEv := if w.viol.isSome && w.classed == .event then w.openEv - 1 else w.openEv }

/-- The snuffs due of a lane or group take effect (R273). -/
def applySnuff (w : WinItem) (s : State) : State :=
  match w with
  | .lane n =>
    if s.snuffDue.lanes.getLsbD n.val then
      let m : BitVec 32 := 1#32 <<< n.val
      { s with
        snuff := { s.snuff with lanes := s.snuff.lanes ||| m }
        snuffDue := { s.snuffDue with lanes := s.snuffDue.lanes &&& ~~~m }
        brdg := { s.brdg with lanes := vmod s.brdg.lanes n winStop } }
    else s
  | .group g =>
    if s.snuffDue.groups.getLsbD g.val then
      let m : BitVec 8 := 1#8 <<< g.val
      excFix { s with
        snuff := { s.snuff with groups := s.snuff.groups ||| m }
        snuffDue := { s.snuffDue with groups := s.snuffDue.groups &&& ~~~m }
        brdg := { s.brdg with
          groups := vmod s.brdg.groups g winStop
          lanes := (groupLanes g.val).foldl (fun v n => vmodN v n winStop) s.brdg.lanes } }
    else s

/-- What an epoch boundary in ACTIVE does for BRDG once the shadow is in force: settling, held groups, and the snuffs of
groups with no converting lane. -/
def brdgBoundary (old : RegFile) (s : State) : State :=
  let s := settleLanes (settled old s.active) s
  let s := closeHeld groups8 s
  let idle := fun (g : Nat) => !groupOn s g
  let s := (List.finRange 8).foldl (fun t g => if idle g.val then applySnuff (.group g) t else t) s
  let s := (List.finRange 32).foldl (fun t n => if idle (n.val / 4) then applySnuff (.lane n) t else t) s
  excFix s

/-- Front end switched on or off with the power state, or outputs changed: the switches follow, and out of ACTIVE the
check DAC and the windows are off (R120, R267). -/
def brdgPower (s : State) : State :=
  let s := if s.sys.power = .active then s else
    { s with brdg := { s.brdg with
      chkOn := 0, chkWait := 0, chkLanes := 0, chkMode := 0
      lanes := s.brdg.lanes.map winStop, groups := s.brdg.groups.map winStop } }
  excFix s

/-! ### Registers -/

/-- Events of a window begun in the last 10 s, at most 8 (R271). -/
def eventCount (s : State) (w : WinSt) : Nat :=
  min 8 (w.events.filter (fun t => decide (s.time.ns ≤ t + 10000000000))).length

/-- A lane's window state. -/
def laneWin (s : State) (n : Nat) : WinSt := vget s.brdg.lanes n {}
/-- A group's sense-pair state. -/
def groupWin (s : State) (g : Nat) : WinSt := vget s.brdg.groups g {}

/-- A lane's samples are now marked INVALID (R270, R272, R273, R282, R309). -/
def invalidNow (s : State) (n : Nat) : Bool :=
  let w := laneWin s n
  laneSnuffed s n || w.viol.isSome || decide (0 < w.invalidLeft) || (groupWin s (n / 4)).viol.isSome
    || s.brdg.held.getLsbD (n / 4) || (laneOf s n).blank || (laneOf s n).badEdge

/-- A word from one bit per place. -/
def bitsOf (n : Nat) (f : Nat → Bool) : Nat := sumNat ((List.range n).map (fun i => if f i then 2 ^ i else 0))

/-- The read-only words of Tables 8-11 and 8-12, by block offset. -/
def brdgRo (s : State) (o : Nat) : Nat :=
  let b := s.brdg
  if o = 0 then
    b1 b.trimDefault + 2 * b1 b.trimNeutral + 4 * b1 (b.chkOn != 0) + 256 * b.excOn.toNat + 65536 * s.snuff.groups.toNat
      + 2 ^ 24 * bitsOf 8 (fun g => (groupWin s g).viol.isSome)
  else if o = 0x04 then bitsOf 32 (laneSnuffed s)
  else if o = 0x08 then bitsOf 32 (fun n => (laneWin s n).viol.isSome)
  else if o = 0x0C then bitsOf 32 (invalidNow s)
  else if 0x80 ≤ o ∧ o < 0xA0 then
    let g := (o - 0x80) / 4
    let w := groupWin s g
    b1 w.viol.isSome + 2 * b1 (b.vexLow.getLsbD g) + 4 * b1 (b.overcurrent.getLsbD g) + 8 * b1 (s.snuff.groups.getLsbD g)
      + 256 * eventCount s w + 65536 * w.transients.toNat
  else if 0x200 ≤ o ∧ o < 0x280 then
    let n := (o - 0x200) / 4
    let w := laneWin s n
    b1 w.viol.isSome + 2 * b1 (invalidNow s n) + 4 * b1 (laneSnuffed s n) + 8 * b1 (b.chkOn.getLsbD n)
      + 256 * eventCount s w + 65536 * w.transients.toNat
  else if o = 0x280 then b.chkMode.toNat + 256 * b.chkAtten.toNat + 65536 * b.chkCode.toNat
  else if o = 0x284 then b.chkOn.toNat
  else if 0x300 ≤ o ∧ o < 0x380 then
    let t := vget b.trims ((o - 0x300) / 4) (0x200, 0x200)
    t.1.toNat + 65536 * t.2.toNat
  else if o = 0x380 then b.trimCheck.toNat
  else 0

/-- The RC fields a read of an offset clears: TRANSIENTS. -/
def brdgRc (o : Nat) (s : State) : State :=
  let clr := fun (w : WinSt) => { w with transients := 0 }
  if 0x80 ≤ o ∧ o < 0xA0 then { s with brdg := { s.brdg with groups := vmodN s.brdg.groups ((o - 0x80) / 4) clr } }
  else if 0x200 ≤ o ∧ o < 0x280 then { s with brdg := { s.brdg with lanes := vmodN s.brdg.lanes ((o - 0x200) / 4) clr } }
  else s

/-- REF = 1 on a lane of a group whose VEX lies below REFP (Table 8-8): a free value. -/
def refBad (s : State) (n : Nat) (w : Word) : Bool := bitOf w 1 && Config.vexBelowRefp (n / 4) s.freeCtr

/-- The rules of the commands that set BRDG fields, on a candidate file (R264). -/
def brdgRule (s : State) (f : RegFile) (o : Nat) : Option Byte :=
  let win := fun (w : Word) => if fld w 0 8 < fld w 8 8 then none else some (0x13 : Byte)
  if 0x40 ≤ o ∧ o < 0x80 then
    let g := (o - 0x40) / 8
    if o % 8 = 0 then
      (if egMode f g != 3 && decide (fld (fileGet f (Reg.brdgEgCfg g)) 2 3 ≤ 6) && chopOk f g then none else some 0x13)
    else win (fileGet f (Reg.brdgEgWin g))
  else if 0x100 ≤ o ∧ o < 0x200 then
    let n := (o - 0x100) / 8
    if o % 8 = 0 then
      (if chopOk f (n / 4) && !refBad s n (fileGet f (Reg.brdgLaneCfg n)) then none else some 0x13)
    else win (fileGet f (Reg.brdgLaneWin n))
  else none

/-! ### Configuration commands -/

/-- A BRDG change accepted: AT_EPOCH = 1 in ACTIVE waits for its epoch, all else reaches the shadow (R264). -/
def brdgChange (ws : List (Nat × Word)) (at1 : Bool) (e : Word) (s : State) : CmdResult :=
  let s := { s with freeCtr := s.freeCtr + 1 }
  if at1 && s.sys.power == .active then
    okCmd { s with brdg := { s.brdg with waiting := s.brdg.waiting ++ [⟨e, ws⟩] } } (le 4 e.toNat)
  else
    let old := s.active
    let s := applyNow 5 (withShadow (fileSets ws s.shadow) s)
    okCmd (excFix (settleLanes (settled old s.active) s)) (le 4 (if at1 then e.toNat else 0))

/-- The checks of FLAGS and EPOCH shared by the commands with AT_EPOCH: WRONG_STATE without an epoch, then R24. -/
def atChecks (s : State) (at1 : Bool) (e : Word) : List (Bool × Byte) :=
  [(!at1 || (currentEpoch s).isSome, 0x30), (!at1 || (targetBad s e).isNone, 0x13)]

/-- BRIDGE_CONFIG (Table 8-8). -/
def bridgeConfigBody (p : Packet) (s : State) : CmdResult :=
  let q := p.params
  let opt := u8 q 5
  let lanes := maskBits 32 (u32 q 0)
  let cfg := wd (opt % 4 + 4 * u8 q 6 + 256 * u8 q 7)
  let ws := lanes.map (fun n => (Reg.brdgLaneCfg n, cfg))
  let f := fileSets ws s.shadow
  checked s
    ([(decide (q.length = 12), 0x11), (decide (u8 q 4 ≤ 1 ∧ opt ≤ 3 ∧ u8 q 6 ≤ 7 ∧ u8 q 7 ≤ 3), 0x13),
      (lanes.all (fun n => !refBad s n cfg && chopOk f (n / 4)), 0x13)]
      ++ atChecks s (u8 q 4 == 1) (w32 q 8))
    (fun _ => brdgChange ws (u8 q 4 == 1) (w32 q 8) s)

/-- EXCITE_SET (Table 8-9). -/
def exciteSetBody (p : Packet) (s : State) : CmdResult :=
  let q := p.params
  let gs := maskBits 8 (u8 q 0)
  let cfg := wd (u8 q 2 + 4 * u8 q 3 + 256 * u8 q 4 + 65536 * u8 q 5)
  let ws := gs.map (fun g => (Reg.brdgEgCfg g, cfg))
  let f := fileSets ws s.shadow
  checked s
    ([(decide (q.length = 12), 0x11),
      (decide (u8 q 1 ≤ 1 ∧ u8 q 2 ≤ 2 ∧ u8 q 3 ≤ 6 ∧ u8 q 4 ≤ 63 ∧ u8 q 5 ≤ 3) && zeros q 6 2, 0x13),
      (gs.all (chopOk f), 0x13)] ++ atChecks s (u8 q 1 == 1) (w32 q 8))
    (fun _ => brdgChange ws (u8 q 1 == 1) (w32 q 8) s)

/-- CMWIN_SET (Table 8-10). -/
def cmwinSetBody (p : Packet) (s : State) : CmdResult :=
  let q := p.params
  let ls := maskBits 32 (u32 q 0)
  let gs := maskBits 8 (u8 q 4)
  let ws := ls.map (fun n => (Reg.brdgLaneWin n, wd (u8 q 6 + 256 * u8 q 7)))
    ++ gs.map (fun g => (Reg.brdgEgWin g, wd (u8 q 8 + 256 * u8 q 9)))
  checked s
    ([(decide (q.length = 16), 0x11), (decide (u8 q 5 ≤ 1) && zeros q 10 2, 0x13),
      ((ls.isEmpty || decide (u8 q 6 < u8 q 7)) && (gs.isEmpty || decide (u8 q 8 < u8 q 9)), 0x13)]
      ++ atChecks s (u8 q 5 == 1) (w32 q 12))
    (fun _ => brdgChange ws (u8 q 5 == 1) (w32 q 12) s)

/-- CHECK_DAC (R275, R276): the lanes whose connection changes wait for their next output-sample boundary. -/
def checkDacBody (p : Packet) (s : State) : CmdResult :=
  let q := p.params
  let lanes := w32 q 0
  let code := sx 16 (u16 q 6)
  checked s
    [(decide (q.length = 8), 0x11),
     (decide (u8 q 4 ≤ 2 ∧ u8 q 5 ≤ 7 ∧ -2048 ≤ code ∧ code ≤ 2047) && (u8 q 4 != 0 || lanes == 0), 0x13),
     ((maskBits 32 lanes.toNat).all (fun n => laneEn s.active n && !laneSnuffed s n), 0x13)]
    (fun _ =>
      let m := BitVec.ofNat 2 (u8 q 4)
      let a := BitVec.ofNat 3 (u8 q 5)
      let c := BitVec.ofNat 12 (u16 q 6)
      let same := m = s.brdg.chkMode ∧ a = s.brdg.chkAtten ∧ c = s.brdg.chkCode
      let change := if same then lanes ^^^ s.brdg.chkLanes else lanes ||| s.brdg.chkLanes
      okCmd { s with brdg := { s.brdg with
        chkMode := m, chkAtten := a, chkCode := c, chkLanes := lanes, chkWait := s.brdg.chkWait ||| change } } [])

/-- The fault records of an item cleared with its reinstatement (R437). -/
def clearItem (b item : Nat) (s : State) : State :=
  modFlt b (fun f => { f with items := f.items.filter (fun i => i.item != item) }) s

/-- LANE_REINSTATE. -/
def laneReinstateBody (p : Packet) (s : State) : CmdResult :=
  let q := p.params
  let gs := w32 (q.drop 4) 0
  let groupsNow := s.snuff.groups ||| s.snuffDue.groups
  let ls := maskBits 32 (u32 q 0)
  checked s
    [(decide (q.length = 8), 0x11), (zeros q 5 3, 0x13),
     (ls.all (fun n => !groupsNow.getLsbD (n / 4) || gs.getLsbD (n / 4)), 0x13)]
    (fun _ =>
      let lm : BitVec 32 := w32 q 0 &&& (s.snuff.lanes ||| s.snuffDue.lanes)
      let gm : BitVec 8 := BitVec.ofNat 8 (u8 q 4) &&& groupsNow
      let ln := maskBits 32 lm.toNat
      let gn := maskBits 8 gm.toNat
      let data := le 4 lm.toNat ++ le 1 gm.toNat ++ [0, 0, 0]
      if ln.isEmpty && gn.isEmpty then okCmd s data else
      let drop := fun (x : SnuffSet) => { x with lanes := x.lanes &&& ~~~lm, groups := x.groups &&& ~~~gm }
      let held := BitVec.ofNat 8 (sumNat ((gn.filter (groupOn s)).map (fun g => 2 ^ g)))
      let clear := fun (v : Vector WinSt 32) n => vmodN v n (fun _ => ({} : WinSt))
      let s := { s with
        snuff := drop s.snuff, snuffDue := drop s.snuffDue, snuffWrite := true
        brdg := { s.brdg with
          lanes := ln.foldl clear s.brdg.lanes
          groups := gn.foldl (fun v g => vmodN v g (fun _ => ({} : WinSt))) s.brdg.groups
          overcurrent := s.brdg.overcurrent &&& ~~~gm
          held := s.brdg.held ||| held } }
      let s := ln.foldl (fun t n => clearItem 6 n (clearItem 5 n t)) s
      let s := gn.foldl (fun t g => clearItem 5 (32 + g) t) s
      let s := excFix (settleLanes (ln ++ gn.flatMap groupLanes) s)
      okCmd (journalRaise (BitVec.ofNat 8 (roleOf s p.origin).toNat) 0x44 0 0x06
        ([5] ++ le 4 lm.toNat ++ le 1 gm.toNat) s) data)

/-! ### Trims -/

/-- The factory trim record, 4,096 bytes (Table 8-5): what the factory wrote, free where it fails its check. -/
def trimRecord (s : State) : List Byte :=
  if s.nvm.trimBad then (List.range 4096).map Config.freeByte else
  let lane := fun n => put 0 10 (Config.bridgeTrim n).1.toNat + put 16 10 (Config.bridgeTrim n).2.toNat
  let b := padTo 4092 0xFF (le 4 1 ++ uidBytes ++ le 2 Config.calTemp.toNat ++ [0, 0]
    ++ lanes32.flatMap (fun n => le 4 (lane n)) ++ (List.range 440).flatMap (fun i => le 2 (Config.gridTrim i).toNat))
  b ++ le 4 (crc32 b).toNat

/-- The bridge trim DACs of the factory record. -/
def factoryTrims : Vector (BitVec 10 × BitVec 10) 32 := Vector.ofFn (fun n => Config.bridgeTrim n.val)
/-- The neutral bridge trim DACs. -/
def neutralTrims : Vector (BitVec 10 × BitVec 10) 32 := Vector.replicate 32 (0x200, 0x200)

/-- The record checked and the bridge trim DACs loaded (R279): neutral with TRIM_INVALID where the record fails. -/
def loadBridgeTrims (neutral : Bool) (s : State) : State :=
  let bad := s.nvm.trimBad
  let s := { s with brdg := { s.brdg with
    trims := if bad || neutral then neutralTrims else factoryTrims
    trimDefault := bad, trimNeutral := neutral, trimCheck := w32 (trimRecord s) 4092 } }
  if bad then raise 5 Src.brdgTrimInvalid noItem s else s

/-- TRIM_APPLY. -/
def trimApplyBody (p : Packet) (s : State) : CmdResult :=
  let q := p.params
  checked s [(decide (q.length = 4), 0x11), (decide (u8 q 0 ≤ 1) && zeros q 1 3, 0x13)]
    (fun _ =>
      let t := loadBridgeTrims (u8 q 0 == 1) s
      okCmd t (le 4 (b1 (!s.nvm.trimBad)) ++ le 4 t.brdg.trimCheck.toNat))

/-- TRIM_READ. -/
def trimReadBody (p : Packet) (s : State) : CmdResult :=
  let q := p.params
  checked s [(decide (q.length = 4), 0x11), (decide (u16 q 0 + u16 q 2 ≤ 4096), 0x13)]
    (fun _ => okCmd s (((trimRecord s).drop (u16 q 0)).take (u16 q 2)))

/-- BRIDGE_CONFIG (R264). -/
def execBridgeConfig (p : Packet) (s : State) : Host.Outcome State Fault Refusal :=
  .next (runCommand 0x40 bridgeConfigBody p s)
/-- EXCITE_SET (R259, R264). -/
def execExciteSet (p : Packet) (s : State) : Host.Outcome State Fault Refusal := .next (runCommand 0x41 exciteSetBody p s)
/-- CMWIN_SET (R266, R267). -/
def execCmwinSet (p : Packet) (s : State) : Host.Outcome State Fault Refusal := .next (runCommand 0x42 cmwinSetBody p s)
/-- CHECK_DAC (R275, R276). -/
def execCheckDac (p : Packet) (s : State) : Host.Outcome State Fault Refusal := .next (runCommand 0x43 checkDacBody p s)
/-- LANE_REINSTATE (R437). -/
def execLaneReinstate (p : Packet) (s : State) : Host.Outcome State Fault Refusal :=
  .next (runCommand 0x44 laneReinstateBody p s)
/-- TRIM_APPLY (R279). -/
def execTrimApply (p : Packet) (s : State) : Host.Outcome State Fault Refusal := .next (runCommand 0x45 trimApplyBody p s)
/-- TRIM_READ (R277). -/
def execTrimRead (p : Packet) (s : State) : Host.Outcome State Fault Refusal := .next (runCommand 0x46 trimReadBody p s)

/-! ### Windows and lead faults -/

/-- A window is evaluated: ACTIVE, its lane or a lane of its group converts, it is not snuffed, the group's excitation
is not OFF for a sense pair (R266, R267). -/
def winOn (s : State) (w : WinItem) : Bool :=
  match w with
  | .lane n => laneOn s n.val && laneEn s.active n.val && !laneSnuffed s n.val
  | .group g => groupOn s g.val && egMode s.active g.val != 0 && !s.snuff.groups.getLsbD g.val

/-- The state of a window. -/
def winOf (s : State) (w : WinItem) : WinSt :=
  match w with
  | .lane n => s.brdg.lanes[n]
  | .group g => s.brdg.groups[g]

/-- A window's state changed. -/
def modWin (w : WinItem) (f : WinSt → WinSt) (s : State) : State :=
  match w with
  | .lane n => { s with brdg := { s.brdg with lanes := vmod s.brdg.lanes n f } }
  | .group g => { s with brdg := { s.brdg with groups := vmod s.brdg.groups g f } }

/-- The fault item of a window: lane n, or 32 + g (Table 14-14). -/
def winItemNo (w : WinItem) : Nat :=
  match w with
  | .lane n => n.val
  | .group g => 32 + g.val

/-- The source of a window's event, and of its permanent event (Table 8-7). -/
def winSrc (w : WinItem) : Nat × Nat :=
  match w with
  | .lane _ => (Src.brdgLeadEvent, Src.brdgLeadPermanent)
  | .group _ => (Src.brdgExsEvent, Src.brdgExsPermanent)

/-- A permanent decision (R271, R272). -/
def winPermanent (w : WinItem) (s : State) : State :=
  raise 5 (winSrc w).2 (winItemNo w)
    (modWin w (fun (x : WinSt) => { x with classed := .permanent, openEv := x.openEv - 1 }) s)

/-- An event begins at `t`: it is raised and enters the history; the eighth within 10 s is permanent (R269, R271). -/
def winEvent (w : WinItem) (t : Nat) (s : State) : State :=
  let s := modWin w (fun (x : WinSt) => { x with
    events := (t :: x.events).take 8, openEv := x.openEv + 1, classed := .event }) s
  let s := raise 5 (winSrc w).1 (winItemNo w) s
  match (winOf s w).events[7]? with
  | some e => if t ≤ e + 10000000000 then winPermanent w s else s
  | none => s

/-- WINDOW_VIOLATION_BEGIN (R268): dated t_out. A lane's is classed later, a sense pair's is an event at once (R272). -/
def execWindowViolationBegin (w : WinItem) (t : Long) (s : State) : Host.Outcome State Fault Refusal :=
  if !winOn s w || (winOf s w).viol.isSome then .next s else
  let a := t.toNat
  let s := modWin w (fun (x : WinSt) => { x with
    viol := some a, lastViol := some (a, none), classed := .none, clear := none }) s
  match w with
  | .lane _ => .next s
  | .group _ => .next (winEvent w a s)

/-- A sense-pair violation makes a lane violation of `a` no lead event: it covers a, or begins within 32 fmod cycles
after a (R272). -/
def pairCovers (w : WinSt) (a : Nat) : Bool :=
  match w.lastViol with
  | none => false
  | some (t, c) =>
    if t ≤ a then (match c with | none => true | some c => decide (a < c))
    else decide ((t - a) * 6144 ≤ 32000000)

/-- LEAD_EVENT_CLASSIFY (R269, R272). -/
def execLeadEventClassify (lane : Fin 32) (s : State) : Host.Outcome State Fault Refusal :=
  let w := s.brdg.lanes[lane]
  match w.lastViol with
  | none => .next s
  | some (a, _) =>
    if w.classed != .none || laneSnuffed s lane.val || pairCovers (groupWin s (lane.val / 4)) a then .next s
    else .next (winEvent (.lane lane) a s)

/-- WINDOW_VIOLATION_END (R268): dated t_clear; the first L samples from then on stay INVALID (R270, R272). -/
def execWindowViolationEnd (w : WinItem) (t : Long) (s : State) : Host.Outcome State Fault Refusal :=
  match (winOf s w).viol with
  | none => .next s
  | some a =>
    let s := modWin w (fun (x : WinSt) => { x with viol := none, lastViol := some (a, some t.toNat), clear := some t.toNat }) s
    let ls := match w with
      | .lane n => [n.val]
      | .group g => groupLanes g.val
    .next (ls.foldl (fun (u : State) n =>
      let l := laneL u n
      { u with brdg := { u.brdg with lanes := vmodN u.brdg.lanes n (fun (x : WinSt) => { x with invalidLeft := max x.invalidLeft l }) } }) s)

/-- TRANSIENT_CLOSE (R271): 100 ms free of violation. -/
def execTransientClose (w : WinItem) (s : State) : Host.Outcome State Fault Refusal :=
  let x := winOf s w
  match x.viol, x.clear with
  | none, some c =>
    .next (modWin w (fun (x : WinSt) => { x with clear := none, openEv := 0, transients := sat16 x.transients x.openEv })
      (advanceTo (c + 100000000) s))
  | _, _ => .next s

/-- PERMANENT_DECISION (R271): the event in violation has lasted 1 s. -/
def execPermanentDecision (w : WinItem) (s : State) : Host.Outcome State Fault Refusal :=
  let x := winOf s w
  match x.viol with
  | some a => if x.classed = .event then .next (winPermanent w (advanceTo (a + 1000000000) s)) else .next s
  | none => .next s

/-- EXC_OVERCURRENT (R258, R273): the group's switches open at once; the reaction of its severity follows. -/
def execExcOvercurrent (g : Fin 8) (s : State) : Host.Outcome State Fault Refusal :=
  if !s.brdg.excOn.getLsbD g.val then .next s else
  .next (raise 5 Src.brdgExcOvercurrent (32 + g.val)
    (excFix { s with brdg := { s.brdg with overcurrent := s.brdg.overcurrent ||| (1#8 <<< g.val) } }))

/-- VEX_LOW (Table 8-1): the condition begins or ends; its beginning is raised. -/
def execVexLow (g : Fin 8) (present : Bool) (s : State) : Host.Outcome State Fault Refusal :=
  if s.sys.power ≠ .active then .next s else
  let m : BitVec 8 := 1#8 <<< g.val
  let was := s.brdg.vexLow.getLsbD g.val
  let s := { s with brdg := { s.brdg with vexLow := if present then s.brdg.vexLow ||| m else s.brdg.vexLow &&& ~~~m } }
  .next (if present && !was then raise 5 Src.brdgVexLow (32 + g.val) s else s)

/-- BRDG_CHANGE_APPLY (R264, R265, R282): an output-sample boundary of a group with a converting lane. -/
def execBrdgChangeApply (g : Fin 8) (s : State) : Host.Outcome State Fault Refusal :=
  if groupOn s g.val then .next (closeHeld [g.val] (applyGroup g.val s)) else .next s

/-- BRDG_SNUFF_APPLY (R273). -/
def execBrdgSnuffApply (w : WinItem) (s : State) : Host.Outcome State Fault Refusal := .next (applySnuff w s)

end Sys2Proof.Machine
end

