-- ==== Sys2Proof/Machine/Carr.lean ====
section
/-! DEFINITION. Carriers, the flicker index, the shadow carrier, hopping and the ember settings (chapter 7): the checks
of the CARR registers and the evaluation that follows every grid frame. -/
namespace Sys2Proof.Machine

open Sys2Proof

/-! ### Checks -/

/-- One carrier entry's fields are in range and its chip lasts at least 16 us (R230). -/
def entryOk (f : RegFile) (n : Nat) : Bool :=
  decide (100000 ≤ carrFreq f n ∧ carrFreq f n ≤ 500000 ∧ 2 ≤ carrCycles f n ∧ carrCycles f n ≤ 16
    ∧ carrFreq f n ≤ 62500 * carrCycles f n)

/-- MODE of CARR_CFG: hopping. -/
def hopMode (f : RegFile) : Bool := bitOf (fileGet f Reg.carrCfg) 4
/-- WINDOW. -/
def carrWindow (f : RegFile) : Nat := fld (fileGet f Reg.carrCfg) 8 7
/-- HOLD. -/
def carrHold (f : RegFile) : Nat := fld (fileGet f Reg.carrCfg) 24 8
/-- DWELL. -/
def carrDwell (f : RegFile) : Nat := fld (fileGet f Reg.carrHop) 16 16

/-- The current carrier and every entry of the hop set are enabled (R231, R232). -/
def hopSetOk (f : RegFile) (cur : Nat) : Bool :=
  carrEn f cur && (maskBits 16 (hopSet f)).all (carrEn f)

/-- The rules of HOP_POLICY on WINDOW, DWELL and the hop set (R232, R234). -/
def hopRulesOk (f : RegFile) (cur : Nat) : Bool :=
  decide (carrWindow f ≤ 64) &&
  (!hopMode f || (decide (1 ≤ carrWindow f ∧ carrWindow f + carrHold f + 1 ≤ carrDwell f) && (hopSet f).testBit cur))

/-- All of the carrier configuration is consistent and fits the schedule (R230 to R234, R159). -/
def carrOk (f : RegFile) (cur : Nat) (p : Option Nat) : Bool :=
  (List.range 16).all (entryOk f) && hopSetOk f cur && hopRulesOk f cur && fitOk f cur p

/-- FIRST and LAST of a gang. -/
def gangRange (f : RegFile) (g : Nat) : Nat × Nat :=
  (fld (fileGet f (Reg.carrEmbGangL g)) 0 9, fld (fileGet f (Reg.carrEmbGangL g)) 16 9)
/-- APPROACH and TOUCH of a gang. -/
def gangThr (f : RegFile) (g : Nat) : Nat × Nat :=
  (fld (fileGet f (Reg.carrEmbGangT g)) 0 16, fld (fileGet f (Reg.carrEmbGangT g)) 16 16)
/-- The enabled gangs. -/
def gangsOn (f : RegFile) : List Nat := maskBits 8 (fld (fileGet f Reg.carrEmbCfg) 8 8)

/-- An enabled gang keeps R246 by itself, and its thresholds are in range. -/
def gangOk (f : RegFile) (g : Nat) : Bool :=
  let (a, b) := gangRange f g
  let (t, u) := gangThr f g
  decide (a ≤ b ∧ b ≤ 279 ∧ b - a < 64 ∧ (b ≤ 119 ∨ 120 ≤ a) ∧ 1 ≤ t ∧ t < u ∧ 2 ≤ u ∧ u ≤ 32767)

/-- The ember configuration is consistent (R246, Table 7-9). -/
def emberOk (f : RegFile) : Bool :=
  let l := gangsOn f
  decide (fld (fileGet f Reg.carrEmbCfg) 0 6 ≤ 50) && l.all (gangOk f) &&
  l.all (fun g => l.all (fun h => decide (g = h) ||
    decide ((gangRange f g).2 < (gangRange f h).1 ∨ (gangRange f h).2 < (gangRange f g).1)))

/-! ### Applying the carrier configuration -/

/-- The candidates of the shadow: the hop set without the current carrier (R237). -/
def candidates (f : RegFile) (cur : Nat) : List Nat := (maskBits 16 (hopSet f)).filter (· != cur)

/-- The next candidate after an entry, in ascending order and cyclically (R237). -/
def nextCandidate (f : RegFile) (cur after : Nat) : Option Nat :=
  match (candidates f cur).find? (fun n => decide (after < n)) with
  | some n => some n
  | none => (candidates f cur).head?

/-- The shadow placed on the candidate after an entry, with an empty window; off with DWELL = 0 or no candidate. -/
def shadowTo (after : Nat) (s : State) : State :=
  let c := if carrDwell s.active = 0 then none else nextCandidate s.active s.carr.active after
  { s with carr := { s.carr with
    shadow := c, dwellLeft := if c.isSome then carrDwell s.active else 0
    candWin := [], blocks := [], gathered := (0, 0), holdRun := 0 } }

/-- The shadow restarted after a configuration applied, where its candidate is no longer one or it was off. -/
def shadowFix (s : State) : State :=
  match s.carr.shadow with
  | some c =>
    if carrDwell s.active ≠ 0 ∧ (candidates s.active s.carr.active).contains c then s else shadowTo s.carr.active s
  | none => shadowTo s.carr.active s

/-- A new current carrier: both windows restart, the HOP event is owed to the first frame on it (R241, R243, R252). -/
def newCarrier (n v2 : Nat) (s : State) : State :=
  let old := s.carr.active
  let s := { s with carr := { s.carr with
    active := n, curWin := [], sinceHop := some 0, hop := none
    hopEvent := if old = n then s.carr.hopEvent else some (old, n, v2) } }
  shadowTo n s

/-- A pending hop cancelled (R243, R254). -/
def cancelHop (s : State) : State :=
  if s.carr.hop.isSome then
    { s with carr := { s.carr with hop := none, cancelled := sat16 s.carr.cancelled 1 } }
  else s

/-- The shadow CARR words put in force: at a boundary, or at once where no schedule exists (R243, R138). -/
def carrApply (s : State) : State :=
  let was := hopMode s.active
  let s := applyBlock 4 s
  let gone := match s.carr.hop with
    | some (t, _, _) => !((hopSet s.active).testBit t && carrEn s.active t)
    | none => false
  let s := if gone || s.carr.named.isSome then cancelHop s else s
  let s := match s.carr.named with
    | some n => { newCarrier n 0xFFFF s with carr := { (newCarrier n 0xFFFF s).carr with named := none } }
    | none => s
  let s := shadowFix s
  if hopMode s.active && !was && (candidates s.active s.carr.active).isEmpty then
    raise 4 Src.carrNoCandidate noItem s
  else s

/-- A CARR change that waits no longer than R138 asks. -/
def carrNow (s : State) : State :=
  if s.sys.power = .active ∧ s.time.sched.isNone then carrApply s else s

/-- A pending AT_EPOCH change taken into the shadow at its epoch (R243). -/
def carrDue (m : Word) (s : State) : State :=
  match s.carr.pendingSet with
  | some (e, ws, cur) =>
    if laterW e m then s else
      { s with shadow := fileSets ws s.shadow, carr := { s.carr with
        pendingSet := none, named := match cur with | some c => some c | none => s.carr.named } }
  | none => s

/-! ### The flicker index -/

/-- The n-th chip sign of code 127 over a block of 16 (R238). -/
def sign127 (i : Nat) : Int := if (ones 7 i) % 2 = 0 then 1 else -1

/-- 131,072 times the square of a shadow value: its 16 samples hold 8·x / 2^L each (R238). -/
def shadowSquare (l : List Int) : Nat :=
  let t := sumInt (l.zipIdx.map (fun (p : Int × Nat) => sign127 p.2 * p.1))
  (t * t).toNat

/-- 131,072 times the square of a listen value v at gain L (R233). -/
def listenSquare (v : Int) (l : Nat) : Nat := (v * v).toNat * 131072 / 4 ^ l

/-- The flicker index of a sum of squares over N values: none with N below 16 (R234). -/
def flickerOf (w : Nat × Nat) : Option Half :=
  if w.2 < 16 then none
  else some (BitVec.ofNat 16 (min 0xFFFF ((isqrt (4 * w.1 / (512 * w.2)) + 1) / 2)))

/-- The sum of a window. -/
def winSum (l : List (Nat × Nat)) : Nat × Nat := l.foldl (fun a b => (a.1 + b.1, a.2 + b.2)) (0, 0)

/-- Values an outstanding survey has gathered for an entry and a lane. -/
def surveyGot (v : Survey) (e n : Nat) : List Int :=
  match v.got.find? (fun g => g.1 == e && g.2.1 == n) with
  | some g => g.2.2
  | none => []

/-- An entry of a survey is complete: every lane that has values has gathered VALUES of them (R245). -/
def surveyDone (v : Survey) (e : Nat) : Bool :=
  let l := v.got.filter (fun g => g.1 == e)
  !l.isEmpty && l.all (fun g => decide (v.values ≤ g.2.2.length))

/-- The entry a survey measures: the lowest of its mask not complete. -/
def surveyEntry (v : Survey) : Option Nat := (maskBits 16 v.mask).find? (fun e => !surveyDone v e)

/-- A value added to a survey's entry and lane. -/
def surveyAdd (e n : Nat) (q : Int) (v : Survey) : Survey :=
  let old := surveyGot v e n
  if v.values ≤ old.length then v else
  { v with got := v.got.filter (fun g => !(g.1 == e && g.2.1 == n)) ++ [(e, n, old ++ [q])] }

/-- One shadow value of a lane, as 131,072 times its square: to the survey, or to the candidate's window. -/
def shadowValue (n q : Nat) (s : State) : State :=
  match s.carr.survey with
  | some v =>
    match surveyEntry v with
    | some e => { s with carr := { s.carr with survey := some { surveyAdd e n q v with running := true } } }
    | none => s
  | none =>
    if s.carr.shadow.isSome then
      { s with carr := { s.carr with gathered := (s.carr.gathered.1 + q, s.carr.gathered.2 + 1) } }
    else s

/-- The shadow samples of a lane's tail guard added to its block (R238). -/
def shadowLane (n l : Nat) (xs : List Int) (s : State) : State :=
  let b := ((look n s.carr.blocks).getD []) ++ xs.map (fun x => x * 2 ^ (3 - l))
  if 16 ≤ b.length then
    shadowValue n (shadowSquare (b.take 16)) { s with carr := { s.carr with blocks := bind1 n (b.drop 16) s.carr.blocks } }
  else { s with carr := { s.carr with blocks := bind1 n b s.carr.blocks } }

/-- The tail guard of a grid frame: every lane that has a value and did not overload gives its samples (R238). -/
def shadowFrame (shadow : List (List Int)) (overload : List Nat) (s : State) : State :=
  if s.carr.shadow.isNone && s.carr.survey.isNone then s else
  (List.range 160).foldl (fun (t : State) (n : Nat) =>
    if overload.contains n then { t with carr := { t.carr with blocks := bind1 n [] t.carr.blocks } }
    else if lineSnuffed t (120 + n) then t
    else shadowLane n (laneGain t.active n) (shadow.getD n []) t) s

/-- The AGE of every entry after a mutual frame in which `done` were measured (R235). -/
def ageStep (done : List (Nat × Half)) (fi : Vector (Half × Half) 16) : Vector (Half × Half) 16 :=
  (List.finRange 16).foldl (fun (v : Vector (Half × Half) 16) (n : Fin 16) =>
    match look n.val done with
    | some x => v.set n.1 (x, 0) n.2
    | none =>
      let (x, a) := v[n]
      v.set n.1 (x, if a = 0xFFFF ∨ a = 0xFFFE then a else a + 1) n.2) fi

/-- A CARR event entry (R252). -/
def carrEntry (s : State) (t kind v1 v2 : Nat) : List Byte :=
  le 8 t ++ [BitVec.ofNat 8 kind, 0xFF, 0xFF, BitVec.ofNat 8 (b1 (parity s))] ++ le 2 v1 ++ le 2 v2

/-- NOISY and FLICKER_HIGH after a current-carrier FI (R236), with the entries to report. -/
def noisyStep (t fi : Nat) (s : State) : State × List (List Byte) :=
  let lim := fld (fileGet s.active Reg.carrHop2) 16 16
  if lim = 0 then (s, [])
  else if !s.carr.noisy && decide (lim < fi) then
    (raise 4 Src.carrFlickerHigh noItem { s with carr := { s.carr with noisy := true } }, [carrEntry s t 0x41 fi lim])
  else if s.carr.noisy && decide (fi ≤ lim * 3 / 4) then
    ({ s with carr := { s.carr with noisy := false } }, [carrEntry s t 0x42 fi 0])
  else (s, [])

/-- Some region is in its start-up window (R240). -/
def anyStartup (s : State) : Bool :=
  (List.finRange 8).any (fun i => (regionOf s.active i.val).en && s.tch.regions[i].window.isSome)

/-- The hop condition of R240, and whether items 5 or 6 block it. -/
def hopCondition (cur cand : Option Half) (s : State) : Bool × Bool :=
  let f := s.active
  let margin := fld (fileGet f Reg.carrCfg) 16 4
  let holdoff := fld (fileGet f Reg.carrHop2) 0 16
  let blocked := anyStartup s || outOp s 0x15 || outOp s 0x32
  let ready := match cur, cand with
    | some a, some b =>
      decide (s.carr.curWin.length = carrWindow f ∧ b.toNat * 16 ≤ a.toNat * (16 - margin)) &&
      (match s.carr.sinceHop with
        | some n => decide (holdoff ≤ n)
        | none => true)
    | _, _ => false
  (ready && !blocked, blocked)

/-- The evaluation after a mutual frame that ended at `te` (R240). -/
def hopEvaluate (te : Nat) (cur cand : Option Half) (s : State) : State :=
  if !hopMode s.active || s.carr.hop.isSome then s else
  let (ok, blocked) := hopCondition cur cand s
  let run := if ok then s.carr.holdRun + 1 else 0
  let s := { s with carr := { s.carr with holdRun := run, blocked := blocked } }
  match s.carr.shadow, cand with
  | some c, some v =>
    if ok && decide (carrHold s.active < run) then
      { s with carr := { s.carr with hop := some (c, te + 250000, v.toNat), holdRun := 0 } }
    else s
  | _, _ => s

/-- The shadow moves on when its dwell is over (R237); not while a survey has taken it over. -/
def dwellStep (s : State) : State :=
  match s.carr.shadow with
  | none => s
  | some c =>
    if s.carr.survey.isSome then s
    else if s.carr.dwellLeft ≤ 1 then shadowTo c s
    else { s with carr := { s.carr with dwellLeft := s.carr.dwellLeft - 1 } }

/-- What CARR does after a mutual frame: windows, flicker indices, noise limit, hop condition, dwell (R234 to R240). The
listen sum is 131,072 times the sum of squares, with its count. -/
def flickerFrame (t0 te : Nat) (listen : Nat × Nat) (s : State) : State × List (List Byte) :=
  let w := carrWindow s.active
  let curWin := if w = 0 then [] else (listen :: s.carr.curWin).take w
  let candWin := if w = 0 then [] else (s.carr.gathered :: s.carr.candWin).take w
  let cur := if w = 0 then none else flickerOf (winSum curWin)
  let cand := if w = 0 ∨ s.carr.shadow.isNone ∨ s.carr.survey.isSome then none else flickerOf (winSum candWin)
  let done := (match cur with | some x => [(s.carr.active, x)] | none => []) ++
    (match s.carr.shadow, cand with | some c, some x => [(c, x)] | _, _ => [])
  let s := { s with carr := { s.carr with
    curWin := curWin, candWin := candWin, gathered := (0, 0), fi := ageStep done s.carr.fi
    sinceHop := s.carr.sinceHop.map (fun (n : Nat) => n + 1) } }
  let (s, evs) := match cur with
    | some x => noisyStep t0 x.toNat s
    | none => (s, [])
  (dwellStep (hopEvaluate te cur cand s), evs)

/-! ### Registers -/

/-- CARR_STAT and the other read-only words (Tables 7-10 and 7-11), by block offset. -/
def carrRo (s : State) (o : Nat) : Nat :=
  let c := s.carr
  if o = 0x8C then
    put 0 4 c.active + put 4 4 (c.shadow.getD 0) + put 8 1 (b1 c.shadow.isSome) + put 9 1 (b1 c.hop.isSome)
      + put 10 1 (b1 c.noisy) + put 11 1 (b1 (outOp s 0x32)) + put 12 1 (b1 c.blocked) + put 13 1 (b1 c.pendingSet.isSome)
      + put 16 16 c.dwellLeft
  else if o = 0x90 then c.hops.toNat + 65536 * c.cancelled.toNat
  else if o = 0x94 then (match c.pendingSet with | some (e, _, _) => e.toNat | none => 0)
  else if 0x100 ≤ o ∧ o < 0x140 then
    let (x, a) := vget c.fi ((o - 0x100) / 4) (0, 0)
    x.toNat + 65536 * a.toNat
  else if o = 0x250 then c.approach.toNat + 256 * c.touch.toNat + 65536 * c.scans.toNat
  else if 0x260 ≤ o ∧ o < 0x280 then
    let g := vget c.gangs ((o - 0x260) / 4) {}
    (match g.signal with
      | some v => ux 16 (clampI (-32767) 32767 v)
      | none => if g.seen then 0x8000 else 0)
      + 65536 * ux 16 (clampI (-32767) 32767 (match g.base with | some b => roundDiv b.1 (2 ^ b.2) | none => 0))
  else 0

/-- The RC fields a read of an offset clears. -/
def carrRc (o : Nat) (s : State) : State :=
  if o = 0x90 then { s with carr := { s.carr with hops := 0, cancelled := 0 } } else s

/-- The rules of the commands that set CARR fields, on a candidate file (R255). -/
def carrRule (s : State) (f : RegFile) (o : Nat) : Option Byte :=
  let cur := if o = 0x80 ∧ fld (fileGet f Reg.carrCfg) 0 4 ≠ fld (shw s Reg.carrCfg) 0 4
    then fld (fileGet f Reg.carrCfg) 0 4 else curCarrier s
  if o < 0x8C then (if carrOk f cur (periodUs s) then none else some 0x13)
  else if 0x200 ≤ o ∧ o < 0x250 then (if emberOk f then none else some 0x13)
  else none

/-! ### Commands -/

/-- CARRIER_TABLE (Table 7-7). -/
def carrierTableBody (p : Packet) (s : State) : CmdResult :=
  let q := p.params
  let first := u8 q 0
  let count := u8 q 1
  let cur := u8 q 2
  let at1 := u8 q 3 = 1
  let e := w32 q 4
  if q.length < 8 ∨ q.length ≠ 8 + 8 * count then failCmd s 0x11 else
  let js := List.range count
  let ws := js.flatMap (fun j => [(Reg.carrEntryF (first + j), wd (u32 q (8 + 8 * j))),
    (Reg.carrEntryC (first + j), wd (u8 q (12 + 8 * j) + 256 * u8 q (13 + 8 * j)))])
  let f := fileSets ws s.shadow
  let named := if cur = 0xFF then none else some cur
  let f := match named with
    | some c => fileSet Reg.carrCfg (setFld (fileGet f Reg.carrCfg) 0 4 c) f
    | none => f
  let ws := match named with
    | some _ => ws ++ [(Reg.carrCfg, fileGet f Reg.carrCfg)]
    | none => ws
  checked s
    [(decide (first ≤ 15 ∧ count ≤ 16 ∧ first + count ≤ 16 ∧ (cur ≤ 15 ∨ cur = 0xFF) ∧ u8 q 3 ≤ 1), 0x13),
     (js.all (fun j => decide (100000 ≤ u32 q (8 + 8 * j) ∧ u32 q (8 + 8 * j) ≤ 500000 ∧ 2 ≤ u8 q (12 + 8 * j)
        ∧ u8 q (12 + 8 * j) ≤ 16 ∧ u8 q (13 + 8 * j) ≤ 1 ∧ u16 q (14 + 8 * j) = 0)), 0x13),
     (carrOk f (named.getD (curCarrier s)) (periodUs s), 0x13),
     (!at1 || (targetBad s e).isNone, (targetBad s e).getD 0),
     (s.carr.pendingSet.isNone, 0x31)]
    (fun _ =>
      if at1 then okCmd { s with carr := { s.carr with pendingSet := some (e, ws, named) } } []
      else
        let s := { withShadow f s with carr := { s.carr with named := match named with | some c => some c | none => s.carr.named } }
        okCmd (carrNow s) [])

/-- HOP_POLICY (Table 7-8). -/
def hopPolicyBody (p : Packet) (s : State) : CmdResult :=
  let q := p.params
  let cfg := setFld (setFld (setFld (setFld (setFld (shw s Reg.carrCfg) 4 1 (u8 q 0)) 5 1 (u8 q 12)) 8 7 (u8 q 1)) 16 4 (u8 q 2)) 24 8 (u8 q 3)
  let f := fileSets [(Reg.carrCfg, cfg), (Reg.carrHop, wd (u16 q 4 + 65536 * u16 q 6)),
    (Reg.carrHop2, wd (u16 q 8 + 65536 * u16 q 10))] s.shadow
  checked s
    [(decide (q.length = 16), 0x11),
     (decide (u8 q 0 ≤ 1 ∧ u8 q 1 ≤ 64 ∧ u8 q 2 ≤ 15 ∧ u8 q 12 ≤ 1) && zeros q 13 3, 0x13),
     (hopSetOk f (curCarrier s) && hopRulesOk f (curCarrier s) && fitOk f (curCarrier s) (periodUs s), 0x13)]
    (fun _ => okCmd (carrNow (withShadow f s)) [])

/-- NOISE_SURVEY (Table 7-2): the survey starts. -/
def noiseSurveyBody (p : Packet) (s : State) : CmdResult :=
  let q := p.params
  checked s
    [(decide (q.length = 4), 0x11), (decide (u8 q 2 ≤ 64 ∧ u8 q 3 = 0), 0x13)]
    (fun _ => acceptCmd { s with carr := { s.carr with
      survey := some { mask := u16 q 0, values := u8 q 2, standalone := false, running := false, got := [] }
      shadow := none, dwellLeft := 0, blocks := [], gathered := (0, 0), candWin := [] } })

/-- EMBER_CONFIG (Table 7-9). -/
def emberConfigBody (p : Packet) (s : State) : CmdResult :=
  let q := p.params
  let gs := (List.range 8).flatMap (fun g =>
    [(Reg.carrEmbGangL g, wd (u16 q (4 + 8 * g) % 512 + 65536 * (u16 q (6 + 8 * g) % 512))),
     (Reg.carrEmbGangT g, wd (u16 q (8 + 8 * g) + 65536 * u16 q (10 + 8 * g)))])
  let f := fileSets ((Reg.carrEmbCfg, wd (u8 q 0 + 256 * u8 q 1 + 65536 * u8 q 2 + 0x100000 * u8 q 3)) :: gs) s.shadow
  checked s
    [(decide (q.length = 68), 0x11),
     (decide (u8 q 0 ≤ 50 ∧ u8 q 2 ≤ 7 ∧ u8 q 3 ≤ 15), 0x13),
     ((maskBits 8 (u8 q 1)).all (fun g => decide (u16 q (4 + 8 * g) ≤ 279 ∧ u16 q (6 + 8 * g) ≤ 279)) && emberOk f, 0x13)]
    (fun _ => okCmd (withShadow f s) [])

/-- CARRIER_TABLE (R243). -/
def execCarrierTable (p : Packet) (s : State) : Host.Outcome State Fault Refusal :=
  .next (runCommand 0x30 carrierTableBody p s)
/-- HOP_POLICY (R240). -/
def execHopPolicy (p : Packet) (s : State) : Host.Outcome State Fault Refusal :=
  .next (runCommand 0x31 hopPolicyBody p s)
/-- NOISE_SURVEY (R245). -/
def execNoiseSurvey (p : Packet) (s : State) : Host.Outcome State Fault Refusal :=
  .next (runCommand 0x32 noiseSurveyBody p s)
/-- EMBER_CONFIG (R246). -/
def execEmberConfig (p : Packet) (s : State) : Host.Outcome State Fault Refusal :=
  .next (runCommand 0x33 emberConfigBody p s)

/-! ### Events -/

/-- The entries of a survey as NOISE_SURVEY reports them (Table 7-3), with the FI of the complete ones. -/
def surveyResult (v : Survey) (free : Int) (e : Nat) : List Byte × Option (Nat × Half) :=
  let qs := (v.got.filter (fun g => g.1 == e)).flatMap (fun g => g.2.2)
  let fi := flickerOf ((sumInt qs).toNat, qs.length)
  let peak := min 0xFFFF ((isqrt (4 * maxNat (qs.map Int.toNat) / 512) + 1) / 2)
  let valid := surveyDone v e && fi.isSome
  let x := if valid then (fi.getD 0).toNat else ux 16 free
  ([BitVec.ofNat 8 e, BitVec.ofNat 8 (b1 valid)] ++ le 2 x ++ le 2 peak ++ le 2 qs.length,
    if valid then fi.map (fun f => (e, f)) else none)

/-- NOISE_SURVEY_DONE (R245): the results reply; the FI of a carrier that is not valid is a free value. -/
def execNoiseSurveyDone (s : State) : Host.Outcome State Fault Refusal :=
  match s.carr.survey with
  | none => .next s
  | some v =>
    let (free, s) := freshInt s
    let es := if v.values = 0 then [] else maskBits 16 v.mask
    let rs := es.map (surveyResult v free)
    let how := if v.standalone && v.running then 2 else if v.running then 1 else 0
    let fi := (rs.filterMap (·.2)).foldl (fun (a : Vector (Half × Half) 16) x => vmodN a x.1 (fun _ => (x.2, 0))) s.carr.fi
    let s := shadowFix { s with carr := { s.carr with survey := none, fi := fi } }
    .next (completeDeferred 0x32 0x00 ([BitVec.ofNat 8 rs.length, BitVec.ofNat 8 how, 0, 0] ++ rs.flatMap (·.1)) .normal s)

/-- IDLE_LISTEN_FRAME (R239, R245): every lane gives one shadow value directly, in 1/16 grid count at gain 0 (log entry
33), to the survey or, with IDLE_FRAMES = 1 while the grid runs, to the candidate's window. -/
def execIdleListenFrame (u : List (Option Int)) (s : State) : Host.Outcome State Fault Refusal :=
  let vs := (u.zipIdx.filterMap (fun (p : Option Int × Nat) => p.1.map (fun v => (p.2, (v * v * 512).toNat)))).filter
    (fun p => decide (p.1 < 160) && !lineSnuffed s (120 + p.1))
  if s.safe.hold || !awake s then .next s else
  match s.carr.survey with
  | some v =>
    if s.grid.running && !bitOf (acw s Reg.carrCfg) 5 then .next s else
    match surveyEntry v with
    | none => .next s
    | some e =>
      let v := vs.foldl (fun (a : Survey) p => surveyAdd e p.1 p.2 a) v
      .next { s with carr := { s.carr with survey := some { v with
        standalone := v.standalone || !s.grid.running, running := v.running || s.grid.running } } }
  | none =>
    if s.grid.running && bitOf (acw s Reg.carrCfg) 5 then .next (vs.foldl (fun t p => shadowValue p.1 p.2 t) s)
    else .next s

end Sys2Proof.Machine
end

