-- ==== Sys2Proof/Machine/Conv.lean ====
section
/-! DEFINITION. Conversion, decimator resets, sample words and blocks, threshold events and the onset detector
(chapter 9). -/
namespace Sys2Proof.Machine

open Sys2Proof

/-! ### Configuration -/

/-- ALIGN of a lane. -/
def laneAlign (f : RegFile) (n : Nat) : Bool := bitOf (fileGet f (Reg.convLaneCfg n)) 8
/-- CODING of a lane. -/
def laneCoding (f : RegFile) (n : Nat) : Bool := bitOf (fileGet f (Reg.convLaneCfg n)) 9
/-- SOURCE of a lane. -/
def laneSource (f : RegFile) (n : Nat) : Nat := fld (fileGet f (Reg.convLaneCfg n)) 12 3
/-- SRC_SEL of a lane. -/
def laneSel (f : RegFile) (n : Nat) : Nat := fld (fileGet f (Reg.convLaneCfg n)) 16 4
/-- DELAY of a lane. -/
def laneDelay (f : RegFile) (n : Nat) : Nat := fld (fileGet f (Reg.convLaneSrc n)) 0 16
/-- BURST of a lane. -/
def laneBurst (f : RegFile) (n : Nat) : Nat := fld (fileGet f (Reg.convLaneSrc n)) 16 16
/-- Onset is enabled on a lane. -/
def onsetEn (f : RegFile) (n : Nat) : Bool := bitOf (fileGet f (Reg.convLaneOns0 n)) 0
/-- NS and NL of a lane's onset windows (R304). -/
def onsetWin (f : RegFile) (n : Nat) : Nat × Nat :=
  (fld (fileGet f (Reg.convLaneOns0 n)) 8 7, 16 * 2 ^ fld (fileGet f (Reg.convLaneOns0 n)) 16 4)

/-- A lane's configuration word keeps the rules of CONV_CONFIG and FILTER_SELECT: reserved codes, SRC_SEL, R28, R260,
and 12 kS/s for the onset detector. -/
def convLaneOk (f : RegFile) (p : Option Nat) (n : Nat) : Bool :=
  let src := laneSource f n
  decide (laneResp f n ≤ 0xB ∧ src ≤ 4) &&
  (if src = 2 then true else if src = 4 then decide (laneSel f n ≤ 3) else laneSel f n == 0) &&
  rateFits p (laneRate f n) && chopOk f (n / 4) && (!onsetEn f n || decide (laneRate f n ≤ 4))

/-- A lane's onset words keep the rules of ONSET_CONFIG. -/
def onsetOk (f : RegFile) (n : Nat) : Bool :=
  let w := fileGet f (Reg.convLaneOns0 n)
  decide (2 ≤ fld w 8 7 ∧ fld w 8 7 ≤ 64 ∧ fld w 16 4 ≤ 8 ∧ 16 ≤ fld w 24 8 ∧ 16 ≤ fld (fileGet f (Reg.convLaneOns1 n)) 0 16)
    && (!onsetEn f n || decide (laneRate f n ≤ 4))

/-- PERIOD of CONV_INTERVAL is in range. -/
def intervalOk (v : Nat) : Bool := v == 0 || decide (100 ≤ v ∧ v ≤ 10000000)

/-- The rules of the commands that set CONV fields, on a candidate file (R289). -/
def convRule (s : State) (f : RegFile) (o : Nat) : Option Byte :=
  let ok := fun (b : Bool) => if b then none else some (0x13 : Byte)
  if o = 0x0C then ok (decide (20 ≤ fld (fileGet f Reg.convSyncCfg) 0 16))
  else if o = 0x1C then ok (intervalOk (fld (fileGet f Reg.convInterval) 0 24))
  else if 0x100 ≤ o ∧ o < 0x900 then
    let n := (o - 0x100) / 0x40
    let k := (o - 0x100) % 0x40
    if k = 0 then ok (convLaneOk f (periodUs s) n)
    else if k = 0x18 ∨ k = 0x1C then ok (onsetOk f n)
    else none
  else none

/-- A lane's start or stop is pending. -/
def lanePending (x : LaneSt) : Bool := x.startAt.isSome || x.stopAt.isSome

/-- The read-only words of Tables 9-14 and 9-15, by block offset. -/
def convRo (s : State) (o : Nat) : Nat :=
  let c := s.conv
  if o = 0 then
    b1 (lanes32.any (laneOn s)) + 2 * b1 (!c.decimAt.isEmpty || c.syncFrom.isSome) + 4 * b1 c.pendingSet.isSome
      + 16 * c.lastReset.toNat
  else if o = 0x04 then bitsOf 32 (laneOn s)
  else if o = 0x08 then bitsOf 32 (fun n => lanePending (laneOf s n))
  else if o = 0x10 then c.syncEpoch.toNat
  else if o = 0x14 then c.syncEdge.toNat % 2 ^ 32
  else if o = 0x18 then c.syncEdge.toNat / 2 ^ 32
  else if o = 0x20 then (match c.pendingSet with | some (e, _) => e.toNat | none => 0)
  else if o = 0x24 then c.syncs.toNat + 65536 * c.retrig.toNat
  else if 0x100 ≤ o ∧ o < 0x900 then
    let n := (o - 0x100) / 0x40
    let k := (o - 0x100) % 0x40
    let x := laneOf s n
    if k = 0x24 then
      b1 (laneOn s n) + 2 * b1 (lanePending x) + 4 * b1 (decide (0 < x.burstLeft)) + 8 * b1 x.thr[0].armed
        + 16 * b1 x.thr[1].armed
        + 32 * b1 (x.onsetArmed && decide ((onsetWin s.active n).1 + (onsetWin s.active n).2 ≤ x.diffs.length))
        + 256 * max x.settle x.ovlLeft
    else if k = 0x28 then x.last.toNat
    else if k = 0x2C then x.events.toNat + 65536 * x.trigs.toNat
    else 0
  else 0

/-- The RC fields a read of an offset clears. -/
def convRc (o : Nat) (s : State) : State :=
  if o = 0x24 then { s with conv := { s.conv with syncs := 0, retrig := 0 } }
  else if 0x100 ≤ o ∧ o < 0x900 ∧ (o - 0x100) % 0x40 = 0x2C then
    modLane ((o - 0x100) / 0x40) (fun (x : LaneSt) => { x with events := 0, trigs := 0 }) s
  else s

/-! ### Commands -/

/-- APPLY_EPOCH of a change that waits for the next boundary: 0 when no epoch runs (section 9.9). -/
def applyEpoch (s : State) : Nat := ((nextEpoch s).getD 0).toNat

/-- A CONV change accepted: held for its epoch, or into the shadow for the next boundary (R289). -/
def convChange (ws : List (Nat × Word)) (at1 : Bool) (e : Word) (s : State) : CmdResult :=
  if at1 then okCmd { s with conv := { s.conv with pendingSet := some (e, ws) } } (le 4 e.toNat)
  else okCmd (applyNow 6 (withShadow (fileSets ws s.shadow) s)) (le 4 (applyEpoch s))

/-- CONV_CONFIG (Table 9-12). -/
def convConfigBody (p : Packet) (s : State) : CmdResult :=
  let q := p.params
  let lanes := maskBits 32 (u32 q 0)
  let at1 := u8 q 4 == 1
  let src := u8 q 7
  let cfg := fun n => wd ((if u8 q 5 = 0xFF then laneRate s.shadow n else u8 q 5) + 16 * laneResp s.shadow n
    + 256 * u8 q 6 + 4096 * src + 65536 * u8 q 8)
  let ws := lanes.flatMap (fun n => [(Reg.convLaneCfg n, cfg n), (Reg.convLaneSrc n, wd (u16 q 10 + 65536 * u16 q 12))])
    ++ (if src = 3 then [(Reg.convInterval, wd (u32 q 16))] else [])
  let f := fileSets ws s.shadow
  checked s
    ([(decide (q.length = 24), 0x11),
      (decide (u8 q 4 ≤ 1 ∧ (u8 q 5 ≤ 15 ∨ u8 q 5 = 0xFF) ∧ u8 q 6 ≤ 3 ∧ src ≤ 4 ∧ u8 q 9 = 0) && zeros q 14 2
        && (if src = 2 then decide (u8 q 8 ≤ 15) else if src = 4 then decide (u8 q 8 ≤ 3) else u8 q 8 == 0)
        && (src != 3 || intervalOk (u32 q 16)), 0x13),
      ((u8 q 5 == 0xFF || rateFits (periodUs s) (u8 q 5)) && lanes.all (convLaneOk f (periodUs s)), 0x13)]
      ++ atChecks s at1 (w32 q 20) ++ [(s.conv.pendingSet.isNone, 0x31)])
    (fun _ => convChange ws at1 (w32 q 20) s)

/-- FILTER_SELECT. -/
def filterSelectBody (p : Packet) (s : State) : CmdResult :=
  let q := p.params
  let lanes := maskBits 32 (u32 q 0)
  let at1 := u8 q 4 == 1
  let cfg := fun n =>
    let w := setFld (shw s (Reg.convLaneCfg n)) 4 4 (u8 q 5)
    if u8 q 6 = 0xFF then w else setFld w 0 4 (u8 q 6)
  let ws := lanes.map (fun n => (Reg.convLaneCfg n, cfg n))
  let f := fileSets ws s.shadow
  checked s
    ([(decide (q.length = 12), 0x11),
      (decide (u8 q 4 ≤ 1 ∧ u8 q 5 ≤ 0xB ∧ (u8 q 6 ≤ 15 ∨ u8 q 6 = 0xFF) ∧ u8 q 7 = 0), 0x13),
      ((u8 q 6 == 0xFF || rateFits (periodUs s) (u8 q 6)) && lanes.all (convLaneOk f (periodUs s)), 0x13)]
      ++ atChecks s at1 (w32 q 8) ++ [(s.conv.pendingSet.isNone, 0x31)])
    (fun _ => convChange ws at1 (w32 q 8) s)

/-- The checks and the target that CONV_START, CONV_STOP and DECIM_SYNC share: FLAGS at offset `o`, EPOCH at `o` + 4. -/
def atEpochChecks (q : List Byte) (o len : Nat) (s : State) : List (Bool × Byte) :=
  [(decide (q.length = len), 0x11), (decide (u8 q o ≤ 1) && zeros q (o + 1) 3, 0x13), ((currentEpoch s).isSome, 0x30),
   (u8 q o != 1 || (targetBad s (w32 q (o + 4))).isNone, 0x13)]

/-- The epoch a command applies at: the named one, or the next (R32). -/
def atTarget (q : List Byte) (o : Nat) (s : State) : Word := if u8 q o = 1 then w32 q (o + 4) else reportEpoch s + 1

/-- CONV_START (R290). -/
def convStartBody (p : Packet) (s : State) : CmdResult :=
  let q := p.params
  let lanes := maskBits 32 (u32 q 0)
  checked s ([(decide (q.length = 12), 0x11), (lanes.all (laneEn s.shadow), 0x13)] ++ atEpochChecks q 4 12 s)
    (fun _ =>
      let e := atTarget q 4 s
      let done := lanes.filter (fun n => !(laneOf s n).on)
      let s := lanes.foldl (fun t n => modLane n (fun (x : LaneSt) =>
        if x.on then { x with stopAt := none } else { x with startAt := some e }) t) s
      okCmd s (le 4 e.toNat ++ le 4 (bitsOf 32 (fun n => done.contains n))))

/-- CONV_STOP (R290). -/
def convStopBody (p : Packet) (s : State) : CmdResult :=
  let q := p.params
  let lanes := maskBits 32 (u32 q 0)
  checked s (atEpochChecks q 4 12 s)
    (fun _ =>
      let e := atTarget q 4 s
      let done := lanes.filter (fun n => (laneOf s n).on)
      let s := lanes.foldl (fun t n => modLane n (fun (x : LaneSt) =>
        if x.on then { x with stopAt := some e } else { x with startAt := none }) t) s
      okCmd s (le 4 e.toNat ++ le 4 (bitsOf 32 (fun n => done.contains n))))

/-- DECIM_SYNC (R294). -/
def decimSyncBody (p : Packet) (s : State) : CmdResult :=
  checked s (atEpochChecks p.params 0 8 s)
    (fun _ =>
      let e := atTarget p.params 0 s
      okCmd { s with conv := { s.conv with decimAt := s.conv.decimAt ++ [e] } } (le 4 e.toNat))

/-- THRESH_SET (R302). -/
def threshSetBody (p : Packet) (s : State) : CmdResult :=
  let q := p.params
  let lv := sx 32 (u32 q 4)
  checked s
    [(decide (q.length = 16), 0x11),
     (decide (u8 q 0 ≤ 31 ∧ u8 q 1 ≤ 1 ∧ u8 q 2 ≤ 7 ∧ -8388608 ≤ lv ∧ lv ≤ 8388607 ∧ u32 q 8 ≤ 0xFFFFFF) && zeros q 12 4, 0x13)]
    (fun _ => convChange
      [(Reg.convLaneThr (u8 q 0) (u8 q 1), wd (ux 24 lv + 2 ^ 24 * u8 q 2)),
       (Reg.convLaneHys (u8 q 0) (u8 q 1), wd (u32 q 8 + 2 ^ 24 * u8 q 3))] false 0 s)

/-- ONSET_CONFIG (Table 9-13): the rate that counts is the one the next boundary puts in force. -/
def onsetConfigBody (p : Packet) (s : State) : CmdResult :=
  let q := p.params
  let lanes := maskBits 32 (u32 q 0)
  let ws := lanes.flatMap (fun n =>
    [(Reg.convLaneOns0 n, wd (u8 q 4 + 256 * u8 q 5 + 65536 * u8 q 6 + 2 ^ 24 * u8 q 7)),
     (Reg.convLaneOns1 n, wd (u16 q 8 + 65536 * u16 q 10)), (Reg.convLaneOns2 n, wd (u16 q 12))])
  let f := match s.conv.pendingSet with
    | some (e, pws) => if nextEpoch s == some e then fileSets pws s.shadow else s.shadow
    | none => s.shadow
  checked s
    [(decide (q.length = 16), 0x11),
     (decide (u8 q 4 ≤ 3 ∧ 2 ≤ u8 q 5 ∧ u8 q 5 ≤ 64 ∧ u8 q 6 ≤ 8 ∧ 16 ≤ u8 q 7 ∧ 16 ≤ u16 q 8) && zeros q 14 2, 0x13),
     (u8 q 4 % 2 == 0 || lanes.all (fun n => decide (laneRate f n ≤ 4)), 0x13)]
    (fun _ => convChange ws false 0 s)

/-- CONV_CONFIG (R289). -/
def execConvConfig (p : Packet) (s : State) : Host.Outcome State Fault Refusal := .next (runCommand 0x50 convConfigBody p s)
/-- FILTER_SELECT (R288). -/
def execFilterSelect (p : Packet) (s : State) : Host.Outcome State Fault Refusal :=
  .next (runCommand 0x51 filterSelectBody p s)
/-- CONV_START (R290). -/
def execConvStart (p : Packet) (s : State) : Host.Outcome State Fault Refusal := .next (runCommand 0x52 convStartBody p s)
/-- CONV_STOP (R290). -/
def execConvStop (p : Packet) (s : State) : Host.Outcome State Fault Refusal := .next (runCommand 0x53 convStopBody p s)
/-- DECIM_SYNC (R294). -/
def execDecimSync (p : Packet) (s : State) : Host.Outcome State Fault Refusal := .next (runCommand 0x54 decimSyncBody p s)
/-- THRESH_SET (R302). -/
def execThreshSet (p : Packet) (s : State) : Host.Outcome State Fault Refusal := .next (runCommand 0x55 threshSetBody p s)
/-- ONSET_CONFIG (R304). -/
def execOnsetConfig (p : Packet) (s : State) : Host.Outcome State Fault Refusal :=
  .next (runCommand 0x56 onsetConfigBody p s)

/-! ### Start-source events -/

/-- An event of a start source at instant `e` for every converting lane that `sel` takes (R291, R292). -/
def convEvent (sel : Nat → Bool) (e : Nat) (s : State) : State :=
  lanes32.foldl (fun (t : State) n =>
    if laneOn s n && sel n then
      let b := laneBurst s.active n
      modLane n (fun (x : LaneSt) => { x with
        trigs := sat16 x.trigs 1
        evq := if b = 0 then x.evq else x.evq ++ [e] }) t
    else t) s

/-- Lanes whose source is `k` with selection `i`. -/
def sourceSel (s : State) (k i : Nat) (n : Nat) : Bool := laneSource s.active n == k && laneSel s.active n == i

/-- CONV_INTERVAL_EVENT (R291): the next instant T0 + m × PERIOD. -/
def execConvIntervalEvent (s : State) : Host.Outcome State Fault Refusal :=
  let p := fld (acw s Reg.convInterval) 0 24 * 1000
  match s.time.sched with
  | none => .next s
  | some c =>
    if p = 0 ∨ s.sys.power ≠ .active ∨ !timeRuns s then .next s else
    let after := match s.conv.lastInterval with
      | some t => max t (s.time.ns - 1)
      | none => s.time.ns - 1
    let e := firstAfter (c.t0 % p) p after
    let s := advanceTo e { s with conv := { s.conv with lastInterval := some e } }
    .next (convEvent (fun n => laneSource s.active n == 3) e s)

/-! ### Faults -/

/-- MOD_OVERLOAD (R298): raised once per overload; the bits taken stay in the window for L samples. -/
def execModOverload (lane : Fin 32) (negative : Bool) (s : State) : Host.Outcome State Fault Refusal :=
  if !laneOn s lane.val then .next s else
  let l := laneL s lane.val
  .next (raise 6 Src.convModOverload lane.val
    (modLane lane.val (fun (x : LaneSt) => { x with ovl := some (negative, l) }) s))

/-- MOD_UNLOCK (Table 9-11): the samples of the span carry INVALID on every lane. -/
def execModUnlock (s : State) : Host.Outcome State Fault Refusal :=
  if !lanes32.any (laneOn s) then .next s else
  .next (raise 6 Src.convModUnlock noItem { s with conv := { s.conv with
    lanes := s.conv.lanes.map (fun (x : LaneSt) => if x.on then { x with badEdge := true } else x) } })

/-! ### Samples -/

/-- The instant of sample j of an epoch: start plus j × 10^9 / ODR, halves up (R29). -/
def sampleInstant (start odr j : Nat) : Nat := start + (2 * j * 1000000000 + odr) / (2 * odr)

/-- A source's threshold passed: t is at or after e plus DELAY fmod cycles (R291). -/
def delayPast (e delay t : Nat) : Bool := decide (e * 6144 + delay * 1000000 ≤ t * 6144)

/-- The instant t selected on a lane: acquired, and the lane's source state after it (R291, R292). -/
def selectLane (f : RegFile) (n t : Nat) (x : LaneSt) : Bool × LaneSt × Nat :=
  if laneSource f n = 0 then
    (match x.runFrom with
      | some e => (delayPast e (laneDelay f n) t, x, 0)
      | none => (false, x, 0))
  else
    let b := laneBurst f n
    let (due, wait) := x.evq.partition (fun e => delayPast e (laneDelay f n) t)
    if due.isEmpty then
      (decide (0 < x.burstLeft), { x with evq := wait, burstLeft := x.burstLeft - 1 }, 0)
    else
      let fresh := x.burstLeft = 0
      (true, { x with evq := wait, burstLeft := b - 1, firstDue := x.firstDue || decide fresh },
        due.length - b1 (decide fresh))

/-- The trimmed value of a lane from its decimator output: the gain correction of R261 in CHOP, the trims of R278. The
spec states no rounding: a fraction goes down or up by a free choice (log entry 42). -/
def trimmedValue (f : RegFile) (trim : BitVec 10 × BitVec 10) (n : Nat) (v : Int) (s : State) : Int × State :=
  let g := n / 4
  let cut := if egMode f g = 2 then egBlank f g * odrOf (laneRate f n) * egM f g else 0
  let den : Nat := 3072000 - cut
  freeDiv ((v * 3072000 + 16 * ((trim.1.toNat : Int) - 512) * den) * (32768 + ((trim.2.toNat : Int) - 512))) (den * 32768) s

/-- The word of a sample (Tables 9-5, 9-6). -/
def sampleWord (align coding : Bool) (v : Int) (flags : Nat) : Nat :=
  let c := if coding then ux 24 v ^^^ 0x800000 else ux 24 v
  if align then c * 256 + flags else flags * 2 ^ 24 + c

/-- A sample of instant t on a lane is INVALID (R270, R272, R273, R282, R309, Table 9-11). -/
def sampleInvalid (s : State) (n t : Nat) : Bool :=
  let x := laneOf s n
  let out := fun (w : WinSt) =>
    match w.lastViol with
    | some (a, none) => decide (a ≤ t)
    | some (a, some c) => decide (a ≤ t ∧ t < c)
    | none => false
  let w := laneWin s n
  laneSnuffed s n || out w || out (groupWin s (n / 4)) || decide (0 < w.invalidLeft) || s.brdg.held.getLsbD (n / 4)
    || x.blank || x.badEdge

/-- A CONV event entry (Table 9-9). -/
def convEntry (s : State) (time kind lane item : Nat) (cls0 early : Bool) (data : Nat) : List Byte :=
  le 8 time ++ [BitVec.ofNat 8 kind, BitVec.ofNat 8 lane, BitVec.ofNat 8 item,
    BitVec.ofNat 8 (b1 (parity s) + 2 * b1 cls0 + 4 * b1 early)] ++ le 4 data

/-- An event kept for the epoch's EVENT record, and put into the alarm queue at class 0 (R302, R303). -/
def convRaise (n : Nat) (cls0 : Bool) (entry : List Byte) (s : State) : State :=
  let s := { s with conv := { s.conv with events := (n, entry) :: s.conv.events } }
  if cls0 then pushAlarm 6 entry (s.time.epoch.getD 0) s else s

/-- One threshold on an acting value: its state, and the kind of event raised (R302). -/
def thrStep (w hys : Word) (v : Int) (x : ThrSt) : ThrSt × Option Nat :=
  if !bitOf w 24 then (x, none) else
  let level := sx 24 w.toNat
  let hyst : Int := fld hys 0 24
  let below := bitOf w 25
  let hit := if below then decide (v ≤ level) else decide (level ≤ v)
  let clear := if below then decide (level + hyst < v) else decide (v < level - hyst)
  if x.armed then
    (if hit then
      (if fld hys 24 8 ≤ x.run then ({ armed := false, run := 0 }, some 0x60) else ({ x with run := x.run + 1 }, none))
    else ({ x with run := 0 }, none))
  else if clear then ({ armed := true, run := 0 }, some 0x61) else (x, none)

/-- The sum of squares of a list. -/
def sumSq (l : List Nat) : Nat := sumNat (l.map (fun d => d * d))

/-- What the onset detector yields on an acting value: its state, and at a trigger the STA and LTA sums (R304, R306). -/
def onsetStep (f : RegFile) (n : Nat) (v : Int) (x : LaneSt) : LaneSt × Option (Nat × Nat) :=
  let (ns, nl) := onsetWin f n
  let ratio := fld (fileGet f (Reg.convLaneOns1 n)) 0 16
  let floor1 := fld (fileGet f (Reg.convLaneOns1 n)) 16 16
  let dead := fld (fileGet f (Reg.convLaneOns2 n)) 0 16
  let ds := match x.lastX with
    | some p => ((v - p).natAbs :: x.diffs).take (ns + nl + 1)
    | none => x.diffs
  let x := { x with lastX := some v, diffs := ds, sinceTrig := x.sinceTrig + 1 }
  let sta := sumSq (ds.take ns)
  match x.ltaFrozen with
  | some lta =>
    if dead ≤ x.sinceTrig ∧ ns ≤ ds.length ∧ 32 * sta * nl < ratio * lta * ns then
      ({ x with onsetArmed := true, ltaFrozen := none }, none)
    else (x, none)
  | none =>
    let lta := sumSq ((ds.drop ns).take nl)
    if ns + nl ≤ ds.length ∧ ratio * lta * ns ≤ 16 * sta * nl ∧ floor1 * floor1 * ns ≤ sta then
      ({ x with onsetArmed := false, ltaFrozen := some lta, sinceTrig := 0 }, some (sta, lta))
    else (x, none)

/-- The onset instant in 100 ns and the pick, as samples back from the trigger (R305): none where no sample of the
search reaches the pick level. θ·16·NL = max(FLOOR·16·NL, PICK·√(LTA·NL)); only floors of whole sums are taken, so the
root enters exactly. -/
def onsetPick (f : RegFile) (n start j lta : Nat) (ds : List Nat) : Option (Int × Nat) :=
  let (ns, nl) := onsetWin f n
  let pick := fld (fileGet f (Reg.convLaneOns0 n)) 24 8
  let floor1 := fld (fileGet f (Reg.convLaneOns1 n)) 16 16
  let reach := fun (d : Nat) => decide (floor1 ≤ d ∧ pick * pick * lta ≤ 256 * d * d * nl)
  match (List.range ns).reverse.find? (fun i => reach (ds.getD i 0)) with
  | none => none
  | some i =>
    let odr := odrOf (laneRate f n)
    let b := ds.getD i 0
    let a := ds.getD (i + 1) 0
    let k : Int := (j : Int) - i - 1
    let base : Int := k * 1000000000 - respCr (laneResp f n) * 100000000
    if reach a then
      let d : Int := odr
      some (((start : Int) * d + base + 50 * d) / (100 * d), i)
    else
      let m := 16 * nl
      let th : Nat := max (floor1 * m * 1000000000) (isqrtStep (10 ^ 18 * pick * pick * lta * nl) 100 0)
      let d : Int := odr * (b - a) * m
      some (((start : Int) * d + base * ((b - a) * m) + ((th : Int) - a * m * 1000000000) + 50 * d) / (100 * d), i)

/-- The onset event of a trigger (R305): its entry, with free values where the spec states none. -/
def onsetEntry (n start j : Nat) (cls0 : Bool) (sta lta : Nat) (ds : List Nat) (s : State) : List Byte × State :=
  let f := s.active
  let (ns, nl) := onsetWin f n
  let num := 16 * sta * nl
  let den := lta * ns
  let (free, s1) := freshInt s
  let ratio := if den = 0 then (if num = 0 then ux 16 free else 0xFFFF) else min 0xFFFF (num / den)
  let s := if den = 0 ∧ num = 0 then s1 else s
  match onsetPick f n start j lta ds with
  | some (t, i) =>
    let p := match s.time.sched with
      | some c => if i ≤ j then c.pNs else s.conv.prevP
      | none => 0
    let k := if i ≤ j then j - i else j + p * odrOf (laneRate f n) / 1000000000 - i
    (convEntry s (ux 64 (t * 100)) 0x62 n 0xFF cls0 (decide (i + 1 = ns)) (ratio + 65536 * (k % 65536)), s)
  | none =>
    let (t, s) := freshInt s
    let (k, s) := freshInt s
    (convEntry s (ux 64 t) 0x62 n 0xFF cls0 false (ratio + 65536 * ux 16 k), s)

/-- One acquired sample of a lane (R297 to R306): its word, with the lane's state and its events. `first` marks FIRST. -/
def acquireSample (n t start j : Nat) (x0 : SampleInput) (settling first : Bool) (s : State) : Nat × State :=
  let f := s.active
  let x := laneOf s n
  let sn := laneSnuffed s n
  let invalid := sampleInvalid s n t
  let check := s.brdg.chkOn.getLsbD n
  let trim := vget s.brdg.trims n (0x200, 0x200)
  let (v1, s) := trimmedValue f trim n x0.value s
  let over1 : Option Bool := if x0.overload = 0 then x.ovl.map (·.1) else some (x0.overload == 2)
  let sat := match over1 with
    | some neg => if neg then (-8388608 : Int) else 8388607
    | none => clampI (-8388608) 8388607 v1
  let clipped := over1.isSome || sat != v1
  let zero := sn || x.blank
  let v := if zero then 0 else sat
  let acts := !settling && !invalid && !check
  let thr := fun (k : Fin 2) =>
    if acts then thrStep (fileGet f (Reg.convLaneThr n k.val)) (fileGet f (Reg.convLaneHys n k.val)) v x.thr[k]
    else ({ (x.thr[k] : ThrSt) with run := 0 }, none)
  let r0 := thr 0
  let r1 := thr 1
  let on := onsetEn f n && decide (laneRate f n ≤ 4)
  let xw := if first || !acts then { x with lastX := none, diffs := [], sinceTrig := if acts then x.sinceTrig else x.sinceTrig + 1 } else x
  let (xo, trig) := if on && acts then onsetStep f n v xw else (xw, none)
  let ev := r0.2.isSome || r1.2.isSome || trig.isSome
  let flags := b1 (parity s) + 2 * b1 settling + 4 * b1 invalid + 8 * b1 (clipped && !zero) + 16 * b1 check
    + 32 * b1 first + 64 * b1 ev + 128 * b1 sn
  let word := sampleWord (laneAlign f n) (laneCoding f n) v flags
  let s := modLane n (fun _ => { xo with
    thr := #v[r0.1, r1.1], last := wd word
    events := sat16 xo.events (b1 r0.2.isSome + b1 r1.2.isSome + b1 trig.isSome) }) s
  let thrEv := fun (k : Nat) (r : Option Nat) (s : State) =>
    match r with
    | some kind =>
      let c := bitOf (fileGet f (Reg.convLaneThr n k)) 26
      convRaise n c (convEntry s t kind n k c false word) s
    | none => s
  let s := thrEv 1 r1.2 (thrEv 0 r0.2 s)
  match trig with
  | some (sta, lta) =>
    let c := bitOf (fileGet f (Reg.convLaneOns0 n)) 1
    let (e, s) := onsetEntry n start j c sta lta xo.diffs s
    (word, convRaise n c e s)
  | none => (word, s)

/-- What an instant leaves of a lane's counted flags: SETTLING, INVALID after t_clear, the overload in the window, the
edge error (R270, R294, R298). -/
def laneAfter (n t : Nat) (sat : Bool) (s : State) : State :=
  let l := laneL s n
  let past := fun (w : WinSt) =>
    match w.lastViol with
    | some (_, some c) => decide (c ≤ t)
    | some (_, none) => false
    | none => true
  let clr := past (laneWin s n) && past (groupWin s (n / 4))
  let s := modLane n (fun (x : LaneSt) => { x with
    settle := x.settle - 1
    ovlLeft := if sat then l else x.ovlLeft - 1
    ovl := match x.ovl with
      | some (neg, k) => if k ≤ 1 then none else some (neg, k - 1)
      | none => none
    badEdge := false, nextIdx := x.nextIdx + 1 }) s
  if clr then { s with brdg := { s.brdg with
    lanes := vmodN s.brdg.lanes n (fun (w : WinSt) => { w with invalidLeft := w.invalidLeft - 1 }) } } else s

/-- The check DAC connection of a lane taken at its output-sample boundary (R276). -/
def takeCheck (n : Nat) (s : State) : State :=
  if s.brdg.chkWait.getLsbD n then
    let m : Word := 1#32 <<< n
    let on := if s.brdg.chkLanes.getLsbD n then s.brdg.chkOn ||| m else s.brdg.chkOn &&& ~~~m
    settleLane n { s with brdg := { s.brdg with chkWait := s.brdg.chkWait &&& ~~~m, chkOn := on } }
  else s

/-- The restart of a lane after a CONV block reset (R309). -/
def takeRestart (n : Nat) (s : State) : State :=
  if (laneOf s n).restartDue then
    settleLane n (modLane n (fun (x : LaneSt) => { x with blank := false, restartDue := false }) s)
  else s

/-- One lane at one instant (R290 to R301): its word, when the instant is acquired. -/
def laneInstant (t start j : Nat) (x0 : SampleInput) (s : State) : Option Nat × State :=
  let n := x0.lane.val
  let s := takeRestart n (takeCheck n s)
  let (sel, x, ret) := selectLane s.active n t (laneOf s n)
  let first := sel && x.firstDue
  let sat := x0.overload != 0 || x.ovl.isSome
  let settling := decide (0 < x.settle) || (decide (0 < x.ovlLeft) && !sat)
  let s := modLane n (fun _ => { x with firstDue := x.firstDue && !sel }) s
  let s := { s with conv := { s.conv with retrig := sat16 s.conv.retrig ret } }
  if sel then
    let (w, s) := acquireSample n t start j x0 settling first s
    (some w, laneAfter n t sat s)
  else (none, laneAfter n t sat s)

/-! ### Blocks -/

/-- What the lanes of a block share: ALIGN, CODING, start source and selection (R300, section 12.3). -/
def blockKey (f : RegFile) (n : Nat) : Nat :=
  b1 (laneAlign f n) + 2 * b1 (laneCoding f n) + 4 * laneSource f n + 64 * laneSel f n

/-- The payload of a BRIDGE_BLOCK (Table 9-7). -/
def blockPayload (s : State) (b : BlockRun) : List Byte :=
  le 8 b.firstTime ++ le 4 b.lanes ++ le 2 b.firstIdx ++ le 2 b.count ++ [BitVec.ofNat 8 b.rate, BitVec.ofNat 8 b.resp,
    BitVec.ofNat 8 (b1 b.align + 2 * b1 b.coding), BitVec.ofNat 8 (b1 (parity s))] ++ b.words

/-- A block of a stream closed and written (R300). -/
def closeBlock (k : Fin 16) (b : BlockRun) (s : State) : State :=
  let s := modStream k (fun (st : StreamSt) => { st with blocks := st.blocks.filter (fun c => c != b) }) s
  if streamTakes s.res.streams[k] b.epoch 5 then putRecord k 3 b.epoch (blockPayload s b) s else s

/-- The words of one instant and one lane group taken by a stream (R300): into the open block of the group, a new one
where none continues, closed at BLOCK instants. -/
def blockTake (k : Fin 16) (r key t j : Nat) (e : Word) (ws : List (Nat × Nat)) (s : State) : State :=
  let src := fld (shw s (Reg.resStreamSrc k)) 16 16
  let mask := bitsOf 32 (fun n => ws.any (fun w => w.1 == n))
  let same := fun (b : BlockRun) => b.rate == r && b.source == key
  let cont := fun (b : BlockRun) => same b && b.lanes == mask && b.epoch == e && b.firstIdx + b.count == j
  let old := s.res.streams[k].blocks.filter (fun b => same b && !cont b)
  let s := old.foldl (fun u b => closeBlock k b u) s
  let resps := ws.map (fun w => laneResp s.active w.1)
  let resp := match resps with
    | [] => 0xFF
    | a :: l => if l.all (· == a) then a else 0xFF
  let words := ws.flatMap (fun w => le 4 w.2)
  let b0 : BlockRun := match s.res.streams[k].blocks.find? cont with
    | some b => b
    | none => { rate := r, align := key.testBit 0, coding := key.testBit 1, source := key, lanes := mask, resp := resp
                firstTime := t, firstIdx := j, count := 0, epoch := e, words := [] }
  let b := { b0 with count := b0.count + 1, words := b0.words ++ words }
  let s := modStream k (fun (st : StreamSt) => { st with blocks := st.blocks.filter (fun c => c != b0) ++ [b] }) s
  if src ≤ b.count then closeBlock k b s else s

/-- Blocks of a rate whose gap has come: no instant j continues them (R300). -/
def closeGaps (k : Fin 16) (r j : Nat) (keys : List Nat) (s : State) : State :=
  (s.res.streams[k].blocks.filter (fun b => b.rate == r && b.firstIdx + b.count != j + 1 && !keys.contains b.source)).foldl
    (fun u b => closeBlock k b u) s

/-- The words of an instant given to every stream that takes BRIDGE of its lanes. -/
def streamWords (r t j : Nat) (e : Word) (ws : List (Nat × Nat)) (s : State) : State :=
  allStreams.foldl (fun (u : State) (k : Fin 16) =>
    if streamTakes u.res.streams[k] e 5 then
      let lanes := shw u (Reg.resStreamLanes k)
      let mine := ws.filter (fun w => lanes.getLsbD w.1)
      let keys := (mine.map (fun w => blockKey u.active w.1)).eraseDups
      let u := keys.foldl (fun v key =>
        blockTake k r key t j e (mine.filter (fun w => blockKey u.active w.1 == key)) v) u
      closeGaps k r j keys u
    else u) s

/-- The blocks of a rate closed after the epoch's last instant of that rate, j = ODR × P − 1: a block holds instants of one
epoch (R300). -/
def closeLast (r : Nat) (s : State) : State :=
  allStreams.foldl (fun (u : State) (k : Fin 16) =>
    (u.res.streams[k].blocks.filter (fun (b : BlockRun) => b.rate == r)).foldl (fun v b => closeBlock k b v) u) s

/-- BRIDGE_SAMPLE (R301): the next instant of the converting lanes of a rate. -/
def execBridgeSample (r : Fin 16) (x : List SampleInput) (s : State) : Host.Outcome State Fault Refusal :=
  match s.time.epoch, s.time.sched with
  | some e, some c =>
    let on := lanes32.filter (fun n => laneOn s n && laneRate s.active n == r.val)
    let odr := odrOf r.val
    let j := (on.map (fun n => (laneOf s n).nextIdx)).headD 0
    if s.time.lastAcq ≠ some e ∨ on = [] ∨ c.pNs * odr ≤ j * 1000000000 then .next s else
    let start := epochStart c e
    let t := sampleInstant start odr j
    let s := advanceTo t s
    let (ws, s) := on.foldl (fun (a : List (Nat × Nat) × State) n =>
      let x0 := (x.find? (fun y => y.lane.val == n)).getD ⟨Fin.ofNat 32 n, 0, 0⟩
      match laneInstant t start j x0 a.2 with
      | (some w, u) => (a.1 ++ [(n, w)], u)
      | (none, u) => (a.1, u)) ([], s)
    let s := streamWords r.val t j e ws s
    .next (if c.pNs * odr ≤ (j + 1) * 1000000000 then closeLast r.val s else s)
  | _, _ => .next s

/-! ### Epoch boundaries -/

/-- A pending AT_EPOCH change taken into the shadow at its epoch (R289). -/
def convDue (m : Word) (s : State) : State :=
  match s.conv.pendingSet with
  | some (e, ws) =>
    if laterW e m then s else
      { s with shadow := fileSets ws s.shadow, conv := { s.conv with pendingSet := none } }
  | none => s

/-- The records CONV owes an epoch that ends: open blocks closed, EVENT records of the epoch's entries (R300,
Table 12-2). -/
def convCloseEpoch (e : Word) (s : State) : State :=
  let evs := s.conv.events.reverse
  let s := { s with conv := { s.conv with events := [] } }
  allStreams.foldl (fun (u : State) (k : Fin 16) =>
    let u := u.res.streams[k].blocks.foldl (fun v b => closeBlock k b v) u
    if streamTakes u.res.streams[k] e 6 then
      let lanes := shw u (Reg.resStreamLanes k)
      let mine := (evs.filter (fun p => lanes.getLsbD p.1)).map (·.2)
      (List.range (ceilDiv mine.length 1024)).foldl (fun v i =>
        putRecord k 4 e (((mine.drop (1024 * i)).take 1024).flatMap id) v) u
    else u) s

/-- A lane's start at a boundary (R290, R294, R302). -/
def laneStart (n tb : Nat) (s : State) : State :=
  let l := laneL s n
  modLane n (fun (x : LaneSt) => { x with
    on := true, startAt := none, stopAt := none, runFrom := some tb, burstLeft := 0, evq := []
    firstDue := laneSource s.active n == 0, settle := l, ovlLeft := 0, ovl := none, thr := Vector.replicate 2 {}, lastX := none
    diffs := [], onsetArmed := true, ltaFrozen := none, sinceTrig := 0, nextIdx := 0, blank := false
    restartDue := false, badEdge := false }) s

/-- A lane's stop: its window is watched no more (R267, R290). -/
def laneStop (n : Nat) (s : State) : State :=
  let s := modLane n (fun (x : LaneSt) => { x with
    on := false, stopAt := none, runFrom := none, burstLeft := 0, evq := [], firstDue := false, settle := 0, ovlLeft := 0, ovl := none
    blank := false, restartDue := false, badEdge := false, nextIdx := 0 }) s
  let s := { s with brdg := { s.brdg with lanes := vmodN s.brdg.lanes n winStop } }
  if (groupLanes (n / 4)).all (fun k => !(laneOf s k).on) then
    { s with brdg := { s.brdg with groups := vmodN s.brdg.groups (n / 4) winStop } }
  else s

/-- What a configuration that applies changes in a running lane (R293, R302). -/
def laneChange (old : RegFile) (n tb : Nat) (s : State) : State :=
  let f := s.active
  let ne := fun (a : Nat) => fileGet old a != fileGet f a
  let reset := laneRate old n != laneRate f n || laneResp old n != laneResp f n
  let src := laneSource old n != laneSource f n || laneSel old n != laneSel f n || ne (Reg.convLaneSrc n)
  let cont := laneSource f n == 0 && laneSource old n != 0
  let thr := fun (k : Fin 2) (t : ThrSt) =>
    if ne (Reg.convLaneThr n k.val) || ne (Reg.convLaneHys n k.val) then ({} : ThrSt) else t
  let ons := reset || ne (Reg.convLaneOns0 n) || ne (Reg.convLaneOns1 n) || ne (Reg.convLaneOns2 n)
  let l := laneL s n
  modLane n (fun (x : LaneSt) =>
    let x := if reset && x.on then { x with settle := max x.settle l, ovlLeft := 0, ovl := none } else x
    let x := if src then { x with burstLeft := 0, evq := [], firstDue := (laneSource f n == 0 && x.firstDue) || cont } else x
    let x := if cont then { x with runFrom := some tb } else x
    let x := if ons then { x with lastX := none, diffs := [], onsetArmed := true, ltaFrozen := none, sinceTrig := 0 } else x
    { x with thr := #v[thr 0 x.thr[0], thr 1 x.thr[1]] }) s

/-- A reset of every converting lane at once (R294, R295): code of LAST_RESET, epoch, instant. -/
def allLaneReset (code : Nat) (m : Word) (tb : Nat) (s : State) : State :=
  let on := lanes32.filter (laneOn s)
  if on.isEmpty then s else
  let cfg := shw s Reg.hifPinCfg
  let pulse := bitOf cfg 4 && bitOf cfg 5
  let s := on.foldl (fun t n =>
    let l := laneL t n
    modLane n (fun (x : LaneSt) => { x with settle := max x.settle l, ovlLeft := 0, ovl := none }) t) s
  { s with
    conv := { s.conv with lastReset := BitVec.ofNat 3 code, syncs := sat16 s.conv.syncs 1, syncEpoch := m }
    hif := if pulse then { s.hif with syncPulses := tb :: s.hif.syncPulses } else s.hif }

/-- The boundary's part of CONV, the new configuration in force (R31 steps 1, 2 and 5, R286, R290 to R296): `halted`
says that no lane converts in the epoch that begins. -/
def convBoundary (m : Word) (tb : Nat) (old : RegFile) (halted : Bool) (s : State) : State :=
  let s := lanes32.foldl (fun t n => laneChange old n tb t) s
  let due := fun (e : Option Word) => match e with
    | some e => !laterW e m
    | none => false
  let s := lanes32.foldl (fun t n => if due (laneOf t n).stopAt then laneStop n t else t) s
  let resume := s.conv.paused && !halted
  let s := { s with conv := { s.conv with paused := halted } }
  let s := if resume || s.time.stepped then
      lanes32.foldl (fun t n =>
        let l := laneL t n
        modLane n (fun (x : LaneSt) => if x.on then { x with
          settle := max x.settle l, ovlLeft := 0, ovl := none, burstLeft := 0, evq := [], firstDue := laneSource t.active n == 0
          lastX := none, diffs := [] } else x) t) s
    else s
  let s := lanes32.foldl (fun t n => if due (laneOf t n).startAt then laneStart n tb t else t) s
  let decim := s.conv.decimAt.any (fun e => !laterW e m)
  let sync := match s.conv.syncFrom with
    | some t => decide (t ≤ tb)
    | none => false
  let stepped := s.time.stepped
  let s := { s with conv := { s.conv with
    decimAt := s.conv.decimAt.filter (fun e => laterW e m)
    syncFrom := if sync then none else s.conv.syncFrom
    lanes := s.conv.lanes.map (fun (x : LaneSt) => { x with nextIdx := 0 }) } }
  let s := if decim then allLaneReset 1 m tb s
    else if sync then allLaneReset 2 m tb s
    else if stepped then allLaneReset 3 m tb s
    else s
  convEvent (fun n => laneSource s.active n == 1) tb s

/-- Conversion ends for good: the power state leaves ACTIVE (R120, R286). -/
def convPowerOff (s : State) : State :=
  let s := lanes32.foldl (fun t n => if (laneOf t n).on then laneStop n t else t) s
  { s with conv := { s.conv with
    lanes := s.conv.lanes.map (fun (x : LaneSt) => { x with startAt := none, stopAt := none })
    decimAt := [], syncFrom := none, lastInterval := none, paused := s.safe.hold } }

/-- The restart after a CONV block reset (R309): each lane restarts with its next sample. -/
def convRestart (s : State) : State :=
  let on := lanes32.any (laneOn s)
  let s := { s with conv := { s.conv with
    lanes := s.conv.lanes.map (fun (x : LaneSt) => { x with restartDue := x.blank }) } }
  if on then allLaneReset 4 (s.time.epoch.getD 0) s.time.ns s else s

/-- A rising SYNC edge that acts (R295): stored, and requesting one all-lane reset. -/
def syncReset (t : Long) (s : State) : State :=
  match s.conv.syncFrom with
  | some _ => raise 6 Src.convSyncIgnored noItem { s with conv := { s.conv with syncEdge := t } }
  | none =>
    let lead := fld (acw s Reg.convSyncCfg) 0 16
    { s with conv := { s.conv with syncEdge := t, syncFrom := some (t.toNat + lead * 1000) } }

end Sys2Proof.Machine
end

