-- ==== Sys2Proof/Machine/Grid.lean ====
section
/-! DEFINITION. The node grid (chapter 5): its commands, its registers, the decode of chip samples, the frame ring and
the frame events. -/
namespace Sys2Proof.Machine

open Sys2Proof

/-! ### Values and the ring -/

/-- The value 0x8000: no value (R150). -/
def noVal : Int := -32768

/-- Bytes of a list of values. -/
def valBytes (l : List Int) : List Byte := l.flatMap (leI 2)

/-- Offset of a ring buffer in grid state RAM (Table 5-4). -/
def ringAt (b : Nat) : Nat := b * 0xC000

/-- Offset of the reference image in grid state RAM (Table 5-4). -/
def refAt : Nat := 0x6C000

/-- A 16-bit value in grid state RAM. -/
def gramVal (m : Memory) (a : Nat) : Int := sx 16 ((memByte m a).toNat + 256 * (memByte m (a + 1)).toNat)

/-- The value of code k of lane n in a ring buffer (R173). -/
def ringMutual (m : Memory) (b n k : Nat) : Int := gramVal m (ringAt b + 0x40 + (n * 128 + k) * 2)

/-- The value of line i in a ring buffer's self block (R173). -/
def ringSelf (m : Memory) (b i : Nat) : Int := gramVal m (ringAt b + 0xA040 + 2 * i)

/-- `n` values from an offset of grid state RAM. -/
def gramVals (m : Memory) (a n : Nat) : List Int :=
  let l := memRead m a (2 * n)
  (List.range n).map (fun i => sx 16 (u16 l (2 * i)))

/-! ### Decode -/

/-- The Hadamard sums of R163 over 2^n chips: entry k is the sum of h(k, c)·x(c), built by halves. -/
def hadamard : Nat → List Int → List Int
  | 0, l => l
  | n + 1, l =>
    let a := l.take (2 ^ n)
    let b := l.drop (2 ^ n)
    hadamard n (List.zipWith (· + ·) a b) ++ hadamard n (List.zipWith (· - ·) a b)

/-- A sum scaled by its trim, with saturation before the gain scaling (R163, R164); `den` is the sample count. -/
def scaleValue (acc trim : Int) (den shift : Nat) : Int × Bool :=
  let v := acc * trim
  let lim : Int := 32767 * den * 16384
  if lim < v then (32767, true) else if v < -lim then (-32767, true)
  else (roundDiv v (den * 16384 * 2 ^ shift), false)

/-- The trim of sense lane n. -/
def laneTrim (s : State) (n : Nat) : Int :=
  match s.grid.trims with
  | some l => ((l.getD n 0x4000).toNat : Int)
  | none => 0x4000

/-- The self trim of line i. -/
def lineTrim (s : State) (i : Nat) : Int :=
  match s.grid.trims with
  | some l => ((l.getD (160 + i) 0x4000).toNat : Int)
  | none => 0x4000

/-- A drive line carries no code: quiet, float or snuffed (R160, R162). -/
def undriven (s : State) (d : Nat) : Bool := planMode s.active d != 0 || lineSnuffed s d

/-- The 128 values of a sense lane from its code chips (R163 to R166). -/
def laneValues (s : State) (overload : List Nat) (n : Nat) (xs : List Int) : List (Int × Bool) :=
  if overload.contains n || lineSnuffed s (120 + n) then List.replicate 128 (noVal, false) else
  let l := laneGain s.active n
  (hadamard 7 (padTo 128 0 xs)).zipIdx.map (fun (p : Int × Nat) =>
    let k := p.2
    if k < 120 ∧ s.grid.driversOff.contains k then (noVal, false)
    else
      let g := if k < 120 ∧ !undriven s k then nodeGain s.active k n else l
      scaleValue p.1 (laneTrim s n) 128 (l - g))

/-- The values of a self frame: the 280 lines (R169). -/
def selfValues (s : State) (x : FrameInput) (set : Nat) : List (Int × Bool) :=
  let m := selfLines s.active set
  (List.range 280).map (fun i =>
    if !m.testBit i || lineSnuffed s i || (decide (120 ≤ i) && x.overload.contains (i - 120))
      || s.grid.driversOff.contains i then (noVal, false)
    else scaleValue (sumInt (padTo 32 0 (x.chips.getD i []))) (lineTrim s i) 32 0)

/-- A frame's values: per lane for a mutual frame, one list for a self frame; and whether any saturated. -/
def decodeFrame (s : State) (x : FrameInput) (kind : Nat) : List (List Int) × Bool :=
  let l := if kind = 0 then (List.range 160).map (fun n => laneValues s x.overload n (x.chips.getD n []))
    else [selfValues s x (kind - 1)]
  (l.map (fun r => r.map (·.1)), l.any (fun r => r.any (·.2)))

/-! ### Descriptors and payloads -/

/-- A window of a frame. -/
structure Window where
  d0 : Nat
  d1 : Nat
  s0 : Nat
  s1 : Nat
  deriving DecidableEq, Repr

/-- A window is valid (Table 5-5). -/
def Window.valid (w : Window) : Bool := decide (w.d0 ≤ w.d1 ∧ w.d1 ≤ 119 ∧ w.s0 ≤ w.s1 ∧ w.s1 ≤ 159)

/-- Values of a window (R175). -/
def Window.count (w : Window) (kind : Nat) (listen : Bool) : Nat :=
  if kind = 0 then (w.s1 + 1 - w.s0) * (w.d1 + 1 - w.d0 + 8 * b1 listen) else (w.d1 + 1 - w.d0) + (w.s1 + 1 - w.s0)

/-- The whole grid. -/
def fullWindow : Window := ⟨0, 119, 0, 159⟩

/-- A window holds a snuffed line. -/
def Window.snuffed (w : Window) (s : State) : Bool :=
  (List.range 120).any (fun d => decide (w.d0 ≤ d ∧ d ≤ w.d1) && lineSnuffed s d)
  || (List.range 160).any (fun n => decide (w.s0 ≤ n ∧ n ≤ w.s1) && lineSnuffed s (120 + n))

/-- A frame descriptor (Table 5-5). -/
def descriptor (t0 : Nat) (seq : Word) (slot kind carrier flags : Nat) (w : Window) : List Byte :=
  le 8 t0 ++ le 4 seq.toNat ++ [BitVec.ofNat 8 slot, BitVec.ofNat 8 kind, BitVec.ofNat 8 carrier, BitVec.ofNat 8 flags,
    BitVec.ofNat 8 w.d0, BitVec.ofNat 8 w.d1, BitVec.ofNat 8 w.s0, BitVec.ofNat 8 w.s1]

/-- The values of a window in the order of R175. -/
def windowValues (kind : Nat) (vals : List (List Int)) (w : Window) (listen : Bool) : List Int :=
  if kind = 0 then
    ((vals.drop w.s0).take (w.s1 + 1 - w.s0)).flatMap (fun r =>
      (r.drop w.d0).take (w.d1 + 1 - w.d0) ++ (if listen then (r.drop 120).take 8 else []))
  else
    let r := vals.getD 0 []
    (r.drop w.d0).take (w.d1 + 1 - w.d0) ++ (r.drop (120 + w.s0)).take (w.s1 + 1 - w.s0)

/-- FLAGS of a frame: all but LISTEN and SNUFFED, which depend on the window. -/
def frameFlags (s : State) (hop sat overload vtx : Bool) : Nat :=
  b1 (parity s) + 2 * b1 sat + 8 * b1 hop + 16 * b1 ((List.range 120).any (fun d => planMode s.active d != 0))
    + 64 * b1 overload + 128 * b1 vtx

/-- The duration of a frame of a kind on a carrier, in ns, on the tick grid of R154. -/
def frameNs (f : RegFile) (carrier kind : Nat) : Nat :=
  8 * (roundDiv ((frameSlots kind * carrCycles f carrier * 1000000000 : Nat) : Int) (8 * carrFreq f carrier)).toNat

/-- The buffer that holds the oldest frame (R173). -/
def nextBuffer (s : State) : Nat :=
  match s.grid.ring with
  | [] => 0
  | h :: _ => (h.buffer + 1) % 5

/-- A frame written to a ring buffer (R173). -/
def ringWrite (b kind : Nat) (desc : List Byte) (vals : List (List Int)) (m : Memory) : Memory :=
  let none1 := List.replicate 20480 noVal
  let none2 := List.replicate 280 noVal
  let mut1 := if kind = 0 then vals.flatMap id else none1
  let self1 := if kind = 0 then none2 else vals.getD 0 []
  memWrite (ringAt b) desc (memWrite (ringAt b + 0x40) (valBytes mut1) (memWrite (ringAt b + 0xA040) (valBytes self1) m))

/-! ### Reference capture -/

/-- The kinds of frame a schedule produces. -/
def kindsOf (f : RegFile) : List Nat := [0, 1, 2].filter (fun k => (runSlots f).any (fun e => e.kind == k))

/-- One value taken into a capture's sum, minimum, maximum and count. -/
def capAdd (a : Int × Int × Int × Nat) (v : Int) : Int × Int × Int × Nat :=
  if v = noVal then a
  else if a.2.2.2 = 0 then (v, v, v, 1)
  else (a.1 + v, min a.2.1 v, max a.2.2.1 v, a.2.2.2 + 1)

/-- A frame taken into a capture (CAPTURE_REFERENCE): nodes of snuffed lines count as having no value. -/
def captureFrame (s : State) (kind carrier : Nat) (epoch : Word) (vals : List (List Int)) (c : Capture) : Capture :=
  let k := vget c.kinds kind {}
  if 16 ≤ k.frames ∨ c.ended then c else
  let vs := if kind = 0 then
      vals.flatMap (fun r => (r.take 120).zipIdx.map (fun (p : Int × Nat) => if lineSnuffed s p.2 then noVal else p.1))
    else vals.getD 0 []
  let acc := if k.frames = 0 then vs.map (fun _ => ((0, 0, 0, 0) : Int × Int × Int × Nat)) else k.acc
  { c with
    kinds := vmodN c.kinds kind (fun _ => { frames := k.frames + 1, acc := List.zipWith capAdd acc vs })
    firstEpoch := if c.firstEpoch.isNone then some epoch else c.firstEpoch
    carrier := if c.firstEpoch.isNone then carrier else c.carrier }

/-- Every kind of the schedule has its 16 frames. -/
def captureFull (s : State) (c : Capture) : Bool :=
  (kindsOf s.active).all (fun k => decide (16 ≤ (vget c.kinds k {}).frames))

/-- The fingerprint of the configuration in force (R182). -/
def fingerprint (s : State) : Word :=
  let f := s.active
  let plan := (List.range 30).map (fun b => (BitVec.ofNat 8 (fld (fileGet f (Reg.gridPlan (b / 4))) (8 * (b % 4)) 8) : Byte))
  let gains := (List.range 40).map (fun b => (BitVec.ofNat 8 (laneGain f (4 * b) + 4 * laneGain f (4 * b + 1)
    + 16 * laneGain f (4 * b + 2) + 64 * laneGain f (4 * b + 3)) : Byte))
  let self := fileGet f Reg.gridSelfCfg
  crc32 (plan ++ [BitVec.ofNat 8 (fld (fileGet f Reg.gridCfg) 0 4)] ++ gains
    ++ [BitVec.ofNat 8 (fld self 0 2 + 16 * fld self 4 2)])

/-- The reference image matches the configuration in force (R182). -/
def refMatch (s : State) : Bool :=
  s.grid.refValid && u32 (memRead s.gram (refAt + 16) 4) 0 == (fingerprint s).toNat

/-- The mean values of a kind, or none where the kind was not captured. -/
def captureMeans (c : Capture) (k n : Nat) : List Int :=
  let a := (vget c.kinds k {})
  if a.frames = 0 then List.replicate n noVal
  else padTo n noVal (a.acc.map (fun x => if x.2.2.2 = 16 then roundDiv x.1 16 else noVal))

/-- Unstable values, and the largest spread over those with 16 values (Table 5-11). -/
def captureSpread (s : State) (c : Capture) : Nat × Nat :=
  let lim := fld (fileGet s.active Reg.gridRefCfg) 0 16
  let xs := (kindsOf s.active).flatMap (fun k => (vget c.kinds k {}).acc)
  let unstable := xs.filter (fun x => x.2.2.2 != 0 && (x.2.2.2 != 16 || decide ((lim : Int) < x.2.2.1 - x.2.1)))
  (unstable.length, maxNat ((xs.filter (fun x => x.2.2.2 == 16)).map (fun x => (x.2.2.1 - x.2.1).toNat)))

/-- The reference image (Table 5-8). -/
def refImage (s : State) (c : Capture) : List Byte :=
  let ks := kindsOf s.active
  let b := le 4 1 ++ le 8 (stampAcq s) ++ le 4 (c.firstEpoch.getD 0).toNat ++ le 4 (fingerprint s).toNat
    ++ [BitVec.ofNat 8 c.carrier, BitVec.ofNat 8 (sumNat (ks.map (fun k => 2 ^ k)))] ++ List.replicate 10 0
    ++ valBytes (captureMeans c 0 19200 ++ captureMeans c 1 280 ++ captureMeans c 2 280)
  b ++ le 4 (crc32 b).toNat

/-! ### Registers -/

/-- The read-only words of Tables 5-13 and 5-15, by block offset. -/
def gridRo (s : State) (o : Nat) : Nat :=
  let g := s.grid
  if o = 0x04 then
    b1 g.running + 2 * b1 g.startAt.isSome + 4 * b1 (outOp s 0x15) + 8 * b1 g.refValid + 16 * b1 (refMatch s)
      + 32 * b1 g.vtxLow + 64 * b1 g.trimDefault + put 8 3 g.lastSlot + put 16 4 g.lastCarrier
  else if o = 0x08 then g.frameSeq.toNat
  else if o = 0x0C then (if g.running && g.limited then g.framesLeft.toNat else 0)
  else if 0x300 ≤ o ∧ o < 0x328 then
    let w := (o - 0x300) / 4
    sumNat ((List.range 16).map (fun j => put (2 * j) 2 (laneGain s.active (16 * w + j))))
  else if 0x340 ≤ o ∧ o < 0x364 then
    let w := (o - 0x340) / 4
    sumNat ((List.range 32).map (fun j => b1 (lineSnuffed s (32 * w + j)) * 2 ^ j))
  else if 0x400 ≤ o ∧ o < 0x770 then
    let w := (o - 0x400) / 4
    let t := fun i => if i < 160 then (laneTrim s i).toNat else (lineTrim s (i - 160)).toNat
    t (2 * w) + 65536 * t (2 * w + 1)
  else 0

/-- The rules of the commands that set GRID fields, on a candidate file (R178). -/
def gridRule (s : State) (f : RegFile) (o : Nat) : Option Byte :=
  if 0x10 ≤ o ∧ o < 0x30 then (if fitOk f (curCarrier s) (periodUs s) then none else some 0x13)
  else if 0x40 ≤ o ∧ o < 0x60 then (if (List.range 120).all (fun d => planMode f d != 3) then none else some 0x13)
  else if 0x80 ≤ o ∧ o < 0xC0 then (if regionsOk f then none else some 0x13)
  else none

/-! ### Configuration commands -/

/-- GRID_CONFIG (Table 5-9). -/
def gridConfigBody (p : Packet) (s : State) : CmdResult :=
  let q := p.params
  let n := u8 q 4
  if q.length < 8 ∨ q.length ≠ 8 + 4 * n then failCmd s 0x11 else
  let cfg := wd (u8 q 0 + 16 * u8 q 1 + 64 * (u8 q 3 % 2) + 256 * u8 q 2)
  let sched := (List.range 8).map (fun i => (Reg.gridSched i,
    if i < n then wd (1 + 2 * u8 q (11 + 4 * i) + 16 * uN 3 q (8 + 4 * i)) else 0))
  let f := fileSets ((Reg.gridCfg, cfg) :: sched) s.shadow
  checked s
    [(decide (u8 q 0 ≤ 15 ∧ u8 q 1 ≤ 3 ∧ u8 q 3 ≤ 1 ∧ n ≤ 8) && zeros q 5 3, 0x13),
     ((List.range n).all (fun i => decide (uN 3 q (8 + 4 * i) ≤ 999999 ∧ u8 q (11 + 4 * i) ≤ 2)), 0x13),
     (fitOk f (curCarrier s) (periodUs s), 0x13)]
    (fun _ => okCmd (applyNow 2 (withShadow f s)) [])

/-- REGION_DEFINE. -/
def regionDefineBody (p : Packet) (s : State) : CmdResult :=
  let q := p.params
  let i := u8 q 0
  let fl := u8 q 1
  let f := setBaseGain i (fl / 4 % 4) (fileSets [(Reg.gridRegionA i, wd (u32 q 2)),
    (Reg.gridRegionB i, wd (fl % 4))] s.shadow)
  checked s
    [(decide (q.length = 8), 0x11),
     (decide (i ≤ 7 ∧ fl < 16 ∧ u8 q 2 ≤ u8 q 3 ∧ u8 q 3 ≤ 119 ∧ u8 q 4 ≤ u8 q 5 ∧ u8 q 5 ≤ 159) && zeros q 6 2, 0x13),
     (regionsOk f, 0x13)]
    (fun _ => okCmd (applyNow 3 (applyNow 2 (withShadow f s))) [])

/-- DRIVE_PLAN. -/
def drivePlanBody (p : Packet) (s : State) : CmdResult :=
  let q := p.params
  let f := fileSets ((List.range 8).map (fun w => (Reg.gridPlan w, wd (u32 q (4 * w))))) s.shadow
  checked s
    [(decide (q.length = 30), 0x11), ((List.range 120).all (fun d => planMode f d != 3), 0x13)]
    (fun _ => okCmd (applyNow 2 (withShadow f s)) [])

/-- SELFCAP_CONFIG. -/
def selfcapConfigBody (p : Packet) (s : State) : CmdResult :=
  let q := p.params
  let set := u8 q 0
  let cfg := setFld (shw s Reg.gridSelfCfg) (4 * set) 4 (u8 q 1 + 4 * u8 q 2)
  let f := fileSets ((Reg.gridSelfCfg, cfg) :: (List.range 9).map (fun w =>
    (Reg.gridSelfLines set w, wd (u32 (q.drop 4) (4 * w))))) s.shadow
  checked s
    [(decide (q.length = 39), 0x11), (decide (set ≤ 1 ∧ u8 q 1 ≤ 3 ∧ u8 q 2 ≤ 3 ∧ u8 q 3 = 0), 0x13)]
    (fun _ => okCmd (applyNow 2 (withShadow f s)) [])

/-! ### Start, stop, capture, read -/

/-- Grid acquisition is running, or waits to restart after a block reset. -/
def gridRuns (s : State) : Bool := s.grid.running || s.grid.restart

/-- GRID_START (Table 5-10). -/
def gridStartBody (p : Packet) (s : State) : CmdResult :=
  let q := p.params
  let at1 := u8 q 4 = 1
  let e := w32 q 8
  checked s
    [(decide (q.length = 12), 0x11), (decide (u8 q 4 ≤ 1) && zeros q 5 3, 0x13),
     ((currentEpoch s).isSome, 0x30), (!at1 || (targetBad s e).isNone, (targetBad s e).getD 0),
     (!gridRuns s && s.grid.startAt.isNone && !(slotDefs s.shadow).isEmpty, 0x30)]
    (fun _ =>
      let start := if at1 then e else reportEpoch s + 1
      okCmd { s with grid := { s.grid with startAt := some (start, u32 q 0) } } (le 4 start.toNat))

/-- GRID_STOP. -/
def gridStopBody (p : Packet) (s : State) : CmdResult :=
  let was := gridRuns s || s.grid.startAt.isSome
  let stop := if was then reportEpoch s + 1 else reportEpoch s
  checked s [(p.params.isEmpty, 0x11)]
    (fun _ => okCmd { s with grid := { s.grid with
        startAt := none, stopAt := if gridRuns s then some stop else s.grid.stopAt } }
      (le 4 stop.toNat ++ [BitVec.ofNat 8 (b1 was)]))

/-- CAPTURE_REFERENCE: the capture starts. -/
def captureReferenceBody (p : Packet) (s : State) : CmdResult :=
  checked s [(p.params.isEmpty, 0x11), (gridRuns s, 0x30)]
    (fun _ => acceptCmd { s with grid := { s.grid with capture := some {} } })

/-- READ_FRAME (Table 5-12). -/
def readFrameBody (p : Packet) (s : State) : CmdResult :=
  let q := p.params
  let w : Window := ⟨u8 q 4, u8 q 5, u8 q 6, u8 q 7⟩
  let listen := decide (u8 q 2 = 1)
  let held := s.grid.ring.take s.grid.runFrames
  let h := if u8 q 0 = 0 then held.find? (fun h => h.slot == u8 q 1) else held.find? (fun h => h.seq == w32 q 8)
  match firstFail
    [(decide (q.length = 12), 0x11),
     (decide (u8 q 0 ≤ 1 ∧ u8 q 1 ≤ 7 ∧ u8 q 2 ≤ 1 ∧ u8 q 3 = 0) && w.valid, 0x13),
     (!held.isEmpty, 0x30), (h.isSome, 0x13),
     (decide (w.count ((h.map (·.kind)).getD 0) listen ≤ 2036), 0x13)], h with
  | some st, _ => failCmd s st
  | none, none => failCmd s 0x13
  | none, some h =>
    let d := memRead s.gram (ringAt h.buffer) 20
    let fl := u8 d 15
    let flags := fl % 4 + 4 * b1 listen + 8 * (fl / 8 % 4) + 32 * b1 (fl.testBit 5 && w.snuffed s) + 64 * (fl / 64)
    let vals := if h.kind = 0 then
        (List.range 160).map (fun n => if w.s0 ≤ n ∧ n ≤ w.s1 then gramVals s.gram (ringAt h.buffer + 0x40 + n * 256) 128 else [])
      else [gramVals s.gram (ringAt h.buffer + 0xA040) 280]
    okCmd s (le 4 h.epoch.toNat ++ descriptor h.t0 h.seq h.slot h.kind (u8 d 14) flags w
      ++ valBytes (windowValues h.kind vals w listen))

/-- GRID_CONFIG (R178). -/
def execGridConfig (p : Packet) (s : State) : Host.Outcome State Fault Refusal := .next (runCommand 0x10 gridConfigBody p s)
/-- REGION_DEFINE (R170). -/
def execRegionDefine (p : Packet) (s : State) : Host.Outcome State Fault Refusal :=
  .next (runCommand 0x11 regionDefineBody p s)
/-- DRIVE_PLAN (R160). -/
def execDrivePlan (p : Packet) (s : State) : Host.Outcome State Fault Refusal := .next (runCommand 0x12 drivePlanBody p s)
/-- GRID_START (R177). -/
def execGridStart (p : Packet) (s : State) : Host.Outcome State Fault Refusal := .next (runCommand 0x13 gridStartBody p s)
/-- GRID_STOP (R177). -/
def execGridStop (p : Packet) (s : State) : Host.Outcome State Fault Refusal := .next (runCommand 0x14 gridStopBody p s)
/-- CAPTURE_REFERENCE (R179). -/
def execCaptureReference (p : Packet) (s : State) : Host.Outcome State Fault Refusal :=
  .next (runCommand 0x15 captureReferenceBody p s)
/-- READ_FRAME (R173). -/
def execReadFrame (p : Packet) (s : State) : Host.Outcome State Fault Refusal := .next (runCommand 0x16 readFrameBody p s)
/-- SELFCAP_CONFIG (R168). -/
def execSelfcapConfig (p : Packet) (s : State) : Host.Outcome State Fault Refusal :=
  .next (runCommand 0x17 selfcapConfigBody p s)

/-- CAPTURE_REFERENCE_DONE (R182): once every kind has its 16 frames, or acquisition ended before. -/
def execCaptureReferenceDone (r : NvmResult) (s : State) : Host.Outcome State Fault Refusal :=
  match s.grid.capture with
  | none => .next s
  | some c =>
    let full := captureFull s c && c.firstEpoch.isSome
    let ended := c.ended || !gridRuns s
    if !full && !ended then .next s else
    let s := { s with grid := { s.grid with capture := none } }
    if !full then .next (completeDeferred 0x15 0x30 [] .normal s) else
    let (unstable, spread) := captureSpread s c
    let data := fun (stored : Bool) (crc : Nat) =>
      [BitVec.ofNat 8 (b1 stored), 0] ++ le 2 (min unstable 0xFFFF) ++ le 2 (min spread 0xFFFF) ++ [0, 0] ++ le 4 crc
    if unstable ≠ 0 then .next (completeDeferred 0x15 0x00 (data false 0) .normal s) else
    let s := countErases 416 24 s
    match r with
    | .ok =>
      let img := refImage s c
      let old := match s.grid.refOld with
        | some o => o
        | none => (s.grid.refValid, memRead s.gram refAt 39556)
      let s := nvmGood 416 24 { s with
        nvm := { s.nvm with reference := some img }
        gram := memWrite refAt img s.gram
        grid := { s.grid with refValid := true, refOld := some old } }
      .next (completeDeferred 0x15 0x00 (data true (u32 img 39552)) .normal s)
    | r =>
      let s := nvmFailed r 416 24 { s with nvm := { s.nvm with reference := none }, grid := { s.grid with refValid := false } }
      .next (completeDeferred 0x15 0x60 [] .normal s)

/-! ### Frame events -/

/-- Acquisition is halted: a SAFE hold, its resumption, a taper pause, or a reset of the device (R144, R146, R445). -/
def acqHalted (s : State) : Bool := s.safe.hold || s.safe.resumeAfter.isSome || s.hkp.pause || s.sys.inReset

/-- The next schedule entry of the epoch in progress. -/
def nextEntry (s : State) : Option SlotDef := (runSlots s.active).find? (fun e => decide (s.grid.nextSlot ≤ e.slot))

/-- A pending hop applied to a frame that starts at `t` (R241). -/
def hopApply (t : Nat) (s : State) : State :=
  match s.carr.hop with
  | some (n, from1, v) =>
    if from1 ≤ t then
      newCarrier n v { s with carr := { s.carr with hops := sat16 s.carr.hops 1 } }
    else s
  | none => s

/-- GRID_FRAME_START (R157): the next entry of the epoch in progress starts at epoch start plus its offset, on the
carrier then current. -/
def execGridFrameStart (s : State) : Host.Outcome State Fault Refusal :=
  match s.time.epoch, s.time.sched, nextEntry s with
  | some e, some c, some slot =>
    if s.sys.power ≠ .active ∨ !s.grid.running ∨ s.grid.restart ∨ s.grid.runDone ∨ s.grid.frame.isSome ∨ acqHalted s
        ∨ s.time.lastAcq ≠ some e then .next s else
    let t0 := epochStart c e + slot.off * 1000
    let s := hopApply t0 (advanceTo t0 s)
    let n := s.carr.active
    let hop := match look slot.slot s.grid.slotCarrier with
      | some o => o != n
      | none => false
    .next { s with grid := { s.grid with
      frame := some ⟨slot.slot, slot.kind, n, hop, t0, e⟩
      nextSlot := slot.slot + 1
      slotCarrier := bind1 slot.slot n s.grid.slotCarrier } }
  | _, _, _ => .next s

/-- A stream's grid window (Table 12-8). -/
def streamWindow (s : State) (k : Nat) : Window :=
  let w := shw s (Reg.resStreamWin k)
  ⟨fld w 0 8, fld w 8 8, fld w 16 8, fld w 24 8⟩

/-- Overloads of a frame counted and raised: LANE_OVERLOAD once per lane, LANE_STUCK at 64 frames in a row (Table 5-7). -/
def overloadFaults (overload : List Nat) (s : State) : State :=
  let lanes := (List.range 160).filter (fun n => overload.contains n && !lineSnuffed s (120 + n))
  let runs := lanes.map (fun n => (n, (look n s.grid.overRuns).getD 0 + 1))
  let s := { s with grid := { s.grid with overRuns := runs } }
  let s := lanes.foldl (fun t n => raise 2 Src.gridLaneOverload (120 + n) t) s
  (runs.filter (fun r => r.2 == 64)).foldl (fun t r => raise 2 Src.gridLaneStuck (120 + r.1) t) s

/-- 131,072 times the sum of squares of a mutual frame's listen set, and its count (R233). -/
def listenSum (s : State) (overload : List Nat) (vals : List (List Int)) : Nat × Nat :=
  let extra := bitOf (acw s Reg.gridCfg) 6
  let codes := (List.range 128).filter (fun k => decide (120 ≤ k) || (extra && undriven s k))
  let us := (vals.zipIdx.filter (fun (r : List Int × Nat) => !overload.contains r.2 && !lineSnuffed s (120 + r.2))).flatMap
    (fun (r : List Int × Nat) =>
      let l := laneGain s.active r.2
      (codes.map (fun k => r.1.getD k noVal)).filterMap (fun v => if v = noVal then none else some (listenSquare v l)))
  (sumNat us, us.length)

/-- Event entries as EVENT records of a source (Table 12-2): one per frame that raises entries. -/
def emitEvents (bit : Nat) (epoch : Word) (evs : List (List Byte)) (s : State) : State :=
  if evs.isEmpty then s else emit bit 4 epoch (fun _ => some (evs.flatMap id)) s

/-- The carrier's part of a completed frame: tail guard, flicker evaluation and its events (R238 to R241, R252). -/
def carrierFrame (fr : FrameRun) (x : FrameInput) (vals : List (List Int)) (s : State) : State :=
  let s := shadowFrame x.shadow x.overload s
  let hopEv := match s.carr.hopEvent with
    | some (a, b, v2) => if fr.carrier = b then [carrEntry s fr.t0 0x40 (a + 256 * b) v2] else []
    | none => []
  let s := if hopEv.isEmpty then s else { s with carr := { s.carr with hopEvent := none } }
  let (s, evs) := if fr.kind = 0 ∧ fr.carrier = s.carr.active then
      flickerFrame fr.t0 (fr.t0 + frameNs s.active fr.carrier 0) (listenSum s x.overload vals) s
    else (s, [])
  emitEvents 4 fr.epoch (hopEv ++ evs) s

/-- GRID_FRAME_COMPLETE (R157): the values of the frame in progress are decoded and written to the ring, the FRAME
records are built, and the carrier evaluation follows. -/
def execGridFrameComplete (x : FrameInput) (s : State) : Host.Outcome State Fault Refusal :=
  match s.grid.frame with
  | none => .next s
  | some fr =>
    let dur := frameNs s.active fr.carrier fr.kind
    let s := advanceTo (fr.t0 + dur) s
    let (vals, sat) := decodeFrame s x fr.kind
    let ovl := (List.range 160).any (fun n => x.overload.contains n && !lineSnuffed s (120 + n))
    let fl := frameFlags s fr.hop sat ovl (x.vtxLow || s.grid.vtxLow)
    let seq := s.grid.nextSeq
    let b := nextBuffer s
    let desc := descriptor fr.t0 seq fr.slot fr.kind fr.carrier (fl + 4 + 32 * b1 (fullWindow.snuffed s)) fullWindow
    let h : HeldFrame := ⟨b, fr.slot, fr.kind, seq, fr.t0, fr.epoch, dur⟩
    let left := s.grid.framesLeft - 1
    let s := { s with
      gram := ringWrite b fr.kind desc vals s.gram
      grid := { s.grid with
        frame := none, nextSeq := seq + 1, frameSeq := seq, lastSlot := fr.slot, lastCarrier := fr.carrier
        ring := (h :: s.grid.ring).take 5, runFrames := min 5 (s.grid.runFrames + 1)
        framesLeft := if s.grid.limited then left else s.grid.framesLeft
        runDone := s.grid.limited && decide (left = 0)
        capture := s.grid.capture.map (captureFrame s fr.kind fr.carrier fr.epoch vals) }
      tch := { s.tch with todo := s.tch.todo ++ [h] } }
    let s := overloadFaults x.overload s
    let s := emit 0 1 fr.epoch (fun k =>
      let src := shw s (Reg.resStreamSrc k)
      if src.getLsbD fr.slot then
        let w := streamWindow s k
        let listen := bitOf src 8
        some (descriptor fr.t0 seq fr.slot fr.kind fr.carrier (fl + 4 * b1 listen + 32 * b1 (w.snuffed s)) w
          ++ valBytes (windowValues fr.kind vals w listen))
      else none) s
    .next (carrierFrame fr x vals s)

/-- DRIVE_OVERCURRENT (R180): the line's driver is off until the boundary at which its snuff takes effect. -/
def execDriveOvercurrent (line : Fin 120) (s : State) : Host.Outcome State Fault Refusal :=
  .next (raise 2 Src.gridDriveOvercurrent line.val { s with grid := { s.grid with
    driversOff := if s.grid.driversOff.contains line.val then s.grid.driversOff else line.val :: s.grid.driversOff } })

/-- VTX_LOW (Table 5-7): raised when the condition begins while RUNNING. -/
def execVtxLow (present : Bool) (s : State) : Host.Outcome State Fault Refusal :=
  let begins := present && !s.grid.vtxLow && s.grid.running
  let s := { s with grid := { s.grid with vtxLow := present } }
  .next (if begins then raise 2 Src.gridVtxLow noItem s else s)

end Sys2Proof.Machine
end

