-- ==== Sys2Proof/Machine/Hkp.lean ====
section
/-! DEFINITION. Faults, heat and housekeeping (chapter 14): the fault commands, the housekeeping round with its sensor
cross-check and taper level, reinstatement of lines and sensors, and the HKP registers. -/
namespace Sys2Proof.Machine

open Sys2Proof

/-! ### Fault commands -/

/-- FLT_STAT of a block. -/
def fltStat (s : State) (b : Nat) : Nat := (fltOf s b).stat.toNat

/-- Bit n: FLT_STAT of block n is not 0 (Table 2-11). -/
def faultBlocks (s : State) : Nat := sumNat ((List.range 14).map (fun b => b1 (fltStat s b != 0) * 2 ^ b))

/-- One entry of Table 14-11; the last item recorded gives CONSEQ, ESCALATED and ITEM. -/
def faultEntry (s : State) (o : Origin) (b src : Nat) : List Byte :=
  let f := fltOf s b
  let is := f.items.filter (fun i => i.source == src)
  let sev := raisedSeverity f src
  let last := is.getLast?
  let role := roleOf s o
  let may := decide ((ackRole sev).toNat ≤ role.toNat) && (!s.sec.cfgLock.getLsbD 9 || role == 3)
  [BitVec.ofNat 8 src, BitVec.ofNat 8 sev, BitVec.ofNat 8 (srcSeverity s b src),
    BitVec.ofNat 8 (b1 (last.any (·.conseq)) + 2 * b1 (last.any (·.escalated)) + 4 * b1 may)]
    ++ le 2 (min 0xFFFF (sumNat (is.map (·.occur)))) ++ le 2 ((last.map (·.item)).getD noItem)

/-- FAULT_READ. -/
def faultReadBody (p : Packet) (s : State) : CmdResult :=
  let q := p.params
  let b := u8 q 0
  checked s
    [(decide (q.length = 4), 0x11), (decide (b ≤ 13 ∨ b = 0xFF) && zeros q 1 3, 0x13)]
    (fun _ =>
      if b = 0xFF then okCmd s ((List.range 14).flatMap (fun k => le 4 (fltStat s k))) else
      let srcs := maskBits 32 (fltStat s b)
      okCmd s ([BitVec.ofNat 8 b, BitVec.ofNat 8 srcs.length, 0, 0] ++ le 4 (fltStat s b)
        ++ le 4 (fltOf s b).first.toNat ++ le 4 (shw s (Reg.flt b 1)).toNat
        ++ srcs.flatMap (faultEntry s p.origin b)))

/-- FAULT_ACK: the rights of every named raised source were checked at step 5 (R72). -/
def faultAckBody (p : Packet) (s : State) : CmdResult :=
  let q := p.params
  let b := u8 q 0
  checked s
    [(decide (q.length = 8), 0x11), (decide (b ≤ 13) && zeros q 1 3, 0x13)]
    (fun _ =>
      let m := u32 q 4 &&& fltStat s b
      okCmd (acknowledge b m s) (le 4 m))

/-- SEVERITY_SET. -/
def severitySetBody (p : Packet) (s : State) : CmdResult :=
  let q := p.params
  let b := u8 q 0
  let src := u8 q 1
  let sevAt := Reg.flt b (2 + src / 10)
  checked s
    [(decide (q.length = 4), 0x11),
     (decide (b ≤ 13 ∧ src < sourceCount b ∧ u8 q 2 ≤ 4 ∧ u8 q 3 ≤ 1 ∧ ¬(b = 0 ∧ src = Src.sysSafeRestored)), 0x13)]
    (fun _ => okCmd (setShws
      [(sevAt, setFld (shw s sevAt) (3 * (src % 10)) 3 (u8 q 2)),
       (Reg.flt b 1, setFld (shw s (Reg.flt b 1)) src 1 (u8 q 3))] s) [])

/-- The ranges of THERMAL_CONFIG, on HKP_CFG. -/
def thermalOk (w : Word) : Bool :=
  decide (85 ≤ fld w 0 8 ∧ fld w 0 8 ≤ 125 ∧ 1 ≤ fld w 8 5 ∧ fld w 8 5 ≤ 20 ∧ 60 ≤ fld w 16 8 ∧ fld w 16 8 ≤ 125)

/-- THERMAL_CONFIG: the settings act from the end of the next round. -/
def thermalConfigBody (p : Packet) (s : State) : CmdResult :=
  let q := p.params
  let w := wd (u8 q 0 + 256 * (u8 q 1 % 32) + 65536 * u8 q 2 + 2 ^ 24 * u8 q 3)
  checked s
    [(decide (q.length = 4), 0x11), (thermalOk w && decide (u8 q 1 < 32 ∧ u8 q 3 ≤ 1), 0x13)]
    (fun _ => okCmd (setShw Reg.hkpCfg w s) [])

/-! ### Sensors -/

/-- The temperature sensors not snuffed. -/
def liveSensors (s : State) : List Nat := (List.range 9).filter (fun i => !sensorSnuffed s i)

/-- TEMP_WARN of HKP_CFG in force, in 0.01 °C. -/
def tempWarn (s : State) : Int := 100 * fld (acw s Reg.hkpCfg) 16 8

/-- SENSORS_LOW holds (R443). -/
def sensorsLow (s : State) : Bool := decide ((liveSensors s).length < 5)

/-- Two sensors of the 3 × 3 array at Chebyshev distance 1 (R441). -/
def adjacent (i j : Nat) : Bool :=
  i != j && decide (i / 3 ≤ j / 3 + 1 ∧ j / 3 ≤ i / 3 + 1 ∧ i % 3 ≤ j % 3 + 1 ∧ j % 3 ≤ i % 3 + 1)

/-- Twice the median of a list (R441): the sum of the two middle values, a lone middle one counted twice. -/
def median2 (l : List Int) : Int :=
  let a := sortInt l
  a.getD ((l.length - 1) / 2) 0 + a.getD (l.length / 2) 0

/-- A sensor disagrees with its reference by more than 8.00 °C (R441, R442). -/
def disagrees (live : List Nat) (v : Nat → Int) (i : Nat) : Bool :=
  let near := live.filter (adjacent i)
  let ref := if near.length < 2 then live.filter (· != i) else near
  !ref.isEmpty && (let d := 2 * v i - median2 (ref.map v); decide (1600 < d ∨ d < -1600))

/-- An operating range of a supply of channels 9 to 13, in mV (Table 17-2). -/
def supplyIn (c : Nat) (mv : Int) : Bool :=
  match c with
  | 0 => decide (760 ≤ mv ∧ mv ≤ 840)
  | 1 => if Config.vddio33 then decide (3135 ≤ mv ∧ mv ≤ 3465) else decide (1710 ≤ mv ∧ mv ≤ 1890)
  | 3 => decide (3135 ≤ mv ∧ mv ≤ 3465)
  | _ => decide (1710 ≤ mv ∧ mv ≤ 1890)

/-! ### Taper -/

/-- The taper level comes into force, as at a boundary (R444). -/
def taperApply (s : State) : State :=
  let k := if bitOf (acw s Reg.hkpCfg) 24 then s.hkp.k else 0
  { s with hkp := { s.hkp with k := k, kActive := k } }

/-- Epoch n is a taper pause (R445). -/
def taperPause (s : State) (n : Word) : Bool :=
  let m := n.toNat % 16
  s.sys.power == .active && decide (m * s.hkp.kActive / 16 < (m + 1) * s.hkp.kActive / 16)

/-- The taper counts of a round's end (R444). -/
def taperRound (s : State) : State :=
  let w := acw s Reg.hkpCfg
  let h := s.hkp
  let on : Int := 100 * fld w 0 8
  let off := on - 100 * fld w 8 5
  if !bitOf w 24 then { s with hkp := { h with hotRun := 0, coolRun := 0 } }
  else if on ≤ h.tj then
    if h.hotRun = 7 then
      let s' := { s with hkp := { h with k := min 15 (h.k + 1), hotRun := 0, coolRun := 0 } }
      if h.k = 0 then raise 10 Src.hkpTaper noItem s' else s'
    else { s with hkp := { h with hotRun := h.hotRun + 1, coolRun := 0 } }
  else if h.tj ≤ off then
    if h.coolRun = 63 then { s with hkp := { h with k := h.k - 1, hotRun := 0, coolRun := 0 } }
    else { s with hkp := { h with coolRun := h.coolRun + 1, hotRun := 0 } }
  else { s with hkp := { h with hotRun := 0, coolRun := 0 } }

/-! ### The housekeeping round -/

/-- Snuffs and reinstatements of sensors take effect with a round (R437, R442). -/
def sensorsApply (s : State) : State :=
  { s with
    snuff := { s.snuff with sensors := (s.snuff.sensors &&& ~~~s.snuffOff.sensors) ||| s.snuffDue.sensors }
    snuffDue := { s.snuffDue with sensors := 0 }
    snuffOff := { s.snuffOff with sensors := 0 } }

/-- The cross-check of a round (R442): counts, and SENSOR_DISAGREE of a sensor's third round in a row. -/
def crossCheck (dis : List Nat) (s : State) : State :=
  let old := s.hkp.disagree
  let s := { s with hkp := { s.hkp with
    disagree := Vector.ofFn (fun (i : Fin 9) => if dis.contains i.val then min 3 (old[i] + 1) else 0)
    disagreeCnt := sat16 s.hkp.disagreeCnt dis.length } }
  raiseAll ((dis.filter (fun i => vget old i 0 == 2)).map (fun i => (10, Src.hkpSensorDisagree, i))) s

/-- Tj of a round (R440, R442); a free value while no sensor is left. -/
def roundTj (live dis : List Nat) (v : Nat → Int) (s : State) : State :=
  let used := live.filter (fun i => !dis.contains i)
  match (if used.isEmpty then live else used).map v with
  | [] =>
    let (t, s) := freshInt s
    { s with hkp := { s.hkp with tj := t } }
  | x :: l => { s with hkp := { s.hkp with tj := l.foldl max x } }

/-- TEMP_WARN (R440). -/
def tempWarnStep (s : State) : State :=
  if tempWarn s ≤ s.hkp.tj then
    if s.hkp.warned then s else raise 10 Src.hkpTempWarn noItem { s with hkp := { s.hkp with warned := true } }
  else if s.hkp.tj ≤ tempWarn s - 500 then { s with hkp := { s.hkp with warned := false } } else s

/-- SUPPLY_RANGE of a supply out of its range in 2 rounds in a row (R439). -/
def supplyStep (conv : List Int) (s : State) : State :=
  (List.finRange 5).foldl (fun (t : State) (c : Fin 5) =>
    let n := t.hkp.supplyRun[c]
    if supplyIn c.val (conv.getD (9 + c.val) 0) then { t with hkp := { t.hkp with supplyRun := t.hkp.supplyRun.set c.1 0 c.2 } }
    else
      let t := { t with hkp := { t.hkp with supplyRun := t.hkp.supplyRun.set c.1 (min 2 (n + 1)) c.2 } }
      if n = 1 then raise 10 Src.hkpSupplyRange noItem t else t) s

/-- SENSORS_LOW raised once until 5 sensors are left again (R443). -/
def sensorsLowStep (s : State) : State :=
  if sensorsLow s then
    if s.hkp.sensorsLow then s else raise 10 Src.hkpSensorsLow noItem { s with hkp := { s.hkp with sensorsLow := true } }
  else { s with hkp := { s.hkp with sensorsLow := false } }

/-- CONV_CHECK of the internal check channel, one occurrence while it persists (Table 14-10). -/
def checkStep (ok : Bool) (s : State) : State :=
  if ok then { s with hkp := { s.hkp with checkBad := false } }
  else if s.hkp.checkBad then s
  else raise 10 Src.hkpConvCheck noItem { s with hkp := { s.hkp with checkBad := true } }

/-- HKP runs: DORMANT, STANDBY or ACTIVE, out of reset (R438). -/
def hkpRuns (s : State) : Bool := !s.sys.inReset && !asleep s

/-- HOUSEKEEPING_ROUND (R438 to R444): the 24 conversions, the checks, and the settings of THERMAL_CONFIG at its end. -/
def execHousekeepingRound (conv : List Int) (checkOk : Bool) (s : State) : Host.Outcome State Fault Refusal :=
  if !hkpRuns s then .next s else
  let s := sensorsApply s
  let live := liveSensors s
  let v := fun i => conv.getD i 0
  let dis := live.filter (disagrees live v)
  let s := { s with hkp := { s.hkp with
    ch := Vector.ofFn (fun (c : Fin 24) =>
      if c.val < 9 ∧ sensorSnuffed s c.val then 0x8000 else BitVec.ofInt 16 (v c.val)) } }
  let s := checkStep checkOk (crossCheck dis s)
  let s := supplyStep conv (tempWarnStep (roundTj live dis v (sensorsLowStep s)))
  let s := taperRound s
  let s := if (currentEpoch s).isNone then taperApply s else s
  let s := { s with hkp := { s.hkp with rounds := s.hkp.rounds + 1 } }
  .next (edgeLine 18 (setAcw Reg.hkpCfg (shw s Reg.hkpCfg) s))

/-- The data of HEALTH_READ and of a HEALTH record (Table 14-12). -/
def healthData (time : Nat) (s : State) : List Byte :=
  le 8 time ++ le 4 (reportEpoch s).toNat ++
    [BitVec.ofNat 8 (match s.sys.power with | .dormant => 0 | .standby => 1 | .active => 2 | .ember => 3 | .retain => 4),
     BitVec.ofNat 8 (b1 (s.hkp.kActive != 0) + 2 * b1 (decide (tempWarn s ≤ s.hkp.tj)) + 4 * b1 s.safe.hold
       + 8 * b1 (sensorsLow s))] ++
    le 2 (faultBlocks s) ++ leI 2 s.hkp.tj ++ [BitVec.ofNat 8 s.hkp.k, BitVec.ofNat 8 (liveSensors s).length] ++
    le 2 s.snuff.sensors.toNat ++ [0, 0] ++ s.hkp.ch.toList.flatMap (fun (x : Half) => le 2 x.toNat) ++
    le 4 s.hkp.rounds.toNat ++ le 4 s.hkp.taperTotal

/-- HEALTH_READ. -/
def healthReadBody (p : Packet) (s : State) : CmdResult :=
  checked s [(p.params.isEmpty, 0x11)] (fun _ => okCmd s (healthData (stampRun s) s))

/-- FAULT_READ. -/
def execFaultRead (p : Packet) (s : State) : Host.Outcome State Fault Refusal := .next (runCommand 0x90 faultReadBody p s)
/-- FAULT_ACK. -/
def execFaultAck (p : Packet) (s : State) : Host.Outcome State Fault Refusal := .next (runCommand 0x91 faultAckBody p s)
/-- SEVERITY_SET. -/
def execSeveritySet (p : Packet) (s : State) : Host.Outcome State Fault Refusal :=
  .next (runCommand 0x92 severitySetBody p s)
/-- THERMAL_CONFIG. -/
def execThermalConfig (p : Packet) (s : State) : Host.Outcome State Fault Refusal :=
  .next (runCommand 0x93 thermalConfigBody p s)
/-- HEALTH_READ. -/
def execHealthRead (p : Packet) (s : State) : Host.Outcome State Fault Refusal := .next (runCommand 0x94 healthReadBody p s)

/-! ### Reinstatement -/

/-- A snuffed grid line or sensor reinstated (R437, Table 14-7): a line at the next epoch boundary, at once while the
grid does not run; a sensor with the next round. The entry names the role and opcode of the write. -/
def reinstateItem (role op : Byte) (b item : Nat) (s : State) : State :=
  if !itemSnuffed s b item then s else
  let s := clearItem b item { s with snuffDue := snuffDel b item s.snuffDue, snuffWrite := true }
  let s := journalRaise role op 0 0x06 ([BitVec.ofNat 8 b] ++ le 2 item) s
  let s := if b = 10 then { s with hkp := { s.hkp with disagree := vmodN s.hkp.disagree item (fun _ => 0) } } else
    { s with grid := { s.grid with overRuns := s.grid.overRuns.filter (fun x => x.1 + 120 != item) } }
  if b = 2 ∧ (!gridRuns s ∨ (currentEpoch s).isNone) then { s with snuff := snuffDel b item s.snuff }
  else { s with snuffOff := snuffAdd b item s.snuffOff }

/-- A write of HKP_REINSTATE (Table 14-13): the status R514 gives it, and its effect. -/
def reinstateWrite (role op : Byte) (v : Word) (s : State) : Byte × State :=
  let b := fld v 12 4
  let item := fld v 0 9
  if fld v 24 8 ≠ 0xC3 then (0, s)
  else if (b ≠ 2 ∧ b ≠ 10) ∨ fld v 9 3 ≠ 0 ∨ fld v 16 8 ≠ 0 ∨ (if b = 2 then 280 else 9) ≤ item then (0x13, s)
  else (0, reinstateItem role op b item s)

/-! ### Registers -/

/-- The read-only words of Table 14-13, by block offset. -/
def hkpRo (s : State) (o : Nat) : Nat :=
  let h := s.hkp
  if o = 4 then
    ux 16 h.tj + put 16 4 h.k + 2 ^ 20 * b1 (h.kActive != 0) + 2 ^ 21 * b1 (decide (tempWarn s ≤ h.tj))
      + 2 ^ 22 * b1 (sensorsLow s) + put 24 4 (liveSensors s).length
  else if o = 8 then s.snuff.sensors.toNat
  else if o = 0x10 then h.rounds.toNat
  else if o = 0x14 then h.taperEpochs.toNat + 65536 * h.disagreeCnt.toNat
  else if 0x100 ≤ o ∧ o < 0x160 then
    let c := (o - 0x100) / 4
    (vget h.ch c 0).toNat + (if c < 9 then 65536 * vget h.disagree c 0 else 0)
  else 0

/-- The RC fields a read of an offset clears. -/
def hkpRc (o : Nat) (s : State) : State :=
  if o = 0x14 then { s with hkp := { s.hkp with taperEpochs := 0, disagreeCnt := 0 } } else s

/-- The rules of a write to HKP_CFG, on a candidate file (R447). -/
def hkpRule (_s : State) (f : RegFile) (o : Nat) : Option Byte :=
  if o = 0 then (if thermalOk (fileGet f Reg.hkpCfg) then none else some 0x13) else none

end Sys2Proof.Machine
end

