-- ==== Sys2Proof/Machine/TouchGeo.lean ====
section
/-! DEFINITION. The touch pipeline's geometry and working state: nodes, effective thresholds, groups, peaks and
detections, the reference, and the grid state RAM layout of Table 6-10 (sections 6.1 to 6.4). -/
namespace Sys2Proof.Machine

open Sys2Proof

/-! ### Working state in grid state RAM -/

/-- Offset of a node's mutual baseline (Table 6-10). -/
def nodeBaseAt (d n : Nat) : Nat := 0x3C000 + (n * 120 + d) * 4
/-- Offset of a node's state byte. -/
def nodeStateAt (d n : Nat) : Nat := 0x4EC00 + n * 120 + d
/-- Offset of a line's self baseline. -/
def selfBaseAt (i : Nat) : Nat := 0x53700 + 4 * i
/-- Offset of a slot of the contact table. -/
def contactAt (k : Nat) : Nat := 0x54000 + 64 * k

/-- A node of a region in a frame: its value, its baseline in 1/65,536 count, its state code (Table 6-1), and whether
its first anti frame has been seen. -/
structure NodeR where
  d : Nat
  n : Nat
  v : Option Int
  b : Int
  st : Nat
  anti : Bool
  deriving DecidableEq, Repr

/-- The signal of a node (R184, R185): none without a value, or without a baseline (states OUTSIDE and LEARN). -/
def NodeR.sig (x : NodeR) : Option Int :=
  match x.v with
  | none => none
  | some v => if x.st ≤ 1 then none else some (roundDiv (x.b - v * 65536) 65536)

/-- A value or none. -/
def valOf (v : Int) : Option Int := if v = noVal then none else some v

/-- The nodes of a region in the frame held in a ring buffer, lane-major. -/
def regionNodes (m : Memory) (b : Nat) (r : Region) : List NodeR :=
  let w := r.d1 + 1 - r.d0
  (List.range (r.s1 + 1 - r.s0)).flatMap (fun j =>
    let n := r.s0 + j
    let vs := gramVals m (ringAt b + 0x40 + (n * 128 + r.d0) * 2) w
    let bs := memRead m (nodeBaseAt r.d0 n) (4 * w)
    let ss := memRead m (nodeStateAt r.d0 n) w
    (List.range w).map (fun k =>
      let s := u8 ss k
      (⟨r.d0 + k, n, valOf (vs.getD k noVal), sx 32 (u32 bs (4 * k)), s % 8, s.testBit 4⟩ : NodeR)))

/-- The state byte of a node (Table 6-10). -/
def stateByte (region : Nat) (x : NodeR) : Byte :=
  BitVec.ofNat 8 (x.st % 8 + 8 * b1 x.v.isNone + 16 * b1 x.anti + 32 * region)

/-- The nodes of a region written back, lane by lane. -/
def writeNodes (r : Region) (xs : List NodeR) (m : Memory) : Memory :=
  (List.range (r.s1 + 1 - r.s0)).foldl (fun (t : Memory) j =>
    let n := r.s0 + j
    let row := xs.filter (fun x => x.n == n)
    memWrite (nodeBaseAt r.d0 n) (row.flatMap (fun x => leI 4 x.b))
      (memWrite (nodeStateAt r.d0 n) (row.map (stateByte r.idx)) t)) m

/-- Every node of a rectangle given a state code; the baselines stand. -/
def setStates (r : Region) (code : Nat) (m : Memory) : Memory :=
  let w := r.d1 + 1 - r.d0
  (List.range (r.s1 + 1 - r.s0)).foldl (fun (t : Memory) j =>
    memWrite (nodeStateAt r.d0 (r.s0 + j))
      (List.replicate w (BitVec.ofNat 8 (if code = 0 then 0 else code + 32 * r.idx))) t) m

/-! ### Thresholds -/

/-- A threshold of a region's registers: the low or the high half of TCH_RGNi_THRk. -/
def thrRaw (f : RegFile) (a : Nat) (hi : Bool) : Nat := fld (fileGet f a) (if hi then 16 else 0) 16

/-- eff(T) (R186). -/
def effThr (f : RegFile) (i t : Nat) : Nat :=
  let m := fileGet f (Reg.tchRgnMode i)
  let g := fld (fileGet f (Reg.gridRegionB i)) 2 2
  let k := if bitOf m 0 then fld m 8 4 else 0
  max 1 (t * 2 ^ g * (16 - k) / 16)

/-- eff(TOUCH_ON). -/
def touchOn (f : RegFile) (i : Nat) : Int := (max 2 (effThr f i (thrRaw f (Reg.tchRgnThr0 i) false)) : Nat)
/-- eff(TOUCH_OFF). -/
def touchOff (f : RegFile) (i : Nat) : Int := min ((effThr f i (thrRaw f (Reg.tchRgnThr0 i) true) : Nat) : Int) (touchOn f i - 1)
/-- eff(ANTI). -/
def antiThr (f : RegFile) (i : Nat) : Int := (effThr f i (thrRaw f (Reg.tchRgnThr1 i) false) : Nat)
/-- SELF_CONFIRM. -/
def selfConfirm (f : RegFile) (i : Nat) : Int := (thrRaw f (Reg.tchRgnThr1 i) true : Nat)
/-- eff(FIELD_ON). -/
def fieldOn (f : RegFile) (i : Nat) : Int := (effThr f i (thrRaw f (Reg.tchRgnThr3 i) false) : Nat)
/-- eff(FIELD_OFF). -/
def fieldOff (f : RegFile) (i : Nat) : Int := min ((effThr f i (thrRaw f (Reg.tchRgnThr3 i) true) : Nat) : Int) (fieldOn f i - 1)
/-- eff(CHANGE), 0 when there are no node change events (R215). -/
def changeThr (f : RegFile) (i : Nat) : Int :=
  let c := thrRaw f (Reg.tchRgnThr4 i) false
  if c = 0 then 0 else (effThr f i c : Nat)

/-- GLOVE, HALO and WATER of a region; HALO only on a SURFACE region (R187). -/
def gloveOn (f : RegFile) (i : Nat) : Bool := bitOf (fileGet f (Reg.tchRgnMode i)) 0
/-- HALO in effect. -/
def haloOn (f : RegFile) (i : Nat) : Bool := bitOf (fileGet f (Reg.tchRgnMode i)) 1 && !(regionOf f i).field
/-- WATER. -/
def waterOn (f : RegFile) (i : Nat) : Bool := bitOf (fileGet f (Reg.tchRgnMode i)) 2

/-- The self set a region uses. -/
def selfSetOf (f : RegFile) (i : Nat) : Option Nat :=
  match fld (fileGet f (Reg.tchRgnMode i)) 12 2 with
  | 0 => some 0
  | 1 => some 1
  | _ => none

/-! ### Geometry -/

/-- The Chebyshev distance of two nodes. -/
def cheb (a b : Nat × Nat) : Nat := max (max (a.1 - b.1) (b.1 - a.1)) (max (a.2 - b.2) (b.2 - a.2))

/-- A node joins the groups it touches (8-connected). -/
def joinGroup (x : Nat × Nat) (gs : List (List (Nat × Nat))) : List (List (Nat × Nat)) :=
  let near := gs.filter (fun g => g.any (fun y => decide (cheb x y ≤ 1)))
  let far := gs.filter (fun g => !g.any (fun y => decide (cheb x y ≤ 1)))
  far ++ [near.flatMap id ++ [x]]

/-- The 8-connected groups of a list of nodes (R200). -/
def groupsOf (l : List (Nat × Nat)) : List (List (Nat × Nat)) := l.foldl (fun gs x => joinGroup x gs) []

/-- A list in order of a comparison, by insertion. -/
def insertBy {α : Type} (before : α → α → Bool) (x : α) : List α → List α
  | [] => [x]
  | y :: l => if before x y then x :: y :: l else y :: insertBy before x l
/-- Insertion sort by a comparison. -/
def sortBy {α : Type} (before : α → α → Bool) (l : List α) : List α := l.foldr (insertBy before) []

/-- A node with its signal. -/
abbrev SigNode := (Nat × Nat) × Int

/-- The rank of R201: larger signal first, then lower sense lane, then lower drive line. -/
def ranksBefore (x y : SigNode) : Bool :=
  decide (y.2 < x.2 ∨ (y.2 = x.2 ∧ (x.1.2 < y.1.2 ∨ (x.1.2 = y.1.2 ∧ x.1.1 ≤ y.1.1))))

/-- The signal of a node of a list. -/
def sigAt (l : List SigNode) (p : Nat × Nat) : Option Int := look p l

/-- The peaks of a segment that no higher-ranked peak takes in, in order of rank (R201). -/
def peaksOf (on1 : Int) (seg : List SigNode) : List SigNode :=
  let cand := sortBy ranksBefore (seg.filter (fun x => decide (on1 ≤ x.2) &&
    seg.all (fun y => decide (cheb x.1 y.1 ≠ 1 ∨ y.2 ≤ x.2))))
  cand.zipIdx.filterMap (fun (p : SigNode × Nat) =>
    if (cand.take p.2).any (fun y => decide (cheb p.1.1 y.1 ≤ 2)) then none else some p.1)

/-- Squared Euclidean distance of two nodes. -/
def dist2 (a b : Nat × Nat) : Nat := (((a.1 : Int) - b.1) ^ 2 + ((a.2 : Int) - b.2) ^ 2).toNat

/-- The peak a segment node is assigned to: the nearest, a tie to the higher-ranked (R201). -/
def nearestPeak (ps : List SigNode) (x : Nat × Nat) : Option SigNode :=
  ps.foldl (fun (a : Option SigNode) p =>
    match a with
    | none => some p
    | some q => if dist2 x p.1 < dist2 x q.1 then some p else a) none

/-- A detection (R201, R202, R206). -/
structure Det where
  peak : SigNode
  nodes : List (Nat × Nat)
  hover : Bool
  x : Int
  y : Int
  strength : Nat
  area : Nat
  edge : Bool
  deriving DecidableEq, Repr

/-- A detection's report from its assigned nodes (R202). -/
def detOf (r : Region) (off : Int) (p : SigNode) (own : List SigNode) : Det :=
  let ws := (own.filter (fun y => decide (cheb p.1 y.1 ≤ 2))).map (fun y => (y.1, y.2 - off))
  let sw := sumInt (ws.map (·.2))
  let pos := fun (f : Nat × Nat → Nat) => roundDiv (256 * sumInt (ws.map (fun y => y.2 * f y.1))) sw.toNat
  ⟨p, own.map (·.1), false, pos (·.1), pos (·.2), min 0xFFFF sw.toNat, min 255 own.length,
    decide (p.1.1 < r.d0 + 2 ∨ r.d1 < p.1.1 + 2 ∨ p.1.2 < r.s0 + 2 ∨ r.s1 < p.1.2 + 2)⟩

/-- The finger detections of a region, in order of rank (R200 to R202). -/
def detectionsOf (r : Region) (on1 off : Int) (acts : List SigNode) : List Det :=
  let segs := (groupsOf (acts.map (·.1))).map (fun g => acts.filter (fun x => g.contains x.1))
  let ds := segs.flatMap (fun seg =>
    let ps := peaksOf on1 seg
    ps.map (fun p => detOf r off p (seg.filter (fun x => nearestPeak ps x.1 == some p))))
  sortBy (fun a b => ranksBefore a.peak b.peak) ds

/-- A rectangle of nodes: drive lines, then sense lanes. -/
abbrev Rect := Nat × Nat × Nat × Nat

/-- A node lies in a rectangle. -/
def inRect (q : Rect) (p : Nat × Nat) : Bool := decide (q.1 ≤ p.1 ∧ p.1 ≤ q.2.1 ∧ q.2.2.1 ≤ p.2 ∧ p.2 ≤ q.2.2.2)

/-- A position lies in a rectangle. -/
def posIn (q : Rect) (x y : Int) : Bool :=
  decide ((256 * q.1 : Nat) ≤ x ∧ x ≤ (256 * q.2.1 : Nat) ∧ (256 * q.2.2.1 : Nat) ≤ y ∧ y ≤ (256 * q.2.2.2 : Nat))

/-- The bounding rectangle of nodes. -/
def boundRect (l : List (Nat × Nat)) : Option Rect :=
  match l with
  | [] => none
  | p :: l => some (l.foldl (fun (q : Rect) (x : Nat × Nat) =>
      (min q.1 x.1, max q.2.1 x.1, min q.2.2.1 x.2, max q.2.2.2 x.2)) (p.1, p.1, p.2, p.2))

/-- A rectangle grown by 2 nodes on each side within a region (R205). -/
def growRect (r : Region) (q : Rect) : Rect :=
  (max r.d0 (q.1 - 2), min r.d1 (q.2.1 + 2), max r.s0 (q.2.2.1 - 2), min r.s1 (q.2.2.2 + 2))

/-- A footprint: the nodes with those at distance 1 in the region (section 6.3). -/
def footprintOf (r : Region) (ns : List (Nat × Nat)) : List (Nat × Nat) :=
  (List.range (r.s1 + 1 - r.s0)).flatMap (fun j => (List.range (r.d1 + 1 - r.d0)).filterMap (fun k =>
    let p := (r.d0 + k, r.s0 + j)
    if ns.any (fun y => decide (cheb p y ≤ 1)) then some p else none))

/-! ### The reference -/

/-- The reference the pipeline compares with: it is valid, and matches the configuration in force (R182, R191). -/
def tchRef (s : State) : Option (List Byte) :=
  let (ok, img) := match s.grid.refOld with
    | some o => o
    | none => (s.grid.refValid, memRead s.gram refAt 39556)
  if ok && u32 img 16 == (fingerprint s).toNat then some img else none

/-- KINDS bit of a kind of frame in a reference image. -/
def refHolds (img : List Byte) (kind : Nat) : Bool := (u8 img 21).testBit kind
/-- The reference of a node; none where it is 0x8000. -/
def refNode (img : List Byte) (d n : Nat) : Option Int := valOf (sx 16 (u16 img (32 + 2 * (n * 120 + d))))
/-- The reference of a line in a self set. -/
def refLine (img : List Byte) (set i : Nat) : Option Int := valOf (sx 16 (u16 img (38432 + 560 * set + 2 * i)))

/-- The mean of whole-count values in 1/65,536 count, rounded down (R184). -/
def meanQ (l : List Int) : Int := sumInt l * 65536 / (l.length : Int)
/-- The mean of values already in 1/65,536 count, rounded down. -/
def meanQQ (l : List Int) : Int := sumInt l / (l.length : Int)

/-! ### Self frames -/

/-- The signals of the lines of a set that a mutual frame may use (R203): the most recent usable self frame's. -/
def usableSelf (s : State) (t0 te set : Nat) : Option (List (Option Int)) :=
  let x := vget s.tch.selfs set {}
  match x.window, x.last, s.time.sched with
  | none, some (a, b, l), some c => if b ≤ te ∧ t0 ≤ a + c.pNs then some l else none
  | _, _, _ => none

/-- The largest self signal among the lines of a span; none where no line of the set lies in it. -/
def spanSelf (l : List (Option Int)) (q : Rect) : Option Int :=
  let xs := (l.zipIdx.filter (fun (p : Option Int × Nat) =>
    decide ((q.1 ≤ p.2 ∧ p.2 ≤ q.2.1 ∧ p.2 < 120) ∨ (120 + q.2.2.1 ≤ p.2 ∧ p.2 ≤ 120 + q.2.2.2)))).filterMap (·.1)
  xs.foldl (fun (a : Option Int) v => match a with | none => some v | some w => some (max v w)) none

end Sys2Proof.Machine
end

