-- ==== Sys2Proof/Machine/Touch.lean ====
section
/-! DEFINITION. The touch pipeline's work on a frame (chapter 6): start-up windows, baselines, detection, water, hover, the
contact keeper, controls, field events, gestures and records. -/
namespace Sys2Proof.Machine

open Sys2Proof

/-! ### What a frame gathers -/

/-- An event before its entry is written: kind, region, item, V1, V2 (Table 6-5). -/
structure TchEv where
  kind : Nat
  region : Nat
  item : Nat
  v1 : Int
  v2 : Int
  deriving DecidableEq, Repr

/-- What the processing of a mutual frame gathers beside the state: event entries in order, contact reports by slot, and
the flags of Table 6-2. -/
structure TchOut where
  evs : List TchEv := []
  late : List TchEv := []
  reps : List (Nat × List Byte) := []
  overflow : Bool := false
  startup : Bool := false
  noSelf : Bool := false
  cancels : Bool := false
  anti : Bool := false
  /-- Signals of the elements of node-set controls, under the baselines before the frame's update (R211). -/
  els : List ((Nat × Nat) × Int) := []
  deriving DecidableEq, Repr

/-- A region's pipeline state changed. -/
def modRegion (i : Nat) (f : RegionSt → RegionSt) (s : State) : State :=
  { s with tch := { s.tch with regions := vmodN s.tch.regions i f } }

/-- A region's pipeline state. -/
def rgn (s : State) (i : Nat) : RegionSt := vget s.tch.regions i {}

/-- An event raised. -/
def TchOut.ev (o : TchOut) (e : TchEv) : TchOut := { o with evs := o.evs ++ [e] }
/-- An event of the keeper or the gestures, after the events of Table 6-6's first stage. -/
def TchOut.lateEv (o : TchOut) (e : TchEv) : TchOut := { o with late := o.late ++ [e] }
/-- A contact reported. -/
def TchOut.rep (o : TchOut) (slot : Nat) (b : List Byte) : TchOut := { o with reps := o.reps ++ [(slot, b)] }

/-! ### Contacts -/

/-- A contact entry (Table 6-3). -/
def contactEntry (s : State) (t0 state : Nat) (c : Contact) : List Byte :=
  let fl := b1 c.presentAtStart + 2 * b1 c.hover + 4 * b1 (c.edge && !c.hover) + 8 * b1 c.driftNone
    + 16 * b1 (gloveOn s.active c.region)
  [BitVec.ofNat 8 (c.id.getD 0), BitVec.ofNat 8 c.region, BitVec.ofNat 8 state, BitVec.ofNat 8 fl]
    ++ leI 2 c.x ++ leI 2 c.y ++ le 2 c.strength ++ leI 2 c.peak ++ [BitVec.ofNat 8 c.area, 0]
    ++ le 2 (min 0xFFFF ((t0 - c.downTime) / 1000000))

/-- ID_NEXT moves past one value: every freed ID other than that value has one value less to wait for (R210). -/
def idPass (s : State) : State :=
  let v := s.tch.idNext
  let freed := s.tch.idFreed.map (fun (p : Nat × Nat) => if p.1 = v then p else (p.1, p.2 - 1))
  { s with tch := { s.tch with idNext := (v + 1) % 64, idFreed := freed.filter (fun p => p.2 != 0) } }

/-- The ID a contact takes at DOWN: the first from ID_NEXT on that is neither held nor waiting (R210). -/
def idIssue : Nat → State → Nat × State
  | 0, s => (s.tch.idNext, idPass s)
  | n + 1, s =>
    let v := s.tch.idNext
    if s.tch.contacts.any (fun c => c.id == some v) || s.tch.idFreed.any (fun p => p.1 == v) then idIssue n (idPass s)
    else (v, idPass s)

/-- A contact leaves the table, its ID freed (R210). -/
def dropContact (c : Contact) (s : State) : State :=
  let freed := match c.id with
    | some v => s.tch.idFreed ++ [(v, 63)]
    | none => s.tch.idFreed
  { s with tch := { s.tch with contacts := s.tch.contacts.filter (fun x => x.slot != c.slot), idFreed := freed } }

/-- A contact put in its slot. -/
def putContact (c : Contact) (s : State) : State :=
  { s with tch := { s.tch with
    contacts := sortBy (fun (a b : Contact) => decide (a.slot ≤ b.slot))
      (s.tch.contacts.filter (fun x => x.slot != c.slot) ++ [c]) } }

/-- The contacts of some regions end with CANCELLED: reported ones wait for their record, tentative ones go. -/
def cancelContacts (mask : Nat) (s : State) : State :=
  { s with tch := { s.tch with
    contacts := (s.tch.contacts.filter (fun c => !mask.testBit c.region || c.id.isSome)).map (fun (c : Contact) =>
      if mask.testBit c.region then { c with cancelled := true, foot := [], ring := [] } else c) } }

/-- The cancelled contacts of a region reported and dropped (R189, R224). -/
def reportCancelled (t0 : Nat) (pick : Contact → Bool) (s : State) (o : TchOut) : State × TchOut :=
  (s.tch.contacts.filter (fun c => c.cancelled && pick c)).foldl (fun (a : State × TchOut) c =>
    (dropContact c a.1, { (a.2.rep c.slot (contactEntry s t0 5 c)) with cancels := true })) (s, o)

/-! ### Start-up windows -/

/-- Start-up windows begin in the enabled regions of a mask, and in every self set (R189, R194). -/
def startWindows (mask : Nat) (ignoreRef : Bool) (s : State) : State :=
  let rs := (regionsOf s.active).filter (fun r => r.en && mask.testBit r.idx)
  if rs.isEmpty then s else
  let fresh := fun (x : RegionSt) => { x with
    window := some (0, 0), ignoreRef := ignoreRef, winVals := [], actives := [], relearn := [], present := []
    wetRect := none, noSelfRaised := false, overflowRaised := false }
  let s := cancelContacts (rs.foldl (fun a r => a + 2 ^ r.idx) 0) s
  let s := rs.foldl (fun (t : State) r =>
    let u := modRegion r.idx fresh t
    { u with gram := setStates r 1 u.gram }) s
  { s with tch := { s.tch with
    selfs := s.tch.selfs.map (fun (x : SelfSt) => { x with window := some 0, winVals := [] }) } }

/-- The fold of a window's frames for one node: its values. -/
def windowOf (vals : List (List (Option Int))) (k : Nat) : List Int := vals.filterMap (fun l => l.getD k none)

/-- The spread of a node over a window. -/
def spreadOf (l : List Int) : Int :=
  match l with
  | [] => 0
  | x :: l => l.foldl max x - l.foldl min x

/-- The nodes of a region at the end of its window, each with its start value m in 1/65,536 count (R190): in TRACK with
B = m, or still waiting for a first value. -/
def learnNodes (xs : List NodeR) (vals : List (List (Option Int))) : List (NodeR × Option Int) :=
  xs.zipIdx.map (fun (p : NodeR × Nat) =>
    let l := windowOf vals p.2
    if l.isEmpty then ({ p.1 with st := 1, anti := false }, none)
    else ({ p.1 with st := 2, b := meanQ l, anti := false }, some (meanQ l)))

/-- The groups present at start with their halo drift: nodes, h, DRIFT_NONE (R191). -/
def presentGroups (on1 : Int) (img : List Byte) (l : List (NodeR × Option Int)) : List (List (Nat × Nat) × Int × Bool) :=
  let withRef := l.filterMap (fun (p : NodeR × Option Int) =>
    match p.2, refNode img p.1.d p.1.n with
    | some m, some r => some ((p.1.d, p.1.n), m, r * 65536)
    | _, _ => none)
  let there := withRef.filter (fun x => decide (on1 * 65536 ≤ x.2.2 - x.2.1))
  let away := withRef.filter (fun x => !decide (on1 * 65536 ≤ x.2.2 - x.2.1))
  (groupsOf (there.map (·.1))).map (fun g =>
    let ring := away.filter (fun x => g.any (fun y => decide (cheb x.1 y ≤ 2)))
    let from1 := if ring.isEmpty then away else ring
    (g, if from1.isEmpty then 0 else meanQQ (from1.map (fun x => x.2.1 - x.2.2)), from1.isEmpty))

/-- The end of a region's window (R190 to R192): its nodes under the new baselines, and the region's state. -/
def windowEnd (r : Region) (xs : List NodeR) (vals : List (List (Option Int))) (s : State) (o : TchOut) :
    List NodeR × State × TchOut :=
  let l := learnNodes xs vals
  let img := if (rgn s r.idx).ignoreRef then none else (tchRef s).filter (fun b => refHolds b 0)
  let done := fun (p : List (List (Nat × Nat) × Bool)) (used : Bool) (t : State) =>
    modRegion r.idx (fun (x : RegionSt) => { x with
      window := none, winVals := [], refUsed := used, present := p, actives := [] }) t
  match img with
  | none => (l.map (·.1), done [] false s, { o with startup := true })
  | some b =>
    if r.field then
      let lim := fieldOn s.active r.idx * 65536
      let ds := l.filterMap (fun (p : NodeR × Option Int) =>
        match p.2, refNode b p.1.d p.1.n with
        | some m, some v => some ((v * 65536 - m).natAbs : Int)
        | _, _ => none)
      let far := ds.filter (fun d => decide (lim ≤ d))
      let o := { o with startup := true }
      let o := if far.isEmpty then o else
        o.ev ⟨8, r.idx, 0xFF, far.length, min 32767 (roundDiv (far.foldl max 0) 65536)⟩
      (l.map (·.1), done [] true s, o)
    else
      let gs := presentGroups (touchOn s.active r.idx) b l
      let xs := l.map (fun (p : NodeR × Option Int) =>
        match gs.find? (fun g => g.1.contains (p.1.d, p.1.n)), refNode b p.1.d p.1.n with
        | some g, some v => { p.1 with st := 4, b := v * 65536 + g.2.1 }
        | _, _ => p.1)
      (xs, done (gs.map (fun g => (g.1, g.2.2))) true s, { o with startup := true })

/-! ### Events on nodes -/

/-- A run of frames and a state with two thresholds of counts (R205): the state, its run, and whether it changed. -/
def wetStep (area frames n : Nat) (on1 : Bool) (run : Nat) : Bool × Nat × Bool :=
  let hit := if on1 then decide (n < area / 2) else decide (area ≠ 0 ∧ area ≤ n)
  let run := if hit then run + 1 else 0
  if hit ∧ max 1 frames ≤ run then (!on1, 0, true) else (on1, run, false)

/-- WET_AREA and WET_FRAMES of a region. -/
def wetCfg (f : RegFile) (i : Nat) : Nat × Nat :=
  (fld (fileGet f (Reg.tchRgnWet i)) 0 16, fld (fileGet f (Reg.tchRgnWet i)) 16 8)

/-- NODE_CHANGE of a region in a frame (R215): the events, and the disarmed nodes. -/
def changeStep (thr : Int) (i : Nat) (sigs : List SigNode) (off : List (Nat × Nat)) : List TchEv × List (Nat × Nat) :=
  if thr = 0 then ([], off) else
  let off := off.filter (fun p =>
    match sigAt sigs p with
    | some v => decide (thr / 2 ≤ (v.natAbs : Int))
    | none => true)
  let new := sigs.filter (fun x => decide (thr ≤ (x.2.natAbs : Int)) && !off.contains x.1)
  let evs := (new.take 32).map (fun x => (⟨6, i, 0xFF, (x.1.1 + 256 * x.1.2 : Nat), x.2⟩ : TchEv))
  let more := if 32 < new.length then [(⟨7, i, 0xFF, (new.length - 32 : Nat), 0⟩ : TchEv)] else []
  (evs ++ more, off ++ new.map (·.1))

/-- The self frame a region's features use; NO_SELF where a feature needs one and none is usable (R203). -/
def needSelf (want : Bool) (i t0 te : Nat) (s : State) (o : TchOut) : Option (List (Option Int)) × State × TchOut :=
  if !want then (none, s, o) else
  match (selfSetOf s.active i).bind (usableSelf s t0 te) with
  | some l => (some l, s, o)
  | none =>
    let s := if (rgn s i).noSelfRaised then s else
      raise 3 Src.tchNoSelfFrame noItem (modRegion i (fun (x : RegionSt) => { x with noSelfRaised := true }) s)
    (none, s, { o with noSelf := true })

/-- A FIELD region's part of a frame (R214, R215, R518). -/
def fieldFrame (r : Region) (t0 te : Nat) (xs : List NodeR) (s : State) (o : TchOut) : List NodeR × State × TchOut :=
  let f := s.active
  let i := r.idx
  let st := rgn s i
  let sigs := xs.filterMap (fun (x : NodeR) => x.sig.map (fun v => (((x.d, x.n), v) : SigNode)))
  let acts := sigs.filter (fun (x : SigNode) => decide (fieldOn f i ≤ x.2) || (decide (fieldOff f i ≤ x.2) && st.actives.contains x.1))
  let n := acts.length
  let on1 := decide (n ≠ 0)
  let o := if on1 && !st.presence then o.ev ⟨1, i, 0xFF, n, (acts.map (fun (x : SigNode) => x.2)).foldl max (-32768)⟩
    else if !on1 && st.presence then o.ev ⟨2, i, 0xFF, 0, 0⟩ else o
  let last := if on1 != st.presence then n else st.lastArea
  let step := thrRaw f (Reg.tchRgnThr4 i) true
  let areaEv := decide (step ≠ 0 ∧ step ≤ max (n - last) (last - n))
  let o := if areaEv then o.ev ⟨3, i, 0xFF, n, last⟩ else o
  let (selfs, s, o) := needSelf (waterOn f i) i t0 te s o
  let (liq, run, o) := match selfs with
    | none => (st.liquid, st.liquidRun, o)
    | some l =>
      let fails := acts.filter (fun (x : SigNode) =>
        match spanSelf l (x.1.1, x.1.1, x.1.2, x.1.2) with
        | some v => decide (v < selfConfirm f i)
        | none => false)
      let (a, k) := wetCfg f i
      let (q, run, ch) := wetStep a k fails.length st.liquid st.liquidRun
      (q, run, if ch then o.ev (if q then ⟨4, i, 0xFF, fails.length, 0⟩ else ⟨5, i, 0xFF, 0, 0⟩) else o)
  let (cev, off) := changeStep (changeThr f i) i sigs st.changed
  let o := { o with evs := o.evs ++ cev }
  let upd := fun (x : RegionSt) => { x with
    presence := on1, lastArea := if areaEv then n else last, actives := acts.map (fun (x : SigNode) => x.1), liquid := liq, liquidRun := run
    changed := off }
  let tr := fld (fileGet f (Reg.tchRgnMode i)) 16 4
  let xs := xs.map (fun (x : NodeR) =>
    match x.v with
    | none => x
    | some v =>
      if x.st ≤ 1 then { x with st := 2, b := v * 65536 }
      else if acts.any (fun (a : SigNode) => a.1 == (x.d, x.n)) then { x with st := 3 }
      else { x with st := 2, b := if tr = 0 then x.b else x.b + (v * 65536 - x.b) / 2 ^ tr })
  (xs, modRegion i upd s, o)

/-! ### The keeper -/

/-- Where a contact is expected (R207). -/
def Contact.predicted (c : Contact) : Int × Int :=
  if c.seenTwice then (2 * c.x - c.prevX, 2 * c.y - c.prevY) else (c.x, c.y)

/-- The qualifying pairs of contacts and detections: squared distance, slot, detection (R207). -/
def pairsOf (gate : Nat) (cs : List Contact) (ds : List Det) : List (Nat × Nat × Nat) :=
  let all := cs.flatMap (fun c => ds.zipIdx.map (fun (p : Det × Nat) =>
    let (x, y) := c.predicted
    (((p.1.x - x) ^ 2 + (p.1.y - y) ^ 2).toNat, c.slot, p.2)))
  sortBy (fun (a b : Nat × Nat × Nat) =>
    decide (a.1 < b.1 ∨ (a.1 = b.1 ∧ (a.2.1 < b.2.1 ∨ (a.2.1 = b.2.1 ∧ a.2.2 ≤ b.2.2)))))
    (all.filter (fun p => decide (p.1 ≤ gate * gate)))

/-- The pairs taken, in ascending distance, each side once: (slot, detection) (R207). -/
def matchPairs (l : List (Nat × Nat × Nat)) : List (Nat × Nat) :=
  l.foldl (fun (a : List (Nat × Nat)) p =>
    if a.any (fun q => q.1 == p.2.1 || q.2 == p.2.2) then a else a ++ [(p.2.1, p.2.2)]) []

/-- A new tentative contact from a detection. -/
def newContact (slot region : Nat) (d : Det) : Contact :=
  { slot := slot, region := region, id := none, hover := d.hover, x := d.x, y := d.y, prevX := d.x, prevY := d.y
    seenTwice := false, strength := d.strength, peak := if d.hover then 0 else d.peak.2
    area := if d.hover then 0 else d.area, edge := d.edge, presentAtStart := false, driftNone := false, matched := 0
    missed := 0, downTime := 0, downX := 0, downY := 0, seen := true, drift := 0, ring := [], foot := [], alone := false
    longDone := false, longSeen := false, cancelled := false }

/-- A contact follows its detection. -/
def followDet (d : Det) (c : Contact) : Contact :=
  { c with
    prevX := c.x, prevY := c.y, x := d.x, y := d.y, seenTwice := c.seen, seen := true, missed := 0
    strength := d.strength, peak := if d.hover then 0 else d.peak.2, area := if d.hover then 0 else d.area
    edge := d.edge, hover := d.hover }

/-- A contact goes DOWN: the ID, the time and place of DOWN, drift 0 (R196, R198, R208, R210). A contact that holds an
ID keeps it (R206). -/
def contactDown (t0 : Nat) (c : Contact) (s : State) : Contact × State :=
  let (v, s) := match c.id with
    | some v => (v, s)
    | none => idIssue 256 s
  let others := s.tch.contacts.any (fun x => x.slot != c.slot && x.region == c.region && x.id.isSome && !x.hover
    && !x.cancelled)
  let s := if c.hover then s else { s with tch := { s.tch with contacts := s.tch.contacts.map (fun (x : Contact) =>
    if x.region = c.region then { x with alone := false } else x) } }
  ({ c with
      id := some v, downTime := t0, downX := c.x, downY := c.y, drift := 0, ring := [], matched := 0
      alone := !c.hover && !others, longDone := false, longSeen := false }, s)

/-- HOLD_LIMIT has passed for a contact (R198). -/
def holdOver (f : RegFile) (t0 : Nat) (c : Contact) : Bool :=
  let l := fld (fileGet f Reg.tchHoldLimit) 0 16
  decide (l ≠ 0 ∧ c.downTime + l * 1000000000 ≤ t0) && c.id.isSome && !c.hover

/-- Squared distance of a contact from its DOWN position. -/
def moved2 (c : Contact) : Nat := ((c.x - c.downX) ^ 2 + (c.y - c.downY) ^ 2).toNat

/-- Gesture settings of a region: ENABLE, WAKE, and the six fields of GESTURE_CONFIG. -/
structure GestCfg where
  enable : Nat
  wake : Nat
  tapMax : Nat
  tapMove : Nat
  dtapGap : Nat
  swipeDist : Nat
  swipeMax : Nat
  long : Nat
  deriving DecidableEq, Repr

/-- The gesture settings in a register file; nothing enabled while TCH_CFG.GEST_EN is 0. -/
def gestOf (f : RegFile) (i : Nat) : GestCfg :=
  let c := fileGet f (Reg.tchGstCfg i)
  let t0 := fileGet f (Reg.tchGstT0 i)
  let t1 := fileGet f (Reg.tchGstT1 i)
  ⟨if bitOf (fileGet f Reg.tchCfg) 1 then fld c 0 4 else 0, fld c 4 4, fld c 8 16, fld t0 0 16, fld t0 16 16, fld t1 0 16,
    fld t1 16 16, fld (fileGet f (Reg.tchGstT2 i)) 0 16⟩

/-- A recognised gesture: its event, and a wake event where its WAKE bit is set (R218). -/
def gesture (g : GestCfg) (bit : Nat) (e : TchEv) (s : State) (o : TchOut) : State × TchOut :=
  if g.enable.testBit bit then (if g.wake.testBit bit then wakeEvent s else s, o.lateEv e) else (s, o)

/-- The gestures of a contact that ends UP (R217). -/
def upGestures (t0 : Nat) (c : Contact) (s : State) (o : TchOut) : State × TchOut :=
  if !c.alone || c.hover || c.longDone then (s, o) else
  let g := gestOf s.active c.region
  let dt := t0 - c.downTime
  let tap := decide (g.tapMax ≠ 0 ∧ dt ≤ g.tapMax * 1000000 ∧ moved2 c ≤ g.tapMove * g.tapMove)
  let dbl := tap && g.enable.testBit 1 && decide (g.dtapGap ≠ 0) &&
    (match (rgn s c.region).lastTap with
      | some (u, x, y) => decide (u ≤ c.downTime ∧ c.downTime ≤ u + g.dtapGap * 1000000
          ∧ ((c.downX - x) ^ 2 + (c.downY - y) ^ 2).toNat ≤ 4 * g.tapMove * g.tapMove)
      | none => false)
  let (s, o) := if dbl then gesture g 1 ⟨0x21, c.region, c.id.getD 0xFF, c.x, c.y⟩ s o
    else if tap then gesture g 0 ⟨0x20, c.region, c.id.getD 0xFF, c.x, c.y⟩ s o else (s, o)
  let s := if tap then modRegion c.region (fun (x : RegionSt) => { x with lastTap := some (t0, c.x, c.y) }) s else s
  let dx := c.x - c.downX
  let dy := c.y - c.downY
  let alongX := decide (dy.natAbs ≤ dx.natAbs)
  let far := if alongX then dx.natAbs else dy.natAbs
  let kind := if alongX then (if 0 ≤ dx then 0x22 else 0x23) else (if 0 ≤ dy then 0x24 else 0x25)
  if decide (g.swipeMax ≠ 0 ∧ dt ≤ g.swipeMax * 1000000 ∧ g.swipeDist ≤ far) then
    gesture g 2 ⟨kind, c.region, c.id.getD 0xFF, (far : Nat), (min 0xFFFF (dt / 1000000) : Nat)⟩ s o
  else (s, o)

/-- LONG_PRESS of a contact seen in this frame (R217). -/
def longPress (t0 : Nat) (c : Contact) (s : State) (o : TchOut) : Contact × State × TchOut :=
  let g := gestOf s.active c.region
  if c.longSeen || !c.alone || c.hover || g.long = 0 || decide (t0 < c.downTime + g.long * 1000000) then (c, s, o) else
  let c := { c with longSeen := true }
  if g.enable.testBit 3 && decide (moved2 c ≤ g.tapMove * g.tapMove) then
    let (s, o) := gesture g 3 ⟨0x26, c.region, c.id.getD 0xFF, c.x, c.y⟩ s o
    ({ c with longDone := true }, s, o)
  else (c, s, o)

/-- A contact ends STUCK: report, event, count, fault and journal entry (R198). -/
def contactStuck (t0 : Nat) (c : Contact) (s : State) (o : TchOut) : State × TchOut :=
  let hold := min 0xFFFF ((t0 - c.downTime) / 1000000000)
  let o := (o.rep c.slot (contactEntry s t0 3 c)).lateEv ⟨0x13, c.region, c.id.getD 0xFF, hold, 0⟩
  let s := dropContact c s
  let s := { s with tch := { s.tch with cntStuck := sat16 s.tch.cntStuck 1 } }
  let s := journalRaise 0xFF 0xFF 0 0x08 ([BitVec.ofNat 8 c.region, BitVec.ofNat 8 (c.id.getD 0)] ++ le 2 hold) s
  (raise 3 Src.tchHoldExpired noItem s, o)

/-- The nodes a keeper pass sends to RELEARN. -/
abbrev Relearn := List (Nat × Nat)

/-- One contact of a region through a frame: its match or its miss (R196 to R209, R205). -/
def keepContact (t0 : Nat) (wet : Option Rect) (ds : List Det) (pairs : List (Nat × Nat)) (c : Contact)
    (a : State × TchOut × Relearn) : State × TchOut × Relearn :=
  let (s, o, rl) := a
  let pol := acw s Reg.tchPolicy
  let d := (look c.slot pairs).bind (fun k => ds[k]?)
  let was := c.hover
  let c1 := match d with
    | some d => followDet d c
    | none => { c with missed := c.missed + 1, seen := false, seenTwice := false }
  let gone := (match wet with
    | some q => posIn q c1.x c1.y
    | none => false)
  if c.id.isNone then
    (match d with
      | none => (dropContact c s, o, rl)
      | some _ =>
        if gone then (dropContact c s, o, rl) else
        let c1 := { c1 with matched := c.matched + 1 }
        if fld pol 16 4 ≤ c1.matched then
          let (c2, s) := contactDown t0 c1 s
          (putContact c2 s, o.rep c.slot (contactEntry s t0 0 c2), rl)
        else (putContact c1 s, o, rl))
  else if gone then (dropContact c1 s, o.rep c.slot (contactEntry s t0 4 c1), rl)
  else if holdOver s.active t0 c1 then
    let (s, o) := contactStuck t0 c1 s o
    (s, o, rl ++ c.foot.map (fun x => (x.d, x.n)))
  else
    match d with
    | none =>
      if fld pol 20 4 < c1.missed then
        let (s, o) := upGestures t0 c1 (dropContact c1 s) (o.rep c.slot (contactEntry s t0 2 c1))
        (s, o, rl)
      else (putContact c1 s, o, rl)
    | some d =>
      if was && !d.hover then
        let (c2, s) := contactDown t0 c1 s
        (putContact c2 s, o.rep c.slot (contactEntry s t0 0 c2), rl)
      else
        let (c2, s, o) := longPress t0 c1 s o
        (putContact c2 s, o.rep c.slot (contactEntry s t0 1 c2), rl)

/-- An unmatched detection enters the table (R193, R207, R208). -/
def enterDet (t0 : Nat) (i : Nat) (present : List (List (Nat × Nat) × Bool)) (d : Det) (a : State × TchOut) :
    State × TchOut :=
  let (s, o) := a
  let pol := acw s Reg.tchPolicy
  let max1 := fld pol 24 6
  if max1 = 0 then a else
  let free := (List.range 40).find? (fun k => s.tch.contacts.all (fun c => c.slot != k))
  match (if s.tch.contacts.length < max1 then free else none) with
  | none =>
    let s := { s with tch := { s.tch with cntOverflow := sat16 s.tch.cntOverflow 1 } }
    let s := if (rgn s i).overflowRaised then s else
      raise 3 Src.tchContactOverflow noItem (modRegion i (fun (x : RegionSt) => { x with overflowRaised := true }) s)
    (s, { o with overflow := true })
  | some slot =>
    let c := newContact slot i d
    match present.find? (fun g => d.nodes.any (fun x => g.1.contains x)) with
    | some g =>
      let (c, s) := contactDown t0 { c with presentAtStart := true, driftNone := g.2 } s
      (putContact c s, o.rep slot (contactEntry s t0 0 c))
    | none =>
      if fld pol 16 4 = 0 then
        let (c, s) := contactDown t0 c s
        (putContact c s, o.rep slot (contactEntry s t0 0 c))
      else (putContact c s, o)

/-- A region's contacts through a frame (R207 to R209). -/
def keeper (t0 : Nat) (i : Nat) (wet : Option Rect) (ds : List Det) (s : State) (o : TchOut) : State × TchOut × Relearn :=
  let cs := s.tch.contacts.filter (fun c => c.region == i && !c.cancelled)
  let pairs := matchPairs (pairsOf (fld (acw s Reg.tchPolicy) 0 16) cs ds)
  let (s, o, rl) := cs.foldl (fun a c => keepContact t0 wet ds pairs ((a.1.tch.contacts.find? (fun x => x.slot == c.slot)).getD c) a)
    ((s, o, []) : State × TchOut × Relearn)
  let new := (ds.zipIdx.filter (fun (p : Det × Nat) => pairs.all (fun q => q.2 != p.2))).map (·.1)
  let (s, o) := new.foldl (fun a d => enterDet t0 i (rgn a.1 i).present d a) (s, o)
  (s, o, rl)

/-! ### Surface regions -/

/-- The element nodes of every enabled node-set control (R200, R211). -/
def controlNodes (f : RegFile) : List (Nat × Nat) :=
  (List.range 16).flatMap (fun c =>
    let w := fileGet f (Reg.tchCtlCfg c)
    if bitOf w 0 && bitOf w 2 then
      (List.range (fld w 8 6)).map (fun e => (fld (fileGet f (Reg.tchCtlEl c (e / 2))) (16 * (e % 2)) 8,
        fld (fileGet f (Reg.tchCtlEl c (e / 2))) (16 * (e % 2) + 8) 8))
    else [])

/-- The hover detection of a region (R206): the drive line and the sense lane of the set with the largest self signals. -/
def hoverDet (f : RegFile) (r : Region) (held : Bool) (l : List (Option Int)) : Option Det :=
  let set := (selfSetOf f r.idx).getD 0
  let m := selfLines f set
  let lines := (List.range 280).filter (fun i => m.testBit i)
  let best := fun (lo hi : Nat) =>
    (lines.filter (fun i => decide (lo ≤ i ∧ i ≤ hi))).foldl (fun (a : Option (Nat × Int)) i =>
      match l.getD i none, a with
      | some v, some (j, w) => if w < v then some (i, v) else some (j, w)
      | some v, none => some (i, v)
      | none, a => a) none
  let centre := fun (kind : Nat) (i : Nat) =>
    let same := lines.filter (fun j => decide ((j < 120) = (kind = 0)))
    let below := (same.filter (fun j => decide (j < i))).getLast?
    let above := (same.filter (fun j => decide (i < j))).head?
    let near := (match below with | some j => [j] | none => []) ++ [i] ++ (match above with | some j => [j] | none => [])
    let ws := near.map (fun j => (j, max 0 ((l.getD j none).getD 0)))
    roundDiv (256 * sumInt (ws.map (fun p => p.2 * ((p.1 - 120 * kind : Nat) : Int)))) (sumInt (ws.map (·.2))).toNat
  let lim : Int := (thrRaw f (Reg.tchRgnThr2 r.idx) held : Nat)
  match best r.d0 r.d1, best (120 + r.s0) (120 + r.s1) with
  | some (i, a), some (j, b) =>
    if lim ≤ a ∧ lim ≤ b then
      some ⟨((i, j - 120), a), [], true, centre 0 i, centre 1 j, min 0xFFFF (a + b).toNat, 0, false⟩
    else none
  | _, _ => none

/-- The drift and the footprint of a region's touch contacts after the keeper (R195, R196); a tentative entry is a contact of
the table (R207, R208), with drift 0 (DEDUCED, log 51). -/
def footStep (r : Region) (t0 : Nat) (xs : List NodeR) (ds : List Det) (s : State) : State :=
  let base := fun (p : Nat × Nat) => (xs.find? (fun x => decide ((x.d, x.n) = p))).map (fun x => x.b)
  let track := fun (p : Nat × Nat) => xs.any (fun x => decide ((x.d, x.n) = p) && x.st == 2)
  let frozen := fun (p : Nat × Nat) => xs.any (fun x => decide ((x.d, x.n) = p) && x.st == 4)
  let step := fun (c : Contact) =>
    if c.region != r.idx || c.hover || c.cancelled then
      (if c.region = r.idx ∧ c.hover then { c with foot := [], ring := [] } else c) else
    let fresh := decide (c.downTime = t0)
    let ring := if fresh then [] else c.ring.filter (fun (p : Nat × Nat × Int) => track (p.1, p.2.1))
    let drift := if fresh then 0 else if ring.length < 4 then c.drift else
      meanQQ (ring.map (fun p => (base (p.1, p.2.1)).getD 0 - p.2.2))
    let mine := if c.seen then
        (ds.find? (fun d => decide (d.x = c.x ∧ d.y = c.y ∧ d.hover = false))).map (fun d => footprintOf r d.nodes)
      else none
    let foot := match mine with
      | none => c.foot.map (fun x => if frozen (x.d, x.n) then x else ⟨x.d, x.n, (base (x.d, x.n)).getD 0, drift⟩)
      | some ps => ps.map (fun p =>
          match c.foot.find? (fun x => decide ((x.d, x.n) = p) && frozen p) with
          | some x => x
          | none => (⟨p.1, p.2, (base p).getD 0, drift⟩ : FootNode))
    let ring := if fresh then
        xs.filterMap (fun (x : NodeR) =>
          if x.st == 2 && foot.any (fun (y : FootNode) => decide (cheb (x.d, x.n) (y.d, y.n) ≤ 2))
              && !foot.any (fun (y : FootNode) => decide ((y.d, y.n) = (x.d, x.n))) then some (x.d, x.n, x.b) else none)
      else ring
    { c with drift := drift, foot := foot, ring := ring }
  { s with tch := { s.tch with contacts := s.tch.contacts.map step } }

/-- One node's baseline and state after a frame (Table 6-1), its RELEARN sum, and whether it entered RELEARN (R197). -/
def surfaceNode (tr : Nat) (off anti : Int) (wet : Option Rect) (cs : List Contact) (rl : Relearn)
    (sums : List (Nat × Nat × Nat × Int)) (x : NodeR) : NodeR × Option (Nat × Nat × Nat × Int) × Bool :=
  let old := sums.find? (fun (q : Nat × Nat × Nat × Int) => decide (q.1 = x.d ∧ q.2.1 = x.n))
  if rl.contains (x.d, x.n) then ({ x with st := 5, anti := false }, some (x.d, x.n, 0, 0), false) else
  match x.v with
  | none => (x, old, false)
  | some v =>
    if x.st ≤ 1 then ({ x with st := 2, b := v * 65536, anti := false }, none, false)
    else if x.st = 5 then
      match old with
      | some (_, _, 1, t) => ({ x with st := 2, b := (t + v) * 65536 / 2, anti := false }, none, false)
      | _ => (x, some (x.d, x.n, 1, v), false)
    else
      match cs.findSome? (fun c => (c.foot.find? (fun y => decide (y.d = x.d ∧ y.n = x.n))).map (fun y => (c.drift, y))) with
      | some (h, y) => ({ x with st := 4, b := y.bf + (h - y.hj), anti := false }, none, false)
      | none =>
        let sg := x.sig.getD 0
        let low := decide (sg ≤ -anti)
        if low && x.anti then ({ x with st := 5, anti := false }, some (x.d, x.n, 0, 0), true)
        else if decide (off ≤ sg) || (match wet with | some q => inRect q (x.d, x.n) | none => false) then
          ({ x with st := 3, anti := low }, none, false)
        else ({ x with st := 2, anti := low, b := if tr = 0 then x.b else x.b + (v * 65536 - x.b) / 2 ^ tr }, none, false)

/-- A SURFACE region's part of a frame (sections 6.3 to 6.5). -/
def surfaceFrame (r : Region) (t0 te : Nat) (xs : List NodeR) (s : State) (o : TchOut) : List NodeR × State × TchOut :=
  let f := s.active
  let i := r.idx
  let st := rgn s i
  let on1 := touchOn f i
  let off := touchOff f i
  let els := controlNodes f
  let acts := (xs.filterMap (fun (x : NodeR) =>
    if x.st = 5 ∨ els.contains (x.d, x.n) then none else x.sig.map (fun v => (((x.d, x.n), v) : SigNode)))).filter
    (fun (x : SigNode) => decide (on1 ≤ x.2) || (decide (off ≤ x.2) && st.actives.contains x.1))
  let dets := detectionsOf r on1 off acts
  let (selfs, s, o) := needSelf (waterOn f i || haloOn f i) i t0 te s o
  let isWet := fun (d : Det) => waterOn f i && (match selfs, boundRect d.nodes with
    | some l, some q => (match spanSelf l q with | some v => decide (v < selfConfirm f i) | none => false)
    | _, _ => false)
  let wets := dets.filter isWet
  let fingers := dets.filter (fun (d : Det) => !isWet d)
  let wetNodes := wets.flatMap (fun (d : Det) => d.nodes)
  let (a, k) := wetCfg f i
  let skip := waterOn f i && selfs.isNone
  let (wet, run, ch) := if skip then (st.wet, st.wetRun, false) else wetStep a k wetNodes.length st.wet st.wetRun
  let o := if ch then o.ev (if wet then ⟨0x10, i, 0xFF, wetNodes.length, 0⟩ else ⟨0x11, i, 0xFF, 0, 0⟩) else o
  let rect := if !wet then none else if skip then st.wetRect else (boundRect wetNodes).map (growRect r)
  let upd := fun (x : RegionSt) => { x with wet := wet, wetRun := run, wetRect := rect, actives := acts.map (fun (x : SigNode) => x.1) }
  let s := modRegion i upd s
  let held := s.tch.contacts.any (fun (c : Contact) => c.region == i && c.hover && !c.cancelled)
  let hov := if haloOn f i && fingers.isEmpty then (match selfs with | some l => hoverDet f r held l | none => none) else none
  let ds := (fingers ++ (match hov with | some d => [d] | none => [])).filter (fun (d : Det) =>
    match rect with
    | some q => !(if d.hover then posIn q d.x d.y else inRect q d.peak.1)
    | none => true)
  let (s, o, rl) := keeper t0 i rect ds s o
  let s := footStep r t0 xs ds s
  let cs := s.tch.contacts.filter (fun (c : Contact) => c.region == i)
  let res := xs.map (surfaceNode (fld (fileGet f (Reg.tchRgnMode i)) 16 4) off (antiThr f i) rect cs rl (rgn s i).relearn)
  let new := (xs.zip res).filter (fun (p : NodeR × NodeR × Option (Nat × Nat × Nat × Int) × Bool) => p.2.2.2)
  let worst := (new.map (fun (p : NodeR × NodeR × Option (Nat × Nat × Nat × Int) × Bool) => p.1.sig.getD 0)).foldl min 0
  let o := if new.isEmpty then o else { (o.ev ⟨0x12, i, 0xFF, new.length, max (-32767) worst⟩) with anti := true }
  let s := modRegion i (fun (x : RegionSt) => { x with relearn := res.filterMap (fun (p : NodeR × Option (Nat × Nat × Nat × Int) × Bool) => p.2.1), present := [] }) s
  (res.map (fun (p : NodeR × Option (Nat × Nat × Nat × Int) × Bool) => p.1), s, o)

/-! ### One region in a frame -/

/-- A region's part of a mutual frame (R185, R189, R190, R193). -/
def regionFrame (h : HeldFrame) (i : Nat) (a : State × TchOut) : State × TchOut :=
  let (s, o) := a
  let r := regionOf s.active i
  if !r.en then a else
  let gap := match (rgn s i).lastTime with
    | some t => decide (t + 1000000000 < h.t0)
    | none => false
  let s := if gap then startWindows (2 ^ i) false s else s
  let xs := regionNodes s.gram h.buffer r
  let none1 := (xs.filter (fun x => x.v.isNone)).length
  if xs.length < 2 * none1 then
    (raise 3 Src.tchRegionSkipped noItem { s with tch := { s.tch with cntSkipped := sat16 s.tch.cntSkipped 1 } }, o)
  else
    let s := modRegion i (fun (x : RegionSt) => { x with lastTime := some h.t0 }) s
    let te := h.t0 + h.dur
    let run := fun (xs : List NodeR) (s : State) (o : TchOut) =>
      let mine := controlNodes s.active
      let o := { o with els := o.els ++ xs.filterMap (fun x =>
        if mine.contains (x.d, x.n) then x.sig.map (fun v => ((x.d, x.n), v)) else none) }
      let (xs, s, o) := if r.field then fieldFrame r h.t0 te xs s o else surfaceFrame r h.t0 te xs s o
      (({ s with gram := writeNodes r xs s.gram }, o) : State × TchOut)
    match (rgn s i).window with
    | none => run xs s o
    | some (k, w) =>
      let (s, o) := reportCancelled h.t0 (fun c => c.region == i) s o
      let vals := ((xs.map (fun x => x.v)) :: (rgn s i).winVals).take 8
      if k < 7 then
        (modRegion i (fun (x : RegionSt) => { x with window := some (k + 1, w), winVals := vals }) s, o)
      else
        let wide := (List.range xs.length).any (fun k => decide (touchOn s.active i ≤ spreadOf (windowOf vals k)))
        if wide ∧ w < 3 then
          (modRegion i (fun (x : RegionSt) => { x with window := some (0, w + 1), winVals := [] }) s, o)
        else
          let (xs, s, o) := windowEnd r xs vals s o
          run xs s o

/-! ### Controls -/

/-- The elements' signals of a control. -/
def controlSignals (sig : Nat → Nat → Option Int) (f : RegFile) (c : Nat) : List (Option Int) :=
  let w := fileGet f (Reg.tchCtlCfg c)
  (List.range (fld w 8 6)).map (fun e =>
    let el := fld (fileGet f (Reg.tchCtlEl c (e / 2))) (16 * (e % 2)) 16
    if bitOf w 2 then sig (el % 256) (el / 256) else sig el 0)

/-- POSITION and STRENGTH of a touched control (R212). -/
def controlPosition (wheel : Bool) (off : Int) (l : List (Option Int)) : Nat × Nat :=
  let ws := l.map (fun v => match v with | some x => if off ≤ x then x else 0 | none => 0)
  let sw := sumInt ws
  let n := l.length
  if wheel then
    let at1 := fun (k : Nat) => (l.getD (k % n) none).getD 0
    let p := (List.range n).foldl (fun (b : Nat) k => if at1 b < at1 k then k else b) 0
    let a := max 0 (at1 (p + n - 1))
    let b := max 0 (at1 (p + 1))
    let den := a + at1 p + b
    ((roundDiv (4096 * ((p : Int) * den + (b - a))) (den * n).toNat % 4096).toNat, min 0xFFFF sw.toNat)
  else
    ((roundDiv (4095 * sumInt (ws.zipIdx.map (fun (q : Int × Nat) => q.1 * q.2))) (sw * ((n : Int) - 1)).toNat).toNat,
      min 0xFFFF sw.toNat)

/-- One control evaluated: its state, and its report (R211 to R213, R220). -/
def controlStep (f : RegFile) (c : Nat) (l : List (Option Int)) (x : ControlSt) : ControlSt × Option (List Byte) :=
  let w := fileGet f (Reg.tchCtlCfg c)
  let t := fileGet f (Reg.tchCtlThr c)
  let on1 : Int := (fld t 0 16 : Nat)
  let off : Int := (fld t 16 16 : Nat)
  let delta := fld (fileGet f (Reg.tchCtlDelta c)) 0 12
  let vs := l.filterMap id
  match vs with
  | [] => (x, none)
  | v :: vs =>
    let top := vs.foldl max v
    let touched := decide (on1 ≤ top) || (x.touched && decide (off ≤ top))
    let entry := fun (state pos str : Nat) => [BitVec.ofNat 8 c, BitVec.ofNat 8 state] ++ le 2 pos ++ le 2 str ++ [0, 0]
    if touched then
      let (pos, str) := controlPosition (bitOf w 1) off l
      let far := max (pos - x.lastReported) (x.lastReported - pos)
      if !x.touched then
        ({ x with touched := true, position := pos, strength := str, lastReported := pos }, some (entry 0 pos str))
      else if delta ≤ far then
        ({ x with position := pos, strength := str, lastReported := pos }, some (entry 1 pos str))
      else ({ x with position := pos, strength := str }, none)
    else if x.touched then
      ({ x with touched := false, strength := 0 }, some (entry 2 x.position 0))
    else (x, none)

/-- The controls evaluated on a frame: `pick` says which, `sig` gives an element's signal. -/
def controlsFrame (pick : Nat → Bool) (sig : Nat → Nat → Option Int) (s : State) : State × List (List Byte) :=
  if !bitOf (acw s Reg.tchCfg) 2 then (s, []) else
  ((List.range 16).filter (fun c => bitOf (acw s (Reg.tchCtlCfg c)) 0 && pick c)).foldl
    (fun (a : State × List (List Byte)) c =>
      let (x, e) := controlStep a.1.active c (controlSignals sig a.1.active c) (vget a.1.tch.controls c {})
      ({ a.1 with tch := { a.1.tch with controls := vmodN a.1.tch.controls c (fun _ => x) } },
        a.2 ++ (match e with | some b => [b] | none => []))) (s, [])

/-! ### Records -/

/-- The alarm bit of an event kind (R216). -/
def alarmBit (kind : Nat) : Option Nat :=
  if kind = 1 ∨ kind = 2 then some 0 else if kind = 3 then some 1 else if kind = 4 ∨ kind = 5 then some 2
  else if kind = 6 ∨ kind = 7 ∨ kind = 8 then some 3 else if kind = 0x10 ∨ kind = 0x11 then some 4 else none

/-- An event is sent at class 0 (R216). -/
def classZero (f : RegFile) (e : TchEv) : Bool :=
  match alarmBit e.kind with
  | some k => bitOf (fileGet f (Reg.tchRgnMode e.region)) (24 + k)
  | none => false

/-- An event entry (Table 6-4). -/
def tchEntry (s : State) (t0 : Nat) (e : TchEv) : List Byte :=
  le 8 t0 ++ [BitVec.ofNat 8 e.kind, BitVec.ofNat 8 e.region, BitVec.ofNat 8 e.item,
    BitVec.ofNat 8 (b1 (parity s) + 2 * b1 (classZero s.active e))] ++ leI 2 (min 0xFFFF e.v1) ++ leI 2 (min 0xFFFF e.v2)

/-- A CONTACTS payload (Tables 6-2 and 6-3). -/
def contactsPayload (s : State) (t0 : Nat) (seq : Word) (slot flags : Nat) (reps : List (Nat × List Byte)) : List Byte :=
  let l := sortBy (fun (a b : Nat × List Byte) => decide (a.1 ≤ b.1)) reps
  le 8 t0 ++ le 4 seq.toNat ++ [BitVec.ofNat 8 l.length,
    BitVec.ofNat 8 (b1 (parity s) + 4 * b1 s.tch.restart + flags), BitVec.ofNat 8 slot, 0] ++ l.flatMap (·.2)

/-- A CONTROL_POS payload (R220). -/
def controlPayload (s : State) (t0 : Nat) (seq : Word) (es : List (List Byte)) : List Byte :=
  le 8 t0 ++ le 4 seq.toNat ++ [BitVec.ofNat 8 es.length, BitVec.ofNat 8 (b1 (parity s)), 0, 0] ++ es.flatMap id

/-- The contact table as device space shows it (Table 6-10; log entry 40). -/
def showContacts (t0 : Nat) (s : State) : State :=
  { s with gram := (List.range 40).foldl (fun (m : Memory) k =>
      let b := match s.tch.contacts.find? (fun c => c.slot == k && c.id.isSome) with
        | some c => contactEntry s t0 (if c.downTime = t0 then 0 else 1) c
        | none => List.replicate 16 0
      memWrite (contactAt k) (padTo 64 0 b) m) s.gram }

/-- WET is on in some region. -/
def wetAny (s : State) : Bool := (List.finRange 8).any (fun i => s.tch.regions[i].wet)

/-- The records of a mutual frame, in the order of R222, and what READ_CONTACTS and TCH_STAT show. -/
def finishMutual (h : HeldFrame) (ctl : List (List Byte)) (s : State) (o : TchOut) : State :=
  let fl := 2 * b1 o.overflow + 8 * b1 o.startup + 16 * b1 o.noSelf + 32 * b1 (wetAny s)
  let payload := contactsPayload s h.t0 h.seq h.slot fl o.reps
  let evs := o.evs ++ o.late
  let s := (evs.filter (classZero s.active)).foldl (fun t e => pushAlarm 3 (tchEntry t h.t0 e) h.epoch t) s
  let write := !o.reps.isEmpty || o.startup || o.cancels
  let s := if write then emit 1 2 h.epoch (fun _ => some payload) s else s
  let s := if ctl.isEmpty then s else emit 2 5 h.epoch (fun _ => some (controlPayload s h.t0 h.seq ctl)) s
  let s := emitEvents 3 h.epoch (evs.map (tchEntry s h.t0)) s
  let per := fun (i : Nat) => (s.tch.contacts.filter (fun c => c.region == i && c.id.isSome && c.seen)).length
  showContacts h.t0 { s with tch := { s.tch with
    restart := if write then false else s.tch.restart
    lastPayload := some (h.epoch, payload), running := true, noSelf := o.noSelf, reported := o.reps.length
    frameSeq := h.seq, lastSlot := h.slot
    cntAnti := if o.anti then sat16 s.tch.cntAnti 1 else s.tch.cntAnti
    regions := Vector.ofFn (fun (i : Fin 8) => { (s.tch.regions[i] : RegionSt) with contacts := per i.val }) } }

/-! ### The rows -/

/-- The pipeline takes frames: enabled, and not waiting for a reset shadow (R225). -/
def tchRuns (s : State) : Bool := bitOf (acw s Reg.tchCfg) 0 && !s.tch.restartWait && s.sys.power == .active && !s.sys.inReset

/-- The oldest frame waiting, when it is of a kind the row takes and its buffer still holds it. -/
def takeTodo (mutual1 : Bool) (s : State) : Option (HeldFrame × Bool × State) :=
  match s.tch.todo with
  | [] => none
  | h :: rest =>
    if (h.kind == 0) != mutual1 then none else
    some (h, s.grid.ring.any (fun x => x.seq == h.seq), { s with tch := { s.tch with todo := rest } })

/-- The reservation of an ended epoch is released once no frame of it is still to be processed (R380). -/
def settleEpochs (s : State) : State :=
  { s with res := { s.res with streams := s.res.streams.map (fun st =>
      if s.tch.todo.any (fun h => some h.epoch == st.prevEpoch) then st else { st with prevReserved := 0 }) } }

/-- Contacts ended by a lower MAX_CONTACTS are reported in this frame (section 6.11). -/
def reportLowered (h : HeldFrame) (a : State × TchOut) : State × TchOut :=
  reportCancelled h.t0 (fun c => (rgn a.1 c.region).window.isNone) a.1 a.2

/-- A mutual frame through the pipeline (R184 to R222). -/
def mutualFrame (h : HeldFrame) (s : State) : State :=
  let (s, o) := reportLowered h (s, {})
  let (s, o) := (List.range 8).foldl (fun a i => regionFrame h i a) (s, o)
  let (s, ctl) := controlsFrame (fun c => bitOf (acw s (Reg.tchCtlCfg c)) 2) (fun d n => look (d, n) o.els) s
  finishMutual h ctl s o

/-- TOUCH_MUTUAL_FRAME (R195): the oldest completed mutual frame is processed; `late` says a bound of Table 6-6 was
missed. -/
def execTouchMutualFrame (late : Bool) (s : State) : Host.Outcome State Fault Refusal :=
  match takeTodo true s with
  | none => .next s
  | some (h, held, s) =>
    if !tchRuns s then .next (settleEpochs s) else
    let s := if held then mutualFrame h s else s
    .next (settleEpochs (if late || !held then raise 3 Src.tchPipeLate noItem s else s))

/-- Lines that cross a contact's footprint or a wet area (R199). -/
def crossed (s : State) (i : Nat) : Bool :=
  s.tch.contacts.any (fun c => c.foot.any (fun x => if i < 120 then x.d == i else x.n + 120 == i))
  || (List.finRange 8).any (fun k => match s.tch.regions[k].wetRect with
    | some q => if i < 120 then decide (q.1 ≤ i ∧ i ≤ q.2.1) else decide (q.2.2.1 + 120 ≤ i ∧ i ≤ q.2.2.2 + 120)
    | none => false)

/-- A line crosses a group present at start (R194). -/
def crossesPresent (s : State) (i : Nat) : Bool :=
  s.tch.contacts.any (fun c => c.presentAtStart && c.foot.any (fun x => if i < 120 then x.d == i else x.n + 120 == i))

/-- The start values of a self set's lines (R194): none where a line had no value in the window. -/
def selfStart (s : State) (set : Nat) (lines : List Nat) (vals : List (List (Option Int))) : List (Nat × Option Int) :=
  let ms := lines.map (fun i => (i, windowOf vals i))
  let base := ms.map (fun p => (p.1, if p.2.isEmpty then none else some (meanQ p.2)))
  match (tchRef s).filter (fun b => refHolds b (1 + set)) with
  | none => base
  | some img =>
    let free := fun (kind : Bool) => base.filterMap (fun (p : Nat × Option Int) =>
      match p.2, refLine img set p.1 with
      | some m, some r => if decide (p.1 < 120) = kind ∧ !crossesPresent s p.1 then some (m - r * 65536) else none
      | _, _ => none)
    base.map (fun (p : Nat × Option Int) =>
      match p.2, refLine img set p.1 with
      | some m, some r =>
        if crossesPresent s p.1 then
          let l := free (decide (p.1 < 120))
          (p.1, some (r * 65536 + (if l.isEmpty then 0 else meanQQ l)))
        else (p.1, some m)
      | q, _ => (p.1, q))

/-- A line's self baseline. -/
def selfBase (s : State) (i : Nat) : Int := sx 32 (u32 (memRead s.gram (selfBaseAt i) 4) 0)

/-- A line's self baseline written. -/
def setSelfBase (i : Nat) (b : Int) (s : State) : State :=
  { s with
    gram := memWrite (selfBaseAt i) (leI 4 b) s.gram
    tch := { s.tch with selfBased := s.tch.selfBased ||| (1#280 <<< i) } }

/-- One line of a usable self frame: its signal, and its baseline after the frame (R184, R199). -/
def selfLine (i : Nat) (v : Option Int) (a : State × List (Option Int)) : State × List (Option Int) :=
  let (s, l) := a
  match v with
  | none => (s, l ++ [none])
  | some v =>
    if !s.tch.selfBased.getLsbD i then (setSelfBase i (v * 65536) s, l ++ [none]) else
    let b := selfBase s i
    let sg := roundDiv (v * 65536 - b) 65536
    let cfg := acw s Reg.tchCfg
    let tr := fld cfg 4 4
    let pause := crossed s i || decide ((fld cfg 16 16 : Nat) ≤ sg)
    (if pause || tr = 0 then s else setSelfBase i (b + (v * 65536 - b) / 2 ^ tr) s, l ++ [some sg])

/-- A self frame through the pipeline (R194, R199, R211). -/
def selfFrame (h : HeldFrame) (s : State) : State :=
  let set := h.kind - 1
  let m := selfLines s.active set
  let lines := (List.range 280).filter (fun i => m.testBit i)
  let raw := gramVals s.gram (ringAt h.buffer + 0xA040) 280
  let vals := (List.range 280).map (fun i => if m.testBit i then valOf (raw.getD i noVal) else none)
  let x := vget s.tch.selfs set {}
  let (s, usable) := match x.window with
    | none => (s, true)
    | some k =>
      let ws := (vals :: x.winVals).take 8
      if k < 7 then
        ({ s with tch := { s.tch with selfs := vmodN s.tch.selfs set (fun (y : SelfSt) =>
            { y with window := some (k + 1), winVals := ws }) } }, false)
      else
        let s := (selfStart s set lines ws).foldl (fun (t : State) p =>
          match p.2 with
          | some b => setSelfBase p.1 b t
          | none => { t with tch := { t.tch with selfBased := t.tch.selfBased &&& ~~~(1#280 <<< p.1) } }) s
        ({ s with tch := { s.tch with selfs := vmodN s.tch.selfs set (fun (y : SelfSt) =>
            { y with window := none, winVals := [] }) } }, true)
  if !usable then s else
  let (s, sigs) := (vals.zipIdx).foldl (fun a (p : Option Int × Nat) => selfLine p.2 p.1 a) (s, [])
  let s := { s with tch := { s.tch with selfs := vmodN s.tch.selfs set (fun (y : SelfSt) =>
    { y with last := some (h.t0, h.t0 + h.dur, sigs) }) } }
  let (s, ctl) := controlsFrame (fun c =>
    let w := acw s (Reg.tchCtlCfg c)
    !bitOf w 2 && bitOf w 3 == decide (set = 1)) (fun i _ => sigs.getD i none) s
  if ctl.isEmpty then s else emit 2 5 h.epoch (fun _ => some (controlPayload s h.t0 h.seq ctl)) s

/-- Every completed frame processed in order, as the pipeline finishes them before a stop record (R224). -/
def tchDrain (s : State) : State :=
  let l := s.tch.todo
  let s := { s with tch := { s.tch with todo := [] } }
  if !tchRuns s then s else
  l.foldl (fun (t : State) h =>
    if t.grid.ring.any (fun x => x.seq == h.seq) then (if h.kind = 0 then mutualFrame h t else selfFrame h t) else t) s

/-- TOUCH_SELF_FRAME (R199): the oldest completed self frame is processed. -/
def execTouchSelfFrame (late : Bool) (s : State) : Host.Outcome State Fault Refusal :=
  match takeTodo false s with
  | none => .next s
  | some (h, held, s) =>
    if !tchRuns s then .next (settleEpochs s) else
    let s := if held then selfFrame h s else s
    .next (settleEpochs (if late || !held then raise 3 Src.tchPipeLate noItem s else s))

end Sys2Proof.Machine
end

