-- ==== Sys2Proof/Machine/TouchCmd.lean ====
section
/-! DEFINITION. The touch commands, the TCH registers, and what the pipeline does at an epoch boundary, at a start and at
a stop of the grid (R188, R189, R223, R224, sections 6.11 and 6.12). -/
namespace Sys2Proof.Machine

open Sys2Proof

/-! ### Boundary work -/

/-- A baseline multiplied by 2^(gnew − gold), rounded down and clipped to ±32,767 counts (R188). -/
def rescaleQ (gold gnew : Nat) (b : Int) : Int :=
  clampI (-32767 * 65536) (32767 * 65536) (if gold ≤ gnew then b * 2 ^ (gnew - gold) else b / 2 ^ (gold - gnew))

/-- A region's baselines and freeze values after a change of its effective gain (R188). -/
def rescaleRegion (r : Region) (gold : Nat) (s : State) : State :=
  let q := rescaleQ gold r.gain
  let w := r.d1 + 1 - r.d0
  let gram := (List.range (r.s1 + 1 - r.s0)).foldl (fun (m : Memory) j =>
    let a := nodeBaseAt r.d0 (r.s0 + j)
    let bs := memRead m a (4 * w)
    memWrite a ((List.range w).flatMap (fun k => leI 4 (q (sx 32 (u32 bs (4 * k)))))) m) s.gram
  let foot := fun (x : FootNode) => { x with bf := q x.bf, hj := q x.hj }
  let upd := fun (c : Contact) =>
    if c.region = r.idx then { c with
      drift := q c.drift, ring := c.ring.map (fun (p : Nat × Nat × Int) => (p.1, p.2.1, q p.2.2)), foot := c.foot.map foot }
    else c
  { s with gram := gram, tch := { s.tch with contacts := s.tch.contacts.map upd } }

/-- A region's rectangle, type or enable differs (R189). -/
def regionMoved (a b : Region) : Bool :=
  a.en != b.en || (b.en && (a.field != b.field || a.d0 != b.d0 || a.d1 != b.d1 || a.s0 != b.s0 || a.s1 != b.s1))

/-- SWING or a demodulator phase differs (R189). -/
def phaseMoved (f g : RegFile) : Bool :=
  let k := fun (x : RegFile) => (fld (fileGet x Reg.gridCfg) 0 4, fld (fileGet x Reg.gridCfg) 8 8)
  decide (k f ≠ k g) || (List.range 40).any (fun w => decide (fileGet f (Reg.gridLanePhase w) ≠ fileGet g (Reg.gridLanePhase w)))

/-- The contacts that a lower MAX_CONTACTS ends: the most recently reported first (section 6.11). -/
def lowerMax (s : State) : State :=
  let m := fld (acw s Reg.tchPolicy) 24 6
  let held := sortBy (fun (a b : Contact) => decide (b.downTime < a.downTime ∨ (a.downTime = b.downTime ∧ b.slot ≤ a.slot)))
    (s.tch.contacts.filter (fun c => c.id.isSome && !c.cancelled))
  let out := (held.take (held.length - m)).map (·.slot)
  let upd := fun (c : Contact) => if out.contains c.slot then { c with cancelled := true, foot := [], ring := [] } else c
  { s with tch := { s.tch with
    contacts := (s.tch.contacts.filter (fun c => m != 0 || c.id.isSome)).map upd } }

/-- What the pipeline does at a boundary whose configuration has been applied; `old` is the active file before it
(R188, R189, R223). -/
def tchBoundary (old : RegFile) (s : State) : State :=
  let f := s.active
  let pairs := (List.range 8).map (fun i => (regionOf old i, regionOf f i))
  let s := pairs.foldl (fun (t : State) (p : Region × Region) =>
    if regionMoved p.1 p.2 then
      let t := cancelContacts (2 ^ p.1.idx) t
      let t := if p.1.en then { t with gram := setStates p.1 0 t.gram } else t
      if p.2.en then t else modRegion p.1.idx (fun _ => {}) t
    else if p.2.en && p.1.gain != p.2.gain then rescaleRegion p.2 p.1.gain t else t) s
  let moved := pairs.foldl (fun a (p : Region × Region) => a + 2 ^ p.1.idx * b1 (regionMoved p.1 p.2)) 0
  let lines := (List.range 120).filter (fun d => planMode old d != planMode f d)
  let planned := pairs.foldl (fun a (p : Region × Region) =>
    a + 2 ^ p.1.idx * b1 (lines.any (fun d => decide (p.2.d0 ≤ d ∧ d ≤ p.2.d1)))) 0
  let all := phaseMoved old f || (bitOf (fileGet f Reg.tchCfg) 0 && !bitOf (fileGet old Reg.tchCfg) 0)
  let s := startWindows (if all then 0xFF else moved ||| planned) false s
  let s := s.tch.resetWait.foldl (fun (t : State) p => startWindows p.1 p.2 t)
    { s with tch := { s.tch with resetWait := [] } }
  lowerMax s

/-- GRID_START takes effect, or a restart under R181: the pipeline starts anew (R189, R210). -/
def tchStart (s : State) : State :=
  let s := { s with tch := { s.tch with
    contacts := [], idNext := 0, idFreed := [], restart := true, lastPayload := none, todo := [], reported := 0
    resetWait := [] } }
  startWindows 0xFF false s

/-- The stop record of R224, after the frames that ended before the stop. -/
def tchStop (stop : Word) (t0 : Nat) (s : State) : State :=
  let s := cancelContacts 0xFF (tchDrain s)
  let (s, o) := reportCancelled t0 (fun _ => true) s {}
  let fl := 32 * b1 (wetAny s) + 64
  let payload := contactsPayload s t0 s.tch.frameSeq s.tch.lastSlot fl o.reps
  let s := emit 1 2 stop (fun _ => some payload) s
  showContacts t0 { s with tch := { s.tch with running := false, restart := false, reported := 0 } }

/-! ### Checks -/

/-- 1 ≤ a ≤ 32,767. -/
def thrOk (a : Nat) : Bool := decide (1 ≤ a ∧ a ≤ 32767)
/-- An ON and an OFF threshold: OFF from 1 to ON − 1. -/
def onOffOk (on1 off : Nat) : Bool := thrOk on1 && decide (1 ≤ off ∧ off < on1)

/-- The rules of TOUCH_CONFIG on a region (Table 6-8). -/
def touchOk (f : RegFile) (i : Nat) : Bool :=
  let m := fileGet f (Reg.tchRgnMode i)
  let t := fun (a : Nat) (hi : Bool) => thrRaw f a hi
  let set := fld m 12 2
  decide (fld m 8 4 ≤ 12) && set != 2 && (set != 3 || (!bitOf m 2 && !(bitOf m 1 && !(regionOf f i).field)))
    && onOffOk (t (Reg.tchRgnThr0 i) false) (t (Reg.tchRgnThr0 i) true)
    && thrOk (t (Reg.tchRgnThr1 i) false) && thrOk (t (Reg.tchRgnThr1 i) true)
    && onOffOk (t (Reg.tchRgnThr2 i) false) (t (Reg.tchRgnThr2 i) true)
    && onOffOk (t (Reg.tchRgnThr3 i) false) (t (Reg.tchRgnThr3 i) true)
    && decide (t (Reg.tchRgnThr4 i) false ≤ 32767)

/-- The rules of GESTURE_CONFIG on a region (R217). -/
def gestOk (f : RegFile) (i : Nat) : Bool :=
  let c := fileGet f (Reg.tchGstCfg i)
  let en := fld c 0 4
  (fld c 4 4 &&& (15 ^^^ en)) == 0
    && !(decide (en &&& 0b1011 ≠ 0 ∧ fld (fileGet f (Reg.tchGstT0 i)) 0 16 = 0))
    && !(en.testBit 2 && decide (fld (fileGet f (Reg.tchGstT1 i)) 0 16 = 0))

/-- The elements of a control. -/
def elementsOf (f : RegFile) (c : Nat) : List Nat :=
  (List.range (fld (fileGet f (Reg.tchCtlCfg c)) 8 6)).map (fun e => fld (fileGet f (Reg.tchCtlEl c (e / 2))) (16 * (e % 2)) 16)

/-- A control is a node set. -/
def isNodeSet (f : RegFile) (c : Nat) : Bool := bitOf (fileGet f (Reg.tchCtlCfg c)) 2

/-- The rules of CONTROL_DEFINE on a control (Table 6-9). -/
def controlOk (f : RegFile) (c : Nat) : Bool :=
  let w := fileGet f (Reg.tchCtlCfg c)
  let t := fileGet f (Reg.tchCtlThr c)
  let n := fld w 8 6
  let els := elementsOf f c
  let r := regionOf f (fld w 16 3)
  (decide (2 ≤ n ∧ n ≤ 32) || (!bitOf w 0 && n == 0)) && onOffOk (fld t 0 16) (fld t 16 16) && decide els.Nodup &&
  (if isNodeSet f c then
    els.all (fun e => !r.field && r.has (e % 256) (e / 256)) &&
    (List.range 16).all (fun k => k == c || !isNodeSet f k || els.all (fun e => !(elementsOf f k).contains e))
  else decide (fld w 16 3 = 0) && els.all (fun e => decide (e ≤ 279)))

/-- The rules of CONTACT_POLICY. -/
def policyOk (f : RegFile) : Bool :=
  let w := fileGet f Reg.tchPolicy
  decide (1 ≤ fld w 0 16 ∧ fld w 24 6 ≤ 40)

/-! ### Registers -/

/-- The read-only words of Tables 6-11 to 6-14, by block offset. -/
def tchRo (s : State) (o : Nat) : Nat :=
  let t := s.tch
  let win := fun (i : Nat) => (rgn s i).window.isSome
  if o = 0x04 then
    b1 t.running + 2 * b1 t.noSelf + 4 * b1 (wetAny s) + put 8 8 t.reported + put 16 6 t.idNext
      + sumNat ((List.range 8).map (fun i => b1 (win i) * 2 ^ (24 + i)))
  else if o = 0x10 then t.frameSeq.toNat
  else if o = 0x14 then t.cntOverflow.toNat + 65536 * t.cntStuck.toNat
  else if o = 0x18 then t.cntAnti.toNat + 65536 * t.cntSkipped.toNat
  else if 0x100 ≤ o ∧ o < 0x200 then
    let r := rgn s ((o - 0x100) / 0x20)
    b1 (win ((o - 0x100) / 0x20)) + 2 * b1 r.refUsed + 4 * b1 r.wet + 8 * b1 r.presence + 16 * b1 r.liquid
      + put 8 8 r.contacts + put 16 16 r.actives.length
  else if 0x400 ≤ o ∧ o < 0x500 then
    let c := vget t.controls ((o - 0x400) / 0x10) {}
    put 0 12 c.position + 4096 * b1 c.touched + put 16 16 c.strength
  else 0

/-- A read of an RC register clears it. -/
def tchRc (o : Nat) (s : State) : State :=
  if o = 0x14 then { s with tch := { s.tch with cntOverflow := 0, cntStuck := 0 } }
  else if o = 0x18 then { s with tch := { s.tch with cntAnti := 0, cntSkipped := 0 } }
  else s

/-- The rules of the commands that set TCH fields, on a candidate file (R223). -/
def tchRule (_s : State) (f : RegFile) (o : Nat) : Option Byte :=
  let ok :=
    if o = 0x0C then policyOk f
    else if 0x100 ≤ o ∧ o < 0x200 then touchOk f ((o - 0x100) / 0x20)
    else if 0x200 ≤ o ∧ o < 0x280 then gestOk f ((o - 0x200) / 0x10)
    else if 0x400 ≤ o ∧ o < 0x500 then controlOk f ((o - 0x400) / 0x10)
    else if 0x800 ≤ o ∧ o < 0xC00 then controlOk f ((o - 0x800) / 0x40)
    else true
  if ok then none else some 0x13

/-! ### Commands -/

/-- TOUCH_CONFIG (Table 6-8). -/
def touchConfigBody (p : Packet) (s : State) : CmdResult :=
  let q := p.params
  let i := u8 q 0
  let set := u8 q 5
  let mode := wd (u8 q 1 % 8 + 16 * u8 q 2 + 64 * u8 q 3 + 256 * u8 q 4 + 4096 * (if set = 0xFF then 3 else set)
    + 65536 * u8 q 6 + 0x1000000 * u8 q 7)
  let f := fixGain i (fileSets [(Reg.tchRgnMode i, mode), (Reg.tchRgnThr0 i, wd (u32 q 8)), (Reg.tchRgnThr1 i, wd (u32 q 12)),
    (Reg.tchRgnThr2 i, wd (u32 q 16)), (Reg.tchRgnThr3 i, wd (u32 q 20)), (Reg.tchRgnThr4 i, wd (u32 q 24)),
    (Reg.tchRgnWet i, wd (uN 3 q 28))] s.shadow)
  checked s
    [(decide (q.length = 32), 0x11),
     (decide (i ≤ 7 ∧ u8 q 1 < 8 ∧ u8 q 2 ≤ 3 ∧ u8 q 3 ≤ 3 ∧ u8 q 4 ≤ 12 ∧ (set ≤ 1 ∨ set = 0xFF) ∧ u8 q 6 ≤ 15
        ∧ u8 q 7 < 32 ∧ u8 q 31 = 0), 0x13),
     (touchOk f i, 0x13)]
    (fun _ => okCmd (applyNow 3 (applyNow 2 (withShadow f s))) [])

/-- CONTROL_DEFINE (Table 6-9). -/
def controlDefineBody (p : Packet) (s : State) : CmdResult :=
  let q := p.params
  let c := u8 q 0
  let n := u8 q 2
  if q.length < 12 ∨ q.length ≠ 12 + 2 * n then failCmd s 0x11 else
  let els := (List.range 16).map (fun w => (Reg.tchCtlEl c w, wd (u32 (q.drop 12) (4 * w))))
  let f := fileSets ([(Reg.tchCtlCfg c, wd (u8 q 1 + 256 * n + 65536 * u8 q 3)), (Reg.tchCtlThr c, wd (u32 q 4)),
    (Reg.tchCtlDelta c, wd (u16 q 8))] ++ els) s.shadow
  checked s
    [(decide (c ≤ 15 ∧ u8 q 1 < 16 ∧ n ≤ 32 ∧ u8 q 3 ≤ 7 ∧ u16 q 8 ≤ 4095) && zeros q 10 2, 0x13),
     (controlOk f c, 0x13)]
    (fun _ => okCmd (applyNow 3 (withShadow f s)) [])

/-- GESTURE_CONFIG. -/
def gestureConfigBody (p : Packet) (s : State) : CmdResult :=
  let q := p.params
  let i := u8 q 0
  let f := fileSets [(Reg.tchGstCfg i, wd (u8 q 1 + 16 * u8 q 2 + 256 * u16 q 4)),
    (Reg.tchGstT0 i, wd (u32 q 6)), (Reg.tchGstT1 i, wd (u32 q 10)), (Reg.tchGstT2 i, wd (u16 q 14))] s.shadow
  checked s
    [(decide (q.length = 16), 0x11),
     (decide (i ≤ 7 ∧ u8 q 1 < 16 ∧ u8 q 2 < 16 ∧ u8 q 3 = 0), 0x13), (gestOk f i, 0x13)]
    (fun _ => okCmd (applyNow 3 (withShadow f s)) [])

/-- BASELINE_RESET. -/
def baselineResetBody (p : Packet) (s : State) : CmdResult :=
  let q := p.params
  checked s
    [(decide (q.length = 4), 0x11), (decide (u8 q 1 ≤ 1) && zeros q 2 2, 0x13), (gridRuns s, 0x30)]
    (fun _ => okCmd { s with tch := { s.tch with resetWait := s.tch.resetWait ++ [(u8 q 0, decide (u8 q 1 = 1))] } }
      (le 4 (reportEpoch s + 1).toNat))

/-- CONTACT_POLICY. -/
def contactPolicyBody (p : Packet) (s : State) : CmdResult :=
  let q := p.params
  let f := fileSets [(Reg.tchPolicy, wd (u16 q 0 + 65536 * u8 q 2 + 0x100000 * u8 q 3 + 0x1000000 * u8 q 4)),
    (Reg.tchHoldLimit, wd (u16 q 6))] s.shadow
  checked s
    [(decide (q.length = 12), 0x11),
     (decide (1 ≤ u16 q 0 ∧ u8 q 2 ≤ 15 ∧ u8 q 3 ≤ 15 ∧ u8 q 4 ≤ 40 ∧ u8 q 5 = 0) && zeros q 8 4, 0x13)]
    (fun _ => okCmd (applyNow 3 (withShadow f s)) [])

/-- READ_CONTACTS (R219). -/
def readContactsBody (p : Packet) (s : State) : CmdResult :=
  match s.tch.lastPayload with
  | none => checked s [(p.params.isEmpty, 0x11), (false, 0x30)] (fun _ => okCmd s [])
  | some (e, b) => checked s [(p.params.isEmpty, 0x11)] (fun _ => okCmd s (le 4 e.toNat ++ b))

/-- TOUCH_CONFIG (R187). -/
def execTouchConfig (p : Packet) (s : State) : Host.Outcome State Fault Refusal := .next (runCommand 0x20 touchConfigBody p s)
/-- CONTROL_DEFINE (R211). -/
def execControlDefine (p : Packet) (s : State) : Host.Outcome State Fault Refusal :=
  .next (runCommand 0x21 controlDefineBody p s)
/-- GESTURE_CONFIG (R217). -/
def execGestureConfig (p : Packet) (s : State) : Host.Outcome State Fault Refusal :=
  .next (runCommand 0x22 gestureConfigBody p s)
/-- BASELINE_RESET (R189). -/
def execBaselineReset (p : Packet) (s : State) : Host.Outcome State Fault Refusal :=
  .next (runCommand 0x23 baselineResetBody p s)
/-- CONTACT_POLICY (R207). -/
def execContactPolicy (p : Packet) (s : State) : Host.Outcome State Fault Refusal :=
  .next (runCommand 0x24 contactPolicyBody p s)
/-- READ_CONTACTS (R219). -/
def execReadContacts (p : Packet) (s : State) : Host.Outcome State Fault Refusal :=
  .next (runCommand 0x25 readContactsBody p s)

end Sys2Proof.Machine
end

