-- ==== Sys2Proof/Machine/Res.lean ====
section
/-! DEFINITION. The reservoir (chapter 12): what a stream costs, admission, starting and stopping, reservations at a
boundary, the drains and the alarm port, and the commands of group 0x80. -/
namespace Sys2Proof.Machine

open Sys2Proof

/-! ### What a stream costs (Table 12-3) -/

/-- Instants per epoch of a rate code at a period in us. -/
def instants (r p : Nat) : Nat := ceilDiv (odrOf r * p) 1000000

/-- Settings of a stream in a register file. -/
structure StreamDef where
  drain : Nat
  iface : Nat
  dest : Nat
  sources : Nat
  slots : Nat
  listen : Bool
  win : Window
  lanes : Nat
  block : Nat
  marks : Nat
  health : Nat
  deriving DecidableEq, Repr

/-- Stream `k` as a register file defines it (Table 12-8). -/
def streamDef (f : RegFile) (k : Nat) : StreamDef :=
  let c := fileGet f (Reg.resStreamCfg k)
  let w := fileGet f (Reg.resStreamWin k)
  let a := fileGet f (Reg.resStreamSrc k)
  let b := fileGet f (Reg.resStreamSrc2 k)
  ⟨fld c 0 2, fld c 2 1, fld c 8 8, fld c 16 9, fld a 0 8, bitOf a 8, ⟨fld w 0 8, fld w 8 8, fld w 16 8, fld w 24 8⟩,
    (fileGet f (Reg.resStreamLanes k)).toNat, fld a 16 16, fld b 0 16, fld b 16 16⟩

/-- A list of costs as (bytes per epoch, largest payload): bytes add, the largest payload stands. -/
def costSum (l : List (Nat × Nat)) : Nat × Nat := (sumNat (l.map (·.1)), maxNat (l.map (·.2)))

/-- FRAME: each selected slot's record. -/
def frameCost (d : StreamDef) (g : RegFile) : Nat × Nat :=
  costSum (((runSlots g).filter (fun e => d.slots.testBit e.slot)).map (fun e =>
    let v := d.win.count e.kind d.listen
    (12 + pad4 (20 + 2 * v), 20 + 2 * v)))

/-- BRIDGE: each lane group's blocks; without a period a block is taken whole. -/
def bridgeCost (d : StreamDef) (g : RegFile) (p : Option Nat) : Nat × Nat :=
  let lanes := maskBits 32 d.lanes
  let key := fun (n : Nat) => 1024 * laneRate g n + blockKey g n
  let blk := max 1 d.block
  costSum ((lanes.map key).eraseDups.map (fun q =>
    let mine := lanes.filter (fun n => key n == q)
    let lg := mine.length
    let n := match p with
      | some p => instants (q / 1024) p
      | none => blk
    let bytes := if laneSource g (mine.headD 0) = 0 then ceilDiv n blk * 32 + 4 * lg * n else n * (32 + 4 * lg)
    (bytes, 20 + 4 * lg * min blk n)))

/-- CONV_EVENT: entries e of the stream's lanes. -/
def convEventCost (d : StreamDef) (g : RegFile) (p : Nat) : Nat × Nat :=
  let e := sumNat ((maskBits 32 d.lanes).map (fun n =>
    let k := instants (laneRate g n) p
    let thr := fun (t : Nat) => if bitOf (fileGet g (Reg.convLaneThr n t)) 24 then
      2 * ceilDiv k (fld (fileGet g (Reg.convLaneHys n t)) 24 8 + 2) else 0
    thr 0 + thr 1 + (if onsetEn g n then ceilDiv k (max 1 (fld (fileGet g (Reg.convLaneOns2 n)) 0 16)) else 0)))
  (12 * ceilDiv e 1024 + 16 * e, 16 * min e 1024)

/-- E of a stream, and the largest payload of its records, with the grid and conversion settings of a file (R375). -/
def streamCost (d : StreamDef) (g : RegFile) (p : Option Nat) : Nat × Nat :=
  let on := fun (b : Nat) => d.sources.testBit b
  let nm := (runSlots g).countP (fun e => e.kind == 0)
  let na := (runSlots g).length
  costSum
    ((if on 0 then [frameCost d g] else []) ++ (if on 1 then [(nm * 668, 656)] else [])
      ++ (if on 2 then [(na * 156, 144)] else []) ++ (if on 3 then [(nm * (12 + 16 * 384), 16 * 384)] else [])
      ++ (if on 4 then [(nm * 44, 32)] else []) ++ (if on 5 then [bridgeCost d g p] else [])
      ++ (if on 6 then [convEventCost d g (p.getD 0)] else [])
      ++ (if on 7 then [(12 + 16 * d.marks, 16 * max 1 d.marks)] else []) ++ (if on 8 then [(268, 256)] else []))

/-- The file of the grid and conversion settings in force: active words in ACTIVE, else the shadow. -/
def inForce (s : State) : RegFile := if s.sys.power = .active then s.active else s.shadow

/-- A stream's settings keep the rules of STREAM_DEFINE (Table 12-8). -/
def streamOk (d : StreamDef) (g : RegFile) (p : Option Nat) : Bool :=
  (d.drain == 3 || (d.dest == 0 && d.iface == 0)) && d.win.valid && decide (d.marks ≤ 1024) &&
  (!d.sources.testBit 5 || decide (1 ≤ d.block ∧ d.block ≤ 48000)) && (!d.sources.testBit 8 || decide (1 ≤ d.health)) &&
  decide ((streamCost d g p).2 ≤ 65520)

/-- A stream exists: its SOURCES is not 0. -/
def streamDefined (s : State) (k : Nat) : Bool := streamSources s k != 0

/-! ### Drains -/

/-- RATE of a drain. -/
def drainRate (f : RegFile) (d : Nat) : Nat := (fileGet f (Reg.resDrainRate d)).toNat
/-- LATENCY of a drain. -/
def drainLat (f : RegFile) (d : Nat) : Nat := fld (fileGet f (Reg.resDrainLat d)) 0 24
/-- The highest RATE of a drain (R383). -/
def rateLimit (d : Nat) : Nat := if d = 0 then 100000 else if d = 1 then 50000000 else 4000000

/-- The sum of R of the admitted streams of a drain, without one of them. -/
def sumRate (s : State) (d : Nat) (but : Option (Fin 16)) : Nat :=
  sumNat ((allStreams.filter (fun (k : Fin 16) => (s.res.streams[k] : StreamSt).admitted && streamDrain s k == d && but != some k)).map
    (fun (k : Fin 16) => (s.res.streams[k] : StreamSt).rate))

/-- A drain's words keep R383 and cover the streams admitted on it. -/
def drainOk (s : State) (f : RegFile) (d : Nat) : Bool :=
  decide (drainRate f d ≤ rateLimit d ∧ sumRate s d none ≤ drainRate f d) &&
  (drainLat f d == 0 || decide (100 ≤ drainLat f d ∧ drainLat f d ≤ 10000000))

/-! ### Shares -/

/-- The first page from which `n` pages are free of the other shares (R370). -/
def fitPages (n : Nat) : Nat → List (Nat × Nat) → Option Nat
  | at0, [] => if at0 + n ≤ 496 then some at0 else none
  | at0, (b, m) :: l => if at0 + n ≤ b then some at0 else fitPages n (max at0 (b + m)) l

/-- Shares by rising first page. -/
def insShare (x : Nat × Nat) : List (Nat × Nat) → List (Nat × Nat)
  | [] => [x]
  | y :: l => if x.1 ≤ y.1 then x :: y :: l else y :: insShare x l

/-- The shares held, but for one stream's: (first page, pages). -/
def sharesBut (s : State) (k : Fin 16) : List (Nat × Nat) :=
  (allStreams.filter (fun j => j != k && decide (0 < (s.res.streams[j] : StreamSt).pages))).foldl
    (fun a j => insShare ((s.res.streams[j] : StreamSt).base, (s.res.streams[j] : StreamSt).pages) a) []

/-- Pages held by all streams. -/
def pagesHeld (s : State) : Nat := sumNat (allStreams.map (fun k => (s.res.streams[k] : StreamSt).pages))

/-- The share returns to the pool when a stream holds no admission and no record (STREAM_DEFINE). -/
def freeShare (st : StreamSt) : StreamSt :=
  if !st.admitted && st.recs.isEmpty then { st with pages := 0, base := 0, wp := 0, reserved := 0, prevReserved := 0 } else st

/-- Records still held laid out anew from the start of a share (log entry 24). -/
def layOut (k : Fin 16) (s : State) : State :=
  let st := s.res.streams[k]
  let size := st.pages * 4096
  let (rs, wp, mem) := st.recs.foldl (fun (a : List Rec × Nat × Memory) (r : Rec) =>
    if inSlot st r || size == 0 then (a.1 ++ [r], a.2) else
    (a.1 ++ [{ r with off := a.2.1 }], (a.2.1 + r.bytes.length) % size, placeBytes st.base size a.2.1 r.bytes a.2.2))
    ([], 0, s.res.mem)
  { s with res := { s.res with mem := mem, streams := s.res.streams.set k.1 { st with recs := rs, wp := wp } k.2 } }

/-- A share granted (R378, R379). -/
def grant (k : Fin 16) (base pages e rate : Nat) (s : State) : State :=
  let st := s.res.streams[k]
  let moved := st.base != base || st.pages != pages
  let s := modStream k (fun (x : StreamSt) => { x with
    admitted := true, overAdmit := false, base := base, pages := pages, e := e, rate := rate, asking := none }) s
  if moved then layOut k s else s

/-! ### Admission over the fabric (R378, check 6; log entry 44) -/

/-- Class-1 record bytes per second that admission counts on a port: 85 % of R347. -/
def portRoom (s : State) (n : Fin 4) : Nat :=
  match fld (shw s (Reg.linkPortCfg n)) 0 2 with
  | 1 => 40000000 * 252 / 270 * 85 / 100
  | 2 => 10000000 * 252 / 270 * 85 / 100
  | _ => 0

/-- R of the streams admitted through a port. -/
def portUsed (s : State) (n : Fin 4) : Nat :=
  sumNat ((s.link.reserved.filter (fun r => r.2.2.1 == n.val)).map (fun r => r.2.2.2))

/-- A reservation on a port, where its capacity allows; none where it does not. -/
def reservePort (src : Byte) (k : Nat) (n : Fin 4) (rate : Nat) (s : State) : Option State :=
  let rest := s.link.reserved.filter (fun r => !(r.1 == src && r.2.1 == k))
  let t := { s with link := { s.link with reserved := rest } }
  if portUsed t n + rate ≤ portRoom t n then
    some { t with link := { t.link with reserved := rest ++ [(src, k, n.val, rate)] } }
  else none

/-- A reservation released. -/
def unreserve (src : Byte) (k : Nat) (s : State) : State :=
  { s with link := { s.link with reserved := s.link.reserved.filter (fun r => !(r.1 == src && r.2.1 == k)) } }

/-- The frame that carries an admission request or release. -/
def admissionFrame (s : State) (dest : Byte) (k iface e rate sources : Nat) (release : Bool) : Frame :=
  ownFrame s dest 2 0x16 ([BitVec.ofNat 8 k, BitVec.ofNat 8 iface, BitVec.ofNat 8 (b1 release), 0] ++ le 4 e ++ le 4 rate
    ++ le 2 sources)

/-- The frame that carries a grant or a refusal. -/
def admissionAnswer (s : State) (dest : Byte) (k : Nat) (granted final : Bool) : Frame :=
  ownFrame s dest 2 0x16 [BitVec.ofNat 8 k, BitVec.ofNat 8 (128 + b1 granted + 2 * b1 final), 0, 0]

/-- Every reservation of a fabric stream on its route released. -/
def releaseRoute (k : Fin 16) (s : State) : State :=
  let d := streamDef s.shadow k
  if d.drain = 3 then
    let s := unreserve (ownAddr s) k.val s
    sendRouted (admissionFrame s (BitVec.ofNat 8 d.dest) k.val d.iface 0 0 d.sources true) s
  else s

/-- Table 12-9. -/
def admitData (e rate share pages chk : Nat) : List Byte :=
  le 4 e ++ le 4 rate ++ le 4 share ++ le 2 pages ++ [BitVec.ofNat 8 chk, 0]

/-- A refusal ends an admission that waits. -/
def askFail (k : Fin 16) (s : State) : State :=
  match (s.res.streams[k] : StreamSt).asking with
  | none => s
  | some q =>
    let s := releaseRoute k (modStream k (fun (x : StreamSt) => { x with asking := none }) s)
    reply q.origin false q.tag 0x40 true (admitData q.e q.rate q.share 0 6) .normal s

/-- A stream's admission withdrawn (STREAM_DEFINE, R391). -/
def withdraw (k : Fin 16) (s : State) : State :=
  let s := askFail k s
  let st : StreamSt := s.res.streams[k]
  let s := if st.admitted && st.rx.isNone then releaseRoute k s else s
  modStream k (fun (x : StreamSt) => freeShare { x with
    admitted := false, overAdmit := false, e := 0, rate := 0, full := false, rx := none, startAt := none, stopAt := none
    segBase := 0, segsOut := [], rxNext := 0, rxCount := 0, rxBytes := [] }) s

/-! ### Commands -/

/-- The words a STREAM_DEFINE writes. -/
def streamWords12 (q : List Byte) : List (Nat × Word) :=
  let k := u8 q 0
  [(Reg.resStreamCfg k, wd (u8 q 1 + 4 * u8 q 3 + 256 * u8 q 2 + 65536 * u16 q 4)), (Reg.resStreamWin k, w32 q 8),
   (Reg.resStreamLanes k, w32 q 12), (Reg.resStreamSrc k, wd (u8 q 6 + 256 * (u8 q 7 % 2) + 65536 * u16 q 16)),
   (Reg.resStreamSrc2 k, wd (u16 q 18 + 65536 * u16 q 20))]

/-- STREAM_DEFINE (R375). -/
def streamDefineBody (p : Packet) (s : State) : CmdResult :=
  let q := p.params
  let k : Fin 16 := Fin.ofNat 16 (u8 q 0)
  let f := fileSets (streamWords12 q) s.shadow
  checked s
    [(decide (q.length = 24), 0x11),
     (decide (u8 q 0 ≤ 15 ∧ u8 q 1 ≤ 3 ∧ u8 q 3 ≤ 1 ∧ u16 q 4 ≤ 0x1FF ∧ u8 q 7 ≤ 1) && zeros q 22 2
        && streamOk (streamDef f k) (inForce s) (periodUs s), 0x13),
     (!(s.res.streams[k] : StreamSt).running, 0x30)]
    (fun _ =>
      let s := withShadow (fileSets (streamWords12 q) s.shadow) (withdraw k s)
      okCmd (modStream k (fun (x : StreamSt) => { x with seq := 0 }) s) [])

/-- R, S and the pages of an admission (R377): latency in us, MARGIN in ms. -/
def shareOf (e p lat margin : Nat) : Nat × Nat :=
  let r := ceilDiv (e * 1000000) p
  (r, ceilDiv (r * (lat + 1000 * margin)) 1000000 + 2 * e + 40)

/-- MARGIN. -/
def resMargin (s : State) : Nat := fld (shw s Reg.resCfg) 0 8

/-- Checks 2 to 5 of Table 12-4 for a stream: the first that fails, 0 where none does; `want` pages at least, 0 for the
fewest; then E, R, S and the pages. -/
def admitChecks (k : Fin 16) (g : RegFile) (p want : Nat) (s : State) : Nat × Nat × Nat × Nat × Nat :=
  let d := streamDef s.shadow k
  let (e, big) := streamCost d g (some p)
  let lat := if d.drain = 3 then 10000 else drainLat s.shadow d.drain
  let (r, share) := shareOf e p lat (resMargin s)
  let pages := if want = 0 then ceilDiv share 4096 else want
  let chk :=
    if 65520 < big ∨ (d.drain = 2 ∧ 4088 < 12 + pad4 big) then 2
    else if pages * 4096 < share then 3
    else if 496 < pagesHeld s - (s.res.streams[k] : StreamSt).pages + pages ∨ (fitPages pages 0 (sharesBut s k)).isNone then 4
    else if d.drain ≠ 3 ∧ (drainRate s.shadow d.drain = 0 ∨ drainLat s.shadow d.drain = 0
      ∨ drainRate s.shadow d.drain < sumRate s d.drain (some k) + r) then 5
    else 0
  (chk, e, r, share, pages)

/-- STREAM_ADMIT (R378). A fabric drain's reply waits for the answers of the route (log entry 44). -/
def streamAdmitBody (p : Packet) (s : State) : CmdResult :=
  let q := p.params
  let k : Fin 16 := Fin.ofNat 16 (u8 q 0)
  let st : StreamSt := s.res.streams[k]
  checked s
    [(decide (q.length = 4), 0x11), (decide (u8 q 0 ≤ 15 ∧ u8 q 1 = 0), 0x13),
     (s.time.sched.isSome && streamDefined s k && !st.running && st.rx.isNone, 0x30), (st.asking.isNone, 0x31)]
    (fun _ =>
      let d := streamDef s.shadow k
      let (chk, e, r, share, pages) := admitChecks k (inForce s) ((periodUs s).getD 1) (u16 q 2) s
      let base := (fitPages pages 0 (sharesBut s k)).getD 0
      let bad := fun (c : Nat) => { st := s, status := 0x40, data := admitData e r share 0 c : CmdResult }
      if chk ≠ 0 then bad chk
      else if d.drain ≠ 3 then okCmd (grant k base pages e r s) (admitData e r share pages 0)
      else
        let dest : Byte := BitVec.ofNat 8 d.dest
        match routePort s dest with
        | none => bad 6
        | some n =>
          match reservePort (ownAddr s) k.val n r s with
          | none => bad 6
          | some t =>
            let t := modStream k (fun (x : StreamSt) => { x with asking := some ⟨p.origin, p.tag, dest, pages, base, e, r, share⟩ }) t
            { st := sendRouted (admissionFrame t dest k.val d.iface e r d.sources false) t, status := 0x00, silent := true })

/-- The checks STREAM_START and STREAM_STOP share. -/
def streamRunChecks (q : List Byte) (s : State) : List (Bool × Byte) :=
  [(decide (q.length = 8), 0x11), (decide (u8 q 2 ≤ 1 ∧ u8 q 3 = 0), 0x13), ((currentEpoch s).isSome, 0x30),
   (u8 q 2 != 1 || (targetBad s (w32 q 4)).isNone, 0x13)]

/-- The epoch STREAM_START and STREAM_STOP apply at. -/
def streamTarget (q : List Byte) (s : State) : Word := if u8 q 2 = 1 then w32 q 4 else reportEpoch s + 1

/-- The streams of a mask. -/
def streamsOf (m : Nat) : List (Fin 16) := allStreams.filter (fun k => m.testBit k.val)

/-- STREAM_START (R380). -/
def streamStartBody (p : Packet) (s : State) : CmdResult :=
  let q := p.params
  let ks := streamsOf (u16 q 0)
  checked s (streamRunChecks q s
    ++ [(ks.all (fun k => (s.res.streams[k] : StreamSt).admitted && (s.res.streams[k] : StreamSt).rx.isNone), 0x30)])
    (fun _ =>
      let e := streamTarget q s
      let done := ks.filter (fun k => !(s.res.streams[k] : StreamSt).running)
      let s := ks.foldl (fun t k => modStream k (fun (x : StreamSt) =>
        if x.running then { x with stopAt := none } else { x with startAt := some e }) t) s
      okCmd s (le 4 e.toNat ++ le 2 (sumNat (done.map (fun k => 2 ^ k.val))) ++ [0, 0]))

/-- STREAM_STOP (R380). -/
def streamStopBody (p : Packet) (s : State) : CmdResult :=
  let q := p.params
  let ks := streamsOf (u16 q 0)
  checked s (streamRunChecks q s)
    (fun _ =>
      let e := streamTarget q s
      let done := ks.filter (fun k => (s.res.streams[k] : StreamSt).running)
      let s := ks.foldl (fun t k => modStream k (fun (x : StreamSt) =>
        if x.running then { x with stopAt := some e } else { x with startAt := none }) t) s
      okCmd s (le 4 e.toNat ++ le 2 (sumNat (done.map (fun k => 2 ^ k.val))) ++ [0, 0]))

/-- Records of a stream released: those of which `gone` holds (R93, R371). -/
def releaseRecs (k : Fin 16) (gone : Rec → Bool) (s : State) : State :=
  modStream k (fun (x : StreamSt) =>
    let l := x.recs.filter (fun r => !gone r)
    freeShare { x with recs := l, ackedBytes := if l.head? == x.recs.head? then x.ackedBytes else 0 }) s

/-- The whole records from the front of a list that fit in `n` bytes. -/
def fitRecs : Nat → List Rec → List Rec
  | _, [] => []
  | n, r :: l => if r.bytes.length ≤ n then r :: fitRecs (n - r.bytes.length) l else []

/-- STREAM_READ (R382). -/
def streamReadBody (p : Packet) (s : State) : CmdResult :=
  let q := p.params
  let k : Fin 16 := Fin.ofNat 16 (u8 q 0)
  checked s
    [(decide (q.length = 8), 0x11),
     (decide (u8 q 0 ≤ 15 ∧ u8 q 1 = 0 ∧ u16 q 2 ≤ 4088) && streamDrain s k == 2, 0x13)]
    (fun _ =>
      let s := releaseRecs k (fun r => laterW (w32 q 4) r.seq) s
      let st : StreamSt := s.res.streams[k]
      let rs := fitRecs (u16 q 2) st.recs
      let next : Word := match rs.getLast? with
        | some r => r.seq + 1
        | none => (st.recs.head?.map (·.seq)).getD st.seq
      let bytes := rs.flatMap (·.bytes)
      okCmd s (le 4 next.toNat ++ le 2 bytes.length ++ [0, 0] ++ bytes))

/-- DRAIN_DECLARE (R383). -/
def drainDeclareBody (p : Packet) (s : State) : CmdResult :=
  let q := p.params
  let d := u8 q 0
  let ws := [(Reg.resDrainRate d, w32 q 4), (Reg.resDrainLat d, w32 q 8)]
  let f := fileSets ws s.shadow
  checked s
    [(decide (q.length = 12), 0x11),
     (decide (d ≤ 2 ∧ u32 q 8 ≤ 10000000) && zeros q 1 3 && drainOk s f d, 0x13)]
    (fun _ => okCmd (withShadow f s) [])

/-- STREAM_DEFINE. -/
def execStreamDefine (p : Packet) (s : State) : Host.Outcome State Fault Refusal :=
  .next (runCommand 0x80 streamDefineBody p s)
/-- STREAM_ADMIT. -/
def execStreamAdmit (p : Packet) (s : State) : Host.Outcome State Fault Refusal := .next (runCommand 0x81 streamAdmitBody p s)
/-- STREAM_START. -/
def execStreamStart (p : Packet) (s : State) : Host.Outcome State Fault Refusal := .next (runCommand 0x82 streamStartBody p s)
/-- STREAM_STOP. -/
def execStreamStop (p : Packet) (s : State) : Host.Outcome State Fault Refusal := .next (runCommand 0x83 streamStopBody p s)
/-- STREAM_READ. -/
def execStreamRead (p : Packet) (s : State) : Host.Outcome State Fault Refusal := .next (runCommand 0x84 streamReadBody p s)
/-- DRAIN_DECLARE. -/
def execDrainDeclare (p : Packet) (s : State) : Host.Outcome State Fault Refusal :=
  .next (runCommand 0x85 drainDeclareBody p s)

/-! ### Admission requests and answers on the fabric -/

/-- The destination's part of check 6: a receive share by R377 with its own declared drain and a free stream number. -/
def grantReceive (q : AdmissionReq) (s : State) : Option State :=
  let d := match q.iface with
    | .twi => 0
    | .quad => 1
  let mine := fun (k : Fin 16) => (s.res.streams[k] : StreamSt).rx == some (q.src, q.stream.val)
  let idle := fun (k : Fin 16) => !streamDefined s k && (s.res.streams[k] : StreamSt).pages == 0
  match (match allStreams.find? mine with | some k => some k | none => allStreams.find? idle) with
  | none => none
  | some k =>
    let lat := drainLat s.shadow d
    let share := ceilDiv (q.rate * (lat + 1000 * resMargin s)) 1000000 + 2 * q.e + 40
    let pages := ceilDiv share 4096
    if lat = 0 ∨ drainRate s.shadow d < sumRate s d (some k) + q.rate then none else
    match fitPages pages 0 (sharesBut s k) with
    | none => none
    | some base =>
      let w := wd (d + 256 * q.src.toNat + 65536 * q.sources)
      let s := grant k base pages q.e q.rate (setShw (Reg.resStreamCfg k) w s)
      some (modStream k (fun (x : StreamSt) => { x with
        rx := some (q.src, q.stream.val), rxNext := 0, rxCount := 0, rxBytes := [] }) s)

/-- ADMISSION_REQUEST_RECEIVE (R378): checked and reserved on the egress port, or granted at the destination; a release
ends the reservation. -/
def execAdmissionRequestReceive (_p : Fin 4) (q : AdmissionReq) (s : State) : Host.Outcome State Fault Refusal :=
  let k := q.stream.val
  let i := (ifaceByte q.iface).toNat
  let answer := fun (g f : Bool) (t : State) => sendRouted (admissionAnswer t q.src k g f) t
  let onward := fun (t : State) =>
    let fr := admissionFrame t q.dest k i q.e q.rate q.sources q.release
    sendRouted { fr with source := q.src, hops := 15 } t
  .next (
    if destHere s q.dest then
      if q.release then
        match allStreams.find? (fun j => (s.res.streams[j] : StreamSt).rx == some (q.src, k)) with
        | some j => setShw (Reg.resStreamCfg j) 0 (withdraw j s)
        | none => s
      else
        match grantReceive q s with
        | some t => answer true true t
        | none => answer false true s
    else if q.release then onward (unreserve q.src k s)
    else
      match routePort s q.dest with
      | none => answer false false s
      | some n =>
        match reservePort q.src k n q.rate s with
        | some t => onward (answer true false t)
        | none => answer false false s)

/-- ADMISSION_REPLY_RECEIVE (R378): the destination's grant completes the admission; a refusal on the route rejects it. -/
def execAdmissionReplyReceive (_src : Byte) (a : AdmissionReply) (s : State) : Host.Outcome State Fault Refusal :=
  .next (
    match (s.res.streams[a.stream] : StreamSt).asking with
    | none => s
    | some q =>
      if !a.granted then askFail a.stream s
      else if a.final then
        reply q.origin false q.tag 0x00 true (admitData q.e q.rate q.share q.pages 0) .normal
          (grant a.stream q.base q.pages q.e q.rate s)
      else s)

/-! ### Boundaries -/

/-- The TIME_MARK records of the epoch that ends (R331, Table 12-2). -/
def closeMarks (e : Word) (s : State) : State :=
  allStreams.foldl (fun (t : State) (k : Fin 16) =>
    let st : StreamSt := t.res.streams[k]
    let t := if st.marks.isEmpty || !streamTakes st e 7 then t else putRecord k 7 e (st.marks.flatMap id) t
    modStream k (fun (x : StreamSt) => { x with marks := [] }) t) s

/-- A stream stops: its dark runs end, the epoch in progress stays to complete (R380, R381). -/
def stopStream (k : Fin 16) (s : State) : State :=
  modStream k (fun (x : StreamSt) => { x with
    running := false, stopAt := none, startAt := none, full := false, darkNow := [] }) (closeDarks k s)

/-- Every running stream stops, and no start waits: the power state leaves ACTIVE (Table 4-2, R141). -/
def stopStreams (s : State) : State :=
  allStreams.foldl (fun (t : State) (k : Fin 16) =>
    modStream k (fun (x : StreamSt) => { x with startAt := none })
      (if (t.res.streams[k] : StreamSt).running then stopStream k t else t)) s

/-- Epoch numbers skipped from `first` to `last`: dark with one cause for every running stream (R35, R365). -/
def skipEpochs (first last : Word) (cause start stop : Nat) (s : State) : State :=
  allStreams.foldl (fun (t : State) (k : Fin 16) =>
    let st : StreamSt := t.res.streams[k]
    let m := streamSources t k
    if !st.running then t else
    let fits := fun (r : DarkRun) => r.cause == cause && r.sources == m && r.last + 1 == first
    let now := if st.darks.any fits then (st.darks.filter fits).map (fun r => { r with last := last, stop := stop })
      else [⟨first, last, cause, m, start, stop, parity t⟩]
    (st.darks.filter (fun r => !fits r)).foldl (fun u r => writeDark k r u)
      (modStream k (fun (x : StreamSt) => { x with darks := now, darkNow := [] }) t)) s

/-- A stream's E for the configuration in force: the admitted one, or a higher one that applied later (R379). -/
def epochCost (k : Fin 16) (p : Nat) (s : State) : Nat :=
  max (s.res.streams[k] : StreamSt).e (streamCost (streamDef s.shadow k) (inForce s) (some p)).1

/-- A running stream at boundary `m` of a schedule: dark causes with their masks, then its reservation (R380, R381). -/
def runStream (m : Word) (c : Schedule) (causes : List (Nat × Nat)) (k : Fin 16) (s : State) : State :=
  let st : StreamSt := s.res.streams[k]
  let src := streamSources s k
  let others := (causes.map (fun x => (x.1, x.2 &&& src))).filter (fun x => x.2 != 0)
  let dark := others.foldl (fun a x => a ||| x.2) 0
  let live := src &&& (0x1FF ^^^ (dark &&& 0x1FF))
  let e := epochCost k c.p s
  let free := freeSpace st
  let above := st.overAdmit || decide (st.e < e)
  let full := live != 0 && (if st.full then decide (free < e ∨ 2 * free < st.pages * 4096) else decide (free < e))
  let takes := live != 0 && !full
  let s := modStream k (fun (x : StreamSt) => { x with
    overAdmit := above
    full := if live = 0 then st.full else full
    darkNow := others ++ (if full then [(1, 0x1FF)] else [])
    accEpoch := some m
    accMask := if takes then live else 0
    reserved := if takes then e else 0 }) s
  let s := if full && !st.full then raise 9 Src.resStreamDark noItem s else s
  darkEpoch k m (epochStart c m) (epochStart c m + c.pNs) s

/-- Step 3 of R31 for the streams at boundary `m`: stops, then starts, then reservations and dark intervals. -/
def resBoundary (m : Word) (c : Schedule) (causes : List (Nat × Nat)) (s : State) : State :=
  let due := fun (e : Option Word) => match e with
    | some e => !laterW e m
    | none => false
  let causes := if s.res.restart then causes ++ [(4, 0x1FF)] else causes
  let s := allStreams.foldl (fun (t : State) (k : Fin 16) =>
    if due (t.res.streams[k] : StreamSt).stopAt then stopStream k t else t) s
  let s := { s with res := { s.res with streams := s.res.streams.map (fun (x : StreamSt) => { x with
    prevEpoch := x.accEpoch, prevMask := x.accMask, prevReserved := x.reserved, accEpoch := none, accMask := 0
    reserved := 0 }) } }
  let s := settleEpochs s
  allStreams.foldl (fun (t : State) (k : Fin 16) =>
    let t := if due (t.res.streams[k] : StreamSt).startAt then
        modStream k (fun (x : StreamSt) => { x with startAt := none, running := true, full := false }) t
      else t
    if (t.res.streams[k] : StreamSt).running then runStream m c causes k t else t) s

/-! ### Reading the drains -/

/-- The drain of an interface's stream port (R382). -/
def ifaceDrain : Iface → Nat
  | .twi => 0
  | .quad => 1

/-- A record put in its place in the order of completion. -/
def insRec (x : Fin 16 × Rec) : List (Fin 16 × Rec) → List (Fin 16 × Rec)
  | [] => [x]
  | y :: l => if x.2.order < y.2.order then x :: y :: l else y :: insRec x l

/-- The unreleased records of every stream of an interface's port, in order of completion (R92). -/
def portRecs (i : Iface) (s : State) : List (Fin 16 × Rec) :=
  (allStreams.filter (fun (k : Fin 16) => streamDrain s k == ifaceDrain i)).foldl
    (fun a k => (s.res.streams[k] : StreamSt).recs.foldl (fun b r => insRec (k, r) b) a) []

/-- Bytes of whole records held for an interface's port. -/
def portTotal (i : Iface) (s : State) : Nat := sumNat ((portRecs i s).map (fun r => r.2.bytes.length))

/-- HW_RD_AVAIL (R92). -/
def rdAvail (i : Iface) (s : State) : Nat := portTotal i s - (hostPort s i).rdCursor

/-- `n` bytes read from the stream port, with RD_UNDERRUN for those past the end (R92, R109). -/
def readPort (i : Iface) (n : Nat) (s : State) : List Byte × State :=
  let c := (hostPort s i).rdCursor
  let l := (((portRecs i s).flatMap (fun r => r.2.bytes)).drop c).take n
  (padTo n 0 l, modPort i (fun p => { p with
    rdCursor := c + l.length
    portStat := if l.length < n then p.portStat ||| 0b00100 else p.portStat }) s)

/-- The records of a list whose last byte lies before a cursor, and their bytes. -/
def readRecs : Nat → List (Fin 16 × Rec) → List (Fin 16 × Rec)
  | _, [] => []
  | c, r :: l => if r.2.bytes.length ≤ c then r :: readRecs (c - r.2.bytes.length) l else []

/-- HW_RD_CTRL commit: the records read whole are released (R93). -/
def commitPort (i : Iface) (s : State) : State :=
  let rs := readRecs (hostPort s i).rdCursor (portRecs i s)
  let s := modPort i (fun p => { p with rdCursor := p.rdCursor - sumNat (rs.map (fun r => r.2.bytes.length)) }) s
  allStreams.foldl (fun t k => releaseRecs k (fun r => rs.any (fun x => x.1 == k && x.2.order == r.order)) t) s

/-- HW_RD_CTRL rewind (R93). -/
def rewindPort (i : Iface) (s : State) : State := modPort i (fun p => { p with rdCursor := 0 }) s

/-- One byte of the alarm port (R94). -/
def readAlarm (i : Iface) (s : State) : Byte × State :=
  match s.res.alarms with
  | [] => (0, modPort i (fun p => { p with portStat := p.portStat ||| 0b01000 }) s)
  | e :: l =>
    let c := s.hif.alarmCursor
    let done := decide (31 ≤ c)
    (e.getD c 0, { s with
      hif := { s.hif with alarmCursor := if done then 0 else c + 1 }
      res := if done then { s.res with alarms := l } else s.res })

/-- DRAIN_LATE (R383): once for the oldest unreleased record. -/
def execDrainLate (k : Fin 16) (s : State) : Host.Outcome State Fault Refusal :=
  .next (
    let st : StreamSt := s.res.streams[k]
    match st.recs with
    | r :: l =>
      if !st.admitted || r.late || streamDrain s k == 3 || drainLat s.shadow (streamDrain s k) == 0 then s else
      raise 9 Src.resDrainLate noItem (modStream k (fun (x : StreamSt) => { x with recs := { r with late := true } :: l }) s)
    | [] => s)

/-! ### Registers -/

/-- The read-only words of Table 12-10, by block offset. -/
def resRo (s : State) (o : Nat) : Nat :=
  if o = 4 then
    pagesHeld s + 65536 * sumNat (allStreams.map (fun k => b1 (s.res.streams[k] : StreamSt).running * 2 ^ k.val))
  else if o = 8 then s.res.alarms.length + 65536 * s.res.alarmLost.toNat
  else if 0x100 ≤ o ∧ o < 0x500 then
    let k : Fin 16 := Fin.ofNat 16 ((o - 0x100) / 0x40)
    let st : StreamSt := s.res.streams[k]
    match (o - 0x100) % 0x40 with
    | 0x04 => st.pages + 65536 * st.base
    | 0x08 =>
      b1 (streamDefined s k) + 2 * b1 st.admitted + 4 * b1 st.running + 8 * b1 (st.startAt.isSome || st.stopAt.isSome)
        + 16 * b1 (!st.darks.isEmpty) + 32 * b1 st.overAdmit + 64 * b1 st.rx.isSome
        + 256 * maxNat (st.darks.map (·.cause)) + 65536 * min 0xFFFF (freeSpace st / 64)
    | 0x0C => st.seq.toNat
    | 0x10 => if st.admitted then st.e else 0
    | 0x14 => st.darkRuns.toNat + 65536 * st.marksLost.toNat
    | _ => 0
  else 0

/-- The RC fields a read of an offset clears. -/
def resRc (o : Nat) (s : State) : State :=
  if o = 8 then { s with res := { s.res with alarmLost := 0 } }
  else if 0x100 ≤ o ∧ o < 0x500 ∧ (o - 0x100) % 0x40 = 0x14 then
    modStream (Fin.ofNat 16 ((o - 0x100) / 0x40)) (fun (x : StreamSt) => { x with darkRuns := 0, marksLost := 0 }) s
  else s

/-- The rules of a write to the RES registers, on a candidate file (R391). -/
def resRule (s : State) (f : RegFile) (o : Nat) : Option Byte :=
  if 0x10 ≤ o ∧ o < 0x28 then if drainOk s f ((o - 0x10) / 8) then none else some 0x13
  else if 0x100 ≤ o ∧ o < 0x500 then
    let k := (o - 0x100) / 0x40
    if !streamOk (streamDef f k) (inForce s) (periodUs s) then some 0x13
    else if (s.res.streams[(Fin.ofNat 16 k : Fin 16)] : StreamSt).running then some 0x30
    else none
  else none

/-- A write to a RES_STREAMs register withdraws the admission, before the word changes (R391). -/
def resTouch (o : Nat) (s : State) : State :=
  if 0x100 ≤ o ∧ o < 0x500 then withdraw (Fin.ofNat 16 ((o - 0x100) / 0x40)) s else s

end Sys2Proof.Machine
end

