-- ==== Sys2Proof/Machine/Time.lean ====
section
/-! DEFINITION. The nanosecond time base (chapter 10): the servo, steps, holdover, PPS, beacons, triggers, captures,
the TIME commands and registers. -/
namespace Sys2Proof.Machine

open Sys2Proof

/-! ### Configuration fields -/

/-- PPS_EN. -/
def ppsEn (s : State) : Bool := bitOf (shw s Reg.timeServoCfg) 16
/-- LOCK_THR in 1/65,536 ns. -/
def lockThr (s : State) : Int := fld (shw s Reg.timeServoCfg) 24 8 * 65536

/-- The PPS servo runs: the lamplighter, ACQ and PPS_EN (R323). -/
def ppsWanted (s : State) : Bool := timeAcq s && s.time.state == .lamplighter && ppsEn s

/-- The rate of TIME_RATE_TRIM put in force where Table 10-1 names it: in FREE, and on a lamplighter without the PPS
servo. -/
def rateFix (s : State) : State :=
  if s.time.state = .free ∨ (s.time.state = .lamplighter ∧ !s.time.ppsOn) then setRate (clampY (rateTrim s)) s else s

/-- The PPS servo started with I at the y in force, or ended (R323). -/
def ppsFix (s : State) : State :=
  if ppsWanted s && !s.time.ppsOn then
    { s with time := { s.time with ppsOn := true, ppsSeen := false, ppsLost := false, integ := s.time.y, bigTheta := none } }
  else if !ppsWanted s && s.time.ppsOn then rateFix { s with time := { s.time with ppsOn := false } }
  else s

/-- INTERVAL of TIME_BEACON_CFG taken while the device is lamplighter (R317). -/
def beaconFix (s : State) : State :=
  if isLamplighter s then
    { s with time := { s.time with interval := BitVec.ofNat 3 (fld (shw s Reg.timeBeaconCfg) 0 3) } }
  else s

/-- What a write of TIME configuration puts in force at the next tick (section 10.10). -/
def timeTouched (s : State) : State := beaconFix (rateFix (ppsFix s))

/-! ### Marks and steps -/

/-- A mark emitted now (R331). -/
def mark (time kind unit : Nat) (falling step : Bool) (data : Nat) (s : State) : State :=
  addMark (markEntry s time kind unit falling step data) s

/-- Instants of a trigger from its next one up to, and not at, a limit. -/
def passedCount (s : State) (t : TrigSt) (lim : Nat) : Nat :=
  if !t.armed || decide (lim ≤ t.next) then 0 else
  let per := match t.mode with
    | 2 => t.period
    | 3 => (match s.time.sched with | some c => c.pNs | none => 0)
    | _ => 0
  if per = 0 then 1 else (lim - 1 - t.next) / per + 1

/-- The triggers passed over by a forward step to `lim`: one MISSED each instant (R327). -/
def passTriggers (lim : Nat) (s : State) : State :=
  (List.finRange 16).foldl (fun (u : State) (i : Fin 16) =>
    let t := u.time.trigs[i]
    let k := passedCount u t lim
    if k = 0 then u else
    let t' := { trigNext u t (lim - 1) false with missed := sat16 t.missed k }
    raise 7 Src.timeTriggerMissed noItem { u with time := { u.time with trigs := u.time.trigs.set i.1 t' i.2 } }) s

/-- The counter moved by an amount in 1/65,536 ns. -/
def moveCounter (d : Int) (s : State) : State :=
  let v := ((s.time.ns : Int) * 2 ^ 32 + s.time.frac + d * 65536) % 2 ^ 96
  { s with time := { s.time with ns := (v / 2 ^ 32).toNat, frac := (v % 2 ^ 32).toNat } }

/-- The effects of a step of an acquired counter that began at `old` (R327). -/
def stepEffects (old : Nat) (s : State) : State :=
  let d : Int := (s.time.ns : Int) - old
  let s := { s with time := { s.time with
    steps := sat16 s.time.steps 1, stepped := true, stepTick := some (s.time.ns, s.time.frac) } }
  let s := if 0 < d then passTriggers s.time.ns s else s
  let s := raise 7 Src.timeStep noItem s
  mark s.time.ns 0x82 0xFF false false (ux 32 (clampI (-2147483647) 2147483647 d)) s

/-- An acquired counter steps by an amount in 1/65,536 ns. -/
def stepBy (d : Int) (s : State) : State := stepEffects s.time.ns (moveCounter d s)

/-- An acquired counter is loaded with a value. -/
def stepTo (v : Nat) (s : State) : State :=
  stepEffects s.time.ns { s with time := { s.time with ns := v % 2 ^ 64, frac := 0 } }

/-- Time acquired on the lamplighter (R312, Table 10-2). -/
def acquireLamplighter (v : Nat) (s : State) : State :=
  timeTouched { s with time := { s.time with ns := v % 2 ^ 64, frac := 0, acq := true, state := .lamplighter, epoch := none } }

/-! ### The servo -/

/-- One update of the servo of R321 for θ in 1/65,536 ns, Tb in ns and the shifts. Divisions the spec does not round
go down or up by a free choice (log entry 43). -/
def servo (theta : Int) (tb kp ki : Nat) (s : State) : State :=
  let num := theta * 10 ^ 12
  let (di, s) := if s.time.clamped then (0, s) else freeDiv num (65536 * tb * 2 ^ ki) s
  let (dp, s) := freeDiv num (65536 * tb * 2 ^ kp) s
  let i := s.time.integ + di
  let y := dp + i
  let cl := decide (clampY y ≠ y)
  let run := if cl then s.time.clampRun + 1 else 0
  let s := setRate (clampY y) { s with time := { s.time with integ := i, clamped := cl, clampRun := run } }
  if run = 8 then raise 7 Src.timeServoClamp noItem s else s

/-- θ as last found, with TIME_OFFSET (Table 10-13). -/
def noteTheta (theta : Int) (s : State) : State :=
  let (r, s) := freeDiv theta 4096 s
  { s with time := { s.time with theta := theta, thetaReg := clampI (-2147483648) 2147483647 r } }

/-- d_avg, with TIME_PATH. -/
def notePath (d : Int) (s : State) : State :=
  let (r, s) := freeDiv d 4096 s
  { s with time := { s.time with dAvg := some d, pathReg := clampI 0 4294967295 r } }

/-- An exchange discarded (R320). -/
def badExchange (s : State) : State :=
  raise 7 Src.timeBadExchange noItem { s with time := { s.time with badExch := sat16 s.time.badExch 1, exch := none } }

/-- HOLDOVER entered: I frozen as y, the mark and the fault (R325). -/
def enterHoldover (s : State) : State :=
  let s := setRate (clampY s.time.integ) { s with time := { s.time with
    state := .holdover, exch := none, inThr := 0, outThr := 0, bigTheta := none, holdovers := sat16 s.time.holdovers 1 } }
  raise 7 Src.timeHoldover noItem (mark s.time.ns 0x83 0xFF false false 0 s)

/-- A state entered on leaving HOLDOVER or FREE: the HOLDOVER_OFF mark where it was HOLDOVER. -/
def leaveHoldover (st : TimeState) (s : State) : State :=
  let was := s.time.state = .holdover
  let s := { s with time := { s.time with state := st, inThr := 0, outThr := 0 } }
  if was then mark s.time.ns 0x84 0xFF false false 0 s else s

/-- The lock state after an exchange handled with θ (Table 10-2). -/
def lockState (theta : Int) (s : State) : State :=
  let within := decide (-(lockThr s) ≤ theta ∧ theta ≤ lockThr s)
  let s := { s with time := { s.time with
    inThr := if within then s.time.inThr + 1 else 0, outThr := if within then 0 else s.time.outThr + 1 } }
  if s.time.state = .locking ∧ 8 ≤ s.time.inThr then
    mark s.time.ns 0x85 0xFF false false 0 { s with time := { s.time with state := .locked } }
  else if s.time.state = .locked ∧ 3 ≤ s.time.outThr then { s with time := { s.time with state := .locking, inThr := 0 } }
  else s

/-- Two values of θ agree within 10 us (R326). -/
def thetaAgree (a b : Int) : Bool := decide (-655360000 ≤ a - b ∧ a - b ≤ 655360000)

/-- θ is at or above 1 ms (R326). -/
def thetaBig (t : Int) : Bool := decide (65536000000 ≤ t ∨ t ≤ -65536000000)

/-! ### The lamplighter's role -/

/-- The device becomes lamplighter with its counter as it stands (Table 10-2). -/
def becomeLamplighter (s : State) : State :=
  let s := { s with time := { s.time with depth := 0, exch := none, missedRun := 0 } }
  if timeAcq s then timeTouched (leaveHoldover .lamplighter s) else timeTouched s

/-- Another device becomes lamplighter: an acquired counter goes into HOLDOVER at once (R325). -/
def followAnother (s : State) : State :=
  let s := { s with time := { s.time with ppsOn := false, slew := none } }
  if timeAcq s ∧ s.time.state ≠ .holdover then enterHoldover s else s

/-! ### Commands -/

/-- TIME_SET (Table 10-10). -/
def timeSetBody (p : Packet) (s : State) : CmdResult :=
  let q := p.params
  let m := u8 q 0
  let v := u64 q 4
  let sv := sx 64 v
  let before := le 8 (stampRun s)
  checked s
    [(decide (q.length = 12), 0x11),
     (decide (m ≤ 3) && zeros q 1 3 && (m != 3 || decide (-1000000 ≤ sv ∧ sv ≤ 1000000)), 0x13),
     (isLamplighter s && (m ≤ 1 || s.time.acq) && s.time.slew.isNone && s.time.ppsSet.isNone, 0x30)]
    (fun _ => okCmd (match m with
      | 0 => if s.time.acq then stepTo v s else acquireLamplighter v s
      | 1 => { s with time := { s.time with ppsSet := some v } }
      | 2 => stepBy (sv * 65536) s
      | _ => if sv = 0 then s else setRate s.time.y { s with time := { s.time with slew := some sv } }) before)

/-- A port number as a byte, 0xFF for none. -/
def portByte (p : Option (Fin 4)) : Byte :=
  match p with
  | some n => BitVec.ofNat 8 n.val
  | none => 0xFF

/-- TIME_GET (Table 10-11). -/
def timeGetBody (p : Packet) (s : State) : CmdResult :=
  let t := s.time
  checked s [(p.params.isEmpty, 0x11)] (fun _ => okCmd s
    (le 8 (stampRun s) ++ [BitVec.ofNat 8 (match t.state with
        | .stopped => 0 | .free => 1 | .lamplighter => 2 | .locking => 3 | .locked => 4 | .holdover => 5),
      BitVec.ofNat 8 t.depth, portByte s.link.parent,
      BitVec.ofNat 8 (b1 t.acq + 2 * b1 (isLamplighter s) + 4 * b1 t.ppsOn + 8 * b1 t.clamped + 16 * b1 t.slew.isSome)]
      ++ leI 4 t.thetaReg ++ leI 4 t.pathReg ++ leI 4 t.y ++ le 4 (reportEpoch s).toNat))

/-- SERVO_CONFIG (Table 10-12). -/
def servoConfigBody (p : Packet) (s : State) : CmdResult :=
  let q := p.params
  let trim := sx 32 (u32 q 8)
  let cfg := wd (u8 q 0 + 16 * u8 q 1 + 256 * u8 q 2 + 4096 * u8 q 3 + 65536 * u8 q 4 + 2 ^ 24 * u8 q 5)
  checked s
    [(decide (q.length = 20), 0x11),
     (decide (u8 q 0 ≤ 7 ∧ u8 q 1 ≤ 15 ∧ u8 q 2 ≤ 7 ∧ u8 q 3 ≤ 15 ∧ u8 q 4 ≤ 3 ∧ 1 ≤ u8 q 5 ∧ u16 q 6 ≤ 500
        ∧ -500000000 ≤ trim ∧ trim ≤ 500000000), 0x13)]
    (fun _ => okCmd (timeTouched (setShws ([(Reg.timeServoCfg, cfg), (Reg.timePpsCfg, wd (u16 q 6)),
        (Reg.timeRateTrim, w32 q 8)] ++ (List.range 4).map (fun n => (Reg.timePortAsym n, wd (u16 q (12 + 2 * n))))) s)) [])

/-- A trigger disarmed by MODE = 0 (R329). -/
def disarm (u : Fin 16) (s : State) : State :=
  { s with time := { s.time with
    trigs := vmod s.time.trigs u (fun t => { t with armed := false, mode := 0, next := 0 }) } }

/-- A trigger's registers as they stand are taken: armed, or disarmed by MODE = 0 (R329). -/
def takeTrigger (u : Fin 16) (s : State) : State :=
  if fld (shw s (Reg.timeTrgCfg u)) 0 2 = 0 then disarm u s else armRaise u s

/-- The state a trigger of a mode needs (TRIGGER_SET). -/
def trigState (s : State) (mode : Nat) : Bool :=
  if mode = 1 ∨ mode = 2 then timeAcq s else if mode = 3 then timeRuns s && s.time.sched.isSome else true

/-- PERIOD and INSTANT fit the mode (TRIGGER_SET). -/
def trigFits (s : State) (mode inst per : Nat) : Bool :=
  (mode != 2 || decide (10000 ≤ per)) &&
  (mode != 3 || (match s.time.sched with | some c => decide (inst < c.pNs) | none => true))

/-- TRIGGER_SET. -/
def triggerSetBody (p : Packet) (s : State) : CmdResult :=
  let q := p.params
  let u : Fin 16 := Fin.ofNat 16 (u8 q 0)
  let m := u8 q 1
  checked s
    [(decide (q.length = 20), 0x11),
     (decide (u8 q 0 ≤ 15 ∧ m ≤ 3 ∧ u8 q 2 ≤ 1 ∧ u8 q 3 = 0 ∧ (m ≠ 2 ∨ 10000 ≤ u32 q 12)), 0x13),
     (trigFits s m (u64 q 4) (u32 q 12), 0x13), (trigState s m, 0x30)]
    (fun _ =>
      let t := takeTrigger u (setShws [(Reg.timeTrgCfg u, wd (m + 4 * u8 q 2)), (Reg.timeTrgInstLo u, w32 q 4),
        (Reg.timeTrgInstHi u, w32 q 8), (Reg.timeTrgPeriod u, w32 q 12), (Reg.timeTrgCount u, w32 q 16)] s)
      okCmd t (le 8 (if t.time.trigs[u].armed then t.time.trigs[u].next else 0)))

/-- CAPTURE_CONFIG. -/
def captureConfigBody (p : Packet) (s : State) : CmdResult :=
  let q := p.params
  let c := u8 q 0
  checked s
    [(decide (q.length = 4), 0x11),
     (decide (c ≤ 7 ∧ u8 q 1 ≤ 6 ∧ 1 ≤ u8 q 2 ∧ u8 q 2 ≤ 3 ∧ u8 q 3 ≤ 1), 0x13)]
    (fun _ =>
      let s := setShw (Reg.timeCapCfg c) (wd (u8 q 1 + 16 * u8 q 2 + 256 * u8 q 3)) s
      okCmd { s with time := { s.time with
        caps := vmodN s.time.caps c (fun x => { x with valid := false, overrun := false }) } } [])

/-- BEACON_CONFIG. -/
def beaconConfigBody (p : Packet) (s : State) : CmdResult :=
  let q := p.params
  checked s
    [(decide (q.length = 4), 0x11), (decide (u8 q 0 ≤ 5 ∧ u8 q 1 ≤ 15) && zeros q 2 2, 0x13)]
    (fun _ => okCmd (timeTouched (setShw Reg.timeBeaconCfg (wd (u8 q 0 + 16 * u8 q 1)) s)) [])

/-- The configuration fits a period: the frame schedule, and every enabled lane's rate and chop group (R27, R28, R159,
R260). -/
def periodFits (f : RegFile) (cur p : Nat) : Bool :=
  fitOk f cur (some p) && lanes32.all (fun n => !laneEn f n || rateFits (some p) (laneRate f n)) && groups8.all (chopOk f)

/-- EPOCH_SET (R22, R23). -/
def epochSetBody (p : Packet) (s : State) : CmdResult :=
  let q := p.params
  let per := u32 q 0
  let t0 := u64 q 4
  checked s
    [(decide (q.length = 12), 0x11), (decide (1000 ≤ per ∧ per ≤ 1000000), 0x13),
     (decide (s.time.ns + 1000000 ≤ t0 ∧ t0 ≤ s.time.ns + 1000000000000), 0x13),
     (periodFits s.shadow (curCarrier s) per, 0x13),
     (isLamplighter s && timeAcq s && s.time.sched.isNone, 0x30)]
    (fun _ => okCmd { s with time := { s.time with sched := some ⟨per, t0, 0⟩, epoch := none, lastAcq := none } } [])

/-- TIME_SET (R327). -/
def execTimeSet (p : Packet) (s : State) : Host.Outcome State Fault Refusal := .next (runCommand 0x60 timeSetBody p s)
/-- TIME_GET (R315). -/
def execTimeGet (p : Packet) (s : State) : Host.Outcome State Fault Refusal := .next (runCommand 0x61 timeGetBody p s)
/-- SERVO_CONFIG (R321). -/
def execServoConfig (p : Packet) (s : State) : Host.Outcome State Fault Refusal :=
  .next (runCommand 0x62 servoConfigBody p s)
/-- TRIGGER_SET (R329). -/
def execTriggerSet (p : Packet) (s : State) : Host.Outcome State Fault Refusal :=
  .next (runCommand 0x63 triggerSetBody p s)
/-- CAPTURE_CONFIG (R330). -/
def execCaptureConfig (p : Packet) (s : State) : Host.Outcome State Fault Refusal :=
  .next (runCommand 0x64 captureConfigBody p s)
/-- BEACON_CONFIG (R317). -/
def execBeaconConfig (p : Packet) (s : State) : Host.Outcome State Fault Refusal :=
  .next (runCommand 0x65 beaconConfigBody p s)
/-- EPOCH_SET (R23). -/
def execEpochSet (p : Packet) (s : State) : Host.Outcome State Fault Refusal := .next (runCommand 0x66 epochSetBody p s)

/-! ### Registers -/

/-- The code of a time-base state (Table 10-2). -/
def timeCode : TimeState → Nat
  | .stopped => 0
  | .free => 1
  | .lamplighter => 2
  | .locking => 3
  | .locked => 4
  | .holdover => 5

/-- The read-only words of Tables 10-13 to 10-15, by block offset. -/
def timeRo (s : State) (o : Nat) : Nat :=
  let t := s.time
  let sch := fun (f : Schedule → Nat) => match t.sched with
    | some c => f c
    | none => 0
  if o = 0 then t.ns % 2 ^ 32
  else if o = 0x04 then t.latchHi.toNat
  else if o = 0x08 then t.latchFrac.toNat
  else if o = 0x0C then t.incr % 2 ^ 32
  else if o = 0x10 then t.incr / 2 ^ 32 % 16
  else if o = 0x14 then
    timeCode t.state + 8 * b1 t.acq + 16 * b1 (isLamplighter s) + 32 * b1 t.ppsOn + 64 * b1 t.ppsSet.isSome
      + 128 * b1 t.slew.isSome + 256 * (match s.link.parent with | some p => p.val | none => 0)
      + 1024 * b1 s.link.parent.isSome + 2048 * b1 t.clamped + put 16 5 t.depth + 2 ^ 24 * t.interval.toNat
  else if o = 0x20 then ux 32 t.thetaReg
  else if o = 0x24 then ux 32 t.y
  else if o = 0x28 then ux 32 t.integ
  else if o = 0x2C then ux 32 t.pathReg
  else if o = 0x30 then sch (fun c => c.p + 2 ^ 31)
  else if o = 0x34 then sch (fun c => c.t0 % 2 ^ 32)
  else if o = 0x38 then sch (fun c => c.t0 / 2 ^ 32)
  else if o = 0x3C then sch (fun c => c.n0.toNat)
  else if o = 0x40 then (reportEpoch s).toNat
  else if o = 0x4C then t.steps.toNat + 65536 * t.holdovers.toNat
  else if o = 0x50 then t.badExch.toNat + 65536 * t.missed.toNat
  else if 0x100 ≤ o ∧ o < 0x300 then
    let x := vget t.trigs ((o - 0x100) / 0x20) {}
    let k := (o - 0x100) % 0x20
    let nx := if x.armed then x.next else 0
    if k = 0 then 256 * b1 x.armed
    else if k = 0x14 then nx % 2 ^ 32
    else if k = 0x18 then nx / 2 ^ 32
    else if k = 0x1C then x.fired.toNat + 65536 * x.missed.toNat
    else 0
  else if 0x400 ≤ o ∧ o < 0x480 then
    let x := vget t.caps ((o - 0x400) / 0x10) {}
    let k := (o - 0x400) % 0x10
    if k = 4 then x.time.toNat % 2 ^ 32
    else if k = 8 then x.time.toNat / 2 ^ 32
    else if k = 0xC then b1 x.valid + 2 * b1 x.overrun + 4 * b1 x.falling + 8 * b1 x.step + 65536 * x.count.toNat
    else 0
  else 0

/-- The RC fields a read of an offset clears, and the latch of TIME_NOW_LO (R314). -/
def timeRc (o : Nat) (s : State) : State :=
  let t := s.time
  if o = 0 then { s with time := { t with latchHi := BitVec.ofNat 32 (t.ns / 2 ^ 32), latchFrac := BitVec.ofNat 32 t.frac } }
  else if o = 0x4C then { s with time := { t with steps := 0, holdovers := 0 } }
  else if o = 0x50 then { s with time := { t with badExch := 0, missed := 0 } }
  else if 0x100 ≤ o ∧ o < 0x300 ∧ (o - 0x100) % 0x20 = 0x1C then
    { s with time := { t with trigs := vmodN t.trigs ((o - 0x100) / 0x20) (fun (x : TrigSt) => { x with fired := 0, missed := 0 }) } }
  else if 0x400 ≤ o ∧ o < 0x480 ∧ (o - 0x400) % 0x10 = 0xC then
    { s with time := { t with caps := vmodN t.caps ((o - 0x400) / 0x10) (fun (x : CapSt) => { x with count := 0 }) } }
  else s

/-- The W1C bits of TIME_CAPc_STAT. -/
def capW1c (c : Nat) (w : Word) (s : State) : State :=
  { s with time := { s.time with caps := vmodN s.time.caps c (fun (x : CapSt) => { x with
    valid := x.valid && !bitOf w 0, overrun := x.overrun && !bitOf w 1 }) } }

/-- The rules of the commands that set TIME fields, on a candidate file. -/
def timeRule (s : State) (f : RegFile) (o : Nat) : Option Byte :=
  let ok := fun (b : Bool) => if b then none else some (0x13 : Byte)
  let w := fileGet f (0x01070000 + o)
  if o = 0x18 then ok (decide (1 ≤ fld w 24 8))
  else if o = 0x1C then ok (decide (-500000000 ≤ sx 32 w.toNat ∧ sx 32 w.toNat ≤ 500000000))
  else if o = 0x48 then ok (decide (fld w 0 3 ≤ 5))
  else if o = 0x58 then ok (decide (fld w 0 9 ≤ 500))
  else if 0x100 ≤ o ∧ o < 0x300 then
    let u := (o - 0x100) / 0x20
    let m := fld (fileGet f (Reg.timeTrgCfg u)) 0 2
    let inst := (fileGet f (Reg.timeTrgInstLo u)).toNat + 2 ^ 32 * (fileGet f (Reg.timeTrgInstHi u)).toNat
    if !trigFits s m inst (fileGet f (Reg.timeTrgPeriod u)).toNat then some 0x13
    else if (o - 0x100) % 0x20 = 0 ∧ !trigState s m then some 0x30
    else none
  else if 0x400 ≤ o ∧ o < 0x480 ∧ o % 0x10 = 0 then ok (decide (fld w 0 3 ≤ 6) && fld w 4 2 != 0)
  else none

/-- TIME_NOW_LATCH (R314). -/
def execTimeNowLatch (s : State) : Host.Outcome State Fault Refusal := .next (timeRc 0 s)

/-! ### Edges -/

/-- A capture unit takes an edge (R330). -/
def captureOne (c : Fin 8) (falling : Bool) (t : Long) (s : State) : State :=
  let x := s.time.caps[c]
  let step := s.time.stepTick == some (s.time.ns, s.time.frac)
  let x' : CapSt := { x with
    time := t, valid := true, overrun := x.overrun || x.valid, falling := falling, step := step, count := sat16 x.count 1 }
  let s := { s with time := { s.time with caps := s.time.caps.set c.1 x' c.2 } }
  let s := if x.valid then raise 7 Src.timeCaptureOverrun noItem s else s
  if bitOf (shw s (Reg.timeCapCfg c)) 8 then mark t.toNat 0x80 c.val falling step 0 s else s

/-- The captures of an edge of a source (R330, Table 10-6). -/
def captureEdge (src : Nat) (falling : Bool) (t : Long) (s : State) : State :=
  (List.finRange 8).foldl (fun (u : State) (c : Fin 8) =>
    let w := shw u (Reg.timeCapCfg c)
    if fld w 0 3 = src ∧ bitOf w (if falling then 5 else 4) then captureOne c falling t u else u) s

/-- SYNC_EDGE (R114, R295, R330): the level follows; an edge that acts is captured, and a rising one in ACTIVE requests
an all-lane decimator reset. -/
def execSyncEdge (falling : Bool) (t : Long) (s : State) : Host.Outcome State Fault Refusal :=
  let cfg := shw s Reg.hifPinCfg
  if bitOf cfg 4 then .next s else
  let s := { s with hif := { s.hif with syncLevel := !falling } }
  if !bitOf cfg 6 || !timeRuns s || !awake s then .next s else
  let s := captureEdge 1 falling t s
  .next (if !falling && s.sys.power == .active then syncReset t s else s)

/-- TRIG_EDGE (R116): the level follows; the edge is captured, and one of the selected polarity feeds the conversion
start sources. -/
def execTrigEdge (n : Fin 4) (falling : Bool) (t : Long) (s : State) : Host.Outcome State Fault Refusal :=
  let m : BitVec 4 := 1#4 <<< n.val
  let s := { s with hif := { s.hif with
    trigLevel := if falling then s.hif.trigLevel &&& ~~~m else s.hif.trigLevel ||| m } }
  if !timeRuns s || !awake s then .next s else
  let s := captureEdge (2 + n.val) falling t s
  .next (if bitOf (shw s Reg.hifTrigCfg) (8 * n.val + b1 falling) then
      convEvent (sourceSel s 4 n.val) t.toNat s
    else s)

/-- The PPS servo takes an edge (R323, R326). -/
def ppsServo (t : Nat) (s : State) : State :=
  let r := t % 1000000000
  let (up, s) := if r = 500000000 then freshBit s else (decide (500000000 < r), s)
  let theta : Int := (if up then (r : Int) - 1000000000 else r) * 65536
  let s := { s with time := { s.time with ppsSeen := true, ppsLost := false } }
  if thetaBig theta then
    match s.time.bigTheta with
    | some b =>
      if thetaAgree theta b then
        noteTheta theta (stepBy (-theta) { s with time := { s.time with bigTheta := none } })
      else badExchange { s with time := { s.time with bigTheta := some theta } }
    | none => badExchange { s with time := { s.time with bigTheta := some theta } }
  else
    let cfg := shw s Reg.timeServoCfg
    noteTheta theta (servo theta 1000000000 (fld cfg 8 3) (fld cfg 12 4) { s with time := { s.time with bigTheta := none } })

/-- PPSIN_EDGE (R323, R327, R330). -/
def execPpsinEdge (falling : Bool) (t : Long) (s : State) : Host.Outcome State Fault Refusal :=
  if !timeRuns s || !awake s then .next s else
  let s := captureEdge 6 falling t s
  if falling != bitOf (shw s Reg.timeServoCfg) 17 then .next s else
  match s.time.ppsSet with
  | some v =>
    let v := v + (s.time.ns - t.toNat)
    let s := { s with time := { s.time with ppsSet := none } }
    .next (if s.time.acq then stepTo v s else acquireLamplighter v s)
  | none => .next (if s.time.ppsOn then ppsServo t.toNat s else s)

/-- PPS_LOST (R323): 2 s without an edge freeze y at I and cancel a pending SET_AT_PPS. -/
def execPpsLost (s : State) : Host.Outcome State Fault Refusal :=
  let lost := s.time.ppsOn && !s.time.ppsLost
  if !lost && s.time.ppsSet.isNone then .next s else
  let s := { s with time := { s.time with ppsSet := none, ppsLost := s.time.ppsLost || lost } }
  let s := if lost then setRate (clampY s.time.integ) s else s
  .next (raise 7 Src.timePpsLost noItem s)

/-- PPSOUT_PULSE (R324): PPSOUT rises at the next whole second of an acquired counter, or ends its pulse at its width. -/
def execPpsoutPulse (s : State) : Host.Outcome State Fault Refusal :=
  let w := fld (shw s Reg.timePpsCfg) 0 9
  if s.time.ppsOut then
    .next { advanceTo (s.time.ns / 1000000000 * 1000000000 + w * 1000000) s with time :=
      { (advanceTo (s.time.ns / 1000000000 * 1000000000 + w * 1000000) s).time with ppsOut := false } }
  else if !timeAcq s || w == 0 then .next s
  else
    let s := advanceTo (ceilDiv s.time.ns 1000000000 * 1000000000) s
    .next { s with time := { s.time with ppsOut := true } }

/-- TCLK_LOST (R322). -/
def execTclkLost (s : State) : Host.Outcome State Fault Refusal :=
  if s.sys.tref = 0 ∨ !timeRuns s then .next s else
  .next (raise 7 Src.timeTclkLost noItem { s with
    sys := { s.sys with tref := 0 }, time := { s.time with tclkLost := true } })

/-! ### Triggers and slews -/

/-- TIME_TRIGGER_FIRE (R313, R329). -/
def execTimeTriggerFire (u : Fin 16) (s : State) : Host.Outcome State Fault Refusal :=
  let t := s.time.trigs[u]
  if !t.armed || !timeRuns s then .next s else
  let e := t.next
  let s := advanceTo e s
  let t' := { trigNext s t e true with fired := sat16 t.fired 1 }
  let s := setShw (Reg.timeTrgCount u) t'.count { s with time := { s.time with trigs := s.time.trigs.set u.1 t' u.2 } }
  let s := convEvent (sourceSel s 2 u.val) e s
  .next (if t.mark then mark e 0x81 u.val false false 0 s else s)

/-- SLEW_END (R327): the counter has gained VALUE; with y at its limit in the slew's direction it never does. -/
def execSlewEnd (s : State) : Host.Outcome State Fault Refusal :=
  match s.time.slew with
  | none => .next s
  | some v =>
    if s.time.y = (if 0 < v then -500000000 else 500000000) then .next s else
    .next (setRate s.time.y { s with time := { s.time with slew := none } })

/-! ### Beacons -/

/-- The ports a SYNC leaves on: trained, enabled, not the parent port (R317). -/
def beaconPorts (s : State) : List (Fin 4) :=
  allPorts.filter (fun n => (s.link.ports[n].state == .trained || s.link.ports[n].state == .up)
    && bitOf (shw s Reg.timeBeaconCfg) (4 + n.val) && s.link.parent != some n)

/-- The lamplighter's address and unique ID, as this device holds them. -/
def llOf (s : State) : Byte × Long :=
  match s.link.ll with
  | some (u, _, a) => (a, u)
  | none => (ownAddr s, Config.uid)

/-- A SYNC payload sent at an instant (Table 10-3). -/
def syncPayload (s : State) (t : Nat) (seq : Half) : List Byte :=
  let (p, t0, n0) := match s.time.sched with
    | some c => (c.p, c.t0, c.n0.toNat)
    | none => (0, 0, 0)
  le 8 t ++ [0, 0] ++ le 2 seq.toNat ++ [BitVec.ofNat 8 s.time.interval.toNat, BitVec.ofNat 8 s.time.depth,
    BitVec.ofNat 8 (b1 s.time.acq + 2 * b1 s.time.sched.isSome + 4 * b1 s.time.ppsOn + 8 * b1 (s.time.state == .holdover)),
    (llOf s).1] ++ le 8 (llOf s).2.toNat ++ le 4 p ++ le 8 t0 ++ le 4 n0

/-- SYNC_FRAME_SEND (R316, R317): at the next whole multiple of Tb. -/
def execSyncFrameSend (s : State) : Host.Outcome State Fault Refusal :=
  if !timeAcq s || decide (15 < s.time.depth) then .next s else
  let t := ceilDiv s.time.ns (tbNs s) * tbNs s
  .next ((beaconPorts s).foldl (fun (u : State) (n : Fin 4) =>
    let q := u.time.syncSeq[n]
    let u := sendOn n (hopFrame u 4 (syncPayload u t q)) u
    { u with time := { u.time with syncSeq := vmod u.time.syncSeq n (· + 1) } }) (advanceTo t s))

/-- A stamp in 1/65,536 ns. -/
def stampI (t : Stamp) : Int := (t.ns.toNat * 65536 + t.frac.toNat : Nat)

/-- Beacons missed before a SYNC arrives at `t`, at most 3 (R325). -/
def missedBefore (s : State) (t : Nat) : Nat :=
  match s.time.lastSync with
  | none => 0
  | some p => ((List.range 3).filter (fun k => decide (2 * p + (2 * k + 3) * tbNs s < 2 * t))).length

/-- The schedule a SYNC carries, taken (R328): at once where none is held, at its first boundary where it differs. -/
def takeSchedule (f : SyncFrame) (s : State) : State :=
  if !f.sched then s else
  let c : Schedule := ⟨f.p, f.t0.toNat, f.n0⟩
  match s.time.sched with
  | none => { s with time := { s.time with sched := some c, epoch := none } }
  | some o =>
    if s.link.prep.any (fun x => syncCommits f.n0 f.p x.change) then commitHeld (syncCommits f.n0 f.p) s
    else { s with time := { s.time with adopt := if o = c then none else some c } }

/-- SYNC_FRAME_RECEIVE (R316, R319, R325, R328, R350). -/
def execSyncFrameReceive (p : Fin 4) (f : SyncFrame) (t2 : Stamp) (s : State) : Host.Outcome State Fault Refusal :=
  if !timeRuns s ∨ isLamplighter s ∨ s.link.parent ≠ some p ∨ f.llUid ≠ (llOf s).2 ∨ !f.acq ∨ 15 < f.depth ∨ 5 < f.interval
  then .next s else
  let k := if s.time.state = .holdover then 0 else missedBefore s t2.ns.toNat
  let s := { s with time := { s.time with
    missed := sat16 s.time.missed k, missedRun := 0, lastSync := some t2.ns.toNat
    interval := BitVec.ofNat 3 f.interval, depth := f.depth + 1
    exch := some ⟨stampI f.t1, stampI t2, none, f.seq, p.val, f.llUid⟩ } }
  .next (takeSchedule f s)

/-- DELAY_REQ_SEND (R319): on the parent port, with its stamp. -/
def execDelayReqSend (t3 : Stamp) (s : State) : Host.Outcome State Fault Refusal :=
  match s.time.exch, s.link.parent with
  | some e, some p =>
    if e.t3.isSome then .next s else
    let s := sendOn p (hopFrame s 5 (le 8 t3.ns.toNat ++ le 2 t3.frac.toNat ++ le 2 e.seq.toNat)) s
    .next { s with time := { s.time with exch := some { e with t3 := some (stampI t3) } } }
  | _, _ => .next s

/-- DELAY_REQ_RECEIVE (R319): the answer carries the receive stamp. -/
def execDelayReqReceive (p : Fin 4) (seq : Half) (t4 : Stamp) (s : State) : Host.Outcome State Fault Refusal :=
  if !timeAcq s then .next s else
  .next (sendOn p (hopFrame s 6 (le 8 t4.ns.toNat ++ le 2 t4.frac.toNat ++ le 2 seq.toNat)) s)

/-- An accepted exchange updates d_avg (R319). -/
def acceptPath (d2 : Int) (s : State) : State :=
  match s.time.dAvg with
  | none =>
    let (d, s) := freeDiv d2 2 s
    notePath d { s with time := { s.time with accepted := 1 } }
  | some a =>
    let (x, s) := freeDiv (d2 - 2 * a) 32 s
    notePath (a + x) { s with time := { s.time with accepted := s.time.accepted + 1 } }

/-- An exchange whose θ is known: stepped, discarded or fed to the servo (R326). -/
def useTheta (theta d2 : Int) (s : State) : State :=
  if s.time.state = .free then
    let s := moveCounter (-theta) (acceptPath d2 s)
    noteTheta theta { s with time := { s.time with acq := true, state := .locking, inThr := 0, outThr := 0, epoch := none } }
  else if thetaBig theta then
    match s.time.bigTheta with
    | some b =>
      if thetaAgree theta b then
        let s := { s with time := { s.time with
          bigTheta := none, accepted := s.time.accepted + 1 } }
        let s := if s.time.dAvg.isNone then acceptPath d2 s else s
        let s := noteTheta theta s
        lockState theta (if s.time.state = .holdover then leaveHoldover .locking (stepBy (-theta) s) else stepBy (-theta) s)
      else badExchange { s with time := { s.time with bigTheta := some theta } }
    | none => badExchange { s with time := { s.time with bigTheta := some theta } }
  else
    let s := acceptPath d2 { s with time := { s.time with bigTheta := none } }
    let s := noteTheta theta s
    let s := if s.time.state = .holdover then leaveHoldover .locking s else s
    let cfg := shw s Reg.timeServoCfg
    lockState theta (servo theta (tbNs s) (fld cfg 0 3) (fld cfg 4 4) s)

/-- DELAY_RESP_RECEIVE (R319 to R321, R326). -/
def execDelayRespReceive (p : Fin 4) (seq : Half) (t4 : Stamp) (s : State) : Host.Outcome State Fault Refusal :=
  match s.time.exch with
  | none => .next s
  | some e =>
    match e.t3 with
    | none => .next s
    | some t3 =>
      if e.port ≠ p.val then .next s else
      let d2 := (e.t2 - e.t1) + (stampI t4 - t3)
      let bad := decide (e.seq ≠ seq) || decide (d2 < 0) || decide (2 * 10000 * 65536 < d2)
        || decide (s.link.parent ≠ some p) || decide (e.llUid ≠ (llOf s).2)
        || (match s.time.dAvg with
            | some a => decide (16 ≤ s.time.accepted ∧ (2 * 100 * 65536 < d2 - 2 * a ∨ d2 - 2 * a < -(2 * 100 * 65536)))
            | none => false)
      if bad then .next (badExchange { s with time := { s.time with bigTheta := none } }) else
      let asym := sx 16 (shw s (Reg.timePortAsym p)).toNat
      let s := { s with time := { s.time with exch := none } }
      match s.time.dAvg with
      | some a => .next (useTheta ((e.t2 - e.t1) - a - asym * 2048) d2 s)
      | none =>
        let (d, s') := freeDiv d2 2 s
        .next (useTheta ((e.t2 - e.t1) - d - asym * 2048) d2 { s' with freeCtr := s.freeCtr })

/-- DELAY_RESP_TIMEOUT (R320). -/
def execDelayRespTimeout (s : State) : Host.Outcome State Fault Refusal :=
  match s.time.exch with
  | some e => if e.t3.isSome then .next (badExchange { s with time := { s.time with bigTheta := none } }) else .next s
  | none => .next s

/-- BEACON_MISSED (R325): the third consecutive missed beacon. -/
def execBeaconMissed (s : State) : Host.Outcome State Fault Refusal :=
  if s.time.state = .locking ∨ s.time.state = .locked then
    .next (enterHoldover { s with time := { s.time with missed := sat16 s.time.missed 3, missedRun := 3 } })
  else .next s

end Sys2Proof.Machine
end

