-- ==== Sys2Proof/Machine/Link.lean ====
section
/-! DEFINITION. The Guethlink fabric (chapter 11) but for mode changes: ports, topology, election, addresses, routes,
and the carrying of packets, stream segments and alarms. -/
namespace Sys2Proof.Machine

open Sys2Proof

/-- The ports run: STANDBY, ACTIVE or a held DORMANT (R338). -/
def linkRuns (s : State) : Bool := (awake s || s.sys.held) && !s.sys.inReset

/-- A port's state changed. -/
def modLink (n : Fin 4) (f : PortSt → PortSt) (s : State) : State :=
  { s with link := { s.link with ports := vmod s.link.ports n f } }

/-- Waiting frames of a port sent as far as credit allows. -/
def drainOn (n : Fin 4) (s : State) : State := modLink n (fun p => drainPort s.time.ns p.waiting.length p) s

/-- A joined device's database changed: it is unsettled (R349). -/
def touchDb (s : State) : State :=
  if s.link.joined then { s with link := { s.link with dirty := true, settled := false } } else s

/-! ### Ports -/

/-- PORT_TRAINED (R338). -/
def execPortTrained (p : Fin 4) (uid : Long) (s : State) : Host.Outcome State Fault Refusal :=
  .next (if linkRuns s && s.link.ports[p].state == .training then
      drainOn p (modLink p (fun x => { x with
        state := .trained, nbrUid := uid, loop := uid == Config.uid, mismatch := false }) s)
    else s)

/-- PORT_MISMATCH (R338). -/
def execPortMismatch (p : Fin 4) (s : State) : Host.Outcome State Fault Refusal :=
  .next (if linkRuns s && s.link.ports[p].state == .training then
      raise 8 Src.linkPortMismatch p.val (modLink p (fun x => { x with mismatch := true }) s)
    else s)

/-- The payload of a HELLO (R339; its layout is log entry 45's). -/
def helloPayload (s : State) (n : Fin 4) : List Byte :=
  uidBytes ++ [BitVec.ofNat 8 n.val, BitVec.ofNat 8 (fld (shw s Reg.linkCfg) 0 8), s.link.addr.getD 0xFF]

/-- HELLO_SEND (R339). -/
def execHelloSend (s : State) : Host.Outcome State Fault Refusal :=
  .next (if linkRuns s then
      allPorts.foldl (fun t n =>
        let p := t.link.ports[n]
        if (p.state == .trained || p.state == .up) && !p.loop then sendOn n (hopFrame t 0 (helloPayload t n)) t else t) s
    else s)

/-- HELLO_RECEIVE (R339): a trained port becomes UP. -/
def execHelloReceive (p : Fin 4) (h : Hello) (s : State) : Host.Outcome State Fault Refusal :=
  .next (
    let x := s.link.ports[p]
    if linkRuns s && (x.state == .trained || x.state == .up) && !x.loop then
      let was := x.state == .up && x.nbrUid == h.uid && x.nbrPort == h.port
      let s := modLink p (fun x => { x with state := .up, nbrUid := h.uid, nbrPort := h.port, nbrAddr := h.addr }) s
      drainOn p (if was then s else touchDb s)
    else s)

/-- A port back in training with its waiting frames kept and full credit (R339, log entry 45). -/
def toTraining (p : PortSt) : PortSt :=
  { p with state := .training, nbrUid := 0, nbrPort := 0, nbrAddr := 0xFF, loop := false, credit := #v[8, 512, 128, 128] }

/-- LINK_DOWN (R339, Table 11-10): 8 retrains within 60 s raise LINK_UNSTABLE. -/
def execLinkDown (p : Fin 4) (codeErrors : Nat) (s : State) : Host.Outcome State Fault Refusal :=
  .next (
    let x := s.link.ports[p]
    if x.state == .up || x.state == .trained then
      let ms := (s.sys.lpoMs :: x.retrainMs).filter (fun t => decide (s.sys.lpoMs < t + 60000))
      let bad := decide (8 ≤ ms.length)
      let s := touchDb (modLink p (fun x => { toTraining x with
        codeErr := sat16 x.codeErr codeErrors, retrains := sat16 x.retrains 1, retrainMs := if bad then [] else ms }) s)
      raiseAll ([(8, Src.linkLinkDown, p.val)] ++ (if bad then [(8, Src.linkLinkUnstable, p.val)] else [])) s
    else s)

/-- CREDIT_RECEIVE (R345): the credit returned lets waiting frames leave. -/
def execCreditReceive (p : Fin 4) (cls : Fin 4) (n : Byte) (s : State) : Host.Outcome State Fault Refusal :=
  let full : Vector Nat 4 := #v[8, 512, 128, 128]
  .next (drainOn p (modLink p (fun x => { x with credit := vmod x.credit cls (fun c => min full[cls] (c + n.toNat)) }) s))

/-- FRAME_DISCARD (R342, Table 11-10): 16 CRC errors within 1 s raise CRC_ERRORS. -/
def execFrameDiscard (p : Fin 4) (why : DiscardCause) (s : State) : Host.Outcome State Fault Refusal :=
  .next (
    let s := modLink p (fun x => { x with discards := sat16 x.discards 1 }) s
    if why = .crc then
      let ms := (s.sys.lpoMs :: s.link.ports[p].crcMs).filter (fun t => decide (s.sys.lpoMs < t + 1000))
      let bad := decide (16 ≤ ms.length)
      let s := modLink p (fun x => { x with crcErr := sat16 x.crcErr 1, crcMs := if bad then [] else ms }) s
      if bad then raise 8 Src.linkCrcErrors p.val s else s
    else s)

/-- FRAME_FORWARD (R344, R353, R354): a frame not addressed to this device. -/
def execFrameForward (p : Fin 4) (f : Frame) (s : State) : Host.Outcome State Fault Refusal :=
  .next (
    if !linkRuns s || f.dest == 0xFE || s.link.addr == some f.dest then s
    else if f.hops ≤ 1 then
      if f.dest = 0xFF then s else { s with link := { s.link with noRoute := sat16 s.link.noRoute 1 } }
    else
      let g := { f with hops := f.hops - 1 }
      if f.dest = 0xFF then
        if f.type = 0x08 ∨ f.type = 0x0C then sendOnAll ((treePorts s).filter (· != p)) g s else s
      else sendRouted g s)

/-! ### Topology -/

/-- STATE of a port as LINK_PORTn_STAT codes it. -/
def portCode : PortState → Nat
  | .off => 0
  | .training => 1
  | .trained => 2
  | .up => 3
  | .snuffed => 4

/-- This device's TOPO record (Table 11-7). -/
def ownTopo (joined : Bool) (s : State) : Topo :=
  { uid := Config.uid, seq := s.link.topoSeq, priority := BitVec.ofNat 8 (fld (shw s Reg.linkCfg) 0 8), pin := s.link.pin
    addr := s.link.addr.getD 0xFF, joined := joined, heldDormant := s.sys.held, modeLag := s.link.modeLag
    prepHeld := s.link.prep.isSome, modeGen := s.link.modeGen, modeId := s.link.modeId, parent := portByte s.link.parent
    depth := BitVec.ofNat 8 s.link.depth
    ports := allPorts.map (fun (n : Fin 4) =>
      let p := s.link.ports[n]
      let up := p.state == .up
      ⟨if up then p.nbrUid else 0, p.nbrPort.val, portCode p.state, fld (shw s (Reg.linkPortCfg n)) 0 2⟩) }

/-- A TOPO record's payload (Table 11-7). -/
def topoPayload (r : Topo) : List Byte :=
  le 8 r.uid.toNat ++ le 4 r.seq.toNat ++ [r.priority, r.pin, r.addr,
    BitVec.ofNat 8 (b1 r.joined + 2 * b1 r.heldDormant + 4 * b1 r.modeLag + 8 * b1 r.prepHeld)]
    ++ le 2 r.modeGen.toNat ++ le 2 r.modeId.toNat ++ [r.parent, r.depth, 0, 0]
    ++ r.ports.flatMap (fun p => le 8 p.nbrUid.toNat ++ [BitVec.ofNat 8 p.nbrPort, BitVec.ofNat 8 p.state,
      BitVec.ofNat 8 p.mode, 0])

/-- This device's record sent on every UP port with the next SEQ (R348). -/
def originate (joined : Bool) (s : State) : State :=
  let s := { s with link := { s.link with topoSeq := s.link.topoSeq + 1 } }
  sendOnAll (upPorts s) (ownFrame s 0xFF 2 0x01 (topoPayload (ownTopo joined s))) s

/-- TOPO_ORIGINATE (R348). -/
def execTopoOriginate (s : State) : Host.Outcome State Fault Refusal :=
  .next (if linkRuns s && s.link.joined then originate true s else s)

/-- A record newer than the one held from its originator (R348). -/
def topoNewer (r : Topo) (s : State) : Bool :=
  match s.link.topo.find? (fun x => x.uid == r.uid) with
  | some x => laterW r.seq x.seq
  | none => true

/-- TOPO_RECEIVE (R348): kept and flooded if newer; a record with JOINED = 0 removes its originator. -/
def execTopoReceive (p : Fin 4) (r : Topo) (s : State) : Host.Outcome State Fault Refusal :=
  .next (
    if !linkRuns s || r.uid == Config.uid || !topoNewer r s then s else
    let old := s.link.topo.find? (fun x => x.uid == r.uid)
    let same := r.joined && old.any (fun x => { x with seq := r.seq } == r)
    let rest := s.link.topo.filter (fun x => x.uid != r.uid)
    let s := { s with link := { s.link with topo := if r.joined then rest ++ [r] else rest } }
    let s := if same || (!r.joined && old.isNone) then s else touchDb s
    let s := if r.joined then commitHeld (fun c => c.id == r.modeId) s else s
    if s.link.joined then sendOnAll ((upPorts s).filter (· != p)) (ownFrame s 0xFF 2 0x01 (topoPayload r)) s else s)

/-- TOPO_EXPIRY (R348). -/
def execTopoExpiry (uid : Long) (s : State) : Host.Outcome State Fault Refusal :=
  .next (if s.link.topo.any (fun x => x.uid == uid) then
      touchDb { s with link := { s.link with topo := s.link.topo.filter (fun x => x.uid != uid) } }
    else s)

/-- The records of the joined devices, this one's first. -/
def database (s : State) : List Topo := ownTopo s.link.joined s :: s.link.topo.filter (·.joined)

/-- The neighbours of a device over UP ports, as its record names them. -/
def neighbours (db : List Topo) (u : Long) : List Long :=
  match db.find? (fun r => r.uid == u) with
  | some r => (r.ports.filter (fun p => p.state == 3 && p.nbrUid != 0)).map (·.nbrUid)
  | none => []

/-- Hop distances from a set of devices, breadth first. -/
def bfs (db : List Topo) : Nat → Nat → List Long → List (Long × Nat) → List (Long × Nat)
  | 0, _, _, acc => acc
  | n + 1, d, front, acc =>
    let next := ((front.flatMap (neighbours db)).eraseDups).filter (fun u =>
      acc.all (fun a => a.1 != u) && db.any (fun r => r.uid == u))
    if next.isEmpty then acc else bfs db n (d + 1) next (acc ++ next.map (fun u => (u, d + 1)))

/-- Distances from this device through each of its UP ports: port, neighbour, distances by device. -/
def portDists (s : State) : List (Fin 4 × Long × List (Long × Nat)) :=
  let db := (database s).filter (fun r => r.uid != Config.uid)
  (upPorts s).filterMap (fun n =>
    let v := s.link.ports[n].nbrUid
    if db.any (fun r => r.uid == v) then some (n, v, bfs db db.length 1 [v] [(v, 1)]) else none)

/-- The better of two ways: fewer hops, then the lower neighbour UID, then the lower port (R349). -/
def betterWay (a b : Fin 4 × Long × Nat) : Fin 4 × Long × Nat :=
  if a.2.2 < b.2.2 then a
  else if b.2.2 < a.2.2 then b
  else if a.2.1.toNat < b.2.1.toNat then a
  else if b.2.1.toNat < a.2.1.toNat then b
  else if a.1 ≤ b.1 then a else b

/-- The port on a shortest path to a device, with its hops. -/
def wayTo (l : List (Fin 4 × Long × List (Long × Nat))) (u : Long) : Option (Fin 4 × Nat) :=
  match l.filterMap (fun x => (look u x.2.2).map (fun d => (x.1, x.2.1, d))) with
  | [] => none
  | a :: r => let w := r.foldl betterWay a; some (w.1, w.2.2)

/-- The lamplighter among reachable devices: the highest PRIORITY, then the lowest UID (R349). -/
def elect (l : List Topo) : Option Topo :=
  match l with
  | [] => none
  | a :: r => some (r.foldl (fun x y =>
      if y.priority.toNat > x.priority.toNat ∨ (y.priority = x.priority ∧ y.uid.toNat < x.uid.toNat) then y else x) a)

/-! ### Addresses -/

/-- Devices in ascending UID order. -/
def insTopo (r : Topo) : List Topo → List Topo
  | [] => [r]
  | x :: l => if r.uid.toNat ≤ x.uid.toNat then r :: x :: l else x :: insTopo r l

/-- The addresses of R351 for devices in ascending UID order: pins, then addresses held, then the lowest free. -/
def assignAddrs (l : List Topo) : List (Long × Byte) :=
  let pins := l.foldl (fun (a : List (Long × Byte)) r =>
    if r.pin.toNat ≤ 0xFD && a.all (fun x => x.2 != r.pin) then a ++ [(r.uid, r.pin)] else a) []
  let held := l.foldl (fun (a : List (Long × Byte)) r =>
    if a.any (fun x => x.1 == r.uid) then a
    else if r.addr.toNat ≤ 0xFD && a.all (fun x => x.2 != r.addr) then a ++ [(r.uid, r.addr)] else a) pins
  l.foldl (fun (a : List (Long × Byte)) r =>
    if a.any (fun x => x.1 == r.uid) then a else
    match (List.range 254).find? (fun n => a.all (fun x => x.2.toNat != n)) with
    | some n => a ++ [(r.uid, BitVec.ofNat 8 n)]
    | none => a) held

/-- An ASSIGN record's payload (R351; its layout is log entry 45's). -/
def assignPayload (a : Assign) : List Byte :=
  le 8 a.uid.toNat ++ le 4 a.seq.toNat ++ [BitVec.ofNat 8 a.pairs.length] ++ a.pairs.flatMap (fun x => le 8 x.1.toNat ++ [x.2])

/-- Alarms held until now, sent when the address becomes valid (R358). -/
def sendHeldAlarms (s : State) : State :=
  match s.link.addr, s.link.ll with
  | some _, some (_, _, la) =>
    if isLamplighter s then { s with link := { s.link with alarms := [] } } else
    let l := s.link.alarms.filter (fun a => !a.sent)
    let s := { s with link := { s.link with
      alarms := s.link.alarms.map (fun a => { a with sent := true }), alarmSent := sat16 s.link.alarmSent l.length } }
    l.foldl (fun t a => sendRouted (ownFrame t la 0 0x10 (le 2 a.aseq.toNat ++ [0, 0] ++ a.entry)) t) s
  | _, _ => s

/-- The pairs of an ASSIGN applied to this device (R351). -/
def takeAssign (pairs : List (Long × Byte)) (s : State) : State :=
  let old : Option Byte := s.link.addr
  let s : State := match look Config.uid pairs with
    | some a =>
      let s := { s with link := { s.link with addr := some a } }
      if s.link.pin != 0xFF && s.link.pin != a then raise 8 Src.linkAddrConflict noItem s else s
    | none => if pairs.any (fun x => some x.2 == old) then { s with link := { s.link with addr := none } } else s
  let s := if s.link.addr = old then s else touchDb s
  sendHeldAlarms s

/-- The lamplighter's ASSIGN records at a settling (R351). -/
def assignAll (s : State) : State :=
  let l := ((database s).filter (fun r => r.uid == Config.uid || (wayTo (portDists s) r.uid).isSome)).foldl (fun a r => insTopo r a) []
  let pairs := assignAddrs l
  let s := if pairs.length < l.length then raise 8 Src.linkFabricOversize noItem s else s
  let s := (List.range (ceilDiv pairs.length 24)).foldl (fun (t : State) i =>
    let a : Assign := ⟨Config.uid, t.link.assignSeq + 1, (pairs.drop (24 * i)).take 24⟩
    let t := { t with link := { t.link with assignSeq := a.seq } }
    sendOnAll (upPorts t) (ownFrame t 0xFF 2 0x02 (assignPayload a)) t) s
  takeAssign pairs s

/-- ASSIGN_RECEIVE (R348, R351): flooded if newer, and applied when it comes from the elected lamplighter. -/
def execAssignReceive (p : Fin 4) (a : Assign) (s : State) : Host.Outcome State Fault Refusal :=
  .next (
    let old := s.link.assigns.find? (fun x => x.uid == a.uid)
    if !linkRuns s || a.uid == Config.uid || !(old.all (fun x => laterW a.seq x.seq)) then s else
    let s := { s with link := { s.link with assigns := s.link.assigns.filter (fun x => x.uid != a.uid) ++ [a] } }
    if !s.link.joined then s else
    let s := sendOnAll ((upPorts s).filter (· != p)) (ownFrame s 0xFF 2 0x02 (assignPayload a)) s
    if s.link.ll.any (fun x => x.1 == a.uid) then takeAssign a.pairs s else s)

/-! ### Settling -/

/-- Routed frames that wait on ports that are not UP, sent by the new routes (R339, R355). -/
def reroute (s : State) : State :=
  allPorts.foldl (fun (t : State) n =>
    if portUp t n then t else
    let move := fun (f : Frame) => f.dest.toNat ≤ 0xFD && (routePort t f.dest).any (· != n)
    let l := t.link.ports[n].waiting.filter move
    l.foldl (fun u f => sendRouted f u) (modLink n (fun p => { p with waiting := p.waiting.filter (fun f => !move f) }) t)) s

/-- What a change of the elected lamplighter starts (R350). -/
def newLamplighter (r : Topo) (wasSelf : Bool) (s : State) : State :=
  let s := { s with link := { s.link with elections := sat16 s.link.elections 1 } }
  let s := if s.time.exch.isSome then badExchange s else s
  let s := if r.uid = Config.uid then becomeLamplighter s else if wasSelf then followAnother s
    else if timeAcq s && s.time.state != .holdover then enterHoldover s else s
  let s := mark s.time.ns 0x86 0xFF false false r.addr.toNat s
  raise 8 Src.linkLamplighterChange noItem s

/-- DATABASE_SETTLED (R349): election, parent, routes, and the lamplighter's assignment. -/
def execDatabaseSettled (s : State) : Host.Outcome State Fault Refusal :=
  .next (
    if !linkRuns s || !s.link.joined then s else
    let ds := portDists s
    let reach := (database s).filter (fun r => r.uid == Config.uid || (wayTo ds r.uid).isSome)
    match elect reach with
    | none => s
    | some r =>
      let self := isLamplighter s
      let changed := match s.link.ll with
        | some (u, _, _) => u != r.uid
        | none => r.uid != Config.uid
      let way := if r.uid = Config.uid then none else wayTo ds r.uid
      let oldParent := s.link.parent
      let depth := (way.map (·.2)).getD 0
      let routes := (reach.filter (fun x => x.uid != Config.uid && decide (x.addr.toNat ≤ 0xFD))).filterMap (fun x =>
        match wayTo ds x.uid with
        | some (n, h) => if h ≤ 16 then some (x.addr.toNat, n, h) else none
        | none => none)
      let gen := if s.link.dirty then s.link.topoGen + 1 else s.link.topoGen
      let s := { s with link := { s.link with
        settled := true, dirty := false, topoGen := gen, ll := some (r.uid, r.priority, r.addr)
        parent := way.map (·.1), depth := depth, routes := routes } }
      let s := if changed then newLamplighter r self s
        else if s.link.parent != oldParent && s.time.exch.isSome then badExchange s else s
      let s := if 16 < depth then raise 8 Src.linkFabricDiameter noItem s else s
      let s := reroute s
      let s := if r.uid = Config.uid then assignAll s else s
      match s.link.ll, s.link.addr with
      | some (u, pr, _), some a => if u = Config.uid then { s with link := { s.link with ll := some (u, pr, a) } } else s
      | _, _ => s)

/-! ### Joining -/

/-- The device joins (R348): its PIN comes in force. -/
def joinFabric (s : State) : State :=
  touchDb { s with link := { s.link with joined := true, pin := BitVec.ofNat 8 (fld (shw s Reg.linkCfg) 8 8) } }

/-- The device leaves: a record with JOINED = 0 flooded, the address released, standalone (FABRIC_JOIN). -/
def leaveFabric (s : State) : State :=
  let s := originate false s
  let was := isLamplighter s
  let s := { s with link := { s.link with
    joined := false, settled := false, dirty := false, addr := none, ll := none, parent := none, depth := 0, routes := []
    reserved := [] } }
  if was then s else
    let s := if s.time.exch.isSome then badExchange s else s
    becomeLamplighter s

/-- Joined devices in the database, this one included. -/
def deviceCount (s : State) : Nat := 1 + s.link.topo.countP (·.joined)

/-- The lamplighter's address, 0xFF for none, and unique ID, 0 for none. -/
def llShown (s : State) : Byte × Byte × Long :=
  match s.link.ll with
  | some (u, p, a) => (a, p, u)
  | none => (0xFF, 0, 0)

/-- Completion data of FABRIC_JOIN. -/
def joinData (s : State) : List Byte :=
  [s.link.addr.getD 0xFF, (llShown s).1, BitVec.ofNat 8 (deviceCount s), BitVec.ofNat 8 s.link.depth] ++ le 8 (llShown s).2.2.toNat

/-- FABRIC_JOIN. -/
def fabricJoinBody (p : Packet) (s : State) : CmdResult :=
  let q := p.params
  checked s
    [(decide (q.length = 4), 0x11), (decide (u8 q 0 ≤ 1) && zeros q 1 3, 0x13), (s.link.joined == (u8 q 0 == 1), 0x30)]
    (fun _ =>
      let t := if u8 q 0 = 0 then joinFabric s else leaveFabric s
      acceptCmd { t with link := { t.link with joining := some (u8 q 0 == 0) } })

/-- FABRIC_JOIN. -/
def execFabricJoin (p : Packet) (s : State) : Host.Outcome State Fault Refusal := .next (runCommand 0x70 fabricJoinBody p s)

/-- FABRIC_JOIN_DONE: at ADDR_VALID or after a leave OK, else TIMEOUT; the device stays joined. -/
def execFabricJoinDone (s : State) : Host.Outcome State Fault Refusal :=
  .next (match s.link.joining with
    | none => s
    | some j =>
      let ok := !j || s.link.addr.isSome
      let s := { s with link := { s.link with joining := none } }
      completeDeferred 0x70 (if ok then 0x00 else 0x51) (if ok then joinData s else []) .normal s)

/-! ### Commands -/

/-- LINK_PORTn_STAT. -/
def portStatWord (s : State) (n : Fin 4) : Nat :=
  let p := s.link.ports[n]
  portCode p.state + 8 * b1 (s.link.parent == some n) + 16 * b1 (childPort s n) + 32 * b1 p.loop + 64 * b1 p.mismatch
    + 256 * p.nbrPort.val

/-- LINK_STAT. -/
def linkStatWord (s : State) : Nat :=
  b1 s.link.joined + 2 * b1 (isLamplighter s) + 4 * b1 s.link.settled + 8 * b1 s.link.addr.isSome
    + 16 * b1 s.link.prep.isSome + 32 * b1 (s.link.prep.any (·.committed)) + 64 * b1 s.link.modeLag
    + 256 * (s.link.addr.getD 0xFF).toNat + 65536 * (deviceCount s % 256) + 2 ^ 24 * (s.link.depth % 32)

/-- Identifier of the mode change held, 0 for none. -/
def prepId (s : State) : Nat := (s.link.prep.map (fun x => x.change.id.toNat)).getD 0
/-- Target epoch of the mode change held, 0 for none. -/
def prepTarget (s : State) : Nat := (s.link.prep.map (fun x => x.change.target.toNat)).getD 0

/-- FABRIC_STATUS (Table 11-11). -/
def fabricStatusBody (p : Packet) (s : State) : CmdResult :=
  let ports : List Byte := allPorts.map (fun n => BitVec.ofNat 8 (portStatWord s n))
  checked s [(decide (p.params.length = 0), 0x11)] (fun _ =>
    okCmd s (le 4 (linkStatWord s) ++ [(llShown s).1, portByte s.link.parent,
      if s.link.joined then BitVec.ofNat 8 s.link.depth else 0xFF, BitVec.ofNat 8 (deviceCount s)]
      ++ ports ++ le 2 s.link.modeGen.toNat ++ le 2 s.link.modeId.toNat
      ++ le 2 (prepId s) ++ [0, 0]
      ++ le 4 (prepTarget s) ++ le 8 (llShown s).2.2.toNat
      ++ le 4 s.link.topoGen.toNat))

/-- FABRIC_STATUS. -/
def execFabricStatus (p : Packet) (s : State) : Host.Outcome State Fault Refusal := .next (runCommand 0x71 fabricStatusBody p s)

/-- A ROUTE_READ entry. -/
def routeEntry (s : State) (a : Nat) : List Byte :=
  let ba : Byte := BitVec.ofNat 8 a
  let own := s.link.addr == some ba
  let r := if own then some (ownTopo s.link.joined s) else s.link.topo.find? (fun x => x.joined && x.addr == ba)
  let e := look a s.link.routes
  let flags := match r with
    | some r => b1 (r.pin == ba) + 2 * b1 (r.uid == (llShown s).2.2) + 4 * b1 r.heldDormant + 8 * b1 r.modeLag
    | none => 0
  [ba, if own then 0xFE else (match e with | some x => BitVec.ofNat 8 x.1.val | none => 0xFF),
    (match e with | some x => BitVec.ofNat 8 x.2 | none => 0), BitVec.ofNat 8 flags]
    ++ le 8 (match r with | some r => r.uid.toNat | none => 0)

/-- ROUTE_READ. -/
def routeReadBody (p : Packet) (s : State) : CmdResult :=
  let q := p.params
  checked s [(decide (q.length = 4), 0x11), (decide (u8 q 0 ≤ 0xFD ∧ u8 q 0 + u8 q 1 ≤ 254) && zeros q 2 2, 0x13)]
    (fun _ => okCmd s ((List.range (u8 q 1)).flatMap (fun i => routeEntry s (u8 q 0 + i))))

/-- ROUTE_READ. -/
def execRouteRead (p : Packet) (s : State) : Host.Outcome State Fault Refusal := .next (runCommand 0x72 routeReadBody p s)

/-- A port restarts as its configuration says: off, or training where the ports run (R338, PORT_CONFIG). -/
def portTouch (n : Fin 4) (s : State) : State :=
  if s.link.ports[n].state = .snuffed then s else
  let on := fld (shw s (Reg.linkPortCfg n)) 0 2 != 0 && linkRuns s
  touchDb (modLink n (fun p =>
    if on then { retrainPort { p with state := .training } with mismatch := false }
    else { retrainPort p with state := .off, mismatch := false }) s)

/-- A snuffed port reinstated (R437): history cleared, journaled, the snuff list rewritten. -/
def reinstatePort (role : Byte) (n : Fin 4) (s : State) : State :=
  if s.snuff.ports.getLsbD n then
    let s := clearItem 8 n.val { s with snuff := snuffDel 8 n.val s.snuff, snuffWrite := true }
    let s := journalRaise role 0x75 0 0x06 ([8] ++ le 2 n.val) s
    modLink n (fun p => { p with state := .off, retrainMs := [] }) s
  else s

/-- PORT_CONFIG. -/
def portConfigBody (p : Packet) (s : State) : CmdResult :=
  let q := p.params
  let ns := allPorts.filter (fun n => (u8 q 0).testBit n.val)
  checked s
    [(decide (q.length = 4), 0x11),
     (decide (1 ≤ u8 q 0 ∧ u8 q 0 ≤ 15 ∧ u8 q 1 ≤ 2 ∧ u8 q 2 ≤ 7 ∧ u8 q 3 = 0), 0x13)]
    (fun _ =>
      let s := if (u8 q 2).testBit 2 then ns.foldl (fun t n => reinstatePort (BitVec.ofNat 8 (roleOf t p.origin).toNat) n t) s else s
      let s := setShws (ns.map (fun n => (Reg.linkPortCfg n, wd (u8 q 1 + 4 * (u8 q 2 % 4))))) s
      okCmd (ns.foldl (fun t n => portTouch n t) s) [])

/-- PORT_CONFIG. -/
def execPortConfig (p : Packet) (s : State) : Host.Outcome State Fault Refusal := .next (runCommand 0x75 portConfigBody p s)

/-- LAMPLIGHTER_PRIORITY: PRIORITY acts at once, PIN at the next join. -/
def lamplighterPriorityBody (p : Packet) (s : State) : CmdResult :=
  let q := p.params
  checked s
    [(decide (q.length = 4), 0x11), (decide (u8 q 1 ≠ 0xFE ∧ u8 q 2 ≤ 1 ∧ u8 q 3 = 0), 0x13)]
    (fun _ => okCmd (touchDb (setShw Reg.linkCfg (wd (u8 q 0 + 256 * u8 q 1 + 65536 * u8 q 2)) s)) [])

/-- LAMPLIGHTER_PRIORITY. -/
def execLamplighterPriority (p : Packet) (s : State) : Host.Outcome State Fault Refusal :=
  .next (runCommand 0x76 lamplighterPriorityBody p s)

/-! ### Packets -/

/-- The frame of a segment reached this device. -/
def addressedHere (s : State) (dest : Byte) : Bool := s.link.addr == some dest || dest == 0xFF

/-- A segment joined to its packet (R356): the packet still in progress, or the whole packet. -/
def joinSegment (isReply : Bool) (src dest : Byte) (g : Segment) (s : State) : State × Option (List Byte) :=
  let mine := fun (x : Reasm) => x.isReply == isReply && x.src == src && x.iface == g.iface && x.tag == g.tag
  let old := s.link.reasm.find? (fun x => mine x && x.next == g.seg)
  let rest := s.link.reasm.filter (fun x => !mine x)
  if g.seg ≠ 0 ∧ old.isNone then (s, none) else
  let bytes := (if g.seg = 0 then [] else (old.map (·.bytes)).getD []) ++ g.bytes
  if g.last then ({ s with link := { s.link with reasm := rest } }, some bytes)
  else ({ s with link := { s.link with reasm := rest ++ [⟨isReply, src, g.iface, g.tag, g.seg + 1, bytes, dest⟩] } }, none)

/-- CMD_FRAME_RECEIVE (R356): a packet that is whole waits to be taken. -/
def execCmdFrameReceive (_p : Fin 4) (src dest : Byte) (g : Segment) (s : State) : Host.Outcome State Fault Refusal :=
  .next (if !linkRuns s || !addressedHere s dest then s else
    match joinSegment false src dest g s with
    | (t, some _) => { t with link := { t.link with cmdReady := t.link.cmdReady + 1 } }
    | (t, none) => t)

/-- A relayed reply at the entry device (R63 to R65). -/
def takeReply (src : Byte) (i : Iface) (tag : Byte) (b : List Byte) (s : State) : State :=
  let final := (b.getD 5 0).getLsbD 1
  let mine := fun (r : Relay) => r.iface == i && r.tag == tag && r.dest == src
  match s.sec.relays.find? mine with
  | some r =>
    let rest := s.sec.relays.erase r
    queueReply i ⟨b, .normal⟩ { s with sec := { s.sec with relays := if final then rest else rest ++ [{ r with accepted := true }] } }
  | none => if final then noteAnswer i tag src (b.headD 0) s else s

/-- RPL_FRAME_RECEIVE (R64). -/
def execRplFrameReceive (_p : Fin 4) (src : Byte) (g : Segment) (s : State) : Host.Outcome State Fault Refusal :=
  .next (if !linkRuns s then s else
    match joinSegment true src (ownAddr s) g s with
    | (t, some b) => takeReply src g.iface g.tag b t
    | (t, none) => t)

/-- REASSEMBLY_TIMEOUT (R356). -/
def execReassemblyTimeout (isReply : Bool) (src : Byte) (i : Iface) (tag : Byte) (s : State) :
    Host.Outcome State Fault Refusal :=
  .next { s with link := { s.link with reasm := s.link.reasm.filter (fun x =>
    !(x.isReply == isReply && x.src == src && x.iface == i && x.tag == tag)) } }

/-- RELAY_TIMEOUT (R63). -/
def execRelayTimeout (i : Iface) (tag : Byte) (s : State) : Host.Outcome State Fault Refusal :=
  .next (match s.sec.relays.find? (fun r => r.iface == i && r.tag == tag) with
    | some r => queueReply i ⟨replyBytes (ownAddr s) 0x51 tag true false false [], .normal⟩
        { s with sec := { s.sec with relays := s.sec.relays.erase r } }
    | none => s)

/-- Answers in ascending address order. -/
def insAnswer (x : Byte × Byte) : List (Byte × Byte) → List (Byte × Byte)
  | [] => [x]
  | y :: l => if x.1.toNat ≤ y.1.toNat then x :: y :: l else y :: insAnswer x l

/-- BROADCAST_SUMMARY (R65, Table 2-7). -/
def execBroadcastSummary (i : Iface) (tag : Byte) (s : State) : Host.Outcome State Fault Refusal :=
  .next (match s.sec.bcasts.find? (fun b => b.iface == i && b.tag == tag) with
    | some b =>
      let silent := (b.asked.filter (fun a => b.answers.all (fun x => x.1 != a))).map (fun a => (a, (0x51 : Byte)))
      let bad := (b.answers.filter (fun x => x.2 != 0) ++ silent).foldl (fun l x => insAnswer x l) []
      let data := [BitVec.ofNat 8 b.answers.length, BitVec.ofNat 8 (b.answers.countP (fun x => x.2 == 0)),
        BitVec.ofNat 8 bad.length] ++ bad.flatMap (fun x => [x.1, x.2])
      queueReply i ⟨replyBytes (ownAddr s) 0x00 tag true false true data, .normal⟩
        { s with sec := { s.sec with bcasts := s.sec.bcasts.erase b } }
    | none => s)

/-! ### Streams -/

/-- The STREAM frame of one segment. -/
def streamFrame (s : State) (dest : Byte) (k : Nat) (seq : Half) (bytes : List Byte) : Frame :=
  ownFrame s dest 1 0x14 ([BitVec.ofNat 8 k, 0] ++ le 2 seq.toNat ++ bytes)

/-- Unacknowledged bytes of a stream, from the first on. -/
def streamBytes (st : StreamSt) : List Byte := (st.recs.flatMap (·.bytes)).drop st.ackedBytes

/-- STREAM_SEGMENT_SEND (R357): the next segment, at most 1,024 unacknowledged. -/
def execStreamSegmentSend (k : Fin 16) (s : State) : Host.Outcome State Fault Refusal :=
  .next (
    let st : StreamSt := s.res.streams[k]
    let d := streamDef s.shadow k
    let b := ((streamBytes st).drop (sumNat st.segsOut)).take 252
    if !linkRuns s || d.drain != 3 || !st.admitted || st.rx.isSome || b.isEmpty || decide (1024 ≤ st.segsOut.length) then s
    else
      let f := streamFrame s (BitVec.ofNat 8 d.dest) k (st.segBase + BitVec.ofNat 16 st.segsOut.length) b
      sendRouted f (modStream k (fun (x : StreamSt) => { x with segsOut := x.segsOut ++ [b.length] }) s))

/-- Segments sent again, from the first unacknowledged. -/
def resendSegs (dest : Byte) (k : Nat) : Half → List Byte → List Nat → State → State
  | _, _, [], s => s
  | q, b, n :: l, s => resendSegs dest k (q + 1) (b.drop n) l (sendRouted (streamFrame s dest k q (b.take n)) s)

/-- STREAM_RESEND_TIMEOUT (R357). -/
def execStreamResendTimeout (k : Fin 16) (s : State) : Host.Outcome State Fault Refusal :=
  .next (
    let st : StreamSt := s.res.streams[k]
    let d := streamDef s.shadow k
    if !linkRuns s || d.drain != 3 || st.rx.isSome then s
    else resendSegs (BitVec.ofNat 8 d.dest) k st.segBase (streamBytes st) st.segsOut s)

/-- Records acknowledged whole released from the front (R357). -/
def dropAcked : Nat → List Rec → List Rec × Nat
  | a, [] => ([], a)
  | a, r :: l => if r.bytes.length ≤ a then dropAcked (a - r.bytes.length) l else (r :: l, a)

/-- STREAM_ACK_RECEIVE (R357). -/
def execStreamAckReceive (_p : Fin 4) (_src : Byte) (k : Fin 16) (seq : Half) (s : State) :
    Host.Outcome State Fault Refusal :=
  .next (
    let st : StreamSt := s.res.streams[k]
    let n := (seq - st.segBase).toNat + 1
    if st.segsOut.length < n then s else
    modStream k (fun (x : StreamSt) =>
      let (rs, a) := dropAcked (x.ackedBytes + sumNat (x.segsOut.take n)) x.recs
      freeShare { x with
        segBase := x.segBase + BitVec.ofNat 16 n, segsOut := x.segsOut.drop n, recs := rs, ackedBytes := a }) s)

/-- Whole records at the front of received bytes written into the receive share, STREAM rewritten (R385). -/
def takeRecords (k : Fin 16) : Nat → State → State
  | 0, s => s
  | n + 1, s =>
    let st : StreamSt := s.res.streams[k]
    let b := st.rxBytes
    let len := 12 + pad4 (u16 b 2)
    if b.length < 12 ∨ b.length < len then s else
    let bytes := (b.take len).set 1 (BitVec.ofNat 8 k.val)
    let size := st.pages * 4096
    let r : Rec := ⟨s.res.order, w32 b 4, bytes, false, st.wp⟩
    takeRecords k n { s with res := { s.res with
      mem := placeBytes st.base size st.wp bytes s.res.mem, order := s.res.order + 1
      streams := s.res.streams.set k.1 { st with
        recs := st.recs ++ [r], seq := r.seq + 1, wp := if size = 0 then 0 else (st.wp + len) % size
        rxBytes := b.drop len } k.2 } }

/-- A STREAM_ACK when it is due: every 32 segments and at least every 1 ms while segments arrive (R357). -/
def streamAck (k : Fin 16) (src : Byte) (num : Nat) (s : State) : State :=
  let st : StreamSt := s.res.streams[k]
  if 32 ≤ st.rxCount ∨ st.rxAck + 1000000 ≤ s.time.ns then
    sendRouted (ownFrame s src 2 0x15 ([BitVec.ofNat 8 num, 0] ++ le 2 (st.rxNext - 1).toNat))
      (modStream k (fun (x : StreamSt) => { x with rxCount := 0, rxAck := s.time.ns }) s)
  else s

/-- STREAM_FRAME_RECEIVE (R357, R384): the next segment in order, where the receive share has room for it. -/
def execStreamFrameReceive (_p : Fin 4) (src : Byte) (g : StreamSeg) (s : State) : Host.Outcome State Fault Refusal :=
  .next (
    if !linkRuns s then s else
    match allStreams.find? (fun k => (s.res.streams[k] : StreamSt).rx == some (src, g.stream.val)) with
    | none => s
    | some k =>
      let st : StreamSt := s.res.streams[k]
      let takes := g.seq == st.rxNext && decide (st.rxBytes.length + g.bytes.length ≤ freeSpace st)
      let s := if takes then
          takeRecords k (g.bytes.length + 1) (modStream k (fun (x : StreamSt) => { x with
            rxNext := x.rxNext + 1, rxCount := x.rxCount + 1, rxBytes := x.rxBytes ++ g.bytes }) s)
        else s
      streamAck k src g.stream.val s)

/-! ### Alarms -/

/-- ALARM_FRAME_RECEIVE (R358, R387): queued and acknowledged by the lamplighter; not acknowledged when the queue is full. -/
def execAlarmFrameReceive (_p : Fin 4) (src : Byte) (a : AlarmMsg) (s : State) : Host.Outcome State Fault Refusal :=
  .next (
    if !linkRuns s || !s.link.joined || !isLamplighter s then s else
    let ack := fun (t : State) => sendRouted (ownFrame t src 2 0x11 (le 2 a.aseq.toNat ++ [0, 0])) t
    if s.link.seenAseq.contains (src, a.aseq) then ack s
    else if !alarmRoom s then s
    else
      let e := (padTo 32 0 a.entry).set 22 (BitVec.ofNat 8 (1 + 2 * b1 s.res.lostBefore))
      let mine := s.link.seenAseq.filter (fun x => x.1 == src)
      let seen := s.link.seenAseq.filter (fun x => x.1 != src) ++ mine.drop (mine.length - 63) ++ [(src, a.aseq)]
      ack { s with
        res := { s.res with alarms := s.res.alarms ++ [e], lostBefore := false }, eng := { s.eng with edges := s.eng.edges ||| (1#32 <<< 23) }
        link := { s.link with seenAseq := seen } })

/-- ALARM_ACK_RECEIVE (R358). -/
def execAlarmAckReceive (_p : Fin 4) (_src : Byte) (aseq : Half) (s : State) : Host.Outcome State Fault Refusal :=
  .next { s with link := { s.link with alarms := s.link.alarms.filter (fun a => a.aseq != aseq) } }

/-- ALARM_RESEND (R358): each alarm sent and unacknowledged again, those unsent for the first time. -/
def execAlarmResend (s : State) : Host.Outcome State Fault Refusal :=
  .next (
    match s.link.addr, s.link.ll with
    | some _, some (_, _, la) =>
      if !linkRuns s || isLamplighter s then sendHeldAlarms s else
      let l := s.link.alarms.filter (·.sent)
      let s := l.foldl (fun (t : State) a =>
        let t := sendRouted (ownFrame t la 0 0x10 (le 2 a.aseq.toNat ++ [1, 0] ++ a.entry)) t
        raise 8 Src.linkAlarmResend noItem { t with link := { t.link with alarmResent := sat16 t.link.alarmResent 1 } }) s
      sendHeldAlarms s
    | _, _ => s)

/-! ### Registers -/

/-- LINK_PORTn_LOAD: shares of 100 ms in 1/1,024, an inexact quotient rounded freely. -/
def portLoad (s : State) (n : Fin 4) : Nat :=
  let p := s.link.ports[n]
  let chars := if fld (shw s (Reg.linkPortCfg n)) 0 2 = 1 then 4000000 else 1000000
  let l := p.tx.filter (fun x => decide (s.time.ns < x.1 + 100000000))
  let c1 := (freeDiv ((sumNat (l.map (·.2.1)) * 1024 * 270 : Nat) : Int) (chars * 252) s).1.toNat
  let all := (freeDiv ((sumNat (l.map (·.2.2)) * 1024 : Nat) : Int) chars s).1.toNat
  min 0xFFFF c1 + 65536 * min 0xFFFF all

/-- The read-only words of Tables 11-14 and 11-15, by block offset. -/
def linkRo (s : State) (o : Nat) : Nat :=
  let l := s.link
  let ll := llShown s
  if 0x3400 ≤ o ∧ o < 0x3800 then
    match look ((o - 0x3400) / 4) l.routes with
    | some (n, h) => n.val + 4 + 16 * h
    | none => 0
  else if o = 0x3004 then linkStatWord s
  else if o = 0x3008 then ll.1.toNat + 256 * ll.2.1.toNat
  else if o = 0x300C then ll.2.2.toNat % 2 ^ 32
  else if o = 0x3010 then ll.2.2.toNat / 2 ^ 32
  else if o = 0x3014 then l.topoGen.toNat
  else if o = 0x3018 then l.modeGen.toNat + 65536 * l.modeId.toNat
  else if o = 0x301C then prepId s
  else if o = 0x3020 then prepTarget s
  else if o = 0x3024 then (match l.prep with | some x => x.change.newP | none => 0)
  else if o = 0x3028 then l.elections.toNat + 65536 * l.noRoute.toNat
  else if o = 0x302C then l.alarmSent.toNat + 65536 * l.alarmResent.toNat
  else if o = 0x3030 then l.alarms.length
  else if o % 0x4000 < 0x20 then
    let n : Fin 4 := Fin.ofNat 4 (o / 0x4000)
    let p := l.ports[n]
    match o % 0x4000 with
    | 0x04 => portStatWord s n
    | 0x08 => p.nbrUid.toNat % 2 ^ 32
    | 0x0C => p.nbrUid.toNat / 2 ^ 32
    | 0x10 => p.codeErr.toNat + 65536 * p.crcErr.toNat
    | 0x14 => p.discards.toNat + 65536 * p.retrains.toNat
    | 0x18 => portLoad s n
    | _ => 0
  else 0

/-- The RC fields a read of an offset clears. -/
def linkRc (o : Nat) (s : State) : State :=
  if o = 0x3028 then { s with link := { s.link with elections := 0, noRoute := 0 } }
  else if o = 0x302C then { s with link := { s.link with alarmSent := 0, alarmResent := 0 } }
  else if o % 0x4000 = 0x10 then modLink (Fin.ofNat 4 (o / 0x4000)) (fun p => { p with codeErr := 0, crcErr := 0 }) s
  else if o % 0x4000 = 0x14 then modLink (Fin.ofNat 4 (o / 0x4000)) (fun p => { p with discards := 0, retrains := 0 }) s
  else s

/-- The rules of PORT_CONFIG and LAMPLIGHTER_PRIORITY on a candidate file. -/
def linkRule (_s : State) (f : RegFile) (o : Nat) : Option Byte :=
  if o = 0x3000 then if fld (fileGet f Reg.linkCfg) 8 8 = 0xFE then some 0x13 else none
  else if o % 0x4000 = 0 then if fld (fileGet f (Reg.linkPortCfg (o / 0x4000))) 0 2 = 3 then some 0x13 else none
  else none

/-- What follows a register write of the LINK block. -/
def linkTouch (o : Nat) (s : State) : State :=
  if o = 0x3000 then touchDb s
  else if o % 0x4000 = 0 then portTouch (Fin.ofNat 4 (o / 0x4000)) s else s

end Sys2Proof.Machine
end

