-- ==== Sys2Proof/Machine/Sec.lean ====
section
/-! DEFINITION. Roles, audit journal and firmware images (chapter 15): sessions, keys, the keys-and-counters area and the
SAFE log, the journal commands, image transfers and activation, the decode table, the NVM read window and the SEC and NVM
registers. -/
namespace Sys2Proof.Machine

open Sys2Proof

/-! ### The keys-and-counters area -/

/-- The newer of two copies by sequence number; none of them valid: none. The flag names copy 1. -/
def newerOf {α : Type} (seq : α → Word) : Option α → Option α → Option (Bool × α)
  | some a, some b => if laterW (seq b) (seq a) then some (true, b) else some (false, a)
  | some a, none => some (false, a)
  | none, some b => some (true, b)
  | none, none => none

/-- The newer valid copy of the keys-and-counters area (R456). -/
def newerKeys (s : State) : Option (Bool × KeysCopy) := newerOf (·.seq) s.nvm.keys0 s.nvm.keys1

/-- The copy an update writes: the older one. -/
def olderKeys (s : State) : Bool := match newerKeys s with | some (b, _) => !b | none => false

/-- The SAFE state in NVM (R456): the last log word, else the SAFE byte; without a valid copy the latch alone. -/
def safeState (s : State) : Bool :=
  match newerKeys s with
  | some (_, k) => (k.safeLog.getLast?).getD k.safe
  | none => s.safe.latch

/-- A copy of the keys-and-counters area replaced. -/
def putKeys (c : Bool) (k : Option KeysCopy) (s : State) : State :=
  { s with nvm := if c then { s.nvm with keys1 := k } else { s.nvm with keys0 := k } }

/-- An update of R456 that succeeds: the older copy rewritten with these values, which take effect. -/
def keysUpdate (k : KeysCopy) (s : State) : State :=
  let c := olderKeys s
  let k' : KeysCopy := { k with
    seq := match newerKeys s with | some (_, n) => n.seq + 1 | none => 0
    safe := safeState s, safeLog := [] }
  let s := countErases (506 + b1 c) 1 (nvmGood (506 + b1 c) 1 (putKeys c (some k') s))
  { s with sec := { s.sec with keys := k', keysDue := false } }

/-- An update of R456 that fails: the older copy is no longer valid, the other stands. -/
def keysFail (r : NvmResult) (s : State) : State :=
  let c := olderKeys s
  nvmFailed r (506 + b1 c) 1 (countErases (506 + b1 c) 1 (putKeys c none s))

/-- KEY_AREA_UPDATE (R456, R457): an update that is due. -/
def execKeyAreaUpdate (r : NvmResult) (s : State) : Host.Outcome State Fault Refusal :=
  if !s.sec.keysDue then .next s else
  .next (edgeLine 19 (match r with
    | .ok => keysUpdate s.sec.keys s
    | r => keysFail r s))

/-- SAFE_LOG_PROGRAM (R145, R146, R456): the oldest due word goes into the newer copy's log; with no unwritten word left
an update falls due and the word is held. -/
def execSafeLogProgram (s : State) : Host.Outcome State Fault Refusal :=
  match s.safe.logDue, newerKeys s with
  | w :: rest, some (c, k) =>
    if 255 ≤ k.safeLog.length then .next { s with sec := { s.sec with keysDue := true } } else
    .next (putKeys c (some { k with safeLog := k.safeLog ++ [w] }) { s with safe := { s.safe with logDue := rest } })
  | _, _ => .next { s with sec := { s.sec with keysDue := s.sec.keysDue || !s.safe.logDue.isEmpty } }

/-- A write of SEC_CFG_LOCK (R457): in force at once, the update due. -/
def cfgLockWrite (v : Word) (s : State) : State :=
  let l : BitVec 10 := BitVec.ofNat 10 v.toNat
  { s with sec := { s.sec with cfgLock := l, keys := { s.sec.keys with cfgLock := l }, keysDue := true } }

/-! ### Sessions -/

/-- The key of a role (Table 15-1): KEY_SET targets 0 to 2. -/
def roleKey (s : State) (r : Nat) : Option (List Byte) :=
  let k := s.sec.keys
  if r = 1 ∧ k.installed.getLsbD 0 then some k.opKey
  else if r = 2 ∧ k.installed.getLsbD 1 then some k.instKey
  else if r = 3 ∧ k.installed.getLsbD 2 then some k.makerKey
  else none

/-- The slot SESSION_OPEN takes: the origin's own, or the first free remote slot (R66). -/
def openSlot (s : State) (o : Origin) : Option (Fin 6) :=
  match slotOf s o with
  | some k => some k
  | none => ([2, 3, 4, 5] : List (Fin 6)).find? (fun k => (s.sec.sessions[k] : Session).origin.isNone)

/-- SESSION_OPEN (R66, R68, R69, R449). -/
def sessionOpenBody (p : Packet) (s : State) : CmdResult :=
  let q := p.params
  let r := u8 q 0
  checked s
    [(decide (q.length = 4), 0x11), (decide (1 ≤ r ∧ r ≤ 3) && zeros q 1 3, 0x13), ((roleKey s r).isSome, 0x20),
     ((openSlot s p.origin).all (fun k => !(s.sec.sessions[k] : Session).lockout), 0x20)]
    (fun _ =>
      match openSlot s p.origin with
      | none => failCmd s 0x31
      | some k =>
        let c := Config.challenge s.sec.draws
        let s := endSession k s
        let s := modSession k (fun (e : Session) => { e with
          origin := some p.origin, challenge := some (c, BitVec.ofNat 2 r), lastMs := s.sys.lpoMs }) s
        okCmd (edgeLine 20 { s with sec := { s.sec with draws := s.sec.draws + 1 } })
          (le 16 c.toNat ++ [BitVec.ofNat 8 k.val, 0, 0, 0]))

/-- The message M of Table 15-2. -/
def authMessage (c : BitVec 128) (r : Nat) (k : Fin 6) (o : Origin) : List Byte :=
  [0x41, 0x55, 0x54, 0x48] ++ le 16 c.toNat ++ uidBytes
    ++ [BitVec.ofNat 8 r, BitVec.ofNat 8 k.val, (originBytes o).1, (originBytes o).2]

/-- An AUTH_FAIL entry (Table 15-8), programmed with those before it. -/
def journalAuthFail (op : Byte) (slot : Option (Fin 6)) (o : Origin) (role attempted : Nat) (fails : Nat) (lock : Bool)
    (s : State) : State :=
  programAll (journalRaise (BitVec.ofNat 8 role) op 0x20 0x02
    [slotByte slot, (originBytes o).1, (originBytes o).2, BitVec.ofNat 8 attempted, BitVec.ofNat 8 fails,
     BitVec.ofNat 8 (b1 lock)] s)

/-- SESSION_AUTH (R69, R70, R449, R450). -/
def sessionAuthBody (p : Packet) (s : State) : CmdResult :=
  if p.params.length ≠ 16 then failCmd s 0x11 else
  match slotOf s p.origin with
  | none => failCmd s 0x21
  | some k =>
    let e : Session := s.sec.sessions[k]
    match e.challenge with
    | none => failCmd s 0x21
    | some (c, r) =>
      let s := edgeLine 20 (modSession k (fun (x : Session) => { x with challenge := none }) s)
      let key := (roleKey s r.toNat).getD []
      if (roleKey s r.toNat).isSome ∧ (hmac key (authMessage c r.toNat k p.origin)).take 16 = p.params then
        okCmd (modSession k (fun (x : Session) => { x with
          role := r, fails := 0, lockout := false, keySets := 0
          ks := hmac key ([0x53, 0x4B, 0x45, 0x59] ++ le 16 c.toNat ++ uidBytes) }) s) []
      else
        let n := min 5 (e.fails + 1)
        let lock := decide (5 ≤ n)
        let s := modSession k (fun (x : Session) => { x with fails := n, lockout := x.lockout || lock }) s
        let s := journalAuthFail 0x04 (some k) p.origin e.role.toNat r.toNat n lock s
        let s := raise 13 Src.secAuthFail noItem s
        let s := if lock then raise 13 Src.secAuthLockout noItem s else s
        { st := s, status := 0x20, ownEntry := true }

/-- SESSION_CLOSE (R68). -/
def sessionCloseBody (p : Packet) (s : State) : CmdResult :=
  checked s [(p.params.isEmpty, 0x11)] (fun _ =>
    okCmd (match slotOf s p.origin with | some k => endSession k s | none => s) [])

/-- SESSION_OPEN. -/
def execSessionOpen (p : Packet) (s : State) : Host.Outcome State Fault Refusal :=
  .next (runCommand 0x03 sessionOpenBody p s)
/-- SESSION_AUTH. -/
def execSessionAuth (p : Packet) (s : State) : Host.Outcome State Fault Refusal :=
  .next (runCommand 0x04 sessionAuthBody p s)
/-- SESSION_CLOSE. -/
def execSessionClose (p : Packet) (s : State) : Host.Outcome State Fault Refusal :=
  .next (runCommand 0x05 sessionCloseBody p s)

/-- SESSION_IDLE_TIMEOUT (R68): 600 s have passed without a command in the slot. -/
def execSessionIdleTimeout (k : Fin 6) (s : State) : Host.Outcome State Fault Refusal := .next (endSession k s)
/-- CHALLENGE_EXPIRY (R69). -/
def execChallengeExpiry (k : Fin 6) (s : State) : Host.Outcome State Fault Refusal :=
  .next (modSession k (fun (x : Session) => { x with challenge := none }) s)
/-- LOCKOUT_END (R70): the count of failures stays. -/
def execLockoutEnd (k : Fin 6) (s : State) : Host.Outcome State Fault Refusal :=
  .next (modSession k (fun (x : Session) => { x with lockout := false }) s)

/-! ### Keys -/

/-- Bytes combined by exclusive or. -/
def xorBytes (a b : List Byte) : List Byte := List.zipWith (· ^^^ ·) a b

/-- KEY_SET (R451 to R454): the key is unwrapped now and programmed at completion. -/
def keySetBody (p : Packet) (s : State) : CmdResult :=
  let q := p.params
  let t := u8 q 0
  let clear := u8 q 1 == 1
  let field := (q.drop 4).take 64
  let mac := (q.drop 68).take 16
  let role := (roleOf s p.origin).toNat
  let slot := slotOf s p.origin
  let n : Byte := match slot with | some k => (s.sec.sessions[k] : Session).keySets | none => 0
  let ks : List Byte := match slot with | some k => (s.sec.sessions[k] : Session).ks | none => []
  let want := if role = 0 then List.replicate 16 (0 : Byte) else
    (hmac ks ([0x4B, 0x4D, 0x41, 0x43, BitVec.ofNat 8 t, BitVec.ofNat 8 (u8 q 1), n] ++ field)).take 16
  let key := if t = 3 ∨ role = 0 then field else xorBytes field (hmac ks ([0x57, 0x52, 0x41, 0x50, BitVec.ofNat 8 t, n]))
  checked s
    [(decide (q.length = 84), 0x11),
     (decide (t ≤ 3 ∧ u8 q 1 ≤ 1) && zeros q 2 2 && !(clear && decide (2 ≤ t)) && (t == 3 || zeros q 36 32)
        && !(clear && !zeros q 4 64), 0x13),
     (t != 3 || onCurve (unbe (field.take 32), unbe (field.drop 32)), 0x13)]
    (fun _ =>
      if mac = want then
        let job : KeyJob := ⟨t, clear, key.take (if t = 3 then 64 else 32), if role = 0 then none else slot⟩
        acceptCmd (edgeLine 20 { s with sec := { s.sec with keyJob := some job } })
      else
        { st := journalAuthFail 0xA0 slot p.origin role role
            (match slot with | some k => (s.sec.sessions[k] : Session).fails | none => 0) false s
          status := 0x20, ownEntry := true })

/-- The keys with the key of a KEY_SET programmed. -/
def keyApply (j : KeyJob) (k : KeysCopy) : KeysCopy :=
  let bit : BitVec 4 := 1#4 <<< j.target
  let key := if j.clear then [] else j.key
  let k := { k with installed := if j.clear then k.installed &&& ~~~bit else k.installed ||| bit }
  match j.target with
  | 0 => { k with opKey := key }
  | 1 => { k with instKey := key }
  | 2 => { k with makerKey := key }
  | _ => { k with imageKey := key }

/-- The sessions that a change of the operator or installer key ends (R452). -/
def keyEnds (j : KeyJob) (s : State) : State :=
  if j.target < 2 then
    allSlots.foldl (fun t k =>
      if (s.sec.sessions[k] : Session).role.toNat = j.target + 1 ∧ j.slot ≠ some k then endSession k t else t) s
  else s

/-- KEY_SET_DONE (R451, R452). -/
def execKeySetDone (r : NvmResult) (s : State) : Host.Outcome State Fault Refusal :=
  match findOut s 0xA0, s.sec.keyJob with
  | some _, some j =>
    let s := edgeLine 19 { s with sec := { s.sec with keyJob := none } }
    match r with
    | .ok =>
      let old := s.sec.keys
      let new := keyApply j old
      let s := keysUpdate new s
      let s := if (old.opKey, old.instKey, old.installed) = (new.opKey, new.instKey, new.installed) then s
        else keyEnds j s
      let s := match j.slot with
        | some k => modSession k (fun (x : Session) => { x with keySets := x.keySets + 1 }) s
        | none => s
      .next (completeDeferred 0xA0 0x00 [] .normal s)
    | r => .next (completeDeferred 0xA0 0x60 [] .normal (keysFail r s))
  | _, _ => .next s

/-- KEY_SET. -/
def execKeySet (p : Packet) (s : State) : Host.Outcome State Fault Refusal := .next (runCommand 0xA0 keySetBody p s)

/-! ### The journal -/

/-- SEQ of the newest entry, 0xFFFFFFFF while the journal is empty (R458). -/
def journalHead (s : State) : Nat := match s.nvm.journal.getLast? with | some e => e.seq | none => 0xFFFFFFFF
/-- SEQ of the oldest entry held, 0 while the journal is empty (R458). -/
def journalOldest (s : State) : Nat := match s.nvm.journal.head? with | some e => e.seq | none => 0

/-- The 32 bytes of an entry (Table 15-7). -/
def entryBytes (e : JEntry) : List Byte := entryBody e.seq e.body ++ e.chain

/-- A release of entries up to `last` is accepted (R463): every entry held up to it went to this session. -/
def releaseOk (s : State) (k : Fin 6) (last : Nat) : Bool :=
  !s.nvm.journal.isEmpty && decide (last ≤ journalHead s)
    && s.nvm.journal.all (fun e => decide (last < e.seq) || e.readBy.getLsbD k.val)

/-- A release carried out (R462, R463): the area updated, the erase it lets proceed made, then the RELEASE entry. -/
def release (k : Fin 6) (last : Nat) (s : State) : State :=
  let top := if s.sec.keys.released = 0xFFFFFFFF then last else max last s.sec.keys.released.toNat
  let s := keysUpdate { s.sec.keys with released := BitVec.ofNat 32 top } (programAll s)
  let s := match s.nvm.eraseDue with
    | some d => if eraseBarred s d then s else eraseSector d s
    | none => s
  let lost := min 0xFFFFFFFF s.sec.lostSinceRelease
  let s := journalRaise (BitVec.ofNat 8 (s.sec.sessions[k] : Session).role.toNat) 0xA1 0 0x0B (le 4 top ++ le 4 lost)
    { s with sec := { s.sec with lostSinceRelease := 0 } }
  checkJournalFull (programAll s)

/-- JOURNAL_READ (R463, Table 15-9). -/
def journalReadBody (p : Packet) (s : State) : CmdResult :=
  let q := p.params
  let rel := u8 q 6 == 1
  match slotOf s p.origin with
  | none => failCmd s 0x21
  | some k =>
    checked s
      [(decide (q.length = 12), 0x11), (decide (u16 q 4 ≤ 127 ∧ u8 q 6 ≤ 1 ∧ u8 q 7 = 0), 0x13),
       (!rel || releaseOk s k (u32 q 8), 0x13)]
      (fun _ =>
        let s := if rel then release k (u32 q 8) s else s
        let out := (s.nvm.journal.filter (fun e => decide (u32 q 0 ≤ e.seq))).take (u16 q 4)
        let got := fun (e : JEntry) => out.any (fun x => x.seq == e.seq)
        let bit : BitVec 6 := 1#6 <<< k.val
        let mac := (hmac (s.sec.sessions[k] : Session).ks ([0x4A, 0x48, 0x45, 0x44] ++ le 4 (journalHead s) ++ lastChain s)).take 16
        let data := le 4 (journalHead s) ++ le 4 (journalOldest s) ++ le 4 s.sec.keys.released.toNat ++ le 2 out.length
          ++ [BitVec.ofNat 8 (b1 s.sec.keys.policy),
              BitVec.ofNat 8 (b1 (journalFull s) + 2 * b1 (journalRefuses s) + 4 * b1 s.sec.lostSinceRead)]
          ++ mac ++ out.flatMap entryBytes
        okCmd { s with
          nvm := { s.nvm with journal := s.nvm.journal.map (fun (e : JEntry) =>
            if got e then { e with read := true, readBy := e.readBy ||| bit } else e) }
          sec := { s.sec with lostSinceRead := false } } data)

/-- JOURNAL_POLICY. -/
def journalPolicyBody (p : Packet) (s : State) : CmdResult :=
  checked s
    [(decide (p.params.length = 4), 0x11), (decide (u8 p.params 0 ≤ 1) && zeros p.params 1 3, 0x13)]
    (fun _ => acceptCmd s)

/-- JOURNAL_POLICY_DONE (R456, R462). -/
def execJournalPolicyDone (r : NvmResult) (s : State) : Host.Outcome State Fault Refusal :=
  match findOut s 0xA2 with
  | none => .next s
  | some o =>
    match r with
    | .ok =>
      let s := checkJournalFull (keysUpdate { s.sec.keys with policy := u8 o.params 0 == 1 } s)
      .next (completeDeferred 0xA2 0x00 [] .normal (edgeLine 19 s))
    | r => .next (completeDeferred 0xA2 0x60 [] .normal (edgeLine 19 (keysFail r s)))

/-- JOURNAL_READ. -/
def execJournalRead (p : Packet) (s : State) : Host.Outcome State Fault Refusal :=
  .next (runCommand 0xA1 journalReadBody p s)
/-- JOURNAL_POLICY. -/
def execJournalPolicy (p : Packet) (s : State) : Host.Outcome State Fault Refusal :=
  .next (runCommand 0xA2 journalPolicyBody p s)

/-- JOURNAL_ENTRY_PROGRAM (R140, R459): the oldest raised entry is programmed. -/
def execJournalEntryProgram (s : State) : Host.Outcome State Fault Refusal :=
  if s.sec.raised.isEmpty then .next s else .next (edgeLine 19 (checkJournalFull (programOne s)))

/-- JOURNAL_SECTOR_ERASE (R460 to R462): the erase that is due, unless it is barred; one that fails stays due. -/
def execJournalSectorErase (ok : Bool) (s : State) : Host.Outcome State Fault Refusal :=
  match s.nvm.eraseDue with
  | none => .next s
  | some d =>
    if eraseBarred s d then .next s
    else if ok then .next (edgeLine 19 (eraseSector d s))
    else .next (edgeLine 19 (raise 12 Src.nvmEraseFail noItem (countErases (440 + d) 1 s)))

/-! ### The snuff list -/

/-- Items of either set. -/
def snuffUnion (a b : SnuffSet) : SnuffSet :=
  ⟨a.lines ||| b.lines, a.lanes ||| b.lanes, a.groups ||| b.groups, a.ports ||| b.ports, a.sensors ||| b.sensors⟩
/-- Items of the first set and not the second. -/
def snuffDiff (a b : SnuffSet) : SnuffSet :=
  ⟨a.lines &&& ~~~b.lines, a.lanes &&& ~~~b.lanes, a.groups &&& ~~~b.groups, a.ports &&& ~~~b.ports,
    a.sensors &&& ~~~b.sensors⟩

/-- SNUFF_LIST_WRITE (R436): the copy with the older SEQ rewritten; one that fails stays due. -/
def execSnuffListWrite (r : NvmResult) (s : State) : Host.Outcome State Fault Refusal :=
  if !s.snuffWrite then .next s else
  let new := newerOf (·.seq) s.nvm.snuff0 s.nvm.snuff1
  let c := match new with | some (b, _) => !b | none => false
  let put := fun (x : Option SnuffCopy) => if c then { s.nvm with snuff1 := x } else { s.nvm with snuff0 := x }
  match r with
  | .ok =>
    let x : SnuffCopy := ⟨match new with | some (_, n) => n.seq + 1 | none => 0,
      snuffUnion (snuffDiff s.snuff s.snuffOff) s.snuffDue⟩
    .next (edgeLine 19 (countErases (414 + b1 c) 1 (nvmGood (414 + b1 c) 1
      { s with nvm := put (some x), snuffWrite := false })))
  | r => .next (edgeLine 19 (nvmFailed r (414 + b1 c) 1 (countErases (414 + b1 c) 1 { s with nvm := put none })))

/-! ### Images -/

/-- A slot of the NVM: false A, true B. -/
def imageSlot (s : State) (b : Bool) : ImageSlot := if b then s.nvm.slotB else s.nvm.slotA
/-- A slot changed. -/
def modSlot (b : Bool) (f : ImageSlot → ImageSlot) (s : State) : State :=
  { s with nvm := if b then { s.nvm with slotB := f s.nvm.slotB } else { s.nvm with slotA := f s.nvm.slotA } }
/-- The region of a slot that holds a KIND, changed. -/
def modRegionOf (b : Bool) (kind : Nat) (x : Option Image) (s : State) : State :=
  modSlot b (fun i => if kind = 1 then { i with fw := x } else if kind = 2 then { i with ext := x } else { i with dec := x }) s
/-- First sector and number of sectors of a region (Table 15-5, R466). -/
def regionSectors (b : Bool) (kind : Nat) : Nat × Nat :=
  let base := 192 * b1 b
  if kind = 1 then (base, 64) else if kind = 2 then (base + 64, 32) else (base + 96, 2)
/-- The erase of a region counted. -/
def eraseRegion (b : Bool) (kind : Nat) (s : State) : State :=
  countErases (regionSectors b kind).1 (regionSectors b kind).2 s

/-- An image of header and payload. -/
def mkImage (h payload : List Byte) : Image := ⟨h, payload, w32 h 8, w32 h 12⟩

/-- The fields of a header that do not depend on keys (Table 15-10). -/
def headerOk (kind : Nat) (h : List Byte) : Bool :=
  let n := u32 h 16
  decide (u32 h 0 = 0x4D484649 ∧ u16 h 4 = 1 ∧ u8 h 6 = kind ∧ u8 h 7 = (if kind = 1 then 0 else 1)
    ∧ u16 h 20 = 0x1920 ∧ u8 h 22 ≤ 2 ∧ u8 h 23 = 0) && zeros h 64 32
  && (if kind = 1 then decide (2 ≤ n ∧ n ≤ 98304) else if kind = 2 then decide (64 ≤ n ∧ n ≤ 32768) else decide (n = 1088))

/-- The checks of a header that return NOT_PERMITTED: key, signature, rollback, binding (R464, R465). -/
def headerPermitted (s : State) (kind : Nat) (h : List Byte) : Bool :=
  let k := s.sec.keys
  let key := if kind = 1 then Config.rootKey else (unbe (k.imageKey.take 32), unbe (k.imageKey.drop 32))
  let bind := u64 h 24
  (kind == 1 || k.installed.getLsbD 3)
    && decide ((if kind = 1 then k.fwCounter else k.makerCounter).toNat ≤ u32 h 12)
    && (bind == 0 || bind == Config.uid.toNat)
    && ecdsaOk key (h.take 96) (unbe ((h.drop 96).take 32)) (unbe ((h.drop 128).take 32))

/-- A command refused with NOT_PERMITTED that raises IMAGE_CHECK. -/
def imageRefuse (s : State) : CmdResult := failCmd (raise 13 Src.secImageCheck noItem s) 0x20

/-- IMAGE_BEGIN (R467): the inactive slot becomes invalid, its region is erased, a pending activation is cancelled. -/
def imageBeginBody (p : Packet) (s : State) : CmdResult :=
  let q := p.params
  let kind := u8 q 0
  let h := q.drop 4
  checked s
    [(decide (q.length = 164), 0x11), (decide ((kind = 1 ∨ kind = 2) ∧ u8 q 1 ≤ 1) && zeros q 2 2 && headerOk kind h, 0x13)]
    (fun _ =>
      if !headerPermitted s kind h then imageRefuse s else
      let b := !s.sec.keys.confirmed
      let s := eraseRegion b kind (modSlot b (fun i => { i with valid := false }) (modRegionOf b kind (some (mkImage h [])) s))
      let s := if s.sec.keys.pendingAct then keysUpdate { s.sec.keys with pendingAct := false, trial := 0 } s else s
      okCmd (edgeLine 20 { s with sec := { s.sec with transfer := some ⟨BitVec.ofNat 8 kind, u8 q 1 == 1, h, []⟩ } })
        [BitVec.ofNat 8 (b1 b), 0, 0, 0])

/-- IMAGE_DATA (R467). -/
def imageDataBody (p : Packet) (s : State) : CmdResult :=
  let q := p.params
  if q.length < 5 then failCmd s 0x11 else
  match s.sec.transfer with
  | none => failCmd s 0x30
  | some t =>
    let bytes := t.received ++ q.drop 4
    checked s
      [(decide (u32 q 0 = t.received.length), 0x13), (decide (bytes.length ≤ u32 t.header 16), 0x13)]
      (fun _ =>
        let s := modRegionOf (!s.sec.keys.confirmed) t.kind.toNat (some (mkImage t.header bytes)) s
        okCmd (edgeLine 19 { s with sec := { s.sec with transfer := some { t with received := bytes } } }) (le 4 bytes.length))

/-- IMAGE_END. -/
def imageEndBody (p : Packet) (s : State) : CmdResult :=
  checked s [(p.params.isEmpty, 0x11), (s.sec.transfer.isSome, 0x30)] (fun _ => acceptCmd s)

/-- IMAGE_END_DONE (R466): the digest, then the other regions filled from the active slot, then the slot valid. -/
def execImageEndDone (r : NvmResult) (s : State) : Host.Outcome State Fault Refusal :=
  match findOut s 0xAA, s.sec.transfer with
  | some _, some t =>
    let s := edgeLine 19 { s with sec := { s.sec with transfer := none } }
    let b := !s.sec.keys.confirmed
    let kind := t.kind.toNat
    let digest := (t.header.drop 32).take 32
    if t.received.length ≠ u32 t.header 16 ∨ sha256 t.received ≠ digest then
      .next (completeDeferred 0xAA 0x20 [] .normal (raise 13 Src.secImageCheck noItem s))
    else
      let act := imageSlot s (!b)
      match r with
      | .ok =>
        let s := modSlot b (fun i =>
          if kind = 1 then
            if t.dropMaker then { i with ext := none, dec := none, valid := true }
            else { i with ext := act.ext, dec := act.dec, valid := true }
          else { i with fw := act.fw, dec := act.dec, valid := act.fw.isSome }) s
        let s := eraseRegion b 3 (eraseRegion b (if kind = 1 then 2 else 1) s)
        .next (completeDeferred 0xAA 0x00 ([BitVec.ofNat 8 (b1 b), 0, 0, 0] ++ digest.take 8) .normal s)
      | r => .next (completeDeferred 0xAA 0x60 [] .normal (nvmFailed r (192 * b1 b) 98 s))
  | _, _ => .next s

/-- IMAGE_ACTIVATE (R468). -/
def imageActivateBody (p : Packet) (s : State) : CmdResult :=
  let q := p.params
  let b := u8 q 0 == 1
  let inactive := b != s.sec.keys.confirmed
  let i := imageSlot s b
  checked s
    [(decide (q.length = 4), 0x11), (decide (u8 q 0 ≤ 1) && zeros q 1 3, 0x13),
     (!inactive || (i.valid && i.fw.isSome), 0x30),
     (!inactive || i.fw.all (fun f => decide (s.sec.keys.fwCounter.toNat ≤ f.rollback.toNat)), 0x20)]
    (fun _ => acceptCmd s)

/-- IMAGE_ACTIVATE_DONE. -/
def execImageActivateDone (r : NvmResult) (s : State) : Host.Outcome State Fault Refusal :=
  match findOut s 0xAB with
  | none => .next s
  | some o =>
    let b := u8 o.params 0 == 1
    let pend := b != s.sec.keys.confirmed
    match r with
    | .ok =>
      let s := keysUpdate { s.sec.keys with pendingAct := pend, trial := 0 } s
      .next (completeDeferred 0xAB 0x00 [BitVec.ofNat 8 (b1 b), BitVec.ofNat 8 (b1 pend), 0, 0] .normal (edgeLine 19 s))
    | r => .next (completeDeferred 0xAB 0x60 [] .normal (edgeLine 19 (keysFail r s)))

/-- IMAGE_BEGIN. -/
def execImageBegin (p : Packet) (s : State) : Host.Outcome State Fault Refusal := .next (runCommand 0xA8 imageBeginBody p s)
/-- IMAGE_DATA. -/
def execImageData (p : Packet) (s : State) : Host.Outcome State Fault Refusal := .next (runCommand 0xA9 imageDataBody p s)
/-- IMAGE_END. -/
def execImageEnd (p : Packet) (s : State) : Host.Outcome State Fault Refusal := .next (runCommand 0xAA imageEndBody p s)
/-- IMAGE_ACTIVATE. -/
def execImageActivate (p : Packet) (s : State) : Host.Outcome State Fault Refusal :=
  .next (runCommand 0xAB imageActivateBody p s)

/-! ### Loading program RAM and the decode table -/

/-- 16-bit words of bytes, low byte first. -/
def halves : List Byte → List Half
  | a :: b :: l => BitVec.ofNat 16 (a.toNat + 256 * b.toNat) :: halves l
  | [a] => [BitVec.ofNat 16 a.toNat]
  | [] => []

/-- An ENG_DECODEk word as an entry (Table 13-13). -/
def decodeEntry (w : Word) : DecodeEntry := ⟨BitVec.ofNat 8 (fld w 0 8), bitOf w 8, bitOf w 9, BitVec.ofNat 8 (fld w 16 8)⟩

/-- The decode table and control store of a DECODE payload loaded; none: every entry has EN = 0 (R472). -/
def loadDecode (x : Option Image) (s : State) : State :=
  match x with
  | some i =>
    { s with eng := { s.eng with
      decode := Vector.ofFn (fun (k : Fin 16) => decodeEntry (w32 i.payload (4 * k.val)))
      store := (List.range 256).map (fun k => w32 i.payload (64 + 4 * k)) } }
  | none => { s with eng := { s.eng with decode := Vector.replicate 16 {}, store := [] } }

/-- Program RAM and the control store loaded from a slot (R466, R472). -/
def loadSlot (b : Bool) (s : State) : State :=
  let i := imageSlot s b
  let ws := fun (x : Option Image) => match x with | some y => halves y.payload | none => []
  loadDecode i.dec { s with eng := { s.eng with fwWords := ws i.fw, extWords := ws i.ext } }

/-- DECODE_LOAD (R473). -/
def decodeLoadBody (p : Packet) (s : State) : CmdResult :=
  let q := p.params
  let h := q.take 160
  let pay := q.drop 160
  checked s
    [(decide (q.length = 1248), 0x11), (headerOk 3 h, 0x13),
     ((List.range 16).all (fun k => !bitOf (w32 pay (4 * k)) 8 || decide (fld (w32 pay (4 * k)) 16 8 ≠ 0)), 0x13)]
    (fun _ =>
      if headerPermitted s 3 h && decide (sha256 pay = (h.drop 32).take 32) then acceptCmd (edgeLine 20 s)
      else imageRefuse s)

/-- DECODE_LOAD_DONE (R465, R473). -/
def execDecodeLoadDone (r : NvmResult) (s : State) : Host.Outcome State Fault Refusal :=
  match findOut s 0xAC with
  | none => .next s
  | some o =>
    let b := s.sec.keys.confirmed
    let s := eraseRegion b 3 (edgeLine 19 s)
    match r with
    | .ok =>
      let i := mkImage (o.params.take 160) (o.params.drop 160)
      let s := loadDecode (some i) (nvmGood (regionSectors b 3).1 2 (modRegionOf b 3 (some i) s))
      .next (completeDeferred 0xAC 0x00 [] .normal (keysUpdate { s.sec.keys with makerCounter := i.rollback } s))
    | r => .next (completeDeferred 0xAC 0x60 [] .normal (nvmFault r (modRegionOf b 3 none s)))

/-- DECODE_LOAD. -/
def execDecodeLoad (p : Packet) (s : State) : Host.Outcome State Fault Refusal := .next (runCommand 0xAC decodeLoadBody p s)

/-! ### The NVM read window -/

/-- The 30 KiB of a configuration copy (Table 4-14), less its check word. -/
def configBody (c : CfgCopy) : List Byte :=
  let b := (Config.configBody c.items).take 28672
  padTo 30716 0xFF (le 4 1 ++ le 4 c.seq.toNat ++ le 4 b.length ++ le 4 c.version.toNat ++ b)
/-- CHECK of a configuration copy. -/
def configCheck (c : CfgCopy) : Word := crc32 (configBody c)
/-- A configuration copy in full. -/
def configBytes (c : CfgCopy) : List Byte := configBody c ++ le 4 (configCheck c).toNat

/-- The 2 KiB of a snuff list copy (Table 14-6). -/
def snuffBytes (c : SnuffCopy) : List Byte :=
  let b := padTo 2044 0xFF (le 4 1 ++ le 4 c.seq.toNat ++ le 35 c.items.lines.toNat ++ le 4 c.items.lanes.toNat
    ++ le 1 c.items.groups.toNat ++ le 1 c.items.ports.toNat ++ le 2 c.items.sensors.toNat)
  b ++ le 4 (crc32 b).toNat

/-- Bytes `lo` to `lo + n − 1` of an area that holds a list and is erased beyond it. -/
def areaOf (l : List Byte) (lo n : Nat) : List Byte := padTo n 0xFF ((l.drop lo).take n)

/-- The bytes of a region. -/
def regionBytes (x : Option Image) : List Byte := match x with | some i => i.header ++ i.payload | none => []

/-- Bytes of the journal area: each slot its entry, or erased. -/
def journalArea (s : State) (lo n : Nat) : List Byte :=
  let slot := fun (k : Nat) => match s.nvm.journal.find? (fun e => e.seq % 4096 == k) with
    | some e => entryBytes e
    | none => List.replicate 32 (0xFF : Byte)
  (((List.range ((n + 62) / 32)).map (fun i => lo / 32 + i)).flatMap slot).drop (lo % 32) |>.take n

/-- The areas of Table 15-5: offset, size and contents. -/
def nvmAreas (s : State) : List (Nat × Nat × (Nat → Nat → List Byte)) :=
  let reg := fun (x : Option Image) => areaOf (regionBytes x)
  let cfg := fun (x : Option CfgCopy) => areaOf (match x with | some c => configBytes c | none => [])
  let snf := fun (x : Option SnuffCopy) => areaOf (match x with | some c => snuffBytes c | none => [])
  [(0x00000, 0x20000, reg s.nvm.slotA.fw), (0x20000, 0x10000, reg s.nvm.slotA.ext), (0x30000, 0x30000, reg s.nvm.slotA.dec),
   (0x60000, 0x20000, reg s.nvm.slotB.fw), (0x80000, 0x10000, reg s.nvm.slotB.ext), (0x90000, 0x30000, reg s.nvm.slotB.dec),
   (0xC0000, 0x7800, cfg s.nvm.cfg0), (0xC7800, 0x7800, cfg s.nvm.cfg1),
   (0xCF000, 0x800, snf s.nvm.snuff0), (0xCF800, 0x800, snf s.nvm.snuff1),
   (0xD0000, 0xC000, areaOf (s.nvm.reference.getD [])), (0xDC000, 0x20000, journalArea s),
   (0xFC000, 0x1000, areaOf (trimRecord s)), (0xFD000, 0x3000, areaOf [])]

/-- `n` bytes of the NVM read window from an offset (R44); a sector that a failed operation left open reads free
bytes. -/
def nvmRead (s : State) (off n : Nat) : List Byte :=
  let bs := (nvmAreas s).flatMap (fun a =>
    let lo := max off a.1
    let hi := min (off + n) (a.1 + a.2.1)
    if lo < hi then a.2.2 (lo - a.1) (hi - lo) else [])
  if s.nvm.junk.isEmpty then bs else
  (List.range n).map (fun i =>
    if s.nvm.junk.contains ((off + i) / 2048) then Config.freeByte (off + i) else bs.getD i 0xFF)

/-! ### Registers -/

/-- The read-only words of Table 15-11, by block offset; SEC_CFG_LOCK too. -/
def secRo (s : State) (o : Nat) : Nat :=
  let k := s.sec.keys
  if o = 0 then
    k.installed.toNat + 16 * b1 k.policy + 32 * b1 (journalFull s) + 64 * b1 s.sec.transfer.isSome + 128 * b1 k.pendingAct
      + 256 * b1 k.confirmed + 512 * k.trial.toNat + 2048 * b1 s.sec.recovery + 4096 * b1 s.sec.keyAreaDefault
  else if o = 4 then s.sec.cfgLock.toNat
  else if o = 8 then journalHead s
  else if o = 0xC then journalOldest s
  else if o = 0x10 then k.released.toNat
  else if o = 0x14 then s.sec.lost.toNat + 65536 * s.sec.unread.toNat
  else if o = 0x18 then k.fwCounter.toNat
  else if o = 0x1C then k.makerCounter.toNat
  else if o = 0x20 ∨ o = 0x24 then
    let i := imageSlot s (o == 0x24)
    b1 i.valid + 2 * b1 (i.valid && i.ext.isSome) + 4 * b1 (i.valid && i.dec.isSome)
  else if o = 0x28 ∨ o = 0x2C then
    let i := imageSlot s (o == 0x2C)
    match i.fw with
    | some f => if i.valid then f.version.toNat else 0
    | none => 0
  else if 0x40 ≤ o ∧ o < 0x58 then
    let e : Session := vget s.sec.sessions ((o - 0x40) / 4) {}
    let (a, i) := match e.origin with | some x => originBytes x | none => (0, 0)
    e.role.toNat + 4 * b1 e.challenge.isSome + 8 * b1 e.lockout + 16 * e.fails + 128 * i.toNat + 256 * a.toNat
      + 65536 * (if e.origin.isSome then min 0xFFFF ((s.sys.lpoMs - e.lastMs) / 1000) else 0)
  else 0

/-- The RC fields a read of a SEC offset clears. -/
def secRc (o : Nat) (s : State) : State :=
  if o = 0x14 then { s with sec := { s.sec with lost := 0, unread := 0 } } else s

/-- The sector with the most erases: count and number, the lowest of equals. -/
def wearMax (l : List (Nat × Nat)) : Nat × Nat := l.foldl (fun m x => if m.1 < x.2 then (x.2, x.1) else m) (0, 0)

/-- The read-only words of Table 15-12, by block offset. -/
def nvmRo (s : State) (o : Nat) : Nat :=
  let bg := s.nvm.eraseDue.any (fun d => !eraseBarred s d)
  if o = 0 then b1 (bg || s.sec.outstanding.any (fun x => nvmOps.contains x.opcode.toNat) || s.sec.keysDue || s.snuffWrite) + 2 * b1 bg
  else if o = 4 then (wearMax s.nvm.erases).1 % 2 ^ 17 + 2 ^ 23 * (wearMax s.nvm.erases).2
  else if o = 8 then s.nvm.eccCorrected.toNat + 65536 * s.nvm.eccBad.toNat
  else 0

/-- The RC fields a read of an NVM offset clears. -/
def nvmRc (o : Nat) (s : State) : State :=
  if o = 8 then { s with nvm := { s.nvm with eccCorrected := 0, eccBad := 0 } } else s

end Sys2Proof.Machine
end

