-- ==== Sys2Proof/Machine/Access.lean ====
section
/-! DEFINITION. Device space (section 1.6): the registers of SYS, HIF and ENG, reads and checked writes of every register
and memory, the rows that access one register, READ_REG, WRITE_REG, SAVE_CONFIG and LOAD_CONFIG. -/
namespace Sys2Proof.Machine

open Sys2Proof

/-! ### SYS registers -/

/-- The code of a power state (Table 4-1). -/
def powerCode : PowerState → Nat
  | .dormant => 0
  | .standby => 1
  | .active => 2
  | .ember => 3
  | .retain => 4

/-- The read-only words of the SYS block, by offset (Tables 0-2, 4-11 to 4-13). -/
def sysRo (s : State) (o : Nat) : Nat :=
  let y := s.sys
  if o = 0 then 0x00021920
  else if o = 8 then Config.uid.toNat % 2 ^ 32
  else if o = 0xC then Config.uid.toNat / 2 ^ 32
  else if o = 0x10 then
    powerCode y.power + 8 * b1 s.safe.hold + 16 * b1 y.exitPend + 32 * b1 y.cfgLoaded + 64 * b1 (timeRuns s)
      + 128 * b1 (timeAcq s) + 256 * b1 y.held + 512 * b1 y.trans.isSome + 1024 * b1 y.cfgDefault
      + 4096 * powerCode (match y.trans with | some t => t.target | none => y.power)
  else if o = 0x14 then
    y.cause.toNat + 16 * b1 y.fallback + 32 * b1 y.slot + 256 * y.prev.toNat + 65536 * y.count.toNat
  else if o = 0x1C then y.lastUs.toNat
  else 0

/-! ### HIF registers and pins -/

/-- HIF_IRQ_STAT (Table 3-13). -/
def irqStat (s : State) : Nat :=
  let wm := shw s Reg.hifRdWm
  let rd := fun (i : Iface) (w : Nat) => b1 (w != 0 && decide (w ≤ rdAvail i s))
  b1 (!s.hif.twi.replies.isEmpty) + 2 * b1 (!s.hif.quad.replies.isEmpty) + 4 * b1 (!s.hif.twi.mbox.submitted)
    + 8 * b1 (!s.hif.quad.mbox.submitted) + 16 * rd .twi (fld wm 0 16) + 32 * rd .quad (fld wm 16 16)
    + 64 * b1 (!s.res.alarms.isEmpty) + 128 * s.hif.irqEvents.toNat

/-- The pins that the firmware's domains drive are live: no reset, neither EMBER nor RETAIN (R113). -/
def pinsLive (s : State) : Bool := !s.sys.inReset && !asleep s

/-- IRQn asserted (Table 3-4). -/
def irqPin (s : State) : Bool := pinsLive s && irqStat s &&& fld (shw s Reg.hifIrqEn) 0 11 != 0

/-- ALERTn asserted (Table 3-4). -/
def alertPin (s : State) : Bool := pinsLive s && (!s.res.alarms.isEmpty || s.safe.hold)

/-- WAKEn asserted (Table 3-4, R113). -/
def wakeOut (s : State) : Bool := s.hif.wakePin && !s.sys.inReset

/-- FAULTn asserted (Table 3-4, R446). -/
def faultPin (s : State) : Bool :=
  s.sys.thermal ||
  (pinsLive s && (List.range 14).any (fun b => blockHolds (fltOf s b) (fld (shw s Reg.hifPinCfg) 0 3)))

/-- The read-only words of the HIF block, by offset (Tables 3-8, 3-10, 3-11, 3-13 and 3-15). -/
def hifRo (s : State) (o : Nat) : Nat :=
  let h := s.hif
  if o = 0x0C then h.i2cStat.toNat + 16 * b1 h.busBusy + 256 * h.lastAddr.toNat
  else if o = 0x14 then h.qspiStat.toNat + 4 * b1 h.csLow
  else if o = 0x18 then h.twi.protoCnt.toNat + 65536 * h.quad.protoCnt.toNat
  else if o = 0x24 then irqStat s
  else if o = 0x34 then
    b1 (irqPin s) + 2 * b1 (alertPin s) + 4 * b1 (wakeOut s) + 8 * b1 (faultPin s) + 16 * b1 h.syncLevel
      + 32 * h.trigLevel.toNat
  else 0

/-- The RC fields a read of a HIF offset clears. -/
def hifRc (o : Nat) (s : State) : State :=
  if o = 0x18 then modPort .quad (fun p => { p with protoCnt := 0 }) (modPort .twi (fun p => { p with protoCnt := 0 }) s)
  else s

/-- The W1C bits of HIF_IRQ_STAT. -/
def irqW1c (w : Nat) (s : State) : State :=
  { s with hif := { s.hif with irqEvents := s.hif.irqEvents &&& ~~~(BitVec.ofNat 4 (w / 128)) } }

/-- A write of a HIF register with W1C bits; none for another offset. -/
def hifW1c (o : Nat) (v : Word) (s : State) : Option State :=
  if o = 0x0C then some { s with hif := { s.hif with i2cStat := s.hif.i2cStat &&& ~~~(BitVec.ofNat 4 v.toNat) } }
  else if o = 0x14 then some { s with hif := { s.hif with qspiStat := s.hif.qspiStat &&& ~~~(BitVec.ofNat 2 v.toNat) } }
  else if o = 0x24 then some (irqW1c v.toNat s)
  else none

/-- Reserved encodings of the HIF registers, on a candidate file (R117). -/
def hifRule (f : RegFile) (o : Nat) : Option Byte :=
  if o = 0x10 then (if fld (fileGet f Reg.hifQspiCfg) 1 2 = 3 then some 0x13 else none)
  else if o = 0x2C then
    (let l := fld (fileGet f Reg.hifPinCfg) 0 3
     if 2 ≤ l ∧ l ≤ 4 then none else some 0x13)
  else none

/-! ### ENG registers -/

/-- An engine line is pending (Table 13-10): level lines follow their conditions, edge lines are latched. -/
def linePending (s : State) (k : Nat) : Bool :=
  if k < 14 then decide ((fltOf s k).raisedCnt ≠ 0)
  else if k = 14 then s.hif.twi.mbox.submitted || s.hif.quad.mbox.submitted
  else if k = 16 then decide (0 < s.link.cmdReady)
  else decide (k < 24) && bitOf s.eng.edges k

/-- The read-only words of the ENG block, by offset (Tables 13-13 and 13-16). -/
def engRo (s : State) (o : Nat) : Nat :=
  let e := s.eng
  if o = 0 then
    b1 s.sys.fwRun + 2 * b1 e.waiting + 4 * b1 e.hook.isSome + 8 * b1 (e.decode.toList.any (fun (x : DecodeEntry) => x.en))
      + 256 * b1 e.lastRestart + 65536 * e.restarts.toNat
  else if o = 4 then e.pc.toNat
  else if o = 0xC then e.wdLeft + 65536 * e.warns.toNat
  else if o = 0x14 then sumNat ((List.range 24).map (fun k => b1 (linePending s k) * 2 ^ k))
  else if o = 0x1C then e.extWords.length + 65536 * e.lastHook + 2 ^ 24 * e.lastW0.toNat
  else if o = 0x20 then e.calls.toNat + 65536 * e.overruns.toNat
  else if o = 0x24 then e.busy
  else if 0x100 ≤ o ∧ o < 0x140 then
    let x : DecodeEntry := vget e.decode ((o - 0x100) / 4) {}
    x.start.toNat + 256 * b1 x.en + 512 * b1 x.repOk + 65536 * x.limit.toNat
  else 0

/-- The RC fields a read of an ENG offset clears. -/
def engRc (o : Nat) (s : State) : State :=
  if o = 0 then { s with eng := { s.eng with restarts := 0 } }
  else if o = 0xC then { s with eng := { s.eng with warns := 0 } }
  else if o = 0x20 then { s with eng := { s.eng with calls := 0, overruns := 0 } }
  else s

/-- TIMEOUT of ENG_WDOG_CFG is 50 to 2,000 ms (Table 13-16). -/
def engRule (f : RegFile) (o : Nat) : Option Byte :=
  if o = 8 then
    (let t := fld (fileGet f Reg.engWdogCfg) 0 12
     if 50 ≤ t ∧ t ≤ 2000 then none else some 0x13)
  else none

/-! ### Reading -/

/-- The ranges of Table 1-6, none for an unmapped address. -/
def rangeOf (a : Nat) : Option Nat :=
  if a < 0x00200000 then some 0
  else if 0x00400000 ≤ a ∧ a < 0x00480000 then some 1
  else if 0x00800000 ≤ a ∧ a < 0x00808000 then some 2
  else if 0x01000000 ≤ a ∧ a < 0x010E0000 then some 3
  else if 0x02000000 ≤ a ∧ a < 0x02100000 then some 4
  else none

/-- The read-only part of a fault register, by word index (Table 14-1). -/
def fltRo (s : State) (b k : Nat) : Nat :=
  let f := fltOf s b
  match k with
  | 0 => f.stat.toNat
  | 6 => f.first.toNat
  | 7 => f.raisedCnt.toNat + 65536 * f.conseqCnt.toNat
  | _ => 0

/-- The read-only part of a register, by block and offset. -/
def blockRo (s : State) (b o : Nat) : Nat :=
  if 0xF000 ≤ o ∧ o < 0xF020 then fltRo s b ((o - 0xF000) / 4) else
  match b with
  | 0 => sysRo s o
  | 1 => hifRo s o
  | 2 => gridRo s o
  | 3 => tchRo s o
  | 4 => carrRo s o
  | 5 => brdgRo s o
  | 6 => convRo s o
  | 7 => timeRo s o
  | 8 => linkRo s o
  | 9 => resRo s o
  | 10 => hkpRo s o
  | 11 => engRo s o
  | 12 => nvmRo s o
  | 13 => secRo s o
  | _ => 0

/-- What a read of a register clears or latches (R11). -/
def blockRc (b o : Nat) (s : State) : State :=
  if o = 0xF01C then modFlt b (fun f => { f with raisedCnt := 0, conseqCnt := 0 }) s
  else if 0xF000 ≤ o then s else
  match b with
  | 1 => hifRc o s
  | 3 => tchRc o s
  | 4 => carrRc o s
  | 5 => brdgRc o s
  | 6 => convRc o s
  | 7 => timeRc o s
  | 8 => linkRc o s
  | 9 => resRc o s
  | 10 => hkpRc o s
  | 11 => engRc o s
  | 12 => nvmRc o s
  | 13 => secRc o s
  | _ => s

/-- The word of a register: its RW bits from the shadow, the others from the block. An offset at which no register is
defined reads 0 (R44). -/
def readWord (s : State) (a : Nat) : Word := BitVec.ofNat 32 (blockRo s (blockOf a) (a % 0x10000)) ||| shw s a

/-- The grid state RAM as a reader sees it: what the pipeline keeps of its own there is undefined to readers
(R228), and nothing says what follows the entry in a slot of the contact table (Table 6-10; log entries 7, 40). -/
def gramRead (s : State) (o n : Nat) : List Byte :=
  (memRead s.gram o n).mapIdx (fun i b =>
    if (0x55000 ≤ o + i ∧ o + i < 0x6C000) ∨ (0x54000 ≤ o + i ∧ o + i < 0x54A00 ∧ 16 ≤ (o + i - 0x54000) % 64) then
    Config.freeByte (s.freeCtr + i) else b)

/-- A read of `w` bytes at a mapped address, with what it clears. -/
def devRead (a w : Nat) (s : State) : List Byte × State :=
  match rangeOf a with
  | some 0 => (memRead s.res.mem a w, s)
  | some 1 => (gramRead s (a - 0x00400000) w, { s with freeCtr := s.freeCtr + w })
  | some 2 => (memRead s.eng.ram (a - 0x00800000) w, s)
  | some 3 => (le 4 (readWord s a).toNat, blockRc (blockOf a) (a % 0x10000) s)
  | some 4 => (nvmRead s (a - 0x02000000) w, s)
  | _ => ([], s)

/-- `n` reads of `w` bytes from an address up (R82). -/
def devReads (w : Nat) : Nat → Nat → State → List Byte × State
  | 0, _, s => ([], s)
  | n + 1, a, s =>
    let (l, s) := devRead a w s
    let (m, s) := devReads w n (a + w) s
    (l ++ m, s)

/-! ### Writing -/

/-- The role a writer acts with (log entry 48). -/
def writerRole (w : Writer) (s : State) : Nat :=
  match w with
  | .session k => (s.sec.sessions[k] : Session).role.toNat
  | .firmware => 3
  | .extension => 3

/-- The role byte a journal entry of a register write carries (Table 15-7). -/
def writerByte (w : Writer) (s : State) : Byte :=
  match w with
  | .session k => BitVec.ofNat 8 (s.sec.sessions[k] : Session).role.toNat
  | .firmware => 0xFF
  | .extension => 3

/-- A W1C write of FLT_STAT: each raised bit the writer may acknowledge is acknowledged (R426). -/
def fltW1c (w : Writer) (b : Nat) (v : Word) (s : State) : State :=
  let f := fltOf s b
  let role := writerRole w s
  acknowledge b (sumNat ((maskBits 32 (v &&& f.stat).toNat).map (fun i =>
    if (ackRole (raisedSeverity f i)).toNat ≤ role then 2 ^ i else 0))) s

/-- The severity fields of a FLT_SEVk candidate are 0 to 4 for every source the block defines (R424). -/
def sevRule (f : RegFile) (b k : Nat) : Option Byte :=
  if (List.range 10).all (fun j => decide (sourceCount b ≤ 10 * (k - 2) + j ∨ fld (fileGet f (Reg.flt b k)) (3 * j) 3 ≤ 4))
  then none else some 0x13

/-- The rules of a block on a candidate file (R514): none when the write passes. -/
def blockRule (s : State) (f : RegFile) (b o : Nat) : Option Byte :=
  if 0xF000 ≤ o then (if 0xF008 ≤ o ∧ o < 0xF018 then sevRule f b ((o - 0xF000) / 4) else none) else
  match b with
  | 0 => if o = 0x18 ∧ fld (fileGet f Reg.sysClkCfg) 1 2 = 3 then some 0x13 else none
  | 1 => hifRule f o
  | 2 => gridRule s f o
  | 3 => tchRule s f o
  | 4 => carrRule s f o
  | 5 => brdgRule s f o
  | 6 => convRule s f o
  | 7 => timeRule s f o
  | 8 => linkRule s f o
  | 9 => resRule s f o
  | 10 => hkpRule s f o
  | 11 => engRule f o
  | _ => none

/-- The candidate file of a write: the word replaced, and the gain fields that follow it (R187). -/
def candidate (s : State) (a : Nat) (v : Word) : RegFile :=
  let f := fileSet a v s.shadow
  if 0x01020080 ≤ a ∧ a < 0x010200C0 ∧ a % 8 = 4 then
    let i := (a - 0x01020084) / 8
    if (a - 0x01020084) % 8 = 0 then setBaseGain i (fld v 2 2) f else f
  else if 0x01030100 ≤ a ∧ a < 0x01030200 ∧ a % 0x20 = 0 then fixGain ((a - 0x01030100) / 0x20) f
  else f

/-- A register word that passed its checks takes its place, with what the block does about it. -/
def takeWord (a : Nat) (f : RegFile) (s : State) : State :=
  let b := blockOf a
  let o := a % 0x10000
  if 0xF000 ≤ o then withShadow f s else
  match b with
  | 2 => applyNow 3 (applyNow 2 (withShadow f s))
  | 3 => applyNow 3 (applyNow 2 (withShadow f s))
  | 4 =>
    let cur := fld (fileGet f Reg.carrCfg) 0 4
    let n := if o = 0x80 ∧ cur ≠ fld (shw s Reg.carrCfg) 0 4 then some cur else s.carr.named
    carrNow { withShadow f s with carr := { s.carr with named := n } }
  | 5 =>
    let old := s.active
    let s := applyNow 5 { withShadow f s with freeCtr := s.freeCtr + 1 }
    excFix (settleLanes (settled old s.active) s)
  | 6 => applyNow 6 (withShadow f s)
  | 7 =>
    let s := withShadow f s
    if 0x100 ≤ o ∧ o < 0x300 ∧ o % 0x20 = 0 then takeTrigger (Fin.ofNat 16 ((o - 0x100) / 0x20)) s else timeTouched s
  | 8 => linkTouch o (withShadow f s)
  | 9 => withShadow f (resTouch o s)
  | 11 =>
    if o = 8 then
      (if s.eng.wdLock then s else
        let s := withShadow f s
        { s with eng := { s.eng with wdLock := bitOf (fileGet f Reg.engWdogCfg) 31 } })
    else withShadow f s
  | _ => withShadow f s

/-- A 32-bit write of a register (R514): its status, and its effect when that is OK. Read-only registers and undefined
offsets ignore the write. -/
def regWrite (w : Writer) (op : Byte) (a : Nat) (v : Word) (s : State) : Byte × State :=
  let b := blockOf a
  let o := a % 0x10000
  if o = 0xF000 then (0, fltW1c w b v s)
  else if b = 10 ∧ o = 0x0C then reinstateWrite (writerByte w s) op v s
  else if b = 13 ∧ o = 4 then (0, cfgLockWrite v s)
  else if b = 7 ∧ 0x400 ≤ o ∧ o < 0x480 ∧ o % 0x10 = 0xC then (0, capW1c ((o - 0x400) / 0x10) v s)
  else
    match (if b = 1 then hifW1c o v s else none) with
    | some t => (0, t)
    | none =>
      if regMask a = 0 then (0, s)
      else if outOp s 0x15 && captureBlocks a then (0x31, s)
      else
        let f := candidate s a v
        match blockRule s f b o with
        | some st => (st, s)
        | none => (0, takeWord a f s)

/-- A write of bytes into a memory (Table 1-6). -/
def memWriteDev (a : Nat) (bs : List Byte) (s : State) : State :=
  match rangeOf a with
  | some 0 => { s with res := { s.res with mem := memWrite a bs s.res.mem } }
  | some 1 => { s with gram := memWrite (a - 0x00400000) bs s.gram }
  | some 2 => { s with eng := { s.eng with ram := memWrite (a - 0x00800000) bs s.eng.ram } }
  | _ => s

/-- One write of a run (R84). -/
def devWrite (w : Writer) (op : Byte) (a : Nat) (bs : List Byte) (s : State) : Byte × State :=
  if rangeOf a = some 3 then regWrite w op a (w32 bs 0) s else (0, memWriteDev a bs s)

/-- Writes of `n` bytes each from an address up, until one fails (R84): the status, the writes applied, the state. -/
def devWrites (w : Writer) (op : Byte) (n : Nat) : Nat → Nat → List Byte → State → Byte × Nat × State
  | 0, _, _, s => (0, 0, s)
  | k + 1, a, bs, s =>
    match devWrite w op a (bs.take n) s with
    | (0, t) =>
      let (st, d, u) := devWrites w op n k (a + n) (bs.drop n) t
      (st, d + 1, u)
    | (st, _) => (st, 0, s)

/-! ### READ_REG and WRITE_REG -/

/-- The tests of R44 and R83 on a run of accesses. -/
def runOk (ps : List Byte) : Bool :=
  let a := u32 ps 0
  let w := u8 ps 4
  let c := u16 ps 6
  let r := rangeOf a
  (w == 1 || w == 2 || w == 4) && decide (c * w ≤ 4096) && decide (a % w = 0) && (r != some 3 || w == 4) && r.isSome
    && u8 ps 5 == 0 && (c == 0 || rangeOf (a + c * w - 1) == r)

/-- READ_REG (Table 2-12). -/
def readRegBody (p : Packet) (s : State) : CmdResult :=
  let q := p.params
  checked s [(decide (q.length = 8), 0x11), (runOk q, 0x13)]
    (fun _ =>
      let (l, s) := devReads (u8 q 4) (u16 q 6) (u32 q 0) s
      okCmd s l)

/-- WRITE_REG (R84). -/
def writeRegBody (p : Packet) (s : State) : CmdResult :=
  let q := p.params
  let n := u8 q 4
  let c := u16 q 6
  checked s [(decide (8 ≤ q.length ∧ q.length = 8 + c * n), 0x11), (runOk q, 0x13)]
    (fun _ =>
      let w := match slotOf s p.origin with | some k => Writer.session k | none => Writer.firmware
      match devWrites w 0x0B n c (u32 q 0) (q.drop 8) s with
      | (0, _, s) => okCmd s []
      | (st, d, s) => { st := s, status := st, data := le 2 d })

/-- READ_REG. -/
def execReadReg (p : Packet) (s : State) : Host.Outcome State Fault Refusal := .next (runCommand 0x0A readRegBody p s)
/-- WRITE_REG. -/
def execWriteReg (p : Packet) (s : State) : Host.Outcome State Fault Refusal := .next (runCommand 0x0B writeRegBody p s)

/-! ### Rows of one register write -/

/-- A writer may write a register of a block now: a session by its role and the locks (Tables 2-9 and 2-13), the
extension the blocks of R418; nothing writes while the engine is stopped. -/
def mayWrite (w : Writer) (a : Nat) (s : State) : Bool :=
  let lock := match lockBit a with | some k => s.sec.cfgLock.getLsbD k | none => false
  decide (blockOf a ≤ 13 ∧ a % 4 = 0) && !s.sys.inReset && !asleep s &&
  (match w with
    | .session k =>
      let r := (s.sec.sessions[k] : Session).role.toNat
      decide (writeRole a ≤ r) && (!lock || decide (3 ≤ r))
    | .firmware => true
    | .extension => decide (2 ≤ blockOf a ∧ blockOf a ≤ 6))

/-- One register write by a writer. A write that a rule or a right stops has no effect; the extension's raises
EXT_ACCESS outside its blocks, and counts where it is made (R418). -/
def writeRow (w : Writer) (a : Nat) (v : Word) (s : State) : State :=
  if mayWrite w a s then
    let op : Byte := match w with | .session _ => 0x0B | _ => 0xFF
    let s := (regWrite w op a v s).2
    match w with
    | .extension => { s with eng := { s.eng with hook := s.eng.hook.map (fun h => { h with writes := h.writes + 1 }) } }
    | _ => s
  else
    match w with
    | .extension => if s.sys.inReset || asleep s then s else raise 11 Src.engExtAccess noItem s
    | _ => s

/-- A write of FLT_STAT bits (R426). -/
def execFaultStatAck (w : Writer) (b : Fin 14) (mask : Word) (s : State) : Host.Outcome State Fault Refusal :=
  .next (writeRow w (Reg.flt b.val 0) mask s)

/-- A keyed write of HKP_REINSTATE (R437). -/
def execHkpReinstate (w : Writer) (v : Word) (s : State) : Host.Outcome State Fault Refusal :=
  .next (writeRow w Reg.hkpReinstate v s)

/-- A write of SEC_CFG_LOCK: only a MAKER session changes it (R73, R457). -/
def execSecCfgLockWrite (w : Writer) (v : Word) (s : State) : Host.Outcome State Fault Refusal :=
  match w with
  | .session _ => .next (writeRow w Reg.secCfgLock v s)
  | .firmware => .next s
  | .extension => .next (writeRow w Reg.secCfgLock v s)

/-- A write of TIME_TRGu_CFG, which arms or disarms the trigger (R329). -/
def execTriggerCfgWrite (w : Writer) (u : Fin 16) (v : Word) (s : State) : Host.Outcome State Fault Refusal :=
  .next (writeRow w (Reg.timeTrgCfg u.val) v s)

/-- A write of any other register (R514). -/
def execRegisterWrite (w : Writer) (a : Word) (v : Word) (s : State) : Host.Outcome State Fault Refusal :=
  .next (writeRow w a.toNat v s)

/-! ### Saving and loading the configuration -/

/-- An address a configuration copy holds (R143). -/
def savedAddr (a : Nat) : Bool :=
  let b := blockOf a
  let o := a % 0x10000
  if 0xF004 ≤ o ∧ o < 0xF018 then decide (b ≤ 13)
  else if b = 0 then o == 0x18
  else decide (1 ≤ b ∧ b ≤ 10 ∧ o < 0xF000)

/-- The items of the shadow that a copy holds. -/
def savedItems (f : RegFile) : RegFile := f.filter (fun p => savedAddr p.1)

/-- The newer valid configuration copy: false copy 0; a copy of another major version is treated as invalid (R516). -/
def newerCfg (s : State) : Option (Bool × CfgCopy) :=
  let ok := fun (c : Option CfgCopy) => c.filter (fun x => fld x.version 24 8 == fld s.sec.fwVersion 24 8)
  newerOf (·.seq) (ok s.nvm.cfg0) (ok s.nvm.cfg1)

/-- The copy SAVE_CONFIG writes: the older or the invalid one (R142). -/
def olderCfg (s : State) : Bool := match newerCfg s with | some (b, _) => !b | none => false

/-- Table 4-10. -/
def cfgData (b : Bool) (c : CfgCopy) : List Byte :=
  le 4 c.seq.toNat ++ le 4 (configCheck c).toNat ++ [BitVec.ofNat 8 (b1 b), 0, 0, 0]

/-- A configuration copy replaced. -/
def putCfg (b : Bool) (c : Option CfgCopy) (s : State) : State :=
  { s with nvm := if b then { s.nvm with cfg1 := c } else { s.nvm with cfg0 := c } }

/-- SAVE_CONFIG: the shadow contents are taken when ACCEPTED is produced (R59). -/
def saveConfigBody (p : Packet) (s : State) : CmdResult :=
  checked s [(decide (p.params.length = 0), 0x11)]
    (fun _ => acceptCmd { s with sec := { s.sec with saving := savedItems s.shadow } })

/-- SAVE_CONFIG_DONE: the older copy erased, programmed and read back (R142). -/
def execSaveConfigDone (r : NvmResult) (s : State) : Host.Outcome State Fault Refusal :=
  match findOut s 0x0C with
  | none => .next s
  | some _ =>
    let b := olderCfg s
    let seq : Word := match newerCfg s with | some (_, c) => c.seq + 1 | none => Config.firstSave
    let k := if b then 399 else 384
    let s := countErases k 15 (edgeLine 19 s)
    let items := s.sec.saving
    let s := { s with sec := { s.sec with saving := [] } }
    match r with
    | .ok =>
      let c : CfgCopy := ⟨seq, s.sec.fwVersion, items⟩
      .next (completeDeferred 0x0C 0x00 (cfgData b c) .normal (nvmGood k 15 (putCfg b (some c) s)))
    | r => .next (completeDeferred 0x0C 0x60 [] .normal (nvmFailed r k 15 (putCfg b none s)))

/-- LOAD_CONFIG. -/
def loadConfigBody (p : Packet) (s : State) : CmdResult :=
  checked s [(decide (p.params.length = 0), 0x11)] (fun _ => acceptCmd s)

/-- The register words of a stream's definition. -/
def streamRegs (k : Nat) : List Nat :=
  [Reg.resStreamCfg k, Reg.resStreamWin k, Reg.resStreamLanes k, Reg.resStreamSrc k, Reg.resStreamSrc2 k]

/-- A file merged from the saved items and the words that no copy holds, addresses rising. -/
def mergeItems (items f : RegFile) : RegFile :=
  (items.filter (fun p => savedAddr p.1)).foldl (fun g p => fileSet p.1 p.2 g) (f.filter (fun p => !savedAddr p.1))

/-- Every shadow register of R143 replaced by a copy's (R138, R143): the admissions of streams whose definition changes
are withdrawn, and what follows shadow words of TIME and LINK follows them. -/
def loadItems (items : RegFile) (s : State) : State :=
  let f := mergeItems items s.shadow
  let s := allStreams.foldl (fun (t : State) (k : Fin 16) =>
    if (streamRegs k.val).all (fun a => fileGet f a == shw s a) then t else withdraw k t) s
  let ports := allPorts.filter (fun n => fileGet f (Reg.linkPortCfg n.val) != shw s (Reg.linkPortCfg n.val))
  let db := fileGet f Reg.linkCfg != shw s Reg.linkCfg
  let s := { withShadow f s with carr := { s.carr with named := some (fld (fileGet f Reg.carrCfg) 0 4) } }
  let s := ports.foldl (fun t n => portTouch n t) s
  timeTouched (if db then touchDb s else s)

/-- LOAD_CONFIG_DONE (R143). -/
def execLoadConfigDone (s : State) : Host.Outcome State Fault Refusal :=
  match findOut s 0x0D with
  | none => .next s
  | some _ =>
    match newerCfg s with
    | none => .next (completeDeferred 0x0D 0x60 [] .normal s)
    | some (b, c) =>
      let s := loadItems c.items s
      .next (completeDeferred 0x0D 0x00 (cfgData b c) .normal { s with sys := { s.sys with cfgDefault := false } })

/-- SAVE_CONFIG. -/
def execSaveConfig (p : Packet) (s : State) : Host.Outcome State Fault Refusal := .next (runCommand 0x0C saveConfigBody p s)
/-- LOAD_CONFIG. -/
def execLoadConfig (p : Packet) (s : State) : Host.Outcome State Fault Refusal := .next (runCommand 0x0D loadConfigBody p s)

end Sys2Proof.Machine
end

