-- ==== Sys2Proof/Machine/Mode.lean ====
section
/-! DEFINITION. Fabric-wide mode changes (section 11.8): MODE_PREPARE and MODE_COMMIT, the frames that carry a change, its
acknowledgements and its commit, and its application at a boundary. -/
namespace Sys2Proof.Machine

open Sys2Proof

/-! ### Frames -/

/-- MODE frames to one device (R361; their layout is log entry 50's). -/
def modeFrames (dest : Byte) (payload : List Byte) (s : State) : State := sendPacket dest 2 0x0C .twi 0 payload s

/-- The payload of a PREPARE: the parameters of Table 11-12. -/
def preparePayload (c : ModeChange) : List Byte :=
  [0] ++ le 4 c.target.toNat ++ le 4 c.newP ++ le 2 c.id.toNat ++ le 2 c.writes.length
    ++ c.writes.flatMap (fun (w : ModeWrite) => [w.dev, 0, 0, 0] ++ le 4 w.addr.toNat ++ le 4 w.value.toNat)

/-- The payload of a COMMIT (1) or an ABORT (2). -/
def orderPayload (kind : Nat) (id : Half) : List Byte := [BitVec.ofNat 8 kind] ++ le 2 id.toNat

/-- An acknowledgement of a PREPARE (0), a COMMIT (1) or an ABORT (2). -/
def ackPayload (kind : Nat) (id : Half) (status : Byte) : List Byte := [3, BitVec.ofNat 8 kind, status] ++ le 2 id.toNat

/-- The payload of an APPLIED report. -/
def appliedPayload (id : Half) (e : Word) : List Byte := [4] ++ le 2 id.toNat ++ le 4 e.toNat

/-- The devices a change goes to: each device of the database that holds an address (R361), this one included. -/
def modeDevices (s : State) : List Byte :=
  let others : List (Byte × Byte) :=
    (s.link.topo.filter (fun (r : Topo) => r.joined && decide (r.addr.toNat ≤ 0xFD))).map (fun (r : Topo) => (r.addr, 0))
  ((others ++ [(ownAddr s, 0)]).foldl (fun (l : List (Byte × Byte)) (x : Byte × Byte) =>
    if l.any (fun y => y.1 == x.1) then l else insAnswer x l) []).map (fun (x : Byte × Byte) => x.1)

/-- A payload sent to each device of a list but this one. -/
def modeToAll (devs : List Byte) (payload : List Byte) (s : State) : State :=
  (devs.filter (· != ownAddr s)).foldl (fun t d => modeFrames d payload t) s

/-! ### The check of R362 -/

/-- The writes of a change addressed to this device. -/
def modeWrites (c : ModeChange) (s : State) : List ModeWrite :=
  c.writes.filter (fun (w : ModeWrite) => w.dev == 0xFF || s.link.addr == some w.dev)

/-- The shadow file with the writes of a change in place. -/
def modeFile (ws : List ModeWrite) (s : State) : RegFile :=
  ws.foldl (fun f (w : ModeWrite) => candidate (withShadow f s) w.addr.toNat w.value) s.shadow

/-- The state as the change would make it: the new period and a CURRENT it names. -/
def modeView (c : ModeChange) (f : RegFile) (s : State) : State :=
  let cur := fld (fileGet f Reg.carrCfg) 0 4
  { s with
    time := { s.time with sched := s.time.sched.map (fun (x : Schedule) => if c.newP = 0 then x else { x with p := c.newP }) }
    carr := if cur = fld (shw s Reg.carrCfg) 0 4 then s.carr else { s.carr with named := some cur } }

/-- The running streams' admission under new settings (R362). -/
def modeAdmits (f : RegFile) (p : Nat) (s : State) : Bool :=
  let run := allStreams.filter (fun (k : Fin 16) => (s.res.streams[k] : StreamSt).running)
  let need : Fin 16 → (Nat × Nat) × Nat := fun k =>
    let d := streamDef s.shadow k
    let (e, big) := streamCost d f (some p)
    (shareOf e p (if d.drain = 3 then 10000 else drainLat s.shadow d.drain) (resMargin s), big)
  let rate : Fin 16 → Nat := fun k =>
    if (s.res.streams[k] : StreamSt).running then (need k).1.1 else (s.res.streams[k] : StreamSt).rate
  run.all (fun k =>
    decide ((need k).1.2 ≤ (s.res.streams[k] : StreamSt).pages * 4096 ∧ (need k).2 ≤ 65520)
      && (streamDrain s k != 2 || decide (12 + pad4 (need k).2 ≤ 4088))
      && (streamDrain s k != 3 || decide ((need k).1.1 ≤ (s.res.streams[k] : StreamSt).rate)))
  && [0, 1, 2].all (fun d => decide (sumNat ((allStreams.filter (fun (k : Fin 16) =>
      (s.res.streams[k] : StreamSt).admitted && streamDrain s k == d)).map rate) ≤ drainRate s.shadow d)
      || run.all (fun k => streamDrain s k != d))

/-- The status of this device's check of a change (R362). -/
def modeCheck (c : ModeChange) (s : State) : Byte :=
  if s.link.prep.isSome then 0x31 else
  let ws := modeWrites c s
  let f := modeFile ws s
  let v := modeView c f s
  let p := (periodUs v).getD 1
  if !(ws.all (fun (w : ModeWrite) => (blockRule v f (blockOf w.addr.toNat) (w.addr.toNat % 0x10000)).isNone)
      && periodFits f (curCarrier v) p) then 0x13
  else if !modeAdmits f p s then 0x40
  else 0x00

/-- A MODE journal entry (Table 15-8). -/
def journalMode (result : Byte) (id : Half) (e : Word) (s : State) : State :=
  journalRaise 0xFF 0xFF result 0x09 (le 2 id.toNat ++ le 4 e.toNat) s

/-- A change checked, held when it passes, and journaled with the status. -/
def takeChange (c : ModeChange) (s : State) : Byte × State :=
  let st := modeCheck c s
  let s := journalMode st c.id Config.modeNoEpoch s
  (st, if st = 0 then { s with link := { s.link with prep := some ⟨c, false, false, false⟩ } } else s)

/-- A held change discarded: MODE_LAG clears (R366). -/
def dropChange (s : State) : State :=
  let lag := s.link.modeLag
  let s := { s with link := { s.link with prep := none, modeLag := false } }
  if lag then touchDb s else s

/-- An abort of the change held: discarded and journaled. -/
def abortChange (id : Half) (s : State) : State :=
  if s.link.prep.any (fun x => x.change.id == id) then
    journalMode Config.modeAbortStatus id Config.modeNoEpoch (dropChange s)
  else s

/-! ### MODE_PREPARE -/

/-- The change a MODE_PREPARE names (Table 11-12). -/
def changeOf (q : List Byte) : ModeChange :=
  ⟨BitVec.ofNat 16 (u16 q 8), w32 q 0, u32 q 4, (List.range (u16 q 10)).map (fun i =>
    ⟨BitVec.ofNat 8 (u8 q (12 + 12 * i)), w32 q (16 + 12 * i), w32 q (20 + 12 * i)⟩)⟩

/-- An address a mode change may write: a 4-byte aligned register of GRID, TCH, CARR, BRDG or CONV. -/
def modeAddr (a : Nat) : Bool := decide (a % 4 = 0 ∧ 2 ≤ blockOf a ∧ blockOf a ≤ 6)

/-- TARGET starts 500 ms to 1,000 s from now, and passes the test of R24. -/
def modeTargetOk (e : Word) (s : State) : Bool :=
  (targetBad s e).isNone && (match s.time.sched with
    | some c => decide (s.time.ns + 500000000 ≤ epochStart c e ∧ epochStart c e ≤ s.time.ns + 1000000000000)
    | none => false)

/-- MODE_PREPARE (R361, R362). -/
def modePrepareBody (p : Packet) (s : State) : CmdResult :=
  let q := p.params
  let c := changeOf q
  checked s
    [(decide (12 ≤ q.length ∧ q.length = 12 + 12 * u16 q 10), 0x11),
     (decide (c.id ≠ 0 ∧ (c.newP = 0 ∨ (1000 ≤ c.newP ∧ c.newP ≤ 1000000)) ∧ u16 q 10 ≤ 255)
       && (List.range (u16 q 10)).all (fun i => zeros q (13 + 12 * i) 3)
       && c.writes.all (fun (w : ModeWrite) => modeAddr w.addr.toNat), 0x13),
     (isLamplighter s && (currentEpoch s).isSome, 0x30), (modeTargetOk c.target s, 0x13),
     (s.link.flight.isNone && s.link.prep.isNone, 0x31), (modeCheck c s == 0, 0x13)]
    (fun _ =>
      let devs := modeDevices s
      let s := (takeChange c s).2
      let s := { s with link := { s.link with flight := some {
        change := c, asked := devs, acks := [(ownAddr s, 0)], prepared := false, commitSent := false, commitAcks := []
        applied := [], aborted := false, abortAcks := [] } } }
      acceptCmd (modeToAll devs (preparePayload c) s))

/-- MODE_PREPARE. -/
def execModePrepare (p : Packet) (s : State) : Host.Outcome State Fault Refusal := .next (runCommand 0x73 modePrepareBody p s)

/-- The flight changed. -/
def modFlight (f : Flight → Flight) (s : State) : State :=
  { s with link := { s.link with flight := s.link.flight.map f } }

/-- MODE_PREPARE_DONE (R363, Table 11-13): PREPARED when every device acknowledged OK, else ABORT to every device. -/
def execModePrepareDone (s : State) : Host.Outcome State Fault Refusal :=
  .next (match s.link.flight, findOut s 0x73 with
    | some f, some _ =>
      let silent := (f.asked.filter (fun a => f.acks.all (fun x => x.1 != a))).map (fun a => (a, (0x51 : Byte)))
      let bad := (f.acks.filter (fun x => x.2 != 0) ++ silent).foldl (fun l x => insAnswer x l) []
      let data := [BitVec.ofNat 8 (b1 bad.isEmpty), BitVec.ofNat 8 f.acks.length,
        BitVec.ofNat 8 (f.acks.countP (fun x => x.2 == 0)), BitVec.ofNat 8 bad.length] ++ bad.flatMap (fun x => [x.1, x.2])
      let s := if bad.isEmpty then modFlight (fun x => { x with prepared := true }) s
        else
          let s := abortChange f.change.id (modeToAll f.asked (orderPayload 2 f.change.id) s)
          { s with link := { s.link with flight := none } }
      completeDeferred 0x73 0x00 data .normal s
    | _, _ => s)

/-! ### MODE_COMMIT -/

/-- The start instant of a change's target epoch under the schedule it was prepared in. -/
def targetStart (c : ModeChange) (s : State) : Nat :=
  match s.time.sched with
  | some x => epochStart x c.target
  | none => 0

/-- COMMIT or ABORT sent to every device, this one included (R363). -/
def orderAll (commit : Bool) (f : Flight) (s : State) : State :=
  let own := ownAddr s
  if commit then
    let s := modFlight (fun x => { x with commitSent := true, commitAcks := [own] }) s
    modeToAll f.asked (orderPayload 1 f.change.id) (commitHeld (fun c => c.id == f.change.id) s)
  else
    let s := modFlight (fun x => { x with aborted := true, abortAcks := [own] }) s
    modeToAll f.asked (orderPayload 2 f.change.id) (abortChange f.change.id s)

/-- MODE_COMMIT (R363). -/
def modeCommitBody (p : Packet) (s : State) : CmdResult :=
  let q := p.params
  let id : Half := BitVec.ofNat 16 (u16 q 0)
  let commit := decide (u8 q 2 = 0)
  let held := s.link.flight.filter (fun f => f.change.id == id)
  checked s
    [(decide (q.length = 4), 0x11), (decide (u8 q 2 ≤ 1 ∧ u8 q 3 = 0), 0x13),
     (held.isSome || s.link.prep.any (fun x => x.change.id == id), 0x13), (isLamplighter s, 0x30),
     (held.any (fun f => f.prepared && !f.aborted && !f.commitSent
       && (!commit || decide (s.time.ns + 2000000 ≤ targetStart f.change s))), 0x30)]
    (fun _ => match held with
      | some f => acceptCmd (orderAll commit f s)
      | none => failCmd s 0x30)

/-- MODE_COMMIT. -/
def execModeCommit (p : Packet) (s : State) : Host.Outcome State Fault Refusal := .next (runCommand 0x74 modeCommitBody p s)

/-- An entry of the completion data of MODE_COMMIT. -/
def commitEntry (a : Byte) (st : Byte) (e : Word) : List Byte := [a, st] ++ le 4 e.toNat

/-- MODE_COMMIT_DONE (R363). -/
def execModeCommitDone (s : State) : Host.Outcome State Fault Refusal :=
  .next (match s.link.flight, findOut s 0x74 with
    | some f, some _ =>
      let got := if f.aborted then f.abortAcks else f.applied.map (·.1)
      let silent := f.asked.filter (fun a => !got.contains a)
      let late := if f.aborted then [] else f.applied.filter (fun x => x.2 != f.change.target)
      let data := [BitVec.ofNat 8 got.length, BitVec.ofNat 8 (if f.aborted then 0 else got.length - late.length),
          BitVec.ofNat 8 late.length, BitVec.ofNat 8 silent.length]
        ++ f.asked.flatMap (fun a =>
          match late.find? (fun x => x.1 == a) with
          | some x => commitEntry a 0 x.2
          | none => if silent.contains a then commitEntry a 0x51 0 else [])
      completeDeferred 0x74 0x00 data .normal { s with link := { s.link with flight := none } }
    | _, _ => s)

/-- MODE_COMMIT_RESEND (R363): every 10 ms to each device without an acknowledgement, until 60 s after the target epoch
starts; where no COMMIT was sent by then, ABORT. -/
def execModeCommitResend (s : State) : Host.Outcome State Fault Refusal :=
  .next (match s.link.flight with
    | some f =>
      let past := decide (targetStart f.change s + 60000000000 ≤ s.time.ns)
      if f.commitSent then
        if past then s else
        modeToAll (f.asked.filter (fun a => !f.commitAcks.contains a)) (orderPayload 1 f.change.id) s
      else if past && f.prepared && !f.aborted then
        let s := abortChange f.change.id (modeToAll f.asked (orderPayload 2 f.change.id) s)
        { s with link := { s.link with flight := none } }
      else s
    | none => s)

/-! ### Frames received -/

/-- MODE_PREPARE_RECEIVE (R362): a change from the elected lamplighter. -/
def execModePrepareReceive (_p : Fin 4) (src : Byte) (c : ModeChange) (s : State) : Host.Outcome State Fault Refusal :=
  .next (
    if !linkRuns s || isLamplighter s || (llShown s).1 != src then s else
    let (st, t) := takeChange c s
    modeFrames src (ackPayload 0 c.id st) t)

/-- MODE_ACK_RECEIVE (R363). -/
def execModeAckReceive (src : Byte) (a : ModeAck) (s : State) : Host.Outcome State Fault Refusal :=
  .next (match s.link.flight with
    | some f =>
      if f.change.id != a.id || a.src != src || !f.asked.contains src then s else
      let add := fun (l : List Byte) => if l.contains src then l else l ++ [src]
      modFlight (fun x =>
        match a.kind with
        | 0 => if x.prepared || x.acks.any (fun y => y.1 == src) then x else { x with acks := x.acks ++ [(src, a.status)] }
        | 1 => { x with commitAcks := add x.commitAcks }
        | 2 => if x.aborted then { x with abortAcks := add x.abortAcks } else x) s
    | none => s)

/-- MODE_COMMIT_RECEIVE (R365): the commit of the held change; a COMMIT frame is acknowledged. -/
def execModeCommitReceive (how : CommitKind) (s : State) : Host.Outcome State Fault Refusal :=
  .next (match how with
    | .frame src id =>
      let known := s.link.prep.any (fun x => x.change.id == id) || s.link.modeId == id
      let s := commitHeld (fun c => c.id == id) s
      if linkRuns s && known then modeFrames src (ackPayload 1 id 0) s else s
    | .sync n0 p => commitHeld (syncCommits n0 p) s
    | .topo id => commitHeld (fun c => c.id == id) s)

/-- MODE_ABORT_RECEIVE (R366): the unapplied change discarded; a device that holds no such change confirms as well. -/
def execModeAbortReceive (src : Byte) (id : Half) (s : State) : Host.Outcome State Fault Refusal :=
  .next (
    if !linkRuns s then s else
    let s := abortChange id s
    if s.link.modeId = id then s else modeFrames src (ackPayload 2 id 0) s)

/-- MODE_APPLIED_RECEIVE (R364). -/
def execModeAppliedReceive (src : Byte) (id : Half) (epoch : Word) (s : State) : Host.Outcome State Fault Refusal :=
  .next (modFlight (fun f =>
    if f.change.id == id && f.asked.contains src && f.applied.all (fun x => x.1 != src) then
      { f with applied := f.applied ++ [(src, epoch)] } else f) s)

/-- PREPARED_CHANGE_DISCARD (R366): a change without any commit discarded. -/
def execPreparedChangeDiscard (s : State) : Host.Outcome State Fault Refusal :=
  .next (if s.link.prep.any (fun x => !x.committed) then dropChange s else s)

/-! ### Application -/

/-- A change applied at the boundary of epoch `m` (R364, R365). -/
def modeApply (x : Prepared) (m : Word) (s : State) : State :=
  let c := x.change
  let ws := modeWrites c s
  let f := modeFile ws s
  let named := (modeView c f s).carr.named
  let s := { withShadow f s with carr := { s.carr with named := named } }
  let s := (ws.map (fun (w : ModeWrite) => blockOf w.addr.toNat)).eraseDups.foldl (fun t b => applyBlock b t) s
  let time := if c.newP = 0 ∨ x.resume then s.time else
    { s.time with sched := s.time.sched.map (fun (y : Schedule) => ⟨c.newP, epochStart y m, m⟩) }
  let time := { time with adopt := if time.adopt = time.sched then none else time.adopt }
  let s := { s with time := time, link := { s.link with
    modeGen := s.link.modeGen + 1, modeId := c.id, prep := none, modeLag := false } }
  let late := x.lagging || m != c.target
  let s := journalMode (if late then Config.modeLagStatus else 0) c.id m (touchDb s)
  if isLamplighter s then
    modFlight (fun f => if f.change.id == c.id then { f with applied := f.applied ++ [(ownAddr s, m)] } else f) s
  else modeFrames (llShown s).1 (appliedPayload c.id m) s

/-- MODE_LAG begins (R364). -/
def modeLags (x : Prepared) (s : State) : State :=
  let s := { s with
    link := { s.link with prep := some { x with lagging := true }, modeLag := true }
    hif := { s.hif with irqEvents := s.hif.irqEvents ||| 0b0100 } }
  raise 8 Src.linkModeLag noItem (touchDb s)

/-- The mode change's part of the boundary of epoch `m`. -/
def modeStep (m : Word) (s : State) : State :=
  match s.link.prep with
  | none => s
  | some x =>
    if laterW x.change.target m then s
    else if x.resume ∨ x.committed then modeApply x m s
    else if x.lagging then s else modeLags x s

/-- A lagging change with a new period ends the present schedule at boundary `m` (R365): the new schedule. -/
def modeCloses (m : Word) (s : State) : Option Schedule :=
  match s.link.prep, s.time.sched with
  | some x, some c =>
    if x.committed && !x.resume && x.change.newP != 0 && laterW m x.change.target then
      some ⟨x.change.newP, epochStart c x.change.target, x.change.target⟩
    else none
  | _, _ => none

end Sys2Proof.Machine
end

