-- ==== Sys2Proof/Machine/Boundary.lean ====
section
/-! DEFINITION. The epoch boundary (section 1.5): which boundary comes next, and what takes place at it in the order of
R31. -/
namespace Sys2Proof.Machine

open Sys2Proof

/-! ### Which boundary comes next -/

/-- The first boundary of a schedule at or after an instant: its number and its instant (R22). -/
def firstBoundary (c : Schedule) (t : Nat) : Word × Nat :=
  let k := ceilDiv (t - c.t0) c.pNs
  (c.n0 + BitVec.ofNat 32 k, c.t0 + k * c.pNs)

/-- A boundary not acquired before: the epoch after the last one acquired where the number is not later (R36). -/
def laterBoundary (c : Schedule) (last : Option Word) (b : Word × Nat) : Word × Nat :=
  match last with
  | some a => if laterW b.1 a then b else (a + 1, epochStart c (a + 1))
  | none => b

/-- The next boundary of the schedule in force (R26, R35, R36). -/
def nextBoundary (c : Schedule) (s : State) : Word × Nat :=
  laterBoundary c s.time.lastAcq (match s.time.epoch with
    | some e => if s.time.stepped then firstBoundary c s.time.ns else (e + 1, epochStart c (e + 1))
    | none => firstBoundary c s.time.ns)

/-! ### Closing an epoch -/

/-- The records an epoch that ends still owes (R300, R331, Table 12-2). -/
def closeEpoch (s : State) : State :=
  match s.time.epoch with
  | some e => closeMarks e (convCloseEpoch e s)
  | none => s

/-- A boundary of a schedule that ends there with no epoch beginning: the epoch in progress is closed and none is in
progress until the first boundary of the new schedule (R328, R365). -/
def closingBoundary (tb : Nat) (s : State) : State :=
  let s := closeEpoch (advanceTo tb s)
  { s with
    time := { s.time with epoch := none }
    res := { s.res with streams := s.res.streams.map (fun (x : StreamSt) =>
      if x.accEpoch.isNone then x else { x with
        prevEpoch := x.accEpoch, prevMask := x.accMask, prevReserved := x.reserved, accEpoch := none, accMask := 0
        reserved := 0 }) } }

/-! ### The steps of R31 -/

/-- The grid lines snuffed or reinstated since the last boundary (R162, R437). -/
def linesApply (s : State) : State :=
  { s with
    snuff := { s.snuff with lines := (s.snuff.lines &&& ~~~s.snuffOff.lines) ||| s.snuffDue.lines }
    snuffDue := { s.snuffDue with lines := 0 }
    snuffOff := { s.snuffOff with lines := 0 } }

/-- The shadow of the blocks that acquire put in force (R31 step 1, R138). -/
def applyAll (s : State) : State := carrApply (applyBlock 6 (applyBlock 5 (applyBlock 3 (applyBlock 2 s))))

/-- Step 1 at the boundary of epoch `m`: a committed mode change, changes waiting for their epoch, and in ACTIVE the copy
from shadow to active. -/
def configStep (m : Word) (s : State) : State :=
  let s := convDue m (brdgDue m (carrDue m (modeStep m s)))
  if s.sys.power = .active then applyAll s else s

/-- What the running blocks do about a new configuration; `old` is the active file before it. -/
def configFollow (old : RegFile) (s : State) : State := brdgBoundary old (tchBoundary old s)

/-- Grid acquisition ends: no frame is in progress, and a capture ends with it (R177). -/
def gridOff (s : State) : State :=
  { s with grid := { s.grid with
    running := false, restart := false, stopAt := none, runDone := false, startAt := none, frame := none
    capture := s.grid.capture.map (fun c => { c with ended := true }) } }

/-- A grid stop or the end of a limited run is due at epoch `m` (R177). -/
def gridStops (m : Word) (s : State) : Bool :=
  gridRuns s && (s.grid.runDone || (match s.grid.stopAt with
    | some e => !laterW e m
    | none => false))

/-- A GRID_START that applies at epoch `m` (R177, R189, R244). -/
def gridBegin (m : Word) (s : State) : State :=
  match s.grid.startAt with
  | some (e, n) =>
    if laterW e m then s else
    tchStart { s with
      grid := { s.grid with
        running := true, startAt := none, runDone := false, runFrames := 0, nextSeq := 0, framesLeft := BitVec.ofNat 32 n
        limited := n != 0 }
      carr := { s.carr with curWin := [], candWin := [] } }
  | none => s

/-- A GRID block reset whose shadow has closed lets acquisition restart (R181). -/
def gridAgain (s : State) : State :=
  if s.grid.restart && s.flt.shadows.all (fun x => x.block != 2) then
    tchStart { s with grid := { s.grid with restart := false } }
  else s

/-- Each epoch begins with its first frame, no frame lost, and the drivers on (R157, R180). -/
def gridEpoch (s : State) : State :=
  { s with grid := { s.grid with nextSlot := 0, frameLost := false, driversOff := [], refOld := none } }

/-- Acquisition resumes at the first boundary at least 2 ms after the acknowledgement (R146). -/
def safeResume (tb : Nat) (s : State) : State :=
  match s.safe.resumeAfter with
  | some t => if t ≤ tb then startWindows 0xFF false { s with safe := { s.safe with resumeAfter := none } } else s
  | none => s

/-- The causes by which sources are dark in the epoch that begins (R381). -/
def darkCauses (s : State) : List (Nat × Nat) :=
  (if s.hkp.pause then [(3, 0x1FF)] else [])
    ++ (if s.safe.hold || s.safe.resumeAfter.isSome then [(4, 0x1FF)] else [])
    ++ (if s.grid.restart then [(4, gridSources)] else [])

/-- HEALTH records of the boundary of epoch `m` (Table 12-2). -/
def healthRecords (m : Word) (tb : Nat) (s : State) : State :=
  emit 8 8 m (fun k =>
    let n := (streamDef s.shadow k.val).health
    if n ≠ 0 ∧ m.toNat % n = 0 then some (healthData tb s) else none) s

/-- The epoch pulse of the SYNC ball (R115, Table 3-15). -/
def syncPulse (tb : Nat) (s : State) : State :=
  let cfg := shw s Reg.hifPinCfg
  if bitOf cfg 4 && !bitOf cfg 5 then { s with hif := { s.hif with syncPulses := tb :: s.hif.syncPulses } } else s

/-- Acquisition ends at the first boundary after a commanded transition out of ACTIVE (Table 4-2): streams stop as on
STREAM_STOP, and grid and lanes with them. -/
def endAcquisition (m : Word) (tb : Nat) (s : State) : State :=
  let was := gridRuns s
  let s := stopStreams s
  let s := gridOff s
  let s := if was then tchStop m tb s else s
  let s := convPowerOff s
  { s with sys := { s.sys with trans := s.sys.trans.map (fun t => { t with boundary := false }) } }

/-- Steps 2 to 5 of R31 in ACTIVE. -/
def acquire (m : Word) (tb : Nat) (c : Schedule) (old : RegFile) (s : State) : State :=
  let s := taperApply s
  let p := taperPause s m
  let s := { s with hkp := { s.hkp with
    pause := p
    taperEpochs := if p then sat16 s.hkp.taperEpochs 1 else s.hkp.taperEpochs
    taperTotal := if p then min 0xFFFFFFFF (s.hkp.taperTotal + 1) else s.hkp.taperTotal } }
  let s := safeResume tb s
  let s := convBoundary m tb old (acqHalted s) s
  let stops := gridStops m s
  let s := if stops then gridOff s else gridAgain s
  let s := gridEpoch (gridBegin m s)
  let s := resBoundary m c (darkCauses s) s
  let s := if stops then tchStop m tb s else s
  healthRecords m tb { s with time := { s.time with lastAcq := some m } }

/-- Epoch numbers not acquired between the last one and `m`: dark for every running stream (R35, R328, R365). -/
def gapDark (m : Word) (tb cause : Nat) (old : Schedule) (s : State) : State :=
  match s.time.lastAcq with
  | some a => if m = a + 1 then s else skipEpochs (a + 1) (m - 1) cause (epochStart old (a + 1)) tb s
  | none => s

/-- The boundary of epoch `m` at instant `tb`, of the schedule in force; `prev` is the schedule before it, `cause` that
of a gap. -/
def atBoundary (m : Word) (tb cause : Nat) (prev : Schedule) (s : State) : State :=
  let old := s.active
  let s := linesApply (gapDark m tb cause prev (closeEpoch (advanceTo tb s)))
  let s := configStep m s
  let c := s.time.sched.getD prev
  let s := if s.sys.power = .active then
      let s := configFollow old s
      if s.sys.trans.any (·.boundary) then endAcquisition m tb s else acquire m tb c old s
    else s
  let s := { s with
    time := { s.time with epoch := some m, stepped := false }
    conv := { s.conv with prevP := prev.pNs } }
  edgeLine 21 (syncPulse tb s)

/-! ### The row -/

/-- Epochs are counted now: STANDBY or ACTIVE, or a held DORMANT, with time acquired (R26, R131). -/
def epochsRun (s : State) : Bool := (awake s || s.sys.held) && !s.sys.inReset && timeAcq s

/-- The schedule carried by SYNC adopted at its first boundary, which comes no later than the next one of the schedule in
force (R328). -/
def adoptSchedule (c d : Schedule) (b : Word × Nat) (s : State) : State :=
  let s := { s with time := { s.time with sched := some d, adopt := none, stepped := false } }
  match laterBoundary d s.time.lastAcq b with
  | (m, tb) => if tb = b.2 then atBoundary m tb 2 c s else closingBoundary b.2 s

/-- A boundary of the schedule in force, where a lagging change may end that schedule (R365). -/
def ownBoundary (c : Schedule) (m : Word) (tb : Nat) (s : State) : State :=
  let resume := s.link.prep.any (·.resume)
  match modeCloses m s with
  | some d =>
    let s := { s with
      time := { s.time with sched := some d, adopt := if s.time.adopt = some d then none else s.time.adopt }
      link := { s.link with prep := s.link.prep.map (fun x => { x with resume := true }) } }
    let b := laterBoundary d s.time.lastAcq (firstBoundary d tb)
    if b.2 = tb then atBoundary b.1 tb 2 c s else closingBoundary tb s
  | none => atBoundary m tb (if resume || s.time.epoch.isNone then 2 else 4) c s

/-- EPOCH_BOUNDARY (R31): the next boundary is taken; its instant is that of the schedule. -/
def execEpochBoundary (s : State) : Host.Outcome State Fault Refusal :=
  match s.time.sched with
  | none => .next s
  | some c =>
    if !epochsRun s then .next s else
    let (m, tb) := nextBoundary c s
    match s.time.adopt with
    | some d =>
      let b := firstBoundary d (s.time.ns + 1)
      if b.2 ≤ tb then .next (adoptSchedule c d b s) else .next (ownBoundary c m tb s)
    | none => .next (ownBoundary c m tb s)

end Sys2Proof.Machine
end

