-- ==== Sys2Proof/Machine/Ember.lean ====
section
/-! DEFINITION. The ember scan (section 7.6): gang baselines, approach and touch detection, and the wake event. -/
namespace Sys2Proof.Machine

open Sys2Proof

/-- The ember settings put in force and the scan started afresh, on entry to EMBER (R246, R250, R255). -/
def emberStart (s : State) : State :=
  { applyRange 0x01040200 0x01040250 s with carr := { s.carr with
    gangs := Vector.replicate 8 {}, scans := 0, approach := 0, touch := 0 } }

/-- Some line of a gang is not snuffed (R246). -/
def gangAlive (s : State) (g : Nat) : Bool :=
  let (a, b) := gangRange s.active g
  (List.range (b + 1 - a)).any (fun i => !lineSnuffed s (a + i))

/-- s = v - B against a limit times 2^k, with B = n / 2^k. -/
def gangAbove (v : Int) (b : Int × Nat) (lim : Int) : Bool := decide (lim * 2 ^ b.2 ≤ v * 2 ^ b.2 - b.1)

/-- The baseline after a scan while s is below half of APPROACH (R248). -/
def gangTrack (track : Nat) (v : Int) (b : Int × Nat) : Int × Nat :=
  if track = 0 then b else (b.1 * 2 ^ track + v * 2 ^ b.2 - b.1, b.2 + track)

/-- A mean of values, exactly; `k` is the power of two of their count. -/
def gangMean (l : List Int) (k : Nat) : Int × Nat := (sumInt l, k)

/-- A gang's next state from a value, with the detections of approach and touch (R248, R249). -/
def gangStep (confirm track app tou : Nat) (v : Int) (g : GangSt) : GangSt × Bool × Bool :=
  let g := { g with seen := true }
  match g.base with
  | none =>
    let l := v :: g.first
    (if l.length < 4 then { g with first := l, signal := none } else { g with first := [], base := some (gangMean l 2), signal := none },
      false, false)
  | some b =>
    match g.rebase with
    | some l =>
      let l := v :: l
      (if l.length < 2 then { g with rebase := some l }
       else { g with rebase := none, base := some (gangMean l 1), negRun := 0, approachRun := 0, touchRun := 0 }, false, false)
    | none =>
      let half := gangAbove v b (app / 2 : Nat)
      let a := if gangAbove v b app then g.approachRun + 1 else 0
      let t := if gangAbove v b tou then g.touchRun + 1 else 0
      let detA := g.armed && decide (confirm < a)
      let detT := g.armed && decide (confirm < t)
      let n := if gangAbove (-v) (-b.1, b.2) app then g.negRun + 1 else 0
      ({ g with
          approachRun := a, touchRun := t, negRun := n
          signal := some (roundDiv (v * 2 ^ b.2 - b.1) (2 ^ b.2))
          armed := if detA || detT then false else if half then g.armed else true
          base := some (if half then b else gangTrack track v b)
          rebase := if 2 ≤ n then some [] else none }, detA, detT)

/-- One gang's part of a scan. -/
def emberGang (v : Option Int) (g : Fin 8) (s : State) : State :=
  let f := s.active
  let c := fileGet f Reg.carrEmbCfg
  if !(gangsOn f).contains g.val || !gangAlive s g.val then s else
  match v with
  | none =>
    let first := !s.carr.gangs[g].overloaded
    let lost := fun (x : GangSt) => { x with
      signal := none, seen := true, overloaded := true, approachRun := 0, touchRun := 0, negRun := 0 }
    let s := { s with carr := { s.carr with gangs := vmod s.carr.gangs g lost } }
    if first then raise 4 Src.carrEmberOverload g.val s else s
  | some x =>
    let (app, tou) := gangThr f g.val
    let (n, a, t) := gangStep (fld c 16 3) (fld c 20 4) app tou x s.carr.gangs[g]
    let s := { s with carr := { s.carr with
      gangs := s.carr.gangs.set g.1 n g.2
      approach := if a then s.carr.approach ||| (1#8 <<< g.val) else s.carr.approach
      touch := if t then s.carr.touch ||| (1#8 <<< g.val) else s.carr.touch } }
    if a || t then wakeEvent s else s

/-- EMBER_SCAN (R247): one scan of the enabled gangs, a value or none for each of the eight; a scan with no value ends
the runs of consecutive scans. -/
def execEmberScan (v : List (Option Int)) (s : State) : Host.Outcome State Fault Refusal :=
  if s.sys.power ≠ .ember ∨ s.sys.exitPend ∨ s.sys.inReset ∨ fld (acw s Reg.carrEmbCfg) 0 6 = 0 then .next s else
  let s := { s with carr := { s.carr with scans := sat16 s.carr.scans 1 } }
  .next ((List.finRange 8).foldl (fun (t : State) (g : Fin 8) => emberGang ((v.getD g.val none)) g t) s)

end Sys2Proof.Machine
end

