-- ==== Sys2Proof/Machine/Flags.lean ====
section
/-! DEFINITION. The arithmetic of the Sotur engine and its flags: each operation gives its result and the flags it names. -/
namespace Sys2Proof.Machine

open Sys2Proof

/-- The result of an operation and the flags it sets; a flag it does not name is none (R401). -/
structure AluOut where
  val : Byte
  z : Option Bool := none
  c : Option Bool := none
  n : Option Bool := none
  v : Option Bool := none
  deriving DecidableEq, Repr

/-- A result that sets Z and N. -/
def outZN (r : Byte) : AluOut := { val := r, z := some (r == 0), n := some r.msb }

/-- The flags of a result written; the others stand (R401). -/
def setFlags (o : AluOut) (e : EngSt) : EngSt :=
  { e with fz := o.z.getD e.fz, fc := o.c.getD e.fc, fn := o.n.getD e.fn, fv := o.v.getD e.fv }

/-- a + b + carry in (ADD, ADC). -/
def aluAdd (a b : Byte) (cin : Bool) : AluOut :=
  let u := a.toNat + b.toNat + cin.toNat
  let i := a.toInt + b.toInt + cin.toInt
  { outZN (BitVec.ofNat 8 u) with c := some (decide (256 ≤ u)), v := some (decide (i < -128 ∨ 127 < i)) }

/-- a − b − borrow in; C is the borrow (SUB, SBC, CMP). -/
def aluSub (a b : Byte) (bin : Bool) : AluOut :=
  let i := a.toInt - b.toInt - bin.toInt
  { outZN (a - b - BitVec.ofNat 8 bin.toNat) with
    c := some (decide (a.toNat < b.toNat + bin.toNat)), v := some (decide (i < -128 ∨ 127 < i)) }

/-- −a: C when the operand is not 0 (R401, Table 13-9). -/
def aluNeg (a : Byte) : AluOut := { outZN (-a) with c := some (a != 0), v := some (a == 0x80) }

/-- a + 1: C stands (Table 13-6). -/
def aluInc (a : Byte) : AluOut := { outZN (a + 1) with v := some (a == 0x7F) }
/-- a − 1: C stands (Table 13-6). -/
def aluDec (a : Byte) : AluOut := { outZN (a - 1) with v := some (a == 0x80) }

/-- The two nibbles exchanged. -/
def aluSwap (a : Byte) : AluOut := outZN ((a <<< 4) ||| (a >>> 4))

/-- Shift left by 0 to 15 (R410, Table 13-9). -/
def aluShl (a : Byte) (k : Nat) : AluOut :=
  if k = 0 then outZN a
  else { outZN (a <<< k) with c := some (decide (k ≤ 8) && a.getLsbD (8 - k)) }

/-- Logical shift right by 0 to 15 (R410, Table 13-9). -/
def aluShr (a : Byte) (k : Nat) : AluOut :=
  if k = 0 then outZN a
  else { outZN (a >>> k) with c := some (decide (k ≤ 8) && a.getLsbD (k - 1)) }

/-- Arithmetic shift right by 0 to 15: C is the sign from a count of 8 up (R410, Table 13-9). -/
def aluSar (a : Byte) (k : Nat) : AluOut :=
  if k = 0 then outZN a
  else { outZN (a.sshiftRight k) with c := some (if k ≤ 8 then a.getLsbD (k - 1) else a.msb) }

/-- Rotate left by the count mod 8; C is the last bit rotated round (R410). -/
def aluRol (a : Byte) (k : Nat) : AluOut :=
  let r := a.rotateLeft (k % 8)
  if k % 8 = 0 then outZN a else { outZN r with c := some (r.getLsbD 0) }

/-- Rotate right by the count mod 8; C is the last bit rotated round (R410). -/
def aluRor (a : Byte) (k : Nat) : AluOut :=
  let r := a.rotateRight (k % 8)
  if k % 8 = 0 then outZN a else { outZN r with c := some r.msb }

/-- The flags of a 16-bit comparison (PCMP, Table 13-7). -/
def comparePair (a b : Half) (e : EngSt) : EngSt :=
  let i := a.toInt - b.toInt
  { e with fz := a == b, fc := decide (a.toNat < b.toNat), fn := (a - b).msb, fv := decide (i < -32768 ∨ 32767 < i) }

/-- A condition of Table 13-8 on the flags. -/
def condHolds (k : Nat) (e : EngSt) : Bool :=
  match k with
  | 0 => e.fz
  | 1 => !e.fz
  | 2 => e.fc
  | 3 => !e.fc
  | 4 => e.fn
  | 5 => !e.fn
  | 6 => e.fv
  | 7 => !e.fv
  | 8 => e.fdz
  | 9 => !e.fdz
  | 10 => !e.fc && !e.fz
  | 11 => e.fc || e.fz
  | 12 => e.fn != e.fv
  | 13 => e.fn == e.fv
  | 14 => e.fn == e.fv && !e.fz
  | _ => e.fn != e.fv || e.fz

/-- The FLAGS byte (Table 13-1). -/
def flagsByte (e : EngSt) : Byte :=
  BitVec.ofNat 8 (e.fz.toNat + 2 * e.fc.toNat + 4 * e.fn.toNat + 8 * e.fv.toNat + 16 * e.fdz.toNat + 32 * e.frp.toNat
    + 64 * e.fie.toNat)

/-- FLAGS but for RP written from a byte (R393). -/
def writeFlags (b : Byte) (e : EngSt) : EngSt :=
  { e with
    fz := b.getLsbD 0, fc := b.getLsbD 1, fn := b.getLsbD 2, fv := b.getLsbD 3, fdz := b.getLsbD 4, fie := b.getLsbD 6 }

/-! ### Multiplier and divider -/

/-- The unsigned product (R409). -/
def mulUnsigned (a b : Byte) : Half := BitVec.ofNat 16 (a.toNat * b.toNat)
/-- The signed product (R409). -/
def mulSigned (a b : Byte) : Half := BitVec.ofInt 16 (a.toInt * b.toInt)

/-- What a divide delivers: quotient, remainder, V, DZ (R409, R410, Table 13-9). -/
structure DivOut where
  quo : Byte
  rem : Byte
  v : Bool
  dz : Bool
  deriving DecidableEq, Repr

/-- The unsigned divide: 0xFF above 255 and by zero (Table 13-9). -/
def divUnsigned (a : Half) (b : Byte) : DivOut :=
  if b = 0 then ⟨0xFF, BitVec.ofNat 8 a.toNat, false, true⟩
  else
    let q := a.toNat / b.toNat
    if 255 < q then ⟨0xFF, 0, true, false⟩ else ⟨BitVec.ofNat 8 q, BitVec.ofNat 8 (a.toNat % b.toNat), false, false⟩

/-- The signed divide, truncating toward zero; the remainder takes the dividend's sign (R409, Table 13-9). -/
def divSigned (a : Half) (b : Byte) : DivOut :=
  if b = 0 then ⟨if a.msb then 0x80 else 0x7F, BitVec.ofNat 8 a.toNat, false, true⟩
  else
    let q := a.toInt.tdiv b.toInt
    if q < -128 then ⟨0x80, 0, true, false⟩
    else if 127 < q then ⟨0x7F, 0, true, false⟩
    else ⟨BitVec.ofInt 8 q, BitVec.ofInt 8 (a.toInt.tmod b.toInt), false, false⟩

end Sys2Proof.Machine
end

