-- ==== Sys2Proof/Machine/Power.lean ====
section
/-! DEFINITION. Power states, resets, start-up and what survives (chapter 4), the hardware thermal shutdown, the block
resets' ends, the LPO tick and the watchdog, and the commands NOP, IDENTIFY, GET_STATUS, SET_POWER_STATE and RESET. -/
namespace Sys2Proof.Machine

open Sys2Proof

/-! ### The commands that only answer -/

/-- NOP (R78). -/
def nopBody (p : Packet) (s : State) : CmdResult := checked s [(decide (p.params.length = 0), 0x11)] (fun _ => okCmd s [])

/-- IDENTIFY (Table 2-10). -/
def identifyBody (p : Packet) (s : State) : CmdResult :=
  checked s [(decide (p.params.length = 0), 0x11)] (fun _ =>
    okCmd s (le 2 0x1920 ++ [2, 0] ++ uidBytes ++ le 4 s.sec.fwVersion.toNat ++ [BitVec.ofNat 8 (b1 s.sys.slot),
      s.link.addr.getD 0xFF]))

/-- FLAGS of GET_STATUS (Table 2-11). -/
def statusFlags (s : State) : Nat :=
  b1 s.safe.hold + 2 * b1 (journalRefuses s) + 4 * b1 s.link.modeLag + 8 * b1 (timeRuns s) + 16 * b1 s.time.sched.isSome
    + 32 * b1 (isLamplighter s) + 64 * b1 (s.sec.cfgLock != 0) + 128 * b1 (!s.sec.outstanding.isEmpty)

/-- GET_STATUS (Table 2-11). -/
def getStatusBody (p : Packet) (s : State) : CmdResult :=
  checked s [(decide (p.params.length = 0), 0x11)] (fun _ =>
    okCmd s ([BitVec.ofNat 8 (powerCode s.sys.power), BitVec.ofNat 8 (s.sys.cause.toNat + 16 * b1 s.sys.fallback),
      BitVec.ofNat 8 (roleOf s p.origin).toNat, 0] ++ le 2 (statusFlags s) ++ le 2 (faultBlocks s)
      ++ le 4 (reportEpoch s).toNat ++ le 8 (stampRun s)))

/-- NOP. -/
def execNop (p : Packet) (s : State) : Host.Outcome State Fault Refusal := .next (runCommand 0x00 nopBody p s)
/-- IDENTIFY. -/
def execIdentify (p : Packet) (s : State) : Host.Outcome State Fault Refusal := .next (runCommand 0x01 identifyBody p s)
/-- GET_STATUS. -/
def execGetStatus (p : Packet) (s : State) : Host.Outcome State Fault Refusal := .next (runCommand 0x02 getStatusBody p s)

/-! ### Commanded transitions -/

/-- The power state of a TARGET code (Table 4-3). -/
def powerOf (n : Nat) : PowerState :=
  match n with
  | 0 => .dormant
  | 1 => .standby
  | 2 => .active
  | 3 => .ember
  | _ => .retain

/-- Table 4-2 has a row for a transition, or the target is the present state (R123). -/
def transitionOk (a b : PowerState) : Bool :=
  match a, b with
  | .active, .ember => false
  | .active, .retain => false
  | .ember, _ => false
  | .retain, _ => false
  | _, _ => true

/-- A deferred command is outstanding whose legal states do not include the target (R125). -/
def powerBusy (b : PowerState) (s : State) : Bool :=
  s.sec.outstanding.any (fun o => (opInfo o.opcode.toNat).any (fun r => !r.states.testBit (powerCode b)))

/-- SET_POWER_STATE (R122, R123, R125): out of ACTIVE acquisition ends at the next epoch boundary where epochs run. -/
def setPowerStateBody (p : Packet) (s : State) : CmdResult :=
  let q := p.params
  let b := powerOf (u8 q 0)
  checked s
    [(decide (q.length = 4), 0x11), (decide (u8 q 0 ≤ 4) && zeros q 1 3, 0x13), (transitionOk s.sys.power b, 0x30),
     (!powerBusy b s, 0x31)]
    (fun _ =>
      let wait := s.sys.power == .active && b != .active && (currentEpoch s).isSome
      acceptCmd { s with sys := { s.sys with trans := some ⟨s.sys.power, b, wait⟩ } })

/-- SET_POWER_STATE. -/
def execSetPowerState (p : Packet) (s : State) : Host.Outcome State Fault Refusal :=
  .next (runCommand 0x08 setPowerStateBody p s)

/-- The front ends lose power: whatever still acquires ends (Table 4-2, R120, R286). -/
def frontOff (s : State) : State :=
  let s := convPowerOff (gridOff (stopStreams s))
  { s with hkp := { s.hkp with pause := false } }

/-- ACTIVE left for STANDBY. -/
def leaveActive (s : State) : State :=
  if s.sys.power = .active then
    let s := frontOff s
    brdgPower { s with sys := { s.sys with power := .standby } }
  else s

/-- The ports follow the power state (R338, Table 4-5). -/
def portsFollow (s : State) : State := allPorts.foldl (fun t n => portTouch n t) s

/-- STANDBY or a held DORMANT left for an ordinary DORMANT: links idle, the time base stopped (Table 4-2). -/
def toDormant (s : State) : State :=
  let s := leaveActive s
  if s.sys.power = .dormant ∧ !s.sys.held then s else
  portsFollow (timeStop { s with sys := { s.sys with power := .dormant, held := false } })

/-- DORMANT left for STANDBY (Table 4-2): the time base starts at 0, or runs on from a held DORMANT; a device with
AUTO_JOIN joins (R348). -/
def toStandby (s : State) : State :=
  match s.sys.power with
  | .dormant =>
    if s.sys.held then { s with sys := { s.sys with power := .standby, held := false } } else
    let s := portsFollow (timeStart { s with sys := { s.sys with
      power := .standby, tref := BitVec.ofNat 2 (fld (shw s Reg.sysClkCfg) 1 2) } })
    if bitOf (shw s Reg.linkCfg) 16 && !s.link.joined then joinFabric s else s
  | _ => leaveActive s

/-- STANDBY left for ACTIVE (R120, R138): the front ends are powered; the shadow is copied at once where no schedule
exists. -/
def toActive (s : State) : State :=
  if s.sys.power = .active then s else
  let s := toStandby s
  let old := s.active
  let s := { s with sys := { s.sys with power := .active } }
  let s := if s.time.sched.isNone then configFollow old (applyAll s) else s
  brdgPower s

/-- The steps of a commanded transition (Table 4-2); those to EMBER and RETAIN as far as DORMANT (R126). -/
def takeTransition (b : PowerState) (s : State) : State :=
  match b with
  | .standby => toStandby s
  | .active => toActive s
  | _ => toDormant s

/-- Entry to EMBER or RETAIN (R126, Table 4-9): XIN goes off, sessions end, what Table 4-9 loses is lost. -/
def sleepEnter (b : PowerState) (s : State) : State :=
  let s := allSlots.foldl (fun t k => modSession k (fun e => { e with fails := 0 }) (endSession k t)) s
  let clear := fun (p : HostPort) => { p with mbox := {}, replies := [], heldReplies := [], rplCursor := 0, latch := none }
  let s := touchForget { s with
    hif := { s.hif with twi := clear s.hif.twi, quad := clear s.hif.quad }
    sec := { s.sec with outstanding := [], relays := [], bcasts := [] }
    link := { s.link with
      joined := false, settled := false, dirty := false, addr := none, ll := none, parent := none, depth := 0
      topo := [], assigns := [], routes := [], reasm := [], cmdReady := 0, reserved := [], joining := none, flight := none }
    sys := { s.sys with
      power := b, trans := none, emberArmed := none, exitPend := false
      lastUs := BitVec.ofNat 16 (min 0xFFFF (s.sys.lastUs.toNat + (Config.freeInt s.freeCtr % 50001).toNat)) }
    freeCtr := s.freeCtr + 1 }
  if b = .ember then emberStart s else s

/-- POWER_TRANSITION_COMPLETE (R122, R126, Table 4-4). -/
def execPowerTransitionComplete (us : Nat) (s : State) : Host.Outcome State Fault Refusal :=
  .next (match s.sys.trans, findOut s 0x08 with
    | some t, some _ =>
      if t.boundary || s.sys.inReset || asleep s then s else
      let same := decide (t.target = t.start) && !s.sys.held
      let s := if same then s else takeTransition t.target s
      let low := t.target == .ember || t.target == .retain
      let s := { s with sys := { s.sys with
        trans := if low then some t else none
        lastUs := if same then s.sys.lastUs else BitVec.ofNat 16 (min 0xFFFF us)
        emberArmed := if low then some t.target else none } }
      completeDeferred 0x08 0x00 ([BitVec.ofNat 8 (powerCode t.target), 0] ++ le 2 (min 0xFFFF us))
        (if low then .ember else .normal) (edgeLine 22 s)
    | _, _ => s)

/-- EMBER_ENTRY (R126). -/
def execEmberEntry (s : State) : Host.Outcome State Fault Refusal :=
  .next (match s.sys.emberArmed with
    | some b => if s.sys.inReset then s else sleepEnter b s
    | none => s)

/-- An exit request (R112, R124): in EMBER or RETAIN the exit starts and WAKEn is released. -/
def exitRequest (s : State) : State :=
  if asleep s && !s.sys.exitPend && !s.sys.inReset then
    { s with sys := { s.sys with exitPend := true }, hif := { s.hif with wakePin := false } }
  else s

/-- TIMEOUT of the watchdog in ms. -/
def wdTimeout (s : State) : Nat := fld (shw s Reg.engWdogCfg) 0 12

/-- The watchdog restarted with its full timeout (R414). -/
def wdRestart (s : State) : State :=
  { s with eng := { s.eng with wdLeft := wdTimeout s, wdWarned := false, wdKey := false } }

/-- EXIT_COMPLETE (R124): DORMANT, the engine resumed, and the reactions of faults raised meanwhile (R429). -/
def execExitComplete (s : State) : Host.Outcome State Fault Refusal :=
  .next (
    if asleep s && s.sys.exitPend && !s.sys.inReset then
      let held := s.flt.deferred
      let s := wdRestart { s with
        sys := { s.sys with power := .dormant, exitPend := false, xinMode := bitOf (shw s Reg.sysClkCfg) 0 }
        flt := { s.flt with deferred := [] } }
      held.foldl (fun t d => react d.1 d.2.1 d.2.2.1 d.2.2.2 t) s
    else s)

/-! ### Resets -/

/-- The device is held in reset after a reset: a supply out of range, TMODE high, or a thermal shutdown (R129, R446,
R477). -/
def staysInReset (s : State) : Bool := s.sys.supplyOut || s.sys.tmode || s.sys.thermal

/-- The newer valid snuff list copy. -/
def newerSnuff (s : State) : Option (Bool × SnuffCopy) := newerOf (·.seq) s.nvm.snuff0 s.nvm.snuff1

/-- The keys and counters the loader uses (R456). -/
def loadedKeys (s : State) : KeysCopy := match newerKeys s with | some (_, k) => k | none => {}

/-- Cause, PREV and COUNT of a new reset (R130). -/
def causeNext (cause : Nat) (y : SysSt) : SysSt :=
  { y with
    cause := BitVec.ofNat 4 cause
    prev := if cause = 1 then 0 else y.cause
    count := if cause = 1 then 0 else sat16 y.count 1 }

/-- A full reset of a cause (Tables 4-6 and 4-9): everything returns to its reset value but NVM, the always-on domain's
state where the cause keeps it, the pins' levels, and the snuff list and keys loaded from NVM. -/
def fullReset (cause : Nat) (s : State) : State :=
  let base : State := {}
  let kept := cause ≠ 1 ∧ cause ≠ 2
  let y := causeNext cause s.sys
  let keys := loadedKeys s
  let list := match newerSnuff s with | some (_, c) => c.items | none => {}
  { base with
    nvm := s.nvm
    snuff := list
    safe := { base.safe with latch := s.safe.latch && decide kept, logDue := if kept then s.safe.logDue else [] }
    hif := { base.hif with
      syncLevel := s.hif.syncLevel, trigLevel := s.hif.trigLevel, csLow := s.hif.csLow }
    sec := { base.sec with
      keys := keys, cfgLock := keys.cfgLock, keyAreaDefault := (newerKeys s).isNone, keysDue := (newerKeys s).isNone
      draws := s.sec.draws }
    link := { base.link with ports := base.link.ports.mapFinIdx (fun i p _ =>
      if list.ports.getLsbD i then { p with state := .snuffed } else p) }
    sys := { base.sys with
      cause := y.cause, prev := y.prev, count := y.count, fallback := s.sys.fallback && cause != 1
      inReset := staysInReset s, supplyOut := s.sys.supplyOut, lostAlwaysOn := s.sys.lostAlwaysOn, tmode := s.sys.tmode
      thermal := s.sys.thermal, thermalReset := s.sys.thermal, thermRestart := cause == 7
      lpoMs := if cause = 1 then 0 else s.sys.lpoMs }
    freeCtr := s.freeCtr
    pending := s.pending }

/-- A soft reset (R131, R515, Table 4-9). -/
def softReset (s : State) : State :=
  let s := leaveActive (stopStreams s)
  let running := timeRuns s
  let s := touchForget (engineReset s)
  let s := allSlots.foldl (fun t k => modSession k (fun e => { e with fails := 0, lockout := false }) (endSession k t)) s
  let clear := fun (p : HostPort) => { p with
    mbox := {}, replies := [], heldReplies := [], rplCursor := 0, latch := none, pointer := 0 }
  let s := setShw Reg.engWdogCfg (regReset Reg.engWdogCfg)
    (setShw Reg.hifPinCfg (setFld (shw s Reg.hifPinCfg) 4 1 0) s)
  { s with
    hif := { s.hif with twi := clear s.hif.twi, quad := clear s.hif.quad, twiSel := none }
    sec := { s.sec with
      outstanding := [], relays := [], bcasts := [], transfer := none, keyJob := none, saving := [] }
    link := { s.link with reasm := [], cmdReady := 0, joining := none }
    grid := { s.grid with capture := none }
    carr := { s.carr with survey := none }
    res := { s.res with
      restart := false, streams := s.res.streams.map (fun (x : StreamSt) => { x with asking := none }) }
    tch := { s.tch with restartWait := false }
    brdg := { s.brdg with restart := false, held := 0 }
    hkp := { s.hkp with k := 0, kActive := 0, hotRun := 0, coolRun := 0, pause := false }
    flt := { s.flt with shadows := [], deferred := [] }
    safe := { s.safe with resumeAfter := none }
    eng := { s.eng with wdLeft := 2000, wdWarned := false, wdKey := false, wdLock := false }
    sys := { causeNext 5 s.sys with
      power := .dormant, held := running, exitPend := false, cfgLoaded := false, fwRun := false, trans := none
      resetArmed := none, emberArmed := none, lastUs := 0, inReset := staysInReset s, thermRestart := false } }

/-- A reset trigger (R129): while another reset stands, the two fall together and the lower cause is recorded. -/
def resetBy (cause : Nat) (s : State) : State :=
  if s.sys.inReset && (!s.sys.thermal || s.sys.thermalReset) then
    let c := min cause s.sys.cause.toNat
    { s with
      sys := { s.sys with
        cause := BitVec.ofNat 4 c
        prev := if cause = 1 then 0 else s.sys.prev
        count := if cause = 1 then 0 else s.sys.count
        fallback := s.sys.fallback && cause != 1
        thermRestart := s.sys.thermRestart && c == 7
        inReset := staysInReset s }
      safe := if cause ≤ 2 then { s.safe with latch := false, logDue := [] } else s.safe }
  else fullReset cause s

/-- RESET (Table 4-7): armed, and journaled before its reply. -/
def resetBody (p : Packet) (s : State) : CmdResult :=
  let q := p.params
  checked s [(decide (q.length = 4), 0x11), (decide (u8 q 0 ≤ 1) && zeros q 1 3, 0x13)] (fun _ =>
    { st := { s with sys := { s.sys with resetArmed := some (u8 q 0 == 0) } }, status := 0x00, why := .reset })

/-- RESET. -/
def execReset (p : Packet) (s : State) : Host.Outcome State Fault Refusal := .next (runCommand 0x09 resetBody p s)

/-- The commanded reset begins (R133). -/
def resetBegin (s : State) : State :=
  match s.sys.resetArmed with
  | some true => fullReset 4 s
  | some false => softReset s
  | none => s

/-- RESET_BEGIN (R133). -/
def execResetBegin (s : State) : Host.Outcome State Fault Refusal := .next (if s.sys.inReset then s else resetBegin s)

/-- POR (R128, R129): the always-on domain had lost its state. -/
def execPor (s : State) : Host.Outcome State Fault Refusal :=
  .next (resetBy 1 { s with sys := { s.sys with lostAlwaysOn := false, thermal := false } })

/-- SUPPLY_RESET (R129): the device stays in reset until the supply is back. -/
def execSupplyReset (lostAlwaysOn : Bool) (s : State) : Host.Outcome State Fault Refusal :=
  .next (resetBy 2 { s with sys := { s.sys with
    supplyOut := true, lostAlwaysOn := s.sys.lostAlwaysOn || lostAlwaysOn } })

/-- SUPPLY_BACK_IN_RANGE (R129): a rise from below the re-arm level is a POR. -/
def execSupplyBackInRange (s : State) : Host.Outcome State Fault Refusal :=
  .next (if s.sys.supplyOut then
      let lost := s.sys.lostAlwaysOn
      let s := { s with sys := { s.sys with supplyOut := false, lostAlwaysOn := false, thermal := s.sys.thermal && !lost } }
      if lost then fullReset 1 s else { s with sys := { s.sys with inReset := staysInReset s } }
    else s)

/-- PIN_RESET (R128): the whole low pulse of nRESET. -/
def execPinReset (s : State) : Host.Outcome State Fault Refusal := .next (resetBy 3 s)

/-- TMODE_CHANGE (R477): acts only while the device is in reset. -/
def execTmodeChange (high : Bool) (s : State) : Host.Outcome State Fault Refusal :=
  .next (
    let s := { s with sys := { s.sys with tmode := high } }
    if s.sys.inReset then { s with sys := { s.sys with inReset := staysInReset s } } else s)

/-- THERMAL_SHUTDOWN (R446, Table 14-9): outputs inert, CORE gated, links idle, the time base stopped. -/
def execThermalShutdown (s : State) : Host.Outcome State Fault Refusal :=
  .next (if s.sys.thermal then s else
    let off := s.sys.inReset
    let s := portsFollow (timeStop (frontOff { s with sys := { s.sys with
      thermal := true, thermalReset := off, inReset := true } }))
    excFix { s with grid := { s.grid with frame := none } })

/-- THERMAL_RESTART (R446): both diodes cool for 1 s; one reset of the lower cause where a trigger came meanwhile. -/
def execThermalRestart (s : State) : Host.Outcome State Fault Refusal :=
  .next (if s.sys.thermal then
      let s' := { s with sys := { s.sys with thermal := false, thermalReset := false } }
      if s.sys.thermalReset then { s' with sys := { s'.sys with inReset := staysInReset s' } } else fullReset 7 s'
    else s)

/-! ### Start-up -/

/-- The hold restored at start-up (R147): where the latch or the SAFE state shows one. -/
def restoreHold (s : State) : State :=
  if s.safe.hold || !(s.safe.latch || safeState s) then s else
  let shown := (newerKeys s).isSome && safeState s
  let s := { s with safe := { s.safe with
    hold := true, latch := true, logDue := if shown then s.safe.logDue else s.safe.logDue ++ [true] } }
  if (List.range 14).any (fun b => blockHolds (fltOf s b) 4) then s else raise 0 Src.sysSafeRestored noItem s

/-- Trims of the grid loaded from the trim record (R167). -/
def loadGridTrims (s : State) : State :=
  let l := (List.range 440).map Config.gridTrim
  if s.nvm.trimBad || l.any (fun t => decide (t.toNat < 0x3000 ∨ 0x5000 < t.toNat)) then
    raise 2 Src.gridTrimInvalid noItem { s with grid := { s.grid with trims := none, trimDefault := true } }
  else { s with grid := { s.grid with trims := some l, trimDefault := false } }

/-- The reference image of NVM copied into grid state RAM, and its validity (R182, Table 5-4). -/
def loadReference (s : State) : State :=
  match s.nvm.reference with
  | some l => { s with
      gram := memWrite refAt l s.gram
      grid := { s.grid with refValid := decide (u32 l 39552 = (crc32 (l.take 39552)).toNat) } }
  | none => { s with grid := { s.grid with refValid := false } }

/-- A maker region verifies: header, key, counter, binding, signature and digest (R465, R472). -/
def regionVerifies (kind : Nat) (i : Image) (s : State) : Bool :=
  headerOk kind i.header && headerPermitted s kind i.header && (i.header.drop 32).take 32 == sha256 i.payload

/-- Program RAM and the control store loaded from a slot; a maker region that fails verification is not loaded, and
IMAGE_CHECK raised (R472). -/
def loadVerified (b : Bool) (s : State) : State :=
  let i := imageSlot s b
  let badExt := i.ext.any (fun x => !regionVerifies 2 x s)
  let badDec := i.dec.any (fun x => !regionVerifies 3 x s)
  let s := loadSlot b s
  let s := if badExt then { s with eng := { s.eng with extWords := [] } } else s
  let s := if badDec then loadDecode none s else s
  if badExt || badDec then raise 13 Src.secImageCheck noItem s else s

/-- An IMAGE journal entry (Table 15-8): slot, KIND 1, the firmware's version. -/
def journalImage (result : Byte) (slot : Bool) (s : State) : State :=
  let v := match (imageSlot s slot).fw with | some i => i.version.toNat | none => 0
  journalRaise 0xFF 0xFF result 0x0A ([BitVec.ofNat 8 (b1 slot), 1] ++ le 4 v) s

/-- The larger of a counter and the ROLLBACK fields of images (R465). -/
def raiseCounter (c : Word) (l : List (Option Image)) : Word :=
  l.foldl (fun m x => match x with | some i => if m.toNat < i.rollback.toNat then i.rollback else m | none => m) c

/-- A slot confirmed: its images' counters rise (R465, R471). -/
def confirmSlot (b : Bool) (k : KeysCopy) (s : State) : KeysCopy :=
  let i := imageSlot s b
  { k with
    confirmed := b, pendingAct := false, trial := 0, fwCounter := raiseCounter k.fwCounter [i.fw]
    makerCounter := raiseCounter k.makerCounter [i.ext, i.dec] }

/-- The firmware of a slot that passed runs (Table 4-8): trims and the reference loaded, the faults of start-up raised,
the hold restored. -/
def startFirmware (b : Bool) (s : State) : State :=
  let v := match (imageSlot s b).fw with | some i => i.version | none => 0
  let s := { s with
    sys := { s.sys with fwRun := true, slot := b }
    sec := { s.sec with fwVersion := v }
    eng := { s.eng with pc := 0, waiting := false } }
  let s := loadReference (loadGridTrims (loadBridgeTrims false s))
  let s := if s.sec.keyAreaDefault then raise 13 Src.secKeyArea noItem s else s
  let s := if (newerSnuff s).isNone then raise 10 Src.hkpSnuffListInvalid noItem s else s
  restoreHold s

/-- The loader's part runs: out of reset, the firmware not running, no recovery, and not after a soft reset (R469, R515). -/
def loaderRuns (s : State) : Bool :=
  !s.sys.inReset && !asleep s && !s.sys.fwRun && !s.sec.recovery && s.sys.cause != 5
    && s.flt.shadows.all (fun x => x.block != 11) && !s.sys.cfgLoaded

/-- IMAGE_SELF_CHECK (R469): one attempt. -/
def execImageSelfCheck (selfTest : Bool) (s : State) : Host.Outcome State Fault Refusal :=
  .next (
    if !loaderRuns s then s else
    let k := s.sec.keys
    let s := if k.pendingAct then keysUpdate { k with trial := BitVec.ofNat 2 (min 3 (k.trial.toNat + 1)) } s else s
    let k := s.sec.keys
    let cand := if k.pendingAct then !k.confirmed else k.confirmed
    let i := imageSlot s cand
    let pass := selfTest && i.valid && i.fw.any (fun x => decide (k.fwCounter.toNat ≤ x.rollback.toNat))
    if pass then
      let s := loadVerified cand s
      if k.pendingAct then
        startFirmware cand (journalImage 0 cand (keysUpdate (confirmSlot cand k s) s))
      else if s.sec.keyAreaDefault then
        startFirmware cand { s with sec := { s.sec with keys := confirmSlot cand k s } }
      else startFirmware cand s
    else if k.pendingAct then
      if k.trial.toNat < 3 then s else
      let s := keysUpdate { k with pendingAct := false } s
      journalImage 1 k.confirmed { s with sys := { s.sys with fallback := true } }
    else if s.sec.keyAreaDefault && !k.confirmed then { s with sec := { s.sec with keys := { k with confirmed := true } } }
    else journalImage 2 k.confirmed { s with sec := { s.sec with recovery := true, fwVersion := 0 } })

/-- The reset journaled after restart (R130): every cause but POR and SUPPLY. -/
def journalReset (s : State) : State :=
  if s.sys.cause = 1 ∨ s.sys.cause = 2 then s else
  journalRaise 0xFF 0xFF (BitVec.ofNat 8 s.sys.cause.toNat) 0x03
    [BitVec.ofNat 8 s.sys.prev.toNat, BitVec.ofNat 8 (b1 s.sys.fallback), BitVec.ofNat 8 (b1 s.sys.slot)] s

/-- STARTUP_CONFIG_LOAD (R134, R137, R149, Table 14-9). -/
def execStartupConfigLoad (s : State) : Host.Outcome State Fault Refusal :=
  .next (
    if s.sys.inReset || asleep s || !s.sys.fwRun || s.sys.cfgLoaded || s.sys.cause == 5 then s else
    let s := match newerCfg s with
      | some (_, c) =>
        let s := loadItems c.items s
        { s with sys := { s.sys with cfgDefault := false } }
      | none => raise 10 Src.hkpConfigAbsent noItem { s with sys := { s.sys with cfgDefault := true } }
    let s := if s.sys.thermRestart then raise 10 Src.hkpThermRestart noItem s else s
    journalReset { s with sys := { s.sys with
      cfgLoaded := true, thermRestart := false, xinMode := bitOf (shw s Reg.sysClkCfg) 0 } })

/-- FIRMWARE_RESTART (R515): after a soft reset, from word 0 with the shadows as they were. -/
def execFirmwareRestart (s : State) : Host.Outcome State Fault Refusal :=
  .next (
    if s.sys.inReset || asleep s || s.sys.fwRun || s.sys.cause != 5 || s.sec.recovery then s else
    restoreHold (journalReset { s with
      sys := { s.sys with fwRun := true, cfgLoaded := true }, eng := { s.eng with pc := 0, waiting := false } }))

/-! ### Block resets and hardware faults -/

/-- The source a parity error raises: STATE_PARITY, or PROG_PARITY and DATA_PARITY of the engine (R427, R420). -/
def paritySource (b : Nat) (src : Fin 2) : Nat := if b = 2 then Src.gridStateParity else if b = 11 then src.val else 0

/-- STATE_PARITY (R427). -/
def execStateParity (b : Fin 14) (src : Fin 2) (s : State) : Host.Outcome State Fault Refusal :=
  .next (if s.sys.inReset then s else raise b.val (paritySource b.val src) noItem s)

/-- PLL_UNLOCK (Table 14-10): the CORE PLL runs in STANDBY and ACTIVE, the TIME PLL while the time base does. -/
def execPllUnlock (core : Bool) (s : State) : Host.Outcome State Fault Refusal :=
  .next (if s.sys.inReset || !(if core then awake s else timeRuns s) then s else raise 0 Src.sysPllUnlock noItem s)

/-- The block's own restart as its reset shadow closes (R181, R225, R254, R282, R309, R389, R421). -/
def restartBlock (b : Nat) (s : State) : State :=
  match b with
  | 3 => startWindows 0xFF false { s with tch := { s.tch with restartWait := false } }
  | 4 =>
    let s := cancelHop s
    let cur := fld (acw s Reg.carrCfg) 0 4
    let s := if s.carr.active = cur then s else newCarrier cur 0xFFFF s
    shadowFix s
  | 5 =>
    let s := { s with brdg := { s.brdg with restart := false } }
    closeHeld ((List.range 8).filter (fun g => !groupOn s g)) s
  | 6 => convRestart s
  | 9 => { s with res := { s.res with restart := false } }
  | 11 =>
    let s := wdRestart (loadSlot s.sys.slot s)
    { s with
      sys := { s.sys with fwRun := true }
      eng := { s.eng with lastRestart := true, restarts := sat16 s.eng.restarts 1 } }
  | _ => s

/-- BLOCK_RESET_RESTART (R434): the shadow of the block closes. -/
def execBlockResetRestart (b : Fin 14) (s : State) : Host.Outcome State Fault Refusal :=
  .next (if s.flt.shadows.any (fun x => x.block == b.val) && !s.sys.inReset then
      restartBlock b.val { s with flt := { s.flt with shadows := s.flt.shadows.filter (fun x => x.block != b.val) } }
    else s)

/-! ### The LPO tick and the watchdog -/

/-- LPO_TICK (R37, R411, R414): LPO time, the watchdog's count, engine line 17; ENG_BUSY is measured. -/
def execLpoTick (s : State) : Host.Outcome State Fault Refusal :=
  .next (
    let s := { s with sys := { s.sys with lpoMs := s.sys.lpoMs + 1 } }
    if s.sys.inReset || asleep s then s else
    let s := edgeLine 17 { s with eng := { s.eng with wdLeft := s.eng.wdLeft - 1 } }
    if s.sys.fwRun then
      { s with eng := { s.eng with busy := (Config.freeInt s.freeCtr % 1001).toNat }, freeCtr := s.freeCtr + 1 }
    else s)

/-- WDOG_WARN (R414). -/
def execWdogWarn (s : State) : Host.Outcome State Fault Refusal :=
  .next (if s.sys.inReset || asleep s || s.eng.wdWarned then s else
    raise 11 Src.engWdogWarn noItem { s with eng := { s.eng with wdWarned := true, warns := sat16 s.eng.warns 1 } })

/-- WATCHDOG_EXPIRY (R414, Table 4-6). -/
def execWatchdogExpiry (s : State) : Host.Outcome State Fault Refusal :=
  .next (if s.sys.inReset || asleep s then s else fullReset 6 s)

/-! ### Packets of no command -/

/-- A reply to a packet that failed before its opcode was looked at. -/
def packetReply (o : Origin) (tag status : Byte) (s : State) : State := reply o false tag status true [] .normal s

/-- Steps 3 and 4 of Table 2-5 for an undefined opcode: a relayed packet goes on to its destination (R51, R52). -/
def unknownCommand (o : Origin) (op tag dest flags : Byte) (params : List Byte) (s : State) : State :=
  let here := packetReply o tag (if flags != 0 then 0x13 else 0x12) s
  match o with
  | .remote _ _ => here
  | .loc i =>
    if dest = 0xFF ∨ destHere s dest then here
    else if !destReachable s dest then packetReply o tag 0x50 s
    else if flags != 0 then packetReply o tag 0x13 s
    else relayCommand i op.toNat ⟨o, tag, dest, flags, params⟩ s

/-- UNKNOWN_OPCODE (R51, R53): a delivered packet that fails step 1 or 2, or whose opcode is undefined. Bytes that pass
and spell a defined opcode are that command's own row. -/
def execUnknownOpcode (o : Origin) (bytes : List Byte) (s : State) : Host.Outcome State Fault Refusal :=
  let n := u16 bytes 2
  let tag := if bytes.length < 2 then 0 else bytes.getD 1 0
  let bad := bytes.length < 8 ∨ 4096 < n ∨ bytes.length ≠ 8 + n
  let crcOk := u16 bytes (6 + n) == (crc16 (bytes.take (6 + n))).toNat
  if bytes.isEmpty || (!decide bad && crcOk && (opInfo (u8 bytes 0)).isSome) then .next s
  else if !canTake o s then .next (holdPacket o bytes s)
  else
    let s := takePacket o s
    .next (if bad then packetReply o tag 0x11 s
      else if !crcOk then packetReply o tag 0x10 s
      else unknownCommand o (bytes.getD 0 0) tag (bytes.getD 4 0) (bytes.getD 5 0) ((bytes.drop 6).take n) s)

end Sys2Proof.Machine
end

