-- ==== Sys2Proof/Machine/Engine.lean ====
section
/-! DEFINITION. How the Sotur engine runs: registers, data accesses, time, loops, skips, repetition, interrupts, hooks. -/
namespace Sys2Proof.Machine

open Sys2Proof

/-! ### Registers -/

/-- A general register. -/
def wGet (e : EngSt) (k : Nat) : Byte := vget e.w k 0
/-- A general register written. -/
def wSet (k : Nat) (b : Byte) (e : EngSt) : EngSt := { e with w := vmodN e.w k (fun _ => b) }
/-- A pair: the high byte in the odd register (R392). -/
def pGet (e : EngSt) (p : Nat) : Half := BitVec.ofNat 16 ((wGet e (2 * p)).toNat + 256 * (wGet e (2 * p + 1)).toNat)
/-- A pair written. -/
def pSet (p : Nat) (h : Half) (e : EngSt) : EngSt :=
  wSet (2 * p + 1) (BitVec.ofNat 8 (h.toNat / 256)) (wSet (2 * p) (BitVec.ofNat 8 h.toNat) e)
/-- A change of the engine's own state. -/
def modEng (f : EngSt → EngSt) (s : State) : State := { s with eng := f s.eng }

/-- The engine is executing: firmware runs, no reset, awake, not in WAIT. -/
def engineRuns (s : State) : Bool := s.sys.fwRun && !s.sys.inReset && !asleep s && !s.eng.waiting

/-- A hook is in progress and no interrupt handler runs inside it. -/
def hookRuns (e : EngSt) : Bool := match e.hook with | some h => decide (h.inHandler = 0) | none => false

/-- The program counter lies in the extension region, in a hook (R418). -/
def inExt (e : EngSt) : Bool := hookRuns e && decide (0xC000 ≤ e.pc.toNat)

/-- The `n` words from the PC may be fetched (R394). -/
def fetchOk (e : EngSt) (n : Nat) : Bool :=
  !e.wrap &&
  (if 0xC000 ≤ e.pc.toNat then hookRuns e && decide (e.pc.toNat - 0xC000 + n ≤ e.extWords.length)
   else decide (e.pc.toNat + n ≤ 0xC000))

/-! ### Time -/

/-- Engine cycles spent: results on their way come nearer, a hook's budget runs down outside handlers (R409, R419). -/
def spend (n : Nat) (s : State) : State :=
  modEng (fun e => { e with
    cycles := e.cycles + n
    mulDue := e.mulDue.map (fun (m : MulDue) => { m with left := m.left - n })
    divDue := e.divDue.map (fun (d : DivDue) => { d with left := d.left - n })
    hook := e.hook.map (fun (h : HookSave) => if h.inHandler = 0 then { h with budget := h.budget - n } else h) }) s

/-- A product delivered (R409). -/
def takeProduct (m : MulDue) (e : EngSt) : EngSt := { e with mul := m.product }
/-- A quotient and remainder delivered, with V and DZ (R409). -/
def takeQuotient (d : DivDue) (e : EngSt) : EngSt := { e with quo := d.quo, rem := d.rem, fv := d.v, fdz := d.dz, divDue := none }

/-- What falls due by this cycle is delivered, before the instruction of the cycle reads or writes (R409). -/
def deliverDue (e : EngSt) : EngSt :=
  let due := e.mulDue.filter (fun (m : MulDue) => m.left == 0)
  let e := due.foldl (fun t m => takeProduct m t) { e with mulDue := e.mulDue.filter (fun (m : MulDue) => m.left != 0) }
  match e.divDue with
  | some d => if d.left = 0 then takeQuotient d e else e
  | none => e

/-! ### Data accesses -/

/-- An access: the byte read, the stall, the faults it raises, the state. -/
structure Acc where
  val : Byte := 0
  stall : Nat := 0
  faults : List Nat := []
  st : State

/-- An access a rule of the engine's address space stops: 0x00 read, nothing written, a fault raised (R395, R418). -/
def accFault (src : Nat) (s : State) : Acc := { faults := [src], st := s }

/-- The NVM window or a block whose reads R418 withholds from the extension. -/
def extMayRead (a : Nat) : Bool := rangeOf a != some 4 && !(rangeOf a == some 3 && decide (11 ≤ blockOf a))
/-- A register the extension may write (R418). -/
def extMayWrite (a : Nat) : Bool := rangeOf a == some 3 && decide (2 ≤ blockOf a ∧ blockOf a ≤ 6)

/-- The first address past the stack part open to the extension: SP after the hook call's push (R418). -/
def hookTop (e : EngSt) : Nat := match e.hook with | some h => h.sp.toNat - 2 | none => 0

/-- The extension may touch an engine data address (R418); the reserved addresses stay with R395. -/
def extMayTouch (e : EngSt) (a : Nat) (write : Bool) : Bool :=
  if a < 0x8000 then
    decide (0x6000 ≤ a ∧ a < 0x7000) || decide (e.stackLim.toNat ≤ a ∧ a < hookTop e)
  else if a < 0xC000 then decide (0xB000 ≤ a)
  else if 0xFF00 ≤ a ∧ a < 0xFF10 then decide (0xFF0C ≤ a)
  else if 0xFF10 ≤ a ∧ a < 0xFF13 then !write
  else true

/-- The device address an aperture reaches (R396). -/
def apertureAddr (e : EngSt) (a : Nat) : Nat :=
  ((vget e.aps ((a - 0x8000) / 0x1000) {}).base.toNat * 0x1000) + a % 0x1000

/-- An aperture changed. -/
def modAp (n : Nat) (f : Aperture → Aperture) (s : State) : State := modEng (fun e => { e with aps := vmodN e.aps n f }) s

/-- A byte of a word. -/
def wordByte (w : Word) (i : Nat) : Byte := BitVec.ofNat 8 (w.toNat / 256 ^ i)

/-- A byte read of a register word through an aperture's latch (R397). -/
def latchRead (n d : Nat) (s : State) : Acc :=
  let wa := d / 4 * 4
  let held := match (vget s.eng.aps n {}).latch with
    | some (k, w) => if k = wa ∧ d % 4 ≠ 0 then some w else none
    | none => none
  match held with
  | some w => { val := wordByte w (d % 4), st := s }
  | none =>
    let (bs, s) := devRead wa 4 s
    let w := w32 bs 0
    { val := wordByte w (d % 4), stall := 4, st := modAp n (fun p => { p with latch := some (wa, w) }) s }

/-- A byte write of a register word through an aperture's buffer; byte 3 issues the write (R397). -/
def bufferWrite (n d : Nat) (v : Byte) (s : State) : Acc :=
  let wa := d / 4 * 4
  let old : Word := match (vget s.eng.aps n {}).wbuf with
    | some (k, w) => if k = wa then w else 0
    | none => 0
  let w := setFld old (8 * (d % 4)) 8 v.toNat
  if d % 4 = 3 then
    let s := modAp n (fun p => { p with wbuf := none }) s
    let who : Writer := if inExt s.eng then .extension else .firmware
    let s := if wa = Reg.secCfgLock then s else writeRow who wa w s
    { stall := 2, st := s }
  else { st := modAp n (fun p => { p with wbuf := some (wa, w) }) s }

/-- A read through an aperture (R396 to R398, R418, R45). -/
def apertureRead (a : Nat) (s : State) : Acc :=
  let d := apertureAddr s.eng a
  let n := (a - 0x8000) / 0x1000
  match rangeOf d with
  | none => { faults := [Src.engUnmappedAccess], stall := 4, st := s }
  | some r =>
    if inExt s.eng && !extMayRead d then accFault Src.engExtAccess s
    else if r = 3 then latchRead n d s
    else
      let (bs, s) := devRead d 1 s
      { val := bs.getD 0 0, stall := if r = 4 then 12 else 4, st := s }

/-- A write through an aperture (R396 to R398, R418, R45). -/
def apertureWrite (a : Nat) (v : Byte) (s : State) : Acc :=
  let d := apertureAddr s.eng a
  let n := (a - 0x8000) / 0x1000
  if inExt s.eng && !extMayWrite d then accFault Src.engExtAccess s
  else match rangeOf d with
  | none => { faults := [Src.engUnmappedAccess], stall := 2, st := s }
  | some 3 => bufferWrite n d v s
  | some 4 => { faults := [Src.engUnmappedAccess], stall := 2, st := s }
  | some _ => { stall := 2, st := memWriteDev d [v] s }

/-- A read of a local register (Table 13-4). -/
def localRead (a : Nat) (s : State) : Acc :=
  let e := s.eng
  if a < 0xFF10 then
    let p := vget e.aps ((a - 0xFF00) / 4) {}
    match a % 4 with
    | 0 => { val := BitVec.ofNat 8 p.base.toNat, st := s }
    | 1 => { val := BitVec.ofNat 8 (p.base.toNat / 0x100), st := s }
    | 2 => { val := BitVec.ofNat 8 (p.base.toNat / 0x10000), st := s }
    | _ => accFault Src.engUnmappedAccess s
  else if a = 0xFF10 then { val := BitVec.ofNat 8 e.stackLim.toNat, st := s }
  else if a = 0xFF11 then { val := BitVec.ofNat 8 (e.stackLim.toNat / 256), st := s }
  else if a = 0xFF12 then { st := s }
  else accFault Src.engUnmappedAccess s

/-- The key sequence of WDKICK (R414). -/
def kick (v : Byte) (s : State) : State :=
  if v = 0xA5 ∧ s.eng.wdKey then wdRestart s else modEng (fun e => { e with wdKey := v == 0x5A }) s

/-- A write of a local register (Table 13-4). -/
def localWrite (a : Nat) (v : Byte) (s : State) : Acc :=
  let n := (a - 0xFF00) / 4
  if a < 0xFF10 then
    match a % 4 with
    | 0 => { st := modAp n (fun p => { p with b0 := v }) s }
    | 1 => { st := modAp n (fun p => { p with b1 := v }) s }
    | 2 => { st := modAp n (fun p => { p with
        base := BitVec.ofNat 20 (p.b0.toNat + 0x100 * p.b1.toNat + 0x10000 * (v.toNat % 16)), latch := none, wbuf := none }) s }
    | _ => accFault Src.engUnmappedAccess s
  else if a = 0xFF10 then
    { st := modEng (fun e => { e with stackLim := BitVec.ofNat 16 (e.stackLim.toNat / 256 * 256 + v.toNat) }) s }
  else if a = 0xFF11 then
    { st := modEng (fun e => { e with stackLim := BitVec.ofNat 16 (e.stackLim.toNat % 256 + 256 * v.toNat) }) s }
  else if a = 0xFF12 then { st := kick v s }
  else accFault Src.engUnmappedAccess s

/-- A byte read of the engine's data space (R395, R418). -/
def dataRead (a : Nat) (s : State) : Acc :=
  if inExt s.eng && !extMayTouch s.eng a false then accFault Src.engExtAccess s
  else if a < 0x8000 then { val := memByte s.eng.ram a, st := s }
  else if a < 0xC000 then apertureRead a s
  else if a < 0xFF00 then accFault Src.engUnmappedAccess s
  else localRead a s

/-- A byte write of the engine's data space (R395, R418). -/
def dataWrite (a : Nat) (v : Byte) (s : State) : Acc :=
  if inExt s.eng && !extMayTouch s.eng a true then accFault Src.engExtAccess s
  else if a < 0x8000 then { st := modEng (fun e => { e with ram := memWrite a [v] e.ram }) s }
  else if a < 0xC000 then apertureWrite a v s
  else if a < 0xFF00 then accFault Src.engUnmappedAccess s
  else localWrite a v s

/-! ### The stack -/

/-- Pushes of `n` bytes keep to the stack limit (R399). -/
def pushOk (e : EngSt) (n : Nat) : Bool :=
  (List.range n).all (fun i => decide (e.stackLim.toNat ≤ (e.sp - BitVec.ofNat 16 (i + 1)).toNat))

/-- Pops of `n` bytes do not raise SP above 0x8000 (R399). -/
def popOk (e : EngSt) (n : Nat) : Bool := decide (e.sp.toNat + n ≤ 0x8000)

/-- Bytes pushed in order: SP down, then the write (R392). -/
def pushBytes : List Byte → Acc → Acc
  | [], x => x
  | b :: l, x =>
    let s := modEng (fun e => { e with sp := e.sp - 1 }) x.st
    let y := dataWrite s.eng.sp.toNat b s
    pushBytes l { y with stall := x.stall + y.stall, faults := x.faults ++ y.faults }

/-- Bytes popped in order: the read, then SP up. -/
def popBytes : Nat → Acc → List Byte × Acc
  | 0, x => ([], x)
  | n + 1, x =>
    let y := dataRead x.st.eng.sp.toNat x.st
    let s := modEng (fun e => { e with sp := e.sp + 1 }) y.st
    let (l, z) := popBytes n { y with st := s, stall := x.stall + y.stall, faults := x.faults ++ y.faults }
    (y.val :: l, z)

/-! ### Hooks -/

/-- The innermost loop's registers given up for the enclosing loop's (R403). -/
def popLoop (e : EngSt) : EngSt :=
  match e.loopStack with
  | [] => { e with ldepth := e.ldepth - 1 }
  | l :: r => { e with loop := l, loopStack := r, ldepth := e.ldepth - 1 }

/-- Loops discarded down to a depth (R419). -/
def loopsDownTo : Nat → Nat → EngSt → EngSt
  | 0, _, e => e
  | k + 1, d, e => if d < e.ldepth then loopsDownTo k d (popLoop e) else e

/-- A hook ends and execution goes on at an address (R417 to R419): registers restored, loops discarded, the journal
entry of its writes. -/
def endHook (target : Half) (s : State) : State :=
  match s.eng.hook with
  | none => s
  | some h =>
    let e := loopsDownTo 4 h.ldepth s.eng
    let e := (List.range 8).foldl (fun t i => wSet (8 + i) (vget h.w8 i 0) t) e
    let s := { s with eng := { e with
      sp := h.sp, pc := target, wrap := false, frp := false, repFirst := false, skipNext := false, hook := none
      calls := sat16 e.calls 1, lastW0 := wGet e 0 } }
    if h.writes = 0 then s
    else journalRaise 3 0xFF 0 0x07 (BitVec.ofNat 8 h.hook :: le 2 (min 0xFFFF h.writes)) s

/-- The budget ran out (R419). -/
def overrunHook (s : State) : State :=
  match s.eng.hook with
  | none => s
  | some h => endHook h.ret (modEng (fun e => { e with overruns := sat16 e.overruns 1 }) s)

/-- The budget of the hook in progress is spent. -/
def budgetSpent (e : EngSt) : Bool := match e.hook with | some h => decide (h.inHandler = 0 ∧ h.budget = 0) | none => false

/-- An address of the hook table (R417). -/
def isHookWord (t : Half) : Bool := decide (0xC000 ≤ t.toNat ∧ t.toNat < 0xC020)

/-- The hook call's saving, before the push (R419). -/
def beginHook (t ret : Half) (s : State) : State :=
  modEng (fun e =>
    let h := (t.toNat - 0xC000) / 2
    { e with
      lastHook := h
      hook := some {
        hook := h, w8 := Vector.ofFn (fun i : Fin 8 => wGet e (8 + i.val)), sp := e.sp, ldepth := e.ldepth, ret := ret
        budget := 64 * fld (shw s Reg.engExtCfg) 16 16, writes := 0, inHandler := 0 } }) s

/-! ### The end of an instruction -/

/-- The PC at an address that sequential execution reaches. -/
def setNext (n : Nat) (e : EngSt) : EngSt := { e with pc := BitVec.ofNat 16 n, wrap := decide (0x10000 ≤ n) }
/-- The PC at the target of a transfer. -/
def setPc (t : Half) (e : EngSt) : EngSt := { e with pc := t, wrap := false }

/-- The loop that ends gives way to the enclosing one, whose end test follows where it shares the end (R403). -/
def endLoop : Nat → Nat → EngSt → EngSt
  | 0, next, e => setNext next e
  | k + 1, next, e =>
    let old := e.loop.lend
    let e := popLoop e
    if 0 < e.ldepth ∧ e.loop.lend = old then
      (if 1 < e.loop.lcount.toNat then setPc e.loop.lstart { e with loop := { e.loop with lcount := e.loop.lcount - 1 } }
       else endLoop k next e)
    else setNext next e

/-- The end test (R403). -/
def endTest (next : Nat) (e : EngSt) : EngSt :=
  if 1 < e.loop.lcount.toNat then setPc e.loop.lstart { e with loop := { e.loop with lcount := e.loop.lcount - 1 } }
  else endLoop 4 next e

/-- Sequential execution past `n` words at the PC: the end test when the innermost loop's LEND is among them. -/
def advance (n : Nat) (e : EngSt) : EngSt :=
  let next := e.pc.toNat + n
  if 0 < e.ldepth ∧ e.pc.toNat ≤ e.loop.lend.toNat ∧ e.loop.lend.toNat < next then endTest next e else setNext next e

/-- Where an instruction leaves the PC. -/
inductive Flow where
  /-- Past its own words. -/
  | next
  /-- Past its own words and a loop body it skipped. -/
  | over (len : Nat)
  /-- A transfer: the end test is not made (R406). -/
  | jump (t : Half)
  /-- The PC already stands where execution goes on. -/
  | done
  deriving DecidableEq, Repr

/-- What the body of an instruction did: the state, the cycles still to spend, the faults to raise, the way on. -/
structure Eff where
  st : State
  cost : Nat := 1
  faults : List Nat := []
  flow : Flow := .next

/-- Faults of the ENG block raised in one cycle. -/
def raiseEng (l : List Nat) (s : State) : State := raiseAll (l.map (fun x => (11, x, noItem))) s

/-- The end of an instruction of `n` words: cycles, the way on or the next repetition (R407), a spent budget (R419),
faults. -/
def finish (n : Nat) (rep : Bool) (r : Eff) : State :=
  let s := spend r.cost r.st
  let s := if rep then
      (if s.eng.repcnt.toNat ≤ 1 then modEng (fun e => advance n { e with repcnt := 0, frp := false }) s
       else modEng (fun e => { e with repcnt := e.repcnt - 1 }) s)
    else match r.flow with
      | .next => modEng (advance n) s
      | .over k => modEng (advance (n + k)) s
      | .jump t => modEng (setPc t) s
      | .done => s
  if budgetSpent s.eng then raiseEng (r.faults ++ [Src.engExtOverrun]) (overrunHook s) else raiseEng r.faults s

/-- The shape of an instruction: its words, whether a REP may govern it, whether it is a REP itself. -/
structure Shape where
  words : Nat := 1
  repeatable : Bool := true
  isRep : Bool := false
  deriving DecidableEq, Repr

/-- A skipped instruction: 1 cycle; a REP and the instruction it governs are one (R402). -/
def skipRow (x : Shape) (s : State) : State :=
  if x.isRep && !s.eng.repFirst then
    finish x.words false { st := modEng (fun e => { e with repFirst := true }) s, cost := 0 }
  else finish x.words false { st := modEng (fun e => { e with skipNext := false, repFirst := false }) s }

/-- The engine executes, skips or refuses the instruction at its PC. -/
def runRow (x : Shape) (body : State → Eff) (s : State) : State :=
  if !engineRuns s then s else
  let s := modEng deliverDue s
  let e := s.eng
  if !fetchOk e x.words then raiseEng [Src.engFetchFault] s
  else if e.skipNext then skipRow x s
  else if e.repFirst then
    let s := modEng (fun e => { e with repFirst := false }) s
    if !x.repeatable then
      finish x.words false { st := modEng (fun e => { e with frp := false, repcnt := 0 }) s, faults := [Src.engIllegalRep] }
    else if e.repcnt = 0 then finish x.words false { st := s }
    else finish x.words true (body s)
  else finish x.words e.frp (body s)

/-- An instruction that changes only the engine's registers, in `cost` cycles. -/
def regOp (f : EngSt → EngSt) (s : State) : Eff := { st := modEng f s }

/-- An instruction that raises a fault and changes nothing. -/
def noOp (src : Nat) (s : State) : Eff := { st := s, faults := [src] }

/-! ### Transfers -/

/-- A jump: from the extension only inside its region (R418). -/
def jumpTo (cost : Nat) (t : Half) (s : State) : Eff :=
  if inExt s.eng && decide (t.toNat < 0xC000) then { st := s, cost := cost, faults := [Src.engExtAccess] }
  else { st := s, cost := cost, flow := .jump t }

/-- The address `n` words past the PC. -/
def pcPlus (n : Nat) (e : EngSt) : Half := e.pc + BitVec.ofNat 16 n

/-- A call: the return address pushed high byte first (R400); a call from the firmware to the hook table is a hook call
(R417, R419). -/
def callTo (words cost : Nat) (t : Half) (s : State) : Eff :=
  if inExt s.eng && decide (t.toNat < 0xC000) then { st := s, cost := cost, faults := [Src.engExtAccess] }
  else if !pushOk s.eng 2 then { st := s, cost := cost, faults := [Src.engStackFault] }
  else
    let ret := pcPlus words s.eng
    let hooked := s.eng.hook.isNone && decide (s.eng.pc.toNat < 0xC000) && isHookWord t
    let s := spend cost s
    let pushed := pushBytes [BitVec.ofNat 8 (ret.toNat / 256), BitVec.ofNat 8 ret.toNat] { st := s }
    let s' := if hooked then
        let b := beginHook t ret s
        modEng (fun e => { e with hook := b.eng.hook, lastHook := b.eng.lastHook }) pushed.st
      else pushed.st
    { st := s', cost := pushed.stall, faults := pushed.faults, flow := .jump t }

/-- A return (R400); the RET that brings SP back ends the hook (R419). -/
def returnTo (s : State) : Eff :=
  if !popOk s.eng 2 then { st := s, cost := 3, faults := [Src.engStackFault] }
  else
    let last := match s.eng.hook with
      | some h => inExt s.eng && decide (s.eng.sp.toNat + 2 = h.sp.toNat)
      | none => false
    if last then
      let b := memRead s.eng.ram s.eng.sp.toNat 2
      { st := endHook (BitVec.ofNat 16 (u16 b 0)) (spend 3 s), cost := 0, flow := .done }
    else
      let (l, x) := popBytes 2 { st := s }
      let t : Half := BitVec.ofNat 16 (u16 l 0)
      if inExt s.eng && decide (t.toNat < 0xC000) then { st := s, cost := 3, faults := x.faults ++ [Src.engExtAccess] }
      else { st := x.st, cost := 3 + x.stall, faults := x.faults, flow := .jump t }

/-! ### Interrupts -/

/-- Line k is pending and enabled (R411). -/
def lineReady (s : State) (k : Nat) : Bool := linePending s k && bitOf (shw s Reg.engIrqEn) k

/-- The lowest pending enabled line. -/
def firstLine (s : State) : Option Nat := (List.range 24).find? (lineReady s)

/-- An interrupt may be taken here (R408, R412). -/
def entryPoint (e : EngSt) : Bool := e.fie && !e.skipNext && !e.repFirst

/-- Entry of a line (R411): the return address, FLAGS and REPCNT pushed, IE and RP cleared, the vector. -/
def enterLine (k : Nat) (s : State) : State :=
  let s := modEng deliverDue s
  if !pushOk s.eng 4 then raiseEng [Src.engStackFault] s
  else
    let e := s.eng
    let s := modEng (fun e => { e with
      waiting := false, handler := e.handler + 1
      edges := e.edges &&& ~~~(1#32 <<< k)
      hook := e.hook.map (fun (h : HookSave) => { h with inHandler := h.inHandler + 1 }) }) s
    let x := pushBytes [BitVec.ofNat 8 (e.pc.toNat / 256), BitVec.ofNat 8 e.pc.toNat, flagsByte e, e.repcnt] { st := s }
    let s := spend (4 + x.stall) x.st
    raiseEng x.faults (modEng (fun e => setPc (BitVec.ofNat 16 (0x40 + 2 * k)) { e with fie := false, frp := false }) s)

/-- RETI (R411, R408). -/
def interruptReturn (s : State) : Eff :=
  if !popOk s.eng 4 then { st := s, cost := 5, faults := [Src.engStackFault] }
  else
    let (l, x) := popBytes 4 { st := s }
    let t : Half := BitVec.ofNat 16 (u16 l 2)
    if inExt s.eng && decide (t.toNat < 0xC000) then { st := s, cost := 5, faults := x.faults ++ [Src.engExtAccess] }
    else
      let f := l.getD 1 0
      let s := spend (5 + x.stall) x.st
      { st := modEng (fun e => { writeFlags f e with
          frp := f.getLsbD 5, repcnt := l.getD 0 0, handler := e.handler - 1
          hook := e.hook.map (fun (h : HookSave) => { h with inHandler := h.inHandler - 1 }) }) s
        cost := 0, faults := x.faults, flow := .jump t }

/-! ### Special registers (Table 13-2) -/

/-- A read of a special register, with the high bytes its low bytes latch (R393). -/
def srRead (k : Nat) (e : EngSt) : Byte × EngSt :=
  let lo (h : Half) : Byte := BitVec.ofNat 8 h.toNat
  let hi (h : Half) : Byte := BitVec.ofNat 8 (h.toNat / 256)
  match k with
  | 0 => (flagsByte e, e)
  | 1 => (lo e.sp, { e with latchSp := some (hi e.sp) })
  | 2 => (e.latchSp.getD (hi e.sp), { e with latchSp := none })
  | 3 => (lo e.loop.lcount, { e with latchLcount := some (hi e.loop.lcount) })
  | 4 => (e.latchLcount.getD (hi e.loop.lcount), { e with latchLcount := none })
  | 5 => (e.repcnt, e)
  | 6 => (lo e.mul, e)
  | 7 => (hi e.mul, e)
  | 8 => (e.quo, e)
  | 9 => (e.rem, e)
  | 10 => (BitVec.ofNat 8 e.ldepth, e)
  | 11 => (lo e.loop.lstart, { e with latchLstart := some (hi e.loop.lstart) })
  | 12 => (e.latchLstart.getD (hi e.loop.lstart), { e with latchLstart := none })
  | 13 => (lo e.loop.lend, { e with latchLend := some (hi e.loop.lend) })
  | 14 => (e.latchLend.getD (hi e.loop.lend), { e with latchLend := none })
  | _ => (0, e)

/-- A write of a special register; none where it is read-only or reserved (R393, R404, R407). -/
def srWrite (k : Nat) (b : Byte) (e : EngSt) : Option EngSt :=
  match k with
  | 0 => some (writeFlags b e)
  | 1 => some { e with heldSpl := some b }
  | 2 => some { e with
      sp := BitVec.ofNat 16 ((e.heldSpl.getD (BitVec.ofNat 8 e.sp.toNat)).toNat + 256 * b.toNat), heldSpl := none }
  | 3 => some { e with heldLcountl := some b }
  | 4 =>
    let lo := e.heldLcountl.getD (BitVec.ofNat 8 e.loop.lcount.toNat)
    some { e with
      loop := { e.loop with lcount := BitVec.ofNat 16 (lo.toNat + 256 * b.toNat) }, heldLcountl := none }
  | 5 => some (if e.frp then e else { e with repcnt := b })
  | _ => none

/-! ### Loops -/

/-- The body of a LOOP (R403, R405): `lstart` is the word after its two. -/
def startLoop (count len : Half) (s : State) : Eff :=
  let e := s.eng
  let first := e.pc.toNat + 2
  let last := first + len.toNat - 1
  let top := if e.pc.toNat < 0xC000 then 0xC000 else 0x10000
  let bad := decide (len = 0 ∨ top ≤ last)
  let deep := decide (count ≠ 0 ∧ 4 ≤ e.ldepth)
  if bad || deep || count = 0 then
    { st := s, cost := 2, flow := .over len.toNat
      faults := (if bad then [Src.engIllegalOpcode] else []) ++ (if deep then [Src.engLoopOverflow] else []) }
  else
    { st := modEng (fun e => { e with
        loopStack := if 1 ≤ e.ldepth then e.loop :: e.loopStack else e.loopStack
        loop := { lstart := BitVec.ofNat 16 first, lend := BitVec.ofNat 16 last, lcount := count }
        ldepth := e.ldepth + 1 }) s
      cost := 2 }

/-- LBREAK (R405); the extension does not leave its region by it (R418). -/
def breakLoop (s : State) : Eff :=
  if s.eng.ldepth = 0 then noOp Src.engIllegalOpcode s
  else if inExt s.eng && decide (s.eng.loop.lend.toNat + 1 < 0xC000) then
    { st := s, cost := 2, faults := [Src.engExtAccess] }
  else { st := modEng (fun e => endLoop 4 (e.loop.lend.toNat + 1) e) s, cost := 2, flow := .done }

/-- A REP prefix decoded (R407). -/
def startRep (n : Byte) (s : State) : Eff :=
  regOp (fun e => { e with repcnt := n, repFirst := true, frp := n != 0 }) s

/-! ### Customer opcodes -/

/-- The registers of a microcoded operation (R416). -/
structure Micro where
  t0 : Byte := 0
  t1 : Byte := 0
  ucnt : Byte := 0
  mdr : Byte := 0
  deriving DecidableEq, Repr

/-- An operand of a microcode word (Table 13-11). -/
def microOperand (k : Nat) (opnd : Byte) (m : Micro) (e : EngSt) : Byte :=
  match k with
  | 0 => wGet e (opnd.toNat / 16)
  | 1 => wGet e (opnd.toNat % 16)
  | 2 => m.t0
  | 3 => m.t1
  | 4 => m.mdr
  | 5 => m.ucnt
  | 6 => 0
  | _ => opnd

/-- The microcode ALU (Table 13-12). -/
def microAlu (k : Nat) (a b : Byte) (e : EngSt) : AluOut :=
  match k with
  | 0 => aluAdd a b false
  | 1 => aluAdd a b e.fc
  | 2 => aluSub a b false
  | 3 => aluSub a b e.fc
  | 4 => outZN (a &&& b)
  | 5 => outZN (a ||| b)
  | 6 => outZN (a ^^^ b)
  | 7 => outZN a
  | 8 => outZN b
  | 9 => aluInc a
  | 10 => aluDec a
  | 11 => aluShl a 1
  | 12 => aluShr a 1
  | 13 => aluSar a 1
  | 14 => aluNeg a
  | _ => outZN (~~~a)

/-- One microcode word up to its sequencing: load, ALU, flags, destination or store, pointer (R416). -/
def microWord (w : Word) (opnd : Byte) (m : Micro) (s : State) : Micro × Acc :=
  let p := if bitOf w 0 then opnd.toNat / 16 % 8 else opnd.toNat % 8
  let mem := fld w 2 2
  let x : Acc := if mem = 1 ∨ mem = 2 then dataRead (pGet s.eng p).toNat s else { st := s }
  let m := if mem = 1 ∨ mem = 2 then { m with mdr := x.val } else m
  let e := x.st.eng
  let o := microAlu (fld w 13 4) (microOperand (fld w 10 3) opnd m e) (microOperand (fld w 7 3) opnd m e) e
  let s := if bitOf w 1 then modEng (setFlags o) x.st else x.st
  let dest := fld w 4 3
  let m := match dest with
    | 3 => { m with t0 := o.val }
    | 4 => { m with t1 := o.val }
    | 5 => { m with ucnt := o.val }
    | _ => m
  let y : Acc := match dest with
    | 1 => { st := modEng (wSet (opnd.toNat / 16) o.val) s }
    | 2 => { st := modEng (wSet (opnd.toNat % 16) o.val) s }
    | 6 => dataWrite (pGet s.eng p).toNat o.val s
    | _ => { st := s }
  let s := if 2 ≤ mem then modEng (fun e => pSet p (pGet e p + 1) e) y.st else y.st
  (m, { st := s, stall := x.stall + y.stall, faults := x.faults ++ y.faults })

/-- Microcode words from an address until one ends, at most `n` (R416). -/
def microRun : Nat → Nat → Byte → Micro → List Nat → State → Eff
  | 0, _, _, _, fl, s => { st := s, cost := 0, faults := fl ++ [Src.engUcodeRunaway] }
  | n + 1, addr, opnd, m, fl, s =>
    let s := modEng deliverDue s
    let w := s.eng.store.getD addr 0
    let (m, x) := microWord w opnd m s
    let s := spend (1 + x.stall) x.st
    let fl := fl ++ x.faults
    let seq := fld w 29 2
    if seq = 3 ∨ fld w 4 3 = 7 then { st := s, cost := 0, faults := fl ++ [Src.engIllegalOpcode] }
    else if bitOf w 31 then { st := s, cost := 0, faults := fl }
    else
      let m := if seq = 2 then { m with ucnt := m.ucnt - 1 } else m
      let go := (decide (seq = 1) && condHolds (fld w 25 4) s.eng) || (decide (seq = 2) && m.ucnt != 0)
      microRun n (if go then fld w 17 8 else (addr + 1) % 256) opnd m fl s

/-- A customer opcode (R415, R416). -/
def customer (k : Nat) (opnd : Byte) (s : State) : Eff :=
  let d : DecodeEntry := vget s.eng.decode k {}
  if d.en then microRun (4 * d.limit.toNat) d.start.toNat opnd {} [] (spend 1 s) else noOp Src.engIllegalOpcode s

end Sys2Proof.Machine
end

