-- ==== Sys2Proof/Machine/EngIsa.lean ====
section
/-! DEFINITION. The instructions of the Sotur engine, and the events of its units. -/
namespace Sys2Proof.Machine

open Sys2Proof

/-- One instruction of the engine at its PC. -/
def engineNext (x : Shape) (body : State → Eff) (s : State) : Host.Outcome State Fault Refusal := .next (runRow x body s)

/-- An operation on two registers whose result goes to the first. -/
def aluTo (d : Nat) (o : EngSt → AluOut) (e : EngSt) : EngSt := setFlags (o e) (wSet d (o e).val e)
/-- An operation on registers that writes none. -/
def aluTest (o : EngSt → AluOut) (e : EngSt) : EngSt := setFlags (o e) e

/-- An instruction that must not follow a REP (R407). -/
def barred (words : Nat) : Shape := { words := words, repeatable := false }
/-- The shape of a REP. -/
def repShape : Shape := { repeatable := false, isRep := true }
/-- An ordinary instruction of one word. -/
def plain : Shape := {}


/-! ### The ALU group (Table 13-6) -/

/-- ADD d, s. -/
def execAdd (d r : Fin 16) (s : State) : Host.Outcome State Fault Refusal :=
  engineNext plain (regOp (fun e => aluTo d (fun e => aluAdd (wGet e d) (wGet e r) false) e)) s

/-- ADC d, s: adds C. -/
def execAdc (d r : Fin 16) (s : State) : Host.Outcome State Fault Refusal :=
  engineNext plain (regOp (fun e => aluTo d (fun e => aluAdd (wGet e d) (wGet e r) e.fc) e)) s

/-- SUB d, s. -/
def execSub (d r : Fin 16) (s : State) : Host.Outcome State Fault Refusal :=
  engineNext plain (regOp (fun e => aluTo d (fun e => aluSub (wGet e d) (wGet e r) false) e)) s

/-- SBC d, s: subtracts C. -/
def execSbc (d r : Fin 16) (s : State) : Host.Outcome State Fault Refusal :=
  engineNext plain (regOp (fun e => aluTo d (fun e => aluSub (wGet e d) (wGet e r) e.fc) e)) s

/-- AND d, s. -/
def execAnd (d r : Fin 16) (s : State) : Host.Outcome State Fault Refusal :=
  engineNext plain (regOp (fun e => aluTo d (fun e => outZN (wGet e d &&& wGet e r)) e)) s

/-- OR d, s. -/
def execOr (d r : Fin 16) (s : State) : Host.Outcome State Fault Refusal :=
  engineNext plain (regOp (fun e => aluTo d (fun e => outZN (wGet e d ||| wGet e r)) e)) s

/-- XOR d, s. -/
def execXor (d r : Fin 16) (s : State) : Host.Outcome State Fault Refusal :=
  engineNext plain (regOp (fun e => aluTo d (fun e => outZN (wGet e d ^^^ wGet e r)) e)) s

/-- MOV d, s. -/
def execMov (d r : Fin 16) (s : State) : Host.Outcome State Fault Refusal :=
  engineNext plain (regOp (fun e => aluTo d (fun e => outZN (wGet e r)) e)) s

/-- CMP d, s: no write. -/
def execCmp (d r : Fin 16) (s : State) : Host.Outcome State Fault Refusal :=
  engineNext plain (regOp (fun e => aluTest (fun e => aluSub (wGet e d) (wGet e r) false) e)) s

/-- TST d, s: AND, no write. -/
def execTst (d r : Fin 16) (s : State) : Host.Outcome State Fault Refusal :=
  engineNext plain (regOp (fun e => aluTest (fun e => outZN (wGet e d &&& wGet e r)) e)) s

/-- MULU d, s: the product two cycles on (R409). -/
def execMulu (d r : Fin 16) (s : State) : Host.Outcome State Fault Refusal :=
  engineNext plain (regOp (fun e => { e with mulDue := e.mulDue ++ [⟨2, mulUnsigned (wGet e d) (wGet e r)⟩] })) s

/-- MULS d, s: the product two cycles on (R409). -/
def execMuls (d r : Fin 16) (s : State) : Host.Outcome State Fault Refusal :=
  engineNext plain (regOp (fun e => { e with mulDue := e.mulDue ++ [⟨2, mulSigned (wGet e d) (wGet e r)⟩] })) s

/-- A divide issued: ten cycles on; one not yet delivered is abandoned (R409). -/
def issueDiv (o : DivOut) (e : EngSt) : EngSt := { e with divDue := some ⟨10, o.quo, o.rem, o.v, o.dz⟩ }

/-- DIVU Pd, s (R409). -/
def execDivu (pd : Fin 8) (r : Fin 16) (s : State) : Host.Outcome State Fault Refusal :=
  engineNext plain (regOp (fun e => issueDiv (divUnsigned (pGet e pd) (wGet e r)) e)) s

/-- DIVS Pd, s (R409). -/
def execDivs (pd : Fin 8) (r : Fin 16) (s : State) : Host.Outcome State Fault Refusal :=
  engineNext plain (regOp (fun e => issueDiv (divSigned (pGet e pd) (wGet e r)) e)) s

/-! ### The shift and unary group (Table 13-6, R410) -/

/-- SHL d, #count. -/
def execShl (d count : Fin 16) (s : State) : Host.Outcome State Fault Refusal :=
  engineNext plain (regOp (fun e => aluTo d (fun e => aluShl (wGet e d) count) e)) s

/-- SHR d, #count. -/
def execShr (d count : Fin 16) (s : State) : Host.Outcome State Fault Refusal :=
  engineNext plain (regOp (fun e => aluTo d (fun e => aluShr (wGet e d) count) e)) s

/-- SAR d, #count. -/
def execSar (d count : Fin 16) (s : State) : Host.Outcome State Fault Refusal :=
  engineNext plain (regOp (fun e => aluTo d (fun e => aluSar (wGet e d) count) e)) s

/-- ROL d, #count. -/
def execRol (d count : Fin 16) (s : State) : Host.Outcome State Fault Refusal :=
  engineNext plain (regOp (fun e => aluTo d (fun e => aluRol (wGet e d) count) e)) s

/-- ROR d, #count. -/
def execRor (d count : Fin 16) (s : State) : Host.Outcome State Fault Refusal :=
  engineNext plain (regOp (fun e => aluTo d (fun e => aluRor (wGet e d) count) e)) s

/-- SHLR d, Ws: the count is the low 4 bits of Ws. -/
def execShlr (d r : Fin 16) (s : State) : Host.Outcome State Fault Refusal :=
  engineNext plain (regOp (fun e => aluTo d (fun e => aluShl (wGet e d) ((wGet e r).toNat % 16)) e)) s

/-- SHRR d, Ws: the count is the low 4 bits of Ws. -/
def execShrr (d r : Fin 16) (s : State) : Host.Outcome State Fault Refusal :=
  engineNext plain (regOp (fun e => aluTo d (fun e => aluShr (wGet e d) ((wGet e r).toNat % 16)) e)) s

/-- SARR d, Ws: the count is the low 4 bits of Ws. -/
def execSarr (d r : Fin 16) (s : State) : Host.Outcome State Fault Refusal :=
  engineNext plain (regOp (fun e => aluTo d (fun e => aluSar (wGet e d) ((wGet e r).toNat % 16)) e)) s

/-- NEG d. -/
def execNeg (d : Fin 16) (s : State) : Host.Outcome State Fault Refusal :=
  engineNext plain (regOp (fun e => aluTo d (fun e => aluNeg (wGet e d)) e)) s

/-- NOT d. -/
def execNot (d : Fin 16) (s : State) : Host.Outcome State Fault Refusal :=
  engineNext plain (regOp (fun e => aluTo d (fun e => outZN (~~~(wGet e d))) e)) s

/-- INC d. -/
def execInc (d : Fin 16) (s : State) : Host.Outcome State Fault Refusal :=
  engineNext plain (regOp (fun e => aluTo d (fun e => aluInc (wGet e d)) e)) s

/-- DEC d. -/
def execDec (d : Fin 16) (s : State) : Host.Outcome State Fault Refusal :=
  engineNext plain (regOp (fun e => aluTo d (fun e => aluDec (wGet e d)) e)) s

/-- SWAPN d. -/
def execSwapn (d : Fin 16) (s : State) : Host.Outcome State Fault Refusal :=
  engineNext plain (regOp (fun e => aluTo d (fun e => aluSwap (wGet e d)) e)) s

/-- CLR d. -/
def execClr (d : Fin 16) (s : State) : Host.Outcome State Fault Refusal :=
  engineNext plain (regOp (fun e => aluTo d (fun _ => outZN 0) e)) s

/-! ### Immediates (Table 13-5) -/

/-- MOVI Wd, #imm8: Z and N. -/
def execMovi (d : Fin 16) (imm : Byte) (s : State) : Host.Outcome State Fault Refusal :=
  engineNext plain (regOp (fun e => aluTo d (fun _ => outZN imm) e)) s

/-- ADDI Wd, #imm8: flags as ADD. -/
def execAddi (d : Fin 16) (imm : Byte) (s : State) : Host.Outcome State Fault Refusal :=
  engineNext plain (regOp (fun e => aluTo d (fun e => aluAdd (wGet e d) imm false) e)) s

/-- CMPI Wd, #imm8: flags as CMP. -/
def execCmpi (d : Fin 16) (imm : Byte) (s : State) : Host.Outcome State Fault Refusal :=
  engineNext plain (regOp (fun e => aluTest (fun e => aluSub (wGet e d) imm false) e)) s

/-- ANDI Wd, #imm8: flags as AND. -/
def execAndi (d : Fin 16) (imm : Byte) (s : State) : Host.Outcome State Fault Refusal :=
  engineNext plain (regOp (fun e => aluTo d (fun e => outZN (wGet e d &&& imm)) e)) s

/-! ### Loads and stores (R400, R395 to R398) -/

/-- The address of LD and ST: Pp + disp. -/
def ldstAddr (p : Fin 8) (disp : Fin 16) (e : EngSt) : Nat := (pGet e p + BitVec.ofNat 16 disp.val).toNat
/-- INC: Pp + 1 after the access. -/
def ldstInc (p : Fin 8) (inc : Bool) (e : EngSt) : EngSt := if inc then pSet p (pGet e p + 1) e else e

/-- The body of LD. -/
def loadBody (d : Fin 16) (p : Fin 8) (inc : Bool) (disp : Fin 16) (s : State) : Eff :=
  let x := dataRead (ldstAddr p disp s.eng) s
  { st := modEng (fun e => ldstInc p inc (wSet d x.val e)) x.st, cost := 1 + x.stall, faults := x.faults }
/-- The body of ST. -/
def storeBody (r : Fin 16) (p : Fin 8) (inc : Bool) (disp : Fin 16) (s : State) : Eff :=
  let x := dataWrite (ldstAddr p disp s.eng) (wGet s.eng r) s
  { st := modEng (ldstInc p inc) x.st, cost := 1 + x.stall, faults := x.faults }

/-- LD Wd, [Pp + disp]. -/
def execLd (d : Fin 16) (p : Fin 8) (inc : Bool) (disp : Fin 16) (s : State) : Host.Outcome State Fault Refusal :=
  engineNext plain (loadBody d p inc disp) s

/-- ST Ws, [Pp + disp]. -/
def execSt (r : Fin 16) (p : Fin 8) (inc : Bool) (disp : Fin 16) (s : State) : Host.Outcome State Fault Refusal :=
  engineNext plain (storeBody r p inc disp) s

/-! ### Transfers (Tables 13-5 and 13-7) -/

/-- The target of a relative transfer: the next word's address plus the offset (R400). -/
def relTarget (rel : BitVec 12) (e : EngSt) : Half := pcPlus 1 e + rel.signExtend 16

/-- BRA rel12. -/
def execBra (rel : BitVec 12) (s : State) : Host.Outcome State Fault Refusal :=
  engineNext (barred 1) (fun t => jumpTo 2 (relTarget rel t.eng) t) s

/-- CALL rel12. -/
def execCall (rel : BitVec 12) (s : State) : Host.Outcome State Fault Refusal :=
  engineNext (barred 1) (fun t => callTo 1 3 (relTarget rel t.eng) t) s

/-- JMPI Pp. -/
def execJmpi (p : Fin 8) (s : State) : Host.Outcome State Fault Refusal :=
  engineNext (barred 1) (fun t => jumpTo 2 (pGet t.eng p) t) s

/-- CALLI Pp. -/
def execCalli (p : Fin 8) (s : State) : Host.Outcome State Fault Refusal :=
  engineNext (barred 1) (fun t => callTo 1 3 (pGet t.eng p) t) s

/-- JMP abs16. -/
def execJmp (target : Half) (s : State) : Host.Outcome State Fault Refusal :=
  engineNext (barred 2) (jumpTo 2 target) s

/-- CALL abs16. -/
def execCallAbs (target : Half) (s : State) : Host.Outcome State Fault Refusal :=
  engineNext (barred 2) (callTo 2 3 target) s

/-- RET; it may end a hook (R419). -/
def execRet (s : State) : Host.Outcome State Fault Refusal :=
  engineNext (barred 1) returnTo s

/-- RETI (R411). -/
def execReti (s : State) : Host.Outcome State Fault Refusal :=
  engineNext (barred 1) interruptReturn s

/-! ### Skips and bits (R402) -/

/-- The next instruction is skipped when a condition holds. -/
def skipIf (c : EngSt → Bool) (e : EngSt) : EngSt := { e with skipNext := c e }

/-- SKIP cond. -/
def execSkip (cond : Fin 16) (s : State) : Host.Outcome State Fault Refusal :=
  engineNext (barred 1) (regOp (skipIf (condHolds cond))) s

/-- SKBC Wd, bit. -/
def execSkbc (d : Fin 16) (b : Fin 8) (s : State) : Host.Outcome State Fault Refusal :=
  engineNext (barred 1) (regOp (skipIf (fun e => !(wGet e d).getLsbD b))) s

/-- SKBS Wd, bit. -/
def execSkbs (d : Fin 16) (b : Fin 8) (s : State) : Host.Outcome State Fault Refusal :=
  engineNext (barred 1) (regOp (skipIf (fun e => (wGet e d).getLsbD b))) s

/-- BCLR Wd, bit. -/
def execBclr (d : Fin 16) (b : Fin 8) (s : State) : Host.Outcome State Fault Refusal :=
  engineNext plain (regOp (fun e => wSet d (wGet e d &&& ~~~(1#8 <<< b.val)) e)) s

/-- BSET Wd, bit. -/
def execBset (d : Fin 16) (b : Fin 8) (s : State) : Host.Outcome State Fault Refusal :=
  engineNext plain (regOp (fun e => wSet d (wGet e d ||| (1#8 <<< b.val)) e)) s

/-! ### The SYS class -/

/-- NOP. -/
def execSysNop (s : State) : Host.Outcome State Fault Refusal :=
  engineNext plain (regOp id) s

/-- EI. -/
def execEi (s : State) : Host.Outcome State Fault Refusal :=
  engineNext plain (regOp (fun e => { e with fie := true })) s

/-- DI. -/
def execDi (s : State) : Host.Outcome State Fault Refusal :=
  engineNext plain (regOp (fun e => { e with fie := false })) s

/-- The body of WAIT: NOP in the extension; no wait while an enabled line is pending (R413, R418). -/
def waitBody (s : State) : Eff :=
  if inExt s.eng || (firstLine s).isSome then { st := s } else regOp (fun e => { e with waiting := true }) s

/-- WAIT. -/
def execWait (s : State) : Host.Outcome State Fault Refusal :=
  engineNext (barred 1) waitBody s

/-- MFS Wd, SR (R393). -/
def execMfs (d k : Fin 16) (s : State) : Host.Outcome State Fault Refusal :=
  engineNext plain (regOp (fun e => let x := srRead k e; wSet d x.1 x.2)) s

/-- The body of MTS (R393). -/
def mtsBody (r k : Fin 16) (s : State) : Eff :=
  match srWrite k (wGet s.eng r) s.eng with
  | some e => { st := { s with eng := e } }
  | none => noOp Src.engIllegalOpcode s

/-- MTS SR, Ws. -/
def execMts (r k : Fin 16) (s : State) : Host.Outcome State Fault Refusal :=
  engineNext plain (mtsBody r k) s

/-- The body of a push (R399). -/
def pushBody (cost : Nat) (l : List Byte) (s : State) : Eff :=
  if !pushOk s.eng l.length then { st := s, cost := cost, faults := [Src.engStackFault] }
  else
    let x := pushBytes l { st := s }
    { st := x.st, cost := cost + x.stall, faults := x.faults }
/-- The body of a pop of `n` bytes (R399). -/
def popBody (cost n : Nat) (put : List Byte → EngSt → EngSt) (s : State) : Eff :=
  if !popOk s.eng n then { st := s, cost := cost, faults := [Src.engStackFault] }
  else
    let (l, x) := popBytes n { st := s }
    { st := modEng (put l) x.st, cost := cost + x.stall, faults := x.faults }

/-- PUSH Ws. -/
def execPush (r : Fin 16) (s : State) : Host.Outcome State Fault Refusal :=
  engineNext plain (fun t => pushBody 1 [wGet t.eng r] t) s

/-- POP Wd. -/
def execPop (d : Fin 16) (s : State) : Host.Outcome State Fault Refusal :=
  engineNext plain (popBody 1 1 (fun l e => wSet d (l.getD 0 0) e)) s

/-! ### The pointer class -/

/-- PADD Pp, #simm8. -/
def execPadd (p : Fin 8) (imm : Byte) (s : State) : Host.Outcome State Fault Refusal :=
  engineNext plain (regOp (fun e => pSet p (pGet e p + imm.signExtend 16) e)) s

/-- LDP Pp, #imm16: 2 cycles. -/
def execLdp (p : Fin 8) (imm : Half) (s : State) : Host.Outcome State Fault Refusal :=
  engineNext { words := 2 } (fun t => { st := modEng (pSet p imm) t, cost := 2 }) s

/-- PUSHP Pp: the high byte first, as a call pushes. -/
def execPushp (p : Fin 8) (s : State) : Host.Outcome State Fault Refusal :=
  engineNext plain (fun t => pushBody 2 [BitVec.ofNat 8 ((pGet t.eng p).toNat / 256), BitVec.ofNat 8 (pGet t.eng p).toNat] t) s

/-- POPP Pp. -/
def execPopp (p : Fin 8) (s : State) : Host.Outcome State Fault Refusal :=
  engineNext plain (popBody 2 2 (fun l e => pSet p (BitVec.ofNat 16 (u16 l 0)) e)) s

/-- MOVP Pp, Pq. -/
def execMovp (p q : Fin 8) (s : State) : Host.Outcome State Fault Refusal :=
  engineNext plain (regOp (fun e => pSet p (pGet e q) e)) s

/-- PCMP Pp, Pq. -/
def execPcmp (p q : Fin 8) (s : State) : Host.Outcome State Fault Refusal :=
  engineNext plain (regOp (fun e => comparePair (pGet e p) (pGet e q) e)) s

/-! ### Loops and repetition (R403 to R407) -/

/-- REP #n. -/
def execRepImm (n : Byte) (s : State) : Host.Outcome State Fault Refusal :=
  engineNext repShape (startRep n) s

/-- REP Ws. -/
def execRepReg (r : Fin 16) (s : State) : Host.Outcome State Fault Refusal :=
  engineNext repShape (fun t => startRep (wGet t.eng r) t) s

/-- LOOP #n, length. -/
def execLoopImm (n : Byte) (len : Half) (s : State) : Host.Outcome State Fault Refusal :=
  engineNext (barred 2) (startLoop (n.setWidth 16) len) s

/-- LOOP Pp, length. -/
def execLoopReg (p : Fin 8) (len : Half) (s : State) : Host.Outcome State Fault Refusal :=
  engineNext (barred 2) (fun t => startLoop (pGet t.eng p) len t) s

/-- LBREAK. -/
def execLbreak (s : State) : Host.Outcome State Fault Refusal :=
  engineNext (barred 1) breakLoop s

/-! ### Customer and illegal opcodes -/

/-- A customer opcode (R415, R416); REP needs REP_OK (R407). -/
def execCustomerOpcode (entry : Fin 16) (operand : Byte) (s : State) : Host.Outcome State Fault Refusal :=
  engineNext { repeatable := (s.eng.decode[entry] : DecodeEntry).repOk } (customer entry operand) s

/-- A word is an instruction of Tables 13-5 to 13-8. -/
def legalWord (w : Nat) : Bool :=
  let a := w / 0x100 % 16
  let b := w / 16 % 16
  let c := w % 16
  match w / 0x1000 with
  | 0 => match a with
    | 0 => w % 256 == 0
    | 1 => decide (w % 256 ≤ 4)
    | 2 => decide (w % 256 < 8)
    | 3 => decide (w % 256 < 8)
    | 4 => true
    | 5 => true
    | 6 => w % 256 == 0
    | 7 => w % 256 == 0
    | 8 => b == 0
    | 9 => b == 0
    | _ => false
  | 1 => decide (a < 12) || (decide (a < 14) && decide (b < 8))
  | 6 => decide (b < 8) || (decide (b < 14) && c == 0)
  | 9 => decide (a % 2 = 0) || (decide (b < 3) && c == 0) || (decide (b = 3 ∨ b = 4) && decide (c < 8))
  | 12 => w % 256 == 0
  | 13 => decide (w / 8 % 8 = 0)
  | 14 => match a with
    | 0 => true
    | 1 => b == 0
    | 2 => true
    | 3 => decide (w % 256 < 8)
    | 4 => w % 256 == 0
    | _ => false
  | _ => true

/-- A word that is no instruction: ILLEGAL_OPCODE and a 1-cycle no-operation (R400). A word that is one is no such event. -/
def execIllegalOpcode (w : Half) (s : State) : Host.Outcome State Fault Refusal :=
  if legalWord w.toNat then .next s else engineNext plain (noOp Src.engIllegalOpcode) s

/-! ### Events of the engine's units -/

/-- The engine has a clock and firmware: its units work. -/
def unitsRun (s : State) : Bool := s.sys.fwRun && !s.sys.inReset && !asleep s

/-- MUL_DELIVERY: the oldest product on its way is delivered (R409). -/
def execMulDelivery (s : State) : Host.Outcome State Fault Refusal :=
  .next (match s.eng.mulDue with
    | m :: r => if unitsRun s then modEng (fun e => takeProduct m { e with mulDue := r }) s else s
    | [] => s)

/-- DIV_DELIVERY: the divide on its way is delivered, with V and DZ (R409). -/
def execDivDelivery (s : State) : Host.Outcome State Fault Refusal :=
  .next (match s.eng.divDue with
    | some d => if unitsRun s then modEng (takeQuotient d) s else s
    | none => s)

/-- INTERRUPT_ENTRY: the lowest pending enabled line, where IE is set and an interrupt may be taken (R411, R412). -/
def execInterruptEntry (s : State) : Host.Outcome State Fault Refusal :=
  .next (match firstLine s with
    | some k => if unitsRun s && entryPoint s.eng then enterLine k s else s
    | none => s)

/-- WAIT_RESUME: the end of WAIT when an enabled line is pending (R413). -/
def execWaitResume (s : State) : Host.Outcome State Fault Refusal :=
  .next (match firstLine s with
    | some k =>
      if unitsRun s && s.eng.waiting then
        (if s.eng.fie then enterLine k s else modEng (fun e => { e with waiting := false }) s)
      else s
    | none => s)

/-- EXT_OVERRUN: the budget of the hook in progress runs out (R419). -/
def execExtOverrun (s : State) : Host.Outcome State Fault Refusal :=
  .next (if unitsRun s && hookRuns s.eng then raiseEng [Src.engExtOverrun] (overrunHook s) else s)

/-- A write the engine makes to one of its local registers, beside an instruction row. -/
def localEvent (a : Nat) (v : Byte) (s : State) : State :=
  if engineRuns s then
    let x := dataWrite a v s
    raiseEng x.faults x.st
  else s

/-- APERTURE_BASE_WRITE: APn_B2 written (R396). -/
def execApertureBaseWrite (n : Fin 4) (v : Byte) (s : State) : Host.Outcome State Fault Refusal := .next (localEvent (0xFF02 + 4 * n.val) v s)

/-- WDKICK written (R414). -/
def execWdkick (v : Byte) (s : State) : Host.Outcome State Fault Refusal := .next (localEvent 0xFF12 v s)

end Sys2Proof.Machine
end

