-- ==== Sys2Proof/Machine/Hif.lean ====
section
/-! DEFINITION. The host links (chapter 3): the window of each interface, the command and reply mailboxes, the stream and
alarm ports, and the bus events of the two-wire and the quad serial target. -/
namespace Sys2Proof.Machine

open Sys2Proof

/-! ### The window -/

/-- An interface's window answers: the two-wire one also from the always-on domain, the quad serial one while CORE runs
and HIF_QSPI_CFG.EN is 1 (R105, R110, R446, Table 3-9). -/
def windowLive (i : Iface) (s : State) : Bool :=
  match i with
  | .twi => !s.sys.inReset || s.sys.thermal
  | .quad => !s.sys.inReset && !asleep s && bitOf (shw s Reg.hifQspiCfg) 0

/-- The window is the always-on domain's reduced one (R105, R446). -/
def windowLow (s : State) : Bool := asleep s || s.sys.inReset

/-- HW_STATE (Table 3-2). -/
def hwState (s : State) : Byte :=
  BitVec.ofNat 8 (powerCode s.sys.power + 8 * b1 s.safe.hold + 16 * b1 s.sys.exitPend + 32 * b1 s.sys.cfgLoaded)

/-- HW_PORT_STAT (Table 3-2). -/
def hwPortStat (i : Iface) (s : State) : Nat :=
  (hostPort s i).portStat.toNat + (match i with
    | .twi => 16 * b1 (s.hif.i2cStat.getLsbD 3)
    | .quad => 0)

/-- A field of the status area: its lowest offset, its bytes (Table 3-2). -/
def statusField (i : Iface) (off : Nat) (s : State) : Option (Nat × List Byte) :=
  let p := hostPort s i
  if off < 4 then some (0, le 4 (sysRo s 0))
  else if off = 4 then some (4, [hwState s])
  else if off = 5 then some (5, le 1 (hwPortStat i s))
  else if 8 ≤ off ∧ off < 16 then some (8, uidBytes)
  else if off = 0x10 then some (0x10, le 1 (b1 (!p.mbox.submitted) + 2 * b1 p.mbox.submitted))
  else if 0x12 ≤ off ∧ off < 0x14 then some (0x12, le 2 p.mbox.count.toNat)
  else if 0x16 ≤ off ∧ off < 0x18 then some (0x16, le 2 ((p.replies.head?.map (fun r => r.bytes.length)).getD 0))
  else if off = 0x18 then some (0x18, le 1 p.replies.length)
  else if 0x1C ≤ off ∧ off < 0x20 then some (0x1C, le 4 (rdAvail i s))
  else if off = 0x21 then some (0x21, le 1 s.res.alarms.length)
  else if 0x24 ≤ off ∧ off < 0x28 then some (0x24, le 4 (irqStat s))
  else none

/-- The latch of an interface's status fields (R87). -/
def setLatch (i : Iface) (l : Option (Nat × List Byte)) (s : State) : State := modPort i (fun p => { p with latch := l }) s

/-- A read of the status area: the lowest byte of a multi-byte field latches it, and its other bytes then read latched
until the transaction ends (R87). -/
def statusRead (i : Iface) (off : Nat) (s : State) : Byte × State :=
  match statusField i off s with
  | none => (0, s)
  | some (lo, l) =>
    if off = lo then (l.headD 0, if l.length = 1 then s else setLatch i (some (lo, l)) s)
    else
      match (hostPort s i).latch with
      | some (a, m) => ((if a = lo then m else l).getD (off - lo) 0, s)
      | none => (l.getD (off - lo) 0, s)

/-- The byte at the reply cursor (R91). -/
def replyRead (i : Iface) (s : State) : Byte × State :=
  let p := hostPort s i
  match p.replies with
  | r :: _ =>
    if p.rplCursor < r.bytes.length then (r.bytes.getD p.rplCursor 0, modPort i (fun q => { q with rplCursor := q.rplCursor + 1 }) s)
    else (0, modPort i (fun q => { q with portStat := q.portStat ||| 0b0010 }) s)
  | [] => (0, modPort i (fun q => { q with portStat := q.portStat ||| 0b0010 }) s)

/-- The head reply removed, and a held one admitted (R57, R91); a reply that a reset or an entry to EMBER or RETAIN waits
for starts it (R126, R133). -/
def popReply (i : Iface) (s : State) : State :=
  match (hostPort s i).replies with
  | [] => s
  | r :: rest =>
    let s := edgeLine 15 (modPort i (fun q => { q with
      rplCursor := 0, replies := rest ++ q.heldReplies.take 1, heldReplies := q.heldReplies.drop 1 }) s)
    match r.purpose with
    | .normal => s
    | .reset => resetBegin s
    | .ember => match s.sys.emberArmed with
      | some b => sleepEnter b s
      | none => s

/-- A byte appended to the command buffer (R88, R90). -/
def mailboxWrite (i : Iface) (b : Byte) (s : State) : State :=
  if (hostPort s i).mbox.submitted then protoEvent i (modPort i (fun q => { q with portStat := q.portStat ||| 0b0001 }) s)
  else modPort i (fun q => { q with mbox := { q.mbox with
    buf := if q.mbox.buf.length < 4104 then q.mbox.buf ++ [b] else q.mbox.buf, count := sat16 q.mbox.count 1 } }) s

/-- A write of HW_DOORBELL (R89, R90). -/
def doorbell (i : Iface) (b : Byte) (s : State) : State :=
  let m := (hostPort s i).mbox
  if b = 1 ∨ b = 2 then
    (if m.submitted then protoEvent i s
     else if b = 2 then modPort i (fun q => { q with mbox := {} }) s
     else if m.count = 0 then s
     else modPort i (fun q => { q with mbox := { q.mbox with submitted := true } }) s)
  else s

/-- A write of HW_PORT_STAT (Table 3-2). -/
def portStatWrite (i : Iface) (b : Byte) (s : State) : State :=
  let s := modPort i (fun q => { q with portStat := q.portStat &&& ~~~(BitVec.ofNat 4 b.toNat) }) s
  match i with
  | .twi => if b.getLsbD 4 then { s with hif := { s.hif with i2cStat := s.hif.i2cStat &&& 0b0111 } } else s
  | .quad => s

/-- A write of HW_WAKE (R112). -/
def wakeWrite (b : Byte) (s : State) : State :=
  if b = 0xA5 then exitRequest s
  else if b = 0x5A then { s with hif := { s.hif with wakePin := false } }
  else s

/-- A byte read from the window (R86 to R94, R105). -/
def windowRead (i : Iface) (off : Nat) (s : State) : Byte × State :=
  if windowLow s then
    (if off = 5 then (0, s) else if off < 0x10 then statusRead i off s else (0, s))
  else if off < 0x100 then statusRead i off s
  else if 0x200 ≤ off ∧ off < 0x300 then replyRead i s
  else if 0x1000 ≤ off ∧ off < 0x2000 then
    (match readPort i 1 s with
     | (l, t) => (l.headD 0, t))
  else if 0x2000 ≤ off ∧ off < 0x2100 then readAlarm i s
  else (0, s)

/-- A byte written to the window (R86 to R95, R105). -/
def windowWrite (i : Iface) (off : Nat) (b : Byte) (s : State) : State :=
  if off = 0x30 then wakeWrite b s
  else if windowLow s then s
  else if 0x100 ≤ off ∧ off < 0x200 then mailboxWrite i b s
  else if off = 5 then portStatWrite i b s
  else if off = 0x14 then doorbell i b s
  else if off = 0x19 then
    (if b = 1 then popReply i s else if b = 2 then modPort i (fun q => { q with rplCursor := 0 }) s else s)
  else if off = 0x20 then (if b = 1 then commitPort i s else if b = 2 then rewindPort i s else s)
  else if 0x24 ≤ off ∧ off < 0x28 then irqW1c (b.toNat * 2 ^ (8 * (off - 0x24))) s
  else s

/-- The bytes an access returned to the host. -/
def returned (i : Iface) (r : List Byte × State) : State := modPort i (fun p => { p with lastRead := r.1 }) r.2

/-- One byte returned to the host. -/
def returned1 (i : Iface) (r : Byte × State) : State := returned i ([r.1], r.2)

/-- A window access of a row, where the window answers. -/
def access (i : Iface) (f : State → State) (s : State) : State := if windowLive i s then f s else s

/-- CMD_MAILBOX_WRITE (R88). -/
def execCmdMailboxWrite (i : Iface) (b : Byte) (s : State) : Host.Outcome State Fault Refusal :=
  .next (access i (windowWrite i 0x100 b) s)
/-- DOORBELL_SUBMIT (R89). -/
def execDoorbellSubmit (i : Iface) (s : State) : Host.Outcome State Fault Refusal := .next (access i (windowWrite i 0x14 1) s)
/-- DOORBELL_DISCARD (R90). -/
def execDoorbellDiscard (i : Iface) (s : State) : Host.Outcome State Fault Refusal := .next (access i (windowWrite i 0x14 2) s)
/-- REPLY_MAILBOX_READ (R91). -/
def execReplyMailboxRead (i : Iface) (s : State) : Host.Outcome State Fault Refusal :=
  .next (access i (fun t => returned1 i (windowRead i 0x200 t)) s)
/-- REPLY_POP (R91). -/
def execReplyPop (i : Iface) (s : State) : Host.Outcome State Fault Refusal := .next (access i (windowWrite i 0x19 1) s)
/-- REPLY_REWIND (R91). -/
def execReplyRewind (i : Iface) (s : State) : Host.Outcome State Fault Refusal := .next (access i (windowWrite i 0x19 2) s)
/-- STREAM_PORT_READ (R92). -/
def execStreamPortRead (i : Iface) (s : State) : Host.Outcome State Fault Refusal :=
  .next (access i (fun t => returned1 i (windowRead i 0x1000 t)) s)
/-- STREAM_COMMIT (R93). -/
def execStreamCommit (i : Iface) (s : State) : Host.Outcome State Fault Refusal := .next (access i (windowWrite i 0x20 1) s)
/-- STREAM_REWIND (R93). -/
def execStreamRewind (i : Iface) (s : State) : Host.Outcome State Fault Refusal := .next (access i (windowWrite i 0x20 2) s)
/-- ALARM_PORT_READ (R94). -/
def execAlarmPortRead (i : Iface) (s : State) : Host.Outcome State Fault Refusal :=
  .next (access i (fun t => returned1 i (windowRead i 0x2000 t)) s)
/-- WAKE_EXIT_REQUEST (R112). -/
def execWakeExitRequest (i : Iface) (s : State) : Host.Outcome State Fault Refusal :=
  .next (access i (windowWrite i 0x30 0xA5) s)
/-- WAKE_RELEASE (R112). -/
def execWakeRelease (i : Iface) (s : State) : Host.Outcome State Fault Refusal :=
  .next (access i (windowWrite i 0x30 0x5A) s)

/-- STATUS_FIELD_LATCH (R87): a read of the lowest byte of a multi-byte status field. -/
def execStatusFieldLatch (i : Iface) (off : Half) (s : State) : Host.Outcome State Fault Refusal :=
  .next (access i (fun t =>
    match statusField i off.toNat t with
    | some (lo, l) =>
      if lo = off.toNat ∧ 1 < l.length then returned1 i (windowRead i off.toNat t) else t
    | none => t) s)

/-- REPLY_STALL (R57). -/
def execReplyStall (i : Iface) (s : State) : Host.Outcome State Fault Refusal :=
  .next (if windowLow s || decide ((hostPort s i).replies.length < 8) then s else raise 1 Src.hifReplyStall noItem s)

/-! ### The two-wire target -/

/-- The two-wire target acknowledges an address under the settings in force (R97, Tables 3-5 to 3-7). -/
def twiAcks (cfg : Word × Word × Word) (addr : BitVec 7) : Bool :=
  bitOf cfg.1 0 &&
  (if bitOf cfg.1 1 then
    (addr.toNat ^^^ fld cfg.2.2 0 7) &&& fld cfg.2.2 8 7 == 0
   else [0, 8, 16, 24].any (fun k => bitOf cfg.2.1 (k + 7) && fld cfg.2.1 k 7 == addr.toNat))

/-- A transaction that ends after one pointer byte is counted (R99). -/
def onePointer (one : Bool) (s : State) : State :=
  if one && s.hif.twiSel == some false then protoEvent .twi s else s

/-- The two-wire target returns to idle. -/
def twiIdle (busy : Bool) (s : State) : State :=
  setLatch .twi none { s with hif := { s.hif with twiSel := none, busBusy := busy } }

/-- I2C_ADDRESS_PHASE (R97 to R99): the address settings of the shadow are in force from a START once start-up is
complete. -/
def execI2cAddressPhase (addr : BitVec 7) (read onePtr : Bool) (s : State) : Host.Outcome State Fault Refusal :=
  .next (access .twi (fun s =>
    let s := twiIdle true (onePointer onePtr s)
    let cfg := if s.sys.cfgLoaded then (shw s Reg.hifI2cCfg, shw s Reg.hifI2cAddr, shw s Reg.hifI2cMask) else s.hif.twiCfg
    let s := { s with hif := { s.hif with twiCfg := cfg } }
    if twiAcks cfg addr then { s with hif := { s.hif with twiSel := some read, lastAddr := addr } } else s) s)

/-- POINTER_LOAD (R99). -/
def execPointerLoad (lo hi : Byte) (s : State) : Host.Outcome State Fault Refusal :=
  .next (if windowLive .twi s && s.hif.twiSel == some false then
      modPort .twi (fun p => { p with pointer := BitVec.ofNat 16 (lo.toNat + 256 * hi.toNat) }) s
    else s)

/-- The pointer after a written byte: within its 64-byte page (R100). -/
def pageNext (p : Half) : Half := BitVec.ofNat 16 (p.toNat / 64 * 64 + (p.toNat + 1) % 64)

/-- I2C_WRITE_BYTE (R100, R101). -/
def execI2cWriteByte (b : Byte) (s : State) : Host.Outcome State Fault Refusal :=
  .next (if windowLive .twi s && s.hif.twiSel == some false then
      let a := s.hif.twi.pointer
      windowWrite .twi a.toNat b (modPort .twi (fun p => { p with pointer := pageNext a }) s)
    else s)

/-- I2C_READ_BYTE (R100, R102): a byte not ready, with no stretching, is 0xFF and moves no port cursor. -/
def execI2cReadByte (ready : Bool) (s : State) : Host.Outcome State Fault Refusal :=
  .next (if windowLive .twi s && s.hif.twiSel == some true then
      let a := s.hif.twi.pointer
      let s := modPort .twi (fun p => { p with pointer := a + 1 }) s
      if !ready && (!bitOf s.hif.twiCfg.1 2 || windowLow s) then
        returned1 .twi (0xFF, { s with hif := { s.hif with i2cStat := s.hif.i2cStat ||| 0b1000 } })
      else returned1 .twi (windowRead .twi a.toNat s)
    else s)

/-- COND_DISCARD (R101). -/
def execCondDiscard (stop : Bool) (s : State) : Host.Outcome State Fault Refusal :=
  .next (if windowLive .twi s && s.hif.twiSel == some false then
      protoEvent .twi (twiIdle (!stop) { s with hif := { s.hif with i2cStat := s.hif.i2cStat ||| 0b0100 } })
    else s)

/-- STOP_CONDITION (R99, R101). -/
def execStopCondition (onePtr : Bool) (s : State) : Host.Outcome State Fault Refusal :=
  .next (access .twi (fun s => twiIdle false (onePointer onePtr s)) s)

/-- A two-wire timeout of a status bit (R103). -/
def twiTimeout (bit : BitVec 4) (s : State) : State :=
  if windowLive .twi s && bitOf s.hif.twiCfg.1 3 then
    protoEvent .twi (twiIdle s.hif.busBusy { s with hif := { s.hif with i2cStat := s.hif.i2cStat ||| bit } })
  else s

/-- SCL_TIMEOUT (R103). -/
def execSclTimeout (s : State) : Host.Outcome State Fault Refusal := .next (twiTimeout 0b0001 s)
/-- SDA_TIMEOUT (R103). -/
def execSdaTimeout (s : State) : Host.Outcome State Fault Refusal := .next (twiTimeout 0b0010 s)

/-! ### The quad serial target -/

/-- CSn falls: the settings of HIF_QSPI_CFG come into force, and a new transaction holds no latch (R87, R107). -/
def quadSelect (s : State) : State :=
  setLatch .quad none { s with hif := { s.hif with quadCfg := shw s Reg.hifQspiCfg, csLow := false } }

/-- Bytes written from a pointer on (R100). -/
def quadWrites : List Byte → Half → State → State
  | [], p, s => modPort .quad (fun q => { q with pointer := p }) s
  | b :: l, p, s => quadWrites l (pageNext p) (windowWrite .quad p.toNat b s)

/-- `n` bytes read from a pointer on (R100). -/
def quadReads : Nat → Half → State → List Byte × State
  | 0, p, s => ([], modPort .quad (fun q => { q with pointer := p }) s)
  | n + 1, p, s =>
    match windowRead .quad p.toNat s with
    | (b, t) => match quadReads n (p + 1) t with
      | (l, u) => (b :: l, u)

/-- QSPI_WRITE (R107). -/
def execQspiWrite (ptr : Half) (data : List Byte) (s : State) : Host.Outcome State Fault Refusal :=
  .next (access .quad (fun s => quadWrites data ptr (quadSelect s)) s)
/-- QSPI_READ (R107). -/
def execQspiRead (ptr : Half) (n : Nat) (s : State) : Host.Outcome State Fault Refusal :=
  .next (access .quad (fun s => setLatch .quad none (returned .quad (quadReads n ptr (quadSelect s)))) s)
/-- READ_STATE (R107). -/
def execReadState (n : Nat) (s : State) : Host.Outcome State Fault Refusal :=
  .next (access .quad (fun s => returned .quad (List.replicate n (hwState s), quadSelect s)) s)
/-- BULK_READ (R109). -/
def execBulkRead (n : Nat) (s : State) : Host.Outcome State Fault Refusal :=
  .next (access .quad (fun s => returned .quad (readPort .quad n (quadSelect s))) s)

/-- CS_ABORT (R108). -/
def execCsAbort (s : State) : Host.Outcome State Fault Refusal :=
  .next (access .quad (fun s =>
    protoEvent .quad { s with hif := { s.hif with qspiStat := s.hif.qspiStat ||| 0b01, csLow := false } }) s)

/-- BAD_INSTR (R108): a code outside Table 3-3. -/
def execBadInstr (code : Byte) (s : State) : Host.Outcome State Fault Refusal :=
  .next (access .quad (fun s =>
    if code = 0x02 ∨ code = 0x0B ∨ code = 0x05 ∨ code = 0x3B then s
    else protoEvent .quad { quadSelect s with hif := { (quadSelect s).hif with qspiStat := s.hif.qspiStat ||| 0b10 } }) s)

/-- CSN_EXIT_REQUEST (R110). -/
def execCsnExitRequest (s : State) : Host.Outcome State Fault Refusal := .next (exitRequest s)

end Sys2Proof.Machine
end

