-- ==== Sys2Proof/Machine/Dispatch.lean ====
section
/-! DEFINITION. One arm per command: a direct call of its meaning, or its rejection by name. -/
namespace Sys2Proof.Machine

open Sys2Proof

/-- The effect of a command on everything but the queue. -/
def exec (i : Instr) (s : State) : Host.Outcome State Fault Refusal :=
  match i with
  | .nop p => Sys2Proof.Machine.execNop p s
  | .identify p => Sys2Proof.Machine.execIdentify p s
  | .getStatus p => Sys2Proof.Machine.execGetStatus p s
  | .sessionOpen p => Sys2Proof.Machine.execSessionOpen p s
  | .sessionAuth p => Sys2Proof.Machine.execSessionAuth p s
  | .sessionClose p => Sys2Proof.Machine.execSessionClose p s
  | .setPowerState p => Sys2Proof.Machine.execSetPowerState p s
  | .reset p => Sys2Proof.Machine.execReset p s
  | .readReg p => Sys2Proof.Machine.execReadReg p s
  | .writeReg p => Sys2Proof.Machine.execWriteReg p s
  | .saveConfig p => Sys2Proof.Machine.execSaveConfig p s
  | .loadConfig p => Sys2Proof.Machine.execLoadConfig p s
  | .gridConfig p => Sys2Proof.Machine.execGridConfig p s
  | .regionDefine p => Sys2Proof.Machine.execRegionDefine p s
  | .drivePlan p => Sys2Proof.Machine.execDrivePlan p s
  | .gridStart p => Sys2Proof.Machine.execGridStart p s
  | .gridStop p => Sys2Proof.Machine.execGridStop p s
  | .captureReference p => Sys2Proof.Machine.execCaptureReference p s
  | .readFrame p => Sys2Proof.Machine.execReadFrame p s
  | .selfcapConfig p => Sys2Proof.Machine.execSelfcapConfig p s
  | .touchConfig p => Sys2Proof.Machine.execTouchConfig p s
  | .controlDefine p => Sys2Proof.Machine.execControlDefine p s
  | .gestureConfig p => Sys2Proof.Machine.execGestureConfig p s
  | .baselineReset p => Sys2Proof.Machine.execBaselineReset p s
  | .contactPolicy p => Sys2Proof.Machine.execContactPolicy p s
  | .readContacts p => Sys2Proof.Machine.execReadContacts p s
  | .carrierTable p => Sys2Proof.Machine.execCarrierTable p s
  | .hopPolicy p => Sys2Proof.Machine.execHopPolicy p s
  | .noiseSurvey p => Sys2Proof.Machine.execNoiseSurvey p s
  | .emberConfig p => Sys2Proof.Machine.execEmberConfig p s
  | .bridgeConfig p => Sys2Proof.Machine.execBridgeConfig p s
  | .exciteSet p => Sys2Proof.Machine.execExciteSet p s
  | .cmwinSet p => Sys2Proof.Machine.execCmwinSet p s
  | .checkDac p => Sys2Proof.Machine.execCheckDac p s
  | .laneReinstate p => Sys2Proof.Machine.execLaneReinstate p s
  | .trimApply p => Sys2Proof.Machine.execTrimApply p s
  | .trimRead p => Sys2Proof.Machine.execTrimRead p s
  | .convConfig p => Sys2Proof.Machine.execConvConfig p s
  | .filterSelect p => Sys2Proof.Machine.execFilterSelect p s
  | .convStart p => Sys2Proof.Machine.execConvStart p s
  | .convStop p => Sys2Proof.Machine.execConvStop p s
  | .decimSync p => Sys2Proof.Machine.execDecimSync p s
  | .threshSet p => Sys2Proof.Machine.execThreshSet p s
  | .onsetConfig p => Sys2Proof.Machine.execOnsetConfig p s
  | .timeSet p => Sys2Proof.Machine.execTimeSet p s
  | .timeGet p => Sys2Proof.Machine.execTimeGet p s
  | .servoConfig p => Sys2Proof.Machine.execServoConfig p s
  | .triggerSet p => Sys2Proof.Machine.execTriggerSet p s
  | .captureConfig p => Sys2Proof.Machine.execCaptureConfig p s
  | .beaconConfig p => Sys2Proof.Machine.execBeaconConfig p s
  | .epochSet p => Sys2Proof.Machine.execEpochSet p s
  | .fabricJoin p => Sys2Proof.Machine.execFabricJoin p s
  | .fabricStatus p => Sys2Proof.Machine.execFabricStatus p s
  | .routeRead p => Sys2Proof.Machine.execRouteRead p s
  | .modePrepare p => Sys2Proof.Machine.execModePrepare p s
  | .modeCommit p => Sys2Proof.Machine.execModeCommit p s
  | .portConfig p => Sys2Proof.Machine.execPortConfig p s
  | .lamplighterPriority p => Sys2Proof.Machine.execLamplighterPriority p s
  | .streamDefine p => Sys2Proof.Machine.execStreamDefine p s
  | .streamAdmit p => Sys2Proof.Machine.execStreamAdmit p s
  | .streamStart p => Sys2Proof.Machine.execStreamStart p s
  | .streamStop p => Sys2Proof.Machine.execStreamStop p s
  | .streamRead p => Sys2Proof.Machine.execStreamRead p s
  | .drainDeclare p => Sys2Proof.Machine.execDrainDeclare p s
  | .faultRead p => Sys2Proof.Machine.execFaultRead p s
  | .faultAck p => Sys2Proof.Machine.execFaultAck p s
  | .severitySet p => Sys2Proof.Machine.execSeveritySet p s
  | .thermalConfig p => Sys2Proof.Machine.execThermalConfig p s
  | .healthRead p => Sys2Proof.Machine.execHealthRead p s
  | .keySet p => Sys2Proof.Machine.execKeySet p s
  | .journalRead p => Sys2Proof.Machine.execJournalRead p s
  | .journalPolicy p => Sys2Proof.Machine.execJournalPolicy p s
  | .imageBegin p => Sys2Proof.Machine.execImageBegin p s
  | .imageData p => Sys2Proof.Machine.execImageData p s
  | .imageEnd p => Sys2Proof.Machine.execImageEnd p s
  | .imageActivate p => Sys2Proof.Machine.execImageActivate p s
  | .decodeLoad p => Sys2Proof.Machine.execDecodeLoad p s
  | .powerTransitionComplete us => Sys2Proof.Machine.execPowerTransitionComplete us s
  | .saveConfigDone r => Sys2Proof.Machine.execSaveConfigDone r s
  | .loadConfigDone => Sys2Proof.Machine.execLoadConfigDone s
  | .captureReferenceDone r => Sys2Proof.Machine.execCaptureReferenceDone r s
  | .noiseSurveyDone => Sys2Proof.Machine.execNoiseSurveyDone s
  | .fabricJoinDone => Sys2Proof.Machine.execFabricJoinDone s
  | .modePrepareDone => Sys2Proof.Machine.execModePrepareDone s
  | .modeCommitDone => Sys2Proof.Machine.execModeCommitDone s
  | .keySetDone r => Sys2Proof.Machine.execKeySetDone r s
  | .journalPolicyDone r => Sys2Proof.Machine.execJournalPolicyDone r s
  | .imageEndDone r => Sys2Proof.Machine.execImageEndDone r s
  | .imageActivateDone r => Sys2Proof.Machine.execImageActivateDone r s
  | .decodeLoadDone r => Sys2Proof.Machine.execDecodeLoadDone r s
  | .relayTimeout port tag => Sys2Proof.Machine.execRelayTimeout port tag s
  | .broadcastSummary port tag => Sys2Proof.Machine.execBroadcastSummary port tag s
  | .cmdMailboxWrite port b => Sys2Proof.Machine.execCmdMailboxWrite port b s
  | .doorbellSubmit port => Sys2Proof.Machine.execDoorbellSubmit port s
  | .doorbellDiscard port => Sys2Proof.Machine.execDoorbellDiscard port s
  | .replyMailboxRead port => Sys2Proof.Machine.execReplyMailboxRead port s
  | .replyPop port => Sys2Proof.Machine.execReplyPop port s
  | .replyRewind port => Sys2Proof.Machine.execReplyRewind port s
  | .streamPortRead port => Sys2Proof.Machine.execStreamPortRead port s
  | .streamCommit port => Sys2Proof.Machine.execStreamCommit port s
  | .streamRewind port => Sys2Proof.Machine.execStreamRewind port s
  | .alarmPortRead port => Sys2Proof.Machine.execAlarmPortRead port s
  | .wakeExitRequest port => Sys2Proof.Machine.execWakeExitRequest port s
  | .wakeRelease port => Sys2Proof.Machine.execWakeRelease port s
  | .statusFieldLatch port off => Sys2Proof.Machine.execStatusFieldLatch port off s
  | .i2cAddressPhase addr read onePtr => Sys2Proof.Machine.execI2cAddressPhase addr read onePtr s
  | .pointerLoad lo hi => Sys2Proof.Machine.execPointerLoad lo hi s
  | .i2cWriteByte b => Sys2Proof.Machine.execI2cWriteByte b s
  | .i2cReadByte ready => Sys2Proof.Machine.execI2cReadByte ready s
  | .condDiscard stop => Sys2Proof.Machine.execCondDiscard stop s
  | .stopCondition onePtr => Sys2Proof.Machine.execStopCondition onePtr s
  | .sclTimeout => Sys2Proof.Machine.execSclTimeout s
  | .sdaTimeout => Sys2Proof.Machine.execSdaTimeout s
  | .qspiWrite ptr data => Sys2Proof.Machine.execQspiWrite ptr data s
  | .qspiRead ptr n => Sys2Proof.Machine.execQspiRead ptr n s
  | .readState n => Sys2Proof.Machine.execReadState n s
  | .bulkRead n => Sys2Proof.Machine.execBulkRead n s
  | .csAbort => Sys2Proof.Machine.execCsAbort s
  | .badInstr code => Sys2Proof.Machine.execBadInstr code s
  | .csnExitRequest => Sys2Proof.Machine.execCsnExitRequest s
  | .syncEdge falling t => Sys2Proof.Machine.execSyncEdge falling t s
  | .trigEdge n falling t => Sys2Proof.Machine.execTrigEdge n falling t s
  | .ppsinEdge falling t => Sys2Proof.Machine.execPpsinEdge falling t s
  | .ppsLost => Sys2Proof.Machine.execPpsLost s
  | .ppsoutPulse => Sys2Proof.Machine.execPpsoutPulse s
  | .tclkLost => Sys2Proof.Machine.execTclkLost s
  | .por => Sys2Proof.Machine.execPor s
  | .supplyReset lostAlwaysOn => Sys2Proof.Machine.execSupplyReset lostAlwaysOn s
  | .pinReset => Sys2Proof.Machine.execPinReset s
  | .resetBegin => Sys2Proof.Machine.execResetBegin s
  | .firmwareRestart => Sys2Proof.Machine.execFirmwareRestart s
  | .imageSelfCheck selfTest => Sys2Proof.Machine.execImageSelfCheck selfTest s
  | .startupConfigLoad => Sys2Proof.Machine.execStartupConfigLoad s
  | .emberEntry => Sys2Proof.Machine.execEmberEntry s
  | .exitComplete => Sys2Proof.Machine.execExitComplete s
  | .safeLogProgram => Sys2Proof.Machine.execSafeLogProgram s
  | .thermalShutdown => Sys2Proof.Machine.execThermalShutdown s
  | .thermalRestart => Sys2Proof.Machine.execThermalRestart s
  | .wdogWarn => Sys2Proof.Machine.execWdogWarn s
  | .watchdogExpiry => Sys2Proof.Machine.execWatchdogExpiry s
  | .epochBoundary => Sys2Proof.Machine.execEpochBoundary s
  | .gridFrameStart => Sys2Proof.Machine.execGridFrameStart s
  | .gridFrameComplete x => Sys2Proof.Machine.execGridFrameComplete x s
  | .idleListenFrame u => Sys2Proof.Machine.execIdleListenFrame u s
  | .driveOvercurrent line => Sys2Proof.Machine.execDriveOvercurrent line s
  | .vtxLow present => Sys2Proof.Machine.execVtxLow present s
  | .touchMutualFrame late => Sys2Proof.Machine.execTouchMutualFrame late s
  | .touchSelfFrame late => Sys2Proof.Machine.execTouchSelfFrame late s
  | .emberScan v => Sys2Proof.Machine.execEmberScan v s
  | .housekeepingRound conv checkOk => Sys2Proof.Machine.execHousekeepingRound conv checkOk s
  | .bridgeSample r x => Sys2Proof.Machine.execBridgeSample r x s
  | .convIntervalEvent => Sys2Proof.Machine.execConvIntervalEvent s
  | .modOverload lane negative => Sys2Proof.Machine.execModOverload lane negative s
  | .modUnlock => Sys2Proof.Machine.execModUnlock s
  | .windowViolationBegin w t => Sys2Proof.Machine.execWindowViolationBegin w t s
  | .leadEventClassify lane => Sys2Proof.Machine.execLeadEventClassify lane s
  | .windowViolationEnd w t => Sys2Proof.Machine.execWindowViolationEnd w t s
  | .transientClose w => Sys2Proof.Machine.execTransientClose w s
  | .permanentDecision w => Sys2Proof.Machine.execPermanentDecision w s
  | .excOvercurrent g => Sys2Proof.Machine.execExcOvercurrent g s
  | .vexLow g present => Sys2Proof.Machine.execVexLow g present s
  | .brdgChangeApply g => Sys2Proof.Machine.execBrdgChangeApply g s
  | .brdgSnuffApply w => Sys2Proof.Machine.execBrdgSnuffApply w s
  | .timeTriggerFire u => Sys2Proof.Machine.execTimeTriggerFire u s
  | .slewEnd => Sys2Proof.Machine.execSlewEnd s
  | .syncFrameSend => Sys2Proof.Machine.execSyncFrameSend s
  | .syncFrameReceive p f t2 => Sys2Proof.Machine.execSyncFrameReceive p f t2 s
  | .delayReqSend t3 => Sys2Proof.Machine.execDelayReqSend t3 s
  | .delayReqReceive p seq t4 => Sys2Proof.Machine.execDelayReqReceive p seq t4 s
  | .delayRespReceive p seq t4 => Sys2Proof.Machine.execDelayRespReceive p seq t4 s
  | .delayRespTimeout => Sys2Proof.Machine.execDelayRespTimeout s
  | .beaconMissed => Sys2Proof.Machine.execBeaconMissed s
  | .portTrained p uid => Sys2Proof.Machine.execPortTrained p uid s
  | .helloSend => Sys2Proof.Machine.execHelloSend s
  | .helloReceive p h => Sys2Proof.Machine.execHelloReceive p h s
  | .linkDown p codeErrors => Sys2Proof.Machine.execLinkDown p codeErrors s
  | .creditReceive p cls n => Sys2Proof.Machine.execCreditReceive p cls n s
  | .frameForward p f => Sys2Proof.Machine.execFrameForward p f s
  | .topoOriginate => Sys2Proof.Machine.execTopoOriginate s
  | .topoReceive p r => Sys2Proof.Machine.execTopoReceive p r s
  | .topoExpiry uid => Sys2Proof.Machine.execTopoExpiry uid s
  | .databaseSettled => Sys2Proof.Machine.execDatabaseSettled s
  | .assignReceive p a => Sys2Proof.Machine.execAssignReceive p a s
  | .cmdFrameReceive p src dest g => Sys2Proof.Machine.execCmdFrameReceive p src dest g s
  | .rplFrameReceive p src g => Sys2Proof.Machine.execRplFrameReceive p src g s
  | .reassemblyTimeout isReply src port tag => Sys2Proof.Machine.execReassemblyTimeout isReply src port tag s
  | .streamSegmentSend k => Sys2Proof.Machine.execStreamSegmentSend k s
  | .streamFrameReceive p src g => Sys2Proof.Machine.execStreamFrameReceive p src g s
  | .streamAckReceive p src k seq => Sys2Proof.Machine.execStreamAckReceive p src k seq s
  | .streamResendTimeout k => Sys2Proof.Machine.execStreamResendTimeout k s
  | .alarmFrameReceive p src a => Sys2Proof.Machine.execAlarmFrameReceive p src a s
  | .alarmAckReceive p src aseq => Sys2Proof.Machine.execAlarmAckReceive p src aseq s
  | .alarmResend => Sys2Proof.Machine.execAlarmResend s
  | .admissionRequestReceive p q => Sys2Proof.Machine.execAdmissionRequestReceive p q s
  | .modePrepareReceive p src c => Sys2Proof.Machine.execModePrepareReceive p src c s
  | .modeAckReceive src a => Sys2Proof.Machine.execModeAckReceive src a s
  | .modeCommitReceive how => Sys2Proof.Machine.execModeCommitReceive how s
  | .modeAbortReceive src id => Sys2Proof.Machine.execModeAbortReceive src id s
  | .modeAppliedReceive src id epoch => Sys2Proof.Machine.execModeAppliedReceive src id epoch s
  | .modeCommitResend => Sys2Proof.Machine.execModeCommitResend s
  | .preparedChangeDiscard => Sys2Proof.Machine.execPreparedChangeDiscard s
  | .drainLate k => Sys2Proof.Machine.execDrainLate k s
  | .replyStall port => Sys2Proof.Machine.execReplyStall port s
  | .sessionIdleTimeout k => Sys2Proof.Machine.execSessionIdleTimeout k s
  | .challengeExpiry k => Sys2Proof.Machine.execChallengeExpiry k s
  | .lockoutEnd k => Sys2Proof.Machine.execLockoutEnd k s
  | .stateParity b src => Sys2Proof.Machine.execStateParity b src s
  | .blockResetRestart b => Sys2Proof.Machine.execBlockResetRestart b s
  | .journalEntryProgram => Sys2Proof.Machine.execJournalEntryProgram s
  | .journalSectorErase ok => Sys2Proof.Machine.execJournalSectorErase ok s
  | .snuffListWrite r => Sys2Proof.Machine.execSnuffListWrite r s
  | .keyAreaUpdate r => Sys2Proof.Machine.execKeyAreaUpdate r s
  | .faultStatAck w b mask => Sys2Proof.Machine.execFaultStatAck w b mask s
  | .hkpReinstate w v => Sys2Proof.Machine.execHkpReinstate w v s
  | .secCfgLockWrite w v => Sys2Proof.Machine.execSecCfgLockWrite w v s
  | .triggerCfgWrite w u v => Sys2Proof.Machine.execTriggerCfgWrite w u v s
  | .timeNowLatch => Sys2Proof.Machine.execTimeNowLatch s
  | .registerWrite w a v => Sys2Proof.Machine.execRegisterWrite w a v s
  | .apertureBaseWrite n v => Sys2Proof.Machine.execApertureBaseWrite n v s
  | .wdkick v => Sys2Proof.Machine.execWdkick v s
  | .interruptEntry => Sys2Proof.Machine.execInterruptEntry s
  | .waitResume => Sys2Proof.Machine.execWaitResume s
  | .mulDelivery => Sys2Proof.Machine.execMulDelivery s
  | .divDelivery => Sys2Proof.Machine.execDivDelivery s
  | .extOverrun => Sys2Proof.Machine.execExtOverrun s
  | .lpoTick => Sys2Proof.Machine.execLpoTick s
  | .add d sr => Sys2Proof.Machine.execAdd d sr s
  | .adc d sr => Sys2Proof.Machine.execAdc d sr s
  | .sub d sr => Sys2Proof.Machine.execSub d sr s
  | .sbc d sr => Sys2Proof.Machine.execSbc d sr s
  | .and d sr => Sys2Proof.Machine.execAnd d sr s
  | .or d sr => Sys2Proof.Machine.execOr d sr s
  | .xor d sr => Sys2Proof.Machine.execXor d sr s
  | .mov d sr => Sys2Proof.Machine.execMov d sr s
  | .cmp d sr => Sys2Proof.Machine.execCmp d sr s
  | .tst d sr => Sys2Proof.Machine.execTst d sr s
  | .mulu d sr => Sys2Proof.Machine.execMulu d sr s
  | .muls d sr => Sys2Proof.Machine.execMuls d sr s
  | .divu pd sr => Sys2Proof.Machine.execDivu pd sr s
  | .divs pd sr => Sys2Proof.Machine.execDivs pd sr s
  | .shl d count => Sys2Proof.Machine.execShl d count s
  | .shr d count => Sys2Proof.Machine.execShr d count s
  | .sar d count => Sys2Proof.Machine.execSar d count s
  | .rol d count => Sys2Proof.Machine.execRol d count s
  | .ror d count => Sys2Proof.Machine.execRor d count s
  | .shlr d sr => Sys2Proof.Machine.execShlr d sr s
  | .shrr d sr => Sys2Proof.Machine.execShrr d sr s
  | .sarr d sr => Sys2Proof.Machine.execSarr d sr s
  | .neg d => Sys2Proof.Machine.execNeg d s
  | .not d => Sys2Proof.Machine.execNot d s
  | .inc d => Sys2Proof.Machine.execInc d s
  | .dec d => Sys2Proof.Machine.execDec d s
  | .swapn d => Sys2Proof.Machine.execSwapn d s
  | .clr d => Sys2Proof.Machine.execClr d s
  | .movi d imm => Sys2Proof.Machine.execMovi d imm s
  | .addi d imm => Sys2Proof.Machine.execAddi d imm s
  | .cmpi d imm => Sys2Proof.Machine.execCmpi d imm s
  | .andi d imm => Sys2Proof.Machine.execAndi d imm s
  | .ld d p inc disp => Sys2Proof.Machine.execLd d p inc disp s
  | .st sr p inc disp => Sys2Proof.Machine.execSt sr p inc disp s
  | .bra rel => Sys2Proof.Machine.execBra rel s
  | .call rel => Sys2Proof.Machine.execCall rel s
  | .skip cond => Sys2Proof.Machine.execSkip cond s
  | .skbc d b => Sys2Proof.Machine.execSkbc d b s
  | .skbs d b => Sys2Proof.Machine.execSkbs d b s
  | .bclr d b => Sys2Proof.Machine.execBclr d b s
  | .bset d b => Sys2Proof.Machine.execBset d b s
  | .customerOpcode entry operand => Sys2Proof.Machine.execCustomerOpcode entry operand s
  | .sysNop => Sys2Proof.Machine.execSysNop s
  | .ret => Sys2Proof.Machine.execRet s
  | .reti => Sys2Proof.Machine.execReti s
  | .ei => Sys2Proof.Machine.execEi s
  | .di => Sys2Proof.Machine.execDi s
  | .wait => Sys2Proof.Machine.execWait s
  | .jmpi p => Sys2Proof.Machine.execJmpi p s
  | .calli p => Sys2Proof.Machine.execCalli p s
  | .mfs d sr => Sys2Proof.Machine.execMfs d sr s
  | .mts ss sr => Sys2Proof.Machine.execMts ss sr s
  | .jmp target => Sys2Proof.Machine.execJmp target s
  | .callAbs target => Sys2Proof.Machine.execCallAbs target s
  | .push sr => Sys2Proof.Machine.execPush sr s
  | .pop d => Sys2Proof.Machine.execPop d s
  | .padd p imm => Sys2Proof.Machine.execPadd p imm s
  | .ldp p imm => Sys2Proof.Machine.execLdp p imm s
  | .pushp p => Sys2Proof.Machine.execPushp p s
  | .popp p => Sys2Proof.Machine.execPopp p s
  | .movp p q => Sys2Proof.Machine.execMovp p q s
  | .pcmp p q => Sys2Proof.Machine.execPcmp p q s
  | .repImm n => Sys2Proof.Machine.execRepImm n s
  | .repReg sr => Sys2Proof.Machine.execRepReg sr s
  | .loopImm n len => Sys2Proof.Machine.execLoopImm n len s
  | .loopReg p len => Sys2Proof.Machine.execLoopReg p len s
  | .lbreak => Sys2Proof.Machine.execLbreak s
  | .pllUnlock core => Sys2Proof.Machine.execPllUnlock core s
  | .supplyBackInRange => Sys2Proof.Machine.execSupplyBackInRange s
  | .unknownOpcode o bytes => Sys2Proof.Machine.execUnknownOpcode o bytes s
  | .illegalOpcode w => Sys2Proof.Machine.execIllegalOpcode w s
  | .portMismatch p => Sys2Proof.Machine.execPortMismatch p s
  | .frameDiscard p why => Sys2Proof.Machine.execFrameDiscard p why s
  | .admissionReplyReceive src a => Sys2Proof.Machine.execAdmissionReplyReceive src a s
  | .tmodeChange high => Sys2Proof.Machine.execTmodeChange high s

end Sys2Proof.Machine
end

