-- ==== Sys2Proof/Machine/Step.lean ====
section
/-! DEFINITION. One step of the block: the command at the front of the queue, or one tick of the counter. -/
namespace Sys2Proof.Machine

open Sys2Proof

/-- One step: exec of the command at the front of the queue on the state with the queue's rest; on an empty queue one
TIME tick (R311; log entry 10). -/
def step (s : State) : Host.Outcome State Fault Refusal :=
  match s.pending with
  | [] => .next (tickTime s)
  | c :: rest => exec c { s with pending := rest }

/-- A state with the command a table word spells put at the front of its queue; the state itself where it spells none. -/
def State.withFetchWord (s : State) (nbits w : Nat) : State :=
  match decodeTableWord nbits w with
  | none => s
  | some c => { s with pending := c :: s.pending }

end Sys2Proof.Machine
end

