-- ==== Sys2Proof/WellFormed.lean ====
section
/-! DEFINITION. Which terms of `Instr` stand for something the spec's senders can produce: packets with a parameter block
of at most 4,096 bytes (R48), origins that name a fabric address (R49), lists of the lengths the hardware delivers. -/
namespace Sys2Proof

/-- A remote origin names an assigned fabric address, 0x00 to 0xEF (R62, R351). -/
def Origin.wf : Origin → Bool
  | .loc _ => true
  | .remote a _ => decide (a.toNat ≤ 0xEF)

/-- A packet's parameter block holds at most 4,096 bytes (R48). -/
def Packet.wf (p : Packet) : Bool := p.origin.wf && decide (p.params.length ≤ 4096)

/-- A frame's input holds one list per lane or line (R163, R169) and overloads of existing lanes. -/
def FrameInput.wf (x : FrameInput) : Bool :=
  decide (x.chips.length = 160 ∨ x.chips.length = 280) && decide (x.shadow.length ≤ 160)
    && x.overload.all (fun n => decide (n < 160))

/-- A segment carries at most 252 bytes (R356). -/
def Segment.wf (g : Segment) : Bool := decide (g.bytes.length ≤ 252 ∧ g.seg ≤ 255)

/-- A class-0 event entry has 32 bytes (R386). -/
def AlarmMsg.wf (a : AlarmMsg) : Bool := decide (a.entry.length = 32)

/-- An ASSIGN record names at most 24 devices (R351). -/
def Assign.wf (a : Assign) : Bool := decide (a.pairs.length ≤ 24)

/-- The terms that stand for a command or an event the spec describes. -/
def Instr.wf : Instr → Bool
  | .nop p | .identify p | .getStatus p | .sessionOpen p | .sessionAuth p | .sessionClose p | .setPowerState p
  | .reset p | .readReg p | .writeReg p | .saveConfig p | .loadConfig p | .gridConfig p | .regionDefine p
  | .drivePlan p | .gridStart p | .gridStop p | .captureReference p | .readFrame p | .selfcapConfig p
  | .touchConfig p | .controlDefine p | .gestureConfig p | .baselineReset p | .contactPolicy p | .readContacts p
  | .carrierTable p | .hopPolicy p | .noiseSurvey p | .emberConfig p | .bridgeConfig p | .exciteSet p | .cmwinSet p
  | .checkDac p | .laneReinstate p | .trimApply p | .trimRead p | .convConfig p | .filterSelect p | .convStart p
  | .convStop p | .decimSync p | .threshSet p | .onsetConfig p | .timeSet p | .timeGet p | .servoConfig p
  | .triggerSet p | .captureConfig p | .beaconConfig p | .epochSet p | .fabricJoin p | .fabricStatus p | .routeRead p
  | .modePrepare p | .modeCommit p | .portConfig p | .lamplighterPriority p | .streamDefine p | .streamAdmit p
  | .streamStart p | .streamStop p | .streamRead p | .drainDeclare p | .faultRead p | .faultAck p | .severitySet p
  | .thermalConfig p | .healthRead p | .keySet p | .journalRead p | .journalPolicy p | .imageBegin p | .imageData p
  | .imageEnd p | .imageActivate p | .decodeLoad p => p.wf
  | .gridFrameComplete x => x.wf
  | .idleListenFrame u => decide (u.length ≤ 160)
  | .emberScan v => decide (v.length ≤ 8)
  | .housekeepingRound c _ => decide (c.length = 24)
  | .bridgeSample _ x => decide (x.length ≤ 32)
  | .frameForward _ f => decide (f.payload.length ≤ 4096 ∧ f.hops ≤ 31)
  | .cmdFrameReceive _ _ _ g | .rplFrameReceive _ _ g => g.wf
  | .streamFrameReceive _ _ g => decide (g.bytes.length ≤ 4096)
  | .alarmFrameReceive _ _ a => a.wf
  | .assignReceive _ a => a.wf
  | .qspiRead _ n | .readState n | .bulkRead n => decide (1 ≤ n)
  | .qspiWrite _ d => !d.isEmpty
  | .unknownOpcode o _ => o.wf
  | _ => true

end Sys2Proof
end

