-- ==== Sys2Proof/Safety.lean ====
section
/-! DEFINITION. What the claims speak of: the invariant of every step, and the conditions under which a row has its
effect. -/
namespace Sys2Proof

open Sys2Proof.Machine

/-! ### The invariant -/

/-- The memories are canonical (grid RAM, reservoir, engine RAM) and every waiting command is one the senders can form. -/
def Inv (s : State) : Bool :=
  Memory.wf s.gram && Memory.wf s.res.mem && Memory.wf s.eng.ram && s.pending.all Instr.wf

/-! ### The engine -/

/-- A state once what falls due in this engine cycle is delivered (R409). -/
def due (s : State) : State := modEng deliverDue s

/-- The engine executes an instruction of `n` words now: it runs, the words may be fetched, and neither a skip nor a REP
prefix waits for it (R394, R402, R407). -/
def EngReady (n : Nat) (s : State) : Prop :=
  engineRuns s = true ∧ fetchOk (due s).eng n = true ∧ s.eng.skipNext = false ∧ s.eng.repFirst = false

/-- A REP prefix has just been decoded and governs the instruction at the PC, of `n` words (R407). -/
def EngGoverned (n : Nat) (s : State) : Prop :=
  engineRuns s = true ∧ fetchOk (due s).eng n = true ∧ s.eng.skipNext = false ∧ s.eng.repFirst = true

/-- A skip decides the instruction at the PC, of `n` words (R402). -/
def EngSkips (n : Nat) (s : State) : Prop :=
  engineRuns s = true ∧ fetchOk (due s).eng n = true ∧ s.eng.skipNext = true

/-- The rows that are instructions of the engine, with the words each has (Table 13-5). -/
inductive EngineRow : Instr → Nat → Prop where
  | add a b : EngineRow (.add a b) 1
  | adc a b : EngineRow (.adc a b) 1
  | sub a b : EngineRow (.sub a b) 1
  | sbc a b : EngineRow (.sbc a b) 1
  | and a b : EngineRow (.and a b) 1
  | or a b : EngineRow (.or a b) 1
  | xor a b : EngineRow (.xor a b) 1
  | mov a b : EngineRow (.mov a b) 1
  | cmp a b : EngineRow (.cmp a b) 1
  | tst a b : EngineRow (.tst a b) 1
  | mulu a b : EngineRow (.mulu a b) 1
  | muls a b : EngineRow (.muls a b) 1
  | divu a b : EngineRow (.divu a b) 1
  | divs a b : EngineRow (.divs a b) 1
  | shl a b : EngineRow (.shl a b) 1
  | shr a b : EngineRow (.shr a b) 1
  | sar a b : EngineRow (.sar a b) 1
  | rol a b : EngineRow (.rol a b) 1
  | ror a b : EngineRow (.ror a b) 1
  | shlr a b : EngineRow (.shlr a b) 1
  | shrr a b : EngineRow (.shrr a b) 1
  | sarr a b : EngineRow (.sarr a b) 1
  | neg a : EngineRow (.neg a) 1
  | not a : EngineRow (.not a) 1
  | inc a : EngineRow (.inc a) 1
  | dec a : EngineRow (.dec a) 1
  | swapn a : EngineRow (.swapn a) 1
  | clr a : EngineRow (.clr a) 1
  | movi a b : EngineRow (.movi a b) 1
  | addi a b : EngineRow (.addi a b) 1
  | cmpi a b : EngineRow (.cmpi a b) 1
  | andi a b : EngineRow (.andi a b) 1
  | ld a b c d : EngineRow (.ld a b c d) 1
  | st a b c d : EngineRow (.st a b c d) 1
  | bra a : EngineRow (.bra a) 1
  | call a : EngineRow (.call a) 1
  | skip a : EngineRow (.skip a) 1
  | skbc a b : EngineRow (.skbc a b) 1
  | skbs a b : EngineRow (.skbs a b) 1
  | bclr a b : EngineRow (.bclr a b) 1
  | bset a b : EngineRow (.bset a b) 1
  | customerOpcode a b : EngineRow (.customerOpcode a b) 1
  | sysNop : EngineRow .sysNop 1
  | ret : EngineRow .ret 1
  | reti : EngineRow .reti 1
  | ei : EngineRow .ei 1
  | di : EngineRow .di 1
  | wait : EngineRow .wait 1
  | jmpi a : EngineRow (.jmpi a) 1
  | calli a : EngineRow (.calli a) 1
  | mfs a b : EngineRow (.mfs a b) 1
  | mts a b : EngineRow (.mts a b) 1
  | push a : EngineRow (.push a) 1
  | pop a : EngineRow (.pop a) 1
  | padd a b : EngineRow (.padd a b) 1
  | pushp a : EngineRow (.pushp a) 1
  | popp a : EngineRow (.popp a) 1
  | movp a b : EngineRow (.movp a b) 1
  | pcmp a b : EngineRow (.pcmp a b) 1
  | repImm a : EngineRow (.repImm a) 1
  | repReg a : EngineRow (.repReg a) 1
  | lbreak : EngineRow .lbreak 1
  | jmp a : EngineRow (.jmp a) 2
  | callAbs a : EngineRow (.callAbs a) 2
  | ldp a b : EngineRow (.ldp a b) 2
  | loopImm a b : EngineRow (.loopImm a b) 2
  | loopReg a b : EngineRow (.loopReg a b) 2

/-- A REP. -/
def isRepRow : Instr → Bool
  | .repImm _ | .repReg _ => true
  | _ => false

/-- The instructions a REP must not precede (R407); a customer opcode is one of them where its decode entry says so. -/
def barsRep (s : State) : Instr → Bool
  | .bra _ | .call _ | .jmp _ | .callAbs _ | .jmpi _ | .calli _ | .ret | .reti | .wait | .skip _ | .skbc _ _ | .skbs _ _
  | .repImm _ | .repReg _ | .loopImm _ _ | .loopReg _ _ | .lbreak => true
  | .customerOpcode k _ => !(s.eng.decode[k] : DecodeEntry).repOk
  | _ => false

/-- An instruction of `n` words that changes only the engine's registers, in `cost` cycles, on a state whose due results
have been delivered; inside a repetition it is one iteration. -/
def retire (n cost : Nat) (f : EngSt → EngSt) (u : State) : State := finish n u.eng.frp { st := modEng f u, cost := cost }

/-- Outside the engine nothing changes, nor does the engine's RAM. -/
def EngOnly (s t : State) : Prop := t = { s with eng := t.eng } ∧ t.eng.ram = s.eng.ram

/-! ### Commands -/

/-- The rows that carry a command packet, with the opcode of each (Table 2-6). -/
inductive CommandRow : Instr → Nat → Packet → Prop where
  | nop p : CommandRow (.nop p) 0x00 p
  | identify p : CommandRow (.identify p) 0x01 p
  | getStatus p : CommandRow (.getStatus p) 0x02 p
  | sessionOpen p : CommandRow (.sessionOpen p) 0x03 p
  | sessionAuth p : CommandRow (.sessionAuth p) 0x04 p
  | sessionClose p : CommandRow (.sessionClose p) 0x05 p
  | setPowerState p : CommandRow (.setPowerState p) 0x08 p
  | reset p : CommandRow (.reset p) 0x09 p
  | readReg p : CommandRow (.readReg p) 0x0A p
  | writeReg p : CommandRow (.writeReg p) 0x0B p
  | saveConfig p : CommandRow (.saveConfig p) 0x0C p
  | loadConfig p : CommandRow (.loadConfig p) 0x0D p
  | gridConfig p : CommandRow (.gridConfig p) 0x10 p
  | regionDefine p : CommandRow (.regionDefine p) 0x11 p
  | drivePlan p : CommandRow (.drivePlan p) 0x12 p
  | gridStart p : CommandRow (.gridStart p) 0x13 p
  | gridStop p : CommandRow (.gridStop p) 0x14 p
  | captureReference p : CommandRow (.captureReference p) 0x15 p
  | readFrame p : CommandRow (.readFrame p) 0x16 p
  | selfcapConfig p : CommandRow (.selfcapConfig p) 0x17 p
  | touchConfig p : CommandRow (.touchConfig p) 0x20 p
  | controlDefine p : CommandRow (.controlDefine p) 0x21 p
  | gestureConfig p : CommandRow (.gestureConfig p) 0x22 p
  | baselineReset p : CommandRow (.baselineReset p) 0x23 p
  | contactPolicy p : CommandRow (.contactPolicy p) 0x24 p
  | readContacts p : CommandRow (.readContacts p) 0x25 p
  | carrierTable p : CommandRow (.carrierTable p) 0x30 p
  | hopPolicy p : CommandRow (.hopPolicy p) 0x31 p
  | noiseSurvey p : CommandRow (.noiseSurvey p) 0x32 p
  | emberConfig p : CommandRow (.emberConfig p) 0x33 p
  | bridgeConfig p : CommandRow (.bridgeConfig p) 0x40 p
  | exciteSet p : CommandRow (.exciteSet p) 0x41 p
  | cmwinSet p : CommandRow (.cmwinSet p) 0x42 p
  | checkDac p : CommandRow (.checkDac p) 0x43 p
  | laneReinstate p : CommandRow (.laneReinstate p) 0x44 p
  | trimApply p : CommandRow (.trimApply p) 0x45 p
  | trimRead p : CommandRow (.trimRead p) 0x46 p
  | convConfig p : CommandRow (.convConfig p) 0x50 p
  | filterSelect p : CommandRow (.filterSelect p) 0x51 p
  | convStart p : CommandRow (.convStart p) 0x52 p
  | convStop p : CommandRow (.convStop p) 0x53 p
  | decimSync p : CommandRow (.decimSync p) 0x54 p
  | threshSet p : CommandRow (.threshSet p) 0x55 p
  | onsetConfig p : CommandRow (.onsetConfig p) 0x56 p
  | timeSet p : CommandRow (.timeSet p) 0x60 p
  | timeGet p : CommandRow (.timeGet p) 0x61 p
  | servoConfig p : CommandRow (.servoConfig p) 0x62 p
  | triggerSet p : CommandRow (.triggerSet p) 0x63 p
  | captureConfig p : CommandRow (.captureConfig p) 0x64 p
  | beaconConfig p : CommandRow (.beaconConfig p) 0x65 p
  | epochSet p : CommandRow (.epochSet p) 0x66 p
  | fabricJoin p : CommandRow (.fabricJoin p) 0x70 p
  | fabricStatus p : CommandRow (.fabricStatus p) 0x71 p
  | routeRead p : CommandRow (.routeRead p) 0x72 p
  | modePrepare p : CommandRow (.modePrepare p) 0x73 p
  | modeCommit p : CommandRow (.modeCommit p) 0x74 p
  | portConfig p : CommandRow (.portConfig p) 0x75 p
  | lamplighterPriority p : CommandRow (.lamplighterPriority p) 0x76 p
  | streamDefine p : CommandRow (.streamDefine p) 0x80 p
  | streamAdmit p : CommandRow (.streamAdmit p) 0x81 p
  | streamStart p : CommandRow (.streamStart p) 0x82 p
  | streamStop p : CommandRow (.streamStop p) 0x83 p
  | streamRead p : CommandRow (.streamRead p) 0x84 p
  | drainDeclare p : CommandRow (.drainDeclare p) 0x85 p
  | faultRead p : CommandRow (.faultRead p) 0x90 p
  | faultAck p : CommandRow (.faultAck p) 0x91 p
  | severitySet p : CommandRow (.severitySet p) 0x92 p
  | thermalConfig p : CommandRow (.thermalConfig p) 0x93 p
  | healthRead p : CommandRow (.healthRead p) 0x94 p
  | keySet p : CommandRow (.keySet p) 0xA0 p
  | journalRead p : CommandRow (.journalRead p) 0xA1 p
  | journalPolicy p : CommandRow (.journalPolicy p) 0xA2 p
  | imageBegin p : CommandRow (.imageBegin p) 0xA8 p
  | imageData p : CommandRow (.imageData p) 0xA9 p
  | imageEnd p : CommandRow (.imageEnd p) 0xAA p
  | imageActivate p : CommandRow (.imageActivate p) 0xAB p
  | decodeLoad p : CommandRow (.decodeLoad p) 0xAC p

/-- A packet passes steps 1 to 8 of Table 2-5 on the device that executes it (R51, R52, R62, R65): `u` is the state before
steps 9 to 11, and `b` says that this is the entry device's own part of a broadcast. -/
def Admitted (op : Nat) (p : Packet) (s : State) (b : Bool) (u : State) : Prop :=
  ∃ info, opInfo op = some info ∧ canTake p.origin s = true ∧ p.flags = 0 ∧ admitCheck info p u = none ∧
    match p.origin with
    | .remote _ _ => b = false ∧ u = takePacket p.origin s ∧ (p.dest = 0xFF → info.bcast = true)
    | .loc i =>
      let t := takePacket p.origin s
      (p.dest ≠ 0xFF ∧ destHere t p.dest = true ∧ b = false ∧ u = t)
      ∨ (p.dest = 0xFF ∧ info.bcast = true ∧ b = true
        ∧ u = sendBroadcast i op p (queueReply i ⟨replyBytes (ownAddr t) 0x01 p.tag false false false [], .normal⟩ t))

/-- The state after a command's steps 9 to 11 came to a result: its journal entry and its reply, or its place among the
outstanding commands (R56, R61, R140). -/
def concluded (op : Nat) (p : Packet) (b : Bool) (u : State) (r : CmdResult) : State :=
  match opInfo op with
  | none => u
  | some info => conclude info p b (slotOf u p.origin) (roleOf u p.origin) r

end Sys2Proof
end

