-- ==== Sys2Proof/Certificates/Slice0/Obligations.lean ====
section
/-! DEFINITION. The statements for the provers: what each command and each event of the block does, the rules of the
engine, and what holds of every step. -/

open Sys2Proof Sys2Proof.Machine

/-- For every command c and state s: step of s with c at the front of its queue is exec of c on s with the queue's
rest. With an empty queue, step answers the state itself while the counter is stopped; while it runs, the count of ns
and its 32-bit fraction together advance by TIME_INCR (modulo 2^96) and nothing else changes (that the empty queue is
one tick is the model's choice, log entry 10; what a tick does is R311). The table gives no row bits, so no table word
spells a command and withFetchWord leaves every state as it is. -/
def Obligations.StepFront : Prop :=
  (∀ (c : Instr) (rest : List Instr) (s : State), s.pending = c :: rest → step s = exec c { s with pending := rest })
  ∧ (∀ s : State, s.pending = [] → s.time.state = .stopped → step s = .next s)
  ∧ (∀ s : State, s.pending = [] → s.time.state ≠ .stopped → s.time.frac < 2 ^ 32 → ∃ ns frac, frac < 2 ^ 32
      ∧ ns * 2 ^ 32 + frac = (s.time.ns * 2 ^ 32 + s.time.frac + s.time.incr) % 2 ^ 96
      ∧ step s = .next { s with time := { s.time with ns := ns, frac := frac } })
  ∧ (∀ (nbits w : Nat), decodeTableWord nbits w = none) ∧ (∀ (s : State) (nbits w : Nat), s.withFetchWord nbits w = s)

/-- For every state s, step answers a next state (no command, event or tick ends in a fault or a refusal), and its
queue is the queue of s without its front command: no command puts one in or takes another out. -/
def Obligations.StepTotal : Prop :=
  ∀ s : State, ∃ t, step s = .next t ∧ t.pending = s.pending.tail

/-- Inv holds of State.reset: its memories are canonical and its queue is empty. -/
def Obligations.ResetInv : Prop :=
  Inv State.reset = true

/-- For every state s with Inv s: if step s answers next t, then Inv t: the grid state RAM, the reservoir and the
program RAM keep their one canonical form, and every waiting command stays one its sender can form. -/
def Obligations.InvStep : Prop :=
  ∀ s t : State, Inv s = true → step s = .next t → Inv t = true

/-- For every command or event i and states s and t with exec i s = next t, every session slot k has in t the role it
has in s, or no role, unless i is a SESSION_AUTH packet; then a slot that gains a role is the one the packet's origin
holds in s. -/
def Obligations.SessionRoles : Prop :=
  ∀ (i : Instr) (s t : State) (k : Fin 6), exec i s = .next t →
    t.sec.sessions[k].role = s.sec.sessions[k].role ∨ t.sec.sessions[k].role = 0
    ∨ ∃ p, i = .sessionAuth p ∧ slotOf s p.origin = some k

/-- State.reset: the power state is DORMANT, time is STOPPED and not acquired, no schedule, no session, no lamplighter
known, the device not joined; queues, journal, ring, records, alarms, faults and snuffs empty; the engine's registers
hold the reset values of Table 13-1; every register word reads its reset word. The pin and supply levels, the empty
queue and the free-value counter are the model's choice (log entries 11, 12). -/
def Obligations.ResetValues : Prop :=
  State.reset.sys.power = .dormant ∧ State.reset.time.state = .stopped ∧ State.reset.time.acq = false
  ∧ State.reset.time.sched = none ∧ State.reset.time.ns = 0 ∧ State.reset.link.ll = none ∧ State.reset.link.joined = false
  ∧ State.reset.link.addr = none ∧ (∀ k : Fin 6, roleOf State.reset (.loc .twi) = 0 ∧ State.reset.sec.sessions[k].role = 0)
  ∧ State.reset.hif.twi.replies = [] ∧ State.reset.hif.quad.replies = [] ∧ State.reset.nvm.journal = []
  ∧ State.reset.grid.ring = [] ∧ State.reset.res.alarms = [] ∧ (∀ k : Fin 16, State.reset.res.streams[k].recs = [])
  ∧ (∀ b : Fin 14, fltStat State.reset b.val = 0) ∧ State.reset.snuff.lines = 0
  ∧ (∀ a : Nat, shw State.reset a = regReset a ∧ acw State.reset a = regReset a)
  ∧ (∀ a : Nat, memByte State.reset.gram a = memDefault ∧ memByte State.reset.res.mem a = memDefault
      ∧ memByte State.reset.eng.ram a = memDefault)
  ∧ (∀ d : Fin 16, State.reset.eng.w[d] = 0) ∧ State.reset.eng.fz = false ∧ State.reset.eng.fc = false
  ∧ State.reset.eng.fn = false ∧ State.reset.eng.fv = false ∧ State.reset.eng.fie = false ∧ State.reset.eng.pc = 0 ∧ State.reset.eng.sp = 0x8000
  ∧ State.reset.pending = [] ∧ State.reset.freeCtr = 0

/-- Two canonical memories in which every address reads the same are equal. After a write of bytes at an address (of a
memory), the bytes written read back and every other address reads as before, and the memory stays canonical. A write
of bytes wholly inside the reservoir, the grid RAM or the program RAM window is what a read of the same window returns
(for the grid RAM, outside the part whose contents are undefined to readers), and it changes nothing but that memory.
-/
def Obligations.MemoryCanonical : Prop :=
  (∀ m n : Memory, Memory.wf m = true → Memory.wf n = true → (∀ a, memByte m a = memByte n a) → m = n)
  ∧ (∀ (m : Memory) (a : Nat) (bs : List Byte), Memory.wf m = true → Memory.wf (memWrite a bs m) = true
      ∧ memRead (memWrite a bs m) a bs.length = bs
      ∧ ∀ b, (b < a ∨ a + bs.length ≤ b) → memByte (memWrite a bs m) b = memByte m b)
  ∧ (∀ (s : State) (a : Nat) (bs : List Byte), bs ≠ [] → Memory.wf s.res.mem = true → a + bs.length ≤ 0x00200000 →
      (devRead a bs.length (memWriteDev a bs s)).1 = bs
      ∧ memWriteDev a bs s = { s with res := { s.res with mem := memWrite a bs s.res.mem } })
  ∧ (∀ (s : State) (o : Nat) (bs : List Byte), bs ≠ [] → Memory.wf s.gram = true →
      (o + bs.length ≤ 0x55000 ∨ (0x6C000 ≤ o ∧ o + bs.length ≤ 0x80000)) →
      (devRead (0x00400000 + o) bs.length (memWriteDev (0x00400000 + o) bs s)).1 = bs
      ∧ memWriteDev (0x00400000 + o) bs s = { s with gram := memWrite o bs s.gram })
  ∧ (∀ (s : State) (o : Nat) (bs : List Byte), bs ≠ [] → Memory.wf s.eng.ram = true → o + bs.length ≤ 0x8000 →
      (devRead (0x00800000 + o) bs.length (memWriteDev (0x00800000 + o) bs s)).1 = bs
      ∧ memWriteDev (0x00800000 + o) bs s = { s with eng := { s.eng with ram := memWrite o bs s.eng.ram } })

/-- For every pair of bytes, carry in and count from 0 to 15: ADD and ADC give the sum mod 256 with C the carry out
and V the signed overflow; SUB, SBC and CMP give d - s with C the borrow and V the signed overflow; NEG, INC, DEC,
SWAPN, the shifts and the rotates give the value and the C and V of Tables 13-6 and 13-9; Z and N follow the result;
flags a row does not name are none in its output. -/
def Obligations.AluArithmetic : Prop :=
  (∀ (a b : Byte) (c : Bool),
      (aluAdd a b c).val.toNat = (a.toNat + b.toNat + c.toNat) % 256
    ∧ (aluAdd a b c).c = some (decide (256 ≤ a.toNat + b.toNat + c.toNat))
    ∧ (aluAdd a b c).v = some (decide (((aluAdd a b c).val).toInt ≠ a.toInt + b.toInt + c.toInt))
    ∧ (aluAdd a b c).z = some (decide ((a.toNat + b.toNat + c.toNat) % 256 = 0))
    ∧ (aluAdd a b c).n = some (decide (128 ≤ (a.toNat + b.toNat + c.toNat) % 256)))
  ∧ (∀ (a b : Byte) (c : Bool),
      (aluSub a b c).val.toNat = (a.toNat + 512 - b.toNat - c.toNat) % 256
    ∧ (aluSub a b c).c = some (decide (a.toNat < b.toNat + c.toNat))
    ∧ (aluSub a b c).v = some (decide (((aluSub a b c).val).toInt ≠ a.toInt - b.toInt - c.toInt))
    ∧ (aluSub a b c).z = some (decide ((aluSub a b c).val = 0)) ∧ (aluSub a b c).n = some ((aluSub a b c).val.msb))
  ∧ (∀ a : Byte,
      (aluNeg a).val.toNat = (256 - a.toNat) % 256 ∧ (aluNeg a).c = some (decide (a ≠ 0)) ∧ (aluNeg a).v = some (decide (a = 0x80))
    ∧ (aluInc a).val.toNat = (a.toNat + 1) % 256 ∧ (aluInc a).c = none ∧ (aluInc a).v = some (decide (a = 0x7F))
    ∧ (aluDec a).val.toNat = (a.toNat + 255) % 256 ∧ (aluDec a).c = none ∧ (aluDec a).v = some (decide (a = 0x80))
    ∧ (aluSwap a).val.toNat = a.toNat / 16 + 16 * (a.toNat % 16) ∧ (aluSwap a).c = none ∧ (aluSwap a).v = none)
  ∧ (∀ (a : Byte) (k : Nat), k ≤ 15 →
      (aluShl a k).val.toNat = a.toNat * 2 ^ k % 256 ∧ (aluShl a k).v = none
    ∧ (aluShl a k).c = (if k = 0 then none else some (decide (a.toNat * 2 ^ k / 256 % 2 = 1)))
    ∧ (aluShr a k).val.toNat = a.toNat / 2 ^ k ∧ (aluShr a k).v = none
    ∧ (aluShr a k).c = (if k = 0 then none else some (decide (a.toNat / 2 ^ (k - 1) % 2 = 1)))
    ∧ (aluSar a k).val.toInt = a.toInt / 2 ^ k ∧ (aluSar a k).v = none
    ∧ (aluSar a k).c = (if k = 0 then none else some (decide (a.toInt / 2 ^ (k - 1) % 2 = 1)))
    ∧ (aluRol a k).val.toNat = a.toNat * 2 ^ (k % 8) % 256 + a.toNat / 2 ^ (8 - k % 8) ∧ (aluRol a k).v = none
    ∧ (aluRol a k).c = (if k % 8 = 0 then none else some (decide (a.toNat / 2 ^ (8 - k % 8) % 2 = 1)))
    ∧ (aluRor a k).val.toNat = a.toNat / 2 ^ (k % 8) + a.toNat * 2 ^ (8 - k % 8) % 256 ∧ (aluRor a k).v = none
    ∧ (aluRor a k).c = (if k % 8 = 0 then none else some (decide (a.toNat / 2 ^ (k % 8 - 1) % 2 = 1))))
  ∧ (∀ (o : AluOut) (e : EngSt), setFlags o e = { e with
      fz := o.z.getD e.fz, fc := o.c.getD e.fc, fn := o.n.getD e.fn, fv := o.v.getD e.fv })

/-- Every row of Table 13-9 holds of the operations; SHLR, SHRR and SARR use the low four bits of Ws; a shift by 0 and
a rotate by a multiple of 8 leave the value and C; another rotate has C the last bit rotated round. (R410) -/
def Obligations.ArithmeticEdges : Prop :=
  (aluNeg 0x80 = { val := 0x80, z := some false, c := some true, n := some true, v := some true })
  ∧ ((aluNeg 0x00).val = 0x00 ∧ (aluNeg 0x00).z = some true ∧ (aluNeg 0x00).c = some false ∧ (aluNeg 0x00).v = some false)
  ∧ ((aluInc 0x7F).val = 0x80 ∧ (aluInc 0x7F).v = some true ∧ (aluInc 0x7F).n = some true ∧ (aluInc 0x7F).c = none)
  ∧ ((aluDec 0x80).val = 0x7F ∧ (aluDec 0x80).v = some true ∧ (aluDec 0x80).c = none)
  ∧ ((aluAdd 0x7F 0x01 false).val = 0x80 ∧ (aluAdd 0x7F 0x01 false).v = some true ∧ (aluAdd 0x7F 0x01 false).c = some false)
  ∧ ((aluSub 0x00 0x01 false).val = 0xFF ∧ (aluSub 0x00 0x01 false).c = some true ∧ (aluSub 0x00 0x01 false).v = some false)
  ∧ mulSigned 0x80 0x80 = 0x4000 ∧ mulUnsigned 0xFF 0xFF = 0xFE01
  ∧ divSigned (BitVec.ofInt 16 (-32768)) (BitVec.ofInt 8 (-1)) = ⟨0x7F, 0x00, true, false⟩
  ∧ ((divSigned (BitVec.ofInt 16 (-32768)) 1).quo = 0x80 ∧ (divSigned (BitVec.ofInt 16 (-32768)) 1).rem = 0x00
      ∧ (divSigned (BitVec.ofInt 16 (-32768)) 1).v = true)
  ∧ ((divSigned (BitVec.ofInt 16 (-7)) 2).quo = 0xFD ∧ (divSigned (BitVec.ofInt 16 (-7)) 2).rem = 0xFF
      ∧ (divSigned (BitVec.ofInt 16 (-7)) 2).v = false)
  ∧ ((divUnsigned 0x1234 0x10).quo = 0xFF ∧ (divUnsigned 0x1234 0x10).rem = 0x00 ∧ (divUnsigned 0x1234 0x10).v = true)
  ∧ divUnsigned 0x1234 0 = ⟨0xFF, 0x34, false, true⟩
  ∧ ((divSigned 5 0).quo = 0x7F ∧ (divSigned 5 0).rem = 0x05 ∧ (divSigned 5 0).dz = true)
  ∧ ((divSigned 0x8001 0).quo = 0x80 ∧ (divSigned 0x8001 0).rem = 0x01 ∧ (divSigned 0x8001 0).dz = true)
  ∧ (∀ (a : Byte) (k : Nat), 1 ≤ k → k ≤ 7 → (aluShl a k).val = a <<< k ∧ (aluShl a k).c = some (a.getLsbD (8 - k))
      ∧ (aluShr a k).val = a >>> k ∧ (aluShr a k).c = some (a.getLsbD (k - 1)))
  ∧ (∀ a : Byte, (aluShl a 8).val = 0 ∧ (aluShl a 8).c = some (a.getLsbD 0) ∧ (aluShr a 8).val = 0 ∧ (aluShr a 8).c = some (a.getLsbD 7))
  ∧ (∀ (a : Byte) (k : Nat), 9 ≤ k → k ≤ 15 → (aluShl a k).val = 0 ∧ (aluShl a k).c = some false
      ∧ (aluShr a k).val = 0 ∧ (aluShr a k).c = some false)
  ∧ (∀ (a : Byte) (k : Nat), 8 ≤ k → k ≤ 15 → (aluSar a k).val = (if a.msb then 0xFF else 0x00) ∧ (aluSar a k).c = some a.msb)
  ∧ (∀ (a : Byte), (aluShl a 0).val = a ∧ (aluShl a 0).c = none ∧ (aluShr a 0).val = a ∧ (aluShr a 0).c = none
      ∧ (aluSar a 0).val = a ∧ (aluSar a 0).c = none)
  ∧ (∀ (a : Byte) (k : Nat), (aluRol a k).val = a.rotateLeft (k % 8) ∧ (aluRor a k).val = a.rotateRight (k % 8)
      ∧ (k % 8 = 0 → (aluRol a k).c = none ∧ (aluRor a k).c = none)
      ∧ (k % 8 ≠ 0 → (aluRol a k).c = some ((aluRol a k).val.getLsbD 0) ∧ (aluRor a k).c = some ((aluRor a k).val.getLsbD 7)))
  ∧ (∀ (d r : Fin 16) (s : State), EngReady 1 s →
      let u := due s
      let k := (wGet u.eng r).toNat % 16
      exec (.shlr d r) s = .next (retire 1 1 (fun e => setFlags (aluShl (wGet u.eng d) k) (wSet d (aluShl (wGet u.eng d) k).val e)) u)
      ∧ exec (.shrr d r) s = .next (retire 1 1 (fun e => setFlags (aluShr (wGet u.eng d) k) (wSet d (aluShr (wGet u.eng d) k).val e)) u)
      ∧ exec (.sarr d r) s = .next (retire 1 1 (fun e => setFlags (aluSar (wGet u.eng d) k) (wSet d (aluSar (wGet u.eng d) k).val e)) u))

/-- On an engine ready for one word, each of ADD, ADC, SUB, SBC, AND, OR, XOR, MOV, MOVI, ADDI, ANDI, NEG, NOT, INC,
DEC, SWAPN, CLR and the shifts by an immediate writes the operation's result to Wd and the flags the operation names;
CMP, TST and CMPI write the flags alone; BCLR and BSET clear and set the named bit of Wd; MOVP copies a pair, PADD
adds a signed byte to a pair, PCMP sets Z C N V of a 16-bit comparison; EI and DI write IE; NOP changes nothing; MFS
writes the special register read to Wd. Each takes one word and one cycle. LDP loads a pair in two words and two
cycles. -/
def Obligations.RegisterRows : Prop :=
  (∀ (d r k : Fin 16) (imm : Byte) (s : State), EngReady 1 s →
    let u := due s
    let a := wGet u.eng d
    let b := wGet u.eng r
    let w := fun (o : AluOut) => Host.Outcome.next (ρ := Refusal) (φ := Fault) (retire 1 1 (fun e => setFlags o (wSet d o.val e)) u)
    let t := fun (o : AluOut) => Host.Outcome.next (ρ := Refusal) (φ := Fault) (retire 1 1 (fun e => setFlags o e) u)
    exec (.add d r) s = w (aluAdd a b false) ∧ exec (.adc d r) s = w (aluAdd a b u.eng.fc)
    ∧ exec (.sub d r) s = w (aluSub a b false) ∧ exec (.sbc d r) s = w (aluSub a b u.eng.fc)
    ∧ exec (.and d r) s = w (outZN (a &&& b)) ∧ exec (.or d r) s = w (outZN (a ||| b)) ∧ exec (.xor d r) s = w (outZN (a ^^^ b))
    ∧ exec (.mov d r) s = w (outZN b) ∧ exec (.cmp d r) s = t (aluSub a b false) ∧ exec (.tst d r) s = t (outZN (a &&& b))
    ∧ exec (.movi d imm) s = w (outZN imm) ∧ exec (.addi d imm) s = w (aluAdd a imm false)
    ∧ exec (.cmpi d imm) s = t (aluSub a imm false) ∧ exec (.andi d imm) s = w (outZN (a &&& imm))
    ∧ exec (.neg d) s = w (aluNeg a) ∧ exec (.not d) s = w (outZN (~~~a)) ∧ exec (.inc d) s = w (aluInc a)
    ∧ exec (.dec d) s = w (aluDec a) ∧ exec (.swapn d) s = w (aluSwap a) ∧ exec (.clr d) s = w (outZN 0)
    ∧ exec (.shl d k) s = w (aluShl a k) ∧ exec (.shr d k) s = w (aluShr a k) ∧ exec (.sar d k) s = w (aluSar a k)
    ∧ exec (.rol d k) s = w (aluRol a k) ∧ exec (.ror d k) s = w (aluRor a k))
  ∧ (∀ (d k : Fin 16) (b : Fin 8) (p q : Fin 8) (imm : Byte) (s : State), EngReady 1 s →
    let u := due s
    exec (.bclr d b) s = .next (retire 1 1 (wSet d (wGet u.eng d &&& ~~~(1#8 <<< b.val))) u)
    ∧ exec (.bset d b) s = .next (retire 1 1 (wSet d (wGet u.eng d ||| (1#8 <<< b.val))) u)
    ∧ exec (.movp p q) s = .next (retire 1 1 (pSet p (pGet u.eng q)) u)
    ∧ exec (.padd p imm) s = .next (retire 1 1 (pSet p (pGet u.eng p + imm.signExtend 16)) u)
    ∧ exec (.pcmp p q) s = .next (retire 1 1 (fun e => { e with
        fz := decide (pGet u.eng p = pGet u.eng q), fc := decide ((pGet u.eng p).toNat < (pGet u.eng q).toNat)
        fn := (pGet u.eng p - pGet u.eng q).msb
        fv := decide ((pGet u.eng p).toInt - (pGet u.eng q).toInt < -32768 ∨ 32767 < (pGet u.eng p).toInt - (pGet u.eng q).toInt) }) u)
    ∧ exec .ei s = .next (retire 1 1 (fun e => { e with fie := true }) u)
    ∧ exec .di s = .next (retire 1 1 (fun e => { e with fie := false }) u)
    ∧ exec .sysNop s = .next (retire 1 1 id u)
    ∧ exec (.mfs d k) s = .next (retire 1 1 (fun e => wSet d (srRead k e).1 (srRead k e).2) u))
  ∧ (∀ (p : Fin 8) (imm : Half) (s : State), EngReady 2 s →
    exec (.ldp p imm) s = .next (retire 2 2 (pSet p imm) (due s)))

/-- A read of SPL, LCOUNTL, LSTARTL or LENDL latches the matching high byte and the next read of that high byte gives
the latched value; a write of SPL or LCOUNTL is held, and the following write of SPH or LCOUNTH writes both bytes; on
a ready engine outside a repetition MTS makes the write, and an MTS to a read-only or reserved register raises
ILLEGAL_OPCODE and changes no register but those of the instruction's passage; SR 15 reads 0x00. (R393) -/
def Obligations.SpecialRegisters : Prop :=
  (∀ e : EngSt,
    let l1 := (srRead 1 e).2
    let l3 := (srRead 3 e).2
    let l11 := (srRead 11 e).2
    let l13 := (srRead 13 e).2
    let hi := fun (h : Half) => (BitVec.ofNat 8 (h.toNat / 256) : Byte)
    let lo := fun (h : Half) => (BitVec.ofNat 8 h.toNat : Byte)
    (srRead 1 e).1 = lo e.sp ∧ (∀ sp : Half, (srRead 2 { l1 with sp := sp }).1 = hi e.sp)
    ∧ (srRead 3 e).1 = lo e.loop.lcount ∧ (∀ r : LoopRegs, (srRead 4 { l3 with loop := r }).1 = hi e.loop.lcount)
    ∧ (srRead 11 e).1 = lo e.loop.lstart ∧ (∀ r : LoopRegs, (srRead 12 { l11 with loop := r }).1 = hi e.loop.lstart)
    ∧ (srRead 13 e).1 = lo e.loop.lend ∧ (∀ r : LoopRegs, (srRead 14 { l13 with loop := r }).1 = hi e.loop.lend)
    ∧ (srRead 0 e).1 = flagsByte e ∧ (srRead 5 e).1 = e.repcnt ∧ (srRead 6 e).1 = lo e.mul ∧ (srRead 7 e).1 = hi e.mul
    ∧ (srRead 8 e).1 = e.quo ∧ (srRead 9 e).1 = e.rem ∧ (srRead 10 e).1 = BitVec.ofNat 8 e.ldepth ∧ (srRead 15 e).1 = 0x00)
  ∧ (∀ (a b : Byte) (e : EngSt),
    (∃ h, srWrite 1 a e = some h ∧ h.sp = e.sp ∧ (srWrite 2 b h).map (fun t => t.sp) = some (BitVec.ofNat 16 (a.toNat + 256 * b.toNat)))
    ∧ (∃ h, srWrite 3 a e = some h ∧ h.loop = e.loop
      ∧ (srWrite 4 b h).map (fun t => t.loop.lcount) = some (BitVec.ofNat 16 (a.toNat + 256 * b.toNat))))
  ∧ (∀ (r k : Fin 16) (s : State), EngReady 1 s →
    let u := due s
    let v := wGet u.eng r
    (∀ e, srWrite k v u.eng = some e → exec (.mts r k) s = .next (retire 1 1 (fun _ => e) u))
    ∧ ((6 ≤ k.val) → srWrite k v u.eng = none
      ∧ exec (.mts r k) s = .next (finish 1 u.eng.frp { st := u, faults := [Src.engIllegalOpcode] }))
    ∧ (k.val ≤ 5 → (srWrite k v u.eng).isSome)
    ∧ (∀ d : Fin 16, exec (.mfs d k) s = .next (retire 1 1 (fun e => wSet d (srRead k e).1 (srRead k e).2) u)))

/-- On a ready engine outside a hook each row that only computes in registers answers a next state that differs from
the state before in the engine alone, keeps its RAM, SP, REPCNT outside a repetition, IE (EI and DI apart), edge
lines, apertures, stack limit, decode table and hook record, keeps DZ, and keeps every register W other than the
destination (for MOVP, PADD and LDP: than the two of the destination pair); CMP, TST, CMPI, PCMP and NOP keep every W.
-/
def Obligations.RegisterFrame : Prop :=
  ∀ (d r k : Fin 16) (b p q : Fin 8) (imm : Byte) (h : Half) (s : State),
    s.eng.hook = none →
    let keeps := fun (i : Instr) (touched : Nat → Prop) =>
      ∃ t, exec i s = .next t ∧ EngOnly (due s) t ∧ t.eng.sp = s.eng.sp ∧ t.eng.edges = s.eng.edges ∧ t.eng.aps = s.eng.aps
        ∧ t.eng.stackLim = s.eng.stackLim ∧ t.eng.decode = s.eng.decode ∧ t.eng.hook = none ∧ t.eng.fdz = (due s).eng.fdz
        ∧ t.eng.fie = s.eng.fie ∧ t.eng.mul = (due s).eng.mul ∧ t.eng.quo = (due s).eng.quo ∧ t.eng.rem = (due s).eng.rem
        ∧ (s.eng.frp = false → t.eng.repcnt = s.eng.repcnt ∧ t.eng.frp = false)
        ∧ ∀ j, j < 16 → ¬touched j → wGet t.eng j = wGet s.eng j
    (EngReady 1 s →
      (∀ i ∈ [Instr.add d r, .adc d r, .sub d r, .sbc d r, .and d r, .or d r, .xor d r, .mov d r, .movi d imm, .addi d imm,
          .andi d imm, .neg d, .not d, .inc d, .dec d, .swapn d, .clr d, .shl d k, .shr d k, .sar d k, .rol d k, .ror d k,
          .shlr d r, .shrr d r, .sarr d r, .bclr d b, .bset d b], keeps i (fun j => j = d.val))
      ∧ (∀ i ∈ [Instr.cmp d r, .tst d r, .cmpi d imm, .pcmp p q, .sysNop, .mulu d r, .muls d r, .divu p r, .divs p r],
          keeps i (fun _ => False))
      ∧ (∀ i ∈ [Instr.movp p q, .padd p imm], keeps i (fun j => j = 2 * p.val ∨ j = 2 * p.val + 1)))
    ∧ (EngReady 2 s → keeps (.ldp p h) (fun j => j = 2 * p.val ∨ j = 2 * p.val + 1))

/-- On a ready engine MULU, MULS, DIVU and DIVS take one cycle and leave MUL, QUO, REM and the flags; with no result
on its way, outside a hook and a repetition, the product of the operands stands in MUL from the second cycle after,
and the quotient and remainder with V and DZ from the tenth, not before; a divide abandons one not delivered.
MUL_DELIVERY and DIV_DELIVERY deliver the oldest product and the divide on their way. -/
def Obligations.MultiplierDivider : Prop :=
  (∀ (d r : Fin 16) (p : Fin 8) (s : State), EngReady 1 s →
    let u := due s
    let a := wGet u.eng d
    let b := wGet u.eng r
    let x := pGet u.eng p
    exec (.mulu d r) s = .next (retire 1 1 (fun e => { e with mulDue := e.mulDue ++ [⟨2, mulUnsigned a b⟩] }) u)
    ∧ exec (.muls d r) s = .next (retire 1 1 (fun e => { e with mulDue := e.mulDue ++ [⟨2, mulSigned a b⟩] }) u)
    ∧ (let o := divUnsigned x b
       exec (.divu p r) s = .next (retire 1 1 (fun e => { e with divDue := some ⟨10, o.quo, o.rem, o.v, o.dz⟩ }) u))
    ∧ (let o := divSigned x b
       exec (.divs p r) s = .next (retire 1 1 (fun e => { e with divDue := some ⟨10, o.quo, o.rem, o.v, o.dz⟩ }) u))
    ∧ (s.eng.mulDue = [] → s.eng.hook = none → s.eng.frp = false →
      ∀ t, exec (.mulu d r) s = .next t →
        (due t).eng.mul = s.eng.mul ∧ (due (spend 1 t)).eng.mul.toNat = (wGet s.eng d).toNat * (wGet s.eng r).toNat)
    ∧ (s.eng.mulDue = [] → s.eng.hook = none → s.eng.frp = false →
      ∀ t, exec (.muls d r) s = .next t →
        (due t).eng.mul = s.eng.mul ∧ (due (spend 1 t)).eng.mul.toInt = (wGet s.eng d).toInt * (wGet s.eng r).toInt)
    ∧ (s.eng.hook = none → s.eng.frp = false →
      ∀ t, exec (.divu p r) s = .next t →
        (∀ n, n < 9 → (due (spend n t)).eng.quo = u.eng.quo ∧ (due (spend n t)).eng.rem = u.eng.rem
          ∧ (due (spend n t)).eng.fv = u.eng.fv ∧ (due (spend n t)).eng.fdz = u.eng.fdz)
        ∧ (let o := divUnsigned x b
           let v := due (spend 9 t)
           v.eng.quo = o.quo ∧ v.eng.rem = o.rem ∧ v.eng.fv = o.v ∧ v.eng.fdz = o.dz ∧ v.eng.divDue = none)))
  ∧ (∀ (a : Half) (b : Byte), b ≠ 0 →
      (a.toNat / b.toNat ≤ 255 → (divUnsigned a b).quo.toNat = a.toNat / b.toNat ∧ (divUnsigned a b).rem.toNat = a.toNat % b.toNat)
      ∧ (-128 ≤ a.toInt.tdiv b.toInt → a.toInt.tdiv b.toInt ≤ 127 →
          (divSigned a b).quo.toInt = a.toInt.tdiv b.toInt ∧ (divSigned a b).rem.toInt = a.toInt.tmod b.toInt
          ∧ (divSigned a b).v = false ∧ (divSigned a b).dz = false))
  ∧ (∀ (s : State) (m : MulDue) (l : List MulDue), unitsRun s = true → s.eng.mulDue = m :: l →
      exec .mulDelivery s = .next { s with eng := { s.eng with mul := m.product, mulDue := l } })
  ∧ (∀ (s : State) (x : DivDue), unitsRun s = true → s.eng.divDue = some x →
      exec .divDelivery s = .next { s with eng := { s.eng with quo := x.quo, rem := x.rem, fv := x.v, fdz := x.dz, divDue := none } })
  ∧ (∀ s : State, (unitsRun s = false ∨ s.eng.mulDue = []) → exec .mulDelivery s = .next s)
  ∧ (∀ s : State, (unitsRun s = false ∨ s.eng.divDue = none) → exec .divDelivery s = .next s)

/-- On a ready engine LD writes Wd with the byte read at Pp + disp and ST writes Ws there, then Pp steps by one where
INC is set; each takes one cycle and the access's stall and raises the access's faults. In the engine's RAM outside
the extension the byte read is the RAM byte with no stall and no fault, and a store outside a hook changes that one
byte, every other address reading as before, and neither another memory nor the shadow registers. -/
def Obligations.LoadStore : Prop :=
  (∀ (d r : Fin 16) (p : Fin 8) (inc : Bool) (disp : Fin 16) (s : State), EngReady 1 s →
    let u := due s
    let a := (pGet u.eng p + BitVec.ofNat 16 disp.val).toNat
    let step := fun (e : EngSt) => if inc then pSet p (pGet e p + 1) e else e
    (let x := dataRead a u
     exec (.ld d p inc disp) s = .next (finish 1 u.eng.frp
       { st := modEng (fun e => step (wSet d x.val e)) x.st, cost := 1 + x.stall, faults := x.faults }))
    ∧ (let x := dataWrite a (wGet u.eng r) u
       exec (.st r p inc disp) s = .next (finish 1 u.eng.frp
         { st := modEng step x.st, cost := 1 + x.stall, faults := x.faults }))
    ∧ (a < 0x8000 → inExt u.eng = false →
        exec (.ld d p inc disp) s = .next (retire 1 1 (fun e => step (wSet d (memByte s.eng.ram a) e)) u)
        ∧ (s.eng.hook = none → ∃ t, exec (.st r p inc disp) s = .next t
            ∧ memByte t.eng.ram a = wGet s.eng r ∧ (∀ c, c ≠ a → memByte t.eng.ram c = memByte s.eng.ram c)
            ∧ t.gram = s.gram ∧ t.res = s.res ∧ t.shadow = s.shadow ∧ t.active = s.active
            ∧ t.eng.sp = s.eng.sp ∧ (∀ j, j < 16 → (inc = false ∨ (j ≠ 2 * p.val ∧ j ≠ 2 * p.val + 1)) → wGet t.eng j = wGet s.eng j))))

/-- A read outside the extension of RAM gives its byte with no stall; of a reserved address 0x00 with UNMAPPED_ACCESS,
a write there changing nothing; a reservoir or engine RAM byte through an aperture is read at BASE x 0x1000 + offset
with 4 stall cycles and written with 2, a byte of the NVM window read with 12 and never written, UNMAPPED_ACCESS
raised; a register word is read whole into the aperture's latch with 4 and its other bytes come from the latch without
an access; byte writes gather in the buffer and byte 3 issues the word with 2. In the extension an address R418
withholds reads 0x00, is not written, and raises EXT_ACCESS. -/
def Obligations.DataSpace : Prop :=
  (∀ (a : Nat) (v : Byte) (s : State), inExt s.eng = false →
    (a < 0x8000 → dataRead a s = { val := memByte s.eng.ram a, st := s }
      ∧ dataWrite a v s = { st := { s with eng := { s.eng with ram := memWrite a [v] s.eng.ram } } })
    ∧ (0xC000 ≤ a → a < 0xFF00 → dataRead a s = { val := 0x00, faults := [Src.engUnmappedAccess], st := s }
      ∧ dataWrite a v s = { faults := [Src.engUnmappedAccess], st := s })
    ∧ (0x8000 ≤ a → a < 0xC000 →
      let n := (a - 0x8000) / 0x1000
      let d := (vget s.eng.aps n {}).base.toNat * 0x1000 + a % 0x1000
      (d < 0x00200000 → Memory.wf s.res.mem = true → (dataRead a s).val = memByte s.res.mem d ∧ (dataRead a s).stall = 4 ∧ (dataRead a s).st = s
        ∧ (dataRead a s).faults = []
        ∧ dataWrite a v s = { stall := 2, st := { s with res := { s.res with mem := memWrite d [v] s.res.mem } } })
      ∧ (0x00800000 ≤ d → d < 0x00808000 → Memory.wf s.eng.ram = true → (dataRead a s).val = memByte s.eng.ram (d - 0x00800000) ∧ (dataRead a s).stall = 4
        ∧ (dataRead a s).st = s
        ∧ dataWrite a v s = { stall := 2, st := { s with eng := { s.eng with ram := memWrite (d - 0x00800000) [v] s.eng.ram } } })
      ∧ (0x02000000 ≤ d → d < 0x02100000 → (dataRead a s).stall = 12 ∧ (dataRead a s).faults = [] ∧ (dataRead a s).st = s
        ∧ dataWrite a v s = { faults := [Src.engUnmappedAccess], stall := 2, st := s })
      ∧ (rangeOf d = none → dataRead a s = { val := 0x00, faults := [Src.engUnmappedAccess], stall := 4, st := s }
        ∧ dataWrite a v s = { faults := [Src.engUnmappedAccess], stall := 2, st := s })
      ∧ (0x01000000 ≤ d → d < 0x010E0000 →
        (∀ w, (vget s.eng.aps n {}).latch = some (d / 4 * 4, w) → d % 4 ≠ 0 →
          (dataRead a s).val.toNat = w.toNat / 256 ^ (d % 4) % 256 ∧ (dataRead a s).stall = 0 ∧ (dataRead a s).st = s)
        ∧ ((d % 4 = 0 ∨ ∀ w, (vget s.eng.aps n {}).latch ≠ some (d / 4 * 4, w)) →
          (dataRead a s).stall = 4 ∧ (dataRead a s).faults = []
          ∧ (dataRead a s).val.toNat = (readWord s (d / 4 * 4)).toNat / 256 ^ (d % 4) % 256
          ∧ (vget (dataRead a s).st.eng.aps n {}).latch = some (d / 4 * 4, readWord s (d / 4 * 4)))
        ∧ (d % 4 ≠ 3 → (dataWrite a v s).stall = 0 ∧ (dataWrite a v s).faults = []
          ∧ ∃ w, (vget (dataWrite a v s).st.eng.aps n {}).wbuf = some (d / 4 * 4, w)
            ∧ (dataWrite a v s).st = modAp n (fun x => { x with wbuf := some (d / 4 * 4, w) }) s
            ∧ w.toNat / 256 ^ (d % 4) % 256 = v.toNat
            ∧ (∀ o, (vget s.eng.aps n {}).wbuf = some (d / 4 * 4, o) →
                ∀ j, j < 4 → j ≠ d % 4 → w.toNat / 256 ^ j % 256 = o.toNat / 256 ^ j % 256)
            ∧ ((∀ o, (vget s.eng.aps n {}).wbuf ≠ some (d / 4 * 4, o)) → w.toNat = v.toNat * 256 ^ (d % 4)))
        ∧ (d % 4 = 3 → d / 4 * 4 ≠ Reg.secCfgLock → ∀ o : Word, (vget s.eng.aps n {}).wbuf = some (d / 4 * 4, o) →
            (dataWrite a v s).stall = 2 ∧ (dataWrite a v s).faults = []
            ∧ (dataWrite a v s).st = writeRow .firmware (d / 4 * 4) (BitVec.ofNat 32 (o.toNat % 2 ^ 24 + 2 ^ 24 * v.toNat))
                (modAp n (fun x => { x with wbuf := none }) s)))))
  ∧ (∀ (a : Nat) (v : Byte) (s : State), inExt s.eng = true →
    (extMayTouch s.eng a false = false → dataRead a s = { val := 0x00, faults := [Src.engExtAccess], st := s })
    ∧ (extMayTouch s.eng a true = false → dataWrite a v s = { faults := [Src.engExtAccess], st := s }))
  ∧ (∀ (a : Nat) (e : EngSt),
    (extMayTouch e a false = true ↔ (0x6000 ≤ a ∧ a < 0x7000) ∨ (a < 0x8000 ∧ e.stackLim.toNat ≤ a ∧ a < hookTop e)
      ∨ (0xB000 ≤ a ∧ a < 0xFF00) ∨ 0xFF0C ≤ a)
    ∧ (extMayTouch e a true = true ↔ extMayTouch e a false = true ∧ ¬(0xFF10 ≤ a ∧ a < 0xFF13)))

/-- On a ready engine with its stack in RAM outside the extension: PUSH lowers SP by one and writes Ws there, POP
reads Wd there and raises SP by one, PUSHP and POPP do so with two bytes, the low byte at the lower address, in two
cycles. A push below the stack limit or a pop above 0x8000 raises STACK_FAULT and changes no register, no SP and no
byte. (R399) -/
def Obligations.StackRows : Prop :=
  (∀ (r d : Fin 16) (p : Fin 8) (s : State), EngReady 1 s →
    let u := due s
    let e := u.eng
    (1 ≤ e.sp.toNat → e.sp.toNat ≤ 0x8000 → e.stackLim.toNat ≤ e.sp.toNat - 1 → inExt e = false →
        exec (.push r) s = .next (retire 1 1 (fun x =>
          { x with sp := e.sp - 1, ram := memWrite (e.sp.toNat - 1) [wGet e r] e.ram }) u))
    ∧ (2 ≤ e.sp.toNat → e.sp.toNat ≤ 0x8000 → e.stackLim.toNat ≤ e.sp.toNat - 2 → inExt e = false →
        ∃ m, exec (.pushp p) s = .next (retire 1 2 (fun x => { x with sp := e.sp - 2, ram := m }) u)
          ∧ memByte m (e.sp.toNat - 1) = wGet e (2 * p.val + 1) ∧ memByte m (e.sp.toNat - 2) = wGet e (2 * p.val)
          ∧ ∀ a, a ≠ e.sp.toNat - 1 → a ≠ e.sp.toNat - 2 → memByte m a = memByte e.ram a)
    ∧ (e.sp.toNat + 1 ≤ 0x8000 → inExt e = false →
        exec (.pop d) s = .next (retire 1 1 (fun x => wSet d (memByte e.ram e.sp.toNat) { x with sp := e.sp + 1 }) u))
    ∧ (e.sp.toNat + 2 ≤ 0x8000 → inExt e = false →
        exec (.popp p) s = .next (retire 1 2 (fun x => wSet (2 * p.val + 1) (memByte e.ram (e.sp.toNat + 1))
          (wSet (2 * p.val) (memByte e.ram e.sp.toNat) { x with sp := e.sp + 2 })) u))
    ∧ ((e.sp - 1).toNat < e.stackLim.toNat →
        exec (.push r) s = .next (finish 1 e.frp { st := u, faults := [Src.engStackFault] })
        ∧ exec (.pushp p) s = .next (finish 1 e.frp { st := u, cost := 2, faults := [Src.engStackFault] }))
    ∧ ((e.sp - 2).toNat < e.stackLim.toNat →
        exec (.pushp p) s = .next (finish 1 e.frp { st := u, cost := 2, faults := [Src.engStackFault] })
        ∧ (∀ rel, inExt e = false → exec (.call rel) s = .next (finish 1 e.frp { st := u, cost := 3, faults := [Src.engStackFault] }))
        ∧ (inExt e = false → exec (.calli p) s = .next (finish 1 e.frp { st := u, cost := 3, faults := [Src.engStackFault] })))
    ∧ (0x8000 < e.sp.toNat + 1 → exec (.pop d) s = .next (finish 1 e.frp { st := u, faults := [Src.engStackFault] }))
    ∧ (0x8000 < e.sp.toNat + 2 → exec (.popp p) s = .next (finish 1 e.frp { st := u, cost := 2, faults := [Src.engStackFault] })
        ∧ exec .ret s = .next (finish 1 e.frp { st := u, cost := 3, faults := [Src.engStackFault] }))
    ∧ (0x8000 < e.sp.toNat + 4 → exec .reti s = .next (finish 1 e.frp { st := u, cost := 5, faults := [Src.engStackFault] })))
  ∧ (∀ (t : Half) (s : State), EngReady 2 s → ((due s).eng.sp - 1).toNat < s.eng.stackLim.toNat ∨ ((due s).eng.sp - 2).toNat < s.eng.stackLim.toNat →
      inExt (due s).eng = false →
      exec (.callAbs t) s = .next (finish 2 s.eng.frp { st := due s, cost := 3, faults := [Src.engStackFault] }))
  ∧ (∀ (k : Nat) (s : State), ((due s).eng.sp - 4).toNat < s.eng.stackLim.toNat →
      enterLine k s = raiseEng [Src.engStackFault] (due s))

/-- On a ready engine outside the extension and a repetition: BRA, JMP and JMPI continue at their target in two
cycles; the target of a relative transfer is the next word's address plus the signed offset; CALL, CALLI and CALL abs
from outside a hook to no hook word push the address after the instruction, high byte first, and continue at the
target in three cycles; RET pops it. In the extension a transfer out of the region is not made and raises EXT_ACCESS.
-/
def Obligations.Transfers : Prop :=
  (∀ (rel : BitVec 12) (p : Fin 8) (t : Half) (s : State),
    let u := due s
    let e := u.eng
    let go := fun (cost : Nat) (x : Half) => { spend cost u with eng := { (spend cost u).eng with pc := x, wrap := false } }
    let near := e.pc + 1 + rel.signExtend 16
    let calls := fun (i : Instr) (n : Nat) (x : Half) => isHookWord x = false → e.hook = none → 2 ≤ e.sp.toNat → e.sp.toNat ≤ 0x8000 →
      e.stackLim.toNat ≤ e.sp.toNat - 2 →
      ∃ v, exec i s = .next v ∧ v = { spend 3 u with eng := { (spend 3 u).eng with pc := x, wrap := false, sp := e.sp - 2, ram := v.eng.ram } }
        ∧ memByte v.eng.ram (e.sp.toNat - 1) = BitVec.ofNat 8 ((e.pc.toNat + n) % 65536 / 256)
        ∧ memByte v.eng.ram (e.sp.toNat - 2) = BitVec.ofNat 8 (e.pc.toNat + n)
        ∧ ∀ a, a ≠ e.sp.toNat - 1 → a ≠ e.sp.toNat - 2 → memByte v.eng.ram a = memByte e.ram a
    inExt e = false → s.eng.frp = false →
    (EngReady 1 s →
      (s.eng.hook = none → exec (.bra rel) s = .next (go 2 near) ∧ exec (.jmpi p) s = .next (go 2 (pGet e p)))
      ∧ calls (.call rel) 1 near ∧ calls (.calli p) 1 (pGet e p)
      ∧ (s.eng.hook = none → e.sp.toNat + 2 ≤ 0x8000 → exec .ret s = .next { spend 3 u with eng := { (spend 3 u).eng with
          sp := e.sp + 2, wrap := false
          pc := BitVec.ofNat 16 ((memByte e.ram e.sp.toNat).toNat + 256 * (memByte e.ram (e.sp.toNat + 1)).toNat) } }))
    ∧ (EngReady 2 s → (s.eng.hook = none → exec (.jmp t) s = .next (go 2 t)) ∧ calls (.callAbs t) 2 t))
  ∧ (∀ (rel : BitVec 12) (p : Fin 8) (t : Half) (s : State),
    let u := due s
    let e := u.eng
    let barred := fun (n cost : Nat) => Host.Outcome.next (φ := Fault) (ρ := Refusal) (finish n e.frp { st := u, cost := cost, faults := [Src.engExtAccess] })
    let near := e.pc + 1 + rel.signExtend 16
    inExt e = true →
    (EngReady 1 s → (near.toNat < 0xC000 → exec (.bra rel) s = barred 1 2 ∧ exec (.call rel) s = barred 1 3)
      ∧ ((pGet e p).toNat < 0xC000 → exec (.jmpi p) s = barred 1 2 ∧ exec (.calli p) s = barred 1 3))
    ∧ (EngReady 2 s → t.toNat < 0xC000 → exec (.jmp t) s = barred 2 2 ∧ exec (.callAbs t) s = barred 2 3))

/-- On a ready engine SKIP tests the condition of Table 13-8 on FLAGS with what is delivered in the cycle, SKBC a bit
that is 0, SKBS a bit that is 1. Outside a hook and a repetition, every engine instruction that a skip decides changes
nothing but the PC, past its own words alone (the end test made), the skip, and one cycle; a skipped REP is skipped
with the instruction it governs for that one cycle. (R402) -/
def Obligations.Skips : Prop :=
  (∀ (k d : Fin 16) (b : Fin 8) (s : State), EngReady 1 s →
    let u := due s
    let skips := fun (c : Bool) => Host.Outcome.next (φ := Fault) (ρ := Refusal) (retire 1 1 (fun e => { e with skipNext := c }) u)
    let e := u.eng
    exec (.skip k) s = skips ([e.fz, !e.fz, e.fc, !e.fc, e.fn, !e.fn, e.fv, !e.fv, e.fdz, !e.fdz, !e.fc && !e.fz, e.fc || e.fz,
        e.fn ^^ e.fv, !(e.fn ^^ e.fv), !(e.fn ^^ e.fv) && !e.fz, (e.fn ^^ e.fv) || e.fz].getD k.val false)
    ∧ exec (.skbc d b) s = skips (!(wGet e d).getLsbD b.val) ∧ exec (.skbs d b) s = skips ((wGet e d).getLsbD b.val))
  ∧ (∀ (i : Instr) (n : Nat) (s : State), EngineRow i n → EngSkips n s → s.eng.hook = none →
    let u := due s
    (isRepRow i = false ∨ s.eng.repFirst = true →
      exec i s = .next { spend 1 u with eng := advance n { (spend 1 u).eng with skipNext := false, repFirst := false } })
    ∧ (isRepRow i = true → s.eng.repFirst = false →
      exec i s = .next { u with eng := advance n { u.eng with repFirst := true } }))

/-- On a ready engine outside a hook and a repetition LOOP with a count of 0 continues after the body; otherwise it
pushes the current loop registers when LDEPTH is at least 1, sets LSTART, LEND and LCOUNT and raises LDEPTH; a fifth
level raises LOOP_OVERFLOW, a length of 0 or a body out of its region raises ILLEGAL_OPCODE, and then the body is
skipped. Past LEND an LCOUNT above 1 counts down and LSTART follows; else the loop ends and the enclosing one is
restored, its end test following where it shares LEND. LBREAK ends the innermost loop at its LEND + 1 as that test
does; with LDEPTH 0 it raises ILLEGAL_OPCODE. (R403, R405) -/
def Obligations.Loops : Prop :=
  (∀ (n : Byte) (p : Fin 8) (len : Half) (s : State), EngReady 2 s → s.eng.hook = none → s.eng.frp = false →
    let u := due s
    let e := u.eng
    let v := spend 2 u
    let loops := fun (i : Instr) (c : Half) =>
      let first := e.pc.toNat + 2
      let last := first + len.toNat - 1
      let fits := len ≠ 0 ∧ last < (if e.pc.toNat < 0xC000 then 0xC000 else 0x10000)
      let past := fun (l : List Nat) => Host.Outcome.next (φ := Fault) (ρ := Refusal)
        (raiseEng l { v with eng := advance (2 + len.toNat) v.eng })
      (fits → c = 0 → exec i s = past [])
      ∧ (fits → c ≠ 0 → e.ldepth < 4 → exec i s = .next { v with eng := advance 2 { v.eng with
          loopStack := if 1 ≤ e.ldepth then e.loop :: e.loopStack else e.loopStack
          loop := { lstart := BitVec.ofNat 16 first, lend := BitVec.ofNat 16 last, lcount := c }, ldepth := e.ldepth + 1 } })
      ∧ (fits → c ≠ 0 → 4 ≤ e.ldepth → exec i s = past [Src.engLoopOverflow])
      ∧ (¬fits → (c = 0 ∨ e.ldepth < 4) → exec i s = past [Src.engIllegalOpcode])
      ∧ (¬fits → c ≠ 0 → 4 ≤ e.ldepth → exec i s = past [Src.engIllegalOpcode, Src.engLoopOverflow])
    loops (.loopImm n len) (n.setWidth 16) ∧ loops (.loopReg p len) (pGet e p))
  ∧ (∀ (n : Nat) (e : EngSt), 1 ≤ n →
    let next := e.pc.toNat + n
    ((e.ldepth = 0 ∨ e.loop.lend.toNat < e.pc.toNat ∨ next ≤ e.loop.lend.toNat) →
      advance n e = { e with pc := BitVec.ofNat 16 next, wrap := decide (0x10000 ≤ next) })
    ∧ (0 < e.ldepth → e.pc.toNat ≤ e.loop.lend.toNat → e.loop.lend.toNat < next →
      (1 < e.loop.lcount.toNat → advance n e =
        { e with pc := e.loop.lstart, wrap := false, loop := { e.loop with lcount := e.loop.lcount - 1 } })
      ∧ (e.loop.lcount.toNat ≤ 1 → advance n e = endLoop 4 next e)))
  ∧ (∀ (next : Nat) (e : EngSt), 0 < e.ldepth → e.ldepth ≤ 4 →
    let past := fun (x : EngSt) => { x with pc := BitVec.ofNat 16 next, wrap := decide (0x10000 ≤ next) }
    let outer := fun (l : LoopRegs) (t : List LoopRegs) => { e with loop := l, loopStack := t, ldepth := e.ldepth - 1 }
    (e.ldepth = 1 → e.loopStack = [] → endLoop 4 next e = past { e with ldepth := 0 })
    ∧ (∀ l t, 1 < e.ldepth → e.loopStack = l :: t →
      (l.lend ≠ e.loop.lend → endLoop 4 next e = past (outer l t))
      ∧ (l.lend = e.loop.lend → 1 < l.lcount.toNat → endLoop 4 next e =
          { outer { l with lcount := l.lcount - 1 } t with pc := l.lstart, wrap := false })
      ∧ (l.lend = e.loop.lend → l.lcount.toNat ≤ 1 → endLoop 4 next e = endLoop 4 next (outer l t))))
  ∧ (∀ s : State, EngReady 1 s → s.eng.hook = none → s.eng.frp = false →
    let v := spend 2 (due s)
    (s.eng.ldepth = 0 → exec .lbreak s = .next (finish 1 false { st := due s, faults := [Src.engIllegalOpcode] }))
    ∧ (1 ≤ s.eng.ldepth → exec .lbreak s = .next { v with eng := endLoop 4 (v.eng.loop.lend.toNat + 1) v.eng }))

/-- On a ready engine outside a hook and a repetition REP sets REPCNT and RP and governs the next instruction.
Governed, outside a hook: with a count of 0 every engine instruction that REP may precede is skipped in one more
cycle; each instruction R407 names raises ILLEGAL_REP, is not executed, and execution goes on after it; every other
runs as its meaning says. An iteration of a register row stays at its PC and counts REPCNT down, and the last one
clears RP and makes the end test once. A write of REPCNT by MTS during the repetition does nothing. (R407) -/
def Obligations.Repetition : Prop :=
  (∀ (n : Byte) (r : Fin 16) (s : State), EngReady 1 s → s.eng.hook = none → s.eng.frp = false →
    let v := spend 1 (due s)
    let set := fun (c : Byte) => Host.Outcome.next (φ := Fault) (ρ := Refusal)
      { v with eng := advance 1 { v.eng with repcnt := c, frp := c != 0, repFirst := true } }
    exec (.repImm n) s = set n ∧ exec (.repReg r) s = set (wGet (due s).eng r))
  ∧ (∀ (i : Instr) (n : Nat) (s : State), EngineRow i n → EngGoverned n s → s.eng.hook = none →
    let u := due s
    let v := spend 1 u
    (barsRep s i = true →
      exec i s = .next (raiseEng [Src.engIllegalRep] { v with eng := advance n { v.eng with repFirst := false, frp := false, repcnt := 0 } }))
    ∧ (barsRep s i = false → s.eng.repcnt = 0 →
      exec i s = .next { v with eng := advance n { v.eng with repFirst := false } }))
  ∧ (∀ (f : EngSt → EngSt) (u : State), (∀ e, (f e).repcnt = e.repcnt ∧ (f e).hook = e.hook) → u.eng.hook = none → u.eng.frp = true →
    let v := spend 1 (modEng f u)
    (1 < u.eng.repcnt.toNat → retire 1 1 f u = { v with eng := { v.eng with repcnt := u.eng.repcnt - 1 } })
    ∧ (u.eng.repcnt.toNat ≤ 1 → retire 1 1 f u = { v with eng := advance 1 { v.eng with repcnt := 0, frp := false } }))
  ∧ (∀ (i : Instr) (n : Nat) (s : State), EngineRow i n → EngGoverned n s → barsRep s i = false → s.eng.repcnt ≠ 0 →
    s.eng.frp = true → exec i s = exec i { s with eng := { s.eng with repFirst := false } })
  ∧ (∀ (b : Byte) (e : EngSt), e.frp = true → srWrite 5 b e = some e)
  ∧ (∀ (b : Byte) (e : EngSt), e.frp = false → srWrite 5 b e = some { e with repcnt := b })

/-- With IE set and no skip or REP pending, the lowest line pending and enabled is entered: the return address, FLAGS
and REPCNT pushed, IE and RP cleared, the line's edge cleared, the PC at 0x0040 + 2 x line, four cycles. RETI pops
them again. WAIT stops fetching while no enabled line is pending; WAIT_RESUME then takes the line where IE is set and
goes on otherwise. (R413) -/
def Obligations.Interrupts : Prop :=
  (∀ (k : Nat) (s : State), unitsRun s = true → s.eng.fie = true → s.eng.skipNext = false → s.eng.repFirst = false →
    firstLine s = some k → s.eng.hook = none → 4 ≤ s.eng.sp.toNat → s.eng.sp.toNat ≤ 0x8000 → s.eng.stackLim.toNat ≤ s.eng.sp.toNat - 4 →
    let e := (due s).eng
    ∃ v, exec .interruptEntry s = .next v
      ∧ v = { spend 4 (due s) with eng := { (spend 4 (due s)).eng with
          waiting := false, handler := e.handler + 1, edges := e.edges &&& ~~~(1#32 <<< k), fie := false, frp := false
          pc := BitVec.ofNat 16 (0x40 + 2 * k), wrap := false, sp := e.sp - 4, ram := v.eng.ram } }
      ∧ memByte v.eng.ram (e.sp.toNat - 1) = BitVec.ofNat 8 (e.pc.toNat / 256)
      ∧ memByte v.eng.ram (e.sp.toNat - 2) = BitVec.ofNat 8 e.pc.toNat ∧ memByte v.eng.ram (e.sp.toNat - 3) = flagsByte e
      ∧ memByte v.eng.ram (e.sp.toNat - 4) = e.repcnt
      ∧ ∀ a, (a < e.sp.toNat - 4 ∨ e.sp.toNat ≤ a) → memByte v.eng.ram a = memByte e.ram a)
  ∧ (∀ (k : Nat) (s : State), firstLine s = some k → k < 24 ∧ linePending s k = true ∧ (shw s Reg.engIrqEn).getLsbD k = true
      ∧ ∀ j, j < k → ¬(linePending s j = true ∧ (shw s Reg.engIrqEn).getLsbD j = true))
  ∧ (∀ s : State, (unitsRun s = false ∨ s.eng.fie = false ∨ s.eng.skipNext = true ∨ s.eng.repFirst = true ∨ firstLine s = none) →
      exec .interruptEntry s = .next s)
  ∧ (∀ s : State, EngReady 1 s → s.eng.hook = none → s.eng.frp = false → s.eng.sp.toNat + 4 ≤ 0x8000 →
    let e := (due s).eng
    let at4 := fun k => memByte e.ram (e.sp.toNat + k)
    let v := spend 5 (due s)
    exec .reti s = .next { v with eng := { writeFlags (at4 1) v.eng with
      frp := (at4 1).getLsbD 5, repcnt := at4 0, handler := e.handler - 1, sp := e.sp + 4, wrap := false
      pc := BitVec.ofNat 16 ((at4 2).toNat + 256 * (at4 3).toNat) } })
  ∧ (∀ s : State, EngReady 1 s → inExt (due s).eng = false →
      (firstLine (due s) = none → exec .wait s = .next (retire 1 1 (fun e => { e with waiting := true }) (due s)))
      ∧ (firstLine (due s) ≠ none → exec .wait s = .next (retire 1 1 id (due s))))
  ∧ (∀ s : State, EngReady 1 s → inExt (due s).eng = true → exec .wait s = .next (retire 1 1 id (due s)))
  ∧ (∀ s : State, s.eng.waiting = true → engineRuns s = false)
  ∧ (∀ (k : Nat) (s : State), unitsRun s = true → s.eng.waiting = true → firstLine s = some k →
      (s.eng.fie = true → exec .waitResume s = .next (enterLine k s))
      ∧ (s.eng.fie = false → exec .waitResume s = .next { s with eng := { s.eng with waiting := false } }))
  ∧ (∀ s : State, (unitsRun s = false ∨ s.eng.waiting = false ∨ firstLine s = none) → exec .waitResume s = .next s)

/-- On a ready engine a customer opcode whose entry is not enabled, and a word that is no instruction, raise
ILLEGAL_OPCODE and are one-cycle no-operations; an enabled entry runs the control store from START. A fetch R394
forbids raises FETCH_FAULT and executes nothing. APERTURE_BASE_WRITE sets the 20 bits and discards latch and buffer;
WDKICK restarts the watchdog on 0x5A then 0xA5 alone; the extension may write neither, but for AP3. -/
def Obligations.CustomerOpcodes : Prop :=
  (∀ (k : Fin 16) (b : Byte) (s : State), EngReady 1 s →
    let u := due s
    let d : DecodeEntry := s.eng.decode[k]
    (d.en = false → exec (.customerOpcode k b) s = .next (finish 1 u.eng.frp { st := u, faults := [Src.engIllegalOpcode] }))
    ∧ (d.en = true → exec (.customerOpcode k b) s =
        .next (finish 1 u.eng.frp (microRun (4 * d.limit.toNat) d.start.toNat b {} [] (spend 1 u)))))
  ∧ (∀ (w : Half) (s : State), EngReady 1 s → legalWord w.toNat = false →
      exec (.illegalOpcode w) s = .next (finish 1 s.eng.frp { st := due s, faults := [Src.engIllegalOpcode] }))
  ∧ (∀ (w : Half) (s : State), legalWord w.toNat = true → exec (.illegalOpcode w) s = .next s)
  ∧ (∀ (i : Instr) (n : Nat) (s : State), EngineRow i n → engineRuns s = true → fetchOk (due s).eng n = false →
      exec i s = .next (raiseEng [Src.engFetchFault] (due s)))
  ∧ (∀ (i : Instr) (n : Nat) (s : State), EngineRow i n → engineRuns s = false → exec i s = .next s)
  ∧ (∀ (n : Fin 4) (v : Byte) (s : State), engineRuns s = true → (inExt s.eng = false ∨ n = 3) →
      let p : Aperture := s.eng.aps[n]
      exec (.apertureBaseWrite n v) s = .next { s with eng := { s.eng with aps := s.eng.aps.set n.val { p with
        base := BitVec.ofNat 20 (p.b0.toNat + 256 * p.b1.toNat + 65536 * (v.toNat % 16)), latch := none, wbuf := none } n.isLt } })
  ∧ (∀ (v : Byte) (s : State), engineRuns s = true → inExt s.eng = false →
      exec (.wdkick v) s = .next (if v = 0xA5 ∧ s.eng.wdKey = true then
          { s with eng := { s.eng with wdLeft := wdTimeout s, wdWarned := false, wdKey := false } }
        else { s with eng := { s.eng with wdKey := v == 0x5A } }))
  ∧ (∀ (n : Fin 4) (v : Byte) (s : State), engineRuns s = true → inExt s.eng = true → n ≠ 3 →
      exec (.apertureBaseWrite n v) s = .next (raiseEng [Src.engExtAccess] s)
      ∧ exec (.wdkick v) s = .next (raiseEng [Src.engExtAccess] s))
  ∧ (∀ (n : Fin 4) (v : Byte) (s : State), engineRuns s = false →
      exec (.apertureBaseWrite n v) s = .next s ∧ exec (.wdkick v) s = .next s)

/-- A call from the firmware region to a hook table word saves W8 to W15, SP and LDEPTH, sets IN_EXT and starts a
budget of BUDGET x 64 cycles that handlers do not spend. The RET that brings SP back, and the overrun at the
instruction boundary where the budget is spent, which sets SP and continues at the return address with EXT_OVERRUN,
restore W8 to W15, discard the loops begun in the hook, clear RP and IN_EXT and count the call. EXT_OVERRUN as a row
does so at once. (R419) -/
def Obligations.Hooks : Prop :=
  (∀ (rel : BitVec 12) (p : Fin 8) (t : Half) (s : State), s.eng.hook = none → s.eng.frp = false → s.eng.pc.toNat < 0xC000 →
    2 ≤ s.eng.sp.toNat → s.eng.sp.toNat ≤ 0x8000 → s.eng.stackLim.toNat ≤ s.eng.sp.toNat - 2 → fld (shw s Reg.engExtCfg) 16 16 ≠ 0 →
    let hooks := fun (i : Instr) (n : Nat) (x : Half) => 0xC000 ≤ x.toNat → x.toNat < 0xC020 → ∃ v, exec i s = .next v
      ∧ v.eng.pc = x ∧ v.eng.sp = s.eng.sp - 2 ∧ (∀ j, j < 16 → wGet v.eng j = wGet s.eng j)
      ∧ ∃ h, v.eng.hook = some h ∧ h.hook = (x.toNat - 0xC000) / 2 ∧ (∀ j, j < 8 → vget h.w8 j 0 = wGet s.eng (8 + j))
        ∧ h.sp = s.eng.sp ∧ h.ldepth = s.eng.ldepth ∧ h.ret = s.eng.pc + BitVec.ofNat 16 n ∧ h.inHandler = 0
        ∧ h.budget = 64 * fld (shw s Reg.engExtCfg) 16 16
    (EngReady 1 s → hooks (.call rel) 1 (s.eng.pc + 1 + rel.signExtend 16) ∧ hooks (.calli p) 1 (pGet s.eng p))
    ∧ (EngReady 2 s → hooks (.callAbs t) 2 t))
  ∧ (∀ (h : HookSave) (s : State), EngReady 1 s → s.eng.hook = some h → h.inHandler = 0 → 0xC000 ≤ s.eng.pc.toNat →
    s.eng.frp = false → s.eng.sp.toNat + 2 = h.sp.toNat → s.eng.sp.toNat + 2 ≤ 0x8000 → Memory.wf s.eng.ram = true → s.eng.ldepth ≤ 4 →
    ∃ v, exec .ret s = .next v ∧ v.eng.sp = h.sp ∧ v.eng.hook = none ∧ v.eng.frp = false
      ∧ v.eng.pc.toNat = (memByte s.eng.ram s.eng.sp.toNat).toNat + 256 * (memByte s.eng.ram (s.eng.sp.toNat + 1)).toNat
      ∧ (∀ j, j < 8 → wGet v.eng (8 + j) = vget h.w8 j 0 ∧ wGet v.eng j = wGet s.eng j)
      ∧ v.eng.ldepth = min s.eng.ldepth h.ldepth ∧ v.eng.calls = sat16 s.eng.calls 1)
  ∧ (∀ (n cost : Nat) (f : EngSt → EngSt) (h : HookSave) (u : State), (∀ e, (f e).hook = e.hook ∧ (f e).w = e.w) →
    u.eng.hook = some h → u.eng.frp = false →
    (h.inHandler = 0 → cost < h.budget → (retire n cost f u).eng.hook = some { h with budget := h.budget - cost })
    ∧ (h.inHandler ≠ 0 → (retire n cost f u).eng.hook = some h)
    ∧ (h.inHandler = 0 → h.budget ≤ cost → ∃ w, retire n cost f u = raiseEng [Src.engExtOverrun] w ∧ w.eng.pc = h.ret
      ∧ w.eng.sp = h.sp ∧ w.eng.hook = none ∧ w.eng.frp = false ∧ (∀ j, j < 8 → wGet w.eng (8 + j) = vget h.w8 j 0)))
  ∧ (∀ (h : HookSave) (s : State), unitsRun s = true → s.eng.hook = some h → h.inHandler = 0 → s.eng.ldepth ≤ 4 →
      ∃ u : State, exec .extOverrun s = .next (raiseEng [Src.engExtOverrun] u) ∧ u.eng.pc = h.ret ∧ u.eng.sp = h.sp
        ∧ u.eng.hook = none ∧ u.eng.frp = false ∧ (∀ j, j < 8 → wGet u.eng (8 + j) = vget h.w8 j 0 ∧ wGet u.eng j = wGet s.eng j)
        ∧ u.eng.ldepth = min s.eng.ldepth h.ldepth ∧ u.eng.ram = s.eng.ram
        ∧ u.eng.calls = sat16 s.eng.calls 1 ∧ u.eng.overruns = sat16 s.eng.overruns 1)
  ∧ (∀ s : State, (unitsRun s = false ∨ hookRuns s.eng = false) → exec .extOverrun s = .next s)

/-- For each opcode row and result: a deferred command that is accepted (status 0x01) joins the outstanding commands
and is answered with ACCEPTED, not final; another that Table 2-6 marks as journaled, and that made no entry of its
own, is journaled with its status before the final reply carries status and data; one not marked changes nothing but
the reply path. A local reply is the packet of Table 2-2 at the end of the interface's queue, or held while the queue
has eight (R57); a broadcast part goes into the collection instead. -/
def Obligations.Concluding : Prop :=
  ∀ (op : Nat) (info : OpInfo) (p : Packet) (b : Bool) (u : State) (r : CmdResult), opInfo op = some info → r.silent = false →
    (r.status = 0x01 → concluded op p b u r = reply p.origin b p.tag 0x01 false [] .normal
      { r.st with sec := { r.st.sec with outstanding := r.st.sec.outstanding ++
        [⟨BitVec.ofNat 8 op, p.origin, slotOf u p.origin, roleOf u p.origin, p.tag, b, p.params⟩] } })
  ∧ (r.status ≠ 0x01 → (info.journal = false ∨ r.ownEntry = true) →
      concluded op p b u r = reply p.origin b p.tag r.status true r.data r.why r.st)
  ∧ (r.status ≠ 0x01 → info.journal = true → r.ownEntry = false → op ≠ 0x04 →
      concluded op p b u r = reply p.origin b p.tag r.status true r.data r.why
        (journalCommand p.origin (slotOf u p.origin) (roleOf u p.origin) p.tag (BitVec.ofNat 8 op) r.status p.params r.st))
  ∧ (∀ (i : Iface) (tag st : Byte) (final : Bool) (data : List Byte) (why : ReplyPurpose) (t : State),
      let x : Reply := ⟨replyBytes (ownAddr t) st tag final false false data, why⟩
      (reply (.loc i) false tag st final data why t = modPort i (fun (h : HostPort) =>
        if h.heldReplies = [] ∧ h.replies.length < 8 then { h with replies := h.replies ++ [x] }
        else { h with heldReplies := h.heldReplies ++ [x] }) t)
    ∧ (reply (.loc i) true tag st false data why t = t)
    ∧ ((reply (.loc i) true tag st true data why t).hif = t.hif))

/-- For every command row: a packet the device cannot take stays in its mailbox, and the rest of the state is
unchanged. A packet taken, addressed to this device, with FLAGS not 0, is concluded with BAD_PARAM; one that fails
step 5 to 8 with that step's status; one for an unreachable device with UNREACHABLE (0x50); one for a reachable device
is relayed; a broadcast of an opcode that does not allow it is BAD_PARAM. None of these has any other effect of the
command. -/
def Obligations.Refusals : Prop :=
  ∀ (i : Instr) (op : Nat) (p : Packet) (s : State) (info : OpInfo), CommandRow i op p → opInfo op = some info →
    (canTake p.origin s = false → exec i s = .next (holdPacket p.origin (packetBytes op p) s))
  ∧ (canTake p.origin s = true → let u := takePacket p.origin s
      (p.flags ≠ 0 → (p.dest = 0xFF ∨ destHere u p.dest = true) → exec i s = .next (concluded op p false u (failCmd u 0x13)))
    ∧ (p.flags = 0 → p.dest = 0xFF → info.bcast = false → exec i s = .next (concluded op p false u (failCmd u 0x13)))
    ∧ (∀ f st, p.origin = .loc f → p.dest ≠ 0xFF → destHere u p.dest = true → p.flags = 0 → admitCheck info p u = some st →
        exec i s = .next (concluded op p false u (failCmd u st)))
    ∧ (∀ a f st, p.origin = .remote a f → p.flags = 0 → (p.dest = 0xFF → info.bcast = true) → admitCheck info p u = some st →
        exec i s = .next (concluded op p false u (failCmd u st)))
    ∧ (∀ f, p.origin = .loc f → p.dest ≠ 0xFF → destHere u p.dest = false → destReachable u p.dest = false →
        exec i s = .next (concluded op p false u (failCmd u 0x50)))
    ∧ (∀ f, p.origin = .loc f → p.dest ≠ 0xFF → destHere u p.dest = false → destReachable u p.dest = true → p.flags = 0 →
        exec i s = .next (relayCommand f op p u)))
  ∧ (∀ (o : Origin) (x : List Byte), (∀ a f, o = .remote a f → holdPacket o x s = s)
      ∧ (holdPacket o x s).sec = s.sec ∧ (holdPacket o x s).shadow = s.shadow ∧ (holdPacket o x s).nvm = s.nvm)

/-- An admitted packet whose LENGTH is wrong returns BAD_LENGTH, whose values are not allowed BAD_PARAM. Else NOP
returns no data; IDENTIFY the identity of Table 2-10; GET_STATUS Table 2-11; SET_POWER_STATE is accepted as the
transition of Table 4-2 (WRONG_STATE without a row, BUSY under R125); RESET arms the reset its reply's pop begins;
READ_REG returns COUNT reads of WIDTH bytes; WRITE_REG applies its writes in order up to the first that fails,
returning how many were done; SAVE_CONFIG is accepted with the words of the shadow to save, LOAD_CONFIG is accepted.
-/
def Obligations.ProtocolCommands : Prop :=
  ∀ (p : Packet) (s : State) (b : Bool) (u : State), let q := p.params
(Admitted 0x00 p s b u → exec (.nop p) s = .next (concluded 0x00 p b u (
      if ¬(q.length = 0) then failCmd u 0x11 else
      okCmd u [])))
  ∧ (Admitted 0x01 p s b u → exec (.identify p) s = .next (concluded 0x01 p b u (
      if ¬(q.length = 0) then failCmd u 0x11 else
      okCmd u (le 2 0x1920 ++ [2, 0] ++ le 8 Config.uid.toNat ++ le 4 u.sec.fwVersion.toNat
        ++ [if u.sys.slot then 1 else 0, u.link.addr.getD 0xFF]))))
  ∧ (Admitted 0x02 p s b u → exec (.getStatus p) s = .next (concluded 0x02 p b u (
      if ¬(q.length = 0) then failCmd u 0x11 else
      okCmd u ([BitVec.ofNat 8 (powerCode u.sys.power), BitVec.ofNat 8 (u.sys.cause.toNat + 16 * b1 u.sys.fallback),
        BitVec.ofNat 8 (roleOf u p.origin).toNat, 0] ++ le 2 (statusFlags u) ++ le 2 (faultBlocks u) ++ le 4 (reportEpoch u).toNat
        ++ le 8 (if u.time.state = .stopped then 0 else u.time.ns)))))
  ∧ (Admitted 0x08 p s b u → exec (.setPowerState p) s = .next (concluded 0x08 p b u (
      if ¬(q.length = 4) then failCmd u 0x11 else
      if ¬(u8 q 0 ≤ 4 ∧ zeros q 1 3 = true) then failCmd u 0x13 else
      if ¬(transitionOk u.sys.power (powerOf (u8 q 0)) = true) then failCmd u 0x30 else
      if ¬(powerBusy (powerOf (u8 q 0)) u = false) then failCmd u 0x31 else
      acceptCmd { u with sys := { u.sys with trans := some ⟨u.sys.power, powerOf (u8 q 0),
        u.sys.power == .active && powerOf (u8 q 0) != .active && (currentEpoch u).isSome⟩ } })))
  ∧ (Admitted 0x09 p s b u → exec (.reset p) s = .next (concluded 0x09 p b u (
      if ¬(q.length = 4) then failCmd u 0x11 else
      if ¬(u8 q 0 ≤ 1 ∧ zeros q 1 3 = true) then failCmd u 0x13 else
      { st := { u with sys := { u.sys with resetArmed := some (u8 q 0 == 0) } }, status := 0x00, why := .reset })))
  ∧ (Admitted 0x0A p s b u → exec (.readReg p) s = .next (concluded 0x0A p b u (
      if ¬(q.length = 8) then failCmd u 0x11 else
      if ¬(runOk q = true) then failCmd u 0x13 else
      okCmd (devReads (u8 q 4) (u16 q 6) (u32 q 0) u).2 (devReads (u8 q 4) (u16 q 6) (u32 q 0) u).1)))
  ∧ (Admitted 0x0B p s b u → exec (.writeReg p) s = .next (concluded 0x0B p b u (
      if ¬(8 ≤ q.length ∧ q.length = 8 + u16 q 6 * u8 q 4) then failCmd u 0x11 else
      if ¬(runOk q = true) then failCmd u 0x13 else
      let w := match slotOf u p.origin with | some k => Writer.session k | none => Writer.firmware
      let r := devWrites w 0x0B (u8 q 4) (u16 q 6) (u32 q 0) (q.drop 8) u
      if r.1 = 0 then okCmd r.2.2 [] else { st := r.2.2, status := r.1, data := le 2 r.2.1 })))
  ∧ (Admitted 0x0C p s b u → exec (.saveConfig p) s = .next (concluded 0x0C p b u (
      if ¬(q.length = 0) then failCmd u 0x11 else
      acceptCmd { u with sec := { u.sec with saving := u.shadow.filter (fun x => savedAddr x.1) } })))
  ∧ (Admitted 0x0D p s b u → exec (.loadConfig p) s = .next (concluded 0x0D p b u (
      if ¬(q.length = 0) then failCmd u 0x11 else
      acceptCmd u)))

/-- SESSION_OPEN naming a role whose key is not installed returns NOT_PERMITTED, as does a locked-out slot; without a
free slot BUSY; else it ends the slot's session and returns a challenge, pending for the named role. SESSION_AUTH
without a pending challenge returns NO_SESSION; with one, it uses it up: the right answer gives the slot the role, a
wrong one counts a failure, and the fifth locks the slot. SESSION_CLOSE and the idle timeout end the slot's session. A
pending challenge ends at CHALLENGE_EXPIRY, a lockout at LOCKOUT_END. -/
def Obligations.Sessions : Prop :=
  ∀ (p : Packet) (s : State) (b : Bool) (u : State), let q := p.params
(Admitted 0x03 p s b u → exec (.sessionOpen p) s = .next (concluded 0x03 p b u (
      if ¬(q.length = 4) then failCmd u 0x11 else
      if ¬(1 ≤ u8 q 0 ∧ u8 q 0 ≤ 3 ∧ zeros q 1 3 = true) then failCmd u 0x13 else
      if ¬((roleKey u (u8 q 0)).isSome = true) then failCmd u 0x20 else
      if ¬(∀ k, openSlot u p.origin = some k → u.sec.sessions[k].lockout = false) then failCmd u 0x20 else
      match openSlot u p.origin with
      | none => failCmd u 0x31
      | some k =>
        let c := Config.challenge u.sec.draws
        let t := modSession k (fun (e : Session) => { e with
          origin := some p.origin, challenge := some (c, BitVec.ofNat 2 (u8 q 0)), lastMs := (endSession k u).sys.lpoMs }) (endSession k u)
        okCmd (edgeLine 20 { t with sec := { t.sec with draws := t.sec.draws + 1 } }) (le 16 c.toNat ++ [BitVec.ofNat 8 k.val, 0, 0, 0]))))
  ∧ (Admitted 0x05 p s b u → exec (.sessionClose p) s = .next (concluded 0x05 p b u (
      if ¬(q.length = 0) then failCmd u 0x11 else
      okCmd (match slotOf u p.origin with | some k => endSession k u | none => u) [])))
  ∧ (Admitted 0x04 p s b u → p.params.length ≠ 16 → exec (.sessionAuth p) s = .next (concluded 0x04 p b u (failCmd u 0x11)))
  ∧ (Admitted 0x04 p s b u → p.params.length = 16 → (∀ k, slotOf u p.origin = some k → u.sec.sessions[k].challenge = none) →
      exec (.sessionAuth p) s = .next (concluded 0x04 p b u (failCmd u 0x21)))
  ∧ (∀ (k : Fin 6) (c : BitVec 128) (r : BitVec 2), Admitted 0x04 p s b u → p.params.length = 16 → slotOf u p.origin = some k →
      u.sec.sessions[k].challenge = some (c, r) →
      let used := edgeLine 20 (modSession k (fun (x : Session) => { x with challenge := none }) u)
      let key := (roleKey used r.toNat).getD []
      let right := (roleKey used r.toNat).isSome = true ∧ (hmac key (authMessage c r.toNat k p.origin)).take 16 = p.params
      let n : Nat := min 5 ((u.sec.sessions[k] : Session).fails + 1)
      let counted := journalAuthFail 0x04 (some k) p.origin (u.sec.sessions[k] : Session).role.toNat r.toNat n (decide (5 ≤ n))
        (modSession k (fun (x : Session) => { x with fails := n, lockout := x.lockout || decide (5 ≤ n) }) used)
      (right → exec (.sessionAuth p) s = .next (concluded 0x04 p b u (okCmd (modSession k (fun (x : Session) => { x with
          role := r, fails := 0, lockout := false, keySets := 0
          ks := hmac key ([0x53, 0x4B, 0x45, 0x59] ++ le 16 c.toNat ++ uidBytes) }) used) [])))
    ∧ (¬right → n < 5 → exec (.sessionAuth p) s = .next (concluded 0x04 p b u
          { st := raise 13 Src.secAuthFail noItem counted, status := 0x20, ownEntry := true }))
    ∧ (¬right → n = 5 → exec (.sessionAuth p) s = .next (concluded 0x04 p b u
          { st := raise 13 Src.secAuthLockout noItem (raise 13 Src.secAuthFail noItem counted), status := 0x20, ownEntry := true })))
  ∧ (∀ k : Fin 6, (∃ t, exec (.sessionIdleTimeout k) s = .next t ∧ t = endSession k s ∧ t.sec.sessions[k].role = 0
        ∧ t.sec.sessions[k].challenge = none ∧ t.sec.sessions[k].fails = s.sec.sessions[k].fails
        ∧ t.sec.sessions[k].lockout = s.sec.sessions[k].lockout ∧ (2 ≤ k.val → t.sec.sessions[k].origin = none)
        ∧ ∀ j : Fin 6, j ≠ k → t.sec.sessions[j] = s.sec.sessions[j])
      ∧ exec (.challengeExpiry k) s = .next (modSession k (fun (x : Session) => { x with challenge := none }) s)
      ∧ exec (.lockoutEnd k) s = .next (modSession k (fun (x : Session) => { x with lockout := false }) s))

/-- A block's shadow words reach its active words at once only in ACTIVE with no schedule: then the words of that
block read in the active file as in the shadow, every other word as before, and nothing else changes; otherwise the
state is unchanged. A list of words written into a register file leaves every other word; the word written keeps its
read/write bits, the others read the reset word's. -/
def Obligations.ShadowAndActive : Prop :=
  (∀ (s : State) (k : Nat), k < 14 →
      let t := applyNow k s
      (s.sys.power = .active → s.time.sched = none →
        (∀ a, acw t a = if 0x01000000 + 0x10000 * k ≤ a ∧ a < 0x01010000 + 0x10000 * k then shw s a else acw s a)
        ∧ t = { s with active := t.active })
    ∧ (¬(s.sys.power = .active ∧ s.time.sched = none) → t = s))
  ∧ (∀ (f : RegFile) (a : Nat) (w : Word), f.Pairwise (fun x y => x.1 < y.1) →
      fileGet (fileSet a w f) a = (w &&& regMask a) ||| (regReset a &&& ~~~(regMask a))
      ∧ ∀ c, c ≠ a → fileGet (fileSet a w f) c = fileGet f c)

/-- Each checks LENGTH, values, state and epoch in that order. The four configuration commands write their words into
the shadow (which reaches the grid and, for regions, the touch block under R138) where the new configuration fits;
GRID_START sets the start at the named or next epoch and returns it, GRID_STOP cancels a start or sets the stop at the
next epoch, CAPTURE_REFERENCE starts its collection while the grid runs, READ_FRAME returns the window of the newest
frame of a slot or of a frame by number, held in the ring. -/
def Obligations.GridCommands : Prop :=
  ∀ (p : Packet) (s : State) (b : Bool) (u : State), let q := p.params
(Admitted 0x10 p s b u → exec (.gridConfig p) s = .next (concluded 0x10 p b u (
      if ¬(8 ≤ q.length ∧ q.length = 8 + 4 * u8 q 4) then failCmd u 0x11 else
      if ¬(u8 q 0 ≤ 15 ∧ u8 q 1 ≤ 3 ∧ u8 q 3 ≤ 1 ∧ u8 q 4 ≤ 8 ∧ zeros q 5 3 = true
          ∧ ∀ i < u8 q 4, uN 3 q (8 + 4 * i) ≤ 999999 ∧ u8 q (11 + 4 * i) ≤ 2) then failCmd u 0x13 else
      let f := fileSets ((Reg.gridCfg, wd (u8 q 0 + 16 * u8 q 1 + 64 * u8 q 3 + 256 * u8 q 2))
        :: (List.range 8).map (fun i => (Reg.gridSched i,
          if i < u8 q 4 then wd (1 + 2 * u8 q (11 + 4 * i) + 16 * uN 3 q (8 + 4 * i)) else 0))) u.shadow
      if ¬(fitOk f (curCarrier u) (periodUs u) = true) then failCmd u 0x13 else okCmd (applyNow 2 (withShadow f u)) [])))
  ∧ (Admitted 0x11 p s b u → exec (.regionDefine p) s = .next (concluded 0x11 p b u (
      if ¬(q.length = 8) then failCmd u 0x11 else
      if ¬(u8 q 0 ≤ 7 ∧ u8 q 1 < 16 ∧ u8 q 2 ≤ u8 q 3 ∧ u8 q 3 ≤ 119 ∧ u8 q 4 ≤ u8 q 5 ∧ u8 q 5 ≤ 159 ∧ zeros q 6 2 = true) then failCmd u 0x13 else
      let f := setBaseGain (u8 q 0) (u8 q 1 / 4 % 4) (fileSets [(Reg.gridRegionA (u8 q 0), wd (u32 q 2)),
        (Reg.gridRegionB (u8 q 0), wd (u8 q 1 % 4))] u.shadow)
      if ¬(regionsOk f = true) then failCmd u 0x13 else okCmd (applyNow 3 (applyNow 2 (withShadow f u))) [])))
  ∧ (Admitted 0x12 p s b u → exec (.drivePlan p) s = .next (concluded 0x12 p b u (
      if ¬(q.length = 30) then failCmd u 0x11 else
      let f := fileSets ((List.range 8).map (fun w => (Reg.gridPlan w, wd (u32 q (4 * w))))) u.shadow
      if ¬(∀ d ∈ List.range 120, planMode f d ≠ 3) then failCmd u 0x13 else okCmd (applyNow 2 (withShadow f u)) [])))
  ∧ (Admitted 0x17 p s b u → exec (.selfcapConfig p) s = .next (concluded 0x17 p b u (
      if ¬(q.length = 39) then failCmd u 0x11 else
      if ¬(u8 q 0 ≤ 1 ∧ u8 q 1 ≤ 3 ∧ u8 q 2 ≤ 3 ∧ u8 q 3 = 0) then failCmd u 0x13 else
      okCmd (applyNow 2 (withShadow (fileSets ((Reg.gridSelfCfg, setFld (shw u Reg.gridSelfCfg) (4 * u8 q 0) 4 (u8 q 1 + 4 * u8 q 2))
        :: (List.range 9).map (fun w => (Reg.gridSelfLines (u8 q 0) w, wd (u32 (q.drop 4) (4 * w))))) u.shadow) u)) [])))
  ∧ (Admitted 0x13 p s b u → exec (.gridStart p) s = .next (concluded 0x13 p b u (
      if ¬(q.length = 12) then failCmd u 0x11 else
      if ¬(u8 q 4 ≤ 1 ∧ zeros q 5 3 = true) then failCmd u 0x13 else
      if ¬((currentEpoch u).isSome = true) then failCmd u 0x30 else
      if ¬(u8 q 4 = 1 → targetBad u (w32 q 8) = none) then failCmd u 0x13 else
      if ¬(u.grid.running = false ∧ u.grid.restart = false ∧ u.grid.startAt = none ∧ slotDefs u.shadow ≠ []) then failCmd u 0x30 else
      let e := if u8 q 4 = 1 then w32 q 8 else reportEpoch u + 1
      okCmd { u with grid := { u.grid with startAt := some (e, u32 q 0) } } (le 4 e.toNat))))
  ∧ (Admitted 0x14 p s b u → exec (.gridStop p) s = .next (concluded 0x14 p b u (
      if ¬(q.length = 0) then failCmd u 0x11 else
      let runs := gridRuns u
      let was := runs || u.grid.startAt.isSome
      let e := if was then reportEpoch u + 1 else reportEpoch u
      okCmd { u with grid := { u.grid with startAt := none, stopAt := if runs then some e else u.grid.stopAt } }
        (le 4 e.toNat ++ [if was then 1 else 0]))))
  ∧ (Admitted 0x15 p s b u → exec (.captureReference p) s = .next (concluded 0x15 p b u (
      if ¬(q.length = 0) then failCmd u 0x11 else
      if ¬(gridRuns u = true) then failCmd u 0x30 else
      acceptCmd { u with grid := { u.grid with capture := some {} } })))
  ∧ (Admitted 0x16 p s b u → exec (.readFrame p) s = .next (concluded 0x16 p b u (
      if ¬(q.length = 12) then failCmd u 0x11 else
      if ¬(u8 q 0 ≤ 1 ∧ u8 q 1 ≤ 7 ∧ u8 q 2 ≤ 1 ∧ u8 q 3 = 0 ∧ (⟨u8 q 4, u8 q 5, u8 q 6, u8 q 7⟩ : Window).valid = true) then failCmd u 0x13 else
      if ¬(u.grid.ring.take u.grid.runFrames ≠ []) then failCmd u 0x30 else
      let w : Window := ⟨u8 q 4, u8 q 5, u8 q 6, u8 q 7⟩
      let l := decide (u8 q 2 = 1)
      match (u.grid.ring.take u.grid.runFrames).find? (fun h => if u8 q 0 = 0 then h.slot == u8 q 1 else h.seq == w32 q 8) with
      | none => failCmd u 0x13
      | some h =>
        if 2036 < w.count h.kind l then failCmd u 0x13 else
        let d := memRead u.gram (ringAt h.buffer) 20
        let fl := u8 d 15
        okCmd u (le 4 h.epoch.toNat ++ descriptor h.t0 h.seq h.slot h.kind (u8 d 14)
            (fl % 4 + 4 * b1 l + 8 * (fl / 8 % 4) + 32 * b1 (fl.testBit 5 && w.snuffed u) + 64 * (fl / 64)) w
          ++ valBytes (windowValues h.kind (if h.kind = 0 then (List.range 160).map (fun n =>
              if w.s0 ≤ n ∧ n ≤ w.s1 then gramVals u.gram (ringAt h.buffer + 0x40 + n * 256) 128 else [])
            else [gramVals u.gram (ringAt h.buffer + 0xA040) 280]) w l)))))

/-- Each checks LENGTH, then its values and the rules of its whole set (BAD_PARAM), then the state. The configuration
commands write their words into the shadow, in force under R138. BASELINE_RESET waits for the next boundary, which it
returns; READ_CONTACTS returns the last epoch's contact table, WRONG_STATE before there is one. -/
def Obligations.TouchCommands : Prop :=
  ∀ (p : Packet) (s : State) (b : Bool) (u : State), let q := p.params
(Admitted 0x20 p s b u → exec (.touchConfig p) s = .next (concluded 0x20 p b u (
      if ¬(q.length = 32) then failCmd u 0x11 else
      if ¬(u8 q 0 ≤ 7 ∧ u8 q 1 < 8 ∧ u8 q 2 ≤ 3 ∧ u8 q 3 ≤ 3 ∧ u8 q 4 ≤ 12 ∧ (u8 q 5 ≤ 1 ∨ u8 q 5 = 0xFF) ∧ u8 q 6 ≤ 15
          ∧ u8 q 7 < 32 ∧ u8 q 31 = 0) then failCmd u 0x13 else
      let i := u8 q 0
      let f := fixGain i (fileSets [(Reg.tchRgnMode i, wd (u8 q 1 + 16 * u8 q 2 + 64 * u8 q 3 + 256 * u8 q 4
            + 4096 * (if u8 q 5 = 0xFF then 3 else u8 q 5) + 65536 * u8 q 6 + 0x1000000 * u8 q 7)),
          (Reg.tchRgnThr0 i, wd (u32 q 8)), (Reg.tchRgnThr1 i, wd (u32 q 12)), (Reg.tchRgnThr2 i, wd (u32 q 16)),
          (Reg.tchRgnThr3 i, wd (u32 q 20)), (Reg.tchRgnThr4 i, wd (u32 q 24)), (Reg.tchRgnWet i, wd (uN 3 q 28))] u.shadow)
      if ¬(touchOk f i = true) then failCmd u 0x13 else okCmd (applyNow 3 (applyNow 2 (withShadow f u))) [])))
  ∧ (Admitted 0x21 p s b u → exec (.controlDefine p) s = .next (concluded 0x21 p b u (
      if ¬(12 ≤ q.length ∧ q.length = 12 + 2 * u8 q 2) then failCmd u 0x11 else
      if ¬(u8 q 0 ≤ 15 ∧ u8 q 1 < 16 ∧ u8 q 2 ≤ 32 ∧ u8 q 3 ≤ 7 ∧ u16 q 8 ≤ 4095 ∧ zeros q 10 2 = true) then failCmd u 0x13 else
      let c := u8 q 0
      let f := fileSets ([(Reg.tchCtlCfg c, wd (u8 q 1 + 256 * u8 q 2 + 65536 * u8 q 3)), (Reg.tchCtlThr c, wd (u32 q 4)),
          (Reg.tchCtlDelta c, wd (u16 q 8))] ++ (List.range 16).map (fun w => (Reg.tchCtlEl c w, wd (u32 (q.drop 12) (4 * w))))) u.shadow
      if ¬(controlOk f c = true) then failCmd u 0x13 else okCmd (applyNow 3 (withShadow f u)) [])))
  ∧ (Admitted 0x22 p s b u → exec (.gestureConfig p) s = .next (concluded 0x22 p b u (
      if ¬(q.length = 16) then failCmd u 0x11 else
      if ¬(u8 q 0 ≤ 7 ∧ u8 q 1 < 16 ∧ u8 q 2 < 16 ∧ u8 q 3 = 0) then failCmd u 0x13 else
      let i := u8 q 0
      let f := fileSets [(Reg.tchGstCfg i, wd (u8 q 1 + 16 * u8 q 2 + 256 * u16 q 4)), (Reg.tchGstT0 i, wd (u32 q 6)),
          (Reg.tchGstT1 i, wd (u32 q 10)), (Reg.tchGstT2 i, wd (u16 q 14))] u.shadow
      if ¬(gestOk f i = true) then failCmd u 0x13 else okCmd (applyNow 3 (withShadow f u)) [])))
  ∧ (Admitted 0x24 p s b u → exec (.contactPolicy p) s = .next (concluded 0x24 p b u (
      if ¬(q.length = 12) then failCmd u 0x11 else
      if ¬(1 ≤ u16 q 0 ∧ u8 q 2 ≤ 15 ∧ u8 q 3 ≤ 15 ∧ u8 q 4 ≤ 40 ∧ u8 q 5 = 0 ∧ zeros q 8 4 = true) then failCmd u 0x13 else
      okCmd (applyNow 3 (withShadow (fileSets [(Reg.tchPolicy, wd (u16 q 0 + 65536 * u8 q 2 + 0x100000 * u8 q 3 + 0x1000000 * u8 q 4)),
        (Reg.tchHoldLimit, wd (u16 q 6))] u.shadow) u)) [])))
  ∧ (Admitted 0x23 p s b u → exec (.baselineReset p) s = .next (concluded 0x23 p b u (
      if ¬(q.length = 4) then failCmd u 0x11 else
      if ¬(u8 q 1 ≤ 1 ∧ zeros q 2 2 = true) then failCmd u 0x13 else
      if ¬(gridRuns u = true) then failCmd u 0x30 else
      okCmd { u with tch := { u.tch with resetWait := u.tch.resetWait ++ [(u8 q 0, decide (u8 q 1 = 1))] } }
        (le 4 (reportEpoch u + 1).toNat))))
  ∧ (Admitted 0x25 p s b u → exec (.readContacts p) s = .next (concluded 0x25 p b u (
      if ¬(q.length = 0) then failCmd u 0x11 else
      match u.tch.lastPayload with
      | none => failCmd u 0x30
      | some (e, x) => okCmd u (le 4 e.toNat ++ x))))

/-- Each checks LENGTH and values. CARRIER_TABLE and HOP_POLICY check the carrier in force with the new table
(BAD_PARAM); with AT_EPOCH the table waits for its epoch (R24; BUSY while one waits), else it goes into the shadow,
with the carrier it names. NOISE_SURVEY is accepted and starts with nothing gathered; EMBER_CONFIG goes into the
shadow. -/
def Obligations.CarrierCommands : Prop :=
  ∀ (p : Packet) (s : State) (b : Bool) (u : State), let q := p.params
(Admitted 0x30 p s b u → exec (.carrierTable p) s = .next (concluded 0x30 p b u (
      if ¬(8 ≤ q.length ∧ q.length = 8 + 8 * u8 q 1) then failCmd u 0x11 else
      if ¬(u8 q 0 ≤ 15 ∧ u8 q 1 ≤ 16 ∧ u8 q 0 + u8 q 1 ≤ 16 ∧ (u8 q 2 ≤ 15 ∨ u8 q 2 = 0xFF) ∧ u8 q 3 ≤ 1
          ∧ ∀ j < u8 q 1, 100000 ≤ u32 q (8 + 8 * j) ∧ u32 q (8 + 8 * j) ≤ 500000 ∧ 2 ≤ u8 q (12 + 8 * j) ∧ u8 q (12 + 8 * j) ≤ 16
            ∧ u8 q (13 + 8 * j) ≤ 1 ∧ u16 q (14 + 8 * j) = 0) then failCmd u 0x13 else
      let named := if u8 q 2 = 0xFF then none else some (u8 q 2)
      let es := (List.range (u8 q 1)).flatMap (fun j => [(Reg.carrEntryF (u8 q 0 + j), wd (u32 q (8 + 8 * j))),
        (Reg.carrEntryC (u8 q 0 + j), wd (u8 q (12 + 8 * j) + 256 * u8 q (13 + 8 * j)))])
      let f := fileSets es u.shadow
      let g := match named with
        | some c => fileSet Reg.carrCfg (setFld (fileGet f Reg.carrCfg) 0 4 c) f
        | none => f
      let ws := match named with
        | some _ => es ++ [(Reg.carrCfg, fileGet g Reg.carrCfg)]
        | none => es
      if ¬(carrOk g (named.getD (curCarrier u)) (periodUs u) = true) then failCmd u 0x13 else
      if u8 q 3 = 1 ∧ currentEpoch u = none then failCmd u 0x30 else
      if u8 q 3 = 1 ∧ targetBad u (w32 q 4) ≠ none then failCmd u 0x13 else
      if u.carr.pendingSet ≠ none then failCmd u 0x31 else
      if u8 q 3 = 1 then okCmd { u with carr := { u.carr with pendingSet := some (w32 q 4, ws, named) } } []
      else okCmd (carrNow { withShadow g u with carr := { u.carr with named := match named with | some c => some c | none => u.carr.named } }) [])))
  ∧ (Admitted 0x31 p s b u → exec (.hopPolicy p) s = .next (concluded 0x31 p b u (
      if ¬(q.length = 16) then failCmd u 0x11 else
      if ¬(u8 q 0 ≤ 1 ∧ u8 q 1 ≤ 64 ∧ u8 q 2 ≤ 15 ∧ u8 q 12 ≤ 1 ∧ zeros q 13 3 = true) then failCmd u 0x13 else
      let cfg := setFld (setFld (setFld (setFld (setFld (shw u Reg.carrCfg) 4 1 (u8 q 0)) 5 1 (u8 q 12)) 8 7 (u8 q 1)) 16 4 (u8 q 2)) 24 8 (u8 q 3)
      let f := fileSets [(Reg.carrCfg, cfg), (Reg.carrHop, wd (u16 q 4 + 65536 * u16 q 6)),
        (Reg.carrHop2, wd (u16 q 8 + 65536 * u16 q 10))] u.shadow
      if ¬(hopSetOk f (curCarrier u) = true ∧ hopRulesOk f (curCarrier u) = true ∧ fitOk f (curCarrier u) (periodUs u) = true) then
        failCmd u 0x13 else okCmd (carrNow (withShadow f u)) [])))
  ∧ (Admitted 0x32 p s b u → exec (.noiseSurvey p) s = .next (concluded 0x32 p b u (
      if ¬(q.length = 4) then failCmd u 0x11 else
      if ¬(u8 q 2 ≤ 64 ∧ u8 q 3 = 0) then failCmd u 0x13 else
      acceptCmd { u with carr := { u.carr with
        survey := some { mask := u16 q 0, values := u8 q 2, standalone := false, running := false, got := [] }
        shadow := none, dwellLeft := 0, blocks := [], gathered := (0, 0), candWin := [] } })))
  ∧ (Admitted 0x33 p s b u → exec (.emberConfig p) s = .next (concluded 0x33 p b u (
      if ¬(q.length = 68) then failCmd u 0x11 else
      if ¬(u8 q 0 ≤ 50 ∧ u8 q 2 ≤ 7 ∧ u8 q 3 ≤ 15) then failCmd u 0x13 else
      let f := fileSets ((Reg.carrEmbCfg, wd (u8 q 0 + 256 * u8 q 1 + 65536 * u8 q 2 + 0x100000 * u8 q 3))
        :: (List.range 8).flatMap (fun g =>
          [(Reg.carrEmbGangL g, wd (u16 q (4 + 8 * g) % 512 + 65536 * (u16 q (6 + 8 * g) % 512))),
           (Reg.carrEmbGangT g, wd (u16 q (8 + 8 * g) + 65536 * u16 q (10 + 8 * g)))])) u.shadow
      if ¬((∀ g ∈ maskBits 8 (u8 q 1), u16 q (4 + 8 * g) ≤ 279 ∧ u16 q (6 + 8 * g) ≤ 279) ∧ emberOk f = true) then failCmd u 0x13
      else okCmd (withShadow f u) [])))

/-- Each checks LENGTH, values, and, where FLAGS asks for an epoch, the epoch (R24). The three configuration commands
give their words to the named lanes and groups as one change under R264. CHECK_DAC sets mode, attenuation, code and
lanes, and marks the lanes it changes. LANE_REINSTATE takes the snuffed lanes and groups it names off the list and
answers which; with none it changes nothing. TRIM_APPLY loads the record's or neutral trims; TRIM_READ returns bytes
of the record. -/
def Obligations.BridgeCommands : Prop :=
  ∀ (p : Packet) (s : State) (b : Bool) (u : State), let q := p.params
(Admitted 0x40 p s b u → exec (.bridgeConfig p) s = .next (concluded 0x40 p b u (
      if ¬(q.length = 12) then failCmd u 0x11 else
      if ¬(u8 q 4 ≤ 1 ∧ u8 q 5 ≤ 3 ∧ u8 q 6 ≤ 7 ∧ u8 q 7 ≤ 3) then failCmd u 0x13 else
      if ¬(∀ n ∈ maskBits 32 (u32 q 0), refBad u n (wd (u8 q 5 % 4 + 4 * u8 q 6 + 256 * u8 q 7)) = false ∧ chopOk (fileSets ((maskBits 32 (u32 q 0)).map
          (fun n => (Reg.brdgLaneCfg n, wd (u8 q 5 % 4 + 4 * u8 q 6 + 256 * u8 q 7)))) u.shadow) (n / 4) = true) then failCmd u 0x13 else
      if ¬(u8 q 4 = 1 → (currentEpoch u).isSome = true) then failCmd u 0x30 else
      if ¬(u8 q 4 = 1 → targetBad u (w32 q 8) = none) then failCmd u 0x13 else
      brdgChange ((maskBits 32 (u32 q 0)).map (fun n => (Reg.brdgLaneCfg n, wd (u8 q 5 % 4 + 4 * u8 q 6 + 256 * u8 q 7))))
        (u8 q 4 == 1) (w32 q 8) u)))
  ∧ (Admitted 0x41 p s b u → exec (.exciteSet p) s = .next (concluded 0x41 p b u (
      if ¬(q.length = 12) then failCmd u 0x11 else
      if ¬(u8 q 1 ≤ 1 ∧ u8 q 2 ≤ 2 ∧ u8 q 3 ≤ 6 ∧ u8 q 4 ≤ 63 ∧ u8 q 5 ≤ 3 ∧ zeros q 6 2 = true) then failCmd u 0x13 else
      if ¬(∀ g ∈ maskBits 8 (u8 q 0), chopOk (fileSets ((maskBits 8 (u8 q 0)).map (fun g => (Reg.brdgEgCfg g,
          wd (u8 q 2 + 4 * u8 q 3 + 256 * u8 q 4 + 65536 * u8 q 5)))) u.shadow) g = true) then failCmd u 0x13 else
      if ¬(u8 q 1 = 1 → (currentEpoch u).isSome = true) then failCmd u 0x30 else
      if ¬(u8 q 1 = 1 → targetBad u (w32 q 8) = none) then failCmd u 0x13 else
      brdgChange ((maskBits 8 (u8 q 0)).map (fun g => (Reg.brdgEgCfg g, wd (u8 q 2 + 4 * u8 q 3 + 256 * u8 q 4 + 65536 * u8 q 5))))
        (u8 q 1 == 1) (w32 q 8) u)))
  ∧ (Admitted 0x42 p s b u → exec (.cmwinSet p) s = .next (concluded 0x42 p b u (
      if ¬(q.length = 16) then failCmd u 0x11 else
      if ¬(u8 q 5 ≤ 1 ∧ zeros q 10 2 = true) then failCmd u 0x13 else
      if ¬((maskBits 32 (u32 q 0) = [] ∨ u8 q 6 < u8 q 7) ∧ (maskBits 8 (u8 q 4) = [] ∨ u8 q 8 < u8 q 9)) then failCmd u 0x13 else
      if ¬(u8 q 5 = 1 → (currentEpoch u).isSome = true) then failCmd u 0x30 else
      if ¬(u8 q 5 = 1 → targetBad u (w32 q 12) = none) then failCmd u 0x13 else
      brdgChange ((maskBits 32 (u32 q 0)).map (fun n => (Reg.brdgLaneWin n, wd (u8 q 6 + 256 * u8 q 7)))
        ++ (maskBits 8 (u8 q 4)).map (fun g => (Reg.brdgEgWin g, wd (u8 q 8 + 256 * u8 q 9)))) (u8 q 5 == 1) (w32 q 12) u)))
  ∧ (Admitted 0x43 p s b u → exec (.checkDac p) s = .next (concluded 0x43 p b u (
      if ¬(q.length = 8) then failCmd u 0x11 else
      if ¬(u8 q 4 ≤ 2 ∧ u8 q 5 ≤ 7 ∧ -2048 ≤ sx 16 (u16 q 6) ∧ sx 16 (u16 q 6) ≤ 2047 ∧ (u8 q 4 = 0 → w32 q 0 = 0)) then failCmd u 0x13 else
      if ¬(∀ n ∈ maskBits 32 (w32 q 0).toNat, laneEn u.active n = true ∧ laneSnuffed u n = false) then failCmd u 0x13 else
      let same := BitVec.ofNat 2 (u8 q 4) = u.brdg.chkMode ∧ BitVec.ofNat 3 (u8 q 5) = u.brdg.chkAtten
        ∧ BitVec.ofNat 12 (u16 q 6) = u.brdg.chkCode
      okCmd { u with brdg := { u.brdg with
        chkMode := BitVec.ofNat 2 (u8 q 4), chkAtten := BitVec.ofNat 3 (u8 q 5), chkCode := BitVec.ofNat 12 (u16 q 6)
        chkLanes := w32 q 0
        chkWait := u.brdg.chkWait ||| (if same then w32 q 0 ^^^ u.brdg.chkLanes else w32 q 0 ||| u.brdg.chkLanes) } } [])))
  ∧ (Admitted 0x45 p s b u → exec (.trimApply p) s = .next (concluded 0x45 p b u (
      if ¬(q.length = 4) then failCmd u 0x11 else
      if ¬(u8 q 0 ≤ 1 ∧ zeros q 1 3 = true) then failCmd u 0x13 else
      okCmd (loadBridgeTrims (u8 q 0 == 1) u) (le 4 (if u.nvm.trimBad then 0 else 1)
        ++ le 4 (loadBridgeTrims (u8 q 0 == 1) u).brdg.trimCheck.toNat))))
  ∧ (Admitted 0x46 p s b u → exec (.trimRead p) s = .next (concluded 0x46 p b u (
      if ¬(q.length = 4) then failCmd u 0x11 else
      if ¬(u16 q 0 + u16 q 2 ≤ 4096) then failCmd u 0x13 else
      okCmd u (((trimRecord u).drop (u16 q 0)).take (u16 q 2)))))
  ∧ (Admitted 0x44 p s b u → q.length ≠ 8 → exec (.laneReinstate p) s = .next (concluded 0x44 p b u (failCmd u 0x11)))
  ∧ (let groups := u.snuff.groups ||| u.snuffDue.groups
    let ok := zeros q 5 3 = true ∧ ∀ n ∈ maskBits 32 (u32 q 0), groups.getLsbD (n / 4) = true → (w32 (q.drop 4) 0).getLsbD (n / 4) = true
    let lm : BitVec 32 := w32 q 0 &&& (u.snuff.lanes ||| u.snuffDue.lanes)
    let gm : BitVec 8 := BitVec.ofNat 8 (u8 q 4) &&& groups
    (Admitted 0x44 p s b u → q.length = 8 → ¬ok → exec (.laneReinstate p) s = .next (concluded 0x44 p b u (failCmd u 0x13)))
    ∧ (Admitted 0x44 p s b u → q.length = 8 → ok → ∃ t,
        exec (.laneReinstate p) s = .next (concluded 0x44 p b u (okCmd t (le 4 lm.toNat ++ le 1 gm.toNat ++ [0, 0, 0])))
      ∧ (lm = 0 → gm = 0 → t = u) ∧ t.snuff.lanes = u.snuff.lanes &&& ~~~lm ∧ t.snuff.groups = u.snuff.groups &&& ~~~gm
      ∧ t.snuffDue.lanes = u.snuffDue.lanes &&& ~~~lm ∧ t.snuffDue.groups = u.snuffDue.groups &&& ~~~gm
      ∧ t.brdg.overcurrent = (if lm = 0 ∧ gm = 0 then u.brdg.overcurrent else u.brdg.overcurrent &&& ~~~gm)
      ∧ t.snuff.lines = u.snuff.lines ∧ t.shadow = u.shadow ∧ t.active = u.active ∧ t.gram = u.gram ∧ t.res = u.res
      ∧ t.hif = u.hif ∧ t.link = u.link ∧ t.time = u.time ∧ t.nvm = u.nvm))

/-- Each checks LENGTH, values, rates against the period (R28), then the epoch where FLAGS asks for one, and BUSY
while a change waits. The configuration commands give their words to the named lanes as one change, at the named epoch
or into the shadow. CONV_START sets the start of the named lanes that do not convert and drops the stop of those that
do, CONV_STOP the reverse, DECIM_SYNC adds a reset of the decimators, all at the named or next epoch, which is
returned. -/
def Obligations.ConverterCommands : Prop :=
  ∀ (p : Packet) (s : State) (b : Bool) (u : State), let q := p.params
(Admitted 0x50 p s b u → exec (.convConfig p) s = .next (concluded 0x50 p b u (
      if ¬(q.length = 24) then failCmd u 0x11 else
      if ¬(u8 q 4 ≤ 1 ∧ (u8 q 5 ≤ 15 ∨ u8 q 5 = 0xFF) ∧ u8 q 6 ≤ 3 ∧ u8 q 7 ≤ 4 ∧ u8 q 9 = 0 ∧ zeros q 14 2 = true
          ∧ (u8 q 7 = 2 → u8 q 8 ≤ 15) ∧ (u8 q 7 = 4 → u8 q 8 ≤ 3) ∧ (u8 q 7 ≠ 2 → u8 q 7 ≠ 4 → u8 q 8 = 0)
          ∧ (u8 q 7 = 3 → intervalOk (u32 q 16) = true)) then failCmd u 0x13 else
      let ws := (maskBits 32 (u32 q 0)).flatMap (fun n => [(Reg.convLaneCfg n, wd ((if u8 q 5 = 0xFF then laneRate u.shadow n else u8 q 5)
            + 16 * laneResp u.shadow n + 256 * u8 q 6 + 4096 * u8 q 7 + 65536 * u8 q 8)),
          (Reg.convLaneSrc n, wd (u16 q 10 + 65536 * u16 q 12))])
        ++ (if u8 q 7 = 3 then [(Reg.convInterval, wd (u32 q 16))] else [])
      if ¬((u8 q 5 = 0xFF ∨ rateFits (periodUs u) (u8 q 5) = true)
          ∧ ∀ n ∈ maskBits 32 (u32 q 0), convLaneOk (fileSets ws u.shadow) (periodUs u) n = true) then failCmd u 0x13 else
      if u8 q 4 = 1 ∧ currentEpoch u = none then failCmd u 0x30 else
      if u8 q 4 = 1 ∧ targetBad u (w32 q 20) ≠ none then failCmd u 0x13 else
      if u.conv.pendingSet ≠ none then failCmd u 0x31 else convChange ws (u8 q 4 == 1) (w32 q 20) u)))
  ∧ (Admitted 0x51 p s b u → exec (.filterSelect p) s = .next (concluded 0x51 p b u (
      if ¬(q.length = 12) then failCmd u 0x11 else
      if ¬(u8 q 4 ≤ 1 ∧ u8 q 5 ≤ 0xB ∧ (u8 q 6 ≤ 15 ∨ u8 q 6 = 0xFF) ∧ u8 q 7 = 0) then failCmd u 0x13 else
      let ws := (maskBits 32 (u32 q 0)).map (fun n => (Reg.convLaneCfg n,
          if u8 q 6 = 0xFF then setFld (shw u (Reg.convLaneCfg n)) 4 4 (u8 q 5)
          else setFld (setFld (shw u (Reg.convLaneCfg n)) 4 4 (u8 q 5)) 0 4 (u8 q 6)))
      if ¬((u8 q 6 = 0xFF ∨ rateFits (periodUs u) (u8 q 6) = true)
          ∧ ∀ n ∈ maskBits 32 (u32 q 0), convLaneOk (fileSets ws u.shadow) (periodUs u) n = true) then failCmd u 0x13 else
      if u8 q 4 = 1 ∧ currentEpoch u = none then failCmd u 0x30 else
      if u8 q 4 = 1 ∧ targetBad u (w32 q 8) ≠ none then failCmd u 0x13 else
      if u.conv.pendingSet ≠ none then failCmd u 0x31 else convChange ws (u8 q 4 == 1) (w32 q 8) u)))
  ∧ (Admitted 0x55 p s b u → exec (.threshSet p) s = .next (concluded 0x55 p b u (
      if ¬(q.length = 16) then failCmd u 0x11 else
      if ¬(u8 q 0 ≤ 31 ∧ u8 q 1 ≤ 1 ∧ u8 q 2 ≤ 7 ∧ -8388608 ≤ sx 32 (u32 q 4) ∧ sx 32 (u32 q 4) ≤ 8388607
          ∧ u32 q 8 ≤ 0xFFFFFF ∧ zeros q 12 4 = true) then failCmd u 0x13 else
      convChange [(Reg.convLaneThr (u8 q 0) (u8 q 1), wd (ux 24 (sx 32 (u32 q 4)) + 2 ^ 24 * u8 q 2)),
        (Reg.convLaneHys (u8 q 0) (u8 q 1), wd (u32 q 8 + 2 ^ 24 * u8 q 3))] false 0 u)))
  ∧ (Admitted 0x56 p s b u → exec (.onsetConfig p) s = .next (concluded 0x56 p b u (
      if ¬(q.length = 16) then failCmd u 0x11 else
      if ¬(u8 q 4 ≤ 3 ∧ 2 ≤ u8 q 5 ∧ u8 q 5 ≤ 64 ∧ u8 q 6 ≤ 8 ∧ 16 ≤ u8 q 7 ∧ 16 ≤ u16 q 8 ∧ zeros q 14 2 = true) then failCmd u 0x13 else
      if ¬(u8 q 4 % 2 = 1 → ∀ n ∈ maskBits 32 (u32 q 0), laneRate (match u.conv.pendingSet with
          | some (e, pws) => if nextEpoch u = some e then fileSets pws u.shadow else u.shadow
          | none => u.shadow) n ≤ 4) then failCmd u 0x13 else
      convChange ((maskBits 32 (u32 q 0)).flatMap (fun n =>
        [(Reg.convLaneOns0 n, wd (u8 q 4 + 256 * u8 q 5 + 65536 * u8 q 6 + 2 ^ 24 * u8 q 7)),
         (Reg.convLaneOns1 n, wd (u16 q 8 + 65536 * u16 q 10)), (Reg.convLaneOns2 n, wd (u16 q 12))])) false 0 u)))
  ∧ (Admitted 0x52 p s b u → exec (.convStart p) s = .next (concluded 0x52 p b u (
      if ¬(q.length = 12) then failCmd u 0x11 else
      if ¬(∀ n ∈ maskBits 32 (u32 q 0), laneEn u.shadow n = true) then failCmd u 0x13 else
      if ¬(u8 q 4 ≤ 1 ∧ zeros q 5 3 = true) then failCmd u 0x13 else
      if ¬((currentEpoch u).isSome = true) then failCmd u 0x30 else
      if ¬(u8 q 4 = 1 → targetBad u (w32 q 8) = none) then failCmd u 0x13 else
      let e := if u8 q 4 = 1 then w32 q 8 else reportEpoch u + 1
      okCmd ((maskBits 32 (u32 q 0)).foldl (fun t n => modLane n (fun (x : LaneSt) =>
          if x.on then { x with stopAt := none } else { x with startAt := some e }) t) u)
        (le 4 e.toNat ++ le 4 (bitsOf 32 (fun n => ((maskBits 32 (u32 q 0)).filter (fun k => !(laneOf u k).on)).contains n))))))
  ∧ (Admitted 0x53 p s b u → exec (.convStop p) s = .next (concluded 0x53 p b u (
      if ¬(q.length = 12) then failCmd u 0x11 else
      if ¬(u8 q 4 ≤ 1 ∧ zeros q 5 3 = true) then failCmd u 0x13 else
      if ¬((currentEpoch u).isSome = true) then failCmd u 0x30 else
      if ¬(u8 q 4 = 1 → targetBad u (w32 q 8) = none) then failCmd u 0x13 else
      let e := if u8 q 4 = 1 then w32 q 8 else reportEpoch u + 1
      okCmd ((maskBits 32 (u32 q 0)).foldl (fun t n => modLane n (fun (x : LaneSt) =>
          if x.on then { x with stopAt := some e } else { x with startAt := none }) t) u)
        (le 4 e.toNat ++ le 4 (bitsOf 32 (fun n => ((maskBits 32 (u32 q 0)).filter (fun k => (laneOf u k).on)).contains n))))))
  ∧ (Admitted 0x54 p s b u → exec (.decimSync p) s = .next (concluded 0x54 p b u (
      if ¬(q.length = 8) then failCmd u 0x11 else
      if ¬(u8 q 0 ≤ 1 ∧ zeros q 1 3 = true) then failCmd u 0x13 else
      if ¬((currentEpoch u).isSome = true) then failCmd u 0x30 else
      if ¬(u8 q 0 = 1 → targetBad u (w32 q 4) = none) then failCmd u 0x13 else
      let e := if u8 q 0 = 1 then w32 q 4 else reportEpoch u + 1
      okCmd { u with conv := { u.conv with decimAt := u.conv.decimAt ++ [e] } } (le 4 e.toNat))))

/-- Each checks LENGTH, values and state. TIME_SET, on the lamplighter with no change under way, steps or first loads
the counter, arms a load at the next PPS edge, steps it by an offset or begins a slew (a slew of 0 changes nothing),
and returns the time before; TIME_GET returns Table 10-11; SERVO_CONFIG and BEACON_CONFIG write their registers;
TRIGGER_SET takes the trigger and returns its next instant; CAPTURE_CONFIG also clears VALID and OVERRUN; EPOCH_SET
establishes the schedule from T0 with N0 = 0. -/
def Obligations.TimeCommands : Prop :=
  ∀ (p : Packet) (s : State) (b : Bool) (u : State), let q := p.params
(Admitted 0x60 p s b u → exec (.timeSet p) s = .next (concluded 0x60 p b u (
      if ¬(q.length = 12) then failCmd u 0x11 else
      if ¬(u8 q 0 ≤ 3 ∧ zeros q 1 3 = true ∧ (u8 q 0 = 3 → -1000000 ≤ sx 64 (u64 q 4) ∧ sx 64 (u64 q 4) ≤ 1000000)) then failCmd u 0x13 else
      if ¬(isLamplighter u = true ∧ (u8 q 0 ≤ 1 ∨ u.time.acq = true) ∧ u.time.slew = none ∧ u.time.ppsSet = none) then failCmd u 0x30 else
      okCmd (if u8 q 0 = 0 then (if u.time.acq then stepTo (u64 q 4) u else acquireLamplighter (u64 q 4) u)
        else if u8 q 0 = 1 then { u with time := { u.time with ppsSet := some (u64 q 4) } }
        else if u8 q 0 = 2 then stepBy (sx 64 (u64 q 4) * 65536) u
        else if sx 64 (u64 q 4) = 0 then u
        else setRate u.time.y { u with time := { u.time with slew := some (sx 64 (u64 q 4)) } })
        (le 8 (if u.time.state = .stopped then 0 else u.time.ns)))))
  ∧ (Admitted 0x61 p s b u → exec (.timeGet p) s = .next (concluded 0x61 p b u (
      if ¬(q.length = 0) then failCmd u 0x11 else
      okCmd u (le 8 (if u.time.state = .stopped then 0 else u.time.ns) ++ [BitVec.ofNat 8 (match u.time.state with
          | .stopped => 0 | .free => 1 | .lamplighter => 2 | .locking => 3 | .locked => 4 | .holdover => 5),
        BitVec.ofNat 8 u.time.depth, portByte u.link.parent,
        BitVec.ofNat 8 (b1 u.time.acq + 2 * b1 (isLamplighter u) + 4 * b1 u.time.ppsOn + 8 * b1 u.time.clamped
          + 16 * b1 u.time.slew.isSome)]
        ++ leI 4 u.time.thetaReg ++ leI 4 u.time.pathReg ++ leI 4 u.time.y ++ le 4 (reportEpoch u).toNat))))
  ∧ (Admitted 0x62 p s b u → exec (.servoConfig p) s = .next (concluded 0x62 p b u (
      if ¬(q.length = 20) then failCmd u 0x11 else
      if ¬(u8 q 0 ≤ 7 ∧ u8 q 1 ≤ 15 ∧ u8 q 2 ≤ 7 ∧ u8 q 3 ≤ 15 ∧ u8 q 4 ≤ 3 ∧ 1 ≤ u8 q 5 ∧ u16 q 6 ≤ 500
          ∧ -500000000 ≤ sx 32 (u32 q 8) ∧ sx 32 (u32 q 8) ≤ 500000000) then failCmd u 0x13 else
      okCmd (timeTouched (setShws ([(Reg.timeServoCfg,
          wd (u8 q 0 + 16 * u8 q 1 + 256 * u8 q 2 + 4096 * u8 q 3 + 65536 * u8 q 4 + 2 ^ 24 * u8 q 5)), (Reg.timePpsCfg, wd (u16 q 6)),
        (Reg.timeRateTrim, w32 q 8)] ++ (List.range 4).map (fun n => (Reg.timePortAsym n, wd (u16 q (12 + 2 * n))))) u)) [])))
  ∧ (Admitted 0x65 p s b u → exec (.beaconConfig p) s = .next (concluded 0x65 p b u (
      if ¬(q.length = 4) then failCmd u 0x11 else
      if ¬(u8 q 0 ≤ 5 ∧ u8 q 1 ≤ 15 ∧ zeros q 2 2 = true) then failCmd u 0x13 else
      okCmd (timeTouched (setShw Reg.timeBeaconCfg (wd (u8 q 0 + 16 * u8 q 1)) u)) [])))
  ∧ (Admitted 0x63 p s b u → exec (.triggerSet p) s = .next (concluded 0x63 p b u (
      if ¬(q.length = 20) then failCmd u 0x11 else
      if ¬(u8 q 0 ≤ 15 ∧ u8 q 1 ≤ 3 ∧ u8 q 2 ≤ 1 ∧ u8 q 3 = 0 ∧ (u8 q 1 = 2 → 10000 ≤ u32 q 12)) then failCmd u 0x13 else
      if ¬(trigFits u (u8 q 1) (u64 q 4) (u32 q 12) = true) then failCmd u 0x13 else
      if ¬(trigState u (u8 q 1) = true) then failCmd u 0x30 else
      let k : Fin 16 := Fin.ofNat 16 (u8 q 0)
      let t := takeTrigger k (setShws [(Reg.timeTrgCfg k, wd (u8 q 1 + 4 * u8 q 2)), (Reg.timeTrgInstLo k, w32 q 4),
        (Reg.timeTrgInstHi k, w32 q 8), (Reg.timeTrgPeriod k, w32 q 12), (Reg.timeTrgCount k, w32 q 16)] u)
      okCmd t (le 8 (if t.time.trigs[k].armed then t.time.trigs[k].next else 0)))))
  ∧ (Admitted 0x64 p s b u → exec (.captureConfig p) s = .next (concluded 0x64 p b u (
      if ¬(q.length = 4) then failCmd u 0x11 else
      if ¬(u8 q 0 ≤ 7 ∧ u8 q 1 ≤ 6 ∧ 1 ≤ u8 q 2 ∧ u8 q 2 ≤ 3 ∧ u8 q 3 ≤ 1) then failCmd u 0x13 else
      let t := setShw (Reg.timeCapCfg (u8 q 0)) (wd (u8 q 1 + 16 * u8 q 2 + 256 * u8 q 3)) u
      okCmd { t with time := { t.time with
        caps := vmodN t.time.caps (u8 q 0) (fun x => { x with valid := false, overrun := false }) } } [])))
  ∧ (Admitted 0x66 p s b u → exec (.epochSet p) s = .next (concluded 0x66 p b u (
      if ¬(q.length = 12) then failCmd u 0x11 else
      if ¬(1000 ≤ u32 q 0 ∧ u32 q 0 ≤ 1000000) then failCmd u 0x13 else
      if ¬(u.time.ns + 1000000 ≤ u64 q 4 ∧ u64 q 4 ≤ u.time.ns + 1000000000000) then failCmd u 0x13 else
      if ¬(periodFits u.shadow (curCarrier u) (u32 q 0) = true) then failCmd u 0x13 else
      if ¬(isLamplighter u = true ∧ timeAcq u = true ∧ u.time.sched = none) then failCmd u 0x30 else
      okCmd { u with time := { u.time with sched := some ⟨u32 q 0, u64 q 4, 0⟩, epoch := none, lastAcq := none } } [])))

/-- For a schedule of period P (1,000 to 1,000,000 us), base instant T0 and base number N0: at every instant from the
start of epoch N0 + k, T0 + k·P, to the start of the next, the epoch is N0 + k modulo 2^32; before T0 it is N0 - 1,
which is 0xFFFFFFFF when N0 = 0; and that number is what GET_STATUS reports while time runs and is acquired, so that
N0 passes the test of R24 and is the next boundary. -/
def Obligations.EpochNumbers : Prop :=
  ∀ c : Schedule, 1000 ≤ c.p → c.p ≤ 1000000 →
    (∀ k t : Nat, c.t0 + k * (1000 * c.p) ≤ t → t < c.t0 + (k + 1) * (1000 * c.p) → epochAt c t = c.n0 + BitVec.ofNat 32 k)
  ∧ (∀ t, t < c.t0 → epochAt c t = c.n0 - 1) ∧ (c.n0 = 0 → ∀ t, t < c.t0 → epochAt c t = 0xFFFFFFFF)
  ∧ (∀ k : Nat, k < 2 ^ 32 → epochStart c (c.n0 + BitVec.ofNat 32 k) = c.t0 + k * (1000 * c.p))
  ∧ (∀ s : State, s.time.sched = some c → s.time.state ≠ .stopped → s.time.acq = true → s.time.ns < c.t0 →
      reportEpoch s = c.n0 - 1 ∧ nextEpoch s = some c.n0 ∧ targetBad s c.n0 = none)
  ∧ (∀ s : State, (s.time.sched = none ∨ s.time.state = .stopped ∨ s.time.acq = false) →
      currentEpoch s = none ∧ reportEpoch s = 0 ∧ ∀ e, targetBad s e = some 0x30)

/-- Each checks LENGTH, values and state in Table 2-5's order. FABRIC_JOIN begins a join (or leave) of a device that
has not (has) joined. FABRIC_STATUS and ROUTE_READ return Table 11-11 and the route entries and change nothing.
MODE_PREPARE, on the lamplighter with epochs running, sends the change to every device and is accepted with this one's
own answer noted; MODE_COMMIT orders a fully prepared change, early enough, to commit or abort; PORT_CONFIG reinstates
and configures the named ports; LAMPLIGHTER_PRIORITY writes LINK_CFG. -/
def Obligations.FabricCommands : Prop :=
  ∀ (p : Packet) (s : State) (b : Bool) (u : State), let q := p.params
(Admitted 0x70 p s b u → exec (.fabricJoin p) s = .next (concluded 0x70 p b u (
      if ¬(q.length = 4) then failCmd u 0x11 else
      if ¬(u8 q 0 ≤ 1 ∧ zeros q 1 3 = true) then failCmd u 0x13 else
      if ¬(u.link.joined = decide (u8 q 0 = 1)) then failCmd u 0x30 else
      let t := if u8 q 0 = 0 then joinFabric u else leaveFabric u
      acceptCmd { t with link := { t.link with joining := some (decide (u8 q 0 = 0)) } })))
  ∧ (Admitted 0x71 p s b u → exec (.fabricStatus p) s = .next (concluded 0x71 p b u (
      if ¬(q.length = 0) then failCmd u 0x11 else
      okCmd u (le 4 (linkStatWord u) ++ [(llShown u).1, portByte u.link.parent,
          if u.link.joined then BitVec.ofNat 8 u.link.depth else 0xFF, BitVec.ofNat 8 (deviceCount u)]
        ++ allPorts.map (fun n => (BitVec.ofNat 8 (portStatWord u n) : Byte)) ++ le 2 u.link.modeGen.toNat ++ le 2 u.link.modeId.toNat
        ++ le 2 (prepId u) ++ [0, 0] ++ le 4 (prepTarget u) ++ le 8 (llShown u).2.2.toNat ++ le 4 u.link.topoGen.toNat))))
  ∧ (Admitted 0x72 p s b u → exec (.routeRead p) s = .next (concluded 0x72 p b u (
      if ¬(q.length = 4) then failCmd u 0x11 else
      if ¬(u8 q 0 ≤ 0xFD ∧ u8 q 0 + u8 q 1 ≤ 254 ∧ zeros q 2 2 = true) then failCmd u 0x13 else
      okCmd u ((List.range (u8 q 1)).flatMap (fun i => routeEntry u (u8 q 0 + i))))))
  ∧ (Admitted 0x73 p s b u → exec (.modePrepare p) s = .next (concluded 0x73 p b u (
      if ¬(12 ≤ q.length ∧ q.length = 12 + 12 * u16 q 10) then failCmd u 0x11 else
      if ¬((changeOf q).id ≠ 0 ∧ ((changeOf q).newP = 0 ∨ (1000 ≤ (changeOf q).newP ∧ (changeOf q).newP ≤ 1000000)) ∧ u16 q 10 ≤ 255
          ∧ (∀ i < u16 q 10, zeros q (13 + 12 * i) 3 = true) ∧ ∀ w ∈ (changeOf q).writes, modeAddr w.addr.toNat = true) then failCmd u 0x13 else
      if ¬(isLamplighter u = true ∧ (currentEpoch u).isSome = true) then failCmd u 0x30 else
      if ¬(modeTargetOk (changeOf q).target u = true) then failCmd u 0x13 else
      if ¬(u.link.flight = none ∧ u.link.prep = none) then failCmd u 0x31 else
      if ¬(modeCheck (changeOf q) u = 0) then failCmd u 0x13 else
      let t := (takeChange (changeOf q) u).2
      acceptCmd (modeToAll (modeDevices u) (preparePayload (changeOf q)) { t with link := { t.link with flight := some {
        change := changeOf q, asked := modeDevices u, acks := [(ownAddr t, 0)], prepared := false, commitSent := false
        commitAcks := [], applied := [], aborted := false, abortAcks := [] } } }))))
  ∧ (Admitted 0x75 p s b u → exec (.portConfig p) s = .next (concluded 0x75 p b u (
      if ¬(q.length = 4) then failCmd u 0x11 else
      if ¬(1 ≤ u8 q 0 ∧ u8 q 0 ≤ 15 ∧ u8 q 1 ≤ 2 ∧ u8 q 2 ≤ 7 ∧ u8 q 3 = 0) then failCmd u 0x13 else
      let ns := allPorts.filter (fun n => (u8 q 0).testBit n.val)
      let t := if (u8 q 2).testBit 2 then
        ns.foldl (fun t n => reinstatePort (BitVec.ofNat 8 (roleOf t p.origin).toNat) n t) u else u
      okCmd (ns.foldl (fun t n => portTouch n t)
        (setShws (ns.map (fun n => (Reg.linkPortCfg n, wd (u8 q 1 + 4 * (u8 q 2 % 4))))) t)) [])))
  ∧ (Admitted 0x76 p s b u → exec (.lamplighterPriority p) s = .next (concluded 0x76 p b u (
      if ¬(q.length = 4) then failCmd u 0x11 else
      if ¬(u8 q 1 ≠ 0xFE ∧ u8 q 2 ≤ 1 ∧ u8 q 3 = 0) then failCmd u 0x13 else
      okCmd (touchDb (setShw Reg.linkCfg (wd (u8 q 0 + 256 * u8 q 1 + 65536 * u8 q 2)) u)) [])))
  ∧ (Admitted 0x74 p s b u → exec (.modeCommit p) s = .next (concluded 0x74 p b u (
      if ¬(q.length = 4) then failCmd u 0x11 else
      if ¬(u8 q 2 ≤ 1 ∧ u8 q 3 = 0) then failCmd u 0x13 else
      match u.link.flight.filter (fun f => f.change.id == BitVec.ofNat 16 (u16 q 0)) with
      | none =>
        if u.link.prep.any (fun x => x.change.id == BitVec.ofNat 16 (u16 q 0)) = true then failCmd u 0x30 else failCmd u 0x13
      | some f =>
        if isLamplighter u = true ∧ f.prepared = true ∧ f.aborted = false ∧ f.commitSent = false
            ∧ (u8 q 2 = 0 → u.time.ns + 2000000 ≤ targetStart f.change u) then acceptCmd (orderAll (decide (u8 q 2 = 0)) f u)
        else failCmd u 0x30)))

/-- Each checks LENGTH, values and state. STREAM_DEFINE, of a stream that does not run, withdraws its admission and
writes its words. STREAM_ADMIT runs the checks of R370 in order: a failing one is NOT_ADMITTED (0x40) with its number;
a host drain is granted its share at once; a stream to a device asks it, and its reply comes later. STREAM_START and
STREAM_STOP set the start or stop of the named streams at the named or next epoch. STREAM_READ releases up to ACK and
returns whole records; DRAIN_DECLARE writes the drain's words. -/
def Obligations.StreamCommands : Prop :=
  ∀ (p : Packet) (s : State) (b : Bool) (u : State), let q := p.params
(Admitted 0x80 p s b u → exec (.streamDefine p) s = .next (concluded 0x80 p b u (
      if ¬(q.length = 24) then failCmd u 0x11 else
      if ¬(u8 q 0 ≤ 15 ∧ u8 q 1 ≤ 3 ∧ u8 q 3 ≤ 1 ∧ u16 q 4 ≤ 0x1FF ∧ u8 q 7 ≤ 1 ∧ zeros q 22 2 = true
          ∧ streamOk (streamDef (fileSets (streamWords12 q) u.shadow) (Fin.ofNat 16 (u8 q 0)).val) (inForce u) (periodUs u) = true) then failCmd u 0x13 else
      if ¬((u.res.streams[(Fin.ofNat 16 (u8 q 0) : Fin 16)] : StreamSt).running = false) then failCmd u 0x30 else
      okCmd (modStream (Fin.ofNat 16 (u8 q 0)) (fun (x : StreamSt) => { x with seq := 0 })
        (withShadow (fileSets (streamWords12 q) u.shadow) (withdraw (Fin.ofNat 16 (u8 q 0)) u))) [])))
  ∧ (Admitted 0x82 p s b u → exec (.streamStart p) s = .next (concluded 0x82 p b u (
      if ¬(q.length = 8) then failCmd u 0x11 else
      if ¬(u8 q 2 ≤ 1 ∧ u8 q 3 = 0) then failCmd u 0x13 else
      if ¬((currentEpoch u).isSome = true) then failCmd u 0x30 else
      if ¬(u8 q 2 = 1 → targetBad u (w32 q 4) = none) then failCmd u 0x13 else
      if ¬(∀ k ∈ streamsOf (u16 q 0), (u.res.streams[k] : StreamSt).admitted = true ∧ (u.res.streams[k] : StreamSt).rx = none) then failCmd u 0x30 else
      let e := if u8 q 2 = 1 then w32 q 4 else reportEpoch u + 1
      okCmd ((streamsOf (u16 q 0)).foldl (fun t k => modStream k (fun (x : StreamSt) =>
          if x.running then { x with stopAt := none } else { x with startAt := some e }) t) u)
        (le 4 e.toNat ++ le 2 (sumNat (((streamsOf (u16 q 0)).filter (fun k => !(u.res.streams[k] : StreamSt).running)).map
          (fun k => 2 ^ k.val))) ++ [0, 0]))))
  ∧ (Admitted 0x83 p s b u → exec (.streamStop p) s = .next (concluded 0x83 p b u (
      if ¬(q.length = 8) then failCmd u 0x11 else
      if ¬(u8 q 2 ≤ 1 ∧ u8 q 3 = 0) then failCmd u 0x13 else
      if ¬((currentEpoch u).isSome = true) then failCmd u 0x30 else
      if ¬(u8 q 2 = 1 → targetBad u (w32 q 4) = none) then failCmd u 0x13 else
      let e := if u8 q 2 = 1 then w32 q 4 else reportEpoch u + 1
      okCmd ((streamsOf (u16 q 0)).foldl (fun t k => modStream k (fun (x : StreamSt) =>
          if x.running then { x with stopAt := some e } else { x with startAt := none }) t) u)
        (le 4 e.toNat ++ le 2 (sumNat (((streamsOf (u16 q 0)).filter (fun k => (u.res.streams[k] : StreamSt).running)).map
          (fun k => 2 ^ k.val))) ++ [0, 0]))))
  ∧ (Admitted 0x84 p s b u → exec (.streamRead p) s = .next (concluded 0x84 p b u (
      if ¬(q.length = 8) then failCmd u 0x11 else
      if ¬(u8 q 0 ≤ 15 ∧ u8 q 1 = 0 ∧ u16 q 2 ≤ 4088 ∧ streamDrain u (Fin.ofNat 16 (u8 q 0)).val = 2) then failCmd u 0x13 else
      let k : Fin 16 := Fin.ofNat 16 (u8 q 0)
      let t := releaseRecs k (fun r => laterW (w32 q 4) r.seq) u
      let st : StreamSt := t.res.streams[k]
      let rs := fitRecs (u16 q 2) st.recs
      let next : Word := match rs.getLast? with
        | some r => r.seq + 1
        | none => (st.recs.head?.map (·.seq)).getD st.seq
      okCmd t (le 4 next.toNat ++ le 2 (rs.flatMap (·.bytes)).length ++ [0, 0] ++ rs.flatMap (·.bytes)))))
  ∧ (Admitted 0x85 p s b u → exec (.drainDeclare p) s = .next (concluded 0x85 p b u (
      if ¬(q.length = 12) then failCmd u 0x11 else
      if ¬(u8 q 0 ≤ 2 ∧ u32 q 8 ≤ 10000000 ∧ zeros q 1 3 = true
          ∧ drainOk u (fileSets [(Reg.resDrainRate (u8 q 0), w32 q 4), (Reg.resDrainLat (u8 q 0), w32 q 8)] u.shadow) (u8 q 0) = true) then failCmd u 0x13 else
      okCmd (withShadow (fileSets [(Reg.resDrainRate (u8 q 0), w32 q 4), (Reg.resDrainLat (u8 q 0), w32 q 8)] u.shadow) u) [])))
  ∧ (Admitted 0x81 p s b u → exec (.streamAdmit p) s = .next (concluded 0x81 p b u (
      if ¬(q.length = 4) then failCmd u 0x11 else
      if ¬(u8 q 0 ≤ 15 ∧ u8 q 1 = 0) then failCmd u 0x13 else
      if ¬(u.time.sched ≠ none ∧ streamDefined u (Fin.ofNat 16 (u8 q 0)).val = true
          ∧ (u.res.streams[(Fin.ofNat 16 (u8 q 0) : Fin 16)] : StreamSt).running = false
          ∧ (u.res.streams[(Fin.ofNat 16 (u8 q 0) : Fin 16)] : StreamSt).rx = none) then failCmd u 0x30 else
      if ¬((u.res.streams[(Fin.ofNat 16 (u8 q 0) : Fin 16)] : StreamSt).asking = none) then failCmd u 0x31 else
      let k : Fin 16 := Fin.ofNat 16 (u8 q 0)
      let d := streamDef u.shadow k.val
      let (chk, e, r, share, pages) := admitChecks k (inForce u) ((periodUs u).getD 1) (u16 q 2) u
      let base := (fitPages pages 0 (sharesBut u k)).getD 0
      let bad : Nat → CmdResult := fun c => { st := u, status := 0x40, data := admitData e r share 0 c }
      if chk ≠ 0 then bad chk
      else if d.drain ≠ 3 then okCmd (grant k base pages e r u) (admitData e r share pages 0)
      else match routePort u (BitVec.ofNat 8 d.dest) with
        | none => bad 6
        | some n => match reservePort (ownAddr u) k.val n r u with
          | none => bad 6
          | some t =>
            let t := modStream k (fun (x : StreamSt) =>
              { x with asking := some ⟨p.origin, p.tag, BitVec.ofNat 8 d.dest, pages, base, e, r, share⟩ }) t
            { st := sendRouted (admissionFrame t (BitVec.ofNat 8 d.dest) k.val d.iface e r d.sources false) t
              status := 0x00, silent := true })))

/-- Each checks LENGTH and values. FAULT_READ returns the status of a block and its sources, or of every block.
FAULT_ACK clears exactly the sources named that stand in FLT_STAT, with their raised severity, empties FLT_FIRST when
none is left, leaves the rest of the block and every other block, and returns them. SEVERITY_SET writes a source's
severity and enable; THERMAL_CONFIG its register; HEALTH_READ returns Table 14-12. -/
def Obligations.FaultCommands : Prop :=
  ∀ (p : Packet) (s : State) (b : Bool) (u : State), let q := p.params
(Admitted 0x90 p s b u → exec (.faultRead p) s = .next (concluded 0x90 p b u (
      if ¬(q.length = 4) then failCmd u 0x11 else
      if ¬((u8 q 0 ≤ 13 ∨ u8 q 0 = 0xFF) ∧ zeros q 1 3 = true) then failCmd u 0x13 else
      if u8 q 0 = 0xFF then okCmd u ((List.range 14).flatMap (fun k => le 4 (fltStat u k))) else
      okCmd u ([BitVec.ofNat 8 (u8 q 0), BitVec.ofNat 8 (maskBits 32 (fltStat u (u8 q 0))).length, 0, 0]
        ++ le 4 (fltStat u (u8 q 0)) ++ le 4 (fltOf u (u8 q 0)).first.toNat ++ le 4 (shw u (Reg.flt (u8 q 0) 1)).toNat
        ++ (maskBits 32 (fltStat u (u8 q 0))).flatMap (faultEntry u p.origin (u8 q 0))))))
  ∧ (Admitted 0x91 p s b u → exec (.faultAck p) s = .next (concluded 0x91 p b u (
      if ¬(q.length = 8) then failCmd u 0x11 else
      if ¬(u8 q 0 ≤ 13 ∧ zeros q 1 3 = true) then failCmd u 0x13 else
      okCmd (acknowledge (u8 q 0) (u32 q 4 &&& fltStat u (u8 q 0)) u) (le 4 (u32 q 4 &&& fltStat u (u8 q 0))))))
  ∧ (Admitted 0x92 p s b u → exec (.severitySet p) s = .next (concluded 0x92 p b u (
      if ¬(q.length = 4) then failCmd u 0x11 else
      if ¬(u8 q 0 ≤ 13 ∧ u8 q 1 < sourceCount (u8 q 0) ∧ u8 q 2 ≤ 4 ∧ u8 q 3 ≤ 1 ∧ ¬(u8 q 0 = 0 ∧ u8 q 1 = Src.sysSafeRestored)) then failCmd u 0x13 else
      okCmd (setShws [(Reg.flt (u8 q 0) (2 + u8 q 1 / 10),
          setFld (shw u (Reg.flt (u8 q 0) (2 + u8 q 1 / 10))) (3 * (u8 q 1 % 10)) 3 (u8 q 2)),
        (Reg.flt (u8 q 0) 1, setFld (shw u (Reg.flt (u8 q 0) 1)) (u8 q 1) 1 (u8 q 3))] u) [])))
  ∧ (Admitted 0x93 p s b u → exec (.thermalConfig p) s = .next (concluded 0x93 p b u (
      if ¬(q.length = 4) then failCmd u 0x11 else
      if ¬(85 ≤ u8 q 0 ∧ u8 q 0 ≤ 125 ∧ 1 ≤ u8 q 1 ∧ u8 q 1 ≤ 20 ∧ 60 ≤ u8 q 2 ∧ u8 q 2 ≤ 125 ∧ u8 q 3 ≤ 1) then failCmd u 0x13 else
      okCmd (setShw Reg.hkpCfg (wd (u8 q 0 + 256 * u8 q 1 + 65536 * u8 q 2 + 2 ^ 24 * u8 q 3)) u) [])))
  ∧ (Admitted 0x94 p s b u → exec (.healthRead p) s = .next (concluded 0x94 p b u (
      if ¬(q.length = 0) then failCmd u 0x11 else
      okCmd u (healthData (if u.time.state = .stopped then 0 else u.time.ns) u))))
  ∧ (∀ (k : Fin 14) (m : Nat) (t : State), t = acknowledge k.val m s →
      (∀ j, fltStat t k.val = fltStat s k.val &&& (2 ^ 32 - 1 - m % 2 ^ 32) ∧ (t.flt.blocks[k] : FaultSt).items.any (fun x => m.testBit x.source) = false
        ∧ (fltStat t k.val = 0 → (t.flt.blocks[k] : FaultSt).first = 0)
        ∧ ((j : Fin 14) ≠ k → t.flt.blocks[j] = s.flt.blocks[j]))
      ∧ (s.safe.hold = false → t.shadow = s.shadow ∧ t.sec = s.sec ∧ t.safe = s.safe ∧ t.brdg = s.brdg ∧ t.res = s.res))

/-- Each checks LENGTH and values. KEY_SET with the right MAC (all zero without a session) is accepted with its key,
unwrapped except for the update key; a wrong MAC is journaled as AUTH_FAIL and returns NOT_PERMITTED. JOURNAL_READ
returns Table 15-9 with the entries from FROM on, marks them read by its slot, and a release in it needs R463.
IMAGE_BEGIN invalidates and erases the inactive slot's region for a permitted header; IMAGE_DATA appends in order;
IMAGE_END, IMAGE_ACTIVATE and DECODE_LOAD are accepted under their checks. -/
def Obligations.KeyImageCommands : Prop :=
  ∀ (p : Packet) (s : State) (b : Bool) (u : State), let q := p.params
(Admitted 0xA0 p s b u → exec (.keySet p) s = .next (concluded 0xA0 p b u (
      if ¬(q.length = 84) then failCmd u 0x11 else
      if ¬(u8 q 0 ≤ 3 ∧ u8 q 1 ≤ 1 ∧ zeros q 2 2 = true ∧ (u8 q 1 = 1 → u8 q 0 < 2) ∧ (u8 q 0 ≠ 3 → zeros q 36 32 = true)
          ∧ (u8 q 1 = 1 → zeros q 4 64 = true)) then failCmd u 0x13 else
      if ¬(u8 q 0 = 3 → onCurve (unbe ((q.drop 4).take 32), unbe (((q.drop 4).take 64).drop 32)) = true) then failCmd u 0x13 else
      let t := u8 q 0
      let field := (q.drop 4).take 64
      let role := (roleOf u p.origin).toNat
      let slot := slotOf u p.origin
      let n : Byte := match slot with | some k => (u.sec.sessions[k] : Session).keySets | none => 0
      let ks : List Byte := match slot with | some k => (u.sec.sessions[k] : Session).ks | none => []
      let want := if role = 0 then List.replicate 16 (0 : Byte) else
        (hmac ks ([0x4B, 0x4D, 0x41, 0x43, BitVec.ofNat 8 t, BitVec.ofNat 8 (u8 q 1), n] ++ field)).take 16
      let key := if t = 3 ∨ role = 0 then field else xorBytes field (hmac ks ([0x57, 0x52, 0x41, 0x50, BitVec.ofNat 8 t, n]))
      if (q.drop 68).take 16 = want then
        acceptCmd (edgeLine 20 { u with sec := { u.sec with
          keyJob := some ⟨t, u8 q 1 == 1, key.take (if t = 3 then 64 else 32), if role = 0 then none else slot⟩ } })
      else { st := journalAuthFail 0xA0 slot p.origin role role
               (match slot with | some k => (u.sec.sessions[k] : Session).fails | none => 0) false u
             status := 0x20, ownEntry := true })))
  ∧ (Admitted 0xA2 p s b u → exec (.journalPolicy p) s = .next (concluded 0xA2 p b u (
      if ¬(q.length = 4) then failCmd u 0x11 else
      if ¬(u8 q 0 ≤ 1 ∧ zeros q 1 3 = true) then failCmd u 0x13 else
      acceptCmd u)))
  ∧ (Admitted 0xA8 p s b u → exec (.imageBegin p) s = .next (concluded 0xA8 p b u (
      if ¬(q.length = 164) then failCmd u 0x11 else
      if ¬((u8 q 0 = 1 ∨ u8 q 0 = 2) ∧ u8 q 1 ≤ 1 ∧ zeros q 2 2 = true ∧ headerOk (u8 q 0) (q.drop 4) = true) then failCmd u 0x13 else
      if headerPermitted u (u8 q 0) (q.drop 4) = false then failCmd (raise 13 Src.secImageCheck noItem u) 0x20 else
      let other := !u.sec.keys.confirmed
      let t := eraseRegion other (u8 q 0) (modSlot other (fun i => { i with valid := false })
        (modRegionOf other (u8 q 0) (some (mkImage (q.drop 4) [])) u))
      let t := if t.sec.keys.pendingAct then keysUpdate { t.sec.keys with pendingAct := false, trial := 0 } t else t
      okCmd (edgeLine 20 { t with sec := { t.sec with transfer := some ⟨BitVec.ofNat 8 (u8 q 0), u8 q 1 == 1, q.drop 4, []⟩ } })
        [if other then 1 else 0, 0, 0, 0])))
  ∧ (Admitted 0xA9 p s b u → exec (.imageData p) s = .next (concluded 0xA9 p b u (
      if ¬(5 ≤ q.length) then failCmd u 0x11 else
      match u.sec.transfer with
      | none => failCmd u 0x30
      | some t =>
        let bytes := t.received ++ q.drop 4
        if u32 q 0 ≠ t.received.length ∨ u32 t.header 16 < bytes.length then failCmd u 0x13 else
        let v := modRegionOf (!u.sec.keys.confirmed) t.kind.toNat (some (mkImage t.header bytes)) u
        okCmd (edgeLine 19 { v with sec := { v.sec with transfer := some { t with received := bytes } } }) (le 4 bytes.length))))
  ∧ (Admitted 0xAA p s b u → exec (.imageEnd p) s = .next (concluded 0xAA p b u (
      if ¬(q.length = 0) then failCmd u 0x11 else
      if ¬(u.sec.transfer.isSome = true) then failCmd u 0x30 else
      acceptCmd u)))
  ∧ (Admitted 0xAB p s b u → exec (.imageActivate p) s = .next (concluded 0xAB p b u (
      if ¬(q.length = 4) then failCmd u 0x11 else
      if ¬(u8 q 0 ≤ 1 ∧ zeros q 1 3 = true) then failCmd u 0x13 else
      if ¬((u8 q 0 == 1) ≠ u.sec.keys.confirmed → (imageSlot u (u8 q 0 == 1)).valid = true ∧ (imageSlot u (u8 q 0 == 1)).fw ≠ none) then failCmd u 0x30 else
      if ¬((u8 q 0 == 1) ≠ u.sec.keys.confirmed → (imageSlot u (u8 q 0 == 1)).fw.all
          (fun f => decide (u.sec.keys.fwCounter.toNat ≤ f.rollback.toNat)) = true) then failCmd u 0x20 else
      acceptCmd u)))
  ∧ (Admitted 0xAC p s b u → exec (.decodeLoad p) s = .next (concluded 0xAC p b u (
      if ¬(q.length = 1248) then failCmd u 0x11 else
      if ¬(headerOk 3 (q.take 160) = true) then failCmd u 0x13 else
      if ¬(∀ k ∈ List.range 16, bitOf (w32 (q.drop 160) (4 * k)) 8 = true → fld (w32 (q.drop 160) (4 * k)) 16 8 ≠ 0) then failCmd u 0x13 else
      if headerPermitted u 3 (q.take 160) = true ∧ sha256 (q.drop 160) = ((q.take 160).drop 32).take 32 then acceptCmd (edgeLine 20 u)
      else failCmd (raise 13 Src.secImageCheck noItem u) 0x20)))
  ∧ (∀ k : Fin 6, Admitted 0xA1 p s b u → slotOf u p.origin = some k →
      let rel := u8 q 6 = 1
      let t := if u8 q 6 = 1 then release k (u32 q 8) u else u
      let out := (t.nvm.journal.filter (fun e => decide (u32 q 0 ≤ e.seq))).take (u16 q 4)
      let ok := u16 q 4 ≤ 127 ∧ u8 q 6 ≤ 1 ∧ u8 q 7 = 0
      (q.length ≠ 12 → exec (.journalRead p) s = .next (concluded 0xA1 p b u (failCmd u 0x11)))
      ∧ (q.length = 12 → ¬(ok ∧ (rel → releaseOk u k (u32 q 8) = true)) →
          exec (.journalRead p) s = .next (concluded 0xA1 p b u (failCmd u 0x13)))
      ∧ (q.length = 12 → ok → (rel → releaseOk u k (u32 q 8) = true) →
          exec (.journalRead p) s = .next (concluded 0xA1 p b u (okCmd { t with
              nvm := { t.nvm with journal := t.nvm.journal.map (fun (e : JEntry) =>
                if out.any (fun x => x.seq == e.seq) then { e with read := true, readBy := e.readBy ||| (1#6 <<< k.val) } else e) }
              sec := { t.sec with lostSinceRead := false } }
            (le 4 (journalHead t) ++ le 4 (journalOldest t) ++ le 4 t.sec.keys.released.toNat ++ le 2 out.length
              ++ [BitVec.ofNat 8 (b1 t.sec.keys.policy),
                  BitVec.ofNat 8 (b1 (journalFull t) + 2 * b1 (journalRefuses t) + 4 * b1 t.sec.lostSinceRead)]
              ++ (hmac (t.sec.sessions[k] : Session).ks ([0x4A, 0x48, 0x45, 0x44] ++ le 4 (journalHead t) ++ lastChain t)).take 16
              ++ out.flatMap entryBytes)))))

/-- A completion event whose command is not outstanding changes nothing (a join or survey: none under way).
SET_POWER_STATE: the power state reached is answered with its duration, to EMBER or RETAIN by way of DORMANT with
entry armed for the pop of the reply. SAVE_CONFIG: the older copy gets the next number and the words saved, or is left
invalid with NVM_FAIL. LOAD_CONFIG: the newer copy is loaded and the default mark ends, NVM_FAIL without one.
CAPTURE_REFERENCE stores a stable reference only; NOISE_SURVEY ends; FABRIC_JOIN succeeds with an address held, else
TIMEOUT. -/
def Obligations.Completions : Prop :=
  ∀ (s : State) (us : Nat) (r : NvmResult),
    (findOut s 0x08 = none → exec (.powerTransitionComplete us) s = .next s)
  ∧ (findOut s 0x0C = none → exec (.saveConfigDone r) s = .next s)
  ∧ (findOut s 0x0D = none → exec .loadConfigDone s = .next s)
  ∧ (s.grid.capture = none → exec (.captureReferenceDone r) s = .next s)
  ∧ (s.carr.survey = none → exec .noiseSurveyDone s = .next s)
  ∧ (s.link.joining = none → exec .fabricJoinDone s = .next s)
  ∧ (∀ x o, s.sys.trans = some x → findOut s 0x08 = some o → x.boundary = false → s.sys.inReset = false → asleep s = false →
      ∃ t : State, exec (.powerTransitionComplete us) s = .next (completeDeferred 0x08 0x00 ([BitVec.ofNat 8 (powerCode x.target), 0]
          ++ le 2 (min 0xFFFF us)) (if x.target = .ember ∨ x.target = .retain then .ember else .normal) t)
      ∧ (x.start = s.sys.power → x.target = .dormant ∨ x.target = .standby ∨ x.target = .active →
          t.sys.power = x.target ∧ t.sys.emberArmed = none ∧ t.sys.trans = none)
      ∧ (x.target = .dormant → t.sys.held = false)
      ∧ (x.start = s.sys.power → x.target = .ember ∨ x.target = .retain → t.sys.power = .dormant)
      ∧ (x.target = .ember ∨ x.target = .retain → t.sys.emberArmed = some x.target)
      ∧ (x.target = x.start → s.sys.held = false → t.time = s.time ∧ t.link = s.link ∧ t.shadow = s.shadow ∧ t.active = s.active))
  ∧ (∀ o, findOut s 0x0C = some o →
      let seq : Word := match newerCfg s with | some (_, c) => c.seq + 1 | none => Config.firstSave
      let copy : CfgCopy := ⟨seq, s.sec.fwVersion, s.sec.saving⟩
      let u := countErases (if olderCfg s then 399 else 384) 15 (edgeLine 19 s)
      let u : State := { u with sec := { u.sec with saving := [] } }
      (r = .ok → exec (.saveConfigDone r) s = .next (completeDeferred 0x0C 0x00 (cfgData (olderCfg s) copy) .normal
          (nvmGood (if olderCfg s then 399 else 384) 15 (putCfg (olderCfg s) (some copy) u))))
      ∧ (r ≠ .ok → exec (.saveConfigDone r) s = .next (completeDeferred 0x0C 0x60 [] .normal
          (nvmFailed r (if olderCfg s then 399 else 384) 15 (putCfg (olderCfg s) none u)))))
  ∧ (∀ o, findOut s 0x0D = some o →
      (newerCfg s = none → exec .loadConfigDone s = .next (completeDeferred 0x0D 0x60 [] .normal s))
      ∧ (∀ b c, newerCfg s = some (b, c) → exec .loadConfigDone s = .next (completeDeferred 0x0D 0x00 (cfgData b c) .normal
          { loadItems c.items s with sys := { (loadItems c.items s).sys with cfgDefault := false } })))
  ∧ (∀ c, s.grid.capture = some c →
      let full := captureFull s c && c.firstEpoch.isSome
      let over1 := c.ended || !gridRuns s
      let u : State := { s with grid := { s.grid with capture := none } }
      (full = false → over1 = false → exec (.captureReferenceDone r) s = .next s)
      ∧ (full = false → over1 = true → exec (.captureReferenceDone r) s = .next (completeDeferred 0x15 0x30 [] .normal u))
      ∧ (full = true → (captureSpread u c).1 ≠ 0 → ∃ d, exec (.captureReferenceDone r) s = .next (completeDeferred 0x15 0x00 (0 :: d) .normal u))
      ∧ (full = true → (captureSpread u c).1 = 0 → r = .ok → ∃ d t,
          exec (.captureReferenceDone r) s = .next (completeDeferred 0x15 0x00 (1 :: d) .normal t)
          ∧ t.grid.refValid = true ∧ ∃ img, t.nvm.reference = some img ∧ t.gram = memWrite refAt img s.gram)
      ∧ (full = true → (captureSpread u c).1 = 0 → r ≠ .ok → ∃ t,
          exec (.captureReferenceDone r) s = .next (completeDeferred 0x15 0x60 [] .normal t) ∧ t.grid.refValid = false
          ∧ t.nvm.reference = none ∧ t.gram = s.gram))
  ∧ (∀ v, s.carr.survey = some v → ∃ d t, exec .noiseSurveyDone s = .next (completeDeferred 0x32 0x00
        ([BitVec.ofNat 8 (if v.values = 0 then 0 else (maskBits 16 v.mask).length),
          if v.standalone && v.running then 2 else if v.running then 1 else 0, 0, 0] ++ d) .normal t)
      ∧ t.carr.survey = none ∧ t.shadow = s.shadow ∧ t.active = s.active ∧ t.grid = s.grid)
  ∧ (∀ j, s.link.joining = some j →
      let u : State := { s with link := { s.link with joining := none } }
      exec .fabricJoinDone s = .next (if j = false ∨ s.link.addr ≠ none then completeDeferred 0x70 0x00 (joinData u) .normal u
        else completeDeferred 0x70 0x51 [] .normal u))

/-- Without its command outstanding (or its job or transfer) a completion changes nothing. KEY_SET that succeeds has
the key area hold the new key and installed mark, ends every other session of the role whose key it changed, and
counts in its own; a failure answers NVM_FAIL and leaves the keys. IMAGE_END refuses a transfer that is short or whose
digest differs, else makes the slot valid, or NVM_FAIL. IMAGE_ACTIVATE sets whether an activation is pending with no
trial made; DECODE_LOAD loads the decode table and its rollback counter. -/
def Obligations.KeyImageCompletions : Prop :=
  ∀ (s : State) (r : NvmResult),
    ((findOut s 0xA0 = none ∨ s.sec.keyJob = none) → exec (.keySetDone r) s = .next s)
  ∧ (findOut s 0xA2 = none → exec (.journalPolicyDone r) s = .next s)
  ∧ ((findOut s 0xAA = none ∨ s.sec.transfer = none) → exec (.imageEndDone r) s = .next s)
  ∧ (findOut s 0xAB = none → exec (.imageActivateDone r) s = .next s)
  ∧ (findOut s 0xAC = none → exec (.decodeLoadDone r) s = .next s)
  ∧ (∀ o j, findOut s 0xA0 = some o → s.sec.keyJob = some j →
      (r = .ok → ∃ t : State, exec (.keySetDone r) s = .next (completeDeferred 0xA0 0x00 [] .normal t) ∧ t.sec.keyJob = none
        ∧ t.sec.keys.opKey = (keyApply j s.sec.keys).opKey ∧ t.sec.keys.instKey = (keyApply j s.sec.keys).instKey
        ∧ t.sec.keys.makerKey = (keyApply j s.sec.keys).makerKey ∧ t.sec.keys.imageKey = (keyApply j s.sec.keys).imageKey
        ∧ t.sec.keys.installed = (keyApply j s.sec.keys).installed
        ∧ (∀ k : Fin 6, j.slot ≠ some k → s.sec.sessions[k].role.toNat = j.target + 1 → j.target < 2 →
            (keyApply j s.sec.keys).installed ≠ s.sec.keys.installed → t.sec.sessions[k].role = 0)
        ∧ (∀ k : Fin 6, s.sec.sessions[k].role.toNat ≠ j.target + 1 → t.sec.sessions[k].role = s.sec.sessions[k].role)
        ∧ (∀ k : Fin 6, j.slot = some k → t.sec.sessions[k].keySets = s.sec.sessions[k].keySets + 1
            ∧ t.sec.sessions[k].role = s.sec.sessions[k].role))
      ∧ (r ≠ .ok → ∃ t : State, exec (.keySetDone r) s = .next (completeDeferred 0xA0 0x60 [] .normal t) ∧ t.sec.keyJob = none
        ∧ t.sec.keys = s.sec.keys ∧ t.sec.sessions = s.sec.sessions))
  ∧ (∀ o, findOut s 0xA2 = some o →
      (r = .ok → ∃ t : State, exec (.journalPolicyDone r) s = .next (completeDeferred 0xA2 0x00 [] .normal t)
        ∧ t.sec.keys.policy = decide (u8 o.params 0 = 1))
      ∧ (r ≠ .ok → exec (.journalPolicyDone r) s = .next (completeDeferred 0xA2 0x60 [] .normal (edgeLine 19 (keysFail r s)))))
  ∧ (∀ o x, findOut s 0xAA = some o → s.sec.transfer = some x →
      let u := edgeLine 19 { s with sec := { s.sec with transfer := none } }
      let good := x.received.length = u32 x.header 16 ∧ sha256 x.received = (x.header.drop 32).take 32
      let other := !s.sec.keys.confirmed
      (¬good → exec (.imageEndDone r) s = .next (completeDeferred 0xAA 0x20 [] .normal (raise 13 Src.secImageCheck noItem u)))
      ∧ (good → r = .ok → ∃ t : State, exec (.imageEndDone r) s = .next (completeDeferred 0xAA 0x00
            ([if other then 1 else 0, 0, 0, 0] ++ (x.header.drop 32).take 8) .normal t)
          ∧ t.sec.transfer = none ∧ imageSlot t s.sec.keys.confirmed = imageSlot s s.sec.keys.confirmed
          ∧ (x.kind.toNat = 1 → (imageSlot t other).valid = true ∧ (imageSlot t other).fw = (imageSlot s other).fw
              ∧ (imageSlot t other).ext = (if x.dropMaker then none else (imageSlot s s.sec.keys.confirmed).ext)
              ∧ (imageSlot t other).dec = (if x.dropMaker then none else (imageSlot s s.sec.keys.confirmed).dec)))
      ∧ (good → r ≠ .ok → exec (.imageEndDone r) s = .next (completeDeferred 0xAA 0x60 [] .normal
            (nvmFailed r (if other then 192 else 0) 98 u))))
  ∧ (∀ o, findOut s 0xAB = some o →
      let b := u8 o.params 0 == 1
      let pend := b != s.sec.keys.confirmed
      (r = .ok → ∃ t : State, exec (.imageActivateDone r) s = .next (completeDeferred 0xAB 0x00
          [if b then 1 else 0, if pend then 1 else 0, 0, 0] .normal t) ∧ t.sec.keys.pendingAct = pend ∧ t.sec.keys.trial = 0
          ∧ t.sec.keys.confirmed = s.sec.keys.confirmed)
      ∧ (r ≠ .ok → exec (.imageActivateDone r) s = .next (completeDeferred 0xAB 0x60 [] .normal (edgeLine 19 (keysFail r s)))))
  ∧ (∀ o, findOut s 0xAC = some o →
      (r = .ok → ∃ t : State, exec (.decodeLoadDone r) s = .next (completeDeferred 0xAC 0x00 [] .normal t)
          ∧ t.sec.keys.makerCounter = w32 (o.params.take 160) 12
          ∧ (imageSlot t s.sec.keys.confirmed).dec = some (mkImage (o.params.take 160) (o.params.drop 160)))
      ∧ (r ≠ .ok → ∃ t : State, exec (.decodeLoadDone r) s = .next (completeDeferred 0xAC 0x60 [] .normal t)
          ∧ (imageSlot t s.sec.keys.confirmed).dec = none ∧ t.eng.decode = s.eng.decode))

/-- While the window answers in full: a byte written anywhere in 0x0100-0x01FF is appended while fewer than 4,104 are
stored, and is counted either way; while SUBMITTED = 1 it is discarded and sets CMD_OVERRUN, a doorbell of 1 or 2 is
ignored, and each of these counts a protocol event. A submit with bytes sets SUBMITTED, with none does nothing; 0x02
empties the buffer. A reply read returns the byte at the cursor, which advances; past the end or with no reply 0x00
and RPL_UNDERRUN. A pop removes the head reply and admits a held one; a rewind returns the cursor. (R88, R90) -/
def Obligations.CommandMailbox : Prop :=
  (∀ (i : Iface) (s : State) (b : Byte) (off : Nat), windowLive i s = true → windowLow s = false → 0x100 ≤ off → off < 0x200 →
    let h := hostPort s i
    (h.mbox.submitted = false →
      let t := modPort i (fun x => { x with mbox := { x.mbox with
        buf := if h.mbox.buf.length < 4104 then h.mbox.buf ++ [b] else h.mbox.buf, count := sat16 h.mbox.count 1 } }) s
      exec (.cmdMailboxWrite i b) s = .next t ∧ windowWrite i off b s = t)
    ∧ (h.mbox.submitted = true →
      let t := raise 1 Src.hifProtocol noItem (protoCount i (modPort i (fun x => { x with portStat := x.portStat ||| 1 }) s))
      exec (.cmdMailboxWrite i b) s = .next t ∧ windowWrite i off b s = t
      ∧ exec (.doorbellSubmit i) s = .next (raise 1 Src.hifProtocol noItem (protoCount i s))
      ∧ exec (.doorbellDiscard i) s = .next (raise 1 Src.hifProtocol noItem (protoCount i s)))
    ∧ (h.mbox.submitted = false →
      exec (.doorbellSubmit i) s = .next (if h.mbox.count = 0 then s else
        modPort i (fun x => { x with mbox := { x.mbox with submitted := true } }) s)
      ∧ exec (.doorbellDiscard i) s = .next (modPort i (fun x => { x with mbox := { buf := [], count := 0, submitted := false } }) s)))
  ∧ (∀ (i : Iface) (s : State), (hostPort (protoCount i s) i).protoCnt = sat16 (hostPort s i).protoCnt 1
      ∧ (hostPort (protoCount i s) i).mbox = (hostPort s i).mbox)
  ∧ (∀ (i : Iface) (s : State), windowLive i s = true → windowLow s = false →
      let h := hostPort s i
      (∀ r l, h.replies = r :: l → h.rplCursor < r.bytes.length → exec (.replyMailboxRead i) s =
        .next (modPort i (fun x => { x with rplCursor := x.rplCursor + 1, lastRead := [r.bytes.getD h.rplCursor 0] }) s))
    ∧ ((h.replies = [] ∨ ∃ r l, h.replies = r :: l ∧ r.bytes.length ≤ h.rplCursor) → exec (.replyMailboxRead i) s =
        .next (modPort i (fun x => { x with portStat := x.portStat ||| 2, lastRead := [0] }) s))
    ∧ (h.replies = [] → exec (.replyPop i) s = .next s)
    ∧ (∀ r l, h.replies = r :: l →
        let t := edgeLine 15 (modPort i (fun x => { x with
          rplCursor := 0, replies := l ++ x.heldReplies.take 1, heldReplies := x.heldReplies.drop 1 }) s)
        exec (.replyPop i) s = .next (if r.purpose = .reset then resetBegin t else
          if r.purpose = .ember then (match s.sys.emberArmed with | some d => sleepEnter d t | none => t) else t))
    ∧ exec (.replyRewind i) s = .next (modPort i (fun x => { x with rplCursor := 0 }) s))
  ∧ (∀ (i : Iface) (s : State) (b : Byte), windowLive i s = false →
      exec (.cmdMailboxWrite i b) s = .next s ∧ exec (.doorbellSubmit i) s = .next s ∧ exec (.doorbellDiscard i) s = .next s
      ∧ exec (.replyMailboxRead i) s = .next s ∧ exec (.replyPop i) s = .next s ∧ exec (.replyRewind i) s = .next s)

/-- While the window answers in full: a stream port read returns the next byte of the whole records of the interface's
drain in order of completion, or 0x00 with RD_UNDERRUN; a commit releases exactly the records read whole, moving the
cursor back by their bytes; a rewind puts it at 0. An alarm read returns the next byte of the oldest entry, which
leaves after its 32nd byte, on one cursor for both interfaces. A status read latches the field. 0xA5 is an exit
request in EMBER and RETAIN only; 0x5A releases WAKEn. REPLY_STALL raises its source while the queue holds eight. -/
def Obligations.PortsAndWake : Prop :=
  (∀ (i : Iface) (s : State), windowLive i s = true → windowLow s = false →
      let all := (portRecs i s).flatMap (fun r => r.2.bytes)
      let c := (hostPort s i).rdCursor
      (∀ x l, all.drop c = x :: l → exec (.streamPortRead i) s =
        .next (modPort i (fun h => { h with rdCursor := c + 1, lastRead := [x] }) s))
    ∧ (all.drop c = [] → exec (.streamPortRead i) s =
        .next (modPort i (fun h => { h with portStat := h.portStat ||| 4, lastRead := [0] }) s))
    ∧ exec (.streamRewind i) s = .next (modPort i (fun h => { h with rdCursor := 0 }) s)
    ∧ (∃ t, exec (.streamCommit i) s = .next t ∧ t.shadow = s.shadow ∧ t.active = s.active ∧ t.hif.alarmCursor = s.hif.alarmCursor
        ∧ (hostPort t i).replies = (hostPort s i).replies ∧ (hostPort t i).mbox = (hostPort s i).mbox
        ∧ (hostPort t i).rdCursor = c - sumNat ((readRecs c (portRecs i s)).map (fun r => r.2.bytes.length)))
    ∧ (s.res.alarms = [] → exec (.alarmPortRead i) s =
        .next (modPort i (fun h => { h with portStat := h.portStat ||| 8, lastRead := [0] }) s))
    ∧ (∀ e l, s.res.alarms = e :: l → s.hif.alarmCursor < 31 → exec (.alarmPortRead i) s =
        .next (modPort i (fun h => { h with lastRead := [e.getD s.hif.alarmCursor 0] })
          { s with hif := { s.hif with alarmCursor := s.hif.alarmCursor + 1 } }))
    ∧ (∀ e l, s.res.alarms = e :: l → 31 ≤ s.hif.alarmCursor → exec (.alarmPortRead i) s =
        .next (modPort i (fun h => { h with lastRead := [e.getD s.hif.alarmCursor 0] })
          { s with hif := { s.hif with alarmCursor := 0 }, res := { s.res with alarms := l } }))
    ∧ (∀ (off : Half) (l : List Byte), off.toNat < 0x100 → statusField i off.toNat s = some (off.toNat, l) → 1 < l.length →
        exec (.statusFieldLatch i off) s = .next (modPort i (fun h => { h with latch := some (off.toNat, l), lastRead := [l.headD 0] }) s)
        ∧ ∀ (k : Nat) (v : List Byte) (t : State), 0 < k → k < l.length → (hostPort t i).latch = some (off.toNat, l) →
          statusField i (off.toNat + k) t = some (off.toNat, v) → statusRead i (off.toNat + k) t = (l.getD k 0, t))
    ∧ exec (.wakeExitRequest i) s = .next s)
  ∧ (∀ (i : Iface) (s : State), windowLive i s = true →
      exec (.wakeRelease i) s = .next { s with hif := { s.hif with wakePin := false } })
  ∧ (∀ s : State, (s.sys.power = .ember ∨ s.sys.power = .retain) → s.sys.inReset = false → s.sys.exitPend = false →
      let t := { s with sys := { s.sys with exitPend := true }, hif := { s.hif with wakePin := false } }
      exec (.wakeExitRequest .twi) s = .next t ∧ exec .csnExitRequest s = .next t)
  ∧ (∀ s : State, ((s.sys.power ≠ .ember ∧ s.sys.power ≠ .retain) ∨ s.sys.exitPend = true) → exec .csnExitRequest s = .next s)
  ∧ (∀ (i : Iface) (s : State), (windowLow s = false → 8 ≤ (hostPort s i).replies.length →
        exec (.replyStall i) s = .next (raise 1 Src.hifReplyStall noItem s))
      ∧ ((windowLow s = true ∨ (hostPort s i).replies.length < 8) → exec (.replyStall i) s = .next s))

/-- An address phase ends any earlier selection, puts the address settings in force and selects the target where they
acknowledge it. A written byte goes to the pointer's offset, and the pointer advances within its 64-byte page; a read
byte comes from the pointer's offset, and the pointer advances by one, wrapping from 0xFFFF to 0; a byte not ready
without stretching is 0xFF and sets NOT_READY. A STOP ends the transaction; a condition inside a byte sets BUS_ERR and
counts; with TIMEOUT_EN a timeout sets its bit, counts and releases the bus; bytes to a target not selected do
nothing. (R100) -/
def Obligations.TwoWireTarget : Prop :=
  (∀ (s : State) (b : Byte), windowLive .twi s = true → s.hif.twiSel = some false →
      exec (.i2cWriteByte b) s = .next (windowWrite .twi s.hif.twi.pointer.toNat b
        (modPort .twi (fun h => { h with pointer := if h.pointer.toNat % 64 = 63 then h.pointer - 63 else h.pointer + 1 }) s)))
  ∧ (∀ (s : State) (ready : Bool), windowLive .twi s = true → s.hif.twiSel = some true →
      let t := modPort .twi (fun h => { h with pointer := h.pointer + 1 }) s
      ((ready = true ∨ (bitOf s.hif.twiCfg.1 2 = true ∧ windowLow s = false)) → exec (.i2cReadByte ready) s =
        .next (returned1 .twi (windowRead .twi s.hif.twi.pointer.toNat t)))
    ∧ (ready = false → (bitOf s.hif.twiCfg.1 2 = false ∨ windowLow s = true) → exec (.i2cReadByte ready) s =
        .next (returned1 .twi (0xFF, { t with hif := { t.hif with i2cStat := s.hif.i2cStat ||| 8 } }))))
  ∧ (∀ (s : State) (lo hi : Byte), windowLive .twi s = true → s.hif.twiSel = some false →
      exec (.pointerLoad lo hi) s = .next { s with hif := { s.hif with twi := { s.hif.twi with pointer := hi ++ lo } } })
  ∧ (∀ (ptr : Half) (bs : List Byte) (s : State), windowLive .quad s = true →
      exec (.qspiWrite ptr bs) s = .next (quadWrites bs ptr (quadSelect s))
      ∧ ∃ l t, exec (.qspiRead ptr bs.length) s = .next t ∧ l.length = bs.length ∧ t.hif.quad.lastRead = l
          ∧ t.hif.quad.pointer = ptr + BitVec.ofNat 16 bs.length)
  ∧ (∀ (ptr : Half) (b : Byte) (bs : List Byte) (t : State), quadWrites (b :: bs) ptr t =
        quadWrites bs (if ptr.toNat % 64 = 63 then ptr - 63 else ptr + 1) (windowWrite .quad ptr.toNat b t)
      ∧ quadWrites [] ptr t = { t with hif := { t.hif with quad := { t.hif.quad with pointer := ptr } } })
  ∧ (∀ (s : State) (b lo hi : Byte) (ready stop : Bool), windowLive .twi s = true → s.hif.twiSel = none →
      exec (.i2cWriteByte b) s = .next s ∧ exec (.i2cReadByte ready) s = .next s ∧ exec (.pointerLoad lo hi) s = .next s
      ∧ exec (.condDiscard stop) s = .next s)
  ∧ (∀ (s : State) (a : BitVec 7) (read : Bool), windowLive .twi s = true →
      ∃ t, exec (.i2cAddressPhase a read false) s = .next t
      ∧ t.hif.twiCfg = (if s.sys.cfgLoaded then (shw s Reg.hifI2cCfg, shw s Reg.hifI2cAddr, shw s Reg.hifI2cMask) else s.hif.twiCfg)
      ∧ (twiAcks t.hif.twiCfg a = true → t.hif.twiSel = some read ∧ t.hif.lastAddr = a)
      ∧ (twiAcks t.hif.twiCfg a = false → t.hif.twiSel = none ∧ t.hif.lastAddr = s.hif.lastAddr)
      ∧ t.hif.twi.pointer = s.hif.twi.pointer ∧ t.hif.twi.latch = none ∧ t.hif.busBusy = true ∧ t = { s with hif := t.hif })
  ∧ (∀ s : State, windowLive .twi s = true →
      exec (.stopCondition false) s = .next (setLatch .twi none { s with hif := { s.hif with twiSel := none, busBusy := false } })
      ∧ (∀ stop, s.hif.twiSel = some false → exec (.condDiscard stop) s = .next (raise 1 Src.hifProtocol noItem (protoCount .twi
          (setLatch .twi none { s with hif := { s.hif with i2cStat := s.hif.i2cStat ||| 4, twiSel := none, busBusy := !stop } }))))
      ∧ (bitOf s.hif.twiCfg.1 3 = true →
          exec .sclTimeout s = .next (raise 1 Src.hifProtocol noItem (protoCount .twi
            (setLatch .twi none { s with hif := { s.hif with i2cStat := s.hif.i2cStat ||| 1, twiSel := none } })))
        ∧ exec .sdaTimeout s = .next (raise 1 Src.hifProtocol noItem (protoCount .twi
            (setLatch .twi none { s with hif := { s.hif with i2cStat := s.hif.i2cStat ||| 2, twiSel := none } }))))
      ∧ (bitOf s.hif.twiCfg.1 3 = false → exec .sclTimeout s = .next s ∧ exec .sdaTimeout s = .next s))

/-- While the interface answers: BULK_READ of n bytes returns the next n bytes of whole records from the quad
interface's stream cursor, which advances by those delivered; past HW_RD_AVAIL it returns 0x00 bytes, sets RD_UNDERRUN
and leaves the cursor in place; it is the cursor of the stream port, of its commit and rewind. READ_STATE returns
HW_STATE n times. An aborted transaction sets ABORT, an unknown instruction code BAD_INSTR, and each counts a protocol
event. (R109) -/
def Obligations.QuadTarget : Prop :=
  ∀ s : State, windowLive .quad s = true → let u := quadSelect s
    (∀ n : Nat, let all := ((portRecs .quad s).flatMap (fun r => r.2.bytes)).drop s.hif.quad.rdCursor
      ∃ t, exec (.bulkRead n) s = .next t ∧ t.hif.quad.lastRead = all.take n ++ List.replicate (n - all.length) 0
      ∧ t.hif.quad.lastRead.length = n ∧ all.length = rdAvail .quad s
      ∧ t.hif.quad.rdCursor = s.hif.quad.rdCursor + min n all.length
      ∧ t.hif.quad.portStat = (if all.length < n then s.hif.quad.portStat ||| 4 else s.hif.quad.portStat)
      ∧ t.res = s.res ∧ t.hif.twi = s.hif.twi
      ∧ portRecs .quad t = portRecs .quad s)
  ∧ (∀ n : Nat, exec (.readState n) s = .next (modPort .quad (fun h => { h with lastRead := List.replicate n (hwState s) }) u))
  ∧ exec .csAbort s = .next (raise 1 Src.hifProtocol noItem (protoCount .quad
      { s with hif := { s.hif with qspiStat := s.hif.qspiStat ||| 1, csLow := false } }))
  ∧ (∀ c : Byte, (c = 0x02 ∨ c = 0x0B ∨ c = 0x05 ∨ c = 0x3B → exec (.badInstr c) s = .next s)
      ∧ (c ≠ 0x02 → c ≠ 0x0B → c ≠ 0x05 → c ≠ 0x3B → exec (.badInstr c) s = .next (raise 1 Src.hifProtocol noItem (protoCount .quad
          { u with hif := { u.hif with qspiStat := s.hif.qspiStat ||| 2 } }))))

/-- A trigger with no reset standing makes a full reset of its cause: DORMANT, the cause recorded, PREV and COUNT
moved on (POR clears both), NVM kept, every other part at its reset value but what Table 4-9 keeps, the snuff list and
keys from NVM. While a reset stands, one reset of the lower cause results. A supply out of range, TMODE high or a
thermal shutdown holds the device in reset. The commanded reset is the armed one; a soft reset keeps the shadow, the
active registers and a running time base. The watchdog warns once and its expiry resets; both only outside EMBER and
RETAIN. -/
def Obligations.Resets : Prop :=
  (∀ (c : Nat) (s : State), 1 ≤ c → c ≤ 7 → let t := fullReset c s
      t.sys.power = .dormant ∧ t.sys.cause.toNat = c ∧ t.sys.prev = (if c = 1 then 0 else s.sys.cause)
    ∧ t.sys.count = (if c = 1 then 0 else sat16 s.sys.count 1) ∧ t.sys.inReset = (s.sys.supplyOut || s.sys.tmode || s.sys.thermal)
    ∧ t.nvm = s.nvm ∧ t.shadow = [] ∧ t.active = [] ∧ t.gram = [] ∧ t.res = {} ∧ t.eng = {} ∧ t.grid = {} ∧ t.tch = {} ∧ t.carr = {}
    ∧ t.brdg = {} ∧ t.conv = {} ∧ t.time = {} ∧ t.hkp = {} ∧ t.flt = {} ∧ t.safe.hold = false
    ∧ t.safe.latch = (s.safe.latch && decide (3 ≤ c)) ∧ t.sec.keys = loadedKeys s ∧ t.sec.sessions = (({} : State).sec.sessions)
    ∧ t.sec.outstanding = [] ∧ t.hif.twi.replies = [] ∧ t.hif.quad.replies = [] ∧ t.sys.fwRun = false ∧ t.sys.cfgLoaded = false
    ∧ t.pending = s.pending)
  ∧ (∀ s : State, s.sys.inReset = false →
      exec .por s = .next (fullReset 1 { s with sys := { s.sys with lostAlwaysOn := false, thermal := false } })
    ∧ (∀ lost, exec (.supplyReset lost) s =
        .next (fullReset 2 { s with sys := { s.sys with supplyOut := true, lostAlwaysOn := s.sys.lostAlwaysOn || lost } }))
    ∧ exec .pinReset s = .next (fullReset 3 s)
    ∧ exec .resetBegin s = .next (match s.sys.resetArmed with
        | some true => fullReset 4 s | some false => softReset s | none => s)
    ∧ (s.sys.power = .dormant ∨ s.sys.power = .standby ∨ s.sys.power = .active → exec .watchdogExpiry s = .next (fullReset 6 s)
        ∧ (s.eng.wdWarned = false → exec .wdogWarn s = .next (raise 11 Src.engWdogWarn noItem
            { s with eng := { s.eng with wdWarned := true, warns := sat16 s.eng.warns 1 } }))
        ∧ (s.eng.wdWarned = true → exec .wdogWarn s = .next s)))
  ∧ (∀ s : State, s.sys.inReset = true → (s.sys.thermal = false ∨ s.sys.thermalReset = true) → ∃ t, exec .pinReset s = .next t
      ∧ t.sys.cause.toNat = min 3 s.sys.cause.toNat ∧ t.sys.prev = s.sys.prev ∧ t.sys.count = s.sys.count
      ∧ t.sys.inReset = (s.sys.supplyOut || s.sys.tmode || s.sys.thermal) ∧ t = { s with sys := t.sys })
  ∧ (∀ s : State, (s.sys.inReset = true ∨ s.sys.power = .ember ∨ s.sys.power = .retain) →
      exec .watchdogExpiry s = .next s ∧ exec .wdogWarn s = .next s
      ∧ exec .lpoTick s = .next { s with sys := { s.sys with lpoMs := s.sys.lpoMs + 1 } })
  ∧ (∀ s : State, s.sys.inReset = false → asleep s = false → ∃ t, exec .lpoTick s = .next t ∧ t.sys.lpoMs = s.sys.lpoMs + 1
      ∧ t.eng.wdLeft = s.eng.wdLeft - 1 ∧ t.eng.edges.getLsbD 17 = true ∧ t.eng.busy ≤ max s.eng.busy 1000
      ∧ t = { s with sys := t.sys, eng := { s.eng with wdLeft := t.eng.wdLeft, edges := t.eng.edges, busy := t.eng.busy }, freeCtr := t.freeCtr })
  ∧ (∀ s : State, ∃ t, t = softReset s ∧ t.sys.power = .dormant ∧ t.sys.cause = 5 ∧ t.sys.prev = s.sys.cause
      ∧ t.sys.held = timeRuns s ∧ t.sys.cfgLoaded = false ∧ t.sys.fwRun = false ∧ t.time = s.time ∧ t.sec.outstanding = []
      ∧ (∀ k : Fin 6, t.sec.sessions[k].role = 0) ∧ t.hif.twi.pointer = 0 ∧ t.sec.cfgLock = s.sec.cfgLock ∧ t.nvm.cfg0 = s.nvm.cfg0)
  ∧ (∀ s : State, (s.sys.thermal = true → exec .thermalShutdown s = .next s) ∧ (s.sys.thermal = false → ∃ t, exec .thermalShutdown s = .next t
      ∧ t.sys.thermal = true ∧ t.sys.inReset = true ∧ t.sys.thermalReset = s.sys.inReset ∧ t.time.state = .stopped ∧ t.brdg.excOn = 0
      ∧ t.grid.frame = none ∧ t.grid.running = false ∧ t.nvm = s.nvm ∧ t.shadow = s.shadow))
  ∧ (∀ s : State, let u : State := { s with sys := { s.sys with thermal := false, thermalReset := false } }
      exec .thermalRestart s = .next (if s.sys.thermal = false then s else if s.sys.thermalReset = false then fullReset 7 u
        else { u with sys := { u.sys with inReset := s.sys.supplyOut || s.sys.tmode } }))
  ∧ (∀ s : State, (s.sys.supplyOut = false → exec .supplyBackInRange s = .next s)
      ∧ (s.sys.supplyOut = true → s.sys.lostAlwaysOn = false → exec .supplyBackInRange s = .next { s with sys :=
          { s.sys with supplyOut := false, lostAlwaysOn := false, inReset := s.sys.tmode || s.sys.thermal } })
      ∧ (s.sys.supplyOut = true → s.sys.lostAlwaysOn = true → exec .supplyBackInRange s = .next (fullReset 1 { s with sys :=
          { s.sys with supplyOut := false, lostAlwaysOn := false, thermal := false } })))
  ∧ (∀ (s : State) (h : Bool), exec (.tmodeChange h) s = .next { s with sys := { s.sys with
        tmode := h, inReset := if s.sys.inReset then s.sys.supplyOut || h || s.sys.thermal else false } })
  ∧ (∀ (s : State) (core : Bool), exec (.pllUnlock core) s = .next
      (if s.sys.inReset = false ∧ (if core then s.sys.power = .standby ∨ s.sys.power = .active else s.time.state ≠ .stopped) then
        raise 0 Src.sysPllUnlock noItem s else s))

/-- After a soft reset the firmware runs again from word 0 with the shadows as they are. IMAGE_SELF_CHECK, while the
loader runs, counts a trial of a pending image, starts a slot that passes, falls back after three failed trials, and
enters recovery with no slot left. The configuration load takes the newer copy or raises CONFIG_ABSENT, and ends
start-up. An armed entry to EMBER or RETAIN ends every session; an exit lands in DORMANT. A closing reset shadow
restarts its block. The journal, snuff list, key area and SAFE log rows act only when due. -/
def Obligations.StartUp : Prop :=
  (∀ s : State, s.sys.inReset = false → asleep s = false → s.sys.fwRun = false → s.sec.recovery = false →
      (s.sys.cause = 5 → ∃ t, exec .firmwareRestart s = .next t ∧ t.sys.fwRun = true ∧ t.sys.cfgLoaded = true ∧ t.shadow = s.shadow
        ∧ t.time = s.time ∧ t.nvm = s.nvm)
      ∧ (s.sys.cause ≠ 5 → exec .firmwareRestart s = .next s))
  ∧ (∀ (s : State) (ok : Bool), (loaderRuns s = false → exec (.imageSelfCheck ok) s = .next s)
      ∧ (loaderRuns s = true → ∃ t, exec (.imageSelfCheck ok) s = .next t
        ∧ (s.sec.keys.pendingAct = false → s.sec.keyAreaDefault = false →
            (ok = true → (imageSlot s s.sec.keys.confirmed).valid = true →
              ((imageSlot s s.sec.keys.confirmed).fw.any (fun x => decide (s.sec.keys.fwCounter.toNat ≤ x.rollback.toNat))) = true →
              t.sys.fwRun = true ∧ t.sys.slot = s.sec.keys.confirmed ∧ t.sec.recovery = false)
          ∧ ((ok = false ∨ (imageSlot s s.sec.keys.confirmed).valid = false) → t.sec.recovery = true ∧ t.sys.fwRun = false))
        ∧ (s.sec.keys.pendingAct = true → ok = false →
            t.sys.fwRun = false ∧ t.sec.recovery = false
          ∧ (s.sec.keys.trial.toNat < 2 → t.sec.keys.trial.toNat = s.sec.keys.trial.toNat + 1 ∧ t.sec.keys.pendingAct = true)
          ∧ (2 ≤ s.sec.keys.trial.toNat → t.sec.keys.pendingAct = false ∧ t.sys.fallback = true))))
  ∧ (∀ s : State, s.sys.inReset = false → asleep s = false → s.sys.fwRun = true → s.sys.cfgLoaded = false → s.sys.cause ≠ 5 →
      ∃ t, exec .startupConfigLoad s = .next t ∧ t.sys.cfgLoaded = true
        ∧ (∀ b c, newerCfg s = some (b, c) → t.shadow = mergeItems c.items s.shadow ∧ t.sys.cfgDefault = false)
        ∧ (newerCfg s = none → t.shadow = s.shadow ∧ t.sys.cfgDefault = true))
  ∧ (∀ s : State, (s.sys.inReset = true ∨ s.sys.fwRun = false ∨ s.sys.cfgLoaded = true) → exec .startupConfigLoad s = .next s)
  ∧ (∀ s : State, (s.sys.emberArmed = none ∨ s.sys.inReset = true → exec .emberEntry s = .next s)
      ∧ (∀ b, s.sys.emberArmed = some b → s.sys.inReset = false → ∃ t, exec .emberEntry s = .next t ∧ t.sys.power = b
          ∧ (∀ k : Fin 6, t.sec.sessions[k].role = 0 ∧ t.sec.sessions[k].challenge = none) ∧ t.sec.outstanding = []
          ∧ t.hif.twi.replies = [] ∧ t.hif.quad.replies = [] ∧ t.link.joined = false ∧ t.link.addr = none
          ∧ t.res = s.res ∧ t.shadow = s.shadow ∧ t.nvm.snuff0 = s.nvm.snuff0 ∧ t.snuff = s.snuff))
  ∧ (∀ s : State, (asleep s = false ∨ s.sys.exitPend = false ∨ s.sys.inReset = true → exec .exitComplete s = .next s)
      ∧ (asleep s = true → s.sys.exitPend = true → s.sys.inReset = false → s.flt.deferred = [] → ∃ t, exec .exitComplete s = .next t
          ∧ t.sys.power = .dormant ∧ t.sys.exitPend = false ∧ t.eng.wdLeft = wdTimeout s ∧ t.eng.wdWarned = false
          ∧ t.res = s.res ∧ t.shadow = s.shadow ∧ t.sec = s.sec))
  ∧ (∀ (s : State) (b : Fin 14) (k : Fin 2), exec (.stateParity b k) s =
        .next (if s.sys.inReset then s else raise b.val (paritySource b.val k) noItem s)
      ∧ exec (.blockResetRestart b) s = .next (if (∃ x ∈ s.flt.shadows, x.block = b.val) ∧ s.sys.inReset = false then
          restartBlock b.val { s with flt := { s.flt with shadows := s.flt.shadows.filter (fun x => x.block != b.val) } } else s))
  ∧ (∀ s : State, (∀ w l c k, s.safe.logDue = w :: l → newerKeys s = some (c, k) → k.safeLog.length < 255 →
        exec .safeLogProgram s = .next (putKeys c (some { k with safeLog := k.safeLog ++ [w] }) { s with safe := { s.safe with logDue := l } }))
      ∧ (s.safe.logDue = [] → exec .safeLogProgram s = .next s)
      ∧ (s.sec.raised = [] → exec .journalEntryProgram s = .next s)
      ∧ (s.sec.raised ≠ [] → exec .journalEntryProgram s = .next (edgeLine 19 (checkJournalFull (programOne s))))
      ∧ (∀ ok, s.nvm.eraseDue = none → exec (.journalSectorErase ok) s = .next s)
      ∧ (∀ d, s.nvm.eraseDue = some d → eraseBarred s d = true → ∀ ok, exec (.journalSectorErase ok) s = .next s)
      ∧ (∀ d, s.nvm.eraseDue = some d → eraseBarred s d = false → exec (.journalSectorErase true) s = .next (edgeLine 19 (eraseSector d s))
          ∧ exec (.journalSectorErase false) s = .next (edgeLine 19 (raise 12 Src.nvmEraseFail noItem (countErases (440 + d) 1 s))))
      ∧ (∀ r, s.snuffWrite = false → exec (.snuffListWrite r) s = .next s)
      ∧ (s.snuffWrite = true → ∃ t x, exec (.snuffListWrite .ok) s = .next t ∧ t.snuffWrite = false ∧ t.snuff = s.snuff
          ∧ x.items = snuffUnion (snuffDiff s.snuff s.snuffOff) s.snuffDue ∧ (t.nvm.snuff0 = some x ∨ t.nvm.snuff1 = some x)
          ∧ (∀ b c, newerSnuff s = some (b, c) → x.seq = c.seq + 1 ∧ (if b then t.nvm.snuff1 else t.nvm.snuff0) = some c))
      ∧ (s.snuffWrite = true → ∀ r, r ≠ .ok → ∃ t, exec (.snuffListWrite r) s = .next t ∧ t.snuffWrite = true)
      ∧ (∀ r, s.sec.keysDue = false → exec (.keyAreaUpdate r) s = .next s)
      ∧ (s.sec.keysDue = true → exec (.keyAreaUpdate .ok) s = .next (edgeLine 19 (keysUpdate s.sec.keys s))
          ∧ ∀ r, r ≠ .ok → exec (.keyAreaUpdate r) s = .next (edgeLine 19 (keysFail r s))))

/-- A source not enabled, or of a block whose reset shadow is open, raises nothing. Any other raise sets its FLT_STAT
bit, counts, and records FLT_FIRST when nothing was unacknowledged; no other block's fault registers change. Inside
the shadow of a block it consumes the raise is consequential and only recorded and journaled. Otherwise it takes the
configured severity, a repeat one more up to SAFE (NOTE stays NOTE): NOTE only records; WARN is journaled and sets IRQ
FAULT; DEGRADE snuffs the named item; RESET_BLOCK opens the block's reset shadow; SAFE begins the hold. In EMBER and
RETAIN the reaction is deferred. -/
def Obligations.Raising : Prop :=
  ∀ (b src item : Nat) (s : State), b < 14 → src < 32 →
    (s.flt.shadows.any (fun x => x.block == b) = true ∨ srcEnabled s b src = false → raise b src item s = s)
  ∧ (s.flt.shadows.any (fun x => x.block == b) = false → srcEnabled s b src = true →
      let t := raise b src item s
      let cause := if neverConsequential b src then none else s.flt.shadows.find? (fun x => (consumers x.block).contains b)
      let sev := (nextSeverity s b src item).1
      (nextSeverity s b src item = match (fltOf s b).items.find? (fun i => i.source == src && i.item == item && !i.conseq) with
        | some i => if srcSeverity s b src = 0 then (0, false) else (min 4 (i.severity + 1), true)
        | none => (srcSeverity s b src, false))
    ∧ (fltOf t b).stat = (fltOf s b).stat ||| (1#32 <<< src) ∧ (fltOf t b).raisedCnt = sat16 (fltOf s b).raisedCnt 1
    ∧ (fltOf t b).first = (if (fltOf s b).stat ≠ 0 then (fltOf s b).first else match cause with
        | some x => firstWord src 0 true false x.block x.source
        | none => firstWord src sev false (nextSeverity s b src item).2 0 0)
    ∧ (∀ k : Nat, k ≠ b → fltOf t k = fltOf s k) ∧ t.shadow = s.shadow ∧ t.nvm = s.nvm ∧ t.gram = s.gram ∧ t.pending = s.pending
    ∧ (∀ x, cause = some x → (fltOf t b).conseqCnt = sat16 (fltOf s b).conseqCnt 1 ∧ t.flt.shadows = s.flt.shadows
        ∧ t = { s with flt := t.flt, sec := { s.sec with raised := t.sec.raised } }
        ∧ (srcSeverity s b src = 0 → t.sec = s.sec)
        ∧ (1 ≤ srcSeverity s b src → ∃ e : RaisedEntry, e.kind = 4 ∧ e.result = 0 ∧ t.sec.raised = s.sec.raised ++ [e]))
    ∧ (cause = none → (fltOf t b).conseqCnt = (fltOf s b).conseqCnt
      ∧ (sev = 0 → t.sec = s.sec)
      ∧ (1 ≤ sev → ∃ e : RaisedEntry, e.kind = 4 ∧ e.result = BitVec.ofNat 8 sev ∧ (s.sec.raised ++ [e]) <+: t.sec.raised)
      ∧ (asleep s = true → t.flt.deferred = s.flt.deferred ++ [(b, src, item, sev)] ∧ t.flt.shadows = s.flt.shadows
          ∧ t = { s with flt := t.flt, sec := { s.sec with raised := t.sec.raised } })
      ∧ (asleep s = false → t.flt.deferred = s.flt.deferred
        ∧ (sev = 0 → t = { s with flt := t.flt })
        ∧ (sev = 1 → t = { s with flt := t.flt, hif := { s.hif with irqEvents := s.hif.irqEvents ||| 1 }
                                  sec := { s.sec with raised := t.sec.raised } })
        ∧ (1 ≤ sev → t.hif.irqEvents = s.hif.irqEvents ||| 1)
        ∧ (2 ≤ sev → item < itemCount b → itemSnuffed t b item = true)
        ∧ (sev = 3 → t.flt.shadows = s.flt.shadows ++ [⟨b, src⟩]) ∧ (sev ≠ 3 → t.flt.shadows = s.flt.shadows)
        ∧ (sev = 4 → t.safe.hold = true ∧ (s.safe.hold = false → t.safe.latch = true ∧ t.brdg.excOn = 0 ∧ t.grid.frame = none
            ∧ t.conv.paused = true ∧ t.safe.logDue = s.safe.logDue ++ [true]))
        ∧ (sev ≠ 4 → t.safe = s.safe))))

/-- While the time base runs in STANDBY or ACTIVE an edge of TRIG, PPSIN, or of SYNC as an enabled input is captured
by every unit of its source and edge: the instant stored, VALID set, OVERRUN where VALID was set. In ACTIVE a rising
SYNC edge requests the decimator reset, a TRIG edge of the selected polarity feeds the lanes of its source, a PPSIN
edge of the set polarity ends SET_AT_PPS or drives the PPS servo. PPSOUT rises at whole seconds of an acquired counter
and falls at its width. A trigger fires at its instant, feeds TIMER, counts, marks, and takes its next instant. -/
def Obligations.TimeEdges : Prop :=
  (∀ (falling : Bool) (t : Long) (s : State), let u : State := { s with hif := { s.hif with syncLevel := !falling } }
      let cfg := shw s Reg.hifPinCfg
      (bitOf cfg 4 = true → exec (.syncEdge falling t) s = .next s)
    ∧ (bitOf cfg 4 = false → (bitOf cfg 6 = false ∨ timeRuns s = false ∨ awake s = false) → exec (.syncEdge falling t) s = .next u)
    ∧ (bitOf cfg 4 = false → bitOf cfg 6 = true → timeRuns s = true → awake s = true → exec (.syncEdge falling t) s =
        .next (if falling = false ∧ (captureEdge 1 falling t u).sys.power = .active then syncReset t (captureEdge 1 falling t u)
          else captureEdge 1 falling t u)))
  ∧ (∀ (t : Long) (s : State), (s.conv.syncFrom = none → syncReset t s = { s with conv := { s.conv with
        syncEdge := t, syncFrom := some (t.toNat + fld (acw s Reg.convSyncCfg) 0 16 * 1000) } })
      ∧ (s.conv.syncFrom.isSome → syncReset t s = raise 6 Src.convSyncIgnored noItem { s with conv := { s.conv with syncEdge := t } }))
  ∧ (∀ (n : Fin 4) (falling : Bool) (t : Long) (s : State), let m : BitVec 4 := 1#4 <<< n.val
      let u : State := { s with hif := { s.hif with
        trigLevel := if falling then s.hif.trigLevel &&& ~~~m else s.hif.trigLevel ||| m } }
      let v := captureEdge (2 + n.val) falling t u
      ((timeRuns s = false ∨ awake s = false) → exec (.trigEdge n falling t) s = .next u)
    ∧ (timeRuns s = true → awake s = true → exec (.trigEdge n falling t) s =
        .next (if bitOf (shw v Reg.hifTrigCfg) (8 * n.val + b1 falling) then convEvent (sourceSel v 4 n.val) t.toNat v else v)))
  ∧ (∀ (src : Nat) (falling : Bool) (t : Long) (s : State) (c : Fin 8), (∀ k : Fin 8, s.time.caps[k].valid = false) ∨
        srcEnabled s 7 Src.timeCaptureOverrun = false → let cfg := shw s (Reg.timeCapCfg c)
      let x := s.time.caps[c]
      (captureEdge src falling t s).shadow = s.shadow
      ∧ (captureEdge src falling t s).time.caps[c] =
        if fld cfg 0 3 = src ∧ bitOf cfg (if falling then 5 else 4) = true then { x with
          time := t, valid := true, overrun := x.overrun || x.valid, falling := falling
          step := s.time.stepTick == some (s.time.ns, s.time.frac), count := sat16 x.count 1 } else x)
  ∧ (∀ (sel : Nat → Bool) (e : Nat) (s : State) (n : Fin 32), let x := s.conv.lanes[n]
      (convEvent sel e s).conv.lanes[n] = if laneOn s n.val && sel n.val then { x with
        trigs := sat16 x.trigs 1, evq := if laneBurst s.active n.val = 0 then x.evq else x.evq ++ [e] } else x)
  ∧ (∀ (falling : Bool) (t : Long) (s : State), let u := captureEdge 6 falling t s
      ((timeRuns s = false ∨ awake s = false) → exec (.ppsinEdge falling t) s = .next s)
    ∧ (timeRuns s = true → awake s = true →
        (falling ≠ bitOf (shw u Reg.timeServoCfg) 17 → exec (.ppsinEdge falling t) s = .next u)
      ∧ (falling = bitOf (shw u Reg.timeServoCfg) 17 →
          (∀ v, u.time.ppsSet = some v → let w : State := { u with time := { u.time with ppsSet := none } }
            exec (.ppsinEdge falling t) s = .next (if u.time.acq then stepTo (v + (u.time.ns - t.toNat)) w
              else acquireLamplighter (v + (u.time.ns - t.toNat)) w))
        ∧ (u.time.ppsSet = none → exec (.ppsinEdge falling t) s = .next (if u.time.ppsOn then ppsServo t.toNat u else u)))))
  ∧ (∀ (t : Nat) (s : State), let r := t % 1000000000
      let v : State := { s with time := { s.time with ppsSeen := true, ppsLost := false } }
      let kp := fld (shw s Reg.timeServoCfg) 8 3
      let ki := fld (shw s Reg.timeServoCfg) 12 4
      (r < 1000000 → ppsServo t s = noteTheta (r * 65536) (servo (r * 65536) 1000000000 kp ki { v with time := { v.time with bigTheta := none } }))
    ∧ (999000000 < r → ppsServo t s = noteTheta ((r - 1000000000) * 65536)
        (servo ((r - 1000000000) * 65536) 1000000000 kp ki { v with time := { v.time with bigTheta := none } }))
    ∧ (1000000 ≤ r → r < 500000000 → s.time.bigTheta = none →
        ppsServo t s = badExchange { v with time := { v.time with bigTheta := some ((r : Int) * 65536) } }))
  ∧ (∀ s : State, let lost := s.time.ppsOn && !s.time.ppsLost
      let u : State := { s with time := { s.time with ppsSet := none, ppsLost := s.time.ppsLost || lost } }
      (lost = false → s.time.ppsSet = none → exec .ppsLost s = .next s)
    ∧ ((lost = true ∨ s.time.ppsSet.isSome) → exec .ppsLost s =
        .next (raise 7 Src.timePpsLost noItem (if lost then setRate (clampY s.time.integ) u else u))))
  ∧ (∀ s : State, let w := fld (shw s Reg.timePpsCfg) 0 9
      (s.time.ppsOut = true → ∃ t, exec .ppsoutPulse s = .next t ∧ t.time.ppsOut = false
        ∧ t.time.ns = max s.time.ns (s.time.ns / 1000000000 * 1000000000 + w * 1000000)
        ∧ t = { s with time := { s.time with ppsOut := false, ns := t.time.ns, frac := t.time.frac } })
    ∧ (s.time.ppsOut = false → (timeAcq s = false ∨ w = 0) → exec .ppsoutPulse s = .next s)
    ∧ (s.time.ppsOut = false → timeAcq s = true → w ≠ 0 → ∃ t, exec .ppsoutPulse s = .next t ∧ t.time.ppsOut = true
        ∧ t.time.ns % 1000000000 = 0 ∧ s.time.ns ≤ t.time.ns ∧ t.time.ns < s.time.ns + 1000000000
        ∧ t = { s with time := { s.time with ppsOut := true, ns := t.time.ns, frac := t.time.frac } }))
  ∧ (∀ s : State, exec .tclkLost s = .next (if s.sys.tref = 0 ∨ timeRuns s = false then s else
      raise 7 Src.timeTclkLost noItem { s with sys := { s.sys with tref := 0 }, time := { s.time with tclkLost := true } }))
  ∧ (∀ (u : Fin 16) (s : State), let x := s.time.trigs[u]
      ((x.armed = false ∨ timeRuns s = false) → exec (.timeTriggerFire u) s = .next s)
    ∧ (x.armed = true → timeRuns s = true → let a := advanceTo x.next s
        let x' : TrigSt := { trigNext a x x.next true with fired := sat16 x.fired 1 }
        let w := setShw (Reg.timeTrgCount u) x'.count { a with time := { a.time with trigs := a.time.trigs.set u.1 x' u.2 } }
        let v := convEvent (sourceSel w 2 u.val) x.next w
        exec (.timeTriggerFire u) s = .next (if x.mark then mark x.next 0x81 u.val false false 0 v else v)
        ∧ x'.count = (if x.count = 0xFFFFFFFF then x.count else x.count - 1)
        ∧ (x.mode = 1 → x'.armed = false)
        ∧ (x.mode = 2 → 0 < x.period → x'.armed = decide (x'.count ≠ 0)
            ∧ (x'.armed = true → x.next < x'.next ∧ (x'.next - x.instant) % x.period = 0
              ∧ (x.instant ≤ x.next → x'.next ≤ x.next + x.period)))))
  ∧ (∀ s : State, (s.time.slew = none → exec .slewEnd s = .next s)
      ∧ (∀ v, s.time.slew = some v → (s.time.y = (if 0 < v then -500000000 else 500000000) → exec .slewEnd s = .next s)
        ∧ (s.time.y ≠ (if 0 < v then -500000000 else 500000000) → exec .slewEnd s =
            .next { s with time := { s.time with slew := none, incr := incrOf s.time.y } })))
  ∧ (∀ s : State, exec .timeNowLatch s = .next { s with time := { s.time with
        latchHi := BitVec.ofNat 32 (s.time.ns / 2 ^ 32), latchFrac := BitVec.ofNat 32 s.time.frac } })

/-- At a whole multiple of Tb an acquired device of depth 15 or less sends SYNC on each trained enabled port but its
parent. A follower takes a SYNC of its parent port with its lamplighter's UID, ACQ and DEPTH of 15 or less: depth plus
1, the interval, a new exchange, a schedule. DELAY_REQ leaves on the parent port; one received is answered with its
stamp. A DELAY_RESP that R320 rejects counts BAD_EXCH and leaves the servo; else theta = (t2 - t1) - d_avg - A/2 feeds
it, or steps the counter as R326 says. Three missed beacons give HOLDOVER with y = I. -/
def Obligations.TimeFabric : Prop :=
  (∀ s : State, ((timeAcq s = false ∨ 15 < s.time.depth) → exec .syncFrameSend s = .next s)
      ∧ (timeAcq s = true → s.time.depth ≤ 15 → ∃ t, exec .syncFrameSend s = .next t
        ∧ t.time.ns % tbNs s = 0 ∧ s.time.ns ≤ t.time.ns ∧ t.time.ns < s.time.ns + tbNs s
        ∧ (∀ n : Fin 4,
            (n ∈ beaconPorts s → t.time.syncSeq[n] = s.time.syncSeq[n] + 1
              ∧ t.link.ports[n] = queueFrame t.time.ns (hopFrame s 4 (syncPayload s t.time.ns s.time.syncSeq[n])) s.link.ports[n])
          ∧ (n ∉ beaconPorts s → t.time.syncSeq[n] = s.time.syncSeq[n] ∧ t.link.ports[n] = s.link.ports[n]))
        ∧ t = { s with time := { s.time with ns := t.time.ns, frac := t.time.frac, syncSeq := t.time.syncSeq }
                       link := { s.link with ports := t.link.ports } }))
  ∧ (∀ (n : Fin 4) (s : State), n ∈ beaconPorts s ↔ ((s.link.ports[n].state = .trained ∨ s.link.ports[n].state = .up)
        ∧ bitOf (shw s Reg.timeBeaconCfg) (4 + n.val) = true ∧ s.link.parent ≠ some n))
  ∧ (∀ (p : Fin 4) (f : SyncFrame) (t2 : Stamp) (s : State),
      ((timeRuns s = false ∨ isLamplighter s = true ∨ s.link.parent ≠ some p ∨ f.llUid ≠ (llOf s).2 ∨ f.acq = false ∨ 15 < f.depth
        ∨ 5 < f.interval) → exec (.syncFrameReceive p f t2) s = .next s)
    ∧ (timeRuns s = true → isLamplighter s = false → s.link.parent = some p → f.llUid = (llOf s).2 → f.acq = true → f.depth ≤ 15 →
        f.interval ≤ 5 → ∃ t, exec (.syncFrameReceive p f t2) s = .next t
        ∧ t.time.depth = f.depth + 1 ∧ t.time.interval = BitVec.ofNat 3 f.interval ∧ t.time.missedRun = 0
        ∧ t.time.lastSync = some t2.ns.toNat
        ∧ t.time.exch = some ⟨stampI f.t1, stampI t2, none, f.seq, p.val, f.llUid⟩
        ∧ (f.sched = false → t.time.sched = s.time.sched ∧ t.time.adopt = s.time.adopt ∧ t.link = s.link)
        ∧ (f.sched = true → s.time.sched = none → t.time.sched = some ⟨f.p, f.t0.toNat, f.n0⟩ ∧ t.time.epoch = none ∧ t.link = s.link)
        ∧ (∀ o, f.sched = true → s.time.sched = some o → t.time.sched = some o
          ∧ (s.link.prep.any (fun x => syncCommits f.n0 f.p x.change) = true →
              t.link.prep = s.link.prep.map (fun x => { x with committed := true }) ∧ t.time.adopt = s.time.adopt)
          ∧ (s.link.prep.any (fun x => syncCommits f.n0 f.p x.change) = false → t.link = s.link
            ∧ t.time.adopt = if o = ⟨f.p, f.t0.toNat, f.n0⟩ then none else some ⟨f.p, f.t0.toNat, f.n0⟩))
        ∧ t.time.ns = s.time.ns ∧ t.time.y = s.time.y ∧ t.time.integ = s.time.integ ∧ t.time.state = s.time.state
        ∧ t = { s with time := t.time, link := t.link }))
  ∧ (∀ (t3 : Stamp) (s : State),
      ((s.time.exch = none ∨ s.link.parent = none ∨ s.time.exch.any (fun e => e.t3.isSome) = true) → exec (.delayReqSend t3) s = .next s)
    ∧ (∀ e p, s.time.exch = some e → s.link.parent = some p → e.t3 = none →
        exec (.delayReqSend t3) s = .next { sendOn p (hopFrame s 5 (le 8 t3.ns.toNat ++ le 2 t3.frac.toNat ++ le 2 e.seq.toNat)) s with
          time := { s.time with exch := some { e with t3 := some (stampI t3) } } }))
  ∧ (∀ (p : Fin 4) (seq : Half) (t4 : Stamp) (s : State), exec (.delayReqReceive p seq t4) s = .next (if timeAcq s then
        sendOn p (hopFrame s 6 (le 8 t4.ns.toNat ++ le 2 t4.frac.toNat ++ le 2 seq.toNat)) s else s))
  ∧ (∀ (p : Fin 4) (seq : Half) (t4 : Stamp) (s : State),
      ((s.time.exch = none ∨ s.time.exch.any (fun e => e.t3.isNone || e.port != p.val) = true) →
        exec (.delayRespReceive p seq t4) s = .next s)
    ∧ (∀ e t3, s.time.exch = some e → e.t3 = some t3 → e.port = p.val → let d2 := (e.t2 - e.t1) + (stampI t4 - t3)
        let asym := sx 16 (shw s (Reg.timePortAsym p)).toNat
        let out := s.time.dAvg.any (fun a => decide (16 ≤ s.time.accepted ∧ (2 * 100 * 65536 < d2 - 2 * a ∨ d2 - 2 * a < -(2 * 100 * 65536))))
        let v : State := { s with time := { s.time with exch := none } }
        ((e.seq ≠ seq ∨ d2 < 0 ∨ 2 * 10000 * 65536 < d2 ∨ s.link.parent ≠ some p ∨ e.llUid ≠ (llOf s).2 ∨ out = true) →
          exec (.delayRespReceive p seq t4) s = .next (badExchange { s with time := { s.time with bigTheta := none } }))
      ∧ (e.seq = seq → 0 ≤ d2 → d2 ≤ 2 * 10000 * 65536 → s.link.parent = some p → e.llUid = (llOf s).2 → out = false →
          (∀ a, s.time.dAvg = some a → exec (.delayRespReceive p seq t4) s = .next (useTheta ((e.t2 - e.t1) - a - asym * 2048) d2 v))
        ∧ (s.time.dAvg = none → d2 % 2 = 0 →
            exec (.delayRespReceive p seq t4) s = .next (useTheta ((e.t2 - e.t1) - d2 / 2 - asym * 2048) d2 v)))))
  ∧ (∀ s : State, exec .delayRespTimeout s = .next (if s.time.exch.any (fun e => e.t3.isSome) then
      badExchange { s with time := { s.time with bigTheta := none } } else s))
  ∧ (∀ (th : Int) (tb kp ki : Nat) (s : State), s.time.clampRun ≠ 7 → let t := servo th tb kp ki s
      let near := fun (q a : Int) (b : Nat) => if a % b = 0 then q = a / b else q = a / b ∨ q = a / b + 1
      ∃ di dp : Int, (if s.time.clamped then di = 0 else near di (th * 10 ^ 12) (65536 * tb * 2 ^ ki))
        ∧ near dp (th * 10 ^ 12) (65536 * tb * 2 ^ kp)
        ∧ t.time.integ = s.time.integ + di ∧ t.time.y = clampY (dp + t.time.integ)
        ∧ (t.time.clamped = true ↔ t.time.y ≠ dp + t.time.integ) ∧ (s.time.slew = none → t.time.incr = incrOf t.time.y)
        ∧ -500000000 ≤ t.time.y ∧ t.time.y ≤ 500000000 ∧ t.time.ns = s.time.ns ∧ t.flt = s.flt)
  ∧ (∀ (th d2 : Int) (s : State),
      (s.time.state = .free → ∃ t, t = useTheta th d2 s ∧ t.time.acq = true ∧ t.time.state = .locking ∧ t.time.epoch = none ∧ t.flt = s.flt
        ∧ t.time.steps = s.time.steps ∧ t.time.theta = th ∧ (t.time.ns : Int) * 2 ^ 32 + t.time.frac
            = ((s.time.ns : Int) * 2 ^ 32 + s.time.frac - th * 65536) % 2 ^ 96)
    ∧ (s.time.state ≠ .free → thetaBig th = true → s.time.bigTheta.all (fun b => !thetaAgree th b) = true →
        useTheta th d2 s = badExchange { s with time := { s.time with bigTheta := some th } }))
  ∧ (∀ s : State, (s.time.state = .locking ∨ s.time.state = .locked →
        exec .beaconMissed s = .next (enterHoldover { s with time := { s.time with missed := sat16 s.time.missed 3, missedRun := 3 } }))
      ∧ (s.time.state ≠ .locking → s.time.state ≠ .locked → exec .beaconMissed s = .next s)
      ∧ (srcEnabled s 7 Src.timeHoldover = false → ∃ t, t = enterHoldover s ∧ t.time.state = .holdover ∧ t.time.y = clampY s.time.integ
        ∧ t.time.integ = s.time.integ ∧ t.time.holdovers = sat16 s.time.holdovers 1 ∧ t.time.ns = s.time.ns ∧ t.time.sched = s.time.sched
        ∧ t.time.exch = none))

/-- With a schedule and acquired time in STANDBY, ACTIVE or a held DORMANT the next boundary is taken: the one after
the epoch in progress, the first at or after now when there is none or the counter stepped, never an epoch at or
before the last acquired. It becomes the epoch in progress, snuffed lines take effect, engine line 21 latches; in
ACTIVE it is acquired, and its frames run from entry 0. A frame starts at epoch start plus its offset on the carrier
then current, a due hop applied; complete, it goes to the ring buffer, takes FRAME_SEQ, counts in a limited run and
goes to the touch pipeline. -/
def Obligations.GridFrames : Prop :=
  (∀ s : State, (s.time.sched = none ∨ epochsRun s = false) → exec .epochBoundary s = .next s)
  ∧ (∀ (s : State) (c : Schedule),
      (∀ e, s.time.epoch = some e → s.time.stepped = false → (∀ a, s.time.lastAcq = some a → laterW (e + 1) a = true) →
        nextBoundary c s = (e + 1, epochStart c (e + 1)))
    ∧ ((s.time.epoch = none ∨ s.time.stepped = true) → s.time.lastAcq = none → 0 < c.p → s.time.ns ≤ (nextBoundary c s).2
        ∧ c.t0 ≤ (nextBoundary c s).2 ∧ ((nextBoundary c s).2 = c.t0 ∨ (nextBoundary c s).2 < s.time.ns + c.pNs)
        ∧ ((nextBoundary c s).2 - c.t0) % c.pNs = 0)
    ∧ (∀ a, s.time.lastAcq = some a → laterW (nextBoundary c s).1 a = true))
  ∧ (∀ (s : State) (c : Schedule), s.time.sched = some c → epochsRun s = true → let b := nextBoundary c s
      (∀ d, s.time.adopt = some d → (firstBoundary d (s.time.ns + 1)).2 ≤ b.2 →
        exec .epochBoundary s = .next (adoptSchedule c d (firstBoundary d (s.time.ns + 1)) s))
    ∧ ((∀ d, s.time.adopt = some d → b.2 < (firstBoundary d (s.time.ns + 1)).2) → ∃ t, exec .epochBoundary s = .next t
        ∧ t = ownBoundary c b.1 b.2 s
        ∧ (modeCloses b.1 s = none → t.time.epoch = some b.1 ∧ t.time.stepped = false ∧ t.eng.edges.getLsbD 21 = true
          ∧ t.time.ns = max s.time.ns b.2 ∧ t.snuff.lines = ((s.snuff.lines &&& ~~~s.snuffOff.lines) ||| s.snuffDue.lines)
          ∧ t.conv.prevP = c.pNs ∧ t.sys.power = s.sys.power ∧ t.nvm = s.nvm ∧ t.pending = s.pending
          ∧ (s.sys.power ≠ .active → t.time.lastAcq = s.time.lastAcq)
          ∧ (s.sys.power = .active → s.sys.trans.any (·.boundary) = false → t.time.lastAcq = some b.1 ∧ t.grid.nextSlot = 0
              ∧ t.grid.driversOff = [])
          ∧ (s.sys.power = .active → s.sys.trans.any (·.boundary) = true → t.time.lastAcq = s.time.lastAcq ∧ t.grid.running = false
              ∧ t.grid.frame = none ∧ t.sys.trans.any (·.boundary) = false))))
  ∧ (∀ (s : State), (s.time.epoch = none ∨ s.time.sched = none ∨ nextEntry s = none ∨ s.sys.power ≠ .active ∨ s.grid.running = false
        ∨ s.grid.restart = true ∨ s.grid.runDone = true ∨ s.grid.frame.isSome ∨ acqHalted s = true ∨ s.time.lastAcq ≠ s.time.epoch) →
      exec .gridFrameStart s = .next s)
  ∧ (∀ (s : State) (e : Word) (c : Schedule) (d : SlotDef), s.time.epoch = some e → s.time.sched = some c → nextEntry s = some d →
      s.sys.power = .active → s.grid.running = true → s.grid.restart = false → s.grid.runDone = false → s.grid.frame = none →
      acqHalted s = false → s.time.lastAcq = some e → let t0 := epochStart c e + d.off * 1000
      ∃ t, exec .gridFrameStart s = .next t ∧ t.time.ns = max s.time.ns t0
        ∧ t.grid.frame = some ⟨d.slot, d.kind, t.carr.active, (look d.slot s.grid.slotCarrier).any (fun o => o != t.carr.active), t0, e⟩
        ∧ t.grid.nextSlot = d.slot + 1
        ∧ (∀ n from1 v, s.carr.hop = some (n, from1, v) → (from1 ≤ t0 → t.carr.active = n ∧ t.carr.hop = none
              ∧ t.carr.hops = sat16 s.carr.hops 1 ∧ t.carr.curWin = []) ∧ (t0 < from1 → t.carr = s.carr))
        ∧ (s.carr.hop = none → t.carr = s.carr)
        ∧ t = { s with grid := { s.grid with frame := t.grid.frame, nextSlot := t.grid.nextSlot, slotCarrier := t.grid.slotCarrier }
                       carr := t.carr, time := { s.time with ns := t.time.ns, frac := t.time.frac } })
  ∧ (∀ (x : FrameInput) (s : State), s.grid.frame = none → exec (.gridFrameComplete x) s = .next s)
  ∧ (∀ (x : FrameInput) (s : State) (fr : FrameRun), s.grid.frame = some fr → let dur := frameNs s.active fr.carrier fr.kind
      let a := advanceTo (fr.t0 + dur) s
      let vals := (decodeFrame a x fr.kind).1
      let ovl := (List.range 160).any (fun n => x.overload.contains n && !lineSnuffed s (120 + n))
      let fl := frameFlags a fr.hop (decodeFrame a x fr.kind).2 ovl (x.vtxLow || s.grid.vtxLow)
      ∃ t, exec (.gridFrameComplete x) s = .next t ∧ t.grid.frame = none ∧ t.grid.nextSeq = s.grid.nextSeq + 1
        ∧ t.grid.frameSeq = s.grid.nextSeq ∧ t.grid.lastSlot = fr.slot ∧ t.grid.lastCarrier = fr.carrier
        ∧ t.gram = ringWrite (nextBuffer a) fr.kind (descriptor fr.t0 s.grid.nextSeq fr.slot fr.kind fr.carrier
            (fl + 4 + 32 * b1 (fullWindow.snuffed a)) fullWindow) vals s.gram
        ∧ t.grid.ring = (⟨nextBuffer a, fr.slot, fr.kind, s.grid.nextSeq, fr.t0, fr.epoch, dur⟩ :: s.grid.ring).take 5
        ∧ t.grid.framesLeft = (if s.grid.limited then s.grid.framesLeft - 1 else s.grid.framesLeft)
        ∧ t.grid.runDone = (s.grid.limited && decide (s.grid.framesLeft - 1 = 0))
        ∧ (ovl = false ∨ (srcEnabled s 2 Src.gridLaneOverload = false ∧ srcEnabled s 2 Src.gridLaneStuck = false) →
            ∃ h, t.tch = { s.tch with todo := s.tch.todo ++ [h] } ∧ h.seq = s.grid.nextSeq ∧ h.slot = fr.slot)
        ∧ t.time.ns = max s.time.ns (fr.t0 + dur) ∧ t.nvm = s.nvm ∧ t.shadow = s.shadow)
  ∧ (∀ (u : List (Option Int)) (s : State), (s.safe.hold = true ∨ awake s = false
        ∨ (s.carr.survey = none ∧ (s.grid.running = false ∨ bitOf (acw s Reg.carrCfg) 5 = false ∨ s.carr.shadow = none))
        ∨ (s.carr.survey.isSome ∧ s.grid.running = true ∧ bitOf (acw s Reg.carrCfg) 5 = false)
        ∨ s.carr.survey.any (fun v => (surveyEntry v).isNone) = true) → exec (.idleListenFrame u) s = .next s)
  ∧ (∀ (u : List (Option Int)) (s : State), s.safe.hold = false → awake s = true →
      (s.grid.running = false ∨ bitOf (acw s Reg.carrCfg) 5 = true) →
      let vs := (u.zipIdx.filterMap (fun (p : Option Int × Nat) => p.1.map (fun v => (p.2, (v * v * 512).toNat)))).filter
        (fun p => decide (p.1 < 160) && !lineSnuffed s (120 + p.1))
      (∀ v e, s.carr.survey = some v → surveyEntry v = some e → ∃ w, exec (.idleListenFrame u) s =
          .next { s with carr := { s.carr with survey := some w } } ∧ w.mask = v.mask
          ∧ w.got = (vs.foldl (fun a p => surveyAdd e p.1 p.2 a) v).got
          ∧ w.standalone = (v.standalone || !s.grid.running) ∧ w.running = (v.running || s.grid.running))
    ∧ (s.carr.survey = none → s.grid.running = true → s.carr.shadow.isSome → ∃ g, exec (.idleListenFrame u) s =
          .next { s with carr := { s.carr with gathered := g } } ∧ g.2 = s.carr.gathered.2 + vs.length
          ∧ g.1 = s.carr.gathered.1 + sumNat (vs.map (·.2))))
  ∧ (∀ (l : Fin 120) (s : State), exec (.driveOvercurrent l) s = .next (raise 2 Src.gridDriveOvercurrent l.val { s with grid :=
      { s.grid with driversOff := if s.grid.driversOff.contains l.val then s.grid.driversOff else l.val :: s.grid.driversOff } }))
  ∧ (∀ (p : Bool) (s : State), let u : State := { s with grid := { s.grid with vtxLow := p } }
      exec (.vtxLow p) s = .next (if p = true ∧ s.grid.vtxLow = false ∧ s.grid.running = true then raise 2 Src.gridVtxLow noItem u else u))

/-- The oldest completed frame is processed when it is of the row's kind and its buffer still holds it, else
PIPE_LATE; the pipeline off or waiting discards it. A node's baseline follows Table 6-1. A scan in EMBER counts, and
each enabled gang with a live line takes its value: its detections set bits and assert WAKEn. A round writes the
channels, counts disagreements, takes Tj as the highest sensor that agrees, raises K after 8 hot rounds and lowers it
after 64 cool ones, and latches engine line 18; of each 16 epochs K are pauses. -/
def Obligations.TouchAndRounds : Prop :=
  (∀ (late mut1 : Bool) (s : State), let run := fun (b : Bool) => if mut1 then exec (.touchMutualFrame b) s else exec (.touchSelfFrame b) s
      ((s.tch.todo = [] ∨ s.tch.todo.head?.any (fun h => (h.kind == 0) != mut1) = true) → run late = .next s)
    ∧ (∀ h rest, s.tch.todo = h :: rest → (h.kind == 0) = mut1 → let u : State := { s with tch := { s.tch with todo := rest } }
        let held := s.grid.ring.any (fun x => x.seq == h.seq)
        (tchRuns s = false → run late = .next (settleEpochs u))
      ∧ (tchRuns s = true → held = false → run late = .next (settleEpochs (raise 3 Src.tchPipeLate noItem u)))
      ∧ (tchRuns s = true → held = true → let v := if mut1 then mutualFrame h u else selfFrame h u
          run late = .next (settleEpochs (if late then raise 3 Src.tchPipeLate noItem v else v)))
      ∧ (tchRuns s = true → held = true → mut1 = true → ∃ t, run false = .next t ∧ t.tch.frameSeq = h.seq ∧ t.tch.lastSlot = h.slot
          ∧ t.tch.running = true ∧ (t.tch.todo = rest ∨ t.tch.todo = []) ∧ t.tch.lastPayload.any (fun p => p.1 == h.epoch) = true
          ∧ t.nvm = s.nvm ∧ t.shadow = s.shadow ∧ t.time = s.time)))
  ∧ (∀ (tr : Nat) (off anti : Int) (wet : Option Rect) (cs : List Contact) (rl : Relearn) (sums : List (Nat × Nat × Nat × Int)) (x : NodeR),
      let y := (surfaceNode tr off anti wet cs rl sums x).1
      let foot := cs.findSome? (fun c => (c.foot.find? (fun z => decide (z.d = x.d ∧ z.n = x.n))).map (fun z => (c.drift, z)))
      y.d = x.d ∧ y.n = x.n ∧ y.v = x.v
    ∧ ((x.d, x.n) ∈ rl → y = { x with st := 5, anti := false })
    ∧ ((x.d, x.n) ∉ rl → (x.v = none → y = x)
      ∧ (∀ v, x.v = some v → (x.st ≤ 1 → y = { x with st := 2, b := v * 65536, anti := false })
        ∧ (x.st = 5 → (∀ t, sums.find? (fun q => decide (q.1 = x.d ∧ q.2.1 = x.n)) = some (x.d, x.n, 1, t) →
            y = { x with st := 2, b := (t + v) * 65536 / 2, anti := false }))
        ∧ (2 ≤ x.st → x.st ≠ 5 → (∀ h z, foot = some (h, z) → y = { x with st := 4, b := z.bf + (h - z.hj), anti := false })
          ∧ (foot = none → let sg := roundDiv (x.b - v * 65536) 65536
              let inWet := wet.any (fun q => inRect q (x.d, x.n))
              (sg ≤ -anti → x.anti = true → y.st = 5 ∧ y.b = x.b)
            ∧ ((-anti < sg ∨ x.anti = false) → y.anti = decide (sg ≤ -anti)
              ∧ ((off ≤ sg ∨ inWet = true) → y.st = 3 ∧ y.b = x.b)
              ∧ (sg < off → inWet = false → y.st = 2 ∧ y.b = (if tr = 0 then x.b else x.b + (v * 65536 - x.b) / 2 ^ tr))))))))
  ∧ (∀ (v : List (Option Int)) (s : State), (s.sys.power ≠ .ember ∨ s.sys.exitPend = true ∨ s.sys.inReset = true
        ∨ fld (acw s Reg.carrEmbCfg) 0 6 = 0) → exec (.emberScan v) s = .next s)
  ∧ (∀ (v : List (Option Int)) (s : State), s.sys.power = .ember → s.sys.exitPend = false → s.sys.inReset = false →
      fld (acw s Reg.carrEmbCfg) 0 6 ≠ 0 → ∃ t, exec (.emberScan v) s = .next t ∧ t.carr.scans = sat16 s.carr.scans 1
      ∧ t.sys = s.sys ∧ t.time = s.time ∧ t.active = s.active ∧ t.nvm = s.nvm
      ∧ (∀ g : Fin 8, let c := fileGet s.active Reg.carrEmbCfg
          let x := s.carr.gangs[g]
          let meas := (gangsOn s.active).contains g.val && gangAlive s g.val
          (meas = false → t.carr.gangs[g] = x ∧ t.carr.approach.getLsbD g.val = s.carr.approach.getLsbD g.val
            ∧ t.carr.touch.getLsbD g.val = s.carr.touch.getLsbD g.val)
        ∧ (meas = true → v.getD g.val none = none → t.carr.gangs[g] = { x with
            signal := none, seen := true, overloaded := true, approachRun := 0, touchRun := 0, negRun := 0 })
        ∧ (∀ q, meas = true → v.getD g.val none = some q →
            let r := gangStep (fld c 16 3) (fld c 20 4) (gangThr s.active g.val).1 (gangThr s.active g.val).2 q x
            t.carr.gangs[g] = r.1 ∧ t.carr.approach.getLsbD g.val = (s.carr.approach.getLsbD g.val || r.2.1)
            ∧ t.carr.touch.getLsbD g.val = (s.carr.touch.getLsbD g.val || r.2.2)
            ∧ (r.2.1 = true ∨ r.2.2 = true → t.hif.wakePin = true))))
  ∧ (∀ (cf track app tou : Nat) (q : Int) (g : GangSt), let r := gangStep cf track app tou q g
      (g.base = none → r.2 = (false, false) ∧ (g.first.length < 3 → r.1.base = none)
        ∧ (g.first.length = 3 → r.1.base = some (q + sumInt g.first, 2)))
    ∧ (∀ b, g.base = some b → g.rebase = none →
        (r.2.1 = true ↔ g.armed = true ∧ gangAbove q b app = true ∧ cf < g.approachRun + 1)
      ∧ (r.2.2 = true ↔ g.armed = true ∧ gangAbove q b tou = true ∧ cf < g.touchRun + 1)
      ∧ (r.2.1 = true ∨ r.2.2 = true → r.1.armed = false)
      ∧ (gangAbove q b (app / 2 : Nat) = true → r.1.base = some b)
      ∧ (gangAbove q b (app / 2 : Nat) = false → r.1.base = some (gangTrack track q b)
          ∧ (r.2.1 = false → r.2.2 = false → r.1.armed = true))))
  ∧ (∀ (conv : List Int) (ok : Bool) (s : State), hkpRuns s = false → exec (.housekeepingRound conv ok) s = .next s)
  ∧ (∀ (conv : List Int) (ok : Bool) (s : State), hkpRuns s = true → let v := fun i => conv.getD i 0
      let live := liveSensors (sensorsApply s)
      let used := live.filter (fun i => !disagrees live v i)
      ∃ t, exec (.housekeepingRound conv ok) s = .next t ∧ t.hkp.rounds = s.hkp.rounds + 1 ∧ t.eng.edges.getLsbD 18 = true
      ∧ t.snuff.sensors = ((s.snuff.sensors &&& ~~~s.snuffOff.sensors) ||| s.snuffDue.sensors)
      ∧ (∀ c : Fin 24, t.hkp.ch[c] = if c.val < 9 ∧ sensorSnuffed (sensorsApply s) c.val then 0x8000 else BitVec.ofInt 16 (v c.val))
      ∧ (∀ i : Fin 9, t.hkp.disagree[i] = if (live.filter (disagrees live v)).contains i.val then min 3 (s.hkp.disagree[i] + 1) else 0)
      ∧ (used ≠ [] → (∀ i ∈ used, v i ≤ t.hkp.tj) ∧ ∃ i ∈ used, t.hkp.tj = v i)
      ∧ (used = [] → live ≠ [] → (∀ i ∈ live, v i ≤ t.hkp.tj) ∧ ∃ i ∈ live, t.hkp.tj = v i)
      ∧ t.nvm = s.nvm ∧ t.shadow = s.shadow ∧ t.time.ns = s.time.ns)
  ∧ (∀ s : State, let w := acw s Reg.hkpCfg
      let on : Int := 100 * fld w 0 8
      let off := on - 100 * fld w 8 5
      let h := (taperRound s).hkp
      (bitOf w 24 = true → on ≤ s.hkp.tj → (s.hkp.hotRun ≠ 7 → h.k = s.hkp.k ∧ h.hotRun = s.hkp.hotRun + 1 ∧ h.coolRun = 0)
        ∧ (s.hkp.hotRun = 7 → h.k = min 15 (s.hkp.k + 1) ∧ h.hotRun = 0))
    ∧ (bitOf w 24 = true → s.hkp.tj < on → s.hkp.tj ≤ off → (s.hkp.coolRun ≠ 63 → h.k = s.hkp.k ∧ h.coolRun = s.hkp.coolRun + 1
          ∧ h.hotRun = 0) ∧ (s.hkp.coolRun = 63 → h.k = s.hkp.k - 1 ∧ h.coolRun = 0))
    ∧ (bitOf w 24 = true → off < s.hkp.tj → s.hkp.tj < on → h.k = s.hkp.k ∧ h.hotRun = 0 ∧ h.coolRun = 0))
  ∧ (∀ (s : State) (n : Nat), s.sys.power = .active → s.hkp.kActive ≤ 16 → 16 * n + 15 < 2 ^ 32 →
      (List.range 16).countP (fun m => taperPause s (BitVec.ofNat 32 (16 * n + m))) = s.hkp.kActive)

/-- A session may write the word-aligned register of blocks 0 to 13 for which its role is enough and no configuration
lock below MAKER applies, outside reset and EMBER or RETAIN; the extension only blocks 2 to 6. A write that may not be
made has no effect, but the extension's raises EXT_ACCESS. A write a block's rule refuses changes nothing; a plain one
puts its word into the shadow. FLT_STAT acknowledges bit by bit under the writer's role; a keyed HKP_REINSTATE returns
the item; SEC_CFG_LOCK takes the locks at once; a TIME_TRG_CFG arms its trigger, MODE 0 disarms. -/
def Obligations.RegisterWrites : Prop :=
  (∀ (k : Fin 6) (a : Nat) (s : State), mayWrite (.session k) a s = true ↔ (blockOf a ≤ 13 ∧ a % 4 = 0 ∧ s.sys.inReset = false
      ∧ asleep s = false ∧ writeRole a ≤ s.sec.sessions[k].role.toNat
      ∧ (∀ n, lockBit a = some n → s.sec.cfgLock.getLsbD n = true → s.sec.sessions[k].role = 3)))
  ∧ (∀ (a : Nat) (s : State), mayWrite .extension a s = true ↔
      (2 ≤ blockOf a ∧ blockOf a ≤ 6 ∧ a % 4 = 0 ∧ s.sys.inReset = false ∧ asleep s = false))
  ∧ (∀ (w : Writer) (v a : Word) (b : Fin 14) (u : Fin 16) (s : State),
      let no := fun (x : Nat) (o : Host.Outcome State Fault Refusal) => mayWrite w x s = false →
        o = .next (if w = .extension ∧ s.sys.inReset = false ∧ asleep s = false then raise 11 Src.engExtAccess noItem s else s)
      no a.toNat (exec (.registerWrite w a v) s) ∧ no (Reg.flt b.val 0) (exec (.faultStatAck w b v) s)
    ∧ no Reg.hkpReinstate (exec (.hkpReinstate w v) s) ∧ no (Reg.timeTrgCfg u.val) (exec (.triggerCfgWrite w u v) s)
    ∧ (w ≠ .firmware → no Reg.secCfgLock (exec (.secCfgLockWrite w v) s)) ∧ exec (.secCfgLockWrite .firmware v) s = .next s)
  ∧ (∀ (k : Fin 6) (v : Word) (b : Fin 14) (u : Fin 16) (s : State), let w := Writer.session k
      (mayWrite w (Reg.flt b.val 0) s = true → exec (.faultStatAck w b v) s = .next (fltW1c w b.val v s))
    ∧ (mayWrite w Reg.hkpReinstate s = true → exec (.hkpReinstate w v) s = .next (reinstateWrite (writerByte w s) 0x0B v s).2)
    ∧ (mayWrite w Reg.secCfgLock s = true → exec (.secCfgLockWrite w v) s = .next { s with sec := { s.sec with
          cfgLock := BitVec.ofNat 10 v.toNat, keys := { s.sec.keys with cfgLock := BitVec.ofNat 10 v.toNat }, keysDue := true } })
    ∧ (mayWrite w (Reg.timeTrgCfg u.val) s = true → let f := fileSet (Reg.timeTrgCfg u.val) v s.shadow
        let m := fld (fileGet f (Reg.timeTrgCfg u.val)) 0 2
        (timeRule s f (0x100 + 0x20 * u.val) = none → ∃ t, exec (.triggerCfgWrite w u v) s = .next t
          ∧ t = (if m = 0 then disarm u { s with shadow := f } else armRaise u { s with shadow := f })
          ∧ (m = 0 → t.time.trigs[u].armed = false))
      ∧ ((timeRule s f (0x100 + 0x20 * u.val)).isSome → exec (.triggerCfgWrite w u v) s = .next s)))
  ∧ (∀ (k : Fin 6) (a v : Word) (s : State), let b := blockOf a.toNat
      let o := a.toNat % 0x10000
      mayWrite (.session k) a.toNat s = true → o ≠ 0xF000 → ¬(b = 10 ∧ o = 0x0C) → ¬(b = 13 ∧ o = 4) →
      ¬(b = 7 ∧ 0x400 ≤ o ∧ o < 0x480 ∧ o % 0x10 = 0xC) → ¬(b = 1 ∧ (o = 0x0C ∨ o = 0x14 ∨ o = 0x24)) →
        ((regMask a.toNat = 0 ∨ (outOp s 0x15 = true ∧ captureBlocks a.toNat = true)
            ∨ (blockRule s (candidate s a.toNat v) b o).isSome) → exec (.registerWrite (.session k) a v) s = .next s)
      ∧ (regMask a.toNat ≠ 0 → (outOp s 0x15 = false ∨ captureBlocks a.toNat = false) →
          blockRule s (candidate s a.toNat v) b o = none → ∃ t, exec (.registerWrite (.session k) a v) s = .next t
          ∧ t = takeWord a.toNat (candidate s a.toNat v) s
          ∧ (b ≠ 8 → b ≠ 11 → t.shadow = candidate s a.toNat v)
          ∧ (0xF000 ≤ o ∨ b = 0 ∨ b = 1 ∨ b = 10 → t = { s with shadow := candidate s a.toNat v })))
  ∧ (∀ (a v : Word) (s : State), mayWrite .extension a.toNat s = true →
      ∃ t u, exec (.registerWrite .extension a v) s = .next t ∧ u = (regWrite .extension 0xFF a.toNat v s).2
        ∧ t = { u with eng := { u.eng with hook := u.eng.hook.map (fun h => { h with writes := h.writes + 1 }) } })
  ∧ (∀ (w : Writer) (b : Fin 14) (v : Word) (s : State) (i : Nat), i < 32 →
      (fltOf (fltW1c w b.val v s) b.val).stat.getLsbD i = ((fltOf s b.val).stat.getLsbD i
        && !(v.getLsbD i && decide ((ackRole (raisedSeverity (fltOf s b.val) i)).toNat ≤ writerRole w s))))
  ∧ (∀ (r op : Byte) (v : Word) (s : State), let b := fld v 12 4
      let item := fld v 0 9
      (fld v 24 8 ≠ 0xC3 → reinstateWrite r op v s = (0, s))
    ∧ (fld v 24 8 = 0xC3 → ((b ≠ 2 ∧ b ≠ 10) ∨ fld v 9 3 ≠ 0 ∨ fld v 16 8 ≠ 0 ∨ (if b = 2 then 280 else 9) ≤ item) →
        reinstateWrite r op v s = (0x13, s))
    ∧ (fld v 24 8 = 0xC3 → b = 2 ∨ b = 10 → fld v 9 3 = 0 → fld v 16 8 = 0 → item < (if b = 2 then 280 else 9) →
        (itemSnuffed s b item = false → reinstateWrite r op v s = (0, s))
      ∧ (itemSnuffed s b item = true → ∃ t e, reinstateWrite r op v s = (0, t) ∧ t.snuffWrite = true
          ∧ t.sec.raised = s.sec.raised ++ [e] ∧ e.kind = 6 ∧ e.role = r ∧ e.opcode = op
          ∧ (∀ x ∈ (fltOf t b).items, x.item ≠ item) ∧ t.nvm = s.nvm
          ∧ (b = 10 → t.snuff = s.snuff ∧ t.snuffOff.sensors.getLsbD item = true ∧ t.snuffDue.sensors.getLsbD item = false
              ∧ vget t.hkp.disagree item 0 = 0)
          ∧ (b = 2 → t.snuffDue.lines.getLsbD item = false
              ∧ (gridRuns s = true → (currentEpoch s).isSome → t.snuff = s.snuff ∧ t.snuffOff.lines.getLsbD item = true)
              ∧ (gridRuns s = false ∨ currentEpoch s = none → t.snuff.lines.getLsbD item = false)))))

/-- In an acquired epoch the next instant of a rate, start(n) + j/ODR rounded to the nearest ns, is taken by every
converting lane of that rate: its index advances, its counted flags run down, and no other lane changes. An instant is
selected when DELAY has passed from the run's start or a due event, for BURST instants. Neutral trims leave a value. A
word holds the value, two's complement or offset binary, and the flags on the side ALIGN gives. A threshold crosses
after PERSIST + 1 hits and clears past HYST. An INTERVAL event falls at T0 + m PERIOD. Overload and unlock raise and
mark. -/
def Obligations.BridgeSamples : Prop :=
  (∀ (r : Fin 16) (x : List SampleInput) (s : State), (s.time.epoch = none ∨ s.time.sched = none ∨ s.time.lastAcq ≠ s.time.epoch
      ∨ lanes32.all (fun n => !(laneOn s n && laneRate s.active n == r.val)) = true) → exec (.bridgeSample r x) s = .next s)
  ∧ (∀ (r : Fin 16) (x : List SampleInput) (s : State) (e : Word) (c : Schedule), s.time.epoch = some e → s.time.sched = some c →
      s.time.lastAcq = some e → let on := lanes32.filter (fun n => laneOn s n && laneRate s.active n == r.val)
      ∀ n0 rest, on = n0 :: rest → let j := (laneOf s n0).nextIdx
        let t0 := sampleInstant (epochStart c e) (odrOf r.val) j
        (c.pNs * odrOf r.val ≤ j * 1000000000 → exec (.bridgeSample r x) s = .next s)
      ∧ (j * 1000000000 < c.pNs * odrOf r.val → ∃ t, exec (.bridgeSample r x) s = .next t ∧ t.time.ns = max s.time.ns t0
        ∧ t.time = { s.time with ns := t.time.ns, frac := t.time.frac }
        ∧ (∀ n : Fin 32, (n.val ∈ on → t.conv.lanes[n].nextIdx = s.conv.lanes[n].nextIdx + 1 ∧ t.conv.lanes[n].badEdge = false
              ∧ (s.brdg.chkWait.getLsbD n.val = false → s.conv.lanes[n].restartDue = false →
                  t.conv.lanes[n].settle = s.conv.lanes[n].settle - 1))
            ∧ (n.val ∉ on → t.conv.lanes[n] = s.conv.lanes[n]))
        ∧ t.shadow = s.shadow ∧ t.nvm = s.nvm ∧ t.sys = s.sys))
  ∧ (∀ start odr j : Nat, 0 < odr → let d := sampleInstant start odr j - start
      sampleInstant start odr 0 = start ∧ start ≤ sampleInstant start odr j
      ∧ 2 * odr * d ≤ 2 * (j * 1000000000) + odr ∧ 2 * (j * 1000000000) + odr < 2 * odr * (d + 1))
  ∧ (∀ (align coding : Bool) (v : Int) (flags : Nat), -8388608 ≤ v → v ≤ 8388607 → flags < 256 →
      let w := sampleWord align coding v flags
      let c := if align then w / 256 else w % 16777216
      w < 2 ^ 32 ∧ (if align then w % 256 else w / 16777216) = flags
      ∧ (c : Int) = (if coding then v + 8388608 else if 0 ≤ v then v else v + 16777216))
  ∧ (∀ (f : RegFile) (n : Nat) (v : Int) (s : State), egMode f (n / 4) ≠ 2 → trimmedValue f (0x200, 0x200) n v s = (v, s))
  ∧ (∀ (w hys : Word) (v : Int) (x : ThrSt), let level := sx 24 w.toNat
      let h : Int := fld hys 0 24
      let hit := if bitOf w 25 then decide (v ≤ level) else decide (level ≤ v)
      let clear := if bitOf w 25 then decide (level + h < v) else decide (v < level - h)
      (bitOf w 24 = false → thrStep w hys v x = (x, none))
    ∧ (bitOf w 24 = true → x.armed = true →
        (hit = true → fld hys 24 8 ≤ x.run → (thrStep w hys v x).2 = some 0x60 ∧ (thrStep w hys v x).1.armed = false)
      ∧ (hit = true → x.run < fld hys 24 8 → thrStep w hys v x = ({ x with run := x.run + 1 }, none))
      ∧ (hit = false → thrStep w hys v x = ({ x with run := 0 }, none)))
    ∧ (bitOf w 24 = true → x.armed = false → (clear = true → thrStep w hys v x = ({ armed := true, run := 0 }, some 0x61))
      ∧ (clear = false → thrStep w hys v x = (x, none))))
  ∧ (∀ (f : RegFile) (n t : Nat) (x : LaneSt), let r := selectLane f n t x
      let late := fun (e : Nat) => decide (e * 6144 + laneDelay f n * 1000000 ≤ t * 6144)
      (laneSource f n = 0 → r.1 = x.runFrom.any late ∧ r.2.1 = x)
    ∧ (laneSource f n ≠ 0 → r.2.1.evq = x.evq.filter (fun e => !late e)
      ∧ (x.evq.any late = false → r.1 = decide (0 < x.burstLeft) ∧ r.2.1.burstLeft = x.burstLeft - 1 ∧ r.2.1.firstDue = x.firstDue
          ∧ r.2.2 = 0)
      ∧ (x.evq.any late = true → r.1 = true ∧ r.2.1.burstLeft = laneBurst f n - 1
          ∧ r.2.1.firstDue = (x.firstDue || decide (x.burstLeft = 0))
          ∧ r.2.2 = (x.evq.filter late).length - (if x.burstLeft = 0 then 1 else 0))))
  ∧ (∀ s : State, let p := fld (acw s Reg.convInterval) 0 24 * 1000
      ((s.time.sched = none ∨ p = 0 ∨ s.sys.power ≠ .active ∨ timeRuns s = false) → exec .convIntervalEvent s = .next s)
    ∧ (∀ c, s.time.sched = some c → p ≠ 0 → s.sys.power = .active → timeRuns s = true → ∃ e, e % p = c.t0 % p ∧ s.time.ns ≤ e
        ∧ (∀ l, s.conv.lastInterval = some l → l < e)
        ∧ (s.conv.lastInterval = none → c.t0 % p < s.time.ns → e < s.time.ns + p)
        ∧ exec .convIntervalEvent s = .next (convEvent (fun n => laneSource s.active n == 3) e
            (advanceTo e { s with conv := { s.conv with lastInterval := some e } }))))
  ∧ (∀ (l : Fin 32) (neg : Bool) (s : State), exec (.modOverload l neg) s = .next (if laneOn s l.val then
      raise 6 Src.convModOverload l.val { s with conv := { s.conv with
        lanes := s.conv.lanes.set l.1 { (s.conv.lanes[l] : LaneSt) with ovl := some (neg, laneL s l.val) } l.2 } } else s))
  ∧ (∀ s : State, (lanes32.all (fun n => !laneOn s n) = true → exec .modUnlock s = .next s)
      ∧ (lanes32.any (laneOn s) = true → ∃ u, exec .modUnlock s = .next (raise 6 Src.convModUnlock noItem u)
        ∧ (∀ n : Fin 32, u.conv.lanes[n] = if s.conv.lanes[n].on then { (s.conv.lanes[n] : LaneSt) with badEdge := true } else s.conv.lanes[n])
        ∧ u = { s with conv := { s.conv with lanes := u.conv.lanes } }))

/-- A watched window with no violation takes one dated t_out; of a sense pair it is an event at once, of a lane once
classed, unless a sense-pair violation covers it or begins within 32 fmod cycles. An event is raised and enters the
history; the eighth within 10 s, or one that lasts 1 s, is permanent and raised as such. The end of a violation marks
the next L samples of its lanes INVALID; 100 ms free of violation close the events as transient. An overcurrent opens
the group's switches at once. Waiting shadow words and snuffs take effect at a boundary. -/
def Obligations.WindowEvents : Prop :=
  (∀ (w : WinItem) (t : Long) (s : State), let v : State := modWin w (fun x => { x with
        viol := some t.toNat, lastViol := some (t.toNat, none), classed := .none, clear := none }) s
      ((winOn s w = false ∨ (winOf s w).viol.isSome) → exec (.windowViolationBegin w t) s = .next s)
    ∧ (winOn s w = true → (winOf s w).viol = none →
        (∀ n, w = .lane n → exec (.windowViolationBegin w t) s = .next v) ∧
        (∀ g, w = .group g → exec (.windowViolationBegin w t) s = .next (winEvent w t.toNat v))))
  ∧ (∀ (n : Fin 32) (s : State), let x := s.brdg.lanes[n]
      let p := groupWin s (n.val / 4)
      ((x.lastViol = none ∨ x.classed ≠ .none ∨ laneSnuffed s n.val = true) → exec (.leadEventClassify n) s = .next s)
    ∧ (∀ a c, x.lastViol = some (a, c) → x.classed = .none → laneSnuffed s n.val = false →
        (p.lastViol = none → exec (.leadEventClassify n) s = .next (winEvent (.lane n) a s))
      ∧ (∀ t d, p.lastViol = some (t, d) → let near := if t ≤ a then d.all (fun z => decide (a < z)) else decide ((t - a) * 6144 ≤ 32000000)
          exec (.leadEventClassify n) s = .next (if near then s else winEvent (.lane n) a s))))
  ∧ (∀ (w : WinItem) (t : Nat) (s : State), let u := raise 5 (winSrc w).1 (winItemNo w) (modWin w (fun x => { x with
        events := (t :: x.events).take 8, openEv := x.openEv + 1, classed := .event }) s)
      ((∀ e, (t :: (winOf s w).events)[7]? = some e → e + 10000000000 < t) → winEvent w t s = u)
    ∧ (∀ e, (t :: (winOf s w).events)[7]? = some e → t ≤ e + 10000000000 → winEvent w t s = winPermanent w u)
    ∧ winPermanent w s = raise 5 (winSrc w).2 (winItemNo w) (modWin w (fun x => { x with
        classed := .permanent, openEv := x.openEv - 1 }) s))
  ∧ (∀ (w : WinItem) (t : Long) (s : State), ((winOf s w).viol = none → exec (.windowViolationEnd w t) s = .next s)
      ∧ (∀ a, (winOf s w).viol = some a → ∃ u, exec (.windowViolationEnd w t) s = .next u
        ∧ (winOf u w).viol = none ∧ (winOf u w).lastViol = some (a, some t.toNat) ∧ (winOf u w).clear = some t.toNat
        ∧ (∀ n : Fin 32, u.brdg.lanes[n].invalidLeft = if (w = .lane n ∨ ∃ g : Fin 8, w = .group g ∧ n.val / 4 = g.val) then
            max s.brdg.lanes[n].invalidLeft (laneL s n.val) else s.brdg.lanes[n].invalidLeft)
        ∧ u = { s with brdg := { s.brdg with lanes := u.brdg.lanes, groups := u.brdg.groups } }))
  ∧ (∀ (w : WinItem) (s : State), let x := winOf s w
      ((x.viol.isSome ∨ x.clear = none) → exec (.transientClose w) s = .next s)
    ∧ (∀ c, x.viol = none → x.clear = some c → exec (.transientClose w) s = .next (modWin w (fun x => { x with
          clear := none, openEv := 0, transients := sat16 x.transients x.openEv }) (advanceTo (c + 100000000) s)))
    ∧ ((x.viol = none ∨ x.classed ≠ .event) → exec (.permanentDecision w) s = .next s)
    ∧ (∀ a, x.viol = some a → x.classed = .event →
        exec (.permanentDecision w) s = .next (winPermanent w (advanceTo (a + 1000000000) s))))
  ∧ (∀ (g : Fin 8) (s : State), (s.brdg.excOn.getLsbD g.val = false → exec (.excOvercurrent g) s = .next s)
      ∧ (s.brdg.excOn.getLsbD g.val = true → ∃ u, exec (.excOvercurrent g) s = .next (raise 5 Src.brdgExcOvercurrent (32 + g.val) u)
        ∧ u.brdg.overcurrent = s.brdg.overcurrent ||| (1#8 <<< g.val) ∧ u.brdg.excOn.getLsbD g.val = false
        ∧ (∀ k : Fin 8, u.brdg.excOn.getLsbD k.val = excWanted u k.val)
        ∧ u = { s with brdg := { s.brdg with overcurrent := u.brdg.overcurrent, excOn := u.brdg.excOn } }))
  ∧ (∀ (g : Fin 8) (p : Bool) (s : State), let m : BitVec 8 := 1#8 <<< g.val
      let u : State := { s with brdg := { s.brdg with vexLow := if p then s.brdg.vexLow ||| m else s.brdg.vexLow &&& ~~~m } }
      exec (.vexLow g p) s = .next (if s.sys.power ≠ .active then s else
        if p = true ∧ s.brdg.vexLow.getLsbD g.val = false then raise 5 Src.brdgVexLow (32 + g.val) u else u))
  ∧ (∀ (g : Fin 8) (s : State), (groupOn s g.val = false → exec (.brdgChangeApply g) s = .next s)
      ∧ (groupOn s g.val = true → ∃ t, exec (.brdgChangeApply g) s = .next t ∧ t = closeHeld [g.val] (applyGroup g.val s)
        ∧ t.active = (applyRange (Reg.brdgLaneCfg (4 * g.val)) (Reg.brdgLaneCfg (4 * g.val) + 32)
            (applyRange (Reg.brdgEgCfg g.val) (Reg.brdgEgCfg g.val + 8) s)).active
        ∧ (s.brdg.restart = false → t.brdg.held.getLsbD g.val = false)
        ∧ (∀ k : Fin 8, t.brdg.excOn.getLsbD k.val = excWanted t k.val)
        ∧ t.shadow = s.shadow ∧ t.nvm = s.nvm ∧ t.time = s.time ∧ t.snuff = s.snuff))
  ∧ (∀ (s : State) (n : Fin 32), (s.snuffDue.lanes.getLsbD n.val = false → exec (.brdgSnuffApply (.lane n)) s = .next s)
      ∧ (s.snuffDue.lanes.getLsbD n.val = true → ∃ t, exec (.brdgSnuffApply (.lane n)) s = .next t
        ∧ t.snuff.lanes.getLsbD n.val = true ∧ t.snuffDue.lanes.getLsbD n.val = false ∧ t.brdg.lanes[n].viol = none
        ∧ (∀ k : Fin 32, k ≠ n → t.snuff.lanes.getLsbD k.val = s.snuff.lanes.getLsbD k.val ∧ t.brdg.lanes[k] = s.brdg.lanes[k])
        ∧ t = { s with snuff := { s.snuff with lanes := t.snuff.lanes }, snuffDue := { s.snuffDue with lanes := t.snuffDue.lanes }
                       brdg := { s.brdg with lanes := t.brdg.lanes } }))
  ∧ (∀ (s : State) (g : Fin 8), (s.snuffDue.groups.getLsbD g.val = false → exec (.brdgSnuffApply (.group g)) s = .next s)
      ∧ (s.snuffDue.groups.getLsbD g.val = true → ∃ t, exec (.brdgSnuffApply (.group g)) s = .next t
        ∧ t.snuff.groups.getLsbD g.val = true ∧ t.snuffDue.groups.getLsbD g.val = false ∧ t.brdg.excOn.getLsbD g.val = false
        ∧ t.brdg.groups[g].viol = none ∧ (∀ k : Fin 32, k.val / 4 = g.val → t.brdg.lanes[k].viol = none)
        ∧ (∀ k : Fin 32, k.val / 4 ≠ g.val → t.brdg.lanes[k] = s.brdg.lanes[k]) ∧ t.conv = s.conv ∧ t.nvm = s.nvm))

/-- A port in TRAINING becomes TRAINED with its neighbour; a mismatch is raised; HELLO leaves each TRAINED or UP port
without a loop, and one received makes the port UP. Link down returns the port to TRAINING with full credit, keeps its
waiting frames and raises. Credit returned adds up to the class's full credit. A discarded frame counts; 16 CRC errors
in 1 s are raised. Frames of one class leave a port in the order they came, none is lost or duplicated, and each takes
its credit. -/
def Obligations.LinkPorts : Prop :=
  (∀ (t n : Nat) (p : PortSt), let q := drainPort t n p
      (∀ c : Fin 4, (q.sent ++ q.waiting).filter (fun f => f.cls == c) = (p.sent ++ p.waiting).filter (fun f => f.cls == c))
    ∧ p.sent <+: q.sent
    ∧ (∀ c : Fin 4, q.credit[c] + sumNat (((q.sent.drop p.sent.length).filter (fun f => f.cls == c)).map frameUnits) = p.credit[c])
    ∧ q.state = p.state ∧ q.loop = p.loop ∧ q.nbrUid = p.nbrUid ∧ (p.loop = true → q = p))
  ∧ (∀ (p : Fin 4) (uid : Long) (s : State), ((linkRuns s = false ∨ s.link.ports[p].state ≠ .training) →
        exec (.portTrained p uid) s = .next s ∧ exec (.portMismatch p) s = .next s)
      ∧ (linkRuns s = true → s.link.ports[p].state = .training →
          (∃ t, exec (.portTrained p uid) s = .next t ∧ t.link.ports[p].state = .trained ∧ t.link.ports[p].nbrUid = uid
            ∧ t.link.ports[p].loop = (uid == Config.uid) ∧ t.link.ports[p].mismatch = false
            ∧ (∀ n : Fin 4, n ≠ p → t.link.ports[n] = s.link.ports[n]) ∧ t = { s with link := { s.link with ports := t.link.ports } })
        ∧ (∃ u, exec (.portMismatch p) s = .next (raise 8 Src.linkPortMismatch p.val u) ∧ u.link.ports[p].mismatch = true
            ∧ u.link.ports[p].state = .training ∧ (∀ n : Fin 4, n ≠ p → u.link.ports[n] = s.link.ports[n])
            ∧ u = { s with link := { s.link with ports := u.link.ports } })))
  ∧ (∀ s : State, (linkRuns s = false → exec .helloSend s = .next s)
      ∧ (linkRuns s = true → ∃ t, exec .helloSend s = .next t
        ∧ (∀ n : Fin 4, let x := s.link.ports[n]
            t.link.ports[n] = if (x.state = .trained ∨ x.state = .up) ∧ x.loop = false then
              queueFrame s.time.ns (hopFrame s 0 (helloPayload s n)) x else x)
        ∧ t = { s with link := { s.link with ports := t.link.ports } }))
  ∧ (∀ (p : Fin 4) (h : Hello) (s : State), let x := s.link.ports[p]
      ((linkRuns s = false ∨ (x.state ≠ .trained ∧ x.state ≠ .up) ∨ x.loop = true) → exec (.helloReceive p h) s = .next s)
    ∧ (linkRuns s = true → (x.state = .trained ∨ x.state = .up) → x.loop = false → ∃ t, exec (.helloReceive p h) s = .next t
        ∧ t.link.ports[p].state = .up ∧ t.link.ports[p].nbrUid = h.uid ∧ t.link.ports[p].nbrPort = h.port
        ∧ t.link.ports[p].nbrAddr = h.addr
        ∧ (∀ n : Fin 4, n ≠ p → t.link.ports[n] = s.link.ports[n])
        ∧ (s.link.joined = true → (x.state ≠ .up ∨ x.nbrUid ≠ h.uid ∨ x.nbrPort ≠ h.port) → t.link.dirty = true ∧ t.link.settled = false)
        ∧ (x.state = .up → x.nbrUid = h.uid → x.nbrPort = h.port → t.link.settled = s.link.settled)
        ∧ t = { s with link := { s.link with ports := t.link.ports, dirty := t.link.dirty, settled := t.link.settled } }))
  ∧ (∀ (p : Fin 4) (errs : Nat) (s : State), let x := s.link.ports[p]
      (x.state ≠ .up → x.state ≠ .trained → exec (.linkDown p errs) s = .next s)
    ∧ ((x.state = .up ∨ x.state = .trained) → let ms := (s.sys.lpoMs :: x.retrainMs).filter (fun t => decide (s.sys.lpoMs < t + 60000))
        ∃ u, exec (.linkDown p errs) s = .next (raiseAll ([(8, Src.linkLinkDown, p.val)]
            ++ (if 8 ≤ ms.length then [(8, Src.linkLinkUnstable, p.val)] else [])) u)
          ∧ u.link.ports[p] = { x with
              state := .training, nbrUid := 0, nbrPort := 0, nbrAddr := 0xFF, loop := false, credit := #v[8, 512, 128, 128]
              codeErr := sat16 x.codeErr errs, retrains := sat16 x.retrains 1, retrainMs := if 8 ≤ ms.length then [] else ms }
          ∧ (∀ n : Fin 4, n ≠ p → u.link.ports[n] = s.link.ports[n]) ∧ (s.link.joined = true → u.link.settled = false)
          ∧ u = { s with link := { s.link with ports := u.link.ports, dirty := u.link.dirty, settled := u.link.settled } }))
  ∧ (∀ (p c : Fin 4) (n : Byte) (s : State), let x := s.link.ports[p]
      let full : Vector Nat 4 := #v[8, 512, 128, 128]
      let y : PortSt := { x with credit := x.credit.set c.1 (min full[c] (x.credit[c] + n.toNat)) c.2 }
      ∃ t, exec (.creditReceive p c n) s = .next t ∧ t.link.ports[p] = drainPort s.time.ns x.waiting.length y
        ∧ (∀ m : Fin 4, m ≠ p → t.link.ports[m] = s.link.ports[m]) ∧ t = { s with link := { s.link with ports := t.link.ports } })
  ∧ (∀ (p : Fin 4) (why : DiscardCause) (s : State), let x := s.link.ports[p]
      let ms := (s.sys.lpoMs :: x.crcMs).filter (fun t => decide (s.sys.lpoMs < t + 1000))
      let put := fun (y : PortSt) => ({ s with link := { s.link with ports := s.link.ports.set p.1 y p.2 } } : State)
      (why ≠ .crc → exec (.frameDiscard p why) s = .next (put { x with discards := sat16 x.discards 1 }))
    ∧ (why = .crc → let u := put { x with
          discards := sat16 x.discards 1, crcErr := sat16 x.crcErr 1, crcMs := if 16 ≤ ms.length then [] else ms }
        exec (.frameDiscard p why) s = .next (if 16 ≤ ms.length then raise 8 Src.linkCrcErrors p.val u else u)))

/-- A frame of a routed type for another device goes on with HOPS one less: routed on its port, or counted as
NO_ROUTE; CMD and MODE broadcasts on the other tree ports. A joined device originates its record with the next SEQ; a
newer record is kept and flooded, one with JOINED = 0 removes its originator, an expired one goes. At settling the
reachable device of the highest PRIORITY, then lowest UID, is lamplighter, and the parent, depth and routes of at most
16 hops follow. Assigned addresses are distinct and at most 0xFD. -/
def Obligations.LinkTopology : Prop :=
  (∀ (p : Fin 4) (f : Frame) (s : State), let g : Frame := { f with hops := f.hops - 1 }
      let lost : State := { s with link := { s.link with noRoute := sat16 s.link.noRoute 1 } }
      ((linkRuns s = false ∨ f.dest = 0xFE ∨ s.link.addr = some f.dest) → exec (.frameForward p f) s = .next s)
    ∧ (linkRuns s = true → f.dest ≠ 0xFE → s.link.addr ≠ some f.dest →
        (f.hops ≤ 1 → exec (.frameForward p f) s = .next (if f.dest = 0xFF then s else lost))
      ∧ (1 < f.hops → f.dest ≠ 0xFF → (routePort s f.dest = none → exec (.frameForward p f) s = .next lost)
        ∧ (∀ n, routePort s f.dest = some n → exec (.frameForward p f) s = .next (sendOn n g s)))
      ∧ (1 < f.hops → f.dest = 0xFF → f.type ≠ 0x08 → f.type ≠ 0x0C → exec (.frameForward p f) s = .next s)
      ∧ (1 < f.hops → f.dest = 0xFF → f.type = 0x08 ∨ f.type = 0x0C → ∃ t, exec (.frameForward p f) s = .next t
          ∧ (∀ n : Fin 4, t.link.ports[n] = if n ∈ treePorts s ∧ n ≠ p then queueFrame s.time.ns g s.link.ports[n] else s.link.ports[n])
          ∧ t = { s with link := { s.link with ports := t.link.ports } })))
  ∧ (∀ s : State, ((linkRuns s = false ∨ s.link.joined = false) → exec .topoOriginate s = .next s)
      ∧ (linkRuns s = true → s.link.joined = true → ∃ t, exec .topoOriginate s = .next t ∧ t.link.topoSeq = s.link.topoSeq + 1
        ∧ (∀ n : Fin 4, (s.link.ports[n].state = .up → ∃ f, t.link.ports[n] = queueFrame s.time.ns f s.link.ports[n] ∧ f.type = 1 ∧ f.hops = 16
              ∧ f.dest = 0xFF ∧ f.payload.take 12 = le 8 Config.uid.toNat ++ le 4 (s.link.topoSeq + 1).toNat)
            ∧ (s.link.ports[n].state ≠ .up → t.link.ports[n] = s.link.ports[n]))
        ∧ t = { s with link := { s.link with ports := t.link.ports, topoSeq := t.link.topoSeq } }))
  ∧ (∀ (p : Fin 4) (r : Topo) (s : State), (topoNewer r s = (s.link.topo.find? (fun x => x.uid == r.uid)).all (fun x => laterW r.seq x.seq))
      ∧ ((linkRuns s = false ∨ r.uid = Config.uid ∨ topoNewer r s = false) → exec (.topoReceive p r) s = .next s)
      ∧ (linkRuns s = true → r.uid ≠ Config.uid → topoNewer r s = true → ∃ t, exec (.topoReceive p r) s = .next t
        ∧ t.link.topo = s.link.topo.filter (fun x => x.uid != r.uid) ++ (if r.joined then [r] else [])
        ∧ (s.link.joined = true → ∀ n : Fin 4, t.link.ports[n] = if s.link.ports[n].state = .up ∧ n ≠ p then
              queueFrame s.time.ns (ownFrame s 0xFF 2 0x01 (topoPayload r)) s.link.ports[n] else s.link.ports[n])
        ∧ (s.link.joined = false → t.link.ports = s.link.ports)
        ∧ (s.link.joined = true → r.joined = true → s.link.topo.all (fun x => x.uid != r.uid) = true → t.link.settled = false)
        ∧ (∀ x, s.link.prep = some x → r.joined = true → x.change.id = r.modeId → t.link.prep = some { x with committed := true })))
  ∧ (∀ (uid : Long) (s : State), (s.link.topo.all (fun x => x.uid != uid) = true → exec (.topoExpiry uid) s = .next s)
      ∧ (s.link.topo.any (fun x => x.uid == uid) = true → ∃ t, exec (.topoExpiry uid) s = .next t
        ∧ t.link.topo = s.link.topo.filter (fun x => x.uid != uid) ∧ (s.link.joined = true → t.link.settled = false)
        ∧ t = { s with link := { s.link with topo := t.link.topo, dirty := t.link.dirty, settled := t.link.settled } }))
  ∧ (∀ l : List Topo, (elect l = none ↔ l = [])
      ∧ ∀ r, elect l = some r → r ∈ l ∧ ∀ y ∈ l, y.priority.toNat < r.priority.toNat
        ∨ (y.priority = r.priority ∧ r.uid.toNat ≤ y.uid.toNat))
  ∧ (∀ s : State, ((linkRuns s = false ∨ s.link.joined = false) → exec .databaseSettled s = .next s)
      ∧ (linkRuns s = true → s.link.joined = true → let ds := portDists s
        let reach := (database s).filter (fun r => r.uid == Config.uid || (wayTo ds r.uid).isSome)
        ∃ t r, exec .databaseSettled s = .next t ∧ elect reach = some r
          ∧ (r.uid ≠ Config.uid → t.link.settled = true ∧ t.link.dirty = false ∧ t.link.ll = some (r.uid, r.priority, r.addr)
            ∧ t.link.parent = (wayTo ds r.uid).map (·.1) ∧ t.link.depth = ((wayTo ds r.uid).map (·.2)).getD 0)
          ∧ (r.uid = Config.uid → t.link.parent = none ∧ t.link.depth = 0 ∧ isLamplighter t = true)
          ∧ t.link.topoGen = (if s.link.dirty then s.link.topoGen + 1 else s.link.topoGen)
          ∧ (∀ a n h, (a, n, h) ∈ t.link.routes → h ≤ 16 ∧ a ≤ 0xFD
              ∧ ∃ x ∈ reach, x.addr.toNat = a ∧ wayTo ds x.uid = some (n, h))
          ∧ (s.link.ll.map (·.1) = some r.uid → t.link.elections = s.link.elections)
          ∧ (s.link.ll.any (fun x => x.1 != r.uid) = true → t.link.elections = sat16 s.link.elections 1)))
  ∧ (∀ l : List Topo, ((assignAddrs l).map (·.2)).Nodup ∧ ∀ x ∈ assignAddrs l, x.2.toNat ≤ 0xFD ∧ ∃ r ∈ l, r.uid = x.1)
  ∧ (∀ (p : Fin 4) (a : Assign) (s : State),
      ((linkRuns s = false ∨ a.uid = Config.uid
        ∨ (s.link.assigns.find? (fun x => x.uid == a.uid)).any (fun x => !laterW a.seq x.seq) = true) →
        exec (.assignReceive p a) s = .next s)
    ∧ (linkRuns s = true → a.uid ≠ Config.uid → (s.link.assigns.find? (fun x => x.uid == a.uid)).all (fun x => laterW a.seq x.seq) = true →
        ∃ t, exec (.assignReceive p a) s = .next t ∧ t.link.assigns = s.link.assigns.filter (fun x => x.uid != a.uid) ++ [a]
        ∧ (s.link.joined = false → t.link.addr = s.link.addr ∧ t.link.ports = s.link.ports)
        ∧ (s.link.joined = true → s.link.ll.any (fun x => x.1 == a.uid) = true → (∀ b, look Config.uid a.pairs = some b → t.link.addr = some b)
          ∧ (look Config.uid a.pairs = none → t.link.addr = if a.pairs.any (fun x => some x.2 == s.link.addr) then none else s.link.addr))
        ∧ (s.link.joined = true → s.link.ll.any (fun x => x.1 == a.uid) = false → t.link.addr = s.link.addr
          ∧ ∀ n : Fin 4, t.link.ports[n] = if s.link.ports[n].state = .up ∧ n ≠ p then
              queueFrame s.time.ns (ownFrame s 0xFF 2 0x02 (assignPayload a)) s.link.ports[n] else s.link.ports[n])))

/-- Segments that follow in order from 0 to the last make up their packet, and any other is dropped; a command packet
addressed here and whole waits to be taken, a reply answers the relayed command or broadcast it belongs to. Timeouts
drop a packet in progress and answer a relayed command with TIMEOUT; a summary lists answers and silent devices. A
packet of a bad length returns BAD_LENGTH, of a bad CRC BAD_CRC, of no defined opcode BAD_OPCODE, all with its TAG. -/
def Obligations.LinkPackets : Prop :=
  (∀ (rp : Bool) (src d : Byte) (g : Segment) (s : State),
      let mine := fun (x : Reasm) => x.isReply == rp && x.src == src && x.iface == g.iface && x.tag == g.tag
      (g.seg ≠ 0 → s.link.reasm.any (fun x => mine x && x.next == g.seg) = false → joinSegment rp src d g s = (s, none))
    ∧ (g.seg = 0 → g.last = true → joinSegment rp src d g s =
        ({ s with link := { s.link with reasm := s.link.reasm.filter (fun x => !mine x) } }, some g.bytes))
    ∧ (∀ (rest : List Reasm) (n : Nat) (b : List Byte) (e : Byte), g.seg = n → n ≠ 0 →
        s.link.reasm = rest ++ [⟨rp, src, g.iface, g.tag, n, b, e⟩] → rest.any mine = false →
        joinSegment rp src d g s = (if g.last then ({ s with link := { s.link with reasm := rest } }, some (b ++ g.bytes))
          else ({ s with link := { s.link with reasm := rest ++ [⟨rp, src, g.iface, g.tag, n + 1, b ++ g.bytes, d⟩] } }, none)))
    ∧ (g.seg = 0 → g.last = false → joinSegment rp src d g s = ({ s with link := { s.link with
        reasm := s.link.reasm.filter (fun x => !mine x) ++ [⟨rp, src, g.iface, g.tag, 1, g.bytes, d⟩] } }, none)))
  ∧ (∀ (i tag : Byte) (b : List Byte), b.length ≤ 4104 → (segments i tag 17 0 b).flatMap (fun g => g.drop 4) = b
      ∧ (∀ g ∈ segments i tag 17 0 b, g.length ≤ 256 ∧ g.take 2 = [i, tag]))
  ∧ (∀ (p : Fin 4) (src d : Byte) (g : Segment) (s : State),
      ((linkRuns s = false ∨ (s.link.addr ≠ some d ∧ d ≠ 0xFF)) → exec (.cmdFrameReceive p src d g) s = .next s)
    ∧ (linkRuns s = true → (s.link.addr = some d ∨ d = 0xFF) → let r := joinSegment false src d g s
        exec (.cmdFrameReceive p src d g) s = .next (if r.2.isSome then
          { r.1 with link := { r.1.link with cmdReady := r.1.link.cmdReady + 1 } } else r.1)))
  ∧ (∀ (p : Fin 4) (src : Byte) (g : Segment) (s : State), (linkRuns s = false → exec (.rplFrameReceive p src g) s = .next s)
      ∧ (linkRuns s = true → let r := joinSegment true src (ownAddr s) g s
          (r.2 = none → exec (.rplFrameReceive p src g) s = .next r.1)
        ∧ (∀ b, r.2 = some b → exec (.rplFrameReceive p src g) s = .next (takeReply src g.iface g.tag b r.1))))
  ∧ (∀ (src : Byte) (i : Iface) (tag : Byte) (b : List Byte) (s : State), let final := (b.getD 5 0).getLsbD 1
      (∀ r, s.sec.relays.find? (fun r => r.iface == i && r.tag == tag && r.dest == src) = some r →
        takeReply src i tag b s = queueReply i ⟨b, .normal⟩ { s with sec := { s.sec with
          relays := if final then s.sec.relays.erase r else s.sec.relays.erase r ++ [{ r with accepted := true }] } })
    ∧ (s.sec.relays.all (fun r => !(r.iface == i && r.tag == tag && r.dest == src)) = true →
        takeReply src i tag b s = if final then noteAnswer i tag src (b.headD 0) s else s))
  ∧ (∀ (rp : Bool) (src : Byte) (i : Iface) (tag : Byte) (s : State), exec (.reassemblyTimeout rp src i tag) s =
      .next { s with link := { s.link with reasm := s.link.reasm.filter (fun x =>
        !(x.isReply == rp && x.src == src && x.iface == i && x.tag == tag)) } })
  ∧ (∀ (i : Iface) (tag : Byte) (s : State),
      (s.sec.relays.all (fun r => !(r.iface == i && r.tag == tag)) = true → exec (.relayTimeout i tag) s = .next s)
    ∧ (∀ r, s.sec.relays.find? (fun r => r.iface == i && r.tag == tag) = some r → exec (.relayTimeout i tag) s =
        .next (queueReply i ⟨replyBytes (ownAddr s) 0x51 tag true false false [], .normal⟩
          { s with sec := { s.sec with relays := s.sec.relays.erase r } }))
    ∧ (s.sec.bcasts.all (fun b => !(b.iface == i && b.tag == tag)) = true → exec (.broadcastSummary i tag) s = .next s)
    ∧ (∀ b, s.sec.bcasts.find? (fun b => b.iface == i && b.tag == tag) = some b → ∃ bad : List (Byte × Byte),
        exec (.broadcastSummary i tag) s = .next (queueReply i ⟨replyBytes (ownAddr s) 0x00 tag true false true
            ([BitVec.ofNat 8 b.answers.length, BitVec.ofNat 8 (b.answers.countP (fun x => x.2 == 0)), BitVec.ofNat 8 bad.length]
              ++ bad.flatMap (fun x => [x.1, x.2])), .normal⟩ { s with sec := { s.sec with bcasts := s.sec.bcasts.erase b } })
        ∧ (bad.map (fun x => x.1.toNat)).Pairwise (· ≤ ·)
        ∧ (∀ x, x ∈ bad ↔ (x ∈ b.answers ∧ x.2 ≠ 0) ∨ (x.2 = 0x51 ∧ x.1 ∈ b.asked ∧ ∀ y ∈ b.answers, y.1 ≠ x.1))))
  ∧ (∀ (o : Origin) (bytes : List Byte) (s : State), let n := u16 bytes 2
      let tag := if bytes.length < 2 then 0 else bytes.getD 1 0
      let bad := bytes.length < 8 ∨ 4096 < n ∨ bytes.length ≠ 8 + n
      let crcOk := u16 bytes (6 + n) == (crc16 (bytes.take (6 + n))).toNat
      let u := takePacket o s
      let answer := fun (st : Byte) => Host.Outcome.next (φ := Fault) (ρ := Refusal) (reply o false tag st true [] .normal u)
      ((bytes = [] ∨ (¬bad ∧ crcOk = true ∧ (opInfo (u8 bytes 0)).isSome)) → exec (.unknownOpcode o bytes) s = .next s)
    ∧ (bytes ≠ [] → ¬(¬bad ∧ crcOk = true ∧ (opInfo (u8 bytes 0)).isSome) →
        (canTake o s = false → exec (.unknownOpcode o bytes) s = .next (holdPacket o bytes s))
      ∧ (canTake o s = true → (bad → exec (.unknownOpcode o bytes) s = answer 0x11)
        ∧ (¬bad → crcOk = false → exec (.unknownOpcode o bytes) s = answer 0x10)
        ∧ (¬bad → crcOk = true → bytes.getD 5 0 = 0 → ((∃ a i, o = .remote a i) ∨ bytes.getD 4 0 = 0xFF ∨ destHere u (bytes.getD 4 0) = true) →
            exec (.unknownOpcode o bytes) s = answer 0x12)
        ∧ (∀ i, ¬bad → crcOk = true → o = .loc i → bytes.getD 4 0 ≠ 0xFF → destHere u (bytes.getD 4 0) = false →
            (destReachable u (bytes.getD 4 0) = false → exec (.unknownOpcode o bytes) s = answer 0x50)
          ∧ (destReachable u (bytes.getD 4 0) = true → bytes.getD 5 0 = 0 → ∃ t, exec (.unknownOpcode o bytes) s = .next t
              ∧ t.sec.relays = u.sec.relays ++ [⟨i, tag, bytes.getD 4 0, BitVec.ofNat 8 (u8 bytes 0), false⟩])))))

/-- A fabric stream sends its next bytes in segments of at most 252, at most 1,024 unacknowledged; an acknowledgement
releases exactly its bytes; a resend starts at the first unacknowledged segment. The destination takes each segment
once, in order, where it has room, rewrites STREAM and acknowledges the 32nd. DRAIN_LATE is raised once for a record.
The lamplighter queues an alarm once and acknowledges it, not when its queue is full; an origin resends it. An
admission request reserves on the route and is granted at the destination. -/
def Obligations.FabricStreams : Prop :=
  (∀ (k : Fin 16) (s : State), let st := s.res.streams[k]
      let b := ((st.recs.flatMap (·.bytes)).drop (st.ackedBytes + sumNat st.segsOut)).take 252
      let sends := linkRuns s = true ∧ (streamDef s.shadow k).drain = 3 ∧ st.admitted = true ∧ st.rx = none ∧ b ≠ [] ∧ st.segsOut.length < 1024
      (¬ sends → exec (.streamSegmentSend k) s = .next s)
    ∧ (sends → ∃ f u, exec (.streamSegmentSend k) s = .next (sendRouted f u) ∧ f.dest = BitVec.ofNat 8 (streamDef s.shadow k).dest
        ∧ f.type = 0x14 ∧ f.cls = 1 ∧ f.payload = [BitVec.ofNat 8 k.val, 0] ++ le 2 (st.segBase + BitVec.ofNat 16 st.segsOut.length).toNat ++ b
        ∧ u.res.streams[k] = { st with segsOut := st.segsOut ++ [b.length] }
        ∧ (∀ j : Fin 16, j ≠ k → u.res.streams[j] = s.res.streams[j]) ∧ u = { s with res := { s.res with streams := u.res.streams } })
    ∧ (linkRuns s = true → (streamDef s.shadow k).drain = 3 → st.rx = none → ∃ fs : List Frame,
        exec (.streamResendTimeout k) s = .next (fs.foldl (fun t f => sendRouted f t) s) ∧ fs.length = st.segsOut.length
        ∧ fs.flatMap (fun f => f.payload.drop 4) = ((st.recs.flatMap (·.bytes)).drop st.ackedBytes).take (sumNat st.segsOut)
        ∧ ∀ i f, fs[i]? = some f → f.type = 0x14 ∧ f.payload.take 4 = [BitVec.ofNat 8 k.val, 0] ++ le 2 (st.segBase + BitVec.ofNat 16 i).toNat)
    ∧ ((linkRuns s = false ∨ (streamDef s.shadow k).drain ≠ 3 ∨ st.rx ≠ none) → exec (.streamResendTimeout k) s = .next s))
  ∧ (∀ (p : Fin 4) (src : Byte) (k : Fin 16) (q : Half) (s : State), let st := s.res.streams[k]
      let n := (q - st.segBase).toNat + 1
      (st.segsOut.length < n → exec (.streamAckReceive p src k q) s = .next s)
    ∧ (n ≤ st.segsOut.length → ∃ t, exec (.streamAckReceive p src k q) s = .next t
        ∧ t.res.streams[k].segBase = q + 1 ∧ t.res.streams[k].segsOut = st.segsOut.drop n
        ∧ (t.res.streams[k].recs.flatMap (·.bytes)).drop t.res.streams[k].ackedBytes
            = (st.recs.flatMap (·.bytes)).drop (st.ackedBytes + sumNat (st.segsOut.take n))
        ∧ t.res.streams[k].recs <:+ st.recs ∧ t.res.streams[k].rxNext = st.rxNext
        ∧ (∀ j : Fin 16, j ≠ k → t.res.streams[j] = s.res.streams[j]) ∧ t = { s with res := { s.res with streams := t.res.streams } }))
  ∧ (∀ (p : Fin 4) (src : Byte) (g : StreamSeg) (s : State),
      let own := allStreams.find? (fun k => (s.res.streams[k] : StreamSt).rx == some (src, g.stream.val))
      ((linkRuns s = false ∨ own = none) → exec (.streamFrameReceive p src g) s = .next s)
    ∧ (∀ k, own = some k → linkRuns s = true → let st := s.res.streams[k]
        let takes := g.seq = st.rxNext ∧ st.rxBytes.length + g.bytes.length ≤ freeSpace st
        ∃ t, exec (.streamFrameReceive p src g) s = .next t
        ∧ (∀ j : Fin 16, j ≠ k → t.res.streams[j] = s.res.streams[j])
        ∧ t = { s with
            res := { s.res with streams := t.res.streams, mem := t.res.mem, order := t.res.order }
            link := { s.link with ports := t.link.ports, noRoute := t.link.noRoute } }
        ∧ (¬ takes → t.res.streams[k].recs = st.recs ∧ t.res.streams[k].rxNext = st.rxNext ∧ t.res.streams[k].rxBytes = st.rxBytes
            ∧ t.res.mem = s.res.mem)
        ∧ (takes → t.res.streams[k].rxNext = st.rxNext + 1
          ∧ (∃ rs, t.res.streams[k].recs = st.recs ++ rs
            ∧ sumNat (rs.map (fun r => r.bytes.length)) + t.res.streams[k].rxBytes.length = st.rxBytes.length + g.bytes.length
            ∧ (∀ r ∈ rs, r.bytes[1]? = some (BitVec.ofNat 8 k.val) ∧ r.seq = w32 r.bytes 4)
            ∧ (st.rxBytes = [] → 12 ≤ g.bytes.length → g.bytes.length = 12 + pad4 (u16 g.bytes 2) →
                rs.map (·.bytes) = [g.bytes.set 1 (BitVec.ofNat 8 k.val)] ∧ t.res.streams[k].rxBytes = []))
          ∧ (31 ≤ st.rxCount ∨ st.rxAck + 1000000 ≤ s.time.ns → ∃ u, u.res.streams[k].rxCount = 0
            ∧ t = sendRouted (ownFrame s src 2 0x15 ([BitVec.ofNat 8 g.stream.val, 0] ++ le 2 g.seq.toNat)) u))))
  ∧ (∀ (k : Fin 16) (s : State), let st := s.res.streams[k]
      let late := ∃ r l, st.recs = r :: l ∧ r.late = false ∧ st.admitted = true ∧ streamDrain s k ≠ 3 ∧ drainLat s.shadow (streamDrain s k) ≠ 0
      (¬ late → exec (.drainLate k) s = .next s)
    ∧ (late → ∃ u, exec (.drainLate k) s = .next (raise 9 Src.resDrainLate noItem u)
        ∧ (∀ r l, st.recs = r :: l → u.res.streams[k] = { st with recs := { r with late := true } :: l })
        ∧ (∀ j : Fin 16, j ≠ k → u.res.streams[j] = s.res.streams[j]) ∧ u = { s with res := { s.res with streams := u.res.streams } }))
  ∧ (∀ (p : Fin 4) (src : Byte) (a : AlarmMsg) (s : State),
      let ack := fun (t : State) => sendRouted (ownFrame s src 2 0x11 (le 2 a.aseq.toNat ++ [0, 0])) t
      ((linkRuns s = false ∨ s.link.joined = false ∨ isLamplighter s = false) → exec (.alarmFrameReceive p src a) s = .next s)
    ∧ (linkRuns s = true → s.link.joined = true → isLamplighter s = true →
        ((src, a.aseq) ∈ s.link.seenAseq → exec (.alarmFrameReceive p src a) s = .next (ack s))
      ∧ ((src, a.aseq) ∉ s.link.seenAseq → 64 ≤ s.res.alarms.length → exec (.alarmFrameReceive p src a) s = .next s)
      ∧ ((src, a.aseq) ∉ s.link.seenAseq → s.res.alarms.length < 64 → ∃ u e, exec (.alarmFrameReceive p src a) s = .next (ack u)
          ∧ u.res = { s.res with alarms := s.res.alarms ++ [e], lostBefore := false }
          ∧ u.eng = { s.eng with edges := s.eng.edges ||| (1#32 <<< 23) }
          ∧ (src, a.aseq) ∈ u.link.seenAseq ∧ (u.link.seenAseq.filter (fun x => x.1 == src)).length ≤ 64
          ∧ (a.entry.length = 32 → e = a.entry.set 22 (if s.res.lostBefore then 3 else 1))
          ∧ u = { s with res := u.res, eng := u.eng, link := { s.link with seenAseq := u.link.seenAseq } })))
  ∧ (∀ (p : Fin 4) (src : Byte) (q : Half) (s : State), ∃ t, exec (.alarmAckReceive p src q) s = .next t
      ∧ (∀ a, a ∈ t.link.alarms ↔ a ∈ s.link.alarms ∧ a.aseq ≠ q) ∧ t.link.alarms.Sublist s.link.alarms
      ∧ t = { s with link := { s.link with alarms := t.link.alarms } })
  ∧ (∀ s : State, ((s.link.addr = none ∨ s.link.ll = none) → exec .alarmResend s = .next s)
    ∧ (∀ x u pr la, s.link.addr = some x → s.link.ll = some (u, pr, la) →
        (u = Config.uid → exec .alarmResend s = .next { s with link := { s.link with alarms := [] } })
      ∧ (u ≠ Config.uid → (∀ a ∈ s.link.alarms, a.sent = false) → exec .alarmResend s = .next
          ((s.link.alarms.map (fun a => ownFrame s la 0 0x10 (le 2 a.aseq.toNat ++ [0, 0] ++ a.entry))).foldl (fun t f => sendRouted f t)
            { s with link := { s.link with
                alarms := s.link.alarms.map (fun a => { a with sent := true })
                alarmSent := sat16 s.link.alarmSent s.link.alarms.length } }))
      ∧ (u ≠ Config.uid → linkRuns s = true → ∀ a, s.link.alarms = [a] → a.sent = true → ∃ v, exec .alarmResend s = .next (sendHeldAlarms
            (raise 8 Src.linkAlarmResend noItem v))
          ∧ v.link.alarmResent = sat16 s.link.alarmResent 1
          ∧ { v with link := { v.link with alarmResent := s.link.alarmResent } }
              = sendRouted (ownFrame s la 0 0x10 (le 2 a.aseq.toNat ++ [1, 0] ++ a.entry)) s)))
  ∧ (∀ (p : Fin 4) (q : AdmissionReq) (s : State),
      let ans := fun (g f : Bool) => admissionAnswer s q.src q.stream.val g f
      let fwd : Frame := { admissionFrame s q.dest q.stream.val (ifaceByte q.iface).toNat q.e q.rate q.sources q.release with source := q.src, hops := 15 }
      (destHere s q.dest = true → q.release = false →
        (grantReceive q s = none → exec (.admissionRequestReceive p q) s = .next (sendRouted (ans false true) s))
      ∧ (∀ t, grantReceive q s = some t → ∃ u k, exec (.admissionRequestReceive p q) s = .next (sendRouted (ans true true) u)
          ∧ u.res.streams[k].rx = some (q.src, q.stream.val) ∧ u.res.streams[k].admitted = true ∧ u.res.streams[k].rxNext = 0
          ∧ u.res.streams[k].e = q.e ∧ u.res.streams[k].rate = q.rate
          ∧ (∀ j : Fin 16, j ≠ k → u.res.streams[j] = s.res.streams[j])))
    ∧ (destHere s q.dest = true → q.release = true → (∀ k : Fin 16, s.res.streams[k].rx ≠ some (q.src, q.stream.val)) →
        exec (.admissionRequestReceive p q) s = .next s)
    ∧ (destHere s q.dest = true → q.release = true → ∀ k : Fin 16, s.res.streams[k].rx = some (q.src, q.stream.val) →
        (∀ j : Fin 16, s.res.streams[j].rx = some (q.src, q.stream.val) → j = k) →
        ∃ t, exec (.admissionRequestReceive p q) s = .next t ∧ t.res.streams[k].admitted = false ∧ t.res.streams[k].rx = none)
    ∧ (destHere s q.dest = false → q.release = true → exec (.admissionRequestReceive p q) s = .next (sendRouted fwd { s with
        link := { s.link with reserved := s.link.reserved.filter (fun r => !(r.1 == q.src && r.2.1 == q.stream.val)) } }))
    ∧ (destHere s q.dest = false → q.release = false →
        (routePort s q.dest = none → exec (.admissionRequestReceive p q) s = .next (sendRouted (ans false false) s))
      ∧ (∀ n, routePort s q.dest = some n →
          let rest := s.link.reserved.filter (fun r => !(r.1 == q.src && r.2.1 == q.stream.val))
          let room := portUsed { s with link := { s.link with reserved := rest } } n + q.rate ≤ portRoom s n
          (¬ room → exec (.admissionRequestReceive p q) s = .next (sendRouted (ans false false) s))
        ∧ (room → exec (.admissionRequestReceive p q) s = .next (sendRouted fwd (sendRouted (ans true false) { s with
            link := { s.link with reserved := rest ++ [(q.src, q.stream.val, n.val, q.rate)] } }))))))
  ∧ (∀ (src : Byte) (a : AdmissionReply) (s : State), let st := s.res.streams[a.stream]
      (st.asking = none → exec (.admissionReplyReceive src a) s = .next s)
    ∧ (∀ q, st.asking = some q → a.granted = true → a.final = false → exec (.admissionReplyReceive src a) s = .next s)
    ∧ (∀ q, st.asking = some q → a.granted = true → a.final = true → ∃ u, exec (.admissionReplyReceive src a) s = .next
          (reply q.origin false q.tag 0x00 true (admitData q.e q.rate q.share q.pages 0) .normal u)
        ∧ u.res.streams[a.stream].admitted = true ∧ u.res.streams[a.stream].asking = none
        ∧ u.res.streams[a.stream].pages = q.pages ∧ u.res.streams[a.stream].base = q.base ∧ u.res.streams[a.stream].e = q.e
        ∧ (∀ j : Fin 16, j ≠ a.stream → u.res.streams[j] = s.res.streams[j]))
    ∧ (∀ q, st.asking = some q → a.granted = false → ∃ u, exec (.admissionReplyReceive src a) s = .next
          (reply q.origin false q.tag 0x40 true (admitData q.e q.rate q.share 0 6) .normal u)
        ∧ u.res.streams[a.stream] = { st with asking := none } ∧ (∀ j : Fin 16, j ≠ a.stream → u.res.streams[j] = s.res.streams[j])
        ∧ u.link.reserved.filter (fun r => r.1 == ownAddr s && r.2.1 == a.stream.val)
            = (if (streamDef s.shadow a.stream).drain = 3 then [] else s.link.reserved.filter (fun r => r.1 == ownAddr s && r.2.1 == a.stream.val))))

/-- A device holds a change it checked OK and acknowledges its status. The lamplighter marks the change prepared when
every device acknowledged OK, else aborts it everywhere. COMMIT is sent again to devices that did not acknowledge it,
until 60 s after the target. A COMMIT frame, the elected lamplighter's SYNC of the new schedule or a TOPO record
commits the held change. At the target boundary a committed change applies, MODE_GEN increments and MODE_ID takes its
id; one without commit lags. ABORT discards it. -/
def Obligations.ModeChangeRules : Prop :=
  (∀ (p : Fin 4) (src : Byte) (c : ModeChange) (s : State), let hears := linkRuns s = true ∧ isLamplighter s = false ∧ (llShown s).1 = src
      (¬ hears → exec (.modePrepareReceive p src c) s = .next s)
    ∧ (hears → ∃ t, exec (.modePrepareReceive p src c) s = .next (modeFrames src (ackPayload 0 c.id (modeCheck c s)) t)
        ∧ t.link.prep = (if modeCheck c s = 0 then some ⟨c, false, false, false⟩ else s.link.prep)
        ∧ t.shadow = s.shadow ∧ t.active = s.active ∧ t.time = s.time)
    ∧ (s.link.prep ≠ none → modeCheck c s ≠ 0))
  ∧ (∀ s : State, ((s.link.flight = none ∨ findOut s 0x73 = none) →
        exec .modePrepareDone s = .next s)
      ∧ ((s.link.flight = none ∨ findOut s 0x74 = none) → exec .modeCommitDone s = .next s)
      ∧ (∀ f o, s.link.flight = some f → findOut s 0x73 = some o →
          let ok := (∀ x ∈ f.acks, x.2 = 0) ∧ ∀ d ∈ f.asked, ∃ x ∈ f.acks, x.1 = d
          (ok → exec .modePrepareDone s = .next (completeDeferred 0x73 0x00 [1, BitVec.ofNat 8 f.acks.length, BitVec.ofNat 8 f.acks.length, 0]
            .normal { s with link := { s.link with flight := some { f with prepared := true } } }))
        ∧ (¬ ok → ∃ t d, exec .modePrepareDone s = .next (completeDeferred 0x73 0x00
              ([0, BitVec.ofNat 8 f.acks.length, BitVec.ofNat 8 (f.acks.countP (fun x => x.2 == 0))] ++ d) .normal t)
            ∧ t.link.flight = none ∧ (s.link.prep.all (fun x => x.change.id == f.change.id) = true → t.link.prep = none)
            ∧ t.shadow = s.shadow ∧ t.active = s.active))
      ∧ (∀ f o, s.link.flight = some f → findOut s 0x74 = some o → f.aborted = false → ∃ d,
          exec .modeCommitDone s = .next (completeDeferred 0x74 0x00 ([BitVec.ofNat 8 f.applied.length,
            BitVec.ofNat 8 (f.applied.countP (fun x => x.2 == f.change.target)), BitVec.ofNat 8 (f.applied.countP (fun x => x.2 != f.change.target)),
            BitVec.ofNat 8 (f.asked.countP (fun a => f.applied.all (fun x => x.1 != a)))] ++ d) .normal
            { s with link := { s.link with flight := none } })))
  ∧ (∀ (src : Byte) (a : ModeAck) (s : State),
      ((∀ f, s.link.flight = some f → f.change.id ≠ a.id ∨ a.src ≠ src ∨ src ∉ f.asked) → exec (.modeAckReceive src a) s = .next s)
    ∧ (∀ f, s.link.flight = some f → f.change.id = a.id → a.src = src → src ∈ f.asked → ∃ g,
        exec (.modeAckReceive src a) s = .next { s with link := { s.link with flight := some g } }
        ∧ (a.kind = 0 → f.prepared = false → (∀ x ∈ f.acks, x.1 ≠ src) → g = { f with acks := f.acks ++ [(src, a.status)] })
        ∧ (a.kind = 0 → f.prepared = true ∨ (∃ x ∈ f.acks, x.1 = src) → g = f)
        ∧ (a.kind = 1 → src ∈ g.commitAcks ∧ g = { f with commitAcks := g.commitAcks })
        ∧ (a.kind = 2 → g = { f with abortAcks := g.abortAcks } ∧ (f.aborted = true → src ∈ g.abortAcks))))
  ∧ (∀ (src : Byte) (id : Half) (e : Word) (s : State), ∃ t, exec (.modeAppliedReceive src id e) s = .next t
      ∧ (s.link.flight = none → t = s)
      ∧ (∀ f, s.link.flight = some f →
          let takes := f.change.id = id ∧ src ∈ f.asked ∧ ∀ x ∈ f.applied, x.1 ≠ src
          (takes → t = { s with link := { s.link with flight := some { f with applied := f.applied ++ [(src, e)] } } })
        ∧ (¬ takes → t = s)))
  ∧ (∀ s : State, (s.link.flight = none → exec .modeCommitResend s = .next s)
      ∧ (∀ f, s.link.flight = some f → let past := targetStart f.change s + 60000000000 ≤ s.time.ns
          (f.commitSent = true → past → exec .modeCommitResend s = .next s)
        ∧ (f.commitSent = true → ¬ past → exec .modeCommitResend s = .next (modeToAll (f.asked.filter (fun a => !f.commitAcks.contains a))
            (orderPayload 1 f.change.id) s))
        ∧ (f.commitSent = false → ¬ (past ∧ f.prepared = true ∧ f.aborted = false) → exec .modeCommitResend s = .next s)
        ∧ (f.commitSent = false → past → f.prepared = true → f.aborted = false → ∃ t, exec .modeCommitResend s = .next t
            ∧ t.link.flight = none ∧ (s.link.prep.all (fun x => x.change.id == f.change.id) = true → t.link.prep = none)
            ∧ t.shadow = s.shadow ∧ t.active = s.active)))
  ∧ (∀ (how : CommitKind) (s : State), ∃ t, exec (.modeCommitReceive how) s = .next t ∧ (s.link.prep = none → t.link.prep = none)
      ∧ (∀ x, s.link.prep = some x → t.link.prep = some { x with
          committed := x.committed || (match how with
            | .frame _ id => x.change.id == id
            | .sync n0 p => x.change.newP != 0 && x.change.newP == p && x.change.target == n0
            | .topo id => x.change.id == id) })
      ∧ t.shadow = s.shadow ∧ t.active = s.active ∧ t.time = s.time
      ∧ (∀ src id, how = .frame src id → linkRuns s = true → (s.link.modeId = id ∨ s.link.prep.any (fun x => x.change.id == id) = true) →
          ∃ u, t = modeFrames src (ackPayload 1 id 0) u))
  ∧ (∀ (src : Byte) (id : Half) (s : State), (linkRuns s = false → exec (.modeAbortReceive src id) s = .next s)
      ∧ (linkRuns s = true → ∃ t, exec (.modeAbortReceive src id) s = .next t
        ∧ (s.link.prep.any (fun x => x.change.id == id) = true → t.link.prep = none ∧ t.link.modeLag = false)
        ∧ (s.link.prep.any (fun x => x.change.id == id) = false → t.link.prep = s.link.prep ∧ t.link.modeLag = s.link.modeLag)
        ∧ t.shadow = s.shadow ∧ t.active = s.active ∧ t.time = s.time ∧ t.link.modeGen = s.link.modeGen ∧ t.link.modeId = s.link.modeId))
  ∧ (∀ s : State, ∃ t, exec .preparedChangeDiscard s = .next t
      ∧ (s.link.prep.all (fun x => x.committed) = true → t = s)
      ∧ (s.link.prep.any (fun x => !x.committed) = true → t.link.prep = none ∧ t.link.modeLag = false)
      ∧ t.shadow = s.shadow ∧ t.active = s.active ∧ t.time = s.time)
  ∧ (∀ (m : Word) (s : State), (s.link.prep = none → modeStep m s = s)
      ∧ (∀ x, s.link.prep = some x →
          (laterW x.change.target m = true → modeStep m s = s)
        ∧ (laterW x.change.target m = false → x.committed = true ∨ x.resume = true → let t := modeStep m s
            t.link.modeGen = s.link.modeGen + 1 ∧ t.link.modeId = x.change.id ∧ t.link.prep = none ∧ t.link.modeLag = false
          ∧ (x.change.newP = 0 ∨ x.resume = true → t.time.sched = s.time.sched)
          ∧ (∀ c, s.time.sched = some c → x.change.newP ≠ 0 → x.resume = false →
              t.time.sched = some ⟨x.change.newP, epochStart c m, m⟩)
          ∧ t.shadow = modeFile (modeWrites x.change s) s)
        ∧ (laterW x.change.target m = false → x.committed = false → x.resume = false → x.lagging = true → modeStep m s = s)
        ∧ (laterW x.change.target m = false → x.committed = false → x.resume = false → x.lagging = false → ∃ u, modeStep m s = raise 8 Src.linkModeLag noItem u
          ∧ u.link.modeLag = true ∧ u.link.prep = some { x with lagging := true } ∧ u.hif.irqEvents.getLsbD 2 = true
          ∧ u.link.modeGen = s.link.modeGen ∧ u.shadow = s.shadow ∧ u.active = s.active ∧ u.time = s.time)))
end

