-- ==== Sys2Proof/Laws/Dispatch.lean ====
section
/-! SUPPORT. Each arm of exec, as an equation. -/
namespace Sys2Proof.Machine

open Sys2Proof

theorem exec_nop p s : exec (.nop p) s = execNop p s := rfl
theorem exec_identify p s : exec (.identify p) s = execIdentify p s := rfl
theorem exec_getStatus p s : exec (.getStatus p) s = execGetStatus p s := rfl
theorem exec_sessionOpen p s : exec (.sessionOpen p) s = execSessionOpen p s := rfl
theorem exec_sessionAuth p s : exec (.sessionAuth p) s = execSessionAuth p s := rfl
theorem exec_sessionClose p s : exec (.sessionClose p) s = execSessionClose p s := rfl
theorem exec_setPowerState p s : exec (.setPowerState p) s = execSetPowerState p s := rfl
theorem exec_reset p s : exec (.reset p) s = execReset p s := rfl
theorem exec_readReg p s : exec (.readReg p) s = execReadReg p s := rfl
theorem exec_writeReg p s : exec (.writeReg p) s = execWriteReg p s := rfl
theorem exec_saveConfig p s : exec (.saveConfig p) s = execSaveConfig p s := rfl
theorem exec_loadConfig p s : exec (.loadConfig p) s = execLoadConfig p s := rfl
theorem exec_gridConfig p s : exec (.gridConfig p) s = execGridConfig p s := rfl
theorem exec_regionDefine p s : exec (.regionDefine p) s = execRegionDefine p s := rfl
theorem exec_drivePlan p s : exec (.drivePlan p) s = execDrivePlan p s := rfl
theorem exec_gridStart p s : exec (.gridStart p) s = execGridStart p s := rfl
theorem exec_gridStop p s : exec (.gridStop p) s = execGridStop p s := rfl
theorem exec_captureReference p s : exec (.captureReference p) s = execCaptureReference p s := rfl
theorem exec_readFrame p s : exec (.readFrame p) s = execReadFrame p s := rfl
theorem exec_selfcapConfig p s : exec (.selfcapConfig p) s = execSelfcapConfig p s := rfl
theorem exec_touchConfig p s : exec (.touchConfig p) s = execTouchConfig p s := rfl
theorem exec_controlDefine p s : exec (.controlDefine p) s = execControlDefine p s := rfl
theorem exec_gestureConfig p s : exec (.gestureConfig p) s = execGestureConfig p s := rfl
theorem exec_baselineReset p s : exec (.baselineReset p) s = execBaselineReset p s := rfl
theorem exec_contactPolicy p s : exec (.contactPolicy p) s = execContactPolicy p s := rfl
theorem exec_readContacts p s : exec (.readContacts p) s = execReadContacts p s := rfl
theorem exec_carrierTable p s : exec (.carrierTable p) s = execCarrierTable p s := rfl
theorem exec_hopPolicy p s : exec (.hopPolicy p) s = execHopPolicy p s := rfl
theorem exec_noiseSurvey p s : exec (.noiseSurvey p) s = execNoiseSurvey p s := rfl
theorem exec_emberConfig p s : exec (.emberConfig p) s = execEmberConfig p s := rfl
theorem exec_bridgeConfig p s : exec (.bridgeConfig p) s = execBridgeConfig p s := rfl
theorem exec_exciteSet p s : exec (.exciteSet p) s = execExciteSet p s := rfl
theorem exec_cmwinSet p s : exec (.cmwinSet p) s = execCmwinSet p s := rfl
theorem exec_checkDac p s : exec (.checkDac p) s = execCheckDac p s := rfl
theorem exec_laneReinstate p s : exec (.laneReinstate p) s = execLaneReinstate p s := rfl
theorem exec_trimApply p s : exec (.trimApply p) s = execTrimApply p s := rfl
theorem exec_trimRead p s : exec (.trimRead p) s = execTrimRead p s := rfl
theorem exec_convConfig p s : exec (.convConfig p) s = execConvConfig p s := rfl
theorem exec_filterSelect p s : exec (.filterSelect p) s = execFilterSelect p s := rfl
theorem exec_convStart p s : exec (.convStart p) s = execConvStart p s := rfl
theorem exec_convStop p s : exec (.convStop p) s = execConvStop p s := rfl
theorem exec_decimSync p s : exec (.decimSync p) s = execDecimSync p s := rfl
theorem exec_threshSet p s : exec (.threshSet p) s = execThreshSet p s := rfl
theorem exec_onsetConfig p s : exec (.onsetConfig p) s = execOnsetConfig p s := rfl
theorem exec_timeSet p s : exec (.timeSet p) s = execTimeSet p s := rfl
theorem exec_timeGet p s : exec (.timeGet p) s = execTimeGet p s := rfl
theorem exec_servoConfig p s : exec (.servoConfig p) s = execServoConfig p s := rfl
theorem exec_triggerSet p s : exec (.triggerSet p) s = execTriggerSet p s := rfl
theorem exec_captureConfig p s : exec (.captureConfig p) s = execCaptureConfig p s := rfl
theorem exec_beaconConfig p s : exec (.beaconConfig p) s = execBeaconConfig p s := rfl
theorem exec_epochSet p s : exec (.epochSet p) s = execEpochSet p s := rfl
theorem exec_fabricJoin p s : exec (.fabricJoin p) s = execFabricJoin p s := rfl
theorem exec_fabricStatus p s : exec (.fabricStatus p) s = execFabricStatus p s := rfl
theorem exec_routeRead p s : exec (.routeRead p) s = execRouteRead p s := rfl
theorem exec_modePrepare p s : exec (.modePrepare p) s = execModePrepare p s := rfl
theorem exec_modeCommit p s : exec (.modeCommit p) s = execModeCommit p s := rfl
theorem exec_portConfig p s : exec (.portConfig p) s = execPortConfig p s := rfl
theorem exec_lamplighterPriority p s : exec (.lamplighterPriority p) s = execLamplighterPriority p s := rfl
theorem exec_streamDefine p s : exec (.streamDefine p) s = execStreamDefine p s := rfl
theorem exec_streamAdmit p s : exec (.streamAdmit p) s = execStreamAdmit p s := rfl
theorem exec_streamStart p s : exec (.streamStart p) s = execStreamStart p s := rfl
theorem exec_streamStop p s : exec (.streamStop p) s = execStreamStop p s := rfl
theorem exec_streamRead p s : exec (.streamRead p) s = execStreamRead p s := rfl
theorem exec_drainDeclare p s : exec (.drainDeclare p) s = execDrainDeclare p s := rfl
theorem exec_faultRead p s : exec (.faultRead p) s = execFaultRead p s := rfl
theorem exec_faultAck p s : exec (.faultAck p) s = execFaultAck p s := rfl
theorem exec_severitySet p s : exec (.severitySet p) s = execSeveritySet p s := rfl
theorem exec_thermalConfig p s : exec (.thermalConfig p) s = execThermalConfig p s := rfl
theorem exec_healthRead p s : exec (.healthRead p) s = execHealthRead p s := rfl
theorem exec_keySet p s : exec (.keySet p) s = execKeySet p s := rfl
theorem exec_journalRead p s : exec (.journalRead p) s = execJournalRead p s := rfl
theorem exec_journalPolicy p s : exec (.journalPolicy p) s = execJournalPolicy p s := rfl
theorem exec_imageBegin p s : exec (.imageBegin p) s = execImageBegin p s := rfl
theorem exec_imageData p s : exec (.imageData p) s = execImageData p s := rfl
theorem exec_imageEnd p s : exec (.imageEnd p) s = execImageEnd p s := rfl
theorem exec_imageActivate p s : exec (.imageActivate p) s = execImageActivate p s := rfl
theorem exec_decodeLoad p s : exec (.decodeLoad p) s = execDecodeLoad p s := rfl
theorem exec_powerTransitionComplete us s : exec (.powerTransitionComplete us) s = execPowerTransitionComplete us s := rfl
theorem exec_saveConfigDone r s : exec (.saveConfigDone r) s = execSaveConfigDone r s := rfl
theorem exec_loadConfigDone  s : exec .loadConfigDone s = execLoadConfigDone s := rfl
theorem exec_captureReferenceDone r s : exec (.captureReferenceDone r) s = execCaptureReferenceDone r s := rfl
theorem exec_noiseSurveyDone  s : exec .noiseSurveyDone s = execNoiseSurveyDone s := rfl
theorem exec_fabricJoinDone  s : exec .fabricJoinDone s = execFabricJoinDone s := rfl
theorem exec_modePrepareDone  s : exec .modePrepareDone s = execModePrepareDone s := rfl
theorem exec_modeCommitDone  s : exec .modeCommitDone s = execModeCommitDone s := rfl
theorem exec_keySetDone r s : exec (.keySetDone r) s = execKeySetDone r s := rfl
theorem exec_journalPolicyDone r s : exec (.journalPolicyDone r) s = execJournalPolicyDone r s := rfl
theorem exec_imageEndDone r s : exec (.imageEndDone r) s = execImageEndDone r s := rfl
theorem exec_imageActivateDone r s : exec (.imageActivateDone r) s = execImageActivateDone r s := rfl
theorem exec_decodeLoadDone r s : exec (.decodeLoadDone r) s = execDecodeLoadDone r s := rfl
theorem exec_relayTimeout port tag s : exec (.relayTimeout port tag) s = execRelayTimeout port tag s := rfl
theorem exec_broadcastSummary port tag s : exec (.broadcastSummary port tag) s = execBroadcastSummary port tag s := rfl
theorem exec_cmdMailboxWrite port b s : exec (.cmdMailboxWrite port b) s = execCmdMailboxWrite port b s := rfl
theorem exec_doorbellSubmit port s : exec (.doorbellSubmit port) s = execDoorbellSubmit port s := rfl
theorem exec_doorbellDiscard port s : exec (.doorbellDiscard port) s = execDoorbellDiscard port s := rfl
theorem exec_replyMailboxRead port s : exec (.replyMailboxRead port) s = execReplyMailboxRead port s := rfl
theorem exec_replyPop port s : exec (.replyPop port) s = execReplyPop port s := rfl
theorem exec_replyRewind port s : exec (.replyRewind port) s = execReplyRewind port s := rfl
theorem exec_streamPortRead port s : exec (.streamPortRead port) s = execStreamPortRead port s := rfl
theorem exec_streamCommit port s : exec (.streamCommit port) s = execStreamCommit port s := rfl
theorem exec_streamRewind port s : exec (.streamRewind port) s = execStreamRewind port s := rfl
theorem exec_alarmPortRead port s : exec (.alarmPortRead port) s = execAlarmPortRead port s := rfl
theorem exec_wakeExitRequest port s : exec (.wakeExitRequest port) s = execWakeExitRequest port s := rfl
theorem exec_wakeRelease port s : exec (.wakeRelease port) s = execWakeRelease port s := rfl
theorem exec_statusFieldLatch port off s : exec (.statusFieldLatch port off) s = execStatusFieldLatch port off s := rfl
theorem exec_i2cAddressPhase addr read onePtr s : exec (.i2cAddressPhase addr read onePtr) s = execI2cAddressPhase addr read onePtr s := rfl
theorem exec_pointerLoad lo hi s : exec (.pointerLoad lo hi) s = execPointerLoad lo hi s := rfl
theorem exec_i2cWriteByte b s : exec (.i2cWriteByte b) s = execI2cWriteByte b s := rfl
theorem exec_i2cReadByte ready s : exec (.i2cReadByte ready) s = execI2cReadByte ready s := rfl
theorem exec_condDiscard stop s : exec (.condDiscard stop) s = execCondDiscard stop s := rfl
theorem exec_stopCondition onePtr s : exec (.stopCondition onePtr) s = execStopCondition onePtr s := rfl
theorem exec_sclTimeout  s : exec .sclTimeout s = execSclTimeout s := rfl
theorem exec_sdaTimeout  s : exec .sdaTimeout s = execSdaTimeout s := rfl
theorem exec_qspiWrite ptr data s : exec (.qspiWrite ptr data) s = execQspiWrite ptr data s := rfl
theorem exec_qspiRead ptr n s : exec (.qspiRead ptr n) s = execQspiRead ptr n s := rfl
theorem exec_readState n s : exec (.readState n) s = execReadState n s := rfl
theorem exec_bulkRead n s : exec (.bulkRead n) s = execBulkRead n s := rfl
theorem exec_csAbort  s : exec .csAbort s = execCsAbort s := rfl
theorem exec_badInstr code s : exec (.badInstr code) s = execBadInstr code s := rfl
theorem exec_csnExitRequest  s : exec .csnExitRequest s = execCsnExitRequest s := rfl
theorem exec_syncEdge falling t s : exec (.syncEdge falling t) s = execSyncEdge falling t s := rfl
theorem exec_trigEdge n falling t s : exec (.trigEdge n falling t) s = execTrigEdge n falling t s := rfl
theorem exec_ppsinEdge falling t s : exec (.ppsinEdge falling t) s = execPpsinEdge falling t s := rfl
theorem exec_ppsLost  s : exec .ppsLost s = execPpsLost s := rfl
theorem exec_ppsoutPulse  s : exec .ppsoutPulse s = execPpsoutPulse s := rfl
theorem exec_tclkLost  s : exec .tclkLost s = execTclkLost s := rfl
theorem exec_por  s : exec .por s = execPor s := rfl
theorem exec_supplyReset lostAlwaysOn s : exec (.supplyReset lostAlwaysOn) s = execSupplyReset lostAlwaysOn s := rfl
theorem exec_pinReset  s : exec .pinReset s = execPinReset s := rfl
theorem exec_resetBegin  s : exec .resetBegin s = execResetBegin s := rfl
theorem exec_firmwareRestart  s : exec .firmwareRestart s = execFirmwareRestart s := rfl
theorem exec_imageSelfCheck selfTest s : exec (.imageSelfCheck selfTest) s = execImageSelfCheck selfTest s := rfl
theorem exec_startupConfigLoad  s : exec .startupConfigLoad s = execStartupConfigLoad s := rfl
theorem exec_emberEntry  s : exec .emberEntry s = execEmberEntry s := rfl
theorem exec_exitComplete  s : exec .exitComplete s = execExitComplete s := rfl
theorem exec_safeLogProgram  s : exec .safeLogProgram s = execSafeLogProgram s := rfl
theorem exec_thermalShutdown  s : exec .thermalShutdown s = execThermalShutdown s := rfl
theorem exec_thermalRestart  s : exec .thermalRestart s = execThermalRestart s := rfl
theorem exec_wdogWarn  s : exec .wdogWarn s = execWdogWarn s := rfl
theorem exec_watchdogExpiry  s : exec .watchdogExpiry s = execWatchdogExpiry s := rfl
theorem exec_epochBoundary  s : exec .epochBoundary s = execEpochBoundary s := rfl
theorem exec_gridFrameStart  s : exec .gridFrameStart s = execGridFrameStart s := rfl
theorem exec_gridFrameComplete x s : exec (.gridFrameComplete x) s = execGridFrameComplete x s := rfl
theorem exec_idleListenFrame u s : exec (.idleListenFrame u) s = execIdleListenFrame u s := rfl
theorem exec_driveOvercurrent line s : exec (.driveOvercurrent line) s = execDriveOvercurrent line s := rfl
theorem exec_vtxLow present s : exec (.vtxLow present) s = execVtxLow present s := rfl
theorem exec_touchMutualFrame late s : exec (.touchMutualFrame late) s = execTouchMutualFrame late s := rfl
theorem exec_touchSelfFrame late s : exec (.touchSelfFrame late) s = execTouchSelfFrame late s := rfl
theorem exec_emberScan v s : exec (.emberScan v) s = execEmberScan v s := rfl
theorem exec_housekeepingRound conv checkOk s : exec (.housekeepingRound conv checkOk) s = execHousekeepingRound conv checkOk s := rfl
theorem exec_bridgeSample r x s : exec (.bridgeSample r x) s = execBridgeSample r x s := rfl
theorem exec_convIntervalEvent  s : exec .convIntervalEvent s = execConvIntervalEvent s := rfl
theorem exec_modOverload lane negative s : exec (.modOverload lane negative) s = execModOverload lane negative s := rfl
theorem exec_modUnlock  s : exec .modUnlock s = execModUnlock s := rfl
theorem exec_windowViolationBegin w t s : exec (.windowViolationBegin w t) s = execWindowViolationBegin w t s := rfl
theorem exec_leadEventClassify lane s : exec (.leadEventClassify lane) s = execLeadEventClassify lane s := rfl
theorem exec_windowViolationEnd w t s : exec (.windowViolationEnd w t) s = execWindowViolationEnd w t s := rfl
theorem exec_transientClose w s : exec (.transientClose w) s = execTransientClose w s := rfl
theorem exec_permanentDecision w s : exec (.permanentDecision w) s = execPermanentDecision w s := rfl
theorem exec_excOvercurrent g s : exec (.excOvercurrent g) s = execExcOvercurrent g s := rfl
theorem exec_vexLow g present s : exec (.vexLow g present) s = execVexLow g present s := rfl
theorem exec_brdgChangeApply g s : exec (.brdgChangeApply g) s = execBrdgChangeApply g s := rfl
theorem exec_brdgSnuffApply w s : exec (.brdgSnuffApply w) s = execBrdgSnuffApply w s := rfl
theorem exec_timeTriggerFire u s : exec (.timeTriggerFire u) s = execTimeTriggerFire u s := rfl
theorem exec_slewEnd  s : exec .slewEnd s = execSlewEnd s := rfl
theorem exec_syncFrameSend  s : exec .syncFrameSend s = execSyncFrameSend s := rfl
theorem exec_syncFrameReceive p f t2 s : exec (.syncFrameReceive p f t2) s = execSyncFrameReceive p f t2 s := rfl
theorem exec_delayReqSend t3 s : exec (.delayReqSend t3) s = execDelayReqSend t3 s := rfl
theorem exec_delayReqReceive p seq t4 s : exec (.delayReqReceive p seq t4) s = execDelayReqReceive p seq t4 s := rfl
theorem exec_delayRespReceive p seq t4 s : exec (.delayRespReceive p seq t4) s = execDelayRespReceive p seq t4 s := rfl
theorem exec_delayRespTimeout  s : exec .delayRespTimeout s = execDelayRespTimeout s := rfl
theorem exec_beaconMissed  s : exec .beaconMissed s = execBeaconMissed s := rfl
theorem exec_portTrained p uid s : exec (.portTrained p uid) s = execPortTrained p uid s := rfl
theorem exec_helloSend  s : exec .helloSend s = execHelloSend s := rfl
theorem exec_helloReceive p h s : exec (.helloReceive p h) s = execHelloReceive p h s := rfl
theorem exec_linkDown p codeErrors s : exec (.linkDown p codeErrors) s = execLinkDown p codeErrors s := rfl
theorem exec_creditReceive p cls n s : exec (.creditReceive p cls n) s = execCreditReceive p cls n s := rfl
theorem exec_frameForward p f s : exec (.frameForward p f) s = execFrameForward p f s := rfl
theorem exec_topoOriginate  s : exec .topoOriginate s = execTopoOriginate s := rfl
theorem exec_topoReceive p r s : exec (.topoReceive p r) s = execTopoReceive p r s := rfl
theorem exec_topoExpiry uid s : exec (.topoExpiry uid) s = execTopoExpiry uid s := rfl
theorem exec_databaseSettled  s : exec .databaseSettled s = execDatabaseSettled s := rfl
theorem exec_assignReceive p a s : exec (.assignReceive p a) s = execAssignReceive p a s := rfl
theorem exec_cmdFrameReceive p src dest g s : exec (.cmdFrameReceive p src dest g) s = execCmdFrameReceive p src dest g s := rfl
theorem exec_rplFrameReceive p src g s : exec (.rplFrameReceive p src g) s = execRplFrameReceive p src g s := rfl
theorem exec_reassemblyTimeout isReply src port tag s : exec (.reassemblyTimeout isReply src port tag) s = execReassemblyTimeout isReply src port tag s := rfl
theorem exec_streamSegmentSend k s : exec (.streamSegmentSend k) s = execStreamSegmentSend k s := rfl
theorem exec_streamFrameReceive p src g s : exec (.streamFrameReceive p src g) s = execStreamFrameReceive p src g s := rfl
theorem exec_streamAckReceive p src k seq s : exec (.streamAckReceive p src k seq) s = execStreamAckReceive p src k seq s := rfl
theorem exec_streamResendTimeout k s : exec (.streamResendTimeout k) s = execStreamResendTimeout k s := rfl
theorem exec_alarmFrameReceive p src a s : exec (.alarmFrameReceive p src a) s = execAlarmFrameReceive p src a s := rfl
theorem exec_alarmAckReceive p src aseq s : exec (.alarmAckReceive p src aseq) s = execAlarmAckReceive p src aseq s := rfl
theorem exec_alarmResend  s : exec .alarmResend s = execAlarmResend s := rfl
theorem exec_admissionRequestReceive p q s : exec (.admissionRequestReceive p q) s = execAdmissionRequestReceive p q s := rfl
theorem exec_modePrepareReceive p src c s : exec (.modePrepareReceive p src c) s = execModePrepareReceive p src c s := rfl
theorem exec_modeAckReceive src a s : exec (.modeAckReceive src a) s = execModeAckReceive src a s := rfl
theorem exec_modeCommitReceive how s : exec (.modeCommitReceive how) s = execModeCommitReceive how s := rfl
theorem exec_modeAbortReceive src id s : exec (.modeAbortReceive src id) s = execModeAbortReceive src id s := rfl
theorem exec_modeAppliedReceive src id epoch s : exec (.modeAppliedReceive src id epoch) s = execModeAppliedReceive src id epoch s := rfl
theorem exec_modeCommitResend  s : exec .modeCommitResend s = execModeCommitResend s := rfl
theorem exec_preparedChangeDiscard  s : exec .preparedChangeDiscard s = execPreparedChangeDiscard s := rfl
theorem exec_drainLate k s : exec (.drainLate k) s = execDrainLate k s := rfl
theorem exec_replyStall port s : exec (.replyStall port) s = execReplyStall port s := rfl
theorem exec_sessionIdleTimeout k s : exec (.sessionIdleTimeout k) s = execSessionIdleTimeout k s := rfl
theorem exec_challengeExpiry k s : exec (.challengeExpiry k) s = execChallengeExpiry k s := rfl
theorem exec_lockoutEnd k s : exec (.lockoutEnd k) s = execLockoutEnd k s := rfl
theorem exec_stateParity b src s : exec (.stateParity b src) s = execStateParity b src s := rfl
theorem exec_blockResetRestart b s : exec (.blockResetRestart b) s = execBlockResetRestart b s := rfl
theorem exec_journalEntryProgram  s : exec .journalEntryProgram s = execJournalEntryProgram s := rfl
theorem exec_journalSectorErase ok s : exec (.journalSectorErase ok) s = execJournalSectorErase ok s := rfl
theorem exec_snuffListWrite r s : exec (.snuffListWrite r) s = execSnuffListWrite r s := rfl
theorem exec_keyAreaUpdate r s : exec (.keyAreaUpdate r) s = execKeyAreaUpdate r s := rfl
theorem exec_faultStatAck w b mask s : exec (.faultStatAck w b mask) s = execFaultStatAck w b mask s := rfl
theorem exec_hkpReinstate w v s : exec (.hkpReinstate w v) s = execHkpReinstate w v s := rfl
theorem exec_secCfgLockWrite w v s : exec (.secCfgLockWrite w v) s = execSecCfgLockWrite w v s := rfl
theorem exec_triggerCfgWrite w u v s : exec (.triggerCfgWrite w u v) s = execTriggerCfgWrite w u v s := rfl
theorem exec_timeNowLatch  s : exec .timeNowLatch s = execTimeNowLatch s := rfl
theorem exec_registerWrite w a v s : exec (.registerWrite w a v) s = execRegisterWrite w a v s := rfl
theorem exec_apertureBaseWrite n v s : exec (.apertureBaseWrite n v) s = execApertureBaseWrite n v s := rfl
theorem exec_wdkick v s : exec (.wdkick v) s = execWdkick v s := rfl
theorem exec_interruptEntry  s : exec .interruptEntry s = execInterruptEntry s := rfl
theorem exec_waitResume  s : exec .waitResume s = execWaitResume s := rfl
theorem exec_mulDelivery  s : exec .mulDelivery s = execMulDelivery s := rfl
theorem exec_divDelivery  s : exec .divDelivery s = execDivDelivery s := rfl
theorem exec_extOverrun  s : exec .extOverrun s = execExtOverrun s := rfl
theorem exec_lpoTick  s : exec .lpoTick s = execLpoTick s := rfl
theorem exec_add d sr s : exec (.add d sr) s = execAdd d sr s := rfl
theorem exec_adc d sr s : exec (.adc d sr) s = execAdc d sr s := rfl
theorem exec_sub d sr s : exec (.sub d sr) s = execSub d sr s := rfl
theorem exec_sbc d sr s : exec (.sbc d sr) s = execSbc d sr s := rfl
theorem exec_and d sr s : exec (.and d sr) s = execAnd d sr s := rfl
theorem exec_or d sr s : exec (.or d sr) s = execOr d sr s := rfl
theorem exec_xor d sr s : exec (.xor d sr) s = execXor d sr s := rfl
theorem exec_mov d sr s : exec (.mov d sr) s = execMov d sr s := rfl
theorem exec_cmp d sr s : exec (.cmp d sr) s = execCmp d sr s := rfl
theorem exec_tst d sr s : exec (.tst d sr) s = execTst d sr s := rfl
theorem exec_mulu d sr s : exec (.mulu d sr) s = execMulu d sr s := rfl
theorem exec_muls d sr s : exec (.muls d sr) s = execMuls d sr s := rfl
theorem exec_divu pd sr s : exec (.divu pd sr) s = execDivu pd sr s := rfl
theorem exec_divs pd sr s : exec (.divs pd sr) s = execDivs pd sr s := rfl
theorem exec_shl d count s : exec (.shl d count) s = execShl d count s := rfl
theorem exec_shr d count s : exec (.shr d count) s = execShr d count s := rfl
theorem exec_sar d count s : exec (.sar d count) s = execSar d count s := rfl
theorem exec_rol d count s : exec (.rol d count) s = execRol d count s := rfl
theorem exec_ror d count s : exec (.ror d count) s = execRor d count s := rfl
theorem exec_shlr d sr s : exec (.shlr d sr) s = execShlr d sr s := rfl
theorem exec_shrr d sr s : exec (.shrr d sr) s = execShrr d sr s := rfl
theorem exec_sarr d sr s : exec (.sarr d sr) s = execSarr d sr s := rfl
theorem exec_neg d s : exec (.neg d) s = execNeg d s := rfl
theorem exec_not d s : exec (.not d) s = execNot d s := rfl
theorem exec_inc d s : exec (.inc d) s = execInc d s := rfl
theorem exec_dec d s : exec (.dec d) s = execDec d s := rfl
theorem exec_swapn d s : exec (.swapn d) s = execSwapn d s := rfl
theorem exec_clr d s : exec (.clr d) s = execClr d s := rfl
theorem exec_movi d imm s : exec (.movi d imm) s = execMovi d imm s := rfl
theorem exec_addi d imm s : exec (.addi d imm) s = execAddi d imm s := rfl
theorem exec_cmpi d imm s : exec (.cmpi d imm) s = execCmpi d imm s := rfl
theorem exec_andi d imm s : exec (.andi d imm) s = execAndi d imm s := rfl
theorem exec_ld d p inc disp s : exec (.ld d p inc disp) s = execLd d p inc disp s := rfl
theorem exec_st sr p inc disp s : exec (.st sr p inc disp) s = execSt sr p inc disp s := rfl
theorem exec_bra rel s : exec (.bra rel) s = execBra rel s := rfl
theorem exec_call rel s : exec (.call rel) s = execCall rel s := rfl
theorem exec_skip cond s : exec (.skip cond) s = execSkip cond s := rfl
theorem exec_skbc d b s : exec (.skbc d b) s = execSkbc d b s := rfl
theorem exec_skbs d b s : exec (.skbs d b) s = execSkbs d b s := rfl
theorem exec_bclr d b s : exec (.bclr d b) s = execBclr d b s := rfl
theorem exec_bset d b s : exec (.bset d b) s = execBset d b s := rfl
theorem exec_customerOpcode entry operand s : exec (.customerOpcode entry operand) s = execCustomerOpcode entry operand s := rfl
theorem exec_sysNop  s : exec .sysNop s = execSysNop s := rfl
theorem exec_ret  s : exec .ret s = execRet s := rfl
theorem exec_reti  s : exec .reti s = execReti s := rfl
theorem exec_ei  s : exec .ei s = execEi s := rfl
theorem exec_di  s : exec .di s = execDi s := rfl
theorem exec_wait  s : exec .wait s = execWait s := rfl
theorem exec_jmpi p s : exec (.jmpi p) s = execJmpi p s := rfl
theorem exec_calli p s : exec (.calli p) s = execCalli p s := rfl
theorem exec_mfs d sr s : exec (.mfs d sr) s = execMfs d sr s := rfl
theorem exec_mts ss sr s : exec (.mts ss sr) s = execMts ss sr s := rfl
theorem exec_jmp target s : exec (.jmp target) s = execJmp target s := rfl
theorem exec_callAbs target s : exec (.callAbs target) s = execCallAbs target s := rfl
theorem exec_push sr s : exec (.push sr) s = execPush sr s := rfl
theorem exec_pop d s : exec (.pop d) s = execPop d s := rfl
theorem exec_padd p imm s : exec (.padd p imm) s = execPadd p imm s := rfl
theorem exec_ldp p imm s : exec (.ldp p imm) s = execLdp p imm s := rfl
theorem exec_pushp p s : exec (.pushp p) s = execPushp p s := rfl
theorem exec_popp p s : exec (.popp p) s = execPopp p s := rfl
theorem exec_movp p q s : exec (.movp p q) s = execMovp p q s := rfl
theorem exec_pcmp p q s : exec (.pcmp p q) s = execPcmp p q s := rfl
theorem exec_repImm n s : exec (.repImm n) s = execRepImm n s := rfl
theorem exec_repReg sr s : exec (.repReg sr) s = execRepReg sr s := rfl
theorem exec_loopImm n len s : exec (.loopImm n len) s = execLoopImm n len s := rfl
theorem exec_loopReg p len s : exec (.loopReg p len) s = execLoopReg p len s := rfl
theorem exec_lbreak  s : exec .lbreak s = execLbreak s := rfl
theorem exec_pllUnlock core s : exec (.pllUnlock core) s = execPllUnlock core s := rfl
theorem exec_supplyBackInRange  s : exec .supplyBackInRange s = execSupplyBackInRange s := rfl
theorem exec_unknownOpcode o bytes s : exec (.unknownOpcode o bytes) s = execUnknownOpcode o bytes s := rfl
theorem exec_illegalOpcode w s : exec (.illegalOpcode w) s = execIllegalOpcode w s := rfl
theorem exec_portMismatch p s : exec (.portMismatch p) s = execPortMismatch p s := rfl
theorem exec_frameDiscard p why s : exec (.frameDiscard p why) s = execFrameDiscard p why s := rfl
theorem exec_admissionReplyReceive src a s : exec (.admissionReplyReceive src a) s = execAdmissionReplyReceive src a s := rfl
theorem exec_tmodeChange high s : exec (.tmodeChange high) s = execTmodeChange high s := rfl

end Sys2Proof.Machine
end

