-- ==== Sys2Proof/Laws/Commands.lean ====
section
/-! SUPPORT. What the checking order of Table 2-5 does with a packet, once. -/
namespace Sys2Proof.Machine

open Sys2Proof

/-- A row that carries a packet runs its body under the checking order of its opcode. -/
theorem commandRow_exec {i : Instr} {op : Nat} {p : Packet} (h : CommandRow i op p) :
    ∃ body, ∀ s, exec i s = .next (runCommand op body p s) := by
  cases h with
  | nop => exact ⟨nopBody, fun s => exec_nop p s⟩
  | identify => exact ⟨identifyBody, fun s => exec_identify p s⟩
  | getStatus => exact ⟨getStatusBody, fun s => exec_getStatus p s⟩
  | sessionOpen => exact ⟨sessionOpenBody, fun s => exec_sessionOpen p s⟩
  | sessionAuth => exact ⟨sessionAuthBody, fun s => exec_sessionAuth p s⟩
  | sessionClose => exact ⟨sessionCloseBody, fun s => exec_sessionClose p s⟩
  | setPowerState => exact ⟨setPowerStateBody, fun s => exec_setPowerState p s⟩
  | reset => exact ⟨resetBody, fun s => exec_reset p s⟩
  | readReg => exact ⟨readRegBody, fun s => exec_readReg p s⟩
  | writeReg => exact ⟨writeRegBody, fun s => exec_writeReg p s⟩
  | saveConfig => exact ⟨saveConfigBody, fun s => exec_saveConfig p s⟩
  | loadConfig => exact ⟨loadConfigBody, fun s => exec_loadConfig p s⟩
  | gridConfig => exact ⟨gridConfigBody, fun s => exec_gridConfig p s⟩
  | regionDefine => exact ⟨regionDefineBody, fun s => exec_regionDefine p s⟩
  | drivePlan => exact ⟨drivePlanBody, fun s => exec_drivePlan p s⟩
  | gridStart => exact ⟨gridStartBody, fun s => exec_gridStart p s⟩
  | gridStop => exact ⟨gridStopBody, fun s => exec_gridStop p s⟩
  | captureReference => exact ⟨captureReferenceBody, fun s => exec_captureReference p s⟩
  | readFrame => exact ⟨readFrameBody, fun s => exec_readFrame p s⟩
  | selfcapConfig => exact ⟨selfcapConfigBody, fun s => exec_selfcapConfig p s⟩
  | touchConfig => exact ⟨touchConfigBody, fun s => exec_touchConfig p s⟩
  | controlDefine => exact ⟨controlDefineBody, fun s => exec_controlDefine p s⟩
  | gestureConfig => exact ⟨gestureConfigBody, fun s => exec_gestureConfig p s⟩
  | baselineReset => exact ⟨baselineResetBody, fun s => exec_baselineReset p s⟩
  | contactPolicy => exact ⟨contactPolicyBody, fun s => exec_contactPolicy p s⟩
  | readContacts => exact ⟨readContactsBody, fun s => exec_readContacts p s⟩
  | carrierTable => exact ⟨carrierTableBody, fun s => exec_carrierTable p s⟩
  | hopPolicy => exact ⟨hopPolicyBody, fun s => exec_hopPolicy p s⟩
  | noiseSurvey => exact ⟨noiseSurveyBody, fun s => exec_noiseSurvey p s⟩
  | emberConfig => exact ⟨emberConfigBody, fun s => exec_emberConfig p s⟩
  | bridgeConfig => exact ⟨bridgeConfigBody, fun s => exec_bridgeConfig p s⟩
  | exciteSet => exact ⟨exciteSetBody, fun s => exec_exciteSet p s⟩
  | cmwinSet => exact ⟨cmwinSetBody, fun s => exec_cmwinSet p s⟩
  | checkDac => exact ⟨checkDacBody, fun s => exec_checkDac p s⟩
  | laneReinstate => exact ⟨laneReinstateBody, fun s => exec_laneReinstate p s⟩
  | trimApply => exact ⟨trimApplyBody, fun s => exec_trimApply p s⟩
  | trimRead => exact ⟨trimReadBody, fun s => exec_trimRead p s⟩
  | convConfig => exact ⟨convConfigBody, fun s => exec_convConfig p s⟩
  | filterSelect => exact ⟨filterSelectBody, fun s => exec_filterSelect p s⟩
  | convStart => exact ⟨convStartBody, fun s => exec_convStart p s⟩
  | convStop => exact ⟨convStopBody, fun s => exec_convStop p s⟩
  | decimSync => exact ⟨decimSyncBody, fun s => exec_decimSync p s⟩
  | threshSet => exact ⟨threshSetBody, fun s => exec_threshSet p s⟩
  | onsetConfig => exact ⟨onsetConfigBody, fun s => exec_onsetConfig p s⟩
  | timeSet => exact ⟨timeSetBody, fun s => exec_timeSet p s⟩
  | timeGet => exact ⟨timeGetBody, fun s => exec_timeGet p s⟩
  | servoConfig => exact ⟨servoConfigBody, fun s => exec_servoConfig p s⟩
  | triggerSet => exact ⟨triggerSetBody, fun s => exec_triggerSet p s⟩
  | captureConfig => exact ⟨captureConfigBody, fun s => exec_captureConfig p s⟩
  | beaconConfig => exact ⟨beaconConfigBody, fun s => exec_beaconConfig p s⟩
  | epochSet => exact ⟨epochSetBody, fun s => exec_epochSet p s⟩
  | fabricJoin => exact ⟨fabricJoinBody, fun s => exec_fabricJoin p s⟩
  | fabricStatus => exact ⟨fabricStatusBody, fun s => exec_fabricStatus p s⟩
  | routeRead => exact ⟨routeReadBody, fun s => exec_routeRead p s⟩
  | modePrepare => exact ⟨modePrepareBody, fun s => exec_modePrepare p s⟩
  | modeCommit => exact ⟨modeCommitBody, fun s => exec_modeCommit p s⟩
  | portConfig => exact ⟨portConfigBody, fun s => exec_portConfig p s⟩
  | lamplighterPriority => exact ⟨lamplighterPriorityBody, fun s => exec_lamplighterPriority p s⟩
  | streamDefine => exact ⟨streamDefineBody, fun s => exec_streamDefine p s⟩
  | streamAdmit => exact ⟨streamAdmitBody, fun s => exec_streamAdmit p s⟩
  | streamStart => exact ⟨streamStartBody, fun s => exec_streamStart p s⟩
  | streamStop => exact ⟨streamStopBody, fun s => exec_streamStop p s⟩
  | streamRead => exact ⟨streamReadBody, fun s => exec_streamRead p s⟩
  | drainDeclare => exact ⟨drainDeclareBody, fun s => exec_drainDeclare p s⟩
  | faultRead => exact ⟨faultReadBody, fun s => exec_faultRead p s⟩
  | faultAck => exact ⟨faultAckBody, fun s => exec_faultAck p s⟩
  | severitySet => exact ⟨severitySetBody, fun s => exec_severitySet p s⟩
  | thermalConfig => exact ⟨thermalConfigBody, fun s => exec_thermalConfig p s⟩
  | healthRead => exact ⟨healthReadBody, fun s => exec_healthRead p s⟩
  | keySet => exact ⟨keySetBody, fun s => exec_keySet p s⟩
  | journalRead => exact ⟨journalReadBody, fun s => exec_journalRead p s⟩
  | journalPolicy => exact ⟨journalPolicyBody, fun s => exec_journalPolicy p s⟩
  | imageBegin => exact ⟨imageBeginBody, fun s => exec_imageBegin p s⟩
  | imageData => exact ⟨imageDataBody, fun s => exec_imageData p s⟩
  | imageEnd => exact ⟨imageEndBody, fun s => exec_imageEnd p s⟩
  | imageActivate => exact ⟨imageActivateBody, fun s => exec_imageActivate p s⟩
  | decodeLoad => exact ⟨decodeLoadBody, fun s => exec_decodeLoad p s⟩

/-- A packet that passes steps 1 to 8 runs its body on the state they leave, and is concluded. -/
theorem runCommand_admitted {op : Nat} {p : Packet} {s u : State} {b : Bool} (h : Admitted op p s b u)
    (body : Packet → State → CmdResult) : runCommand op body p s = concluded op p b u (body p u) := by
  obtain ⟨info, h1, h2, h3, h4, h5⟩ := h
  have hi : info.op = op := by
    have := List.find?_some h1
    simpa using this
  unfold runCommand concluded
  simp only [h1, h2, if_true]
  unfold checkCommand executeCommand
  cases hp : p.origin with
  | remote a i =>
    rw [hp] at h5
    obtain ⟨hb, hu, hd⟩ := h5
    subst hb; subst hu
    have : ¬(p.dest = 0xFF ∧ (!info.bcast) = true) := by rintro ⟨x, y⟩; simp [hd x] at y
    simp only [h3, bne_self_eq_false, Bool.false_eq_true, if_false, this]
    rw [h4]
  | loc i =>
    rw [hp] at h5
    rcases h5 with ⟨hd, hh, hb, hu⟩ | ⟨hd, hc, hb, hu⟩
    · subst hb
      simp only [hd, if_false, h3, bne_self_eq_false, Bool.false_eq_true]
      rw [if_pos hh, ← hu, h4]
    · subst hb
      simp only [hd, if_true, h3, bne_self_eq_false, Bool.false_eq_true, if_false, hc, Bool.not_true]
      rw [hi, ← hu, h4]

/-- A command whose checks of steps 9 and 10 all hold has its effect. -/
theorem checked_ok (s : State) (l : List (Bool × Byte)) (go : Unit → CmdResult) (h : ∀ c ∈ l, c.1 = true) :
    checked s l go = go () := by
  have : firstFail l = none := by
    induction l with
    | nil => rfl
    | cons c l ih =>
      obtain ⟨a, b⟩ := c
      have ha : a = true := h (a, b) (by simp)
      subst ha
      exact ih (fun c hc => h c (by simp [hc]))
  unfold checked; rw [this]

end Sys2Proof.Machine
end

