-- ==== Sys2Proof/Laws/Keep.lean ====
section
/-! SUPPORT. What a state keeps from an earlier one: the queue, and the canonical form of each memory. -/
namespace Sys2Proof.Machine

open Sys2Proof

/-- `t` has the queue of `s`, and each memory that is canonical in `s` is canonical in `t`. -/
structure Keep (s t : State) : Prop where
  pend : t.pending = s.pending
  gram : Memory.wf s.gram = true → Memory.wf t.gram = true
  res : Memory.wf s.res.mem = true → Memory.wf t.res.mem = true
  ram : Memory.wf s.eng.ram = true → Memory.wf t.eng.ram = true

/-- The outcome is a next state that keeps what `s` holds. -/
def KeepO (s : State) (o : Host.Outcome State Fault Refusal) : Prop := ∃ t, o = .next t ∧ Keep s t

theorem Keep.refl (s : State) : Keep s s := ⟨rfl, id, id, id⟩
theorem Keep.trans {s t u : State} (a : Keep s t) (b : Keep t u) : Keep s u :=
  ⟨b.pend.trans a.pend, fun h => b.gram (a.gram h), fun h => b.res (a.res h), fun h => b.ram (a.ram h)⟩
theorem keep_of_eq {s0 t u : State} (h1 : u.pending = t.pending) (h2 : u.gram = t.gram) (h3 : u.res.mem = t.res.mem)
    (h4 : u.eng.ram = t.eng.ram) (h : Keep s0 t) : Keep s0 u :=
  h.trans ⟨h1, by rw [h2]; exact id, by rw [h3]; exact id, by rw [h4]; exact id⟩
theorem keep_mk {s0 t : State} {sh ac g sy sa hi se nv fl sn sd so sw gr tc ca br co ti li re hk en fc p}
    (hp : p = t.pending) (hg : g = t.gram) (hr : ResSt.mem re = t.res.mem) (he : EngSt.ram en = t.eng.ram) (h : Keep s0 t) :
    Keep s0 (State.mk sh ac g sy sa hi se nv fl sn sd so sw gr tc ca br co ti li re hk en fc p) :=
  keep_of_eq hp hg hr he h
theorem keep_mkW {s0 t : State} {sh ac g sy sa hi se nv fl sn sd so sw gr tc ca br co ti li re hk en fc p}
    (hp : p = t.pending) (hg : Memory.wf t.gram = true → Memory.wf g = true)
    (hr : Memory.wf t.res.mem = true → Memory.wf (ResSt.mem re) = true)
    (he : Memory.wf t.eng.ram = true → Memory.wf (EngSt.ram en) = true) (h : Keep s0 t) :
    Keep s0 (State.mk sh ac g sy sa hi se nv fl sn sd so sw gr tc ca br co ti li re hk en fc p) :=
  h.trans ⟨hp, hg, hr, he⟩
theorem keep_bindP {p P : Prop} (h : P) (k : P → p) : p := k h
theorem keep_bind {s0 : State} {p : Prop} (x : State) (h : Keep s0 x) (k : Keep s0 x → p) : p := k h
theorem KeepO.next {s0 t : State} (h : Keep s0 t) : KeepO s0 (.next t) := ⟨t, rfl, h⟩
theorem KeepO.ite {s0 : State} {a b : Host.Outcome State Fault Refusal} {c : Prop} [Decidable c] (h : KeepO s0 a) (k : KeepO s0 b) :
    KeepO s0 (if c then a else b) := by split <;> assumption
theorem keep_ite {s0 a b : State} {c : Prop} [Decidable c] (h : Keep s0 a) (k : Keep s0 b) : Keep s0 (if c then a else b) := by
  split <;> assumption
theorem keep_ite1 {s0 : State} {α : Type} {a b : State × α} {c : Prop} [Decidable c] (h : Keep s0 a.1) (k : Keep s0 b.1) :
    Keep s0 (if c then a else b).1 := by split <;> assumption
theorem keep_ite2 {s0 : State} {α : Type} {a b : α × State} {c : Prop} [Decidable c] (h : Keep s0 a.2) (k : Keep s0 b.2) :
    Keep s0 (if c then a else b).2 := by split <;> assumption
theorem keep_ite21 {s0 : State} {α β : Type} {a b : α × State × β} {c : Prop} [Decidable c] (h : Keep s0 a.2.1) (k : Keep s0 b.2.1) :
    Keep s0 (if c then a else b).2.1 := by split <;> assumption
theorem keep_ite22 {s0 : State} {α β : Type} {a b : α × β × State} {c : Prop} [Decidable c] (h : Keep s0 a.2.2) (k : Keep s0 b.2.2) :
    Keep s0 (if c then a else b).2.2 := by split <;> assumption
theorem keep_iteC {s0 : State} {a b : CmdResult} {c : Prop} [Decidable c] (h : Keep s0 a.st) (k : Keep s0 b.st) :
    Keep s0 (if c then a else b).st := by split <;> assumption
theorem keep_iteE {s0 : State} {a b : Eff} {c : Prop} [Decidable c] (h : Keep s0 a.st) (k : Keep s0 b.st) :
    Keep s0 (if c then a else b).st := by split <;> assumption
theorem keep_iteA {s0 : State} {a b : Acc} {c : Prop} [Decidable c] (h : Keep s0 a.st) (k : Keep s0 b.st) :
    Keep s0 (if c then a else b).st := by split <;> assumption
theorem keep_iteO {s0 d : State} {a b : Option State} {c : Prop} [Decidable c] (h : Keep s0 (a.getD d)) (k : Keep s0 (b.getD d)) :
    Keep s0 ((if c then a else b).getD d) := by split <;> assumption
theorem keep_some {s0 d t : State} (h : Keep s0 t) : Keep s0 ((some t).getD d) := h
theorem keep_none {s0 d : State} (h : Keep s0 d) : Keep s0 ((none : Option State).getD d) := h
theorem keep_ofsome {s0 d t : State} {o : Option State} (e : o = some t) (h : Keep s0 (o.getD d)) : Keep s0 t := by
  subst e; exact h
theorem keep_pair1 {s0 s : State} {α : Type} {a : α} (h : Keep s0 s) : Keep s0 (s, a).1 := h
theorem keep_pair2 {s0 s : State} {α : Type} {a : α} (h : Keep s0 s) : Keep s0 (a, s).2 := h
theorem keep_pair21 {s0 s : State} {α β : Type} {a : α} {b : β} (h : Keep s0 s) : Keep s0 (a, s, b).2.1 := h
theorem keep_pair22 {s0 s : State} {α β : Type} {a : α} {b : β} (h : Keep s0 s) : Keep s0 (a, b, s).2.2 := h
theorem keep_pairr {s0 : State} {α β : Type} {a : α} {r : State × β} (h : Keep s0 r.1) : Keep s0 (a, r).2.1 := h
theorem keep_cmd {s0 s : State} {a d w o x} (h : Keep s0 s) : Keep s0 (CmdResult.mk s a d w o x).st := h
theorem keep_eff {s0 s : State} {a d w} (h : Keep s0 s) : Keep s0 (Eff.mk s a d w).st := h
theorem keep_acc {s0 s : State} {a d w} (h : Keep s0 s) : Keep s0 (Acc.mk a d w s).st := h
theorem keep_foldl {s0 : State} {α : Type} {g : State → α → State} {l : List α} {s : State}
    (hg : ∀ a x, Keep s0 a → Keep s0 (g a x)) (h : Keep s0 s) : Keep s0 (l.foldl g s) := by
  induction l generalizing s with
  | nil => exact h
  | cons x l ih => exact ih (hg _ _ h)
theorem keep_foldl1 {s0 : State} {α β : Type} {g : State × β → α → State × β} {l : List α} {s : State × β}
    (hg : ∀ a x, Keep s0 a.1 → Keep s0 (g a x).1) (h : Keep s0 s.1) : Keep s0 (l.foldl g s).1 := by
  induction l generalizing s with
  | nil => exact h
  | cons x l ih => exact ih (hg _ _ h)
theorem keep_foldl2 {s0 : State} {α β : Type} {g : β × State → α → β × State} {l : List α} {s : β × State}
    (hg : ∀ a x, Keep s0 a.2 → Keep s0 (g a x).2) (h : Keep s0 s.2) : Keep s0 (l.foldl g s).2 := by
  induction l generalizing s with
  | nil => exact h
  | cons x l ih => exact ih (hg _ _ h)
theorem keep_foldl21 {s0 : State} {α β γ : Type} {g : β × State × γ → α → β × State × γ} {l : List α} {s : β × State × γ}
    (hg : ∀ a x, Keep s0 a.2.1 → Keep s0 (g a x).2.1) (h : Keep s0 s.2.1) : Keep s0 (l.foldl g s).2.1 := by
  induction l generalizing s with
  | nil => exact h
  | cons x l ih => exact ih (hg _ _ h)
theorem keep_of2 {s0 t : State} {α : Type} {e : α × State} {a : α} (h : e = (a, t)) (k : Keep s0 e.2) : Keep s0 t := by
  subst h; exact k
theorem keep_of1 {s0 t : State} {α : Type} {e : State × α} {a : α} (h : e = (t, a)) (k : Keep s0 e.1) : Keep s0 t := by
  subst h; exact k
theorem keep_of2A {s0 : State} {α : Type} {e : α × Acc} {a : α} {t : Acc} (h : e = (a, t)) (k : Keep s0 e.2.st) : Keep s0 t.st := by
  subst h; exact k
theorem keep_pair2A {s0 : State} {α : Type} {a : α} {t : Acc} (h : Keep s0 t.st) : Keep s0 (a, t).2.st := h
theorem keep_of21 {s0 t : State} {α β : Type} {e : α × State × β} {a : α} {b : β} (h : e = (a, t, b)) (k : Keep s0 e.2.1) : Keep s0 t := by
  subst h; exact k
theorem keep_of22 {s0 t : State} {α β : Type} {e : α × β × State} {a : α} {b : β} (h : e = (a, b, t)) (k : Keep s0 e.2.2) : Keep s0 t := by
  subst h; exact k

/-! ### The memory operations keep the canonical form -/

/-- A canonical run from `lo` that ends below `hi`. -/
def memSpan (lo hi : Nat) (m : Memory) : Bool := memWfFrom lo m && m.all (fun c => decide (c.1 < hi))

theorem memWfFrom_mono {lo lo' : Nat} (h : lo ≤ lo') {m : Memory} (w : memWfFrom lo' m = true) : memWfFrom lo m = true := by
  cases m with
  | nil => rfl
  | cons c l =>
    obtain ⟨a, b⟩ := c
    simp only [memWfFrom, Bool.and_eq_true, decide_eq_true_eq] at w ⊢
    exact ⟨⟨by omega, w.1.2⟩, w.2⟩

theorem memWfFrom_append {lo mid : Nat} {x y : Memory} (hl : lo ≤ mid) (hx : memSpan lo mid x = true) (hy : memWfFrom mid y = true) :
    memWfFrom lo (x ++ y) = true := by
  induction x generalizing lo with
  | nil => exact memWfFrom_mono hl hy
  | cons c l ih =>
    obtain ⟨a, b⟩ := c
    simp only [memSpan, memWfFrom, List.all_cons, Bool.and_eq_true, decide_eq_true_eq, List.cons_append] at hx ⊢
    exact ⟨hx.1.1, ih (by omega) (by simp only [memSpan, Bool.and_eq_true]; exact ⟨hx.1.2, hx.2.2⟩)⟩

theorem memWfFrom_filter {lo : Nat} {m : Memory} (p : Nat × Byte → Bool) (w : memWfFrom lo m = true) : memWfFrom lo (m.filter p) = true := by
  induction m generalizing lo with
  | nil => rfl
  | cons c l ih =>
    obtain ⟨a, b⟩ := c
    simp only [memWfFrom, Bool.and_eq_true, decide_eq_true_eq] at w
    rw [List.filter_cons]
    split
    · simp only [memWfFrom, Bool.and_eq_true, decide_eq_true_eq]; exact ⟨w.1, ih w.2⟩
    · exact memWfFrom_mono (by omega) (ih w.2)

theorem memWfFrom_from {lo hi : Nat} {m : Memory} (w : memWfFrom lo m = true) (h : m.all (fun c => decide (hi ≤ c.1)) = true) :
    memWfFrom hi m = true := by
  cases m with
  | nil => rfl
  | cons c l =>
    obtain ⟨a, b⟩ := c
    simp only [memWfFrom, List.all_cons, Bool.and_eq_true, decide_eq_true_eq] at w h ⊢
    exact ⟨⟨h.1, w.1.2⟩, w.2⟩

theorem cells_span (a : Nat) (bs : List Byte) : memSpan a (a + bs.length) (cells a bs) = true := by
  induction bs generalizing a with
  | nil => rfl
  | cons b l ih =>
    have h := ih (a + 1)
    have e : a + 1 + l.length = a + (b :: l).length := by simp only [List.length_cons]; omega
    rw [e] at h
    unfold cells
    simp only [memSpan, Bool.and_eq_true] at h ⊢
    split
    · exact ⟨memWfFrom_mono (by omega) h.1, h.2⟩
    · rename_i hb
      simp only [memWfFrom, List.all_cons, Bool.and_eq_true, decide_eq_true_eq, List.length_cons]
      exact ⟨⟨⟨by omega, hb⟩, h.1⟩, by omega, h.2⟩

/-- A write of a run of bytes keeps the canonical form. -/
theorem memWrite_wf (a : Nat) (bs : List Byte) {m : Memory} (w : Memory.wf m = true) : Memory.wf (memWrite a bs m) = true := by
  unfold memWrite Memory.wf
  have hs := cells_span a bs
  simp only [memSpan, Bool.and_eq_true] at hs
  rw [List.append_assoc]
  refine memWfFrom_append (mid := a) (by omega) ?_ ?_
  · simp only [memSpan, Bool.and_eq_true]
    exact ⟨memWfFrom_filter _ w, by simp⟩
  · refine memWfFrom_append (mid := a + bs.length) (by omega) (by simp only [memSpan, Bool.and_eq_true]; exact hs) ?_
    exact memWfFrom_from (memWfFrom_filter _ w) (by simp)

theorem memFold_wf {α : Type} {g : Memory → α → Memory} {l : List α} {m : Memory}
    (hg : ∀ a x, Memory.wf a = true → Memory.wf (g a x) = true) (h : Memory.wf m = true) : Memory.wf (l.foldl g m) = true := by
  induction l generalizing m with
  | nil => exact h
  | cons x l ih => exact ih (hg _ _ h)

theorem placeBytes_wf (base size off : Nat) (bs : List Byte) {m : Memory} (w : Memory.wf m = true) :
    Memory.wf (placeBytes base size off bs m) = true := by
  unfold placeBytes
  split
  · exact w
  · exact memWrite_wf _ _ (memWrite_wf _ _ w)

theorem ringWrite_wf (b kind : Nat) (desc : List Byte) (vals : List (List Int)) {m : Memory} (w : Memory.wf m = true) :
    Memory.wf (ringWrite b kind desc vals m) = true :=
  memWrite_wf _ _ (memWrite_wf _ _ (memWrite_wf _ _ w))

theorem writeNodes_wf (r : Region) (xs : List NodeR) {m : Memory} (w : Memory.wf m = true) : Memory.wf (writeNodes r xs m) = true :=
  memFold_wf (fun _ _ h => memWrite_wf _ _ (memWrite_wf _ _ h)) w

theorem setStates_wf (r : Region) (code : Nat) {m : Memory} (w : Memory.wf m = true) : Memory.wf (setStates r code m) = true :=
  memFold_wf (fun _ _ h => memWrite_wf _ _ h) w

end Sys2Proof.Machine
end

