-- ==== Sys2Proof/Laws/KeepOps.lean ====
section
/-! SUPPORT. Every operation of Machine/Ops.lean keeps the queue and the canonical memories. -/
namespace Sys2Proof.Machine

open Sys2Proof

theorem setShw_keep {s0 : State} (a : Nat) (w : Word) (s : State) (h_s : Keep s0 s) :
    Keep s0 (setShw a w s) := by
  unfold setShw
  refine keep_mk rfl rfl rfl rfl ?_
  exact h_s

theorem setAcw_keep {s0 : State} (a : Nat) (w : Word) (s : State) (h_s : Keep s0 s) :
    Keep s0 (setAcw a w s) := by
  unfold setAcw
  refine keep_mk rfl rfl rfl rfl ?_
  exact h_s

theorem setShws_keep {s0 : State} (ws : List (Nat × Word)) (s : State) (h_s : Keep s0 s) :
    Keep s0 (setShws ws s) := by
  unfold setShws
  refine keep_foldl ?_ ?_
  · intro a0 a1 h0
    apply setShw_keep
    exact h0
  · exact h_s

theorem applyRange_keep {s0 : State} (lo hi : Nat) (s : State) (h_s : Keep s0 s) :
    Keep s0 (applyRange lo hi s) := by
  unfold applyRange
  refine keep_mk rfl rfl rfl rfl ?_
  exact h_s

theorem applyBlock_keep {s0 : State} (b : Nat) (s : State) (h_s : Keep s0 s) :
    Keep s0 (applyBlock b s) := by
  unfold applyBlock
  apply applyRange_keep
  exact h_s

theorem freshBit_keep {s0 : State} (s : State) (h_s : Keep s0 s) :
    Keep s0 (freshBit s).2 := by
  unfold freshBit
  refine keep_pair2 ?_
  refine keep_mk rfl rfl rfl rfl ?_
  exact h_s

theorem freeDiv_keep {s0 : State} (a : Int) (b : Nat) (s : State) (h_s : Keep s0 s) :
    Keep s0 (freeDiv a b s).2 := by
  unfold freeDiv
  refine keep_ite2 ?_ ?_
  · refine keep_pair2 ?_
    exact h_s
  · refine keep_pair2 ?_
    refine keep_mk rfl rfl rfl rfl ?_
    exact h_s

theorem freshInt_keep {s0 : State} (s : State) (h_s : Keep s0 s) :
    Keep s0 (freshInt s).2 := by
  unfold freshInt
  refine keep_pair2 ?_
  refine keep_mk rfl rfl rfl rfl ?_
  exact h_s

theorem edgeLine_keep {s0 : State} (n : Nat) (s : State) (h_s : Keep s0 s) :
    Keep s0 (edgeLine n s) := by
  unfold edgeLine
  refine keep_mk rfl rfl rfl rfl ?_
  exact h_s

theorem journalRaise_keep {s0 : State} (role opcode result kind : Byte) (data : List Byte) (s : State) (h_s : Keep s0 s) :
    Keep s0 (journalRaise role opcode result kind data s) := by
  unfold journalRaise
  refine keep_mk rfl rfl rfl rfl ?_
  exact h_s

theorem sendOn_keep {s0 : State} (n : Fin 4) (f : Frame) (s : State) (h_s : Keep s0 s) :
    Keep s0 (sendOn n f s) := by
  unfold sendOn
  refine keep_mk rfl rfl rfl rfl ?_
  exact h_s

theorem sendOnAll_keep {s0 : State} (ns : List (Fin 4)) (f : Frame) (s : State) (h_s : Keep s0 s) :
    Keep s0 (sendOnAll ns f s) := by
  unfold sendOnAll
  refine keep_foldl ?_ ?_
  · intro a0 a1 h0
    apply sendOn_keep
    exact h0
  · exact h_s

theorem sendRouted_keep {s0 : State} (f : Frame) (s : State) (h_s : Keep s0 s) :
    Keep s0 (sendRouted f s) := by
  unfold sendRouted
  split
  · rename_i y0 y0' y0''
    apply sendOn_keep
    exact h_s
  · rename_i y0 y0'
    refine keep_mk rfl rfl rfl rfl ?_
    exact h_s

theorem sendPacket_keep {s0 : State} (dest : Byte) (cls : Fin 4) (type : Nat) (i : Iface) (tag : Byte) (bytes : List Byte) (s : State) (h_s : Keep s0 s) :
    Keep s0 (sendPacket dest cls type i tag bytes s) := by
  unfold sendPacket
  refine keep_foldl ?_ ?_
  · intro a0 a1 h0
    apply sendRouted_keep
    exact h0
  · exact h_s

theorem modPort_keep {s0 : State} (i : Iface) (f : HostPort → HostPort) (s : State) (h_s : Keep s0 s) :
    Keep s0 (modPort i f s) := by
  unfold modPort
  split
  · rename_i y0
    refine keep_mk rfl rfl rfl rfl ?_
    exact h_s
  · rename_i y0
    refine keep_mk rfl rfl rfl rfl ?_
    exact h_s

theorem queueReply_keep {s0 : State} (i : Iface) (r : Reply) (s : State) (h_s : Keep s0 s) :
    Keep s0 (queueReply i r s) := by
  unfold queueReply
  apply modPort_keep
  exact h_s

theorem noteAnswer_keep {s0 : State} (i : Iface) (tag src status : Byte) (s : State) (h_s : Keep s0 s) :
    Keep s0 (noteAnswer i tag src status s) := by
  unfold noteAnswer
  refine keep_mk rfl rfl rfl rfl ?_
  exact h_s

theorem reply_keep {s0 : State} (o : Origin) (bcast : Bool) (tag status : Byte) (final : Bool) (data : List Byte) (why : ReplyPurpose) (s : State) (h_s : Keep s0 s) :
    Keep s0 (reply o bcast tag status final data why s) := by
  unfold reply
  split
  · rename_i y0 y0'
    refine keep_ite ?_ ?_
    · refine keep_ite ?_ ?_
      · apply noteAnswer_keep
        exact h_s
      · exact h_s
    · apply queueReply_keep
      exact h_s
  · rename_i y0 y0' y0''
    extract_lets +onlyGivenNames x0; clear_value x0
    apply sendPacket_keep
    exact h_s

theorem commitHeld_keep {s0 : State} (mine : ModeChange → Bool) (s : State) (h_s : Keep s0 s) :
    Keep s0 (commitHeld mine s) := by
  unfold commitHeld
  refine keep_mk rfl rfl rfl rfl ?_
  exact h_s

theorem alarmToFabric_keep {s0 : State} (entry : List Byte) (s : State) (h_s : Keep s0 s) :
    Keep s0 (alarmToFabric entry s) := by
  unfold alarmToFabric
  refine keep_ite ?_ ?_
  · extract_lets +onlyGivenNames x0; clear_value x0
    extract_lets +onlyGivenNames x1; clear_value x1
    extract_lets +onlyGivenNames x2
    refine keep_bind (s0 := s0) x2 ?_ (fun h0 => ?_)
    · unfold x2; clear x2
      refine keep_mk rfl rfl rfl rfl ?_
      exact h_s
    · clear_value x2
      split
      · rename_i y0 y0' y0'' y0''' y0'''' y0''''' y0'''''' y0'''''''
        extract_lets +onlyGivenNames x3; clear_value x3
        extract_lets +onlyGivenNames x4
        refine keep_bind (s0 := s0) x4 ?_ (fun h1 => ?_)
        · unfold x4; clear x4
          apply sendRouted_keep
          exact h0
        · clear_value x4
          refine keep_mk rfl rfl rfl rfl ?_
          exact h1
      · rename_i y0 y0' y0''
        exact h0
  · exact h_s

theorem wakeEvent_keep {s0 : State} (s : State) (h_s : Keep s0 s) :
    Keep s0 (wakeEvent s) := by
  unfold wakeEvent
  refine keep_mk rfl rfl rfl rfl ?_
  exact h_s

theorem protoCount_keep {s0 : State} (i : Iface) (s : State) (h_s : Keep s0 s) :
    Keep s0 (protoCount i s) := by
  unfold protoCount
  extract_lets +onlyGivenNames x0
  refine keep_bind (s0 := s0) x0 ?_ (fun h0 => ?_)
  · unfold x0; clear x0
    apply modPort_keep
    exact h_s
  · clear_value x0
    refine keep_mk rfl rfl rfl rfl ?_
    exact h0

theorem modSession_keep {s0 : State} (k : Fin 6) (f : Session → Session) (s : State) (h_s : Keep s0 s) :
    Keep s0 (modSession k f s) := by
  unfold modSession
  refine keep_mk rfl rfl rfl rfl ?_
  exact h_s

theorem endSession_keep {s0 : State} (k : Fin 6) (s : State) (h_s : Keep s0 s) :
    Keep s0 (endSession k s) := by
  unfold endSession
  extract_lets +onlyGivenNames x0
  refine keep_bind (s0 := s0) x0 ?_ (fun h0 => ?_)
  · unfold x0; clear x0
    apply modSession_keep
    exact h_s
  · clear_value x0
    extract_lets +onlyGivenNames x1; clear_value x1
    refine keep_mk rfl rfl rfl rfl ?_
    exact h0

theorem countErase_keep {s0 : State} (k : Nat) (s : State) (h_s : Keep s0 s) :
    Keep s0 (countErase k s) := by
  unfold countErase
  refine keep_mk rfl rfl rfl rfl ?_
  exact h_s

end Sys2Proof.Machine
end

