-- ==== Sys2Proof/Laws/KeepRecords.lean ====
section
/-! SUPPORT. Every operation of Machine/Records.lean keeps the queue and the canonical memories. -/
namespace Sys2Proof.Machine

open Sys2Proof

theorem modStream_keep {s0 : State} (k : Fin 16) (f : StreamSt → StreamSt) (s : State) (h_s : Keep s0 s) :
    Keep s0 (modStream k f s) := by
  unfold modStream
  refine keep_mk rfl rfl rfl rfl ?_
  exact h_s

theorem appendRecord_keep {s0 : State} (k : Fin 16) (epoch : Word) (bs : List Byte) (spend : Bool) (s : State) (h_s : Keep s0 s) :
    Keep s0 (appendRecord k epoch bs spend s) := by
  unfold appendRecord
  extract_lets +onlyGivenNames x0; clear_value x0
  extract_lets +onlyGivenNames x1; clear_value x1
  extract_lets +onlyGivenNames x2; clear_value x2
  extract_lets +onlyGivenNames x3; clear_value x3
  extract_lets +onlyGivenNames x4; clear_value x4
  extract_lets +onlyGivenNames x5; clear_value x5
  refine keep_mkW rfl (fun w => w) ?_ (fun w => w) ?_
  · intro w0
    split
    · with_reducible apply placeBytes_wf
      with_reducible exact w0
    · with_reducible apply memWrite_wf
      with_reducible exact w0
  · exact h_s

theorem putRecord_keep {s0 : State} (k : Fin 16) (type : Nat) (epoch : Word) (payload : List Byte) (s : State) (h_s : Keep s0 s) :
    Keep s0 (putRecord k type epoch payload s) := by
  unfold putRecord
  apply appendRecord_keep
  exact h_s

theorem emit_keep {s0 : State} (bit type : Nat) (epoch : Word) (payload : Fin 16 → Option (List Byte)) (s : State) (h_s : Keep s0 s) :
    Keep s0 (emit bit type epoch payload s) := by
  unfold emit
  refine keep_foldl ?_ ?_
  · intro a0 a1 h0
    refine keep_ite ?_ ?_
    · split
      · rename_i y0 y0' y0''
        apply putRecord_keep
        exact h0
      · rename_i y0 y0'
        exact h0
    · exact h0
  · exact h_s

theorem writeDark_keep {s0 : State} (k : Fin 16) (r : DarkRun) (s : State) (h_s : Keep s0 s) :
    Keep s0 (writeDark k r s) := by
  unfold writeDark
  extract_lets +onlyGivenNames x0
  refine keep_bind (s0 := s0) x0 ?_ (fun h0 => ?_)
  · unfold x0; clear x0
    apply appendRecord_keep
    exact h_s
  · clear_value x0
    apply modStream_keep
    exact h0

theorem darkEpoch_keep {s0 : State} (k : Fin 16) (e : Word) (start stop : Nat) (s : State) (h_s : Keep s0 s) :
    Keep s0 (darkEpoch k e start stop s) := by
  unfold darkEpoch
  extract_lets +onlyGivenNames x0; clear_value x0
  split
  rename_i y0 y0' y0'' y0'''
  refine keep_foldl ?_ ?_
  · intro a0 a1 h0
    apply writeDark_keep
    exact h0
  · apply modStream_keep
    exact h_s

theorem closeDarks_keep {s0 : State} (k : Fin 16) (s : State) (h_s : Keep s0 s) :
    Keep s0 (closeDarks k s) := by
  unfold closeDarks
  extract_lets +onlyGivenNames x0; clear_value x0
  refine keep_foldl ?_ ?_
  · intro a0 a1 h0
    apply writeDark_keep
    exact h0
  · apply modStream_keep
    exact h_s

theorem markDark_keep {s0 : State} (cause mask : Nat) (s : State) (h_s : Keep s0 s) :
    Keep s0 (markDark cause mask s) := by
  unfold markDark
  split
  · rename_i y0 y0' y0'' y0''' y0'''' y0'''''
    refine keep_foldl ?_ ?_
    · intro a0 a1 h0
      extract_lets +onlyGivenNames x0; clear_value x0
      extract_lets +onlyGivenNames x1; clear_value x1
      refine keep_ite ?_ ?_
      · apply darkEpoch_keep
        apply modStream_keep
        exact h0
      · exact h0
    · exact h_s
  · rename_i y0 y0' y0''
    exact h_s

end Sys2Proof.Machine
end

