-- ==== Sys2Proof/Laws/KeepTimeOps.lean ====
section
/-! SUPPORT. Every operation of Machine/TimeOps.lean keeps the queue and the canonical memories. -/
namespace Sys2Proof.Machine

open Sys2Proof

theorem setRate_keep {s0 : State} (y : Int) (s : State) (h_s : Keep s0 s) :
    Keep s0 (setRate y s) := by
  unfold setRate
  refine keep_mk rfl rfl rfl rfl ?_
  exact h_s

theorem timeStart_keep {s0 : State} (s : State) (h_s : Keep s0 s) :
    Keep s0 (timeStart s) := by
  unfold timeStart
  apply setRate_keep
  refine keep_mk rfl rfl rfl rfl ?_
  exact h_s

theorem timeStop_keep {s0 : State} (s : State) (h_s : Keep s0 s) :
    Keep s0 (timeStop s) := by
  unfold timeStop
  refine keep_mk rfl rfl rfl rfl ?_
  exact h_s

theorem advanceTo_keep {s0 : State} (t : Nat) (s : State) (h_s : Keep s0 s) :
    Keep s0 (advanceTo t s) := by
  unfold advanceTo
  refine keep_ite ?_ ?_
  · refine keep_mk rfl rfl rfl rfl ?_
    exact h_s
  · exact h_s

theorem tickTime_keep {s0 : State} (s : State) (h_s : Keep s0 s) :
    Keep s0 (tickTime s) := by
  unfold tickTime
  refine keep_ite ?_ ?_
  · extract_lets +onlyGivenNames x0; clear_value x0
    refine keep_mk rfl rfl rfl rfl ?_
    exact h_s
  · exact h_s

theorem armTrigger_keep {s0 : State} (u : Fin 16) (s : State) (h_s : Keep s0 s) :
    Keep s0 (armTrigger u s).1 := by
  unfold armTrigger
  extract_lets +onlyGivenNames x0; clear_value x0
  extract_lets +onlyGivenNames x1; clear_value x1
  extract_lets +onlyGivenNames x2; clear_value x2
  extract_lets +onlyGivenNames x3; clear_value x3
  extract_lets +onlyGivenNames x4; clear_value x4
  extract_lets +onlyGivenNames x5; clear_value x5
  extract_lets +onlyGivenNames x6; clear_value x6
  extract_lets +onlyGivenNames x7; clear_value x7
  extract_lets +onlyGivenNames x8; clear_value x8
  extract_lets +onlyGivenNames x9; clear_value x9
  refine keep_pair1 ?_
  refine keep_mk rfl rfl rfl rfl ?_
  exact h_s

end Sys2Proof.Machine
end

