-- ==== Sys2Proof/Laws/KeepFaults.lean ====
section
/-! SUPPORT. Every operation of Machine/Faults.lean keeps the queue and the canonical memories. -/
namespace Sys2Proof.Machine

open Sys2Proof

theorem modFlt_keep {s0 : State} (b : Nat) (f : FaultSt → FaultSt) (s : State) (h_s : Keep s0 s) :
    Keep s0 (modFlt b f s) := by
  unfold modFlt
  refine keep_mk rfl rfl rfl rfl ?_
  exact h_s

theorem safeBegin_keep {s0 : State} (s : State) (h_s : Keep s0 s) :
    Keep s0 (safeBegin s) := by
  unfold safeBegin
  refine keep_ite ?_ ?_
  · exact h_s
  · apply markDark_keep
    refine keep_mk rfl rfl rfl rfl ?_
    exact h_s

theorem excFix_keep {s0 : State} (s : State) (h_s : Keep s0 s) :
    Keep s0 (excFix s) := by
  unfold excFix
  refine keep_mk rfl rfl rfl rfl ?_
  exact h_s

theorem safeEnd_keep {s0 : State} (s : State) (h_s : Keep s0 s) :
    Keep s0 (safeEnd s) := by
  unfold safeEnd
  apply excFix_keep
  refine keep_mk rfl rfl rfl rfl ?_
  exact h_s

theorem snuffItem_keep {s0 : State} (b item : Nat) (s : State) (h_s : Keep s0 s) :
    Keep s0 (snuffItem b item s) := by
  unfold snuffItem
  refine keep_ite ?_ ?_
  · exact h_s
  · extract_lets +onlyGivenNames x0
    refine keep_bind (s0 := s0) x0 ?_ (fun h0 => ?_)
    · unfold x0; clear x0
      apply journalRaise_keep
      refine keep_mk rfl rfl rfl rfl ?_
      exact h_s
    · clear_value x0
      refine keep_ite ?_ ?_
      · refine keep_mk rfl rfl rfl rfl ?_
        exact h0
      · refine keep_ite ?_ ?_
        · refine keep_mk rfl rfl rfl rfl ?_
          exact h0
        · refine keep_mk rfl rfl rfl rfl ?_
          exact h0

theorem touchForget_keep {s0 : State} (s : State) (h_s : Keep s0 s) :
    Keep s0 (touchForget s) := by
  unfold touchForget
  refine keep_mk rfl rfl rfl rfl ?_
  exact h_s

theorem engineReset_keep {s0 : State} (s : State) (h_s : Keep s0 s) :
    Keep s0 (engineReset s) := by
  unfold engineReset
  refine keep_mk rfl rfl rfl rfl ?_
  exact h_s

theorem resetEffects_keep {s0 : State} (b : Nat) (s : State) (h_s : Keep s0 s) :
    Keep s0 (resetEffects b s) := by
  unfold resetEffects
  split
  · rename_i y0
    extract_lets +onlyGivenNames x0; clear_value x0
    refine keep_mk rfl rfl rfl rfl ?_
    exact h_s
  · rename_i y0
    apply touchForget_keep
    apply markDark_keep
    refine keep_mk rfl rfl rfl rfl ?_
    exact h_s
  · rename_i y0
    extract_lets +onlyGivenNames x0
    refine keep_bind (s0 := s0) x0 ?_ (fun h0 => ?_)
    · unfold x0; clear x0
      apply markDark_keep
      exact h_s
    · clear_value x0
      extract_lets +onlyGivenNames x1; clear_value x1
      extract_lets +onlyGivenNames x2
      refine keep_bind (s0 := s0) x2 ?_ (fun h1 => ?_)
      · unfold x2; clear x2
        apply touchForget_keep
        exact h0
      · clear_value x2
        refine keep_mk rfl rfl rfl rfl ?_
        exact h1
  · rename_i y0
    refine keep_mk rfl rfl rfl rfl ?_
    exact h_s
  · rename_i y0
    refine keep_mk rfl rfl rfl rfl ?_
    exact h_s
  · rename_i y0
    refine keep_mk rfl rfl rfl rfl ?_
    exact h_s
  · rename_i y0
    extract_lets +onlyGivenNames x0; clear_value x0
    extract_lets +onlyGivenNames x1
    refine keep_bind (s0 := s0) x1 ?_ (fun h0 => ?_)
    · unfold x1; clear x1
      refine keep_mk rfl rfl rfl rfl ?_
      exact h_s
    · clear_value x1
      extract_lets +onlyGivenNames x2
      refine keep_bind (s0 := s0) x2 ?_ (fun h1 => ?_)
      · unfold x2; clear x2
        refine keep_foldl ?_ ?_
        · intro a0 a1 h1
          apply armTrigger_keep
          exact h1
        · exact h0
      · clear_value x2
        refine keep_ite ?_ ?_
        · refine keep_mk rfl rfl rfl rfl ?_
          exact h1
        · exact h1
  · rename_i y0
    refine keep_mk rfl rfl rfl rfl ?_
    exact h_s
  · rename_i y0
    extract_lets +onlyGivenNames x0
    extract_lets +onlyGivenNames x1
    refine keep_bind (s0 := s0) x1 ?_ (fun h0 => ?_)
    · unfold x1; clear x1
      refine keep_mk rfl rfl rfl rfl ?_
      exact h_s
    · clear_value x1
      apply markDark_keep
      exact h0
  · rename_i y0
    extract_lets +onlyGivenNames x0
    refine keep_bind (s0 := s0) x0 ?_ (fun h0 => ?_)
    · unfold x0; clear x0
      apply engineReset_keep
      exact h_s
    · clear_value x0
      refine keep_mk rfl rfl rfl rfl ?_
      exact h0
  · rename_i y0 y0' y0'' y0''' y0'''' y0''''' y0'''''' y0''''''' y0'''''''' y0''''''''' y0''''''''''
    exact h_s

theorem blockReset_keep {s0 : State} (b src : Nat) (s : State) (h_s : Keep s0 s) :
    Keep s0 (blockReset b src s) := by
  unfold blockReset
  refine keep_ite ?_ ?_
  · exact h_s
  · apply resetEffects_keep
    apply applyBlock_keep
    refine keep_mk rfl rfl rfl rfl ?_
    exact h_s

theorem react_keep {s0 : State} (b src item sev : Nat) (s : State) (h_s : Keep s0 s) :
    Keep s0 (react b src item sev s) := by
  unfold react
  extract_lets +onlyGivenNames x0; clear_value x0
  extract_lets +onlyGivenNames x1
  refine keep_bind (s0 := s0) x1 ?_ (fun h0 => ?_)
  · unfold x1; clear x1
    refine keep_ite ?_ ?_
    · refine keep_mk rfl rfl rfl rfl ?_
      exact h_s
    · exact h_s
  · clear_value x1
    extract_lets +onlyGivenNames x2
    refine keep_bind (s0 := s0) x2 ?_ (fun h1 => ?_)
    · unfold x2; clear x2
      refine keep_ite ?_ ?_
      · apply snuffItem_keep
        exact h0
      · exact h0
    · clear_value x2
      refine keep_ite ?_ ?_
      · apply blockReset_keep
        exact h1
      · refine keep_ite ?_ ?_
        · apply safeBegin_keep
          exact h1
        · exact h1

theorem raiseIn_keep {s0 : State} (open0 : List Shadow) (b src item : Nat) (s : State) (h_s : Keep s0 s) :
    Keep s0 (raiseIn open0 b src item s) := by
  unfold raiseIn
  refine keep_ite ?_ ?_
  · exact h_s
  · extract_lets +onlyGivenNames x0; clear_value x0
    split
    rename_i y0 y0' y0'' y0'''
    extract_lets +onlyGivenNames x1; clear_value x1
    extract_lets +onlyGivenNames x2; clear_value x2
    extract_lets +onlyGivenNames x3; clear_value x3
    extract_lets +onlyGivenNames x4; clear_value x4
    extract_lets +onlyGivenNames x5
    refine keep_bind (s0 := s0) x5 ?_ (fun h0 => ?_)
    · unfold x5; clear x5
      apply modFlt_keep
      exact h_s
    · clear_value x5
      extract_lets +onlyGivenNames x6
      refine keep_bind (s0 := s0) x6 ?_ (fun h1 => ?_)
      · unfold x6; clear x6
        refine keep_ite ?_ ?_
        · apply journalRaise_keep
          exact h0
        · exact h0
      · clear_value x6
        refine keep_ite ?_ ?_
        · exact h1
        · refine keep_ite ?_ ?_
          · refine keep_mk rfl rfl rfl rfl ?_
            exact h1
          · apply react_keep
            exact h1

theorem raise_keep {s0 : State} (b src item : Nat) (s : State) (h_s : Keep s0 s) :
    Keep s0 (raise b src item s) := by
  unfold raise
  apply raiseIn_keep
  exact h_s

theorem raiseAll_keep {s0 : State} (l : List (Nat × Nat × Nat)) (s : State) (h_s : Keep s0 s) :
    Keep s0 (raiseAll l s) := by
  unfold raiseAll
  extract_lets +onlyGivenNames x0; clear_value x0
  refine keep_foldl ?_ ?_
  · intro a0 a1 h0
    apply raiseIn_keep
    exact h0
  · exact h_s

theorem acknowledge_keep {s0 : State} (b mask : Nat) (s : State) (h_s : Keep s0 s) :
    Keep s0 (acknowledge b mask s) := by
  unfold acknowledge
  extract_lets +onlyGivenNames x0; clear_value x0
  extract_lets +onlyGivenNames x1; clear_value x1
  extract_lets +onlyGivenNames x2; clear_value x2
  extract_lets +onlyGivenNames x3
  refine keep_bind (s0 := s0) x3 ?_ (fun h0 => ?_)
  · unfold x3; clear x3
    apply modFlt_keep
    exact h_s
  · clear_value x3
    refine keep_ite ?_ ?_
    · apply safeEnd_keep
      exact h0
    · exact h0

theorem protoEvent_keep {s0 : State} (i : Iface) (s : State) (h_s : Keep s0 s) :
    Keep s0 (protoEvent i s) := by
  unfold protoEvent
  apply raise_keep
  apply protoCount_keep
  exact h_s

theorem pushAlarm_keep {s0 : State} (block : Nat) (event : List Byte) (epoch : Word) (s : State) (h_s : Keep s0 s) :
    Keep s0 (pushAlarm block event epoch s) := by
  unfold pushAlarm
  extract_lets +onlyGivenNames x0; clear_value x0
  extract_lets +onlyGivenNames x1
  extract_lets +onlyGivenNames x2
  refine keep_bind (s0 := s0) x2 ?_ (fun h0 => ?_)
  · unfold x2; clear x2
    refine keep_ite ?_ ?_
    · apply edgeLine_keep
      refine keep_mk rfl rfl rfl rfl ?_
      exact h_s
    · apply raise_keep
      refine keep_mk rfl rfl rfl rfl ?_
      exact h_s
  · clear_value x2
    apply alarmToFabric_keep
    exact h0

theorem addMark_keep {s0 : State} (entry : List Byte) (s : State) (h_s : Keep s0 s) :
    Keep s0 (addMark entry s) := by
  unfold addMark
  refine keep_foldl ?_ ?_
  · intro a0 a1 h0
    extract_lets +onlyGivenNames x0; clear_value x0
    split
    · rename_i y0 y0'
      exact h0
    · rename_i y0 y0' y0''
      refine keep_ite ?_ ?_
      · exact h0
      · refine keep_ite ?_ ?_
        · apply modStream_keep
          exact h0
        · refine keep_ite ?_ ?_
          · apply modStream_keep
            exact h0
          · apply raise_keep
            apply modStream_keep
            exact h0
  · exact h_s

theorem checkJournalFull_keep {s0 : State} (s : State) (h_s : Keep s0 s) :
    Keep s0 (checkJournalFull s) := by
  unfold checkJournalFull
  refine keep_ite ?_ ?_
  · refine keep_ite ?_ ?_
    · exact h_s
    · apply raise_keep
      refine keep_mk rfl rfl rfl rfl ?_
      exact h_s
  · refine keep_mk rfl rfl rfl rfl ?_
    exact h_s

theorem countErases_keep {s0 : State} (k n : Nat) (s : State) (h_s : Keep s0 s) :
    Keep s0 (countErases k n s) := by
  unfold countErases
  refine keep_foldl ?_ ?_
  · intro a0 a1 h0
    extract_lets +onlyGivenNames x0
    refine keep_bind (s0 := s0) x0 ?_ (fun h1 => ?_)
    · unfold x0; clear x0
      apply countErase_keep
      exact h0
    · clear_value x0
      refine keep_ite ?_ ?_
      · apply raise_keep
        exact h1
      · exact h1
  · exact h_s

theorem nvmFault_keep {s0 : State} (r : NvmResult) (s : State) (h_s : Keep s0 s) :
    Keep s0 (nvmFault r s) := by
  unfold nvmFault
  split
  · rename_i y0
    exact h_s
  · rename_i y0
    apply raise_keep
    exact h_s
  · rename_i y0
    apply raise_keep
    exact h_s
  · rename_i y0
    apply raise_keep
    exact h_s

theorem nvmFailed_keep {s0 : State} (r : NvmResult) (k n : Nat) (s : State) (h_s : Keep s0 s) :
    Keep s0 (nvmFailed r k n s) := by
  unfold nvmFailed
  extract_lets +onlyGivenNames x0; clear_value x0
  apply nvmFault_keep
  refine keep_mk rfl rfl rfl rfl ?_
  exact h_s

theorem nvmGood_keep {s0 : State} (k n : Nat) (s : State) (h_s : Keep s0 s) :
    Keep s0 (nvmGood k n s) := by
  unfold nvmGood
  refine keep_mk rfl rfl rfl rfl ?_
  exact h_s

theorem eraseSector_keep {s0 : State} (k : Nat) (s : State) (h_s : Keep s0 s) :
    Keep s0 (eraseSector k s) := by
  unfold eraseSector
  extract_lets +onlyGivenNames x0; clear_value x0
  extract_lets +onlyGivenNames x1; clear_value x1
  extract_lets +onlyGivenNames x2
  refine keep_bind (s0 := s0) x2 ?_ (fun h0 => ?_)
  · unfold x2; clear x2
    apply countErases_keep
    refine keep_mk rfl rfl rfl rfl ?_
    exact h_s
  · clear_value x2
    refine keep_ite ?_ ?_
    · exact h0
    · apply raise_keep
      refine keep_mk rfl rfl rfl rfl ?_
      exact h0

theorem programOne_keep {s0 : State} (s : State) (h_s : Keep s0 s) :
    Keep s0 (programOne s) := by
  unfold programOne
  split
  · rename_i y0 y0'
    exact h_s
  · rename_i y0 y0' y0'' y0'''
    extract_lets +onlyGivenNames x0; clear_value x0
    extract_lets +onlyGivenNames x1
    refine keep_bind (s0 := s0) x1 ?_ (fun h0 => ?_)
    · unfold x1; clear x1
      refine keep_mk rfl rfl rfl rfl ?_
      exact h_s
    · clear_value x1
      extract_lets +onlyGivenNames x2; clear_value x2
      extract_lets +onlyGivenNames x3
      refine keep_bind (s0 := s0) x3 ?_ (fun h1 => ?_)
      · unfold x3; clear x3
        refine keep_ite ?_ ?_
        · exact h0
        · apply eraseSector_keep
          exact h0
      · clear_value x3
        refine keep_ite ?_ ?_
        · extract_lets +onlyGivenNames x4; clear_value x4
          refine keep_mk rfl rfl rfl rfl ?_
          exact h1
        · refine keep_mk rfl rfl rfl rfl ?_
          exact h1

theorem programN_keep {s0 : State} (n : Nat) (s : State) (h_s : Keep s0 s) : Keep s0 (programN n s) := by
  induction n generalizing s with
  | zero => exact h_s
  | succ n ih => exact ih _ (programOne_keep s h_s)

theorem programAll_keep {s0 : State} (s : State) (h_s : Keep s0 s) :
    Keep s0 (programAll s) := by
  unfold programAll
  apply programN_keep
  exact h_s

theorem armRaise_keep {s0 : State} (u : Fin 16) (s : State) (h_s : Keep s0 s) :
    Keep s0 (armRaise u s) := by
  unfold armRaise
  split
  rename_i y0 y0' y0'' y0'''
  refine keep_bind (s0 := s0) _ (keep_of1 y0''' ?_) (fun h0 => ?_)
  · apply armTrigger_keep
    exact h_s
  · refine keep_ite ?_ ?_
    · apply raise_keep
      exact h0
    · exact h0

end Sys2Proof.Machine
end

