-- ==== Sys2Proof/Laws/KeepOperands.lean ====
section
/-! SUPPORT. Every operation of Machine/Operands.lean keeps the queue and the canonical memories. -/
namespace Sys2Proof.Machine

open Sys2Proof

theorem failCmd_keep {s0 : State} (s : State) (st : Byte) (h_s : Keep s0 s) :
    Keep s0 (failCmd s st).st := by
  unfold failCmd
  refine keep_cmd ?_
  exact h_s

theorem okCmd_keep {s0 : State} (s : State) (data : List Byte) (h_s : Keep s0 s) :
    Keep s0 (okCmd s data).st := by
  unfold okCmd
  refine keep_cmd ?_
  exact h_s

theorem acceptCmd_keep {s0 : State} (s : State) (h_s : Keep s0 s) :
    Keep s0 (acceptCmd s).st := by
  unfold acceptCmd
  refine keep_cmd ?_
  exact h_s

theorem checked_keep {s0 : State} (s : State) (checks : List (Bool × Byte)) (go : Unit → CmdResult) (h_s : Keep s0 s) (h_go : ∀ a0, Keep s0 (go a0).st) :
    Keep s0 (checked s checks go).st := by
  unfold checked
  split
  · rename_i y0 y0' y0''
    apply failCmd_keep
    exact h_s
  · rename_i y0 y0'
    apply h_go

theorem journalCommand_keep {s0 : State} (o : Origin) (slot : Option (Fin 6)) (role : BitVec 2) (tag op status : Byte) (params : List Byte) (s : State) (h_s : Keep s0 s) :
    Keep s0 (journalCommand o slot role tag op status params s) := by
  unfold journalCommand
  apply checkJournalFull_keep
  apply programAll_keep
  apply journalRaise_keep
  exact h_s

theorem conclude_keep {s0 : State} (info : OpInfo) (p : Packet) (bcast : Bool) (slot : Option (Fin 6)) (role : BitVec 2) (r : CmdResult) (h_r : Keep s0 r.st) :
    Keep s0 (conclude info p bcast slot role r) := by
  unfold conclude
  refine keep_ite ?_ ?_
  · exact h_r
  · refine keep_ite ?_ ?_
    · apply reply_keep
      extract_lets +onlyGivenNames x0
      refine keep_bind (s0 := s0) x0 ?_ (fun h0 => ?_)
      · unfold x0; clear x0
        exact h_r
      · clear_value x0
        refine keep_mk rfl rfl rfl rfl ?_
        exact h0
    · extract_lets +onlyGivenNames x0
      refine keep_bind (s0 := s0) x0 ?_ (fun h0 => ?_)
      · unfold x0; clear x0
        refine keep_ite ?_ ?_
        · apply journalCommand_keep
          exact h_r
        · exact h_r
      · clear_value x0
        apply reply_keep
        exact h0

theorem executeCommand_keep {s0 : State} (info : OpInfo) (body : Packet → State → CmdResult) (p : Packet) (bcast : Bool) (s : State) (h_body : ∀ a0 a1, Keep s0 a1 → Keep s0 (body a0 a1).st) (h_s : Keep s0 s) :
    Keep s0 (executeCommand info body p bcast s) := by
  unfold executeCommand
  extract_lets +onlyGivenNames x0
  refine keep_bind (s0 := s0) x0.st ?_ (fun h0 => ?_)
  · unfold x0; clear x0
    split
    · rename_i y0 y0' y0''
      apply failCmd_keep
      exact h_s
    · rename_i y0 y0'
      apply h_body
      exact h_s
  · clear_value x0
    apply conclude_keep
    exact h0

theorem rejectCommand_keep {s0 : State} (info : OpInfo) (p : Packet) (st : Byte) (s : State) (h_s : Keep s0 s) :
    Keep s0 (rejectCommand info p st s) := by
  unfold rejectCommand
  apply conclude_keep
  apply failCmd_keep
  exact h_s

theorem holdPacket_keep {s0 : State} (o : Origin) (bytes : List Byte) (s : State) (h_s : Keep s0 s) :
    Keep s0 (holdPacket o bytes s) := by
  unfold holdPacket
  split
  · rename_i y0 y0'
    refine keep_ite ?_ ?_
    · exact h_s
    · apply modPort_keep
      exact h_s
  · rename_i y0 y0' y0''
    exact h_s

theorem takePacket_keep {s0 : State} (o : Origin) (s : State) (h_s : Keep s0 s) :
    Keep s0 (takePacket o s) := by
  unfold takePacket
  extract_lets +onlyGivenNames x0; clear_value x0
  extract_lets +onlyGivenNames x1
  refine keep_bind (s0 := s0) x1 ?_ (fun h0 => ?_)
  · unfold x1; clear x1
    split
    · rename_i y0 y0'
      apply modPort_keep
      exact h_s
    · rename_i y0 y0' y0''
      refine keep_mk rfl rfl rfl rfl ?_
      exact h_s
  · clear_value x1
    split
    · rename_i y0 y0' y0''
      apply modSession_keep
      exact h0
    · rename_i y0 y0'
      exact h0

theorem relayCommand_keep {s0 : State} (i : Iface) (op : Nat) (p : Packet) (s : State) (h_s : Keep s0 s) :
    Keep s0 (relayCommand i op p s) := by
  unfold relayCommand
  extract_lets +onlyGivenNames x0
  refine keep_bind (s0 := s0) x0 ?_ (fun h0 => ?_)
  · unfold x0; clear x0
    apply sendPacket_keep
    exact h_s
  · clear_value x0
    refine keep_mk rfl rfl rfl rfl ?_
    exact h0

theorem sendBroadcast_keep {s0 : State} (i : Iface) (op : Nat) (p : Packet) (s : State) (h_s : Keep s0 s) :
    Keep s0 (sendBroadcast i op p s) := by
  unfold sendBroadcast
  extract_lets +onlyGivenNames x0; clear_value x0
  extract_lets +onlyGivenNames x1
  refine keep_bind (s0 := s0) x1 ?_ (fun h0 => ?_)
  · unfold x1; clear x1
    refine keep_foldl ?_ ?_
    · intro a0 a1 h0
      apply sendOnAll_keep
      exact h0
    · exact h_s
  · clear_value x1
    refine keep_mk rfl rfl rfl rfl ?_
    exact h0

theorem checkCommand_keep {s0 : State} (info : OpInfo) (body : Packet → State → CmdResult) (p : Packet) (s : State) (h_body : ∀ a0 a1, Keep s0 a1 → Keep s0 (body a0 a1).st) (h_s : Keep s0 s) :
    Keep s0 (checkCommand info body p s) := by
  unfold checkCommand
  split
  · rename_i y0 y0' y0'' y0'''
    refine keep_ite ?_ ?_
    · apply rejectCommand_keep
      exact h_s
    · refine keep_ite ?_ ?_
      · apply rejectCommand_keep
        exact h_s
      · apply executeCommand_keep
        · intro a0 a1 h0
          apply h_body
          exact h0
        · exact h_s
  · rename_i y0 y0' y0''
    refine keep_ite ?_ ?_
    · refine keep_ite ?_ ?_
      · apply rejectCommand_keep
        exact h_s
      · refine keep_ite ?_ ?_
        · apply rejectCommand_keep
          exact h_s
        · extract_lets +onlyGivenNames x0
          refine keep_bind (s0 := s0) x0 ?_ (fun h0 => ?_)
          · unfold x0; clear x0
            apply queueReply_keep
            exact h_s
          · clear_value x0
            apply executeCommand_keep
            · intro a0 a1 h1
              apply h_body
              exact h1
            · apply sendBroadcast_keep
              exact h0
    · refine keep_ite ?_ ?_
      · refine keep_ite ?_ ?_
        · apply rejectCommand_keep
          exact h_s
        · apply executeCommand_keep
          · intro a0 a1 h0
            apply h_body
            exact h0
          · exact h_s
      · refine keep_ite ?_ ?_
        · apply rejectCommand_keep
          exact h_s
        · refine keep_ite ?_ ?_
          · apply rejectCommand_keep
            exact h_s
          · apply relayCommand_keep
            exact h_s

theorem runCommand_keep {s0 : State} (op : Nat) (body : Packet → State → CmdResult) (p : Packet) (s : State) (h_body : ∀ a0 a1, Keep s0 a1 → Keep s0 (body a0 a1).st) (h_s : Keep s0 s) :
    Keep s0 (runCommand op body p s) := by
  unfold runCommand
  split
  · rename_i y0 y0'
    exact h_s
  · rename_i y0 y0' y0''
    refine keep_ite ?_ ?_
    · apply checkCommand_keep
      · intro a0 a1 h0
        apply h_body
        exact h0
      · apply takePacket_keep
        exact h_s
    · apply holdPacket_keep
      exact h_s

theorem completeDeferred_keep {s0 : State} (op : Nat) (status : Byte) (data : List Byte) (why : ReplyPurpose) (s : State) (h_s : Keep s0 s) :
    Keep s0 (completeDeferred op status data why s) := by
  unfold completeDeferred
  split
  · rename_i y0 y0'
    exact h_s
  · rename_i y0 y0' y0''
    extract_lets +onlyGivenNames x0; clear_value x0
    extract_lets +onlyGivenNames x1
    refine keep_bind (s0 := s0) x1 ?_ (fun h0 => ?_)
    · unfold x1; clear x1
      refine keep_mk rfl rfl rfl rfl ?_
      exact h_s
    · clear_value x1
      extract_lets +onlyGivenNames x2
      refine keep_bind (s0 := s0) x2 ?_ (fun h1 => ?_)
      · unfold x2; clear x2
        refine keep_ite ?_ ?_
        · apply journalCommand_keep
          exact h0
        · exact h0
      · clear_value x2
        apply reply_keep
        exact h1

end Sys2Proof.Machine
end

