-- ==== Sys2Proof/Laws/KeepFit.lean ====
section
/-! SUPPORT. Every operation of Machine/Fit.lean keeps the queue and the canonical memories. -/
namespace Sys2Proof.Machine

open Sys2Proof

theorem withShadow_keep {s0 : State} (f : RegFile) (s : State) (h_s : Keep s0 s) :
    Keep s0 (withShadow f s) := by
  unfold withShadow
  refine keep_mk rfl rfl rfl rfl ?_
  exact h_s

theorem applyNow_keep {s0 : State} (b : Nat) (s : State) (h_s : Keep s0 s) :
    Keep s0 (applyNow b s) := by
  unfold applyNow
  refine keep_ite ?_ ?_
  · apply applyBlock_keep
    exact h_s
  · exact h_s

end Sys2Proof.Machine
end

