-- ==== Sys2Proof/Laws/KeepBrdg.lean ====
section
/-! SUPPORT. Every operation of Machine/Brdg.lean keeps the queue and the canonical memories. -/
namespace Sys2Proof.Machine

open Sys2Proof

theorem modLane_keep {s0 : State} (n : Nat) (f : LaneSt → LaneSt) (s : State) (h_s : Keep s0 s) :
    Keep s0 (modLane n f s) := by
  unfold modLane
  refine keep_mk rfl rfl rfl rfl ?_
  exact h_s

theorem settleLane_keep {s0 : State} (n : Nat) (s : State) (h_s : Keep s0 s) :
    Keep s0 (settleLane n s) := by
  unfold settleLane
  extract_lets +onlyGivenNames x0; clear_value x0
  apply modLane_keep
  exact h_s

theorem settleLanes_keep {s0 : State} (l : List Nat) (s : State) (h_s : Keep s0 s) :
    Keep s0 (settleLanes l s) := by
  unfold settleLanes
  refine keep_foldl ?_ ?_
  · intro a0 a1 h0
    apply settleLane_keep
    exact h0
  · exact h_s

theorem applyGroup_keep {s0 : State} (g : Nat) (s : State) (h_s : Keep s0 s) :
    Keep s0 (applyGroup g s) := by
  unfold applyGroup
  extract_lets +onlyGivenNames x0; clear_value x0
  extract_lets +onlyGivenNames x1; clear_value x1
  extract_lets +onlyGivenNames x2; clear_value x2
  extract_lets +onlyGivenNames x3
  refine keep_bind (s0 := s0) x3 ?_ (fun h0 => ?_)
  · unfold x3; clear x3
    apply applyRange_keep
    apply applyRange_keep
    exact h_s
  · clear_value x3
    apply excFix_keep
    apply settleLanes_keep
    exact h0

theorem closeHeld_keep {s0 : State} (gs : List Nat) (s : State) (h_s : Keep s0 s) :
    Keep s0 (closeHeld gs s) := by
  unfold closeHeld
  refine keep_ite ?_ ?_
  · exact h_s
  · extract_lets +onlyGivenNames x0; clear_value x0
    extract_lets +onlyGivenNames x1; clear_value x1
    extract_lets +onlyGivenNames x2; clear_value x2
    extract_lets +onlyGivenNames x3
    refine keep_bind (s0 := s0) x3 ?_ (fun h0 => ?_)
    · unfold x3; clear x3
      refine keep_mk rfl rfl rfl rfl ?_
      exact h_s
    · clear_value x3
      apply excFix_keep
      apply settleLanes_keep
      exact h0

theorem brdgDue_keep {s0 : State} (m : Word) (s : State) (h_s : Keep s0 s) :
    Keep s0 (brdgDue m s) := by
  unfold brdgDue
  extract_lets +onlyGivenNames x0; clear_value x0
  extract_lets +onlyGivenNames x1
  refine keep_bind (s0 := s0) x1 ?_ (fun h0 => ?_)
  · unfold x1; clear x1
    refine keep_foldl ?_ ?_
    · intro a0 a1 h0
      apply withShadow_keep
      exact h0
    · exact h_s
  · clear_value x1
    refine keep_mk rfl rfl rfl rfl ?_
    exact h0

theorem applySnuff_keep {s0 : State} (w : WinItem) (s : State) (h_s : Keep s0 s) :
    Keep s0 (applySnuff w s) := by
  unfold applySnuff
  split
  · rename_i y0 y0'
    refine keep_ite ?_ ?_
    · extract_lets +onlyGivenNames x0; clear_value x0
      refine keep_mk rfl rfl rfl rfl ?_
      exact h_s
    · exact h_s
  · rename_i y0 y0'
    refine keep_ite ?_ ?_
    · extract_lets +onlyGivenNames x0; clear_value x0
      apply excFix_keep
      refine keep_mk rfl rfl rfl rfl ?_
      exact h_s
    · exact h_s

theorem brdgBoundary_keep {s0 : State} (old : RegFile) (s : State) (h_s : Keep s0 s) :
    Keep s0 (brdgBoundary old s) := by
  unfold brdgBoundary
  extract_lets +onlyGivenNames x0
  refine keep_bind (s0 := s0) x0 ?_ (fun h0 => ?_)
  · unfold x0; clear x0
    apply settleLanes_keep
    exact h_s
  · clear_value x0
    extract_lets +onlyGivenNames x1
    refine keep_bind (s0 := s0) x1 ?_ (fun h1 => ?_)
    · unfold x1; clear x1
      apply closeHeld_keep
      exact h0
    · clear_value x1
      extract_lets +onlyGivenNames x2; clear_value x2
      extract_lets +onlyGivenNames x3
      refine keep_bind (s0 := s0) x3 ?_ (fun h2 => ?_)
      · unfold x3; clear x3
        refine keep_foldl ?_ ?_
        · intro a0 a1 h2
          refine keep_ite ?_ ?_
          · apply applySnuff_keep
            exact h2
          · exact h2
        · exact h1
      · clear_value x3
        extract_lets +onlyGivenNames x4
        refine keep_bind (s0 := s0) x4 ?_ (fun h3 => ?_)
        · unfold x4; clear x4
          refine keep_foldl ?_ ?_
          · intro a0 a1 h3
            refine keep_ite ?_ ?_
            · apply applySnuff_keep
              exact h3
            · exact h3
          · exact h2
        · clear_value x4
          apply excFix_keep
          exact h3

theorem brdgPower_keep {s0 : State} (s : State) (h_s : Keep s0 s) :
    Keep s0 (brdgPower s) := by
  unfold brdgPower
  extract_lets +onlyGivenNames x0; clear_value x0
  extract_lets +onlyGivenNames x1
  refine keep_bind (s0 := s0) x1 ?_ (fun h0 => ?_)
  · unfold x1; clear x1
    refine keep_ite ?_ ?_
    · exact h_s
    · refine keep_mk rfl rfl rfl rfl ?_
      exact h_s
  · clear_value x1
    apply excFix_keep
    exact h0

theorem brdgRc_keep {s0 : State} (o : Nat) (s : State) (h_s : Keep s0 s) :
    Keep s0 (brdgRc o s) := by
  unfold brdgRc
  extract_lets +onlyGivenNames x0; clear_value x0
  refine keep_ite ?_ ?_
  · refine keep_mk rfl rfl rfl rfl ?_
    exact h_s
  · refine keep_ite ?_ ?_
    · refine keep_mk rfl rfl rfl rfl ?_
      exact h_s
    · exact h_s

theorem brdgChange_keep {s0 : State} (ws : List (Nat × Word)) (at1 : Bool) (e : Word) (s : State) (h_s : Keep s0 s) :
    Keep s0 (brdgChange ws at1 e s).st := by
  unfold brdgChange
  extract_lets +onlyGivenNames x0
  refine keep_bind (s0 := s0) x0 ?_ (fun h0 => ?_)
  · unfold x0; clear x0
    refine keep_mk rfl rfl rfl rfl ?_
    exact h_s
  · clear_value x0
    refine keep_iteC ?_ ?_
    · apply okCmd_keep
      refine keep_mk rfl rfl rfl rfl ?_
      exact h0
    · extract_lets +onlyGivenNames x1; clear_value x1
      extract_lets +onlyGivenNames x2
      refine keep_bind (s0 := s0) x2 ?_ (fun h1 => ?_)
      · unfold x2; clear x2
        apply applyNow_keep
        apply withShadow_keep
        exact h0
      · clear_value x2
        apply okCmd_keep
        apply excFix_keep
        apply settleLanes_keep
        exact h1

theorem bridgeConfigBody_keep {s0 : State} (p : Packet) (s : State) (h_s : Keep s0 s) :
    Keep s0 (bridgeConfigBody p s).st := by
  unfold bridgeConfigBody
  extract_lets +onlyGivenNames x0; clear_value x0
  extract_lets +onlyGivenNames x1; clear_value x1
  extract_lets +onlyGivenNames x2; clear_value x2
  extract_lets +onlyGivenNames x3; clear_value x3
  extract_lets +onlyGivenNames x4; clear_value x4
  extract_lets +onlyGivenNames x5; clear_value x5
  apply checked_keep
  · exact h_s
  · intro a0
    apply brdgChange_keep
    exact h_s

theorem exciteSetBody_keep {s0 : State} (p : Packet) (s : State) (h_s : Keep s0 s) :
    Keep s0 (exciteSetBody p s).st := by
  unfold exciteSetBody
  extract_lets +onlyGivenNames x0; clear_value x0
  extract_lets +onlyGivenNames x1; clear_value x1
  extract_lets +onlyGivenNames x2; clear_value x2
  extract_lets +onlyGivenNames x3; clear_value x3
  extract_lets +onlyGivenNames x4; clear_value x4
  apply checked_keep
  · exact h_s
  · intro a0
    apply brdgChange_keep
    exact h_s

theorem cmwinSetBody_keep {s0 : State} (p : Packet) (s : State) (h_s : Keep s0 s) :
    Keep s0 (cmwinSetBody p s).st := by
  unfold cmwinSetBody
  extract_lets +onlyGivenNames x0; clear_value x0
  extract_lets +onlyGivenNames x1; clear_value x1
  extract_lets +onlyGivenNames x2; clear_value x2
  extract_lets +onlyGivenNames x3; clear_value x3
  apply checked_keep
  · exact h_s
  · intro a0
    apply brdgChange_keep
    exact h_s

theorem checkDacBody_keep {s0 : State} (p : Packet) (s : State) (h_s : Keep s0 s) :
    Keep s0 (checkDacBody p s).st := by
  unfold checkDacBody
  extract_lets +onlyGivenNames x0; clear_value x0
  extract_lets +onlyGivenNames x1; clear_value x1
  extract_lets +onlyGivenNames x2; clear_value x2
  apply checked_keep
  · exact h_s
  · intro a0
    extract_lets +onlyGivenNames x3; clear_value x3
    extract_lets +onlyGivenNames x4; clear_value x4
    extract_lets +onlyGivenNames x5; clear_value x5
    extract_lets +onlyGivenNames x6
    extract_lets +onlyGivenNames x7; clear_value x7
    apply okCmd_keep
    refine keep_mk rfl rfl rfl rfl ?_
    exact h_s

theorem clearItem_keep {s0 : State} (b item : Nat) (s : State) (h_s : Keep s0 s) :
    Keep s0 (clearItem b item s) := by
  unfold clearItem
  apply modFlt_keep
  exact h_s

theorem laneReinstateBody_keep {s0 : State} (p : Packet) (s : State) (h_s : Keep s0 s) :
    Keep s0 (laneReinstateBody p s).st := by
  unfold laneReinstateBody
  extract_lets +onlyGivenNames x0; clear_value x0
  extract_lets +onlyGivenNames x1; clear_value x1
  extract_lets +onlyGivenNames x2; clear_value x2
  extract_lets +onlyGivenNames x3; clear_value x3
  apply checked_keep
  · exact h_s
  · intro a0
    extract_lets +onlyGivenNames x4; clear_value x4
    extract_lets +onlyGivenNames x5; clear_value x5
    extract_lets +onlyGivenNames x6; clear_value x6
    extract_lets +onlyGivenNames x7; clear_value x7
    extract_lets +onlyGivenNames x8; clear_value x8
    refine keep_iteC ?_ ?_
    · apply okCmd_keep
      exact h_s
    · extract_lets +onlyGivenNames x9; clear_value x9
      extract_lets +onlyGivenNames x10; clear_value x10
      extract_lets +onlyGivenNames x11; clear_value x11
      extract_lets +onlyGivenNames x12; clear_value x12
      extract_lets +onlyGivenNames x13
      refine keep_bind (s0 := s0) x13 ?_ (fun h0 => ?_)
      · unfold x13; clear x13
        refine keep_mk rfl rfl rfl rfl ?_
        exact h_s
      · clear_value x13
        extract_lets +onlyGivenNames x14
        refine keep_bind (s0 := s0) x14 ?_ (fun h1 => ?_)
        · unfold x14; clear x14
          refine keep_foldl ?_ ?_
          · intro a1 a2 h1
            apply clearItem_keep
            apply clearItem_keep
            exact h1
          · exact h0
        · clear_value x14
          extract_lets +onlyGivenNames x15
          refine keep_bind (s0 := s0) x15 ?_ (fun h2 => ?_)
          · unfold x15; clear x15
            refine keep_foldl ?_ ?_
            · intro a1 a2 h2
              apply clearItem_keep
              exact h2
            · exact h1
          · clear_value x15
            extract_lets +onlyGivenNames x16
            refine keep_bind (s0 := s0) x16 ?_ (fun h3 => ?_)
            · unfold x16; clear x16
              apply excFix_keep
              apply settleLanes_keep
              exact h2
            · clear_value x16
              apply okCmd_keep
              apply journalRaise_keep
              exact h3

theorem loadBridgeTrims_keep {s0 : State} (neutral : Bool) (s : State) (h_s : Keep s0 s) :
    Keep s0 (loadBridgeTrims neutral s) := by
  unfold loadBridgeTrims
  extract_lets +onlyGivenNames x0; clear_value x0
  extract_lets +onlyGivenNames x1; clear_value x1
  extract_lets +onlyGivenNames x2
  refine keep_bind (s0 := s0) x2 ?_ (fun h0 => ?_)
  · unfold x2; clear x2
    refine keep_mk rfl rfl rfl rfl ?_
    exact h_s
  · clear_value x2
    refine keep_ite ?_ ?_
    · apply raise_keep
      exact h0
    · exact h0

theorem trimApplyBody_keep {s0 : State} (p : Packet) (s : State) (h_s : Keep s0 s) :
    Keep s0 (trimApplyBody p s).st := by
  unfold trimApplyBody
  extract_lets +onlyGivenNames x0; clear_value x0
  apply checked_keep
  · exact h_s
  · intro a0
    extract_lets +onlyGivenNames x1
    refine keep_bind (s0 := s0) x1 ?_ (fun h0 => ?_)
    · unfold x1; clear x1
      apply loadBridgeTrims_keep
      exact h_s
    · clear_value x1
      apply okCmd_keep
      exact h0

theorem trimReadBody_keep {s0 : State} (p : Packet) (s : State) (h_s : Keep s0 s) :
    Keep s0 (trimReadBody p s).st := by
  unfold trimReadBody
  extract_lets +onlyGivenNames x0; clear_value x0
  apply checked_keep
  · exact h_s
  · intro a0
    apply okCmd_keep
    exact h_s

theorem execBridgeConfig_keep {s0 : State} (p : Packet) (s : State) (h_s : Keep s0 s) :
    KeepO s0 (execBridgeConfig p s) := by
  unfold execBridgeConfig
  refine KeepO.next ?_
  apply runCommand_keep
  · intro a0 a1 h0
    apply bridgeConfigBody_keep
    exact h0
  · exact h_s

theorem execExciteSet_keep {s0 : State} (p : Packet) (s : State) (h_s : Keep s0 s) :
    KeepO s0 (execExciteSet p s) := by
  unfold execExciteSet
  refine KeepO.next ?_
  apply runCommand_keep
  · intro a0 a1 h0
    apply exciteSetBody_keep
    exact h0
  · exact h_s

theorem execCmwinSet_keep {s0 : State} (p : Packet) (s : State) (h_s : Keep s0 s) :
    KeepO s0 (execCmwinSet p s) := by
  unfold execCmwinSet
  refine KeepO.next ?_
  apply runCommand_keep
  · intro a0 a1 h0
    apply cmwinSetBody_keep
    exact h0
  · exact h_s

theorem execCheckDac_keep {s0 : State} (p : Packet) (s : State) (h_s : Keep s0 s) :
    KeepO s0 (execCheckDac p s) := by
  unfold execCheckDac
  refine KeepO.next ?_
  apply runCommand_keep
  · intro a0 a1 h0
    apply checkDacBody_keep
    exact h0
  · exact h_s

theorem execLaneReinstate_keep {s0 : State} (p : Packet) (s : State) (h_s : Keep s0 s) :
    KeepO s0 (execLaneReinstate p s) := by
  unfold execLaneReinstate
  refine KeepO.next ?_
  apply runCommand_keep
  · intro a0 a1 h0
    apply laneReinstateBody_keep
    exact h0
  · exact h_s

theorem execTrimApply_keep {s0 : State} (p : Packet) (s : State) (h_s : Keep s0 s) :
    KeepO s0 (execTrimApply p s) := by
  unfold execTrimApply
  refine KeepO.next ?_
  apply runCommand_keep
  · intro a0 a1 h0
    apply trimApplyBody_keep
    exact h0
  · exact h_s

theorem execTrimRead_keep {s0 : State} (p : Packet) (s : State) (h_s : Keep s0 s) :
    KeepO s0 (execTrimRead p s) := by
  unfold execTrimRead
  refine KeepO.next ?_
  apply runCommand_keep
  · intro a0 a1 h0
    apply trimReadBody_keep
    exact h0
  · exact h_s

theorem modWin_keep {s0 : State} (w : WinItem) (f : WinSt → WinSt) (s : State) (h_s : Keep s0 s) :
    Keep s0 (modWin w f s) := by
  unfold modWin
  split
  · rename_i y0 y0'
    refine keep_mk rfl rfl rfl rfl ?_
    exact h_s
  · rename_i y0 y0'
    refine keep_mk rfl rfl rfl rfl ?_
    exact h_s

theorem winPermanent_keep {s0 : State} (w : WinItem) (s : State) (h_s : Keep s0 s) :
    Keep s0 (winPermanent w s) := by
  unfold winPermanent
  apply raise_keep
  apply modWin_keep
  exact h_s

theorem winEvent_keep {s0 : State} (w : WinItem) (t : Nat) (s : State) (h_s : Keep s0 s) :
    Keep s0 (winEvent w t s) := by
  unfold winEvent
  extract_lets +onlyGivenNames x0
  refine keep_bind (s0 := s0) x0 ?_ (fun h0 => ?_)
  · unfold x0; clear x0
    apply modWin_keep
    exact h_s
  · clear_value x0
    extract_lets +onlyGivenNames x1
    refine keep_bind (s0 := s0) x1 ?_ (fun h1 => ?_)
    · unfold x1; clear x1
      apply raise_keep
      exact h0
    · clear_value x1
      split
      · rename_i y0 y0' y0''
        refine keep_ite ?_ ?_
        · apply winPermanent_keep
          exact h1
        · exact h1
      · rename_i y0 y0'
        exact h1

theorem execWindowViolationBegin_keep {s0 : State} (w : WinItem) (t : Long) (s : State) (h_s : Keep s0 s) :
    KeepO s0 (execWindowViolationBegin w t s) := by
  unfold execWindowViolationBegin
  refine KeepO.ite ?_ ?_
  · refine KeepO.next ?_
    exact h_s
  · extract_lets +onlyGivenNames x0; clear_value x0
    extract_lets +onlyGivenNames x1
    refine keep_bind (s0 := s0) x1 ?_ (fun h0 => ?_)
    · unfold x1; clear x1
      apply modWin_keep
      exact h_s
    · clear_value x1
      split
      · rename_i y0 y0'
        refine KeepO.next ?_
        exact h0
      · rename_i y0 y0'
        refine KeepO.next ?_
        apply winEvent_keep
        exact h0

theorem execLeadEventClassify_keep {s0 : State} (lane : Fin 32) (s : State) (h_s : Keep s0 s) :
    KeepO s0 (execLeadEventClassify lane s) := by
  unfold execLeadEventClassify
  extract_lets +onlyGivenNames x0; clear_value x0
  split
  · rename_i y0 y0'
    refine KeepO.next ?_
    exact h_s
  · rename_i y0 y0' y0'' y0'''
    refine KeepO.ite ?_ ?_
    · refine KeepO.next ?_
      exact h_s
    · refine KeepO.next ?_
      apply winEvent_keep
      exact h_s

theorem execWindowViolationEnd_keep {s0 : State} (w : WinItem) (t : Long) (s : State) (h_s : Keep s0 s) :
    KeepO s0 (execWindowViolationEnd w t s) := by
  unfold execWindowViolationEnd
  split
  · rename_i y0 y0'
    refine KeepO.next ?_
    exact h_s
  · rename_i y0 y0' y0''
    extract_lets +onlyGivenNames x0
    refine keep_bind (s0 := s0) x0 ?_ (fun h0 => ?_)
    · unfold x0; clear x0
      apply modWin_keep
      exact h_s
    · clear_value x0
      extract_lets +onlyGivenNames x1; clear_value x1
      refine KeepO.next ?_
      refine keep_foldl ?_ ?_
      · intro a0 a1 h1
        extract_lets +onlyGivenNames x2; clear_value x2
        refine keep_mk rfl rfl rfl rfl ?_
        exact h1
      · exact h0

theorem execTransientClose_keep {s0 : State} (w : WinItem) (s : State) (h_s : Keep s0 s) :
    KeepO s0 (execTransientClose w s) := by
  unfold execTransientClose
  extract_lets +onlyGivenNames x0; clear_value x0
  split
  · rename_i y0 y0' y0'' y0''' y0''''
    refine KeepO.next ?_
    apply modWin_keep
    apply advanceTo_keep
    exact h_s
  · rename_i y0 y0' y0''
    refine KeepO.next ?_
    exact h_s

theorem execPermanentDecision_keep {s0 : State} (w : WinItem) (s : State) (h_s : Keep s0 s) :
    KeepO s0 (execPermanentDecision w s) := by
  unfold execPermanentDecision
  extract_lets +onlyGivenNames x0; clear_value x0
  split
  · rename_i y0 y0' y0''
    refine KeepO.ite ?_ ?_
    · refine KeepO.next ?_
      apply winPermanent_keep
      apply advanceTo_keep
      exact h_s
    · refine KeepO.next ?_
      exact h_s
  · rename_i y0 y0'
    refine KeepO.next ?_
    exact h_s

theorem execExcOvercurrent_keep {s0 : State} (g : Fin 8) (s : State) (h_s : Keep s0 s) :
    KeepO s0 (execExcOvercurrent g s) := by
  unfold execExcOvercurrent
  refine KeepO.ite ?_ ?_
  · refine KeepO.next ?_
    exact h_s
  · refine KeepO.next ?_
    apply raise_keep
    apply excFix_keep
    refine keep_mk rfl rfl rfl rfl ?_
    exact h_s

theorem execVexLow_keep {s0 : State} (g : Fin 8) (present : Bool) (s : State) (h_s : Keep s0 s) :
    KeepO s0 (execVexLow g present s) := by
  unfold execVexLow
  refine KeepO.ite ?_ ?_
  · refine KeepO.next ?_
    exact h_s
  · extract_lets +onlyGivenNames x0; clear_value x0
    extract_lets +onlyGivenNames x1; clear_value x1
    extract_lets +onlyGivenNames x2; clear_value x2
    extract_lets +onlyGivenNames x3
    refine keep_bind (s0 := s0) x3 ?_ (fun h0 => ?_)
    · unfold x3; clear x3
      refine keep_mk rfl rfl rfl rfl ?_
      exact h_s
    · clear_value x3
      refine KeepO.next ?_
      refine keep_ite ?_ ?_
      · apply raise_keep
        exact h0
      · exact h0

theorem execBrdgChangeApply_keep {s0 : State} (g : Fin 8) (s : State) (h_s : Keep s0 s) :
    KeepO s0 (execBrdgChangeApply g s) := by
  unfold execBrdgChangeApply
  refine KeepO.ite ?_ ?_
  · refine KeepO.next ?_
    apply closeHeld_keep
    apply applyGroup_keep
    exact h_s
  · refine KeepO.next ?_
    exact h_s

theorem execBrdgSnuffApply_keep {s0 : State} (w : WinItem) (s : State) (h_s : Keep s0 s) :
    KeepO s0 (execBrdgSnuffApply w s) := by
  unfold execBrdgSnuffApply
  refine KeepO.next ?_
  apply applySnuff_keep
  exact h_s

end Sys2Proof.Machine
end

