-- ==== Sys2Proof/Laws/KeepCarr.lean ====
section
/-! SUPPORT. Every operation of Machine/Carr.lean keeps the queue and the canonical memories. -/
namespace Sys2Proof.Machine

open Sys2Proof

theorem shadowTo_keep {s0 : State} (after : Nat) (s : State) (h_s : Keep s0 s) :
    Keep s0 (shadowTo after s) := by
  unfold shadowTo
  extract_lets +onlyGivenNames x0; clear_value x0
  refine keep_mk rfl rfl rfl rfl ?_
  exact h_s

theorem shadowFix_keep {s0 : State} (s : State) (h_s : Keep s0 s) :
    Keep s0 (shadowFix s) := by
  unfold shadowFix
  split
  · rename_i y0 y0' y0''
    refine keep_ite ?_ ?_
    · exact h_s
    · apply shadowTo_keep
      exact h_s
  · rename_i y0 y0'
    apply shadowTo_keep
    exact h_s

theorem newCarrier_keep {s0 : State} (n v2 : Nat) (s : State) (h_s : Keep s0 s) :
    Keep s0 (newCarrier n v2 s) := by
  unfold newCarrier
  extract_lets +onlyGivenNames x0; clear_value x0
  extract_lets +onlyGivenNames x1; clear_value x1
  extract_lets +onlyGivenNames x2
  refine keep_bind (s0 := s0) x2 ?_ (fun h0 => ?_)
  · unfold x2; clear x2
    refine keep_mk rfl rfl rfl rfl ?_
    exact h_s
  · clear_value x2
    apply shadowTo_keep
    exact h0

theorem cancelHop_keep {s0 : State} (s : State) (h_s : Keep s0 s) :
    Keep s0 (cancelHop s) := by
  unfold cancelHop
  refine keep_ite ?_ ?_
  · refine keep_mk rfl rfl rfl rfl ?_
    exact h_s
  · exact h_s

theorem carrApply_keep {s0 : State} (s : State) (h_s : Keep s0 s) :
    Keep s0 (carrApply s) := by
  unfold carrApply
  extract_lets +onlyGivenNames x0; clear_value x0
  extract_lets +onlyGivenNames x1
  refine keep_bind (s0 := s0) x1 ?_ (fun h0 => ?_)
  · unfold x1; clear x1
    apply applyBlock_keep
    exact h_s
  · clear_value x1
    extract_lets +onlyGivenNames x2; clear_value x2
    extract_lets +onlyGivenNames x3
    refine keep_bind (s0 := s0) x3 ?_ (fun h1 => ?_)
    · unfold x3; clear x3
      refine keep_ite ?_ ?_
      · apply cancelHop_keep
        exact h0
      · exact h0
    · clear_value x3
      extract_lets +onlyGivenNames x4
      refine keep_bind (s0 := s0) x4 ?_ (fun h2 => ?_)
      · unfold x4; clear x4
        split
        · rename_i y0 y0' y0''
          extract_lets +onlyGivenNames x4
          refine keep_bind (s0 := s0) x4 ?_ (fun h2 => ?_)
          · unfold x4; clear x4
            apply newCarrier_keep
            exact h1
          · clear_value x4
            refine keep_mk rfl rfl rfl rfl ?_
            exact h2
        · rename_i y0 y0'
          exact h1
      · clear_value x4
        extract_lets +onlyGivenNames x5
        refine keep_bind (s0 := s0) x5 ?_ (fun h3 => ?_)
        · unfold x5; clear x5
          apply shadowFix_keep
          exact h2
        · clear_value x5
          refine keep_ite ?_ ?_
          · apply raise_keep
            exact h3
          · exact h3

theorem carrNow_keep {s0 : State} (s : State) (h_s : Keep s0 s) :
    Keep s0 (carrNow s) := by
  unfold carrNow
  refine keep_ite ?_ ?_
  · apply carrApply_keep
    exact h_s
  · exact h_s

theorem carrDue_keep {s0 : State} (m : Word) (s : State) (h_s : Keep s0 s) :
    Keep s0 (carrDue m s) := by
  unfold carrDue
  split
  · rename_i y0 y0' y0'' y0''' y0''''
    refine keep_ite ?_ ?_
    · exact h_s
    · refine keep_mk rfl rfl rfl rfl ?_
      exact h_s
  · rename_i y0 y0'
    exact h_s

theorem shadowValue_keep {s0 : State} (n q : Nat) (s : State) (h_s : Keep s0 s) :
    Keep s0 (shadowValue n q s) := by
  unfold shadowValue
  split
  · rename_i y0 y0' y0''
    split
    · rename_i y1 y1' y1''
      refine keep_mk rfl rfl rfl rfl ?_
      exact h_s
    · rename_i y1 y1'
      exact h_s
  · rename_i y0 y0'
    refine keep_ite ?_ ?_
    · refine keep_mk rfl rfl rfl rfl ?_
      exact h_s
    · exact h_s

theorem shadowLane_keep {s0 : State} (n l : Nat) (xs : List Int) (s : State) (h_s : Keep s0 s) :
    Keep s0 (shadowLane n l xs s) := by
  unfold shadowLane
  extract_lets +onlyGivenNames x0
  refine keep_ite ?_ ?_
  · apply shadowValue_keep
    refine keep_mk rfl rfl rfl rfl ?_
    exact h_s
  · refine keep_mk rfl rfl rfl rfl ?_
    exact h_s

theorem shadowFrame_keep {s0 : State} (shadow : List (List Int)) (overload : List Nat) (s : State) (h_s : Keep s0 s) :
    Keep s0 (shadowFrame shadow overload s) := by
  unfold shadowFrame
  refine keep_ite ?_ ?_
  · exact h_s
  · refine keep_foldl ?_ ?_
    · intro a0 a1 h0
      refine keep_ite ?_ ?_
      · refine keep_mk rfl rfl rfl rfl ?_
        exact h0
      · refine keep_ite ?_ ?_
        · exact h0
        · apply shadowLane_keep
          exact h0
    · exact h_s

theorem noisyStep_keep {s0 : State} (t fi : Nat) (s : State) (h_s : Keep s0 s) :
    Keep s0 (noisyStep t fi s).1 := by
  unfold noisyStep
  extract_lets +onlyGivenNames x0; clear_value x0
  refine keep_ite1 ?_ ?_
  · refine keep_pair1 ?_
    exact h_s
  · refine keep_ite1 ?_ ?_
    · refine keep_pair1 ?_
      apply raise_keep
      refine keep_mk rfl rfl rfl rfl ?_
      exact h_s
    · refine keep_ite1 ?_ ?_
      · refine keep_pair1 ?_
        refine keep_mk rfl rfl rfl rfl ?_
        exact h_s
      · refine keep_pair1 ?_
        exact h_s

theorem hopEvaluate_keep {s0 : State} (te : Nat) (cur cand : Option Half) (s : State) (h_s : Keep s0 s) :
    Keep s0 (hopEvaluate te cur cand s) := by
  unfold hopEvaluate
  refine keep_ite ?_ ?_
  · exact h_s
  · split
    rename_i y0 y0' y0'' y0'''
    extract_lets +onlyGivenNames x0; clear_value x0
    extract_lets +onlyGivenNames x1; clear_value x1
    extract_lets +onlyGivenNames x2
    refine keep_bind (s0 := s0) x2 ?_ (fun h0 => ?_)
    · unfold x2; clear x2
      refine keep_mk rfl rfl rfl rfl ?_
      exact h_s
    · clear_value x2
      split
      · rename_i y1 y1' y1'' y1''' y1''''
        refine keep_ite ?_ ?_
        · refine keep_mk rfl rfl rfl rfl ?_
          exact h0
        · exact h0
      · rename_i y1 y1' y1'' y1'''
        exact h0

theorem dwellStep_keep {s0 : State} (s : State) (h_s : Keep s0 s) :
    Keep s0 (dwellStep s) := by
  unfold dwellStep
  split
  · rename_i y0 y0'
    exact h_s
  · rename_i y0 y0' y0''
    refine keep_ite ?_ ?_
    · exact h_s
    · refine keep_ite ?_ ?_
      · apply shadowTo_keep
        exact h_s
      · refine keep_mk rfl rfl rfl rfl ?_
        exact h_s

theorem flickerFrame_keep {s0 : State} (t0 te : Nat) (listen : Nat × Nat) (s : State) (h_s : Keep s0 s) :
    Keep s0 (flickerFrame t0 te listen s).1 := by
  unfold flickerFrame
  extract_lets +onlyGivenNames x0; clear_value x0
  extract_lets +onlyGivenNames x1; clear_value x1
  extract_lets +onlyGivenNames x2; clear_value x2
  extract_lets +onlyGivenNames x3; clear_value x3
  extract_lets +onlyGivenNames x4; clear_value x4
  extract_lets +onlyGivenNames x5; clear_value x5
  extract_lets +onlyGivenNames x6; clear_value x6
  extract_lets +onlyGivenNames x7
  refine keep_bind (s0 := s0) x7 ?_ (fun h0 => ?_)
  · unfold x7; clear x7
    refine keep_mk rfl rfl rfl rfl ?_
    exact h_s
  · clear_value x7
    split
    rename_i y0 y0' y0'' y0'''
    refine keep_bind (s0 := s0) _ (keep_of1 y0''' ?_) (fun h1 => ?_)
    · split
      · rename_i y1 y1'
        apply noisyStep_keep
        exact h0
      · rename_i y1
        refine keep_pair1 ?_
        exact h0
    · refine keep_pair1 ?_
      apply dwellStep_keep
      apply hopEvaluate_keep
      exact h1

theorem carrRc_keep {s0 : State} (o : Nat) (s : State) (h_s : Keep s0 s) :
    Keep s0 (carrRc o s) := by
  unfold carrRc
  refine keep_ite ?_ ?_
  · refine keep_mk rfl rfl rfl rfl ?_
    exact h_s
  · exact h_s

theorem carrierTableBody_keep {s0 : State} (p : Packet) (s : State) (h_s : Keep s0 s) :
    Keep s0 (carrierTableBody p s).st := by
  unfold carrierTableBody
  extract_lets +onlyGivenNames x0; clear_value x0
  extract_lets +onlyGivenNames x1; clear_value x1
  extract_lets +onlyGivenNames x2; clear_value x2
  extract_lets +onlyGivenNames x3; clear_value x3
  extract_lets +onlyGivenNames x4
  extract_lets +onlyGivenNames x5; clear_value x5
  refine keep_iteC ?_ ?_
  · apply failCmd_keep
    exact h_s
  · extract_lets +onlyGivenNames x6; clear_value x6
    extract_lets +onlyGivenNames x7; clear_value x7
    extract_lets +onlyGivenNames x8; clear_value x8
    extract_lets +onlyGivenNames x9; clear_value x9
    extract_lets +onlyGivenNames x10; clear_value x10
    extract_lets +onlyGivenNames x11; clear_value x11
    apply checked_keep
    · exact h_s
    · intro a0
      refine keep_iteC ?_ ?_
      · apply okCmd_keep
        refine keep_mk rfl rfl rfl rfl ?_
        exact h_s
      · extract_lets +onlyGivenNames x12
        refine keep_bind (s0 := s0) x12 ?_ (fun h0 => ?_)
        · unfold x12; clear x12
          apply withShadow_keep
          exact h_s
        · clear_value x12
          extract_lets +onlyGivenNames x13; clear_value x13
          extract_lets +onlyGivenNames x14
          refine keep_bind (s0 := s0) x14 ?_ (fun h1 => ?_)
          · unfold x14; clear x14
            refine keep_mk rfl rfl rfl rfl ?_
            exact h0
          · clear_value x14
            apply okCmd_keep
            apply carrNow_keep
            exact h1

theorem hopPolicyBody_keep {s0 : State} (p : Packet) (s : State) (h_s : Keep s0 s) :
    Keep s0 (hopPolicyBody p s).st := by
  unfold hopPolicyBody
  extract_lets +onlyGivenNames x0; clear_value x0
  extract_lets +onlyGivenNames x1; clear_value x1
  extract_lets +onlyGivenNames x2; clear_value x2
  apply checked_keep
  · exact h_s
  · intro a0
    apply okCmd_keep
    apply carrNow_keep
    apply withShadow_keep
    exact h_s

theorem noiseSurveyBody_keep {s0 : State} (p : Packet) (s : State) (h_s : Keep s0 s) :
    Keep s0 (noiseSurveyBody p s).st := by
  unfold noiseSurveyBody
  extract_lets +onlyGivenNames x0; clear_value x0
  apply checked_keep
  · exact h_s
  · intro a0
    apply acceptCmd_keep
    refine keep_mk rfl rfl rfl rfl ?_
    exact h_s

theorem emberConfigBody_keep {s0 : State} (p : Packet) (s : State) (h_s : Keep s0 s) :
    Keep s0 (emberConfigBody p s).st := by
  unfold emberConfigBody
  extract_lets +onlyGivenNames x0; clear_value x0
  extract_lets +onlyGivenNames x1; clear_value x1
  extract_lets +onlyGivenNames x2; clear_value x2
  apply checked_keep
  · exact h_s
  · intro a0
    apply okCmd_keep
    apply withShadow_keep
    exact h_s

theorem execCarrierTable_keep {s0 : State} (p : Packet) (s : State) (h_s : Keep s0 s) :
    KeepO s0 (execCarrierTable p s) := by
  unfold execCarrierTable
  refine KeepO.next ?_
  apply runCommand_keep
  · intro a0 a1 h0
    apply carrierTableBody_keep
    exact h0
  · exact h_s

theorem execHopPolicy_keep {s0 : State} (p : Packet) (s : State) (h_s : Keep s0 s) :
    KeepO s0 (execHopPolicy p s) := by
  unfold execHopPolicy
  refine KeepO.next ?_
  apply runCommand_keep
  · intro a0 a1 h0
    apply hopPolicyBody_keep
    exact h0
  · exact h_s

theorem execNoiseSurvey_keep {s0 : State} (p : Packet) (s : State) (h_s : Keep s0 s) :
    KeepO s0 (execNoiseSurvey p s) := by
  unfold execNoiseSurvey
  refine KeepO.next ?_
  apply runCommand_keep
  · intro a0 a1 h0
    apply noiseSurveyBody_keep
    exact h0
  · exact h_s

theorem execEmberConfig_keep {s0 : State} (p : Packet) (s : State) (h_s : Keep s0 s) :
    KeepO s0 (execEmberConfig p s) := by
  unfold execEmberConfig
  refine KeepO.next ?_
  apply runCommand_keep
  · intro a0 a1 h0
    apply emberConfigBody_keep
    exact h0
  · exact h_s

theorem execNoiseSurveyDone_keep {s0 : State} (s : State) (h_s : Keep s0 s) :
    KeepO s0 (execNoiseSurveyDone s) := by
  unfold execNoiseSurveyDone
  split
  · rename_i y0 y0'
    refine KeepO.next ?_
    exact h_s
  · rename_i y0 y0' y0''
    split
    rename_i y1 y1' y1'' y1'''
    refine keep_bind (s0 := s0) _ (keep_of2 y1''' ?_) (fun h0 => ?_)
    · apply freshInt_keep
      exact h_s
    · extract_lets +onlyGivenNames x0; clear_value x0
      extract_lets +onlyGivenNames x1; clear_value x1
      extract_lets +onlyGivenNames x2; clear_value x2
      extract_lets +onlyGivenNames x3; clear_value x3
      extract_lets +onlyGivenNames x4; clear_value x4
      extract_lets +onlyGivenNames x5
      refine keep_bind (s0 := s0) x5 ?_ (fun h1 => ?_)
      · unfold x5; clear x5
        apply shadowFix_keep
        refine keep_mk rfl rfl rfl rfl ?_
        exact h0
      · clear_value x5
        refine KeepO.next ?_
        apply completeDeferred_keep
        exact h1

theorem execIdleListenFrame_keep {s0 : State} (u : List (Option Int)) (s : State) (h_s : Keep s0 s) :
    KeepO s0 (execIdleListenFrame u s) := by
  unfold execIdleListenFrame
  extract_lets +onlyGivenNames x0; clear_value x0
  refine KeepO.ite ?_ ?_
  · refine KeepO.next ?_
    exact h_s
  · split
    · rename_i y0 y0' y0''
      refine KeepO.ite ?_ ?_
      · refine KeepO.next ?_
        exact h_s
      · split
        · rename_i y1 y1'
          refine KeepO.next ?_
          exact h_s
        · rename_i y1 y1' y1''
          extract_lets +onlyGivenNames x1; clear_value x1
          refine KeepO.next ?_
          refine keep_mk rfl rfl rfl rfl ?_
          exact h_s
    · rename_i y0 y0'
      refine KeepO.ite ?_ ?_
      · refine KeepO.next ?_
        refine keep_foldl ?_ ?_
        · intro a0 a1 h0
          apply shadowValue_keep
          exact h0
        · exact h_s
      · refine KeepO.next ?_
        exact h_s

end Sys2Proof.Machine
end

