-- ==== Sys2Proof/Laws/KeepConv.lean ====
section
/-! SUPPORT. Every operation of Machine/Conv.lean keeps the queue and the canonical memories. -/
namespace Sys2Proof.Machine

open Sys2Proof

theorem convRc_keep {s0 : State} (o : Nat) (s : State) (h_s : Keep s0 s) :
    Keep s0 (convRc o s) := by
  unfold convRc
  refine keep_ite ?_ ?_
  · refine keep_mk rfl rfl rfl rfl ?_
    exact h_s
  · refine keep_ite ?_ ?_
    · apply modLane_keep
      exact h_s
    · exact h_s

theorem convChange_keep {s0 : State} (ws : List (Nat × Word)) (at1 : Bool) (e : Word) (s : State) (h_s : Keep s0 s) :
    Keep s0 (convChange ws at1 e s).st := by
  unfold convChange
  refine keep_iteC ?_ ?_
  · apply okCmd_keep
    refine keep_mk rfl rfl rfl rfl ?_
    exact h_s
  · apply okCmd_keep
    apply applyNow_keep
    apply withShadow_keep
    exact h_s

theorem convConfigBody_keep {s0 : State} (p : Packet) (s : State) (h_s : Keep s0 s) :
    Keep s0 (convConfigBody p s).st := by
  unfold convConfigBody
  extract_lets +onlyGivenNames x0; clear_value x0
  extract_lets +onlyGivenNames x1; clear_value x1
  extract_lets +onlyGivenNames x2; clear_value x2
  extract_lets +onlyGivenNames x3; clear_value x3
  extract_lets +onlyGivenNames x4; clear_value x4
  extract_lets +onlyGivenNames x5; clear_value x5
  extract_lets +onlyGivenNames x6; clear_value x6
  apply checked_keep
  · exact h_s
  · intro a0
    apply convChange_keep
    exact h_s

theorem filterSelectBody_keep {s0 : State} (p : Packet) (s : State) (h_s : Keep s0 s) :
    Keep s0 (filterSelectBody p s).st := by
  unfold filterSelectBody
  extract_lets +onlyGivenNames x0; clear_value x0
  extract_lets +onlyGivenNames x1; clear_value x1
  extract_lets +onlyGivenNames x2; clear_value x2
  extract_lets +onlyGivenNames x3; clear_value x3
  extract_lets +onlyGivenNames x4; clear_value x4
  extract_lets +onlyGivenNames x5; clear_value x5
  apply checked_keep
  · exact h_s
  · intro a0
    apply convChange_keep
    exact h_s

theorem convStartBody_keep {s0 : State} (p : Packet) (s : State) (h_s : Keep s0 s) :
    Keep s0 (convStartBody p s).st := by
  unfold convStartBody
  extract_lets +onlyGivenNames x0; clear_value x0
  extract_lets +onlyGivenNames x1; clear_value x1
  apply checked_keep
  · exact h_s
  · intro a0
    extract_lets +onlyGivenNames x2; clear_value x2
    extract_lets +onlyGivenNames x3; clear_value x3
    extract_lets +onlyGivenNames x4
    refine keep_bind (s0 := s0) x4 ?_ (fun h0 => ?_)
    · unfold x4; clear x4
      refine keep_foldl ?_ ?_
      · intro a1 a2 h0
        apply modLane_keep
        exact h0
      · exact h_s
    · clear_value x4
      apply okCmd_keep
      exact h0

theorem convStopBody_keep {s0 : State} (p : Packet) (s : State) (h_s : Keep s0 s) :
    Keep s0 (convStopBody p s).st := by
  unfold convStopBody
  extract_lets +onlyGivenNames x0; clear_value x0
  extract_lets +onlyGivenNames x1; clear_value x1
  apply checked_keep
  · exact h_s
  · intro a0
    extract_lets +onlyGivenNames x2; clear_value x2
    extract_lets +onlyGivenNames x3; clear_value x3
    extract_lets +onlyGivenNames x4
    refine keep_bind (s0 := s0) x4 ?_ (fun h0 => ?_)
    · unfold x4; clear x4
      refine keep_foldl ?_ ?_
      · intro a1 a2 h0
        apply modLane_keep
        exact h0
      · exact h_s
    · clear_value x4
      apply okCmd_keep
      exact h0

theorem decimSyncBody_keep {s0 : State} (p : Packet) (s : State) (h_s : Keep s0 s) :
    Keep s0 (decimSyncBody p s).st := by
  unfold decimSyncBody
  apply checked_keep
  · exact h_s
  · intro a0
    extract_lets +onlyGivenNames x0; clear_value x0
    apply okCmd_keep
    refine keep_mk rfl rfl rfl rfl ?_
    exact h_s

theorem threshSetBody_keep {s0 : State} (p : Packet) (s : State) (h_s : Keep s0 s) :
    Keep s0 (threshSetBody p s).st := by
  unfold threshSetBody
  extract_lets +onlyGivenNames x0; clear_value x0
  extract_lets +onlyGivenNames x1; clear_value x1
  apply checked_keep
  · exact h_s
  · intro a0
    apply convChange_keep
    exact h_s

theorem onsetConfigBody_keep {s0 : State} (p : Packet) (s : State) (h_s : Keep s0 s) :
    Keep s0 (onsetConfigBody p s).st := by
  unfold onsetConfigBody
  extract_lets +onlyGivenNames x0; clear_value x0
  extract_lets +onlyGivenNames x1; clear_value x1
  extract_lets +onlyGivenNames x2; clear_value x2
  extract_lets +onlyGivenNames x3; clear_value x3
  apply checked_keep
  · exact h_s
  · intro a0
    apply convChange_keep
    exact h_s

theorem execConvConfig_keep {s0 : State} (p : Packet) (s : State) (h_s : Keep s0 s) :
    KeepO s0 (execConvConfig p s) := by
  unfold execConvConfig
  refine KeepO.next ?_
  apply runCommand_keep
  · intro a0 a1 h0
    apply convConfigBody_keep
    exact h0
  · exact h_s

theorem execFilterSelect_keep {s0 : State} (p : Packet) (s : State) (h_s : Keep s0 s) :
    KeepO s0 (execFilterSelect p s) := by
  unfold execFilterSelect
  refine KeepO.next ?_
  apply runCommand_keep
  · intro a0 a1 h0
    apply filterSelectBody_keep
    exact h0
  · exact h_s

theorem execConvStart_keep {s0 : State} (p : Packet) (s : State) (h_s : Keep s0 s) :
    KeepO s0 (execConvStart p s) := by
  unfold execConvStart
  refine KeepO.next ?_
  apply runCommand_keep
  · intro a0 a1 h0
    apply convStartBody_keep
    exact h0
  · exact h_s

theorem execConvStop_keep {s0 : State} (p : Packet) (s : State) (h_s : Keep s0 s) :
    KeepO s0 (execConvStop p s) := by
  unfold execConvStop
  refine KeepO.next ?_
  apply runCommand_keep
  · intro a0 a1 h0
    apply convStopBody_keep
    exact h0
  · exact h_s

theorem execDecimSync_keep {s0 : State} (p : Packet) (s : State) (h_s : Keep s0 s) :
    KeepO s0 (execDecimSync p s) := by
  unfold execDecimSync
  refine KeepO.next ?_
  apply runCommand_keep
  · intro a0 a1 h0
    apply decimSyncBody_keep
    exact h0
  · exact h_s

theorem execThreshSet_keep {s0 : State} (p : Packet) (s : State) (h_s : Keep s0 s) :
    KeepO s0 (execThreshSet p s) := by
  unfold execThreshSet
  refine KeepO.next ?_
  apply runCommand_keep
  · intro a0 a1 h0
    apply threshSetBody_keep
    exact h0
  · exact h_s

theorem execOnsetConfig_keep {s0 : State} (p : Packet) (s : State) (h_s : Keep s0 s) :
    KeepO s0 (execOnsetConfig p s) := by
  unfold execOnsetConfig
  refine KeepO.next ?_
  apply runCommand_keep
  · intro a0 a1 h0
    apply onsetConfigBody_keep
    exact h0
  · exact h_s

theorem convEvent_keep {s0 : State} (sel : Nat → Bool) (e : Nat) (s : State) (h_s : Keep s0 s) :
    Keep s0 (convEvent sel e s) := by
  unfold convEvent
  refine keep_foldl ?_ ?_
  · intro a0 a1 h0
    refine keep_ite ?_ ?_
    · extract_lets +onlyGivenNames x0; clear_value x0
      apply modLane_keep
      exact h0
    · exact h0
  · exact h_s

theorem execConvIntervalEvent_keep {s0 : State} (s : State) (h_s : Keep s0 s) :
    KeepO s0 (execConvIntervalEvent s) := by
  unfold execConvIntervalEvent
  extract_lets +onlyGivenNames x0; clear_value x0
  split
  · rename_i y0 y0'
    refine KeepO.next ?_
    exact h_s
  · rename_i y0 y0' y0''
    refine KeepO.ite ?_ ?_
    · refine KeepO.next ?_
      exact h_s
    · extract_lets +onlyGivenNames x1; clear_value x1
      extract_lets +onlyGivenNames x2; clear_value x2
      extract_lets +onlyGivenNames x3; clear_value x3
      extract_lets +onlyGivenNames x4
      refine keep_bind (s0 := s0) x4 ?_ (fun h0 => ?_)
      · unfold x4; clear x4
        apply advanceTo_keep
        refine keep_mk rfl rfl rfl rfl ?_
        exact h_s
      · clear_value x4
        refine KeepO.next ?_
        apply convEvent_keep
        exact h0

theorem execModOverload_keep {s0 : State} (lane : Fin 32) (negative : Bool) (s : State) (h_s : Keep s0 s) :
    KeepO s0 (execModOverload lane negative s) := by
  unfold execModOverload
  refine KeepO.ite ?_ ?_
  · refine KeepO.next ?_
    exact h_s
  · extract_lets +onlyGivenNames x0; clear_value x0
    refine KeepO.next ?_
    apply raise_keep
    apply modLane_keep
    exact h_s

theorem execModUnlock_keep {s0 : State} (s : State) (h_s : Keep s0 s) :
    KeepO s0 (execModUnlock s) := by
  unfold execModUnlock
  refine KeepO.ite ?_ ?_
  · refine KeepO.next ?_
    exact h_s
  · refine KeepO.next ?_
    apply raise_keep
    refine keep_mk rfl rfl rfl rfl ?_
    exact h_s

theorem trimmedValue_keep {s0 : State} (f : RegFile) (trim : BitVec 10 × BitVec 10) (n : Nat) (v : Int) (s : State) (h_s : Keep s0 s) :
    Keep s0 (trimmedValue f trim n v s).2 := by
  unfold trimmedValue
  extract_lets +onlyGivenNames x0; clear_value x0
  extract_lets +onlyGivenNames x1; clear_value x1
  extract_lets +onlyGivenNames x2; clear_value x2
  apply freeDiv_keep
  exact h_s

theorem convRaise_keep {s0 : State} (n : Nat) (cls0 : Bool) (entry : List Byte) (s : State) (h_s : Keep s0 s) :
    Keep s0 (convRaise n cls0 entry s) := by
  unfold convRaise
  extract_lets +onlyGivenNames x0; clear_value x0
  extract_lets +onlyGivenNames x1
  refine keep_bind (s0 := s0) x1 ?_ (fun h0 => ?_)
  · unfold x1; clear x1
    refine keep_mk rfl rfl rfl rfl ?_
    exact h_s
  · clear_value x1
    refine keep_ite ?_ ?_
    · apply pushAlarm_keep
      exact h0
    · exact h0

theorem onsetEntry_keep {s0 : State} (n start j : Nat) (cls0 : Bool) (sta lta : Nat) (ds : List Nat) (s : State) (h_s : Keep s0 s) :
    Keep s0 (onsetEntry n start j cls0 sta lta ds s).2 := by
  unfold onsetEntry
  extract_lets +onlyGivenNames x0; clear_value x0
  split
  rename_i y0 y0' y0'' y0'''
  extract_lets +onlyGivenNames x1; clear_value x1
  extract_lets +onlyGivenNames x2; clear_value x2
  split
  rename_i y1 y1' y1'' y1'''
  refine keep_bind (s0 := s0) _ (keep_of2 y1''' ?_) (fun h0 => ?_)
  · apply freshInt_keep
    exact h_s
  · extract_lets +onlyGivenNames x3; clear_value x3
    extract_lets +onlyGivenNames x4
    refine keep_bind (s0 := s0) x4 ?_ (fun h1 => ?_)
    · unfold x4; clear x4
      refine keep_ite ?_ ?_
      · exact h0
      · exact h_s
    · clear_value x4
      split
      · rename_i y2 y2' y2'' y2'''
        extract_lets +onlyGivenNames x5; clear_value x5
        extract_lets +onlyGivenNames x6; clear_value x6
        refine keep_pair2 ?_
        exact h1
      · rename_i y2 y2'
        split
        rename_i y3 y3' y3'' y3'''
        refine keep_bind (s0 := s0) _ (keep_of2 y3''' ?_) (fun h2 => ?_)
        · apply freshInt_keep
          exact h1
        · split
          rename_i y4 y4' y4'' y4'''
          refine keep_bind (s0 := s0) _ (keep_of2 y4''' ?_) (fun h3 => ?_)
          · apply freshInt_keep
            exact h2
          · refine keep_pair2 ?_
            exact h3

theorem acquireSample_keep {s0 : State} (n t start j : Nat) (x0 : SampleInput) (settling first : Bool) (s : State) (h_s : Keep s0 s) :
    Keep s0 (acquireSample n t start j x0 settling first s).2 := by
  unfold acquireSample
  extract_lets +onlyGivenNames x1
  extract_lets +onlyGivenNames x2
  extract_lets +onlyGivenNames x3
  extract_lets +onlyGivenNames x4; clear_value x4
  extract_lets +onlyGivenNames x5; clear_value x5
  extract_lets +onlyGivenNames x6; clear_value x6
  split
  rename_i y0 y0' y0'' y0'''
  refine keep_bind (s0 := s0) _ (keep_of2 y0''' ?_) (fun h0 => ?_)
  · apply trimmedValue_keep
    exact h_s
  · extract_lets +onlyGivenNames x7; clear_value x7
    extract_lets +onlyGivenNames x8; clear_value x8
    extract_lets +onlyGivenNames x9; clear_value x9
    extract_lets +onlyGivenNames x10; clear_value x10
    extract_lets +onlyGivenNames x11; clear_value x11
    extract_lets +onlyGivenNames x12; clear_value x12
    extract_lets +onlyGivenNames x13; clear_value x13
    extract_lets +onlyGivenNames x14; clear_value x14
    extract_lets +onlyGivenNames x15; clear_value x15
    extract_lets +onlyGivenNames x16; clear_value x16
    extract_lets +onlyGivenNames x17; clear_value x17
    split
    rename_i y1 y1' y1'' y1'''
    extract_lets +onlyGivenNames x18; clear_value x18
    extract_lets +onlyGivenNames x19; clear_value x19
    extract_lets +onlyGivenNames x20; clear_value x20
    extract_lets +onlyGivenNames x21
    refine keep_bind (s0 := s0) x21 ?_ (fun h1 => ?_)
    · unfold x21; clear x21
      apply modLane_keep
      exact h0
    · clear_value x21
      extract_lets +onlyGivenNames x22
      refine keep_bindP (P := ∀ a0 a1 a2, Keep s0 a2 → Keep s0 (x22 a0 a1 a2)) ?_ (fun h2 => ?_)
      · unfold x22; clear x22
        intro a0 a1 a2 h2
        split
        · rename_i y2 y2'
          extract_lets +onlyGivenNames x22; clear_value x22
          apply convRaise_keep
          exact h2
        · rename_i y2
          exact h2
      · clear_value x22
        extract_lets +onlyGivenNames x23
        refine keep_bind (s0 := s0) x23 ?_ (fun h3 => ?_)
        · unfold x23; clear x23
          apply h2
          apply h2
          exact h1
        · clear_value x23
          split
          · rename_i y2 y2' y2''
            extract_lets +onlyGivenNames x24; clear_value x24
            split
            rename_i y3 y3' y3'' y3'''
            refine keep_bind (s0 := s0) _ (keep_of2 y3''' ?_) (fun h4 => ?_)
            · apply onsetEntry_keep
              exact h3
            · refine keep_pair2 ?_
              apply convRaise_keep
              exact h4
          · rename_i y2
            refine keep_pair2 ?_
            exact h3

theorem laneAfter_keep {s0 : State} (n t : Nat) (sat : Bool) (s : State) (h_s : Keep s0 s) :
    Keep s0 (laneAfter n t sat s) := by
  unfold laneAfter
  extract_lets +onlyGivenNames x0; clear_value x0
  extract_lets +onlyGivenNames x1; clear_value x1
  extract_lets +onlyGivenNames x2; clear_value x2
  extract_lets +onlyGivenNames x3
  refine keep_bind (s0 := s0) x3 ?_ (fun h0 => ?_)
  · unfold x3; clear x3
    apply modLane_keep
    exact h_s
  · clear_value x3
    refine keep_ite ?_ ?_
    · refine keep_mk rfl rfl rfl rfl ?_
      exact h0
    · exact h0

theorem takeCheck_keep {s0 : State} (n : Nat) (s : State) (h_s : Keep s0 s) :
    Keep s0 (takeCheck n s) := by
  unfold takeCheck
  refine keep_ite ?_ ?_
  · extract_lets +onlyGivenNames x0; clear_value x0
    extract_lets +onlyGivenNames x1; clear_value x1
    apply settleLane_keep
    refine keep_mk rfl rfl rfl rfl ?_
    exact h_s
  · exact h_s

theorem takeRestart_keep {s0 : State} (n : Nat) (s : State) (h_s : Keep s0 s) :
    Keep s0 (takeRestart n s) := by
  unfold takeRestart
  refine keep_ite ?_ ?_
  · apply settleLane_keep
    apply modLane_keep
    exact h_s
  · exact h_s

theorem laneInstant_keep {s0 : State} (t start j : Nat) (x0 : SampleInput) (s : State) (h_s : Keep s0 s) :
    Keep s0 (laneInstant t start j x0 s).2 := by
  unfold laneInstant
  extract_lets +onlyGivenNames x1; clear_value x1
  extract_lets +onlyGivenNames x2
  refine keep_bind (s0 := s0) x2 ?_ (fun h0 => ?_)
  · unfold x2; clear x2
    apply takeRestart_keep
    apply takeCheck_keep
    exact h_s
  · clear_value x2
    split
    rename_i y0 y0' y0'' y0''' y0''''
    extract_lets +onlyGivenNames x3; clear_value x3
    extract_lets +onlyGivenNames x4; clear_value x4
    extract_lets +onlyGivenNames x5; clear_value x5
    extract_lets +onlyGivenNames x6
    refine keep_bind (s0 := s0) x6 ?_ (fun h1 => ?_)
    · unfold x6; clear x6
      apply modLane_keep
      exact h0
    · clear_value x6
      extract_lets +onlyGivenNames x7; clear_value x7
      extract_lets +onlyGivenNames x8
      refine keep_bind (s0 := s0) x8 ?_ (fun h2 => ?_)
      · unfold x8; clear x8
        refine keep_mk rfl rfl rfl rfl ?_
        exact h1
      · clear_value x8
        refine keep_ite2 ?_ ?_
        · split
          rename_i y1 y1' y1'' y1'''
          refine keep_bind (s0 := s0) _ (keep_of2 y1''' ?_) (fun h3 => ?_)
          · apply acquireSample_keep
            exact h2
          · refine keep_pair2 ?_
            apply laneAfter_keep
            exact h3
        · refine keep_pair2 ?_
          apply laneAfter_keep
          exact h2

theorem closeBlock_keep {s0 : State} (k : Fin 16) (b : BlockRun) (s : State) (h_s : Keep s0 s) :
    Keep s0 (closeBlock k b s) := by
  unfold closeBlock
  extract_lets +onlyGivenNames x0
  refine keep_bind (s0 := s0) x0 ?_ (fun h0 => ?_)
  · unfold x0; clear x0
    apply modStream_keep
    exact h_s
  · clear_value x0
    refine keep_ite ?_ ?_
    · apply putRecord_keep
      exact h0
    · exact h0

theorem blockTake_keep {s0 : State} (k : Fin 16) (r key t j : Nat) (e : Word) (ws : List (Nat × Nat)) (s : State) (h_s : Keep s0 s) :
    Keep s0 (blockTake k r key t j e ws s) := by
  unfold blockTake
  extract_lets +onlyGivenNames x0; clear_value x0
  extract_lets +onlyGivenNames x1; clear_value x1
  extract_lets +onlyGivenNames x2; clear_value x2
  extract_lets +onlyGivenNames x3; clear_value x3
  extract_lets +onlyGivenNames x4; clear_value x4
  extract_lets +onlyGivenNames x5
  refine keep_bind (s0 := s0) x5 ?_ (fun h0 => ?_)
  · unfold x5; clear x5
    refine keep_foldl ?_ ?_
    · intro a0 a1 h0
      apply closeBlock_keep
      exact h0
    · exact h_s
  · clear_value x5
    extract_lets +onlyGivenNames x6; clear_value x6
    extract_lets +onlyGivenNames x7; clear_value x7
    extract_lets +onlyGivenNames x8; clear_value x8
    extract_lets +onlyGivenNames x9; clear_value x9
    extract_lets +onlyGivenNames x10; clear_value x10
    extract_lets +onlyGivenNames x11
    refine keep_bind (s0 := s0) x11 ?_ (fun h1 => ?_)
    · unfold x11; clear x11
      apply modStream_keep
      exact h0
    · clear_value x11
      refine keep_ite ?_ ?_
      · apply closeBlock_keep
        exact h1
      · exact h1

theorem closeGaps_keep {s0 : State} (k : Fin 16) (r j : Nat) (keys : List Nat) (s : State) (h_s : Keep s0 s) :
    Keep s0 (closeGaps k r j keys s) := by
  unfold closeGaps
  refine keep_foldl ?_ ?_
  · intro a0 a1 h0
    apply closeBlock_keep
    exact h0
  · exact h_s

theorem streamWords_keep {s0 : State} (r t j : Nat) (e : Word) (ws : List (Nat × Nat)) (s : State) (h_s : Keep s0 s) :
    Keep s0 (streamWords r t j e ws s) := by
  unfold streamWords
  refine keep_foldl ?_ ?_
  · intro a0 a1 h0
    refine keep_ite ?_ ?_
    · extract_lets +onlyGivenNames x0; clear_value x0
      extract_lets +onlyGivenNames x1; clear_value x1
      extract_lets +onlyGivenNames x2; clear_value x2
      extract_lets +onlyGivenNames x3
      refine keep_bind (s0 := s0) x3 ?_ (fun h1 => ?_)
      · unfold x3; clear x3
        refine keep_foldl ?_ ?_
        · intro a2 a3 h1
          apply blockTake_keep
          exact h1
        · exact h0
      · clear_value x3
        apply closeGaps_keep
        exact h1
    · exact h0
  · exact h_s

theorem closeLast_keep {s0 : State} (r : Nat) (s : State) (h_s : Keep s0 s) :
    Keep s0 (closeLast r s) := by
  unfold closeLast
  refine keep_foldl ?_ ?_
  · intro a0 a1 h0
    refine keep_foldl ?_ ?_
    · intro a2 a3 h1
      apply closeBlock_keep
      exact h1
    · exact h0
  · exact h_s

theorem execBridgeSample_keep {s0 : State} (r : Fin 16) (x : List SampleInput) (s : State) (h_s : Keep s0 s) :
    KeepO s0 (execBridgeSample r x s) := by
  unfold execBridgeSample
  split
  · rename_i y0 y0' y0'' y0''' y0'''' y0'''''
    extract_lets +onlyGivenNames x0; clear_value x0
    extract_lets +onlyGivenNames x1; clear_value x1
    extract_lets +onlyGivenNames x2; clear_value x2
    refine KeepO.ite ?_ ?_
    · refine KeepO.next ?_
      exact h_s
    · extract_lets +onlyGivenNames x3; clear_value x3
      extract_lets +onlyGivenNames x4; clear_value x4
      extract_lets +onlyGivenNames x5
      refine keep_bind (s0 := s0) x5 ?_ (fun h0 => ?_)
      · unfold x5; clear x5
        apply advanceTo_keep
        exact h_s
      · clear_value x5
        split
        rename_i y1 y1' y1'' y1'''
        refine keep_bind (s0 := s0) _ (keep_of2 y1''' ?_) (fun h1 => ?_)
        · refine keep_foldl2 ?_ ?_
          · intro a0 a1 h1
            extract_lets +onlyGivenNames x6; clear_value x6
            split
            · rename_i y2 y2' y2'' y2'''
              refine keep_bind (s0 := s0) _ (keep_of2 y2''' ?_) (fun h2 => ?_)
              · apply laneInstant_keep
                exact h1
              · refine keep_pair2 ?_
                exact h2
            · rename_i y2 y2' y2''
              refine keep_bind (s0 := s0) _ (keep_of2 y2'' ?_) (fun h2 => ?_)
              · apply laneInstant_keep
                exact h1
              · refine keep_pair2 ?_
                exact h2
          · refine keep_pair2 ?_
            exact h0
        · extract_lets +onlyGivenNames x6
          refine keep_bind (s0 := s0) x6 ?_ (fun h2 => ?_)
          · unfold x6; clear x6
            apply streamWords_keep
            exact h1
          · clear_value x6
            refine KeepO.next ?_
            refine keep_ite ?_ ?_
            · apply closeLast_keep
              exact h2
            · exact h2
  · rename_i y0 y0' y0''
    refine KeepO.next ?_
    exact h_s

theorem convDue_keep {s0 : State} (m : Word) (s : State) (h_s : Keep s0 s) :
    Keep s0 (convDue m s) := by
  unfold convDue
  split
  · rename_i y0 y0' y0'' y0'''
    refine keep_ite ?_ ?_
    · exact h_s
    · refine keep_mk rfl rfl rfl rfl ?_
      exact h_s
  · rename_i y0 y0'
    exact h_s

theorem convCloseEpoch_keep {s0 : State} (e : Word) (s : State) (h_s : Keep s0 s) :
    Keep s0 (convCloseEpoch e s) := by
  unfold convCloseEpoch
  extract_lets +onlyGivenNames x0; clear_value x0
  extract_lets +onlyGivenNames x1; clear_value x1
  extract_lets +onlyGivenNames x2
  refine keep_bind (s0 := s0) x2 ?_ (fun h0 => ?_)
  · unfold x2; clear x2
    refine keep_mk rfl rfl rfl rfl ?_
    exact h_s
  · clear_value x2
    refine keep_foldl ?_ ?_
    · intro a0 a1 h1
      extract_lets +onlyGivenNames x3
      refine keep_bind (s0 := s0) x3 ?_ (fun h2 => ?_)
      · unfold x3; clear x3
        refine keep_foldl ?_ ?_
        · intro a2 a3 h2
          apply closeBlock_keep
          exact h2
        · exact h1
      · clear_value x3
        refine keep_ite ?_ ?_
        · extract_lets +onlyGivenNames x4; clear_value x4
          extract_lets +onlyGivenNames x5; clear_value x5
          refine keep_foldl ?_ ?_
          · intro a2 a3 h3
            apply putRecord_keep
            exact h3
          · exact h2
        · exact h2
    · exact h0

theorem laneStart_keep {s0 : State} (n tb : Nat) (s : State) (h_s : Keep s0 s) :
    Keep s0 (laneStart n tb s) := by
  unfold laneStart
  extract_lets +onlyGivenNames x0; clear_value x0
  apply modLane_keep
  exact h_s

theorem laneStop_keep {s0 : State} (n : Nat) (s : State) (h_s : Keep s0 s) :
    Keep s0 (laneStop n s) := by
  unfold laneStop
  extract_lets +onlyGivenNames x0
  refine keep_bind (s0 := s0) x0 ?_ (fun h0 => ?_)
  · unfold x0; clear x0
    apply modLane_keep
    exact h_s
  · clear_value x0
    extract_lets +onlyGivenNames x1; clear_value x1
    extract_lets +onlyGivenNames x2
    refine keep_bind (s0 := s0) x2 ?_ (fun h1 => ?_)
    · unfold x2; clear x2
      refine keep_mk rfl rfl rfl rfl ?_
      exact h0
    · clear_value x2
      refine keep_ite ?_ ?_
      · refine keep_mk rfl rfl rfl rfl ?_
        exact h1
      · exact h1

theorem laneChange_keep {s0 : State} (old : RegFile) (n tb : Nat) (s : State) (h_s : Keep s0 s) :
    Keep s0 (laneChange old n tb s) := by
  unfold laneChange
  extract_lets +onlyGivenNames x0; clear_value x0
  extract_lets +onlyGivenNames x1; clear_value x1
  extract_lets +onlyGivenNames x2; clear_value x2
  extract_lets +onlyGivenNames x3; clear_value x3
  extract_lets +onlyGivenNames x4; clear_value x4
  extract_lets +onlyGivenNames x5; clear_value x5
  extract_lets +onlyGivenNames x6; clear_value x6
  extract_lets +onlyGivenNames x7; clear_value x7
  apply modLane_keep
  exact h_s

theorem allLaneReset_keep {s0 : State} (code : Nat) (m : Word) (tb : Nat) (s : State) (h_s : Keep s0 s) :
    Keep s0 (allLaneReset code m tb s) := by
  unfold allLaneReset
  extract_lets +onlyGivenNames x0; clear_value x0
  refine keep_ite ?_ ?_
  · exact h_s
  · extract_lets +onlyGivenNames x1; clear_value x1
    extract_lets +onlyGivenNames x2; clear_value x2
    extract_lets +onlyGivenNames x3
    refine keep_bind (s0 := s0) x3 ?_ (fun h0 => ?_)
    · unfold x3; clear x3
      refine keep_foldl ?_ ?_
      · intro a0 a1 h0
        extract_lets +onlyGivenNames x3; clear_value x3
        apply modLane_keep
        exact h0
      · exact h_s
    · clear_value x3
      refine keep_mk rfl rfl rfl rfl ?_
      exact h0

theorem convBoundary_keep {s0 : State} (m : Word) (tb : Nat) (old : RegFile) (halted : Bool) (s : State) (h_s : Keep s0 s) :
    Keep s0 (convBoundary m tb old halted s) := by
  unfold convBoundary
  extract_lets +onlyGivenNames x0
  refine keep_bind (s0 := s0) x0 ?_ (fun h0 => ?_)
  · unfold x0; clear x0
    refine keep_foldl ?_ ?_
    · intro a0 a1 h0
      apply laneChange_keep
      exact h0
    · exact h_s
  · clear_value x0
    extract_lets +onlyGivenNames x1; clear_value x1
    extract_lets +onlyGivenNames x2
    refine keep_bind (s0 := s0) x2 ?_ (fun h1 => ?_)
    · unfold x2; clear x2
      refine keep_foldl ?_ ?_
      · intro a0 a1 h1
        refine keep_ite ?_ ?_
        · apply laneStop_keep
          exact h1
        · exact h1
      · exact h0
    · clear_value x2
      extract_lets +onlyGivenNames x3; clear_value x3
      extract_lets +onlyGivenNames x4; clear_value x4
      extract_lets +onlyGivenNames x5
      refine keep_bind (s0 := s0) x5 ?_ (fun h2 => ?_)
      · unfold x5; clear x5
        refine keep_mk rfl rfl rfl rfl ?_
        exact h1
      · clear_value x5
        extract_lets +onlyGivenNames x6
        refine keep_bind (s0 := s0) x6 ?_ (fun h3 => ?_)
        · unfold x6; clear x6
          refine keep_ite ?_ ?_
          · refine keep_foldl ?_ ?_
            · intro a0 a1 h3
              extract_lets +onlyGivenNames x6; clear_value x6
              apply modLane_keep
              exact h3
            · exact h2
          · exact h2
        · clear_value x6
          extract_lets +onlyGivenNames x7
          refine keep_bind (s0 := s0) x7 ?_ (fun h4 => ?_)
          · unfold x7; clear x7
            refine keep_foldl ?_ ?_
            · intro a0 a1 h4
              refine keep_ite ?_ ?_
              · apply laneStart_keep
                exact h4
              · exact h4
            · exact h3
          · clear_value x7
            extract_lets +onlyGivenNames x8; clear_value x8
            extract_lets +onlyGivenNames x9; clear_value x9
            extract_lets +onlyGivenNames x10; clear_value x10
            extract_lets +onlyGivenNames x11; clear_value x11
            extract_lets +onlyGivenNames x12
            refine keep_bind (s0 := s0) x12 ?_ (fun h5 => ?_)
            · unfold x12; clear x12
              refine keep_mk rfl rfl rfl rfl ?_
              exact h4
            · clear_value x12
              extract_lets +onlyGivenNames x13
              refine keep_bind (s0 := s0) x13 ?_ (fun h6 => ?_)
              · unfold x13; clear x13
                refine keep_ite ?_ ?_
                · apply allLaneReset_keep
                  exact h5
                · refine keep_ite ?_ ?_
                  · apply allLaneReset_keep
                    exact h5
                  · refine keep_ite ?_ ?_
                    · apply allLaneReset_keep
                      exact h5
                    · exact h5
              · clear_value x13
                apply convEvent_keep
                exact h6

theorem convPowerOff_keep {s0 : State} (s : State) (h_s : Keep s0 s) :
    Keep s0 (convPowerOff s) := by
  unfold convPowerOff
  extract_lets +onlyGivenNames x0
  refine keep_bind (s0 := s0) x0 ?_ (fun h0 => ?_)
  · unfold x0; clear x0
    refine keep_foldl ?_ ?_
    · intro a0 a1 h0
      refine keep_ite ?_ ?_
      · apply laneStop_keep
        exact h0
      · exact h0
    · exact h_s
  · clear_value x0
    refine keep_mk rfl rfl rfl rfl ?_
    exact h0

theorem convRestart_keep {s0 : State} (s : State) (h_s : Keep s0 s) :
    Keep s0 (convRestart s) := by
  unfold convRestart
  extract_lets +onlyGivenNames x0; clear_value x0
  extract_lets +onlyGivenNames x1; clear_value x1
  extract_lets +onlyGivenNames x2
  refine keep_bind (s0 := s0) x2 ?_ (fun h0 => ?_)
  · unfold x2; clear x2
    refine keep_mk rfl rfl rfl rfl ?_
    exact h_s
  · clear_value x2
    refine keep_ite ?_ ?_
    · apply allLaneReset_keep
      exact h0
    · exact h0

theorem syncReset_keep {s0 : State} (t : Long) (s : State) (h_s : Keep s0 s) :
    Keep s0 (syncReset t s) := by
  unfold syncReset
  split
  · rename_i y0 y0' y0''
    apply raise_keep
    refine keep_mk rfl rfl rfl rfl ?_
    exact h_s
  · rename_i y0 y0'
    extract_lets +onlyGivenNames x0; clear_value x0
    refine keep_mk rfl rfl rfl rfl ?_
    exact h_s

end Sys2Proof.Machine
end

