-- ==== Sys2Proof/Laws/KeepGrid.lean ====
section
/-! SUPPORT. Every operation of Machine/Grid.lean keeps the queue and the canonical memories. -/
namespace Sys2Proof.Machine

open Sys2Proof

theorem gridConfigBody_keep {s0 : State} (p : Packet) (s : State) (h_s : Keep s0 s) :
    Keep s0 (gridConfigBody p s).st := by
  unfold gridConfigBody
  extract_lets +onlyGivenNames x0; clear_value x0
  extract_lets +onlyGivenNames x1; clear_value x1
  refine keep_iteC ?_ ?_
  · apply failCmd_keep
    exact h_s
  · extract_lets +onlyGivenNames x2; clear_value x2
    extract_lets +onlyGivenNames x3; clear_value x3
    extract_lets +onlyGivenNames x4; clear_value x4
    apply checked_keep
    · exact h_s
    · intro a0
      apply okCmd_keep
      apply applyNow_keep
      apply withShadow_keep
      exact h_s

theorem regionDefineBody_keep {s0 : State} (p : Packet) (s : State) (h_s : Keep s0 s) :
    Keep s0 (regionDefineBody p s).st := by
  unfold regionDefineBody
  extract_lets +onlyGivenNames x0; clear_value x0
  extract_lets +onlyGivenNames x1; clear_value x1
  extract_lets +onlyGivenNames x2; clear_value x2
  extract_lets +onlyGivenNames x3; clear_value x3
  apply checked_keep
  · exact h_s
  · intro a0
    apply okCmd_keep
    apply applyNow_keep
    apply applyNow_keep
    apply withShadow_keep
    exact h_s

theorem drivePlanBody_keep {s0 : State} (p : Packet) (s : State) (h_s : Keep s0 s) :
    Keep s0 (drivePlanBody p s).st := by
  unfold drivePlanBody
  extract_lets +onlyGivenNames x0; clear_value x0
  extract_lets +onlyGivenNames x1; clear_value x1
  apply checked_keep
  · exact h_s
  · intro a0
    apply okCmd_keep
    apply applyNow_keep
    apply withShadow_keep
    exact h_s

theorem selfcapConfigBody_keep {s0 : State} (p : Packet) (s : State) (h_s : Keep s0 s) :
    Keep s0 (selfcapConfigBody p s).st := by
  unfold selfcapConfigBody
  extract_lets +onlyGivenNames x0; clear_value x0
  extract_lets +onlyGivenNames x1; clear_value x1
  extract_lets +onlyGivenNames x2; clear_value x2
  extract_lets +onlyGivenNames x3; clear_value x3
  apply checked_keep
  · exact h_s
  · intro a0
    apply okCmd_keep
    apply applyNow_keep
    apply withShadow_keep
    exact h_s

theorem gridStartBody_keep {s0 : State} (p : Packet) (s : State) (h_s : Keep s0 s) :
    Keep s0 (gridStartBody p s).st := by
  unfold gridStartBody
  extract_lets +onlyGivenNames x0; clear_value x0
  extract_lets +onlyGivenNames x1
  extract_lets +onlyGivenNames x2; clear_value x2
  apply checked_keep
  · exact h_s
  · intro a0
    extract_lets +onlyGivenNames x3; clear_value x3
    apply okCmd_keep
    refine keep_mk rfl rfl rfl rfl ?_
    exact h_s

theorem gridStopBody_keep {s0 : State} (p : Packet) (s : State) (h_s : Keep s0 s) :
    Keep s0 (gridStopBody p s).st := by
  unfold gridStopBody
  extract_lets +onlyGivenNames x0; clear_value x0
  extract_lets +onlyGivenNames x1; clear_value x1
  apply checked_keep
  · exact h_s
  · intro a0
    apply okCmd_keep
    refine keep_mk rfl rfl rfl rfl ?_
    exact h_s

theorem captureReferenceBody_keep {s0 : State} (p : Packet) (s : State) (h_s : Keep s0 s) :
    Keep s0 (captureReferenceBody p s).st := by
  unfold captureReferenceBody
  apply checked_keep
  · exact h_s
  · intro a0
    apply acceptCmd_keep
    refine keep_mk rfl rfl rfl rfl ?_
    exact h_s

theorem readFrameBody_keep {s0 : State} (p : Packet) (s : State) (h_s : Keep s0 s) :
    Keep s0 (readFrameBody p s).st := by
  unfold readFrameBody
  extract_lets +onlyGivenNames x0; clear_value x0
  extract_lets +onlyGivenNames x1; clear_value x1
  extract_lets +onlyGivenNames x2; clear_value x2
  extract_lets +onlyGivenNames x3; clear_value x3
  extract_lets +onlyGivenNames x4; clear_value x4
  split
  · rename_i y0 y0' y0'' y0''' y0''''
    apply failCmd_keep
    exact h_s
  · rename_i y0 y0' y0''
    apply failCmd_keep
    exact h_s
  · rename_i y0 y0' y0'' y0'''
    extract_lets +onlyGivenNames x4; clear_value x4
    extract_lets +onlyGivenNames x5; clear_value x5
    extract_lets +onlyGivenNames x6; clear_value x6
    extract_lets +onlyGivenNames x7; clear_value x7
    apply okCmd_keep
    exact h_s

theorem execGridConfig_keep {s0 : State} (p : Packet) (s : State) (h_s : Keep s0 s) :
    KeepO s0 (execGridConfig p s) := by
  unfold execGridConfig
  refine KeepO.next ?_
  apply runCommand_keep
  · intro a0 a1 h0
    apply gridConfigBody_keep
    exact h0
  · exact h_s

theorem execRegionDefine_keep {s0 : State} (p : Packet) (s : State) (h_s : Keep s0 s) :
    KeepO s0 (execRegionDefine p s) := by
  unfold execRegionDefine
  refine KeepO.next ?_
  apply runCommand_keep
  · intro a0 a1 h0
    apply regionDefineBody_keep
    exact h0
  · exact h_s

theorem execDrivePlan_keep {s0 : State} (p : Packet) (s : State) (h_s : Keep s0 s) :
    KeepO s0 (execDrivePlan p s) := by
  unfold execDrivePlan
  refine KeepO.next ?_
  apply runCommand_keep
  · intro a0 a1 h0
    apply drivePlanBody_keep
    exact h0
  · exact h_s

theorem execGridStart_keep {s0 : State} (p : Packet) (s : State) (h_s : Keep s0 s) :
    KeepO s0 (execGridStart p s) := by
  unfold execGridStart
  refine KeepO.next ?_
  apply runCommand_keep
  · intro a0 a1 h0
    apply gridStartBody_keep
    exact h0
  · exact h_s

theorem execGridStop_keep {s0 : State} (p : Packet) (s : State) (h_s : Keep s0 s) :
    KeepO s0 (execGridStop p s) := by
  unfold execGridStop
  refine KeepO.next ?_
  apply runCommand_keep
  · intro a0 a1 h0
    apply gridStopBody_keep
    exact h0
  · exact h_s

theorem execCaptureReference_keep {s0 : State} (p : Packet) (s : State) (h_s : Keep s0 s) :
    KeepO s0 (execCaptureReference p s) := by
  unfold execCaptureReference
  refine KeepO.next ?_
  apply runCommand_keep
  · intro a0 a1 h0
    apply captureReferenceBody_keep
    exact h0
  · exact h_s

theorem execReadFrame_keep {s0 : State} (p : Packet) (s : State) (h_s : Keep s0 s) :
    KeepO s0 (execReadFrame p s) := by
  unfold execReadFrame
  refine KeepO.next ?_
  apply runCommand_keep
  · intro a0 a1 h0
    apply readFrameBody_keep
    exact h0
  · exact h_s

theorem execSelfcapConfig_keep {s0 : State} (p : Packet) (s : State) (h_s : Keep s0 s) :
    KeepO s0 (execSelfcapConfig p s) := by
  unfold execSelfcapConfig
  refine KeepO.next ?_
  apply runCommand_keep
  · intro a0 a1 h0
    apply selfcapConfigBody_keep
    exact h0
  · exact h_s

theorem execCaptureReferenceDone_keep {s0 : State} (r : NvmResult) (s : State) (h_s : Keep s0 s) :
    KeepO s0 (execCaptureReferenceDone r s) := by
  unfold execCaptureReferenceDone
  split
  · rename_i y0 y0'
    refine KeepO.next ?_
    exact h_s
  · rename_i y0 y0' y0''
    extract_lets +onlyGivenNames x0; clear_value x0
    extract_lets +onlyGivenNames x1; clear_value x1
    refine KeepO.ite ?_ ?_
    · refine KeepO.next ?_
      exact h_s
    · extract_lets +onlyGivenNames x2; clear_value x2
      extract_lets +onlyGivenNames x3
      refine keep_bind (s0 := s0) x3 ?_ (fun h0 => ?_)
      · unfold x3; clear x3
        refine keep_mk rfl rfl rfl rfl ?_
        exact h_s
      · clear_value x3
        refine KeepO.ite ?_ ?_
        · refine KeepO.next ?_
          apply completeDeferred_keep
          exact h0
        · split
          rename_i y1 y1' y1'' y1'''
          extract_lets +onlyGivenNames x4; clear_value x4
          refine KeepO.ite ?_ ?_
          · refine KeepO.next ?_
            apply completeDeferred_keep
            exact h0
          · extract_lets +onlyGivenNames x5
            refine keep_bind (s0 := s0) x5 ?_ (fun h1 => ?_)
            · unfold x5; clear x5
              apply countErases_keep
              exact h0
            · clear_value x5
              split
              · rename_i y2
                extract_lets +onlyGivenNames x6; clear_value x6
                extract_lets +onlyGivenNames x7; clear_value x7
                extract_lets +onlyGivenNames x8; clear_value x8
                extract_lets +onlyGivenNames x9; clear_value x9
                extract_lets +onlyGivenNames x10
                refine keep_bind (s0 := s0) x10 ?_ (fun h2 => ?_)
                · unfold x10; clear x10
                  apply nvmGood_keep
                  refine keep_mkW rfl ?_ (fun w => w) (fun w => w) ?_
                  · intro w0
                    with_reducible apply memWrite_wf
                    with_reducible exact w0
                  · exact h1
                · clear_value x10
                  refine KeepO.next ?_
                  apply completeDeferred_keep
                  exact h2
              · rename_i y2 y2'
                extract_lets +onlyGivenNames x6; clear_value x6
                extract_lets +onlyGivenNames x7; clear_value x7
                extract_lets +onlyGivenNames x8
                refine keep_bind (s0 := s0) x8 ?_ (fun h2 => ?_)
                · unfold x8; clear x8
                  apply nvmFailed_keep
                  refine keep_mk rfl rfl rfl rfl ?_
                  exact h1
                · clear_value x8
                  refine KeepO.next ?_
                  apply completeDeferred_keep
                  exact h2

theorem hopApply_keep {s0 : State} (t : Nat) (s : State) (h_s : Keep s0 s) :
    Keep s0 (hopApply t s) := by
  unfold hopApply
  split
  · rename_i y0 y0' y0'' y0''' y0''''
    refine keep_ite ?_ ?_
    · apply newCarrier_keep
      refine keep_mk rfl rfl rfl rfl ?_
      exact h_s
    · exact h_s
  · rename_i y0 y0'
    exact h_s

theorem execGridFrameStart_keep {s0 : State} (s : State) (h_s : Keep s0 s) :
    KeepO s0 (execGridFrameStart s) := by
  unfold execGridFrameStart
  split
  · rename_i y0 y0' y0'' y0''' y0'''' y0''''' y0'''''' y0''''''' y0''''''''
    refine KeepO.ite ?_ ?_
    · refine KeepO.next ?_
      exact h_s
    · extract_lets +onlyGivenNames x0; clear_value x0
      extract_lets +onlyGivenNames x1
      refine keep_bind (s0 := s0) x1 ?_ (fun h0 => ?_)
      · unfold x1; clear x1
        apply hopApply_keep
        apply advanceTo_keep
        exact h_s
      · clear_value x1
        extract_lets +onlyGivenNames x2; clear_value x2
        extract_lets +onlyGivenNames x3; clear_value x3
        refine KeepO.next ?_
        refine keep_mk rfl rfl rfl rfl ?_
        exact h0
  · rename_i y0 y0' y0'' y0'''
    refine KeepO.next ?_
    exact h_s

theorem overloadFaults_keep {s0 : State} (overload : List Nat) (s : State) (h_s : Keep s0 s) :
    Keep s0 (overloadFaults overload s) := by
  unfold overloadFaults
  extract_lets +onlyGivenNames x0; clear_value x0
  extract_lets +onlyGivenNames x1; clear_value x1
  extract_lets +onlyGivenNames x2; clear_value x2
  extract_lets +onlyGivenNames x3
  refine keep_bind (s0 := s0) x3 ?_ (fun h0 => ?_)
  · unfold x3; clear x3
    refine keep_mk rfl rfl rfl rfl ?_
    exact h_s
  · clear_value x3
    extract_lets +onlyGivenNames x4
    refine keep_bind (s0 := s0) x4 ?_ (fun h1 => ?_)
    · unfold x4; clear x4
      refine keep_foldl ?_ ?_
      · intro a0 a1 h1
        apply raise_keep
        exact h1
      · exact h0
    · clear_value x4
      refine keep_foldl ?_ ?_
      · intro a0 a1 h2
        apply raise_keep
        exact h2
      · exact h1

theorem emitEvents_keep {s0 : State} (bit : Nat) (epoch : Word) (evs : List (List Byte)) (s : State) (h_s : Keep s0 s) :
    Keep s0 (emitEvents bit epoch evs s) := by
  unfold emitEvents
  refine keep_ite ?_ ?_
  · exact h_s
  · apply emit_keep
    exact h_s

theorem carrierFrame_keep {s0 : State} (fr : FrameRun) (x : FrameInput) (vals : List (List Int)) (s : State) (h_s : Keep s0 s) :
    Keep s0 (carrierFrame fr x vals s) := by
  unfold carrierFrame
  extract_lets +onlyGivenNames x0
  refine keep_bind (s0 := s0) x0 ?_ (fun h0 => ?_)
  · unfold x0; clear x0
    apply shadowFrame_keep
    exact h_s
  · clear_value x0
    extract_lets +onlyGivenNames x1; clear_value x1
    extract_lets +onlyGivenNames x2; clear_value x2
    extract_lets +onlyGivenNames x3
    refine keep_bind (s0 := s0) x3 ?_ (fun h1 => ?_)
    · unfold x3; clear x3
      refine keep_ite ?_ ?_
      · exact h0
      · refine keep_mk rfl rfl rfl rfl ?_
        exact h0
    · clear_value x3
      split
      rename_i y0 y0' y0'' y0'''
      refine keep_bind (s0 := s0) _ (keep_of1 y0''' ?_) (fun h2 => ?_)
      · refine keep_ite1 ?_ ?_
        · apply flickerFrame_keep
          exact h1
        · refine keep_pair1 ?_
          exact h1
      · apply emitEvents_keep
        exact h2

theorem execGridFrameComplete_keep {s0 : State} (x : FrameInput) (s : State) (h_s : Keep s0 s) :
    KeepO s0 (execGridFrameComplete x s) := by
  unfold execGridFrameComplete
  split
  · rename_i y0 y0'
    refine KeepO.next ?_
    exact h_s
  · rename_i y0 y0' y0''
    extract_lets +onlyGivenNames x0; clear_value x0
    extract_lets +onlyGivenNames x1
    refine keep_bind (s0 := s0) x1 ?_ (fun h0 => ?_)
    · unfold x1; clear x1
      apply advanceTo_keep
      exact h_s
    · clear_value x1
      split
      rename_i y1 y1' y1'' y1'''
      extract_lets +onlyGivenNames x2; clear_value x2
      extract_lets +onlyGivenNames x3; clear_value x3
      extract_lets +onlyGivenNames x4; clear_value x4
      extract_lets +onlyGivenNames x5; clear_value x5
      extract_lets +onlyGivenNames x6; clear_value x6
      extract_lets +onlyGivenNames x7; clear_value x7
      extract_lets +onlyGivenNames x8; clear_value x8
      extract_lets +onlyGivenNames x9; clear_value x9
      extract_lets +onlyGivenNames x10; clear_value x10
      extract_lets +onlyGivenNames x11
      refine keep_bind (s0 := s0) x11 ?_ (fun h1 => ?_)
      · unfold x11; clear x11
        refine keep_mkW rfl ?_ (fun w => w) (fun w => w) ?_
        · intro w0
          with_reducible apply ringWrite_wf
          with_reducible exact w0
        · exact h0
      · clear_value x11
        extract_lets +onlyGivenNames x12
        refine keep_bind (s0 := s0) x12 ?_ (fun h2 => ?_)
        · unfold x12; clear x12
          apply overloadFaults_keep
          exact h1
        · clear_value x12
          extract_lets +onlyGivenNames x13
          refine keep_bind (s0 := s0) x13 ?_ (fun h3 => ?_)
          · unfold x13; clear x13
            apply emit_keep
            exact h2
          · clear_value x13
            refine KeepO.next ?_
            apply carrierFrame_keep
            exact h3

theorem execDriveOvercurrent_keep {s0 : State} (line : Fin 120) (s : State) (h_s : Keep s0 s) :
    KeepO s0 (execDriveOvercurrent line s) := by
  unfold execDriveOvercurrent
  refine KeepO.next ?_
  apply raise_keep
  refine keep_mk rfl rfl rfl rfl ?_
  exact h_s

theorem execVtxLow_keep {s0 : State} (present : Bool) (s : State) (h_s : Keep s0 s) :
    KeepO s0 (execVtxLow present s) := by
  unfold execVtxLow
  extract_lets +onlyGivenNames x0; clear_value x0
  extract_lets +onlyGivenNames x1; clear_value x1
  extract_lets +onlyGivenNames x2
  refine keep_bind (s0 := s0) x2 ?_ (fun h0 => ?_)
  · unfold x2; clear x2
    refine keep_mk rfl rfl rfl rfl ?_
    exact h_s
  · clear_value x2
    refine KeepO.next ?_
    refine keep_ite ?_ ?_
    · apply raise_keep
      exact h0
    · exact h0

end Sys2Proof.Machine
end

