-- ==== Sys2Proof/Laws/KeepHkp.lean ====
section
/-! SUPPORT. Every operation of Machine/Hkp.lean keeps the queue and the canonical memories. -/
namespace Sys2Proof.Machine

open Sys2Proof

theorem faultReadBody_keep {s0 : State} (p : Packet) (s : State) (h_s : Keep s0 s) :
    Keep s0 (faultReadBody p s).st := by
  unfold faultReadBody
  extract_lets +onlyGivenNames x0; clear_value x0
  extract_lets +onlyGivenNames x1; clear_value x1
  apply checked_keep
  · exact h_s
  · intro a0
    refine keep_iteC ?_ ?_
    · apply okCmd_keep
      exact h_s
    · extract_lets +onlyGivenNames x2; clear_value x2
      apply okCmd_keep
      exact h_s

theorem faultAckBody_keep {s0 : State} (p : Packet) (s : State) (h_s : Keep s0 s) :
    Keep s0 (faultAckBody p s).st := by
  unfold faultAckBody
  extract_lets +onlyGivenNames x0; clear_value x0
  extract_lets +onlyGivenNames x1; clear_value x1
  apply checked_keep
  · exact h_s
  · intro a0
    extract_lets +onlyGivenNames x2; clear_value x2
    apply okCmd_keep
    apply acknowledge_keep
    exact h_s

theorem severitySetBody_keep {s0 : State} (p : Packet) (s : State) (h_s : Keep s0 s) :
    Keep s0 (severitySetBody p s).st := by
  unfold severitySetBody
  extract_lets +onlyGivenNames x0; clear_value x0
  extract_lets +onlyGivenNames x1; clear_value x1
  extract_lets +onlyGivenNames x2; clear_value x2
  extract_lets +onlyGivenNames x3; clear_value x3
  apply checked_keep
  · exact h_s
  · intro a0
    apply okCmd_keep
    apply setShws_keep
    exact h_s

theorem thermalConfigBody_keep {s0 : State} (p : Packet) (s : State) (h_s : Keep s0 s) :
    Keep s0 (thermalConfigBody p s).st := by
  unfold thermalConfigBody
  extract_lets +onlyGivenNames x0; clear_value x0
  extract_lets +onlyGivenNames x1; clear_value x1
  apply checked_keep
  · exact h_s
  · intro a0
    apply okCmd_keep
    apply setShw_keep
    exact h_s

theorem taperApply_keep {s0 : State} (s : State) (h_s : Keep s0 s) :
    Keep s0 (taperApply s) := by
  unfold taperApply
  extract_lets +onlyGivenNames x0; clear_value x0
  refine keep_mk rfl rfl rfl rfl ?_
  exact h_s

theorem taperRound_keep {s0 : State} (s : State) (h_s : Keep s0 s) :
    Keep s0 (taperRound s) := by
  unfold taperRound
  extract_lets +onlyGivenNames x0; clear_value x0
  extract_lets +onlyGivenNames x1; clear_value x1
  extract_lets +onlyGivenNames x2; clear_value x2
  extract_lets +onlyGivenNames x3; clear_value x3
  refine keep_ite ?_ ?_
  · refine keep_mk rfl rfl rfl rfl ?_
    exact h_s
  · refine keep_ite ?_ ?_
    · refine keep_ite ?_ ?_
      · extract_lets +onlyGivenNames x4
        refine keep_bind (s0 := s0) x4 ?_ (fun h0 => ?_)
        · unfold x4; clear x4
          refine keep_mk rfl rfl rfl rfl ?_
          exact h_s
        · clear_value x4
          refine keep_ite ?_ ?_
          · apply raise_keep
            exact h0
          · exact h0
      · refine keep_mk rfl rfl rfl rfl ?_
        exact h_s
    · refine keep_ite ?_ ?_
      · refine keep_ite ?_ ?_
        · refine keep_mk rfl rfl rfl rfl ?_
          exact h_s
        · refine keep_mk rfl rfl rfl rfl ?_
          exact h_s
      · refine keep_mk rfl rfl rfl rfl ?_
        exact h_s

theorem sensorsApply_keep {s0 : State} (s : State) (h_s : Keep s0 s) :
    Keep s0 (sensorsApply s) := by
  unfold sensorsApply
  refine keep_mk rfl rfl rfl rfl ?_
  exact h_s

theorem crossCheck_keep {s0 : State} (dis : List Nat) (s : State) (h_s : Keep s0 s) :
    Keep s0 (crossCheck dis s) := by
  unfold crossCheck
  extract_lets +onlyGivenNames x0; clear_value x0
  extract_lets +onlyGivenNames x1; clear_value x1
  extract_lets +onlyGivenNames x2
  refine keep_bind (s0 := s0) x2 ?_ (fun h0 => ?_)
  · unfold x2; clear x2
    refine keep_mk rfl rfl rfl rfl ?_
    exact h_s
  · clear_value x2
    apply raiseAll_keep
    exact h0

theorem roundTj_keep {s0 : State} (live dis : List Nat) (v : Nat → Int) (s : State) (h_s : Keep s0 s) :
    Keep s0 (roundTj live dis v s) := by
  unfold roundTj
  extract_lets +onlyGivenNames x0; clear_value x0
  split
  · rename_i y0 y0'
    split
    rename_i y1 y1' y1'' y1'''
    refine keep_bind (s0 := s0) _ (keep_of2 y1''' ?_) (fun h0 => ?_)
    · apply freshInt_keep
      exact h_s
    · refine keep_mk rfl rfl rfl rfl ?_
      exact h0
  · rename_i y0 y0' y0'' y0'''
    refine keep_mk rfl rfl rfl rfl ?_
    exact h_s

theorem tempWarnStep_keep {s0 : State} (s : State) (h_s : Keep s0 s) :
    Keep s0 (tempWarnStep s) := by
  unfold tempWarnStep
  refine keep_ite ?_ ?_
  · refine keep_ite ?_ ?_
    · exact h_s
    · apply raise_keep
      refine keep_mk rfl rfl rfl rfl ?_
      exact h_s
  · refine keep_ite ?_ ?_
    · refine keep_mk rfl rfl rfl rfl ?_
      exact h_s
    · exact h_s

theorem supplyStep_keep {s0 : State} (conv : List Int) (s : State) (h_s : Keep s0 s) :
    Keep s0 (supplyStep conv s) := by
  unfold supplyStep
  refine keep_foldl ?_ ?_
  · intro a0 a1 h0
    extract_lets +onlyGivenNames x0; clear_value x0
    refine keep_ite ?_ ?_
    · refine keep_mk rfl rfl rfl rfl ?_
      exact h0
    · extract_lets +onlyGivenNames x1; clear_value x1
      extract_lets +onlyGivenNames x2
      refine keep_bind (s0 := s0) x2 ?_ (fun h1 => ?_)
      · unfold x2; clear x2
        refine keep_mk rfl rfl rfl rfl ?_
        exact h0
      · clear_value x2
        refine keep_ite ?_ ?_
        · apply raise_keep
          exact h1
        · exact h1
  · exact h_s

theorem sensorsLowStep_keep {s0 : State} (s : State) (h_s : Keep s0 s) :
    Keep s0 (sensorsLowStep s) := by
  unfold sensorsLowStep
  refine keep_ite ?_ ?_
  · refine keep_ite ?_ ?_
    · exact h_s
    · apply raise_keep
      refine keep_mk rfl rfl rfl rfl ?_
      exact h_s
  · refine keep_mk rfl rfl rfl rfl ?_
    exact h_s

theorem checkStep_keep {s0 : State} (ok : Bool) (s : State) (h_s : Keep s0 s) :
    Keep s0 (checkStep ok s) := by
  unfold checkStep
  refine keep_ite ?_ ?_
  · refine keep_mk rfl rfl rfl rfl ?_
    exact h_s
  · refine keep_ite ?_ ?_
    · exact h_s
    · apply raise_keep
      refine keep_mk rfl rfl rfl rfl ?_
      exact h_s

theorem execHousekeepingRound_keep {s0 : State} (conv : List Int) (checkOk : Bool) (s : State) (h_s : Keep s0 s) :
    KeepO s0 (execHousekeepingRound conv checkOk s) := by
  unfold execHousekeepingRound
  refine KeepO.ite ?_ ?_
  · refine KeepO.next ?_
    exact h_s
  · extract_lets +onlyGivenNames x0
    refine keep_bind (s0 := s0) x0 ?_ (fun h0 => ?_)
    · unfold x0; clear x0
      apply sensorsApply_keep
      exact h_s
    · clear_value x0
      extract_lets +onlyGivenNames x1; clear_value x1
      extract_lets +onlyGivenNames x2; clear_value x2
      extract_lets +onlyGivenNames x3; clear_value x3
      extract_lets +onlyGivenNames x4; clear_value x4
      extract_lets +onlyGivenNames x5
      refine keep_bind (s0 := s0) x5 ?_ (fun h1 => ?_)
      · unfold x5; clear x5
        refine keep_mk rfl rfl rfl rfl ?_
        exact h0
      · clear_value x5
        extract_lets +onlyGivenNames x6
        refine keep_bind (s0 := s0) x6 ?_ (fun h2 => ?_)
        · unfold x6; clear x6
          apply checkStep_keep
          apply crossCheck_keep
          exact h1
        · clear_value x6
          extract_lets +onlyGivenNames x7
          refine keep_bind (s0 := s0) x7 ?_ (fun h3 => ?_)
          · unfold x7; clear x7
            apply supplyStep_keep
            apply tempWarnStep_keep
            apply roundTj_keep
            apply sensorsLowStep_keep
            exact h2
          · clear_value x7
            extract_lets +onlyGivenNames x8
            refine keep_bind (s0 := s0) x8 ?_ (fun h4 => ?_)
            · unfold x8; clear x8
              apply taperRound_keep
              exact h3
            · clear_value x8
              extract_lets +onlyGivenNames x9
              refine keep_bind (s0 := s0) x9 ?_ (fun h5 => ?_)
              · unfold x9; clear x9
                refine keep_ite ?_ ?_
                · apply taperApply_keep
                  exact h4
                · exact h4
              · clear_value x9
                extract_lets +onlyGivenNames x10; clear_value x10
                extract_lets +onlyGivenNames x11
                refine keep_bind (s0 := s0) x11 ?_ (fun h6 => ?_)
                · unfold x11; clear x11
                  refine keep_mk rfl rfl rfl rfl ?_
                  exact h5
                · clear_value x11
                  refine KeepO.next ?_
                  apply edgeLine_keep
                  apply setAcw_keep
                  exact h6

theorem healthReadBody_keep {s0 : State} (p : Packet) (s : State) (h_s : Keep s0 s) :
    Keep s0 (healthReadBody p s).st := by
  unfold healthReadBody
  apply checked_keep
  · exact h_s
  · intro a0
    apply okCmd_keep
    exact h_s

theorem execFaultRead_keep {s0 : State} (p : Packet) (s : State) (h_s : Keep s0 s) :
    KeepO s0 (execFaultRead p s) := by
  unfold execFaultRead
  refine KeepO.next ?_
  apply runCommand_keep
  · intro a0 a1 h0
    apply faultReadBody_keep
    exact h0
  · exact h_s

theorem execFaultAck_keep {s0 : State} (p : Packet) (s : State) (h_s : Keep s0 s) :
    KeepO s0 (execFaultAck p s) := by
  unfold execFaultAck
  refine KeepO.next ?_
  apply runCommand_keep
  · intro a0 a1 h0
    apply faultAckBody_keep
    exact h0
  · exact h_s

theorem execSeveritySet_keep {s0 : State} (p : Packet) (s : State) (h_s : Keep s0 s) :
    KeepO s0 (execSeveritySet p s) := by
  unfold execSeveritySet
  refine KeepO.next ?_
  apply runCommand_keep
  · intro a0 a1 h0
    apply severitySetBody_keep
    exact h0
  · exact h_s

theorem execThermalConfig_keep {s0 : State} (p : Packet) (s : State) (h_s : Keep s0 s) :
    KeepO s0 (execThermalConfig p s) := by
  unfold execThermalConfig
  refine KeepO.next ?_
  apply runCommand_keep
  · intro a0 a1 h0
    apply thermalConfigBody_keep
    exact h0
  · exact h_s

theorem execHealthRead_keep {s0 : State} (p : Packet) (s : State) (h_s : Keep s0 s) :
    KeepO s0 (execHealthRead p s) := by
  unfold execHealthRead
  refine KeepO.next ?_
  apply runCommand_keep
  · intro a0 a1 h0
    apply healthReadBody_keep
    exact h0
  · exact h_s

theorem reinstateItem_keep {s0 : State} (role op : Byte) (b item : Nat) (s : State) (h_s : Keep s0 s) :
    Keep s0 (reinstateItem role op b item s) := by
  unfold reinstateItem
  refine keep_ite ?_ ?_
  · exact h_s
  · extract_lets +onlyGivenNames x0
    refine keep_bind (s0 := s0) x0 ?_ (fun h0 => ?_)
    · unfold x0; clear x0
      apply clearItem_keep
      refine keep_mk rfl rfl rfl rfl ?_
      exact h_s
    · clear_value x0
      extract_lets +onlyGivenNames x1
      refine keep_bind (s0 := s0) x1 ?_ (fun h1 => ?_)
      · unfold x1; clear x1
        apply journalRaise_keep
        exact h0
      · clear_value x1
        extract_lets +onlyGivenNames x2; clear_value x2
        extract_lets +onlyGivenNames x3; clear_value x3
        extract_lets +onlyGivenNames x4
        refine keep_bind (s0 := s0) x4 ?_ (fun h2 => ?_)
        · unfold x4; clear x4
          refine keep_ite ?_ ?_
          · refine keep_mk rfl rfl rfl rfl ?_
            exact h1
          · refine keep_mk rfl rfl rfl rfl ?_
            exact h1
        · clear_value x4
          refine keep_ite ?_ ?_
          · refine keep_mk rfl rfl rfl rfl ?_
            exact h2
          · refine keep_mk rfl rfl rfl rfl ?_
            exact h2

theorem reinstateWrite_keep {s0 : State} (role op : Byte) (v : Word) (s : State) (h_s : Keep s0 s) :
    Keep s0 (reinstateWrite role op v s).2 := by
  unfold reinstateWrite
  extract_lets +onlyGivenNames x0; clear_value x0
  extract_lets +onlyGivenNames x1; clear_value x1
  refine keep_ite2 ?_ ?_
  · refine keep_pair2 ?_
    exact h_s
  · refine keep_ite2 ?_ ?_
    · refine keep_pair2 ?_
      exact h_s
    · refine keep_pair2 ?_
      apply reinstateItem_keep
      exact h_s

theorem hkpRc_keep {s0 : State} (o : Nat) (s : State) (h_s : Keep s0 s) :
    Keep s0 (hkpRc o s) := by
  unfold hkpRc
  refine keep_ite ?_ ?_
  · refine keep_mk rfl rfl rfl rfl ?_
    exact h_s
  · exact h_s

end Sys2Proof.Machine
end

