-- ==== Sys2Proof/Laws/KeepTouch.lean ====
section
/-! SUPPORT. Every operation of Machine/Touch.lean keeps the queue and the canonical memories. -/
namespace Sys2Proof.Machine

open Sys2Proof

theorem modRegion_keep {s0 : State} (i : Nat) (f : RegionSt → RegionSt) (s : State) (h_s : Keep s0 s) :
    Keep s0 (modRegion i f s) := by
  unfold modRegion
  refine keep_mk rfl rfl rfl rfl ?_
  exact h_s

theorem idPass_keep {s0 : State} (s : State) (h_s : Keep s0 s) :
    Keep s0 (idPass s) := by
  unfold idPass
  extract_lets +onlyGivenNames x0; clear_value x0
  extract_lets +onlyGivenNames x1; clear_value x1
  refine keep_mk rfl rfl rfl rfl ?_
  exact h_s

theorem idIssue_keep {s0 : State} (n : Nat) (s : State) (h_s : Keep s0 s) : Keep s0 (idIssue n s).2 := by
  induction n generalizing s with
  | zero => exact idPass_keep s h_s
  | succ n ih =>
    unfold idIssue
    extract_lets +onlyGivenNames x0; clear_value x0
    refine keep_ite2 ?_ ?_
    · exact ih _ (idPass_keep s h_s)
    · exact idPass_keep s h_s

theorem dropContact_keep {s0 : State} (c : Contact) (s : State) (h_s : Keep s0 s) :
    Keep s0 (dropContact c s) := by
  unfold dropContact
  extract_lets +onlyGivenNames x0; clear_value x0
  refine keep_mk rfl rfl rfl rfl ?_
  exact h_s

theorem putContact_keep {s0 : State} (c : Contact) (s : State) (h_s : Keep s0 s) :
    Keep s0 (putContact c s) := by
  unfold putContact
  refine keep_mk rfl rfl rfl rfl ?_
  exact h_s

theorem cancelContacts_keep {s0 : State} (mask : Nat) (s : State) (h_s : Keep s0 s) :
    Keep s0 (cancelContacts mask s) := by
  unfold cancelContacts
  refine keep_mk rfl rfl rfl rfl ?_
  exact h_s

theorem reportCancelled_keep {s0 : State} (t0 : Nat) (pick : Contact → Bool) (s : State) (o : TchOut) (h_s : Keep s0 s) :
    Keep s0 (reportCancelled t0 pick s o).1 := by
  unfold reportCancelled
  refine keep_foldl1 ?_ ?_
  · intro a0 a1 h0
    refine keep_pair1 ?_
    apply dropContact_keep
    exact h0
  · refine keep_pair1 ?_
    exact h_s

theorem startWindows_keep {s0 : State} (mask : Nat) (ignoreRef : Bool) (s : State) (h_s : Keep s0 s) :
    Keep s0 (startWindows mask ignoreRef s) := by
  unfold startWindows
  extract_lets +onlyGivenNames x0; clear_value x0
  refine keep_ite ?_ ?_
  · exact h_s
  · extract_lets +onlyGivenNames x1; clear_value x1
    extract_lets +onlyGivenNames x2
    refine keep_bind (s0 := s0) x2 ?_ (fun h0 => ?_)
    · unfold x2; clear x2
      apply cancelContacts_keep
      exact h_s
    · clear_value x2
      extract_lets +onlyGivenNames x3
      refine keep_bind (s0 := s0) x3 ?_ (fun h1 => ?_)
      · unfold x3; clear x3
        refine keep_foldl ?_ ?_
        · intro a0 a1 h1
          extract_lets +onlyGivenNames x3
          refine keep_bind (s0 := s0) x3 ?_ (fun h2 => ?_)
          · unfold x3; clear x3
            apply modRegion_keep
            exact h1
          · clear_value x3
            refine keep_mkW rfl ?_ (fun w => w) (fun w => w) ?_
            · intro w0
              refine memFold_wf ?_ ?_
              · intro a2 a3 w1
                with_reducible apply memWrite_wf
                with_reducible exact w1
              · with_reducible exact w0
            · exact h2
        · exact h0
      · clear_value x3
        refine keep_mk rfl rfl rfl rfl ?_
        exact h1

theorem windowEnd_keep {s0 : State} (r : Region) (xs : List NodeR) (vals : List (List (Option Int))) (s : State) (o : TchOut) (h_s : Keep s0 s) :
    Keep s0 (windowEnd r xs vals s o).2.1 := by
  unfold windowEnd
  extract_lets +onlyGivenNames x0; clear_value x0
  extract_lets +onlyGivenNames x1; clear_value x1
  extract_lets +onlyGivenNames x2
  refine keep_bindP (P := ∀ a0 a1 a2, Keep s0 a2 → Keep s0 (x2 a0 a1 a2)) ?_ (fun h0 => ?_)
  · unfold x2; clear x2
    intro a0 a1 a2 h0
    apply modRegion_keep
    exact h0
  · clear_value x2
    split
    · rename_i y0
      refine keep_pair21 ?_
      apply h0
      exact h_s
    · rename_i y0 y0'
      refine keep_ite21 ?_ ?_
      · extract_lets +onlyGivenNames x1; clear_value x1
        extract_lets +onlyGivenNames x3; clear_value x3
        extract_lets +onlyGivenNames x4; clear_value x4
        extract_lets +onlyGivenNames x5; clear_value x5
        extract_lets +onlyGivenNames x6; clear_value x6
        refine keep_pair21 ?_
        apply h0
        exact h_s
      · extract_lets +onlyGivenNames x1; clear_value x1
        extract_lets +onlyGivenNames x3; clear_value x3
        refine keep_pair21 ?_
        apply h0
        exact h_s

theorem needSelf_keep {s0 : State} (want : Bool) (i t0 te : Nat) (s : State) (o : TchOut) (h_s : Keep s0 s) :
    Keep s0 (needSelf want i t0 te s o).2.1 := by
  unfold needSelf
  refine keep_ite21 ?_ ?_
  · refine keep_pair21 ?_
    exact h_s
  · split
    · rename_i y0 y0' y0''
      refine keep_pair21 ?_
      exact h_s
    · rename_i y0 y0'
      extract_lets +onlyGivenNames x0
      refine keep_bind (s0 := s0) x0 ?_ (fun h0 => ?_)
      · unfold x0; clear x0
        refine keep_ite ?_ ?_
        · exact h_s
        · apply raise_keep
          apply modRegion_keep
          exact h_s
      · clear_value x0
        refine keep_pair21 ?_
        exact h0

theorem fieldFrame_keep {s0 : State} (r : Region) (t0 te : Nat) (xs : List NodeR) (s : State) (o : TchOut) (h_s : Keep s0 s) :
    Keep s0 (fieldFrame r t0 te xs s o).2.1 := by
  unfold fieldFrame
  extract_lets +onlyGivenNames x0; clear_value x0
  extract_lets +onlyGivenNames x1; clear_value x1
  extract_lets +onlyGivenNames x2; clear_value x2
  extract_lets +onlyGivenNames x3; clear_value x3
  extract_lets +onlyGivenNames x4; clear_value x4
  extract_lets +onlyGivenNames x5; clear_value x5
  extract_lets +onlyGivenNames x6; clear_value x6
  extract_lets +onlyGivenNames x7; clear_value x7
  extract_lets +onlyGivenNames x8; clear_value x8
  extract_lets +onlyGivenNames x9; clear_value x9
  extract_lets +onlyGivenNames x10; clear_value x10
  extract_lets +onlyGivenNames x11; clear_value x11
  split
  rename_i y0 y0' y0'' y0''' y0''''
  refine keep_bind (s0 := s0) _ (keep_of21 y0'''' ?_) (fun h0 => ?_)
  · apply needSelf_keep
    exact h_s
  · split
    rename_i y1 y1' y1'' y1''' y1''''
    split
    rename_i y2 y2' y2'' y2'''
    extract_lets +onlyGivenNames x12; clear_value x12
    extract_lets +onlyGivenNames x13; clear_value x13
    extract_lets +onlyGivenNames x14; clear_value x14
    extract_lets +onlyGivenNames x15; clear_value x15
    refine keep_pair21 ?_
    apply modRegion_keep
    exact h0

theorem contactDown_keep {s0 : State} (t0 : Nat) (c : Contact) (s : State) (h_s : Keep s0 s) :
    Keep s0 (contactDown t0 c s).2 := by
  unfold contactDown
  split
  rename_i y0 y0' y0'' y0'''
  refine keep_bind (s0 := s0) _ (keep_of2 y0''' ?_) (fun h0 => ?_)
  · split
    · rename_i y1 y1' y1''
      refine keep_pair2 ?_
      exact h_s
    · rename_i y1 y1'
      apply idIssue_keep
      exact h_s
  · extract_lets +onlyGivenNames x0; clear_value x0
    extract_lets +onlyGivenNames x1; clear_value x1
    extract_lets +onlyGivenNames x2
    refine keep_bind (s0 := s0) x2 ?_ (fun h1 => ?_)
    · unfold x2; clear x2
      refine keep_ite ?_ ?_
      · exact h0
      · refine keep_mk rfl rfl rfl rfl ?_
        exact h0
    · clear_value x2
      refine keep_pair2 ?_
      exact h1

theorem gesture_keep {s0 : State} (g : GestCfg) (bit : Nat) (e : TchEv) (s : State) (o : TchOut) (h_s : Keep s0 s) :
    Keep s0 (gesture g bit e s o).1 := by
  unfold gesture
  refine keep_ite1 ?_ ?_
  · refine keep_pair1 ?_
    refine keep_ite ?_ ?_
    · apply wakeEvent_keep
      exact h_s
    · exact h_s
  · refine keep_pair1 ?_
    exact h_s

theorem upGestures_keep {s0 : State} (t0 : Nat) (c : Contact) (s : State) (o : TchOut) (h_s : Keep s0 s) :
    Keep s0 (upGestures t0 c s o).1 := by
  unfold upGestures
  refine keep_ite1 ?_ ?_
  · refine keep_pair1 ?_
    exact h_s
  · extract_lets +onlyGivenNames x0; clear_value x0
    extract_lets +onlyGivenNames x1; clear_value x1
    extract_lets +onlyGivenNames x2; clear_value x2
    extract_lets +onlyGivenNames x3; clear_value x3
    split
    rename_i y0 y0' y0'' y0'''
    refine keep_bind (s0 := s0) _ (keep_of1 y0''' ?_) (fun h0 => ?_)
    · refine keep_ite1 ?_ ?_
      · apply gesture_keep
        exact h_s
      · refine keep_ite1 ?_ ?_
        · apply gesture_keep
          exact h_s
        · refine keep_pair1 ?_
          exact h_s
    · extract_lets +onlyGivenNames x4
      refine keep_bind (s0 := s0) x4 ?_ (fun h1 => ?_)
      · unfold x4; clear x4
        refine keep_ite ?_ ?_
        · apply modRegion_keep
          exact h0
        · exact h0
      · clear_value x4
        extract_lets +onlyGivenNames x5; clear_value x5
        extract_lets +onlyGivenNames x6; clear_value x6
        extract_lets +onlyGivenNames x7; clear_value x7
        extract_lets +onlyGivenNames x8; clear_value x8
        extract_lets +onlyGivenNames x9; clear_value x9
        refine keep_ite1 ?_ ?_
        · apply gesture_keep
          exact h1
        · refine keep_pair1 ?_
          exact h1

theorem longPress_keep {s0 : State} (t0 : Nat) (c : Contact) (s : State) (o : TchOut) (h_s : Keep s0 s) :
    Keep s0 (longPress t0 c s o).2.1 := by
  unfold longPress
  extract_lets +onlyGivenNames x0; clear_value x0
  refine keep_ite21 ?_ ?_
  · refine keep_pair21 ?_
    exact h_s
  · extract_lets +onlyGivenNames x1; clear_value x1
    refine keep_ite21 ?_ ?_
    · split
      rename_i y0 y0' y0'' y0'''
      refine keep_bind (s0 := s0) _ (keep_of1 y0''' ?_) (fun h0 => ?_)
      · apply gesture_keep
        exact h_s
      · refine keep_pair21 ?_
        exact h0
    · refine keep_pair21 ?_
      exact h_s

theorem contactStuck_keep {s0 : State} (t0 : Nat) (c : Contact) (s : State) (o : TchOut) (h_s : Keep s0 s) :
    Keep s0 (contactStuck t0 c s o).1 := by
  unfold contactStuck
  extract_lets +onlyGivenNames x0; clear_value x0
  extract_lets +onlyGivenNames x1; clear_value x1
  extract_lets +onlyGivenNames x2
  refine keep_bind (s0 := s0) x2 ?_ (fun h0 => ?_)
  · unfold x2; clear x2
    apply dropContact_keep
    exact h_s
  · clear_value x2
    extract_lets +onlyGivenNames x3; clear_value x3
    extract_lets +onlyGivenNames x4
    refine keep_bind (s0 := s0) x4 ?_ (fun h1 => ?_)
    · unfold x4; clear x4
      refine keep_mk rfl rfl rfl rfl ?_
      exact h0
    · clear_value x4
      extract_lets +onlyGivenNames x5
      refine keep_bind (s0 := s0) x5 ?_ (fun h2 => ?_)
      · unfold x5; clear x5
        apply journalRaise_keep
        exact h1
      · clear_value x5
        refine keep_pair1 ?_
        apply raise_keep
        exact h2

theorem keepContact_keep {s0 : State} (t0 : Nat) (wet : Option Rect) (ds : List Det) (pairs : List (Nat × Nat)) (c : Contact) (a : State × TchOut × Relearn) (h_a : Keep s0 a.1) :
    Keep s0 (keepContact t0 wet ds pairs c a).1 := by
  unfold keepContact
  split
  rename_i y0 y0' y0'' y0'''
  extract_lets +onlyGivenNames x0; clear_value x0
  extract_lets +onlyGivenNames x1; clear_value x1
  extract_lets +onlyGivenNames x2; clear_value x2
  extract_lets +onlyGivenNames x3; clear_value x3
  extract_lets +onlyGivenNames x4; clear_value x4
  refine keep_ite1 ?_ ?_
  · split
    · rename_i y1
      refine keep_pair1 ?_
      apply dropContact_keep
      exact h_a
    · rename_i y1 y1'
      refine keep_ite1 ?_ ?_
      · refine keep_pair1 ?_
        apply dropContact_keep
        exact h_a
      · extract_lets +onlyGivenNames x1; clear_value x1
        refine keep_ite1 ?_ ?_
        · split
          rename_i y2 y2' y2'' y2'''
          refine keep_bind (s0 := s0) _ (keep_of2 y2''' ?_) (fun h0 => ?_)
          · apply contactDown_keep
            exact h_a
          · refine keep_pair1 ?_
            apply putContact_keep
            exact h0
        · refine keep_pair1 ?_
          apply putContact_keep
          exact h_a
  · refine keep_ite1 ?_ ?_
    · refine keep_pair1 ?_
      apply dropContact_keep
      exact h_a
    · refine keep_ite1 ?_ ?_
      · split
        rename_i y1 y1' y1'' y1'''
        refine keep_bind (s0 := s0) _ (keep_of1 y1''' ?_) (fun h0 => ?_)
        · apply contactStuck_keep
          exact h_a
        · refine keep_pair1 ?_
          exact h0
      · split
        · rename_i y1
          refine keep_ite1 ?_ ?_
          · split
            rename_i y2 y2' y2'' y2'''
            refine keep_bind (s0 := s0) _ (keep_of1 y2''' ?_) (fun h0 => ?_)
            · apply upGestures_keep
              apply dropContact_keep
              exact h_a
            · refine keep_pair1 ?_
              exact h0
          · refine keep_pair1 ?_
            apply putContact_keep
            exact h_a
        · rename_i y1 y1'
          refine keep_ite1 ?_ ?_
          · split
            rename_i y2 y2' y2'' y2'''
            refine keep_bind (s0 := s0) _ (keep_of2 y2''' ?_) (fun h0 => ?_)
            · apply contactDown_keep
              exact h_a
            · refine keep_pair1 ?_
              apply putContact_keep
              exact h0
          · split
            rename_i y2 y2' y2'' y2''' y2''''
            refine keep_bind (s0 := s0) _ (keep_of21 y2'''' ?_) (fun h0 => ?_)
            · apply longPress_keep
              exact h_a
            · refine keep_pair1 ?_
              apply putContact_keep
              exact h0

theorem enterDet_keep {s0 : State} (t0 : Nat) (i : Nat) (present : List (List (Nat × Nat) × Bool)) (d : Det) (a : State × TchOut) (h_a : Keep s0 a.1) :
    Keep s0 (enterDet t0 i present d a).1 := by
  unfold enterDet
  split
  rename_i y0 y0' y0''
  extract_lets +onlyGivenNames x0; clear_value x0
  extract_lets +onlyGivenNames x1; clear_value x1
  refine keep_ite1 ?_ ?_
  · refine keep_pair1 ?_
    exact h_a
  · extract_lets +onlyGivenNames x2; clear_value x2
    split
    · rename_i y1 y1'
      extract_lets +onlyGivenNames x3; clear_value x3
      extract_lets +onlyGivenNames x4
      refine keep_bind (s0 := s0) x4 ?_ (fun h0 => ?_)
      · unfold x4; clear x4
        refine keep_mk rfl rfl rfl rfl ?_
        exact h_a
      · clear_value x4
        extract_lets +onlyGivenNames x5
        refine keep_bind (s0 := s0) x5 ?_ (fun h1 => ?_)
        · unfold x5; clear x5
          refine keep_ite ?_ ?_
          · exact h0
          · apply raise_keep
            apply modRegion_keep
            exact h0
        · clear_value x5
          refine keep_pair1 ?_
          exact h1
    · rename_i y1 y1' y1''
      extract_lets +onlyGivenNames x3; clear_value x3
      split
      · rename_i y2 y2' y2''
        split
        rename_i y3 y3' y3'' y3'''
        refine keep_bind (s0 := s0) _ (keep_of2 y3''' ?_) (fun h0 => ?_)
        · apply contactDown_keep
          exact h_a
        · refine keep_pair1 ?_
          apply putContact_keep
          exact h0
      · rename_i y2 y2'
        refine keep_ite1 ?_ ?_
        · split
          rename_i y3 y3' y3'' y3'''
          refine keep_bind (s0 := s0) _ (keep_of2 y3''' ?_) (fun h0 => ?_)
          · apply contactDown_keep
            exact h_a
          · refine keep_pair1 ?_
            apply putContact_keep
            exact h0
        · refine keep_pair1 ?_
          apply putContact_keep
          exact h_a

theorem keeper_keep {s0 : State} (t0 : Nat) (i : Nat) (wet : Option Rect) (ds : List Det) (s : State) (o : TchOut) (h_s : Keep s0 s) :
    Keep s0 (keeper t0 i wet ds s o).1 := by
  unfold keeper
  extract_lets +onlyGivenNames x0; clear_value x0
  extract_lets +onlyGivenNames x1; clear_value x1
  split
  rename_i y0 y0' y0'' y0''' y0''''
  refine keep_bind (s0 := s0) _ (keep_of1 y0'''' ?_) (fun h0 => ?_)
  · refine keep_foldl1 ?_ ?_
    · intro a0 a1 h0
      apply keepContact_keep
      exact h0
    · refine keep_pair1 ?_
      exact h_s
  · extract_lets +onlyGivenNames x2; clear_value x2
    split
    rename_i y1 y1' y1'' y1'''
    refine keep_bind (s0 := s0) _ (keep_of1 y1''' ?_) (fun h1 => ?_)
    · refine keep_foldl1 ?_ ?_
      · intro a0 a1 h1
        apply enterDet_keep
        exact h1
      · refine keep_pair1 ?_
        exact h0
    · refine keep_pair1 ?_
      exact h1

theorem footStep_keep {s0 : State} (r : Region) (t0 : Nat) (xs : List NodeR) (ds : List Det) (s : State) (h_s : Keep s0 s) :
    Keep s0 (footStep r t0 xs ds s) := by
  unfold footStep
  extract_lets +onlyGivenNames x0; clear_value x0
  extract_lets +onlyGivenNames x1; clear_value x1
  extract_lets +onlyGivenNames x2; clear_value x2
  extract_lets +onlyGivenNames x3; clear_value x3
  refine keep_mk rfl rfl rfl rfl ?_
  exact h_s

theorem surfaceFrame_keep {s0 : State} (r : Region) (t0 te : Nat) (xs : List NodeR) (s : State) (o : TchOut) (h_s : Keep s0 s) :
    Keep s0 (surfaceFrame r t0 te xs s o).2.1 := by
  unfold surfaceFrame
  extract_lets +onlyGivenNames x0; clear_value x0
  extract_lets +onlyGivenNames x1; clear_value x1
  extract_lets +onlyGivenNames x2; clear_value x2
  extract_lets +onlyGivenNames x3; clear_value x3
  extract_lets +onlyGivenNames x4; clear_value x4
  extract_lets +onlyGivenNames x5; clear_value x5
  extract_lets +onlyGivenNames x6; clear_value x6
  extract_lets +onlyGivenNames x7; clear_value x7
  split
  rename_i y0 y0' y0'' y0''' y0''''
  refine keep_bind (s0 := s0) _ (keep_of21 y0'''' ?_) (fun h0 => ?_)
  · apply needSelf_keep
    exact h_s
  · extract_lets +onlyGivenNames x8; clear_value x8
    extract_lets +onlyGivenNames x9; clear_value x9
    extract_lets +onlyGivenNames x10; clear_value x10
    extract_lets +onlyGivenNames x11; clear_value x11
    split
    rename_i y1 y1' y1'' y1'''
    extract_lets +onlyGivenNames x12; clear_value x12
    split
    rename_i y2 y2' y2'' y2''' y2''''
    extract_lets +onlyGivenNames x13; clear_value x13
    extract_lets +onlyGivenNames x14; clear_value x14
    extract_lets +onlyGivenNames x15; clear_value x15
    extract_lets +onlyGivenNames x16
    refine keep_bind (s0 := s0) x16 ?_ (fun h1 => ?_)
    · unfold x16; clear x16
      apply modRegion_keep
      exact h0
    · clear_value x16
      extract_lets +onlyGivenNames x17; clear_value x17
      extract_lets +onlyGivenNames x18; clear_value x18
      extract_lets +onlyGivenNames x19; clear_value x19
      split
      rename_i y3 y3' y3'' y3''' y3''''
      refine keep_bind (s0 := s0) _ (keep_of1 y3'''' ?_) (fun h2 => ?_)
      · apply keeper_keep
        exact h1
      · extract_lets +onlyGivenNames x20
        refine keep_bind (s0 := s0) x20 ?_ (fun h3 => ?_)
        · unfold x20; clear x20
          apply footStep_keep
          exact h2
        · clear_value x20
          extract_lets +onlyGivenNames x21; clear_value x21
          extract_lets +onlyGivenNames x22; clear_value x22
          extract_lets +onlyGivenNames x23; clear_value x23
          extract_lets +onlyGivenNames x24; clear_value x24
          extract_lets +onlyGivenNames x25; clear_value x25
          extract_lets +onlyGivenNames x26; clear_value x26
          extract_lets +onlyGivenNames x27
          refine keep_bind (s0 := s0) x27 ?_ (fun h4 => ?_)
          · unfold x27; clear x27
            apply modRegion_keep
            exact h3
          · clear_value x27
            refine keep_pair21 ?_
            exact h4

theorem regionFrame_keep {s0 : State} (h : HeldFrame) (i : Nat) (a : State × TchOut) (h_a : Keep s0 a.1) :
    Keep s0 (regionFrame h i a).1 := by
  unfold regionFrame
  split
  rename_i y0 y0' y0''
  extract_lets +onlyGivenNames x0; clear_value x0
  refine keep_ite1 ?_ ?_
  · refine keep_pair1 ?_
    exact h_a
  · extract_lets +onlyGivenNames x1; clear_value x1
    extract_lets +onlyGivenNames x2
    refine keep_bind (s0 := s0) x2 ?_ (fun h0 => ?_)
    · unfold x2; clear x2
      refine keep_ite ?_ ?_
      · apply startWindows_keep
        exact h_a
      · exact h_a
    · clear_value x2
      extract_lets +onlyGivenNames x3; clear_value x3
      extract_lets +onlyGivenNames x4; clear_value x4
      refine keep_ite1 ?_ ?_
      · refine keep_pair1 ?_
        apply raise_keep
        refine keep_mk rfl rfl rfl rfl ?_
        exact h0
      · extract_lets +onlyGivenNames x5
        refine keep_bind (s0 := s0) x5 ?_ (fun h1 => ?_)
        · unfold x5; clear x5
          apply modRegion_keep
          exact h0
        · clear_value x5
          extract_lets +onlyGivenNames x6; clear_value x6
          extract_lets +onlyGivenNames x7
          refine keep_bindP (P := ∀ a0 a1 a2, Keep s0 a1 → Keep s0 (x7 a0 a1 a2).1) ?_ (fun h2 => ?_)
          · unfold x7; clear x7
            intro a0 a1 a2 h2
            extract_lets +onlyGivenNames x7; clear_value x7
            extract_lets +onlyGivenNames x8; clear_value x8
            split
            rename_i y1 y1' y1'' y1''' y1''''
            refine keep_bind (s0 := s0) _ (keep_of21 y1'''' ?_) (fun h3 => ?_)
            · refine keep_ite21 ?_ ?_
              · apply fieldFrame_keep
                exact h2
              · apply surfaceFrame_keep
                exact h2
            · refine keep_pair1 ?_
              refine keep_mkW rfl ?_ (fun w => w) (fun w => w) ?_
              · intro w0
                refine memFold_wf ?_ ?_
                · intro a3 a4 w1
                  (extract_lets +onlyGivenNames x9; clear_value x9)
                  (extract_lets +onlyGivenNames x10; clear_value x10)
                  with_reducible apply memWrite_wf
                  with_reducible apply memWrite_wf
                  with_reducible exact w1
                · with_reducible exact w0
              · exact h3
          · clear_value x7
            split
            · rename_i y1 y1'
              apply h2
              exact h1
            · rename_i y1 y1' y1'' y1'''
              split
              rename_i y2 y2' y2'' y2'''
              refine keep_bind (s0 := s0) _ (keep_of1 y2''' ?_) (fun h3 => ?_)
              · apply reportCancelled_keep
                exact h1
              · extract_lets +onlyGivenNames x8; clear_value x8
                refine keep_ite1 ?_ ?_
                · refine keep_pair1 ?_
                  apply modRegion_keep
                  exact h3
                · extract_lets +onlyGivenNames x9; clear_value x9
                  refine keep_ite1 ?_ ?_
                  · refine keep_pair1 ?_
                    apply modRegion_keep
                    exact h3
                  · split
                    rename_i y3 y3' y3'' y3''' y3''''
                    refine keep_bind (s0 := s0) _ (keep_of21 y3'''' ?_) (fun h4 => ?_)
                    · apply windowEnd_keep
                      exact h3
                    · apply h2
                      exact h4

theorem controlsFrame_keep {s0 : State} (pick : Nat → Bool) (sig : Nat → Nat → Option Int) (s : State) (h_s : Keep s0 s) :
    Keep s0 (controlsFrame pick sig s).1 := by
  unfold controlsFrame
  refine keep_ite1 ?_ ?_
  · refine keep_pair1 ?_
    exact h_s
  · refine keep_foldl1 ?_ ?_
    · intro a0 a1 h0
      split
      rename_i y0 y0' y0'' y0'''
      refine keep_pair1 ?_
      extract_lets +onlyGivenNames x0
      refine keep_bind (s0 := s0) x0 ?_ (fun h1 => ?_)
      · unfold x0; clear x0
        exact h0
      · clear_value x0
        refine keep_mk rfl rfl rfl rfl ?_
        exact h1
    · refine keep_pair1 ?_
      exact h_s

theorem showContacts_keep {s0 : State} (t0 : Nat) (s : State) (h_s : Keep s0 s) :
    Keep s0 (showContacts t0 s) := by
  unfold showContacts
  refine keep_mkW rfl ?_ (fun w => w) (fun w => w) ?_
  · intro w0
    refine memFold_wf ?_ ?_
    · intro a0 a1 w1
      (extract_lets +onlyGivenNames x0; clear_value x0)
      with_reducible apply memWrite_wf
      with_reducible exact w1
    · with_reducible exact w0
  · exact h_s

theorem finishMutual_keep {s0 : State} (h : HeldFrame) (ctl : List (List Byte)) (s : State) (o : TchOut) (h_s : Keep s0 s) :
    Keep s0 (finishMutual h ctl s o) := by
  unfold finishMutual
  extract_lets +onlyGivenNames x0; clear_value x0
  extract_lets +onlyGivenNames x1; clear_value x1
  extract_lets +onlyGivenNames x2; clear_value x2
  extract_lets +onlyGivenNames x3
  refine keep_bind (s0 := s0) x3 ?_ (fun h0 => ?_)
  · unfold x3; clear x3
    refine keep_foldl ?_ ?_
    · intro a0 a1 h0
      apply pushAlarm_keep
      exact h0
    · exact h_s
  · clear_value x3
    extract_lets +onlyGivenNames x4; clear_value x4
    extract_lets +onlyGivenNames x5
    refine keep_bind (s0 := s0) x5 ?_ (fun h1 => ?_)
    · unfold x5; clear x5
      refine keep_ite ?_ ?_
      · apply emit_keep
        exact h0
      · exact h0
    · clear_value x5
      extract_lets +onlyGivenNames x6
      refine keep_bind (s0 := s0) x6 ?_ (fun h2 => ?_)
      · unfold x6; clear x6
        refine keep_ite ?_ ?_
        · exact h1
        · apply emit_keep
          exact h1
      · clear_value x6
        extract_lets +onlyGivenNames x7
        refine keep_bind (s0 := s0) x7 ?_ (fun h3 => ?_)
        · unfold x7; clear x7
          apply emitEvents_keep
          exact h2
        · clear_value x7
          extract_lets +onlyGivenNames x8; clear_value x8
          apply showContacts_keep
          refine keep_mk rfl rfl rfl rfl ?_
          exact h3

theorem takeTodo_keepSome {s0 : State} {m b : Bool} {s t : State} {h : HeldFrame} (e : takeTodo m s = some (h, b, t))
    (h_s : Keep s0 s) : Keep s0 t := by
  unfold takeTodo at e
  split at e
  · cases e
  · split at e
    · cases e
    · cases e
      exact keep_mk rfl rfl rfl rfl h_s

theorem settleEpochs_keep {s0 : State} (s : State) (h_s : Keep s0 s) :
    Keep s0 (settleEpochs s) := by
  unfold settleEpochs
  refine keep_mk rfl rfl rfl rfl ?_
  exact h_s

theorem reportLowered_keep {s0 : State} (h : HeldFrame) (a : State × TchOut) (h_a : Keep s0 a.1) :
    Keep s0 (reportLowered h a).1 := by
  unfold reportLowered
  apply reportCancelled_keep
  exact h_a

theorem mutualFrame_keep {s0 : State} (h : HeldFrame) (s : State) (h_s : Keep s0 s) :
    Keep s0 (mutualFrame h s) := by
  unfold mutualFrame
  split
  rename_i y0 y0' y0'' y0'''
  refine keep_bind (s0 := s0) _ (keep_of1 y0''' ?_) (fun h0 => ?_)
  · apply reportLowered_keep
    refine keep_pair1 ?_
    exact h_s
  · split
    rename_i y1 y1' y1'' y1'''
    refine keep_bind (s0 := s0) _ (keep_of1 y1''' ?_) (fun h1 => ?_)
    · refine keep_foldl1 ?_ ?_
      · intro a0 a1 h1
        apply regionFrame_keep
        exact h1
      · refine keep_pair1 ?_
        exact h0
    · split
      rename_i y2 y2' y2'' y2'''
      refine keep_bind (s0 := s0) _ (keep_of1 y2''' ?_) (fun h2 => ?_)
      · apply controlsFrame_keep
        exact h1
      · apply finishMutual_keep
        exact h2

theorem execTouchMutualFrame_keep {s0 : State} (late : Bool) (s : State) (h_s : Keep s0 s) :
    KeepO s0 (execTouchMutualFrame late s) := by
  unfold execTouchMutualFrame
  split
  · rename_i y0 y0'
    refine KeepO.next ?_
    exact h_s
  · rename_i y0 y0' y0'' y0''' y0''''
    refine keep_bind (s0 := s0) _ (takeTodo_keepSome y0'''' ?_) (fun h0 => ?_)
    · exact h_s
    · refine KeepO.ite ?_ ?_
      · refine KeepO.next ?_
        apply settleEpochs_keep
        exact h0
      · extract_lets +onlyGivenNames x0
        refine keep_bind (s0 := s0) x0 ?_ (fun h1 => ?_)
        · unfold x0; clear x0
          refine keep_ite ?_ ?_
          · apply mutualFrame_keep
            exact h0
          · exact h0
        · clear_value x0
          refine KeepO.next ?_
          apply settleEpochs_keep
          refine keep_ite ?_ ?_
          · apply raise_keep
            exact h1
          · exact h1

theorem setSelfBase_keep {s0 : State} (i : Nat) (b : Int) (s : State) (h_s : Keep s0 s) :
    Keep s0 (setSelfBase i b s) := by
  unfold setSelfBase
  refine keep_mkW rfl ?_ (fun w => w) (fun w => w) ?_
  · intro w0
    with_reducible apply memWrite_wf
    with_reducible exact w0
  · exact h_s

theorem selfLine_keep {s0 : State} (i : Nat) (v : Option Int) (a : State × List (Option Int)) (h_a : Keep s0 a.1) :
    Keep s0 (selfLine i v a).1 := by
  unfold selfLine
  split
  rename_i y0 y0' y0''
  split
  · rename_i y1
    refine keep_pair1 ?_
    exact h_a
  · rename_i y1 y1'
    refine keep_ite1 ?_ ?_
    · refine keep_pair1 ?_
      apply setSelfBase_keep
      exact h_a
    · extract_lets +onlyGivenNames x0; clear_value x0
      extract_lets +onlyGivenNames x1; clear_value x1
      extract_lets +onlyGivenNames x2; clear_value x2
      extract_lets +onlyGivenNames x3; clear_value x3
      extract_lets +onlyGivenNames x4; clear_value x4
      refine keep_pair1 ?_
      refine keep_ite ?_ ?_
      · exact h_a
      · apply setSelfBase_keep
        exact h_a

theorem selfFrame_keep {s0 : State} (h : HeldFrame) (s : State) (h_s : Keep s0 s) :
    Keep s0 (selfFrame h s) := by
  unfold selfFrame
  extract_lets +onlyGivenNames x0; clear_value x0
  extract_lets +onlyGivenNames x1; clear_value x1
  extract_lets +onlyGivenNames x2; clear_value x2
  extract_lets +onlyGivenNames x3; clear_value x3
  extract_lets +onlyGivenNames x4; clear_value x4
  extract_lets +onlyGivenNames x5; clear_value x5
  split
  rename_i y0 y0' y0'' y0'''
  refine keep_bind (s0 := s0) _ (keep_of1 y0''' ?_) (fun h0 => ?_)
  · split
    · rename_i y1 y1'
      refine keep_pair1 ?_
      exact h_s
    · rename_i y1 y1' y1''
      extract_lets +onlyGivenNames x6; clear_value x6
      refine keep_ite1 ?_ ?_
      · refine keep_pair1 ?_
        refine keep_mk rfl rfl rfl rfl ?_
        exact h_s
      · extract_lets +onlyGivenNames x7
        refine keep_bind (s0 := s0) x7 ?_ (fun h0 => ?_)
        · unfold x7; clear x7
          refine keep_foldl ?_ ?_
          · intro a0 a1 h0
            split
            · rename_i y2 y2' y2''
              apply setSelfBase_keep
              exact h0
            · rename_i y2 y2'
              refine keep_mk rfl rfl rfl rfl ?_
              exact h0
          · exact h_s
        · clear_value x7
          refine keep_pair1 ?_
          refine keep_mk rfl rfl rfl rfl ?_
          exact h0
  · refine keep_ite ?_ ?_
    · exact h0
    · split
      rename_i y1 y1' y1'' y1'''
      refine keep_bind (s0 := s0) _ (keep_of1 y1''' ?_) (fun h1 => ?_)
      · refine keep_foldl1 ?_ ?_
        · intro a0 a1 h1
          apply selfLine_keep
          exact h1
        · refine keep_pair1 ?_
          exact h0
      · extract_lets +onlyGivenNames x6; clear_value x6
        extract_lets +onlyGivenNames x7
        refine keep_bind (s0 := s0) x7 ?_ (fun h2 => ?_)
        · unfold x7; clear x7
          refine keep_mk rfl rfl rfl rfl ?_
          exact h1
        · clear_value x7
          split
          rename_i y2 y2' y2'' y2'''
          refine keep_bind (s0 := s0) _ (keep_of1 y2''' ?_) (fun h3 => ?_)
          · apply controlsFrame_keep
            exact h2
          · refine keep_ite ?_ ?_
            · exact h3
            · apply emit_keep
              exact h3

theorem tchDrain_keep {s0 : State} (s : State) (h_s : Keep s0 s) :
    Keep s0 (tchDrain s) := by
  unfold tchDrain
  extract_lets +onlyGivenNames x0; clear_value x0
  extract_lets +onlyGivenNames x1; clear_value x1
  extract_lets +onlyGivenNames x2
  refine keep_bind (s0 := s0) x2 ?_ (fun h0 => ?_)
  · unfold x2; clear x2
    refine keep_mk rfl rfl rfl rfl ?_
    exact h_s
  · clear_value x2
    refine keep_ite ?_ ?_
    · exact h0
    · refine keep_foldl ?_ ?_
      · intro a0 a1 h1
        refine keep_ite ?_ ?_
        · refine keep_ite ?_ ?_
          · apply mutualFrame_keep
            exact h1
          · apply selfFrame_keep
            exact h1
        · exact h1
      · exact h0

theorem execTouchSelfFrame_keep {s0 : State} (late : Bool) (s : State) (h_s : Keep s0 s) :
    KeepO s0 (execTouchSelfFrame late s) := by
  unfold execTouchSelfFrame
  split
  · rename_i y0 y0'
    refine KeepO.next ?_
    exact h_s
  · rename_i y0 y0' y0'' y0''' y0''''
    refine keep_bind (s0 := s0) _ (takeTodo_keepSome y0'''' ?_) (fun h0 => ?_)
    · exact h_s
    · refine KeepO.ite ?_ ?_
      · refine KeepO.next ?_
        apply settleEpochs_keep
        exact h0
      · extract_lets +onlyGivenNames x0
        refine keep_bind (s0 := s0) x0 ?_ (fun h1 => ?_)
        · unfold x0; clear x0
          refine keep_ite ?_ ?_
          · apply selfFrame_keep
            exact h0
          · exact h0
        · clear_value x0
          refine KeepO.next ?_
          apply settleEpochs_keep
          refine keep_ite ?_ ?_
          · apply raise_keep
            exact h1
          · exact h1

end Sys2Proof.Machine
end

