-- ==== Sys2Proof/Laws/KeepTouchCmd.lean ====
section
/-! SUPPORT. Every operation of Machine/TouchCmd.lean keeps the queue and the canonical memories. -/
namespace Sys2Proof.Machine

open Sys2Proof

theorem rescaleRegion_keep {s0 : State} (r : Region) (gold : Nat) (s : State) (h_s : Keep s0 s) :
    Keep s0 (rescaleRegion r gold s) := by
  unfold rescaleRegion
  extract_lets +onlyGivenNames x0; clear_value x0
  extract_lets +onlyGivenNames x1; clear_value x1
  extract_lets +onlyGivenNames x2
  extract_lets +onlyGivenNames x3; clear_value x3
  extract_lets +onlyGivenNames x4; clear_value x4
  refine keep_mkW rfl ?_ (fun w => w) (fun w => w) ?_
  · intro w0
    unfold x2
    refine memFold_wf ?_ ?_
    · intro a0 a1 w1
      (extract_lets +onlyGivenNames x5; clear_value x5)
      (extract_lets +onlyGivenNames x6; clear_value x6)
      with_reducible apply memWrite_wf
      with_reducible exact w1
    · with_reducible exact w0
  · exact h_s

theorem lowerMax_keep {s0 : State} (s : State) (h_s : Keep s0 s) :
    Keep s0 (lowerMax s) := by
  unfold lowerMax
  extract_lets +onlyGivenNames x0; clear_value x0
  extract_lets +onlyGivenNames x1; clear_value x1
  extract_lets +onlyGivenNames x2; clear_value x2
  extract_lets +onlyGivenNames x3; clear_value x3
  refine keep_mk rfl rfl rfl rfl ?_
  exact h_s

theorem tchBoundary_keep {s0 : State} (old : RegFile) (s : State) (h_s : Keep s0 s) :
    Keep s0 (tchBoundary old s) := by
  unfold tchBoundary
  extract_lets +onlyGivenNames x0; clear_value x0
  extract_lets +onlyGivenNames x1; clear_value x1
  extract_lets +onlyGivenNames x2
  refine keep_bind (s0 := s0) x2 ?_ (fun h0 => ?_)
  · unfold x2; clear x2
    refine keep_foldl ?_ ?_
    · intro a0 a1 h0
      refine keep_ite ?_ ?_
      · extract_lets +onlyGivenNames x2
        refine keep_bind (s0 := s0) x2 ?_ (fun h1 => ?_)
        · unfold x2; clear x2
          apply cancelContacts_keep
          exact h0
        · clear_value x2
          extract_lets +onlyGivenNames x3
          refine keep_bind (s0 := s0) x3 ?_ (fun h2 => ?_)
          · unfold x3; clear x3
            refine keep_ite ?_ ?_
            · refine keep_mkW rfl ?_ (fun w => w) (fun w => w) ?_
              · intro w0
                refine memFold_wf ?_ ?_
                · intro a2 a3 w1
                  with_reducible apply memWrite_wf
                  with_reducible exact w1
                · with_reducible exact w0
              · exact h1
            · exact h1
          · clear_value x3
            refine keep_ite ?_ ?_
            · exact h2
            · apply modRegion_keep
              exact h2
      · refine keep_ite ?_ ?_
        · apply rescaleRegion_keep
          exact h0
        · exact h0
    · exact h_s
  · clear_value x2
    extract_lets +onlyGivenNames x3; clear_value x3
    extract_lets +onlyGivenNames x4; clear_value x4
    extract_lets +onlyGivenNames x5; clear_value x5
    extract_lets +onlyGivenNames x6; clear_value x6
    extract_lets +onlyGivenNames x7
    refine keep_bind (s0 := s0) x7 ?_ (fun h1 => ?_)
    · unfold x7; clear x7
      apply startWindows_keep
      exact h0
    · clear_value x7
      extract_lets +onlyGivenNames x8; clear_value x8
      extract_lets +onlyGivenNames x9
      refine keep_bind (s0 := s0) x9 ?_ (fun h2 => ?_)
      · unfold x9; clear x9
        refine keep_foldl ?_ ?_
        · intro a0 a1 h2
          apply startWindows_keep
          exact h2
        · refine keep_mk rfl rfl rfl rfl ?_
          exact h1
      · clear_value x9
        apply lowerMax_keep
        exact h2

theorem tchStart_keep {s0 : State} (s : State) (h_s : Keep s0 s) :
    Keep s0 (tchStart s) := by
  unfold tchStart
  extract_lets +onlyGivenNames x0; clear_value x0
  extract_lets +onlyGivenNames x1
  refine keep_bind (s0 := s0) x1 ?_ (fun h0 => ?_)
  · unfold x1; clear x1
    refine keep_mk rfl rfl rfl rfl ?_
    exact h_s
  · clear_value x1
    apply startWindows_keep
    exact h0

theorem tchStop_keep {s0 : State} (stop : Word) (t0 : Nat) (s : State) (h_s : Keep s0 s) :
    Keep s0 (tchStop stop t0 s) := by
  unfold tchStop
  extract_lets +onlyGivenNames x0
  refine keep_bind (s0 := s0) x0 ?_ (fun h0 => ?_)
  · unfold x0; clear x0
    apply cancelContacts_keep
    apply tchDrain_keep
    exact h_s
  · clear_value x0
    split
    rename_i y0 y0' y0'' y0'''
    refine keep_bind (s0 := s0) _ (keep_of1 y0''' ?_) (fun h1 => ?_)
    · apply reportCancelled_keep
      exact h0
    · extract_lets +onlyGivenNames x1; clear_value x1
      extract_lets +onlyGivenNames x2; clear_value x2
      extract_lets +onlyGivenNames x3
      refine keep_bind (s0 := s0) x3 ?_ (fun h2 => ?_)
      · unfold x3; clear x3
        apply emit_keep
        exact h1
      · clear_value x3
        apply showContacts_keep
        refine keep_mk rfl rfl rfl rfl ?_
        exact h2

theorem tchRc_keep {s0 : State} (o : Nat) (s : State) (h_s : Keep s0 s) :
    Keep s0 (tchRc o s) := by
  unfold tchRc
  refine keep_ite ?_ ?_
  · refine keep_mk rfl rfl rfl rfl ?_
    exact h_s
  · refine keep_ite ?_ ?_
    · refine keep_mk rfl rfl rfl rfl ?_
      exact h_s
    · exact h_s

theorem touchConfigBody_keep {s0 : State} (p : Packet) (s : State) (h_s : Keep s0 s) :
    Keep s0 (touchConfigBody p s).st := by
  unfold touchConfigBody
  extract_lets +onlyGivenNames x0; clear_value x0
  extract_lets +onlyGivenNames x1; clear_value x1
  extract_lets +onlyGivenNames x2; clear_value x2
  extract_lets +onlyGivenNames x3; clear_value x3
  extract_lets +onlyGivenNames x4; clear_value x4
  apply checked_keep
  · exact h_s
  · intro a0
    apply okCmd_keep
    apply applyNow_keep
    apply applyNow_keep
    apply withShadow_keep
    exact h_s

theorem controlDefineBody_keep {s0 : State} (p : Packet) (s : State) (h_s : Keep s0 s) :
    Keep s0 (controlDefineBody p s).st := by
  unfold controlDefineBody
  extract_lets +onlyGivenNames x0; clear_value x0
  extract_lets +onlyGivenNames x1; clear_value x1
  extract_lets +onlyGivenNames x2; clear_value x2
  refine keep_iteC ?_ ?_
  · apply failCmd_keep
    exact h_s
  · extract_lets +onlyGivenNames x3; clear_value x3
    extract_lets +onlyGivenNames x4; clear_value x4
    apply checked_keep
    · exact h_s
    · intro a0
      apply okCmd_keep
      apply applyNow_keep
      apply withShadow_keep
      exact h_s

theorem gestureConfigBody_keep {s0 : State} (p : Packet) (s : State) (h_s : Keep s0 s) :
    Keep s0 (gestureConfigBody p s).st := by
  unfold gestureConfigBody
  extract_lets +onlyGivenNames x0; clear_value x0
  extract_lets +onlyGivenNames x1; clear_value x1
  extract_lets +onlyGivenNames x2; clear_value x2
  apply checked_keep
  · exact h_s
  · intro a0
    apply okCmd_keep
    apply applyNow_keep
    apply withShadow_keep
    exact h_s

theorem baselineResetBody_keep {s0 : State} (p : Packet) (s : State) (h_s : Keep s0 s) :
    Keep s0 (baselineResetBody p s).st := by
  unfold baselineResetBody
  extract_lets +onlyGivenNames x0; clear_value x0
  apply checked_keep
  · exact h_s
  · intro a0
    apply okCmd_keep
    refine keep_mk rfl rfl rfl rfl ?_
    exact h_s

theorem contactPolicyBody_keep {s0 : State} (p : Packet) (s : State) (h_s : Keep s0 s) :
    Keep s0 (contactPolicyBody p s).st := by
  unfold contactPolicyBody
  extract_lets +onlyGivenNames x0; clear_value x0
  extract_lets +onlyGivenNames x1; clear_value x1
  apply checked_keep
  · exact h_s
  · intro a0
    apply okCmd_keep
    apply applyNow_keep
    apply withShadow_keep
    exact h_s

theorem readContactsBody_keep {s0 : State} (p : Packet) (s : State) (h_s : Keep s0 s) :
    Keep s0 (readContactsBody p s).st := by
  unfold readContactsBody
  split
  · rename_i y0 y0'
    apply checked_keep
    · exact h_s
    · intro a0
      apply okCmd_keep
      exact h_s
  · rename_i y0 y0' y0'' y0'''
    apply checked_keep
    · exact h_s
    · intro a0
      apply okCmd_keep
      exact h_s

theorem execTouchConfig_keep {s0 : State} (p : Packet) (s : State) (h_s : Keep s0 s) :
    KeepO s0 (execTouchConfig p s) := by
  unfold execTouchConfig
  refine KeepO.next ?_
  apply runCommand_keep
  · intro a0 a1 h0
    apply touchConfigBody_keep
    exact h0
  · exact h_s

theorem execControlDefine_keep {s0 : State} (p : Packet) (s : State) (h_s : Keep s0 s) :
    KeepO s0 (execControlDefine p s) := by
  unfold execControlDefine
  refine KeepO.next ?_
  apply runCommand_keep
  · intro a0 a1 h0
    apply controlDefineBody_keep
    exact h0
  · exact h_s

theorem execGestureConfig_keep {s0 : State} (p : Packet) (s : State) (h_s : Keep s0 s) :
    KeepO s0 (execGestureConfig p s) := by
  unfold execGestureConfig
  refine KeepO.next ?_
  apply runCommand_keep
  · intro a0 a1 h0
    apply gestureConfigBody_keep
    exact h0
  · exact h_s

theorem execBaselineReset_keep {s0 : State} (p : Packet) (s : State) (h_s : Keep s0 s) :
    KeepO s0 (execBaselineReset p s) := by
  unfold execBaselineReset
  refine KeepO.next ?_
  apply runCommand_keep
  · intro a0 a1 h0
    apply baselineResetBody_keep
    exact h0
  · exact h_s

theorem execContactPolicy_keep {s0 : State} (p : Packet) (s : State) (h_s : Keep s0 s) :
    KeepO s0 (execContactPolicy p s) := by
  unfold execContactPolicy
  refine KeepO.next ?_
  apply runCommand_keep
  · intro a0 a1 h0
    apply contactPolicyBody_keep
    exact h0
  · exact h_s

theorem execReadContacts_keep {s0 : State} (p : Packet) (s : State) (h_s : Keep s0 s) :
    KeepO s0 (execReadContacts p s) := by
  unfold execReadContacts
  refine KeepO.next ?_
  apply runCommand_keep
  · intro a0 a1 h0
    apply readContactsBody_keep
    exact h0
  · exact h_s

end Sys2Proof.Machine
end

