-- ==== Sys2Proof/Laws/KeepRes.lean ====
section
/-! SUPPORT. Every operation of Machine/Res.lean keeps the queue and the canonical memories. -/
namespace Sys2Proof.Machine

open Sys2Proof

theorem layOut_wf {α β : Type} (c : β × α × Memory → Rec → Bool) (u : β × α × Memory → Rec → β) (v : β × α × Memory → Rec → α)
    (w1 : β × α × Memory → Rec → β) (p q : Nat) (r : β × α × Memory → Nat) (l : List Rec) (a : β × α × Memory) (h : Memory.wf a.2.2 = true) :
    Memory.wf (l.foldl (fun a x => if c a x then (w1 a x, a.2) else (u a x, v a x, placeBytes p q (r a) x.bytes a.2.2)) a).2.2 = true := by
  induction l generalizing a with
  | nil => exact h
  | cons x l ih =>
    refine ih _ ?_
    beta_reduce
    split
    · exact h
    · exact placeBytes_wf _ _ _ _ h

theorem layOut_keep {s0 : State} (k : Fin 16) (s : State) (h_s : Keep s0 s) :
    Keep s0 (layOut k s) := by
  unfold layOut
  extract_lets +onlyGivenNames x0; clear_value x0
  extract_lets +onlyGivenNames x1; clear_value x1
  split
  rename_i y0 y1 y2 y3 y4
  refine keep_mkW rfl (fun w => w) (fun w => ?_) (fun w => w) h_s
  have h := layOut_wf (fun _ r => inSlot x0 r || x1 == 0) (fun a r => a.1 ++ [{ r with off := a.2.1 }])
    (fun a r => (a.2.1 + r.bytes.length) % x1) (fun a r => a.1 ++ [r]) x0.base x1 (fun a => a.2.1) x0.recs ([], 0, s.res.mem) w
  rw [y4] at h
  exact h

theorem grant_keep {s0 : State} (k : Fin 16) (base pages e rate : Nat) (s : State) (h_s : Keep s0 s) :
    Keep s0 (grant k base pages e rate s) := by
  unfold grant
  extract_lets +onlyGivenNames x0; clear_value x0
  extract_lets +onlyGivenNames x1; clear_value x1
  extract_lets +onlyGivenNames x2
  refine keep_bind (s0 := s0) x2 ?_ (fun h0 => ?_)
  · unfold x2; clear x2
    apply modStream_keep
    exact h_s
  · clear_value x2
    refine keep_ite ?_ ?_
    · apply layOut_keep
      exact h0
    · exact h0

theorem reservePort_keep {s0 : State} (src : Byte) (k : Nat) (n : Fin 4) (rate : Nat) (s : State) (h_s : Keep s0 s) :
    Keep s0 ((reservePort src k n rate s).getD s0) := by
  unfold reservePort
  extract_lets +onlyGivenNames x0; clear_value x0
  extract_lets +onlyGivenNames x1; clear_value x1
  extract_lets +onlyGivenNames x2
  refine keep_bind (s0 := s0) x2 ?_ (fun h0 => ?_)
  · unfold x2; clear x2
    refine keep_mk rfl rfl rfl rfl ?_
    exact h_s
  · clear_value x2
    refine keep_iteO ?_ ?_
    · refine keep_some ?_
      refine keep_mk rfl rfl rfl rfl ?_
      exact h0
    · refine keep_none ?_
      exact Keep.refl _

theorem unreserve_keep {s0 : State} (src : Byte) (k : Nat) (s : State) (h_s : Keep s0 s) :
    Keep s0 (unreserve src k s) := by
  unfold unreserve
  refine keep_mk rfl rfl rfl rfl ?_
  exact h_s

theorem releaseRoute_keep {s0 : State} (k : Fin 16) (s : State) (h_s : Keep s0 s) :
    Keep s0 (releaseRoute k s) := by
  unfold releaseRoute
  extract_lets +onlyGivenNames x0; clear_value x0
  refine keep_ite ?_ ?_
  · extract_lets +onlyGivenNames x1
    refine keep_bind (s0 := s0) x1 ?_ (fun h0 => ?_)
    · unfold x1; clear x1
      apply unreserve_keep
      exact h_s
    · clear_value x1
      apply sendRouted_keep
      exact h0
  · exact h_s

theorem askFail_keep {s0 : State} (k : Fin 16) (s : State) (h_s : Keep s0 s) :
    Keep s0 (askFail k s) := by
  unfold askFail
  split
  · rename_i y0 y0'
    exact h_s
  · rename_i y0 y0' y0''
    extract_lets +onlyGivenNames x0
    refine keep_bind (s0 := s0) x0 ?_ (fun h0 => ?_)
    · unfold x0; clear x0
      apply releaseRoute_keep
      apply modStream_keep
      exact h_s
    · clear_value x0
      apply reply_keep
      exact h0

theorem withdraw_keep {s0 : State} (k : Fin 16) (s : State) (h_s : Keep s0 s) :
    Keep s0 (withdraw k s) := by
  unfold withdraw
  extract_lets +onlyGivenNames x0
  refine keep_bind (s0 := s0) x0 ?_ (fun h0 => ?_)
  · unfold x0; clear x0
    apply askFail_keep
    exact h_s
  · clear_value x0
    extract_lets +onlyGivenNames x1; clear_value x1
    extract_lets +onlyGivenNames x2
    refine keep_bind (s0 := s0) x2 ?_ (fun h1 => ?_)
    · unfold x2; clear x2
      refine keep_ite ?_ ?_
      · apply releaseRoute_keep
        exact h0
      · exact h0
    · clear_value x2
      apply modStream_keep
      exact h1

theorem streamDefineBody_keep {s0 : State} (p : Packet) (s : State) (h_s : Keep s0 s) :
    Keep s0 (streamDefineBody p s).st := by
  unfold streamDefineBody
  extract_lets +onlyGivenNames x0
  extract_lets +onlyGivenNames x1
  extract_lets +onlyGivenNames x2; clear_value x2
  apply checked_keep
  · exact h_s
  · intro a0
    extract_lets +onlyGivenNames x3
    refine keep_bind (s0 := s0) x3 ?_ (fun h0 => ?_)
    · unfold x3; clear x3
      apply withShadow_keep
      apply withdraw_keep
      exact h_s
    · clear_value x3
      apply okCmd_keep
      apply modStream_keep
      exact h0

theorem streamAdmitBody_keep {s0 : State} (p : Packet) (s : State) (h_s : Keep s0 s) :
    Keep s0 (streamAdmitBody p s).st := by
  unfold streamAdmitBody
  extract_lets +onlyGivenNames x0
  extract_lets +onlyGivenNames x1
  extract_lets +onlyGivenNames x2; clear_value x2
  apply checked_keep
  · exact h_s
  · intro a0
    extract_lets +onlyGivenNames x3; clear_value x3
    split
    rename_i y0 y0' y0'' y0''' y0'''' y0''''' y0''''''
    extract_lets +onlyGivenNames x4; clear_value x4
    extract_lets +onlyGivenNames x5
    refine keep_bindP (P := ∀ a0, Keep s0 (x5 a0).st) ?_ (fun h0 => ?_)
    · unfold x5; clear x5
      intro a1
      refine keep_cmd ?_
      exact h_s
    · clear_value x5
      refine keep_iteC ?_ ?_
      · apply h0
      · refine keep_iteC ?_ ?_
        · apply okCmd_keep
          apply grant_keep
          exact h_s
        · extract_lets +onlyGivenNames x6; clear_value x6
          split
          · rename_i y1 y1'
            apply h0
          · rename_i y1 y1' y1''
            split
            · rename_i y2 y2'
              apply h0
            · rename_i y2 y2' y2''
              refine keep_bind (s0 := s0) _ (keep_ofsome (d := s0) y2'' ?_) (fun h1 => ?_)
              · apply reservePort_keep
                exact h_s
              · extract_lets +onlyGivenNames x7
                refine keep_bind (s0 := s0) x7 ?_ (fun h2 => ?_)
                · unfold x7; clear x7
                  apply modStream_keep
                  exact h1
                · clear_value x7
                  refine keep_cmd ?_
                  apply sendRouted_keep
                  exact h2

theorem streamStartBody_keep {s0 : State} (p : Packet) (s : State) (h_s : Keep s0 s) :
    Keep s0 (streamStartBody p s).st := by
  unfold streamStartBody
  extract_lets +onlyGivenNames x0; clear_value x0
  extract_lets +onlyGivenNames x1; clear_value x1
  apply checked_keep
  · exact h_s
  · intro a0
    extract_lets +onlyGivenNames x2; clear_value x2
    extract_lets +onlyGivenNames x3; clear_value x3
    extract_lets +onlyGivenNames x4
    refine keep_bind (s0 := s0) x4 ?_ (fun h0 => ?_)
    · unfold x4; clear x4
      refine keep_foldl ?_ ?_
      · intro a1 a2 h0
        apply modStream_keep
        exact h0
      · exact h_s
    · clear_value x4
      apply okCmd_keep
      exact h0

theorem streamStopBody_keep {s0 : State} (p : Packet) (s : State) (h_s : Keep s0 s) :
    Keep s0 (streamStopBody p s).st := by
  unfold streamStopBody
  extract_lets +onlyGivenNames x0; clear_value x0
  extract_lets +onlyGivenNames x1; clear_value x1
  apply checked_keep
  · exact h_s
  · intro a0
    extract_lets +onlyGivenNames x2; clear_value x2
    extract_lets +onlyGivenNames x3; clear_value x3
    extract_lets +onlyGivenNames x4
    refine keep_bind (s0 := s0) x4 ?_ (fun h0 => ?_)
    · unfold x4; clear x4
      refine keep_foldl ?_ ?_
      · intro a1 a2 h0
        apply modStream_keep
        exact h0
      · exact h_s
    · clear_value x4
      apply okCmd_keep
      exact h0

theorem releaseRecs_keep {s0 : State} (k : Fin 16) (gone : Rec → Bool) (s : State) (h_s : Keep s0 s) :
    Keep s0 (releaseRecs k gone s) := by
  unfold releaseRecs
  apply modStream_keep
  exact h_s

theorem streamReadBody_keep {s0 : State} (p : Packet) (s : State) (h_s : Keep s0 s) :
    Keep s0 (streamReadBody p s).st := by
  unfold streamReadBody
  extract_lets +onlyGivenNames x0
  extract_lets +onlyGivenNames x1
  apply checked_keep
  · exact h_s
  · intro a0
    extract_lets +onlyGivenNames x2
    refine keep_bind (s0 := s0) x2 ?_ (fun h0 => ?_)
    · unfold x2; clear x2
      apply releaseRecs_keep
      exact h_s
    · clear_value x2
      extract_lets +onlyGivenNames x3; clear_value x3
      extract_lets +onlyGivenNames x4; clear_value x4
      extract_lets +onlyGivenNames x5; clear_value x5
      extract_lets +onlyGivenNames x6; clear_value x6
      apply okCmd_keep
      exact h0

theorem drainDeclareBody_keep {s0 : State} (p : Packet) (s : State) (h_s : Keep s0 s) :
    Keep s0 (drainDeclareBody p s).st := by
  unfold drainDeclareBody
  extract_lets +onlyGivenNames x0; clear_value x0
  extract_lets +onlyGivenNames x1; clear_value x1
  extract_lets +onlyGivenNames x2; clear_value x2
  extract_lets +onlyGivenNames x3; clear_value x3
  apply checked_keep
  · exact h_s
  · intro a0
    apply okCmd_keep
    apply withShadow_keep
    exact h_s

theorem execStreamDefine_keep {s0 : State} (p : Packet) (s : State) (h_s : Keep s0 s) :
    KeepO s0 (execStreamDefine p s) := by
  unfold execStreamDefine
  refine KeepO.next ?_
  apply runCommand_keep
  · intro a0 a1 h0
    apply streamDefineBody_keep
    exact h0
  · exact h_s

theorem execStreamAdmit_keep {s0 : State} (p : Packet) (s : State) (h_s : Keep s0 s) :
    KeepO s0 (execStreamAdmit p s) := by
  unfold execStreamAdmit
  refine KeepO.next ?_
  apply runCommand_keep
  · intro a0 a1 h0
    apply streamAdmitBody_keep
    exact h0
  · exact h_s

theorem execStreamStart_keep {s0 : State} (p : Packet) (s : State) (h_s : Keep s0 s) :
    KeepO s0 (execStreamStart p s) := by
  unfold execStreamStart
  refine KeepO.next ?_
  apply runCommand_keep
  · intro a0 a1 h0
    apply streamStartBody_keep
    exact h0
  · exact h_s

theorem execStreamStop_keep {s0 : State} (p : Packet) (s : State) (h_s : Keep s0 s) :
    KeepO s0 (execStreamStop p s) := by
  unfold execStreamStop
  refine KeepO.next ?_
  apply runCommand_keep
  · intro a0 a1 h0
    apply streamStopBody_keep
    exact h0
  · exact h_s

theorem execStreamRead_keep {s0 : State} (p : Packet) (s : State) (h_s : Keep s0 s) :
    KeepO s0 (execStreamRead p s) := by
  unfold execStreamRead
  refine KeepO.next ?_
  apply runCommand_keep
  · intro a0 a1 h0
    apply streamReadBody_keep
    exact h0
  · exact h_s

theorem execDrainDeclare_keep {s0 : State} (p : Packet) (s : State) (h_s : Keep s0 s) :
    KeepO s0 (execDrainDeclare p s) := by
  unfold execDrainDeclare
  refine KeepO.next ?_
  apply runCommand_keep
  · intro a0 a1 h0
    apply drainDeclareBody_keep
    exact h0
  · exact h_s

theorem grantReceive_keep {s0 : State} (q : AdmissionReq) (s : State) (h_s : Keep s0 s) :
    Keep s0 ((grantReceive q s).getD s0) := by
  unfold grantReceive
  extract_lets +onlyGivenNames x0; clear_value x0
  extract_lets +onlyGivenNames x1; clear_value x1
  extract_lets +onlyGivenNames x2; clear_value x2
  split
  · rename_i y0 y0'
    refine keep_none ?_
    exact Keep.refl _
  · rename_i y0 y0' y0''
    extract_lets +onlyGivenNames x3; clear_value x3
    extract_lets +onlyGivenNames x4; clear_value x4
    extract_lets +onlyGivenNames x5; clear_value x5
    refine keep_iteO ?_ ?_
    · refine keep_none ?_
      exact Keep.refl _
    · split
      · rename_i y1 y1'
        refine keep_none ?_
        exact Keep.refl _
      · rename_i y1 y1' y1''
        extract_lets +onlyGivenNames x6; clear_value x6
        extract_lets +onlyGivenNames x7
        refine keep_bind (s0 := s0) x7 ?_ (fun h0 => ?_)
        · unfold x7; clear x7
          apply grant_keep
          apply setShw_keep
          exact h_s
        · clear_value x7
          refine keep_some ?_
          apply modStream_keep
          exact h0

theorem execAdmissionRequestReceive_keep {s0 : State} (_p : Fin 4) (q : AdmissionReq) (s : State) (h_s : Keep s0 s) :
    KeepO s0 (execAdmissionRequestReceive _p q s) := by
  unfold execAdmissionRequestReceive
  extract_lets +onlyGivenNames x0; clear_value x0
  extract_lets +onlyGivenNames x1; clear_value x1
  extract_lets +onlyGivenNames x2
  refine keep_bindP (P := ∀ a0 a1 a2, Keep s0 a2 → Keep s0 (x2 a0 a1 a2)) ?_ (fun h0 => ?_)
  · unfold x2; clear x2
    intro a0 a1 a2 h0
    apply sendRouted_keep
    exact h0
  · clear_value x2
    extract_lets +onlyGivenNames x3
    refine keep_bindP (P := ∀ a0, Keep s0 a0 → Keep s0 (x3 a0)) ?_ (fun h1 => ?_)
    · unfold x3; clear x3
      intro a0 h1
      extract_lets +onlyGivenNames x3; clear_value x3
      apply sendRouted_keep
      exact h1
    · clear_value x3
      refine KeepO.next ?_
      refine keep_ite ?_ ?_
      · refine keep_ite ?_ ?_
        · split
          · rename_i y0 y0' y0''
            apply setShw_keep
            apply withdraw_keep
            exact h_s
          · rename_i y0 y0'
            exact h_s
        · split
          · rename_i y0 y0' y0''
            refine keep_bind (s0 := s0) _ (keep_ofsome (d := s0) y0'' ?_) (fun h2 => ?_)
            · apply grantReceive_keep
              exact h_s
            · apply h0
              exact h2
          · rename_i y0 y0'
            apply h0
            exact h_s
      · refine keep_ite ?_ ?_
        · apply h1
          apply unreserve_keep
          exact h_s
        · split
          · rename_i y0 y0'
            apply h0
            exact h_s
          · rename_i y0 y0' y0''
            split
            · rename_i y1 y1' y1''
              refine keep_bind (s0 := s0) _ (keep_ofsome (d := s0) y1'' ?_) (fun h2 => ?_)
              · apply reservePort_keep
                exact h_s
              · apply h1
                apply h0
                exact h2
            · rename_i y1 y1'
              apply h0
              exact h_s

theorem execAdmissionReplyReceive_keep {s0 : State} (_src : Byte) (a : AdmissionReply) (s : State) (h_s : Keep s0 s) :
    KeepO s0 (execAdmissionReplyReceive _src a s) := by
  unfold execAdmissionReplyReceive
  refine KeepO.next ?_
  split
  · rename_i y0 y0'
    exact h_s
  · rename_i y0 y0' y0''
    refine keep_ite ?_ ?_
    · apply askFail_keep
      exact h_s
    · refine keep_ite ?_ ?_
      · apply reply_keep
        apply grant_keep
        exact h_s
      · exact h_s

theorem closeMarks_keep {s0 : State} (e : Word) (s : State) (h_s : Keep s0 s) :
    Keep s0 (closeMarks e s) := by
  unfold closeMarks
  refine keep_foldl ?_ ?_
  · intro a0 a1 h0
    extract_lets +onlyGivenNames x0; clear_value x0
    extract_lets +onlyGivenNames x1
    refine keep_bind (s0 := s0) x1 ?_ (fun h1 => ?_)
    · unfold x1; clear x1
      refine keep_ite ?_ ?_
      · exact h0
      · apply putRecord_keep
        exact h0
    · clear_value x1
      apply modStream_keep
      exact h1
  · exact h_s

theorem stopStream_keep {s0 : State} (k : Fin 16) (s : State) (h_s : Keep s0 s) :
    Keep s0 (stopStream k s) := by
  unfold stopStream
  apply modStream_keep
  apply closeDarks_keep
  exact h_s

theorem stopStreams_keep {s0 : State} (s : State) (h_s : Keep s0 s) :
    Keep s0 (stopStreams s) := by
  unfold stopStreams
  refine keep_foldl ?_ ?_
  · intro a0 a1 h0
    apply modStream_keep
    refine keep_ite ?_ ?_
    · apply stopStream_keep
      exact h0
    · exact h0
  · exact h_s

theorem skipEpochs_keep {s0 : State} (first last : Word) (cause start stop : Nat) (s : State) (h_s : Keep s0 s) :
    Keep s0 (skipEpochs first last cause start stop s) := by
  unfold skipEpochs
  refine keep_foldl ?_ ?_
  · intro a0 a1 h0
    extract_lets +onlyGivenNames x0; clear_value x0
    extract_lets +onlyGivenNames x1; clear_value x1
    refine keep_ite ?_ ?_
    · exact h0
    · extract_lets +onlyGivenNames x2; clear_value x2
      extract_lets +onlyGivenNames x3; clear_value x3
      refine keep_foldl ?_ ?_
      · intro a2 a3 h1
        apply writeDark_keep
        exact h1
      · apply modStream_keep
        exact h0
  · exact h_s

theorem runStream_keep {s0 : State} (m : Word) (c : Schedule) (causes : List (Nat × Nat)) (k : Fin 16) (s : State) (h_s : Keep s0 s) :
    Keep s0 (runStream m c causes k s) := by
  unfold runStream
  extract_lets +onlyGivenNames x0; clear_value x0
  extract_lets +onlyGivenNames x1; clear_value x1
  extract_lets +onlyGivenNames x2; clear_value x2
  extract_lets +onlyGivenNames x3; clear_value x3
  extract_lets +onlyGivenNames x4; clear_value x4
  extract_lets +onlyGivenNames x5; clear_value x5
  extract_lets +onlyGivenNames x6; clear_value x6
  extract_lets +onlyGivenNames x7; clear_value x7
  extract_lets +onlyGivenNames x8; clear_value x8
  extract_lets +onlyGivenNames x9; clear_value x9
  extract_lets +onlyGivenNames x10
  refine keep_bind (s0 := s0) x10 ?_ (fun h0 => ?_)
  · unfold x10; clear x10
    apply modStream_keep
    exact h_s
  · clear_value x10
    extract_lets +onlyGivenNames x11
    refine keep_bind (s0 := s0) x11 ?_ (fun h1 => ?_)
    · unfold x11; clear x11
      refine keep_ite ?_ ?_
      · apply raise_keep
        exact h0
      · exact h0
    · clear_value x11
      apply darkEpoch_keep
      exact h1

theorem resBoundary_keep {s0 : State} (m : Word) (c : Schedule) (causes : List (Nat × Nat)) (s : State) (h_s : Keep s0 s) :
    Keep s0 (resBoundary m c causes s) := by
  unfold resBoundary
  extract_lets +onlyGivenNames x0; clear_value x0
  extract_lets +onlyGivenNames x1; clear_value x1
  extract_lets +onlyGivenNames x2
  refine keep_bind (s0 := s0) x2 ?_ (fun h0 => ?_)
  · unfold x2; clear x2
    refine keep_foldl ?_ ?_
    · intro a0 a1 h0
      refine keep_ite ?_ ?_
      · apply stopStream_keep
        exact h0
      · exact h0
    · exact h_s
  · clear_value x2
    extract_lets +onlyGivenNames x3
    extract_lets +onlyGivenNames x4
    refine keep_bind (s0 := s0) x4 ?_ (fun h1 => ?_)
    · unfold x4; clear x4
      refine keep_mk rfl rfl rfl rfl ?_
      exact h0
    · clear_value x4
      extract_lets +onlyGivenNames x5
      refine keep_bind (s0 := s0) x5 ?_ (fun h2 => ?_)
      · unfold x5; clear x5
        apply settleEpochs_keep
        exact h1
      · clear_value x5
        refine keep_foldl ?_ ?_
        · intro a0 a1 h3
          extract_lets +onlyGivenNames x6
          refine keep_bind (s0 := s0) x6 ?_ (fun h4 => ?_)
          · unfold x6; clear x6
            refine keep_ite ?_ ?_
            · apply modStream_keep
              exact h3
            · exact h3
          · clear_value x6
            refine keep_ite ?_ ?_
            · apply runStream_keep
              exact h4
            · exact h4
        · exact h2

theorem readPort_keep {s0 : State} (i : Iface) (n : Nat) (s : State) (h_s : Keep s0 s) :
    Keep s0 (readPort i n s).2 := by
  unfold readPort
  extract_lets +onlyGivenNames x0; clear_value x0
  extract_lets +onlyGivenNames x1; clear_value x1
  refine keep_pair2 ?_
  apply modPort_keep
  exact h_s

theorem commitPort_keep {s0 : State} (i : Iface) (s : State) (h_s : Keep s0 s) :
    Keep s0 (commitPort i s) := by
  unfold commitPort
  extract_lets +onlyGivenNames x0; clear_value x0
  extract_lets +onlyGivenNames x1
  refine keep_bind (s0 := s0) x1 ?_ (fun h0 => ?_)
  · unfold x1; clear x1
    apply modPort_keep
    exact h_s
  · clear_value x1
    refine keep_foldl ?_ ?_
    · intro a0 a1 h1
      apply releaseRecs_keep
      exact h1
    · exact h0

theorem rewindPort_keep {s0 : State} (i : Iface) (s : State) (h_s : Keep s0 s) :
    Keep s0 (rewindPort i s) := by
  unfold rewindPort
  apply modPort_keep
  exact h_s

theorem readAlarm_keep {s0 : State} (i : Iface) (s : State) (h_s : Keep s0 s) :
    Keep s0 (readAlarm i s).2 := by
  unfold readAlarm
  split
  · rename_i y0 y0'
    refine keep_pair2 ?_
    apply modPort_keep
    exact h_s
  · rename_i y0 y0' y0'' y0'''
    extract_lets +onlyGivenNames x0; clear_value x0
    extract_lets +onlyGivenNames x1; clear_value x1
    refine keep_pair2 ?_
    refine keep_mk rfl rfl (by split <;> rfl) rfl ?_
    exact h_s

theorem execDrainLate_keep {s0 : State} (k : Fin 16) (s : State) (h_s : Keep s0 s) :
    KeepO s0 (execDrainLate k s) := by
  unfold execDrainLate
  refine KeepO.next ?_
  extract_lets +onlyGivenNames x0; clear_value x0
  split
  · rename_i y0 y0' y0'' y0'''
    refine keep_ite ?_ ?_
    · exact h_s
    · apply raise_keep
      apply modStream_keep
      exact h_s
  · rename_i y0 y0'
    exact h_s

theorem resRc_keep {s0 : State} (o : Nat) (s : State) (h_s : Keep s0 s) :
    Keep s0 (resRc o s) := by
  unfold resRc
  refine keep_ite ?_ ?_
  · refine keep_mk rfl rfl rfl rfl ?_
    exact h_s
  · refine keep_ite ?_ ?_
    · apply modStream_keep
      exact h_s
    · exact h_s

theorem resTouch_keep {s0 : State} (o : Nat) (s : State) (h_s : Keep s0 s) :
    Keep s0 (resTouch o s) := by
  unfold resTouch
  refine keep_ite ?_ ?_
  · apply withdraw_keep
    exact h_s
  · exact h_s

end Sys2Proof.Machine
end

