-- ==== Sys2Proof/Laws/KeepTime.lean ====
section
/-! SUPPORT. Every operation of Machine/Time.lean keeps the queue and the canonical memories. -/
namespace Sys2Proof.Machine

open Sys2Proof

theorem rateFix_keep {s0 : State} (s : State) (h_s : Keep s0 s) :
    Keep s0 (rateFix s) := by
  unfold rateFix
  refine keep_ite ?_ ?_
  · apply setRate_keep
    exact h_s
  · exact h_s

theorem ppsFix_keep {s0 : State} (s : State) (h_s : Keep s0 s) :
    Keep s0 (ppsFix s) := by
  unfold ppsFix
  refine keep_ite ?_ ?_
  · refine keep_mk rfl rfl rfl rfl ?_
    exact h_s
  · refine keep_ite ?_ ?_
    · apply rateFix_keep
      refine keep_mk rfl rfl rfl rfl ?_
      exact h_s
    · exact h_s

theorem beaconFix_keep {s0 : State} (s : State) (h_s : Keep s0 s) :
    Keep s0 (beaconFix s) := by
  unfold beaconFix
  refine keep_ite ?_ ?_
  · refine keep_mk rfl rfl rfl rfl ?_
    exact h_s
  · exact h_s

theorem timeTouched_keep {s0 : State} (s : State) (h_s : Keep s0 s) :
    Keep s0 (timeTouched s) := by
  unfold timeTouched
  apply beaconFix_keep
  apply rateFix_keep
  apply ppsFix_keep
  exact h_s

theorem mark_keep {s0 : State} (time kind unit : Nat) (falling step : Bool) (data : Nat) (s : State) (h_s : Keep s0 s) :
    Keep s0 (mark time kind unit falling step data s) := by
  unfold mark
  apply addMark_keep
  exact h_s

theorem passTriggers_keep {s0 : State} (lim : Nat) (s : State) (h_s : Keep s0 s) :
    Keep s0 (passTriggers lim s) := by
  unfold passTriggers
  refine keep_foldl ?_ ?_
  · intro a0 a1 h0
    extract_lets +onlyGivenNames x0; clear_value x0
    extract_lets +onlyGivenNames x1; clear_value x1
    refine keep_ite ?_ ?_
    · exact h0
    · extract_lets +onlyGivenNames x2; clear_value x2
      extract_lets +onlyGivenNames x3; clear_value x3
      apply raise_keep
      refine keep_mk rfl rfl rfl rfl ?_
      exact h0
  · exact h_s

theorem moveCounter_keep {s0 : State} (d : Int) (s : State) (h_s : Keep s0 s) :
    Keep s0 (moveCounter d s) := by
  unfold moveCounter
  extract_lets +onlyGivenNames x0; clear_value x0
  refine keep_mk rfl rfl rfl rfl ?_
  exact h_s

theorem stepEffects_keep {s0 : State} (old : Nat) (s : State) (h_s : Keep s0 s) :
    Keep s0 (stepEffects old s) := by
  unfold stepEffects
  extract_lets +onlyGivenNames x0; clear_value x0
  extract_lets +onlyGivenNames x1; clear_value x1
  extract_lets +onlyGivenNames x2
  refine keep_bind (s0 := s0) x2 ?_ (fun h0 => ?_)
  · unfold x2; clear x2
    refine keep_mk rfl rfl rfl rfl ?_
    exact h_s
  · clear_value x2
    extract_lets +onlyGivenNames x3
    refine keep_bind (s0 := s0) x3 ?_ (fun h1 => ?_)
    · unfold x3; clear x3
      refine keep_ite ?_ ?_
      · apply passTriggers_keep
        exact h0
      · exact h0
    · clear_value x3
      extract_lets +onlyGivenNames x4
      refine keep_bind (s0 := s0) x4 ?_ (fun h2 => ?_)
      · unfold x4; clear x4
        apply raise_keep
        exact h1
      · clear_value x4
        apply mark_keep
        exact h2

theorem stepBy_keep {s0 : State} (d : Int) (s : State) (h_s : Keep s0 s) :
    Keep s0 (stepBy d s) := by
  unfold stepBy
  apply stepEffects_keep
  apply moveCounter_keep
  exact h_s

theorem stepTo_keep {s0 : State} (v : Nat) (s : State) (h_s : Keep s0 s) :
    Keep s0 (stepTo v s) := by
  unfold stepTo
  apply stepEffects_keep
  refine keep_mk rfl rfl rfl rfl ?_
  exact h_s

theorem acquireLamplighter_keep {s0 : State} (v : Nat) (s : State) (h_s : Keep s0 s) :
    Keep s0 (acquireLamplighter v s) := by
  unfold acquireLamplighter
  apply timeTouched_keep
  refine keep_mk rfl rfl rfl rfl ?_
  exact h_s

theorem servo_keep {s0 : State} (theta : Int) (tb kp ki : Nat) (s : State) (h_s : Keep s0 s) :
    Keep s0 (servo theta tb kp ki s) := by
  unfold servo
  extract_lets +onlyGivenNames x0; clear_value x0
  split
  rename_i y0 y0' y0'' y0'''
  refine keep_bind (s0 := s0) _ (keep_of2 y0''' ?_) (fun h0 => ?_)
  · refine keep_ite2 ?_ ?_
    · refine keep_pair2 ?_
      exact h_s
    · apply freeDiv_keep
      exact h_s
  · split
    rename_i y1 y1' y1'' y1'''
    refine keep_bind (s0 := s0) _ (keep_of2 y1''' ?_) (fun h1 => ?_)
    · apply freeDiv_keep
      exact h0
    · extract_lets +onlyGivenNames x1; clear_value x1
      extract_lets +onlyGivenNames x2; clear_value x2
      extract_lets +onlyGivenNames x3; clear_value x3
      extract_lets +onlyGivenNames x4; clear_value x4
      extract_lets +onlyGivenNames x5; clear_value x5
      extract_lets +onlyGivenNames x6
      refine keep_bind (s0 := s0) x6 ?_ (fun h2 => ?_)
      · unfold x6; clear x6
        apply setRate_keep
        refine keep_mk rfl rfl rfl rfl ?_
        exact h1
      · clear_value x6
        refine keep_ite ?_ ?_
        · apply raise_keep
          exact h2
        · exact h2

theorem noteTheta_keep {s0 : State} (theta : Int) (s : State) (h_s : Keep s0 s) :
    Keep s0 (noteTheta theta s) := by
  unfold noteTheta
  split
  rename_i y0 y0' y0'' y0'''
  refine keep_bind (s0 := s0) _ (keep_of2 y0''' ?_) (fun h0 => ?_)
  · apply freeDiv_keep
    exact h_s
  · refine keep_mk rfl rfl rfl rfl ?_
    exact h0

theorem notePath_keep {s0 : State} (d : Int) (s : State) (h_s : Keep s0 s) :
    Keep s0 (notePath d s) := by
  unfold notePath
  split
  rename_i y0 y0' y0'' y0'''
  refine keep_bind (s0 := s0) _ (keep_of2 y0''' ?_) (fun h0 => ?_)
  · apply freeDiv_keep
    exact h_s
  · refine keep_mk rfl rfl rfl rfl ?_
    exact h0

theorem badExchange_keep {s0 : State} (s : State) (h_s : Keep s0 s) :
    Keep s0 (badExchange s) := by
  unfold badExchange
  apply raise_keep
  refine keep_mk rfl rfl rfl rfl ?_
  exact h_s

theorem enterHoldover_keep {s0 : State} (s : State) (h_s : Keep s0 s) :
    Keep s0 (enterHoldover s) := by
  unfold enterHoldover
  extract_lets +onlyGivenNames x0; clear_value x0
  extract_lets +onlyGivenNames x1
  refine keep_bind (s0 := s0) x1 ?_ (fun h0 => ?_)
  · unfold x1; clear x1
    apply setRate_keep
    refine keep_mk rfl rfl rfl rfl ?_
    exact h_s
  · clear_value x1
    apply raise_keep
    apply mark_keep
    exact h0

theorem leaveHoldover_keep {s0 : State} (st : TimeState) (s : State) (h_s : Keep s0 s) :
    Keep s0 (leaveHoldover st s) := by
  unfold leaveHoldover
  extract_lets +onlyGivenNames x0
  extract_lets +onlyGivenNames x1; clear_value x1
  extract_lets +onlyGivenNames x2
  refine keep_bind (s0 := s0) x2 ?_ (fun h0 => ?_)
  · unfold x2; clear x2
    refine keep_mk rfl rfl rfl rfl ?_
    exact h_s
  · clear_value x2
    refine keep_ite ?_ ?_
    · apply mark_keep
      exact h0
    · exact h0

theorem lockState_keep {s0 : State} (theta : Int) (s : State) (h_s : Keep s0 s) :
    Keep s0 (lockState theta s) := by
  unfold lockState
  extract_lets +onlyGivenNames x0
  extract_lets +onlyGivenNames x1
  extract_lets +onlyGivenNames x2
  refine keep_bind (s0 := s0) x2 ?_ (fun h0 => ?_)
  · unfold x2; clear x2
    refine keep_mk rfl rfl rfl rfl ?_
    exact h_s
  · refine keep_ite ?_ ?_
    · apply mark_keep
      refine keep_mk rfl rfl rfl rfl ?_
      exact h0
    · refine keep_ite ?_ ?_
      · refine keep_mk rfl rfl rfl rfl ?_
        exact h0
      · exact h0

theorem becomeLamplighter_keep {s0 : State} (s : State) (h_s : Keep s0 s) :
    Keep s0 (becomeLamplighter s) := by
  unfold becomeLamplighter
  extract_lets +onlyGivenNames x0; clear_value x0
  extract_lets +onlyGivenNames x1
  refine keep_bind (s0 := s0) x1 ?_ (fun h0 => ?_)
  · unfold x1; clear x1
    refine keep_mk rfl rfl rfl rfl ?_
    exact h_s
  · clear_value x1
    refine keep_ite ?_ ?_
    · apply timeTouched_keep
      apply leaveHoldover_keep
      exact h0
    · apply timeTouched_keep
      exact h0

theorem followAnother_keep {s0 : State} (s : State) (h_s : Keep s0 s) :
    Keep s0 (followAnother s) := by
  unfold followAnother
  extract_lets +onlyGivenNames x0; clear_value x0
  extract_lets +onlyGivenNames x1
  refine keep_bind (s0 := s0) x1 ?_ (fun h0 => ?_)
  · unfold x1; clear x1
    refine keep_mk rfl rfl rfl rfl ?_
    exact h_s
  · clear_value x1
    refine keep_ite ?_ ?_
    · apply enterHoldover_keep
      exact h0
    · exact h0

theorem timeSetBody_keep {s0 : State} (p : Packet) (s : State) (h_s : Keep s0 s) :
    Keep s0 (timeSetBody p s).st := by
  unfold timeSetBody
  extract_lets +onlyGivenNames x0; clear_value x0
  extract_lets +onlyGivenNames x1; clear_value x1
  extract_lets +onlyGivenNames x2; clear_value x2
  extract_lets +onlyGivenNames x3; clear_value x3
  extract_lets +onlyGivenNames x4; clear_value x4
  apply checked_keep
  · exact h_s
  · intro a0
    apply okCmd_keep
    split
    · rename_i y0
      refine keep_ite ?_ ?_
      · apply stepTo_keep
        exact h_s
      · apply acquireLamplighter_keep
        exact h_s
    · rename_i y0
      refine keep_mk rfl rfl rfl rfl ?_
      exact h_s
    · rename_i y0
      apply stepBy_keep
      exact h_s
    · rename_i y0 y0' y0'' y0'''
      refine keep_ite ?_ ?_
      · exact h_s
      · apply setRate_keep
        refine keep_mk rfl rfl rfl rfl ?_
        exact h_s

theorem timeGetBody_keep {s0 : State} (p : Packet) (s : State) (h_s : Keep s0 s) :
    Keep s0 (timeGetBody p s).st := by
  unfold timeGetBody
  extract_lets +onlyGivenNames x0; clear_value x0
  apply checked_keep
  · exact h_s
  · intro a0
    apply okCmd_keep
    exact h_s

theorem servoConfigBody_keep {s0 : State} (p : Packet) (s : State) (h_s : Keep s0 s) :
    Keep s0 (servoConfigBody p s).st := by
  unfold servoConfigBody
  extract_lets +onlyGivenNames x0; clear_value x0
  extract_lets +onlyGivenNames x1; clear_value x1
  extract_lets +onlyGivenNames x2; clear_value x2
  apply checked_keep
  · exact h_s
  · intro a0
    apply okCmd_keep
    apply timeTouched_keep
    apply setShws_keep
    exact h_s

theorem disarm_keep {s0 : State} (u : Fin 16) (s : State) (h_s : Keep s0 s) :
    Keep s0 (disarm u s) := by
  unfold disarm
  refine keep_mk rfl rfl rfl rfl ?_
  exact h_s

theorem takeTrigger_keep {s0 : State} (u : Fin 16) (s : State) (h_s : Keep s0 s) :
    Keep s0 (takeTrigger u s) := by
  unfold takeTrigger
  refine keep_ite ?_ ?_
  · apply disarm_keep
    exact h_s
  · apply armRaise_keep
    exact h_s

theorem triggerSetBody_keep {s0 : State} (p : Packet) (s : State) (h_s : Keep s0 s) :
    Keep s0 (triggerSetBody p s).st := by
  unfold triggerSetBody
  extract_lets +onlyGivenNames x0
  extract_lets +onlyGivenNames x1
  extract_lets +onlyGivenNames x2; clear_value x2
  apply checked_keep
  · exact h_s
  · intro a0
    extract_lets +onlyGivenNames x3
    refine keep_bind (s0 := s0) x3 ?_ (fun h0 => ?_)
    · unfold x3; clear x3
      apply takeTrigger_keep
      apply setShws_keep
      exact h_s
    · clear_value x3
      apply okCmd_keep
      exact h0

theorem captureConfigBody_keep {s0 : State} (p : Packet) (s : State) (h_s : Keep s0 s) :
    Keep s0 (captureConfigBody p s).st := by
  unfold captureConfigBody
  extract_lets +onlyGivenNames x0; clear_value x0
  extract_lets +onlyGivenNames x1; clear_value x1
  apply checked_keep
  · exact h_s
  · intro a0
    extract_lets +onlyGivenNames x2
    refine keep_bind (s0 := s0) x2 ?_ (fun h0 => ?_)
    · unfold x2; clear x2
      apply setShw_keep
      exact h_s
    · clear_value x2
      apply okCmd_keep
      refine keep_mk rfl rfl rfl rfl ?_
      exact h0

theorem beaconConfigBody_keep {s0 : State} (p : Packet) (s : State) (h_s : Keep s0 s) :
    Keep s0 (beaconConfigBody p s).st := by
  unfold beaconConfigBody
  extract_lets +onlyGivenNames x0; clear_value x0
  apply checked_keep
  · exact h_s
  · intro a0
    apply okCmd_keep
    apply timeTouched_keep
    apply setShw_keep
    exact h_s

theorem epochSetBody_keep {s0 : State} (p : Packet) (s : State) (h_s : Keep s0 s) :
    Keep s0 (epochSetBody p s).st := by
  unfold epochSetBody
  extract_lets +onlyGivenNames x0; clear_value x0
  extract_lets +onlyGivenNames x1; clear_value x1
  extract_lets +onlyGivenNames x2; clear_value x2
  apply checked_keep
  · exact h_s
  · intro a0
    apply okCmd_keep
    refine keep_mk rfl rfl rfl rfl ?_
    exact h_s

theorem execTimeSet_keep {s0 : State} (p : Packet) (s : State) (h_s : Keep s0 s) :
    KeepO s0 (execTimeSet p s) := by
  unfold execTimeSet
  refine KeepO.next ?_
  apply runCommand_keep
  · intro a0 a1 h0
    apply timeSetBody_keep
    exact h0
  · exact h_s

theorem execTimeGet_keep {s0 : State} (p : Packet) (s : State) (h_s : Keep s0 s) :
    KeepO s0 (execTimeGet p s) := by
  unfold execTimeGet
  refine KeepO.next ?_
  apply runCommand_keep
  · intro a0 a1 h0
    apply timeGetBody_keep
    exact h0
  · exact h_s

theorem execServoConfig_keep {s0 : State} (p : Packet) (s : State) (h_s : Keep s0 s) :
    KeepO s0 (execServoConfig p s) := by
  unfold execServoConfig
  refine KeepO.next ?_
  apply runCommand_keep
  · intro a0 a1 h0
    apply servoConfigBody_keep
    exact h0
  · exact h_s

theorem execTriggerSet_keep {s0 : State} (p : Packet) (s : State) (h_s : Keep s0 s) :
    KeepO s0 (execTriggerSet p s) := by
  unfold execTriggerSet
  refine KeepO.next ?_
  apply runCommand_keep
  · intro a0 a1 h0
    apply triggerSetBody_keep
    exact h0
  · exact h_s

theorem execCaptureConfig_keep {s0 : State} (p : Packet) (s : State) (h_s : Keep s0 s) :
    KeepO s0 (execCaptureConfig p s) := by
  unfold execCaptureConfig
  refine KeepO.next ?_
  apply runCommand_keep
  · intro a0 a1 h0
    apply captureConfigBody_keep
    exact h0
  · exact h_s

theorem execBeaconConfig_keep {s0 : State} (p : Packet) (s : State) (h_s : Keep s0 s) :
    KeepO s0 (execBeaconConfig p s) := by
  unfold execBeaconConfig
  refine KeepO.next ?_
  apply runCommand_keep
  · intro a0 a1 h0
    apply beaconConfigBody_keep
    exact h0
  · exact h_s

theorem execEpochSet_keep {s0 : State} (p : Packet) (s : State) (h_s : Keep s0 s) :
    KeepO s0 (execEpochSet p s) := by
  unfold execEpochSet
  refine KeepO.next ?_
  apply runCommand_keep
  · intro a0 a1 h0
    apply epochSetBody_keep
    exact h0
  · exact h_s

theorem timeRc_keep {s0 : State} (o : Nat) (s : State) (h_s : Keep s0 s) :
    Keep s0 (timeRc o s) := by
  unfold timeRc
  extract_lets +onlyGivenNames x0; clear_value x0
  refine keep_ite ?_ ?_
  · refine keep_mk rfl rfl rfl rfl ?_
    exact h_s
  · refine keep_ite ?_ ?_
    · refine keep_mk rfl rfl rfl rfl ?_
      exact h_s
    · refine keep_ite ?_ ?_
      · refine keep_mk rfl rfl rfl rfl ?_
        exact h_s
      · refine keep_ite ?_ ?_
        · refine keep_mk rfl rfl rfl rfl ?_
          exact h_s
        · refine keep_ite ?_ ?_
          · refine keep_mk rfl rfl rfl rfl ?_
            exact h_s
          · exact h_s

theorem capW1c_keep {s0 : State} (c : Nat) (w : Word) (s : State) (h_s : Keep s0 s) :
    Keep s0 (capW1c c w s) := by
  unfold capW1c
  refine keep_mk rfl rfl rfl rfl ?_
  exact h_s

theorem execTimeNowLatch_keep {s0 : State} (s : State) (h_s : Keep s0 s) :
    KeepO s0 (execTimeNowLatch s) := by
  unfold execTimeNowLatch
  refine KeepO.next ?_
  apply timeRc_keep
  exact h_s

theorem captureOne_keep {s0 : State} (c : Fin 8) (falling : Bool) (t : Long) (s : State) (h_s : Keep s0 s) :
    Keep s0 (captureOne c falling t s) := by
  unfold captureOne
  extract_lets +onlyGivenNames x0; clear_value x0
  extract_lets +onlyGivenNames x1; clear_value x1
  extract_lets +onlyGivenNames x2; clear_value x2
  extract_lets +onlyGivenNames x3; clear_value x3
  extract_lets +onlyGivenNames x4
  refine keep_bind (s0 := s0) x4 ?_ (fun h0 => ?_)
  · unfold x4; clear x4
    refine keep_mk rfl rfl rfl rfl ?_
    exact h_s
  · clear_value x4
    extract_lets +onlyGivenNames x5
    refine keep_bind (s0 := s0) x5 ?_ (fun h1 => ?_)
    · unfold x5; clear x5
      refine keep_ite ?_ ?_
      · apply raise_keep
        exact h0
      · exact h0
    · clear_value x5
      refine keep_ite ?_ ?_
      · apply mark_keep
        exact h1
      · exact h1

theorem captureEdge_keep {s0 : State} (src : Nat) (falling : Bool) (t : Long) (s : State) (h_s : Keep s0 s) :
    Keep s0 (captureEdge src falling t s) := by
  unfold captureEdge
  refine keep_foldl ?_ ?_
  · intro a0 a1 h0
    extract_lets +onlyGivenNames x0; clear_value x0
    refine keep_ite ?_ ?_
    · apply captureOne_keep
      exact h0
    · exact h0
  · exact h_s

theorem execSyncEdge_keep {s0 : State} (falling : Bool) (t : Long) (s : State) (h_s : Keep s0 s) :
    KeepO s0 (execSyncEdge falling t s) := by
  unfold execSyncEdge
  extract_lets +onlyGivenNames x0; clear_value x0
  refine KeepO.ite ?_ ?_
  · refine KeepO.next ?_
    exact h_s
  · extract_lets +onlyGivenNames x1; clear_value x1
    extract_lets +onlyGivenNames x2
    refine keep_bind (s0 := s0) x2 ?_ (fun h0 => ?_)
    · unfold x2; clear x2
      refine keep_mk rfl rfl rfl rfl ?_
      exact h_s
    · clear_value x2
      refine KeepO.ite ?_ ?_
      · refine KeepO.next ?_
        exact h0
      · extract_lets +onlyGivenNames x3
        refine keep_bind (s0 := s0) x3 ?_ (fun h1 => ?_)
        · unfold x3; clear x3
          apply captureEdge_keep
          exact h0
        · clear_value x3
          refine KeepO.next ?_
          refine keep_ite ?_ ?_
          · apply syncReset_keep
            exact h1
          · exact h1

theorem execTrigEdge_keep {s0 : State} (n : Fin 4) (falling : Bool) (t : Long) (s : State) (h_s : Keep s0 s) :
    KeepO s0 (execTrigEdge n falling t s) := by
  unfold execTrigEdge
  extract_lets +onlyGivenNames x0; clear_value x0
  extract_lets +onlyGivenNames x1; clear_value x1
  extract_lets +onlyGivenNames x2
  refine keep_bind (s0 := s0) x2 ?_ (fun h0 => ?_)
  · unfold x2; clear x2
    refine keep_mk rfl rfl rfl rfl ?_
    exact h_s
  · clear_value x2
    refine KeepO.ite ?_ ?_
    · refine KeepO.next ?_
      exact h0
    · extract_lets +onlyGivenNames x3
      refine keep_bind (s0 := s0) x3 ?_ (fun h1 => ?_)
      · unfold x3; clear x3
        apply captureEdge_keep
        exact h0
      · clear_value x3
        refine KeepO.next ?_
        refine keep_ite ?_ ?_
        · apply convEvent_keep
          exact h1
        · exact h1

theorem ppsServo_keep {s0 : State} (t : Nat) (s : State) (h_s : Keep s0 s) :
    Keep s0 (ppsServo t s) := by
  unfold ppsServo
  extract_lets +onlyGivenNames x0; clear_value x0
  split
  rename_i y0 y0' y0'' y0'''
  refine keep_bind (s0 := s0) _ (keep_of2 y0''' ?_) (fun h0 => ?_)
  · refine keep_ite2 ?_ ?_
    · apply freshBit_keep
      exact h_s
    · refine keep_pair2 ?_
      exact h_s
  · extract_lets +onlyGivenNames x1; clear_value x1
    extract_lets +onlyGivenNames x2; clear_value x2
    extract_lets +onlyGivenNames x3
    refine keep_bind (s0 := s0) x3 ?_ (fun h1 => ?_)
    · unfold x3; clear x3
      refine keep_mk rfl rfl rfl rfl ?_
      exact h0
    · clear_value x3
      refine keep_ite ?_ ?_
      · split
        · rename_i y1 y1' y1''
          refine keep_ite ?_ ?_
          · apply noteTheta_keep
            apply stepBy_keep
            refine keep_mk rfl rfl rfl rfl ?_
            exact h1
          · apply badExchange_keep
            refine keep_mk rfl rfl rfl rfl ?_
            exact h1
        · rename_i y1 y1'
          apply badExchange_keep
          refine keep_mk rfl rfl rfl rfl ?_
          exact h1
      · extract_lets +onlyGivenNames x4; clear_value x4
        apply noteTheta_keep
        apply servo_keep
        refine keep_mk rfl rfl rfl rfl ?_
        exact h1

theorem execPpsinEdge_keep {s0 : State} (falling : Bool) (t : Long) (s : State) (h_s : Keep s0 s) :
    KeepO s0 (execPpsinEdge falling t s) := by
  unfold execPpsinEdge
  refine KeepO.ite ?_ ?_
  · refine KeepO.next ?_
    exact h_s
  · extract_lets +onlyGivenNames x0
    refine keep_bind (s0 := s0) x0 ?_ (fun h0 => ?_)
    · unfold x0; clear x0
      apply captureEdge_keep
      exact h_s
    · clear_value x0
      refine KeepO.ite ?_ ?_
      · refine KeepO.next ?_
        exact h0
      · split
        · rename_i y0 y0' y0''
          extract_lets +onlyGivenNames x1; clear_value x1
          extract_lets +onlyGivenNames x2; clear_value x2
          extract_lets +onlyGivenNames x3
          refine keep_bind (s0 := s0) x3 ?_ (fun h1 => ?_)
          · unfold x3; clear x3
            refine keep_mk rfl rfl rfl rfl ?_
            exact h0
          · clear_value x3
            refine KeepO.next ?_
            refine keep_ite ?_ ?_
            · apply stepTo_keep
              exact h1
            · apply acquireLamplighter_keep
              exact h1
        · rename_i y0 y0'
          refine KeepO.next ?_
          refine keep_ite ?_ ?_
          · apply ppsServo_keep
            exact h0
          · exact h0

theorem execPpsLost_keep {s0 : State} (s : State) (h_s : Keep s0 s) :
    KeepO s0 (execPpsLost s) := by
  unfold execPpsLost
  extract_lets +onlyGivenNames x0; clear_value x0
  refine KeepO.ite ?_ ?_
  · refine KeepO.next ?_
    exact h_s
  · extract_lets +onlyGivenNames x1; clear_value x1
    extract_lets +onlyGivenNames x2
    refine keep_bind (s0 := s0) x2 ?_ (fun h0 => ?_)
    · unfold x2; clear x2
      refine keep_mk rfl rfl rfl rfl ?_
      exact h_s
    · clear_value x2
      extract_lets +onlyGivenNames x3
      refine keep_bind (s0 := s0) x3 ?_ (fun h1 => ?_)
      · unfold x3; clear x3
        refine keep_ite ?_ ?_
        · apply setRate_keep
          exact h0
        · exact h0
      · clear_value x3
        refine KeepO.next ?_
        apply raise_keep
        exact h1

theorem execPpsoutPulse_keep {s0 : State} (s : State) (h_s : Keep s0 s) :
    KeepO s0 (execPpsoutPulse s) := by
  unfold execPpsoutPulse
  extract_lets +onlyGivenNames x0; clear_value x0
  refine KeepO.ite ?_ ?_
  · refine KeepO.next ?_
    extract_lets +onlyGivenNames x1
    refine keep_bind (s0 := s0) x1 ?_ (fun h0 => ?_)
    · unfold x1; clear x1
      apply advanceTo_keep
      exact h_s
    · clear_value x1
      refine keep_mk rfl rfl rfl rfl ?_
      exact h0
  · refine KeepO.ite ?_ ?_
    · refine KeepO.next ?_
      exact h_s
    · extract_lets +onlyGivenNames x1
      refine keep_bind (s0 := s0) x1 ?_ (fun h0 => ?_)
      · unfold x1; clear x1
        apply advanceTo_keep
        exact h_s
      · clear_value x1
        refine KeepO.next ?_
        refine keep_mk rfl rfl rfl rfl ?_
        exact h0

theorem execTclkLost_keep {s0 : State} (s : State) (h_s : Keep s0 s) :
    KeepO s0 (execTclkLost s) := by
  unfold execTclkLost
  refine KeepO.ite ?_ ?_
  · refine KeepO.next ?_
    exact h_s
  · refine KeepO.next ?_
    apply raise_keep
    refine keep_mk rfl rfl rfl rfl ?_
    exact h_s

theorem execTimeTriggerFire_keep {s0 : State} (u : Fin 16) (s : State) (h_s : Keep s0 s) :
    KeepO s0 (execTimeTriggerFire u s) := by
  unfold execTimeTriggerFire
  extract_lets +onlyGivenNames x0; clear_value x0
  refine KeepO.ite ?_ ?_
  · refine KeepO.next ?_
    exact h_s
  · extract_lets +onlyGivenNames x1; clear_value x1
    extract_lets +onlyGivenNames x2
    refine keep_bind (s0 := s0) x2 ?_ (fun h0 => ?_)
    · unfold x2; clear x2
      apply advanceTo_keep
      exact h_s
    · clear_value x2
      extract_lets +onlyGivenNames x3; clear_value x3
      extract_lets +onlyGivenNames x4; clear_value x4
      extract_lets +onlyGivenNames x5; clear_value x5
      extract_lets +onlyGivenNames x6
      refine keep_bind (s0 := s0) x6 ?_ (fun h1 => ?_)
      · unfold x6; clear x6
        apply setShw_keep
        refine keep_mk rfl rfl rfl rfl ?_
        exact h0
      · clear_value x6
        extract_lets +onlyGivenNames x7
        refine keep_bind (s0 := s0) x7 ?_ (fun h2 => ?_)
        · unfold x7; clear x7
          apply convEvent_keep
          exact h1
        · clear_value x7
          refine KeepO.next ?_
          refine keep_ite ?_ ?_
          · apply mark_keep
            exact h2
          · exact h2

theorem execSlewEnd_keep {s0 : State} (s : State) (h_s : Keep s0 s) :
    KeepO s0 (execSlewEnd s) := by
  unfold execSlewEnd
  split
  · rename_i y0 y0'
    refine KeepO.next ?_
    exact h_s
  · rename_i y0 y0' y0''
    refine KeepO.ite ?_ ?_
    · refine KeepO.next ?_
      exact h_s
    · refine KeepO.next ?_
      apply setRate_keep
      refine keep_mk rfl rfl rfl rfl ?_
      exact h_s

theorem execSyncFrameSend_keep {s0 : State} (s : State) (h_s : Keep s0 s) :
    KeepO s0 (execSyncFrameSend s) := by
  unfold execSyncFrameSend
  refine KeepO.ite ?_ ?_
  · refine KeepO.next ?_
    exact h_s
  · extract_lets +onlyGivenNames x0; clear_value x0
    refine KeepO.next ?_
    refine keep_foldl ?_ ?_
    · intro a0 a1 h0
      extract_lets +onlyGivenNames x1; clear_value x1
      extract_lets +onlyGivenNames x2
      refine keep_bind (s0 := s0) x2 ?_ (fun h1 => ?_)
      · unfold x2; clear x2
        apply sendOn_keep
        exact h0
      · clear_value x2
        refine keep_mk rfl rfl rfl rfl ?_
        exact h1
    · apply advanceTo_keep
      exact h_s

theorem takeSchedule_keep {s0 : State} (f : SyncFrame) (s : State) (h_s : Keep s0 s) :
    Keep s0 (takeSchedule f s) := by
  unfold takeSchedule
  refine keep_ite ?_ ?_
  · exact h_s
  · extract_lets +onlyGivenNames x0; clear_value x0
    split
    · rename_i y0 y0'
      refine keep_mk rfl rfl rfl rfl ?_
      exact h_s
    · rename_i y0 y0' y0''
      refine keep_ite ?_ ?_
      · apply commitHeld_keep
        exact h_s
      · refine keep_mk rfl rfl rfl rfl ?_
        exact h_s

theorem execSyncFrameReceive_keep {s0 : State} (p : Fin 4) (f : SyncFrame) (t2 : Stamp) (s : State) (h_s : Keep s0 s) :
    KeepO s0 (execSyncFrameReceive p f t2 s) := by
  unfold execSyncFrameReceive
  refine KeepO.ite ?_ ?_
  · refine KeepO.next ?_
    exact h_s
  · extract_lets +onlyGivenNames x0; clear_value x0
    extract_lets +onlyGivenNames x1; clear_value x1
    extract_lets +onlyGivenNames x2
    refine keep_bind (s0 := s0) x2 ?_ (fun h0 => ?_)
    · unfold x2; clear x2
      refine keep_mk rfl rfl rfl rfl ?_
      exact h_s
    · clear_value x2
      refine KeepO.next ?_
      apply takeSchedule_keep
      exact h0

theorem execDelayReqSend_keep {s0 : State} (t3 : Stamp) (s : State) (h_s : Keep s0 s) :
    KeepO s0 (execDelayReqSend t3 s) := by
  unfold execDelayReqSend
  split
  · rename_i y0 y0' y0'' y0''' y0'''' y0'''''
    refine KeepO.ite ?_ ?_
    · refine KeepO.next ?_
      exact h_s
    · extract_lets +onlyGivenNames x0
      refine keep_bind (s0 := s0) x0 ?_ (fun h0 => ?_)
      · unfold x0; clear x0
        apply sendOn_keep
        exact h_s
      · clear_value x0
        refine KeepO.next ?_
        refine keep_mk rfl rfl rfl rfl ?_
        exact h0
  · rename_i y0 y0' y0''
    refine KeepO.next ?_
    exact h_s

theorem execDelayReqReceive_keep {s0 : State} (p : Fin 4) (seq : Half) (t4 : Stamp) (s : State) (h_s : Keep s0 s) :
    KeepO s0 (execDelayReqReceive p seq t4 s) := by
  unfold execDelayReqReceive
  refine KeepO.ite ?_ ?_
  · refine KeepO.next ?_
    exact h_s
  · refine KeepO.next ?_
    apply sendOn_keep
    exact h_s

theorem acceptPath_keep {s0 : State} (d2 : Int) (s : State) (h_s : Keep s0 s) :
    Keep s0 (acceptPath d2 s) := by
  unfold acceptPath
  split
  · rename_i y0 y0'
    split
    rename_i y1 y1' y1'' y1'''
    refine keep_bind (s0 := s0) _ (keep_of2 y1''' ?_) (fun h0 => ?_)
    · apply freeDiv_keep
      exact h_s
    · apply notePath_keep
      refine keep_mk rfl rfl rfl rfl ?_
      exact h0
  · rename_i y0 y0' y0''
    split
    rename_i y1 y1' y1'' y1'''
    refine keep_bind (s0 := s0) _ (keep_of2 y1''' ?_) (fun h0 => ?_)
    · apply freeDiv_keep
      exact h_s
    · apply notePath_keep
      refine keep_mk rfl rfl rfl rfl ?_
      exact h0

theorem useTheta_keep {s0 : State} (theta d2 : Int) (s : State) (h_s : Keep s0 s) :
    Keep s0 (useTheta theta d2 s) := by
  unfold useTheta
  refine keep_ite ?_ ?_
  · extract_lets +onlyGivenNames x0
    refine keep_bind (s0 := s0) x0 ?_ (fun h0 => ?_)
    · unfold x0; clear x0
      apply moveCounter_keep
      apply acceptPath_keep
      exact h_s
    · clear_value x0
      apply noteTheta_keep
      refine keep_mk rfl rfl rfl rfl ?_
      exact h0
  · refine keep_ite ?_ ?_
    · split
      · rename_i y0 y0' y0''
        refine keep_ite ?_ ?_
        · extract_lets +onlyGivenNames x0; clear_value x0
          extract_lets +onlyGivenNames x1
          refine keep_bind (s0 := s0) x1 ?_ (fun h0 => ?_)
          · unfold x1; clear x1
            refine keep_mk rfl rfl rfl rfl ?_
            exact h_s
          · clear_value x1
            extract_lets +onlyGivenNames x2
            refine keep_bind (s0 := s0) x2 ?_ (fun h1 => ?_)
            · unfold x2; clear x2
              refine keep_ite ?_ ?_
              · apply acceptPath_keep
                exact h0
              · exact h0
            · clear_value x2
              extract_lets +onlyGivenNames x3
              refine keep_bind (s0 := s0) x3 ?_ (fun h2 => ?_)
              · unfold x3; clear x3
                apply noteTheta_keep
                exact h1
              · clear_value x3
                apply lockState_keep
                refine keep_ite ?_ ?_
                · apply leaveHoldover_keep
                  apply stepBy_keep
                  exact h2
                · apply stepBy_keep
                  exact h2
        · apply badExchange_keep
          refine keep_mk rfl rfl rfl rfl ?_
          exact h_s
      · rename_i y0 y0'
        apply badExchange_keep
        refine keep_mk rfl rfl rfl rfl ?_
        exact h_s
    · extract_lets +onlyGivenNames x0; clear_value x0
      extract_lets +onlyGivenNames x1
      refine keep_bind (s0 := s0) x1 ?_ (fun h0 => ?_)
      · unfold x1; clear x1
        apply acceptPath_keep
        refine keep_mk rfl rfl rfl rfl ?_
        exact h_s
      · clear_value x1
        extract_lets +onlyGivenNames x2
        refine keep_bind (s0 := s0) x2 ?_ (fun h1 => ?_)
        · unfold x2; clear x2
          apply noteTheta_keep
          exact h0
        · clear_value x2
          extract_lets +onlyGivenNames x3
          refine keep_bind (s0 := s0) x3 ?_ (fun h2 => ?_)
          · unfold x3; clear x3
            refine keep_ite ?_ ?_
            · apply leaveHoldover_keep
              exact h1
            · exact h1
          · clear_value x3
            extract_lets +onlyGivenNames x4; clear_value x4
            apply lockState_keep
            apply servo_keep
            exact h2

theorem execDelayRespReceive_keep {s0 : State} (p : Fin 4) (seq : Half) (t4 : Stamp) (s : State) (h_s : Keep s0 s) :
    KeepO s0 (execDelayRespReceive p seq t4 s) := by
  unfold execDelayRespReceive
  split
  · rename_i y0 y0'
    refine KeepO.next ?_
    exact h_s
  · rename_i y0 y0' y0''
    split
    · rename_i y1 y1'
      refine KeepO.next ?_
      exact h_s
    · rename_i y1 y1' y1''
      refine KeepO.ite ?_ ?_
      · refine KeepO.next ?_
        exact h_s
      · extract_lets +onlyGivenNames x0; clear_value x0
        extract_lets +onlyGivenNames x1; clear_value x1
        refine KeepO.ite ?_ ?_
        · refine KeepO.next ?_
          apply badExchange_keep
          refine keep_mk rfl rfl rfl rfl ?_
          exact h_s
        · extract_lets +onlyGivenNames x2; clear_value x2
          extract_lets +onlyGivenNames x3; clear_value x3
          extract_lets +onlyGivenNames x4
          refine keep_bind (s0 := s0) x4 ?_ (fun h0 => ?_)
          · unfold x4; clear x4
            refine keep_mk rfl rfl rfl rfl ?_
            exact h_s
          · clear_value x4
            split
            · rename_i y2 y2' y2''
              refine KeepO.next ?_
              apply useTheta_keep
              exact h0
            · rename_i y2 y2'
              split
              rename_i y3 y3' y3'' y3'''
              refine keep_bind (s0 := s0) _ (keep_of2 y3''' ?_) (fun h1 => ?_)
              · apply freeDiv_keep
                exact h0
              · refine KeepO.next ?_
                apply useTheta_keep
                refine keep_mk rfl rfl rfl rfl ?_
                exact h1

theorem execDelayRespTimeout_keep {s0 : State} (s : State) (h_s : Keep s0 s) :
    KeepO s0 (execDelayRespTimeout s) := by
  unfold execDelayRespTimeout
  split
  · rename_i y0 y0' y0''
    refine KeepO.ite ?_ ?_
    · refine KeepO.next ?_
      apply badExchange_keep
      refine keep_mk rfl rfl rfl rfl ?_
      exact h_s
    · refine KeepO.next ?_
      exact h_s
  · rename_i y0 y0'
    refine KeepO.next ?_
    exact h_s

theorem execBeaconMissed_keep {s0 : State} (s : State) (h_s : Keep s0 s) :
    KeepO s0 (execBeaconMissed s) := by
  unfold execBeaconMissed
  refine KeepO.ite ?_ ?_
  · refine KeepO.next ?_
    apply enterHoldover_keep
    refine keep_mk rfl rfl rfl rfl ?_
    exact h_s
  · refine KeepO.next ?_
    exact h_s

end Sys2Proof.Machine
end

