-- ==== Sys2Proof/Laws/KeepLink.lean ====
section
/-! SUPPORT. Every operation of Machine/Link.lean keeps the queue and the canonical memories. -/
namespace Sys2Proof.Machine

open Sys2Proof

theorem modLink_keep {s0 : State} (n : Fin 4) (f : PortSt → PortSt) (s : State) (h_s : Keep s0 s) :
    Keep s0 (modLink n f s) := by
  unfold modLink
  refine keep_mk rfl rfl rfl rfl ?_
  exact h_s

theorem drainOn_keep {s0 : State} (n : Fin 4) (s : State) (h_s : Keep s0 s) :
    Keep s0 (drainOn n s) := by
  unfold drainOn
  apply modLink_keep
  exact h_s

theorem touchDb_keep {s0 : State} (s : State) (h_s : Keep s0 s) :
    Keep s0 (touchDb s) := by
  unfold touchDb
  refine keep_ite ?_ ?_
  · refine keep_mk rfl rfl rfl rfl ?_
    exact h_s
  · exact h_s

theorem execPortTrained_keep {s0 : State} (p : Fin 4) (uid : Long) (s : State) (h_s : Keep s0 s) :
    KeepO s0 (execPortTrained p uid s) := by
  unfold execPortTrained
  refine KeepO.next ?_
  refine keep_ite ?_ ?_
  · apply drainOn_keep
    apply modLink_keep
    exact h_s
  · exact h_s

theorem execPortMismatch_keep {s0 : State} (p : Fin 4) (s : State) (h_s : Keep s0 s) :
    KeepO s0 (execPortMismatch p s) := by
  unfold execPortMismatch
  refine KeepO.next ?_
  refine keep_ite ?_ ?_
  · apply raise_keep
    apply modLink_keep
    exact h_s
  · exact h_s

theorem execHelloSend_keep {s0 : State} (s : State) (h_s : Keep s0 s) :
    KeepO s0 (execHelloSend s) := by
  unfold execHelloSend
  refine KeepO.next ?_
  refine keep_ite ?_ ?_
  · refine keep_foldl ?_ ?_
    · intro a0 a1 h0
      extract_lets +onlyGivenNames x0; clear_value x0
      refine keep_ite ?_ ?_
      · apply sendOn_keep
        exact h0
      · exact h0
    · exact h_s
  · exact h_s

theorem execHelloReceive_keep {s0 : State} (p : Fin 4) (h : Hello) (s : State) (h_s : Keep s0 s) :
    KeepO s0 (execHelloReceive p h s) := by
  unfold execHelloReceive
  refine KeepO.next ?_
  extract_lets +onlyGivenNames x0; clear_value x0
  refine keep_ite ?_ ?_
  · extract_lets +onlyGivenNames x1; clear_value x1
    extract_lets +onlyGivenNames x2
    refine keep_bind (s0 := s0) x2 ?_ (fun h0 => ?_)
    · unfold x2; clear x2
      apply modLink_keep
      exact h_s
    · clear_value x2
      apply drainOn_keep
      refine keep_ite ?_ ?_
      · exact h0
      · apply touchDb_keep
        exact h0
  · exact h_s

theorem execLinkDown_keep {s0 : State} (p : Fin 4) (codeErrors : Nat) (s : State) (h_s : Keep s0 s) :
    KeepO s0 (execLinkDown p codeErrors s) := by
  unfold execLinkDown
  refine KeepO.next ?_
  extract_lets +onlyGivenNames x0; clear_value x0
  refine keep_ite ?_ ?_
  · extract_lets +onlyGivenNames x1; clear_value x1
    extract_lets +onlyGivenNames x2; clear_value x2
    extract_lets +onlyGivenNames x3
    refine keep_bind (s0 := s0) x3 ?_ (fun h0 => ?_)
    · unfold x3; clear x3
      apply touchDb_keep
      apply modLink_keep
      exact h_s
    · clear_value x3
      apply raiseAll_keep
      exact h0
  · exact h_s

theorem execCreditReceive_keep {s0 : State} (p : Fin 4) (cls : Fin 4) (n : Byte) (s : State) (h_s : Keep s0 s) :
    KeepO s0 (execCreditReceive p cls n s) := by
  unfold execCreditReceive
  extract_lets +onlyGivenNames x0; clear_value x0
  refine KeepO.next ?_
  apply drainOn_keep
  apply modLink_keep
  exact h_s

theorem execFrameDiscard_keep {s0 : State} (p : Fin 4) (why : DiscardCause) (s : State) (h_s : Keep s0 s) :
    KeepO s0 (execFrameDiscard p why s) := by
  unfold execFrameDiscard
  refine KeepO.next ?_
  extract_lets +onlyGivenNames x0
  refine keep_bind (s0 := s0) x0 ?_ (fun h0 => ?_)
  · unfold x0; clear x0
    apply modLink_keep
    exact h_s
  · clear_value x0
    refine keep_ite ?_ ?_
    · extract_lets +onlyGivenNames x1; clear_value x1
      extract_lets +onlyGivenNames x2; clear_value x2
      extract_lets +onlyGivenNames x3
      refine keep_bind (s0 := s0) x3 ?_ (fun h1 => ?_)
      · unfold x3; clear x3
        apply modLink_keep
        exact h0
      · clear_value x3
        refine keep_ite ?_ ?_
        · apply raise_keep
          exact h1
        · exact h1
    · exact h0

theorem execFrameForward_keep {s0 : State} (p : Fin 4) (f : Frame) (s : State) (h_s : Keep s0 s) :
    KeepO s0 (execFrameForward p f s) := by
  unfold execFrameForward
  refine KeepO.next ?_
  refine keep_ite ?_ ?_
  · exact h_s
  · refine keep_ite ?_ ?_
    · refine keep_ite ?_ ?_
      · exact h_s
      · refine keep_mk rfl rfl rfl rfl ?_
        exact h_s
    · extract_lets +onlyGivenNames x0; clear_value x0
      refine keep_ite ?_ ?_
      · refine keep_ite ?_ ?_
        · apply sendOnAll_keep
          exact h_s
        · exact h_s
      · apply sendRouted_keep
        exact h_s

theorem originate_keep {s0 : State} (joined : Bool) (s : State) (h_s : Keep s0 s) :
    Keep s0 (originate joined s) := by
  unfold originate
  extract_lets +onlyGivenNames x0; clear_value x0
  extract_lets +onlyGivenNames x1
  refine keep_bind (s0 := s0) x1 ?_ (fun h0 => ?_)
  · unfold x1; clear x1
    refine keep_mk rfl rfl rfl rfl ?_
    exact h_s
  · clear_value x1
    apply sendOnAll_keep
    exact h0

theorem execTopoOriginate_keep {s0 : State} (s : State) (h_s : Keep s0 s) :
    KeepO s0 (execTopoOriginate s) := by
  unfold execTopoOriginate
  refine KeepO.next ?_
  refine keep_ite ?_ ?_
  · apply originate_keep
    exact h_s
  · exact h_s

theorem execTopoReceive_keep {s0 : State} (p : Fin 4) (r : Topo) (s : State) (h_s : Keep s0 s) :
    KeepO s0 (execTopoReceive p r s) := by
  unfold execTopoReceive
  refine KeepO.next ?_
  refine keep_ite ?_ ?_
  · exact h_s
  · extract_lets +onlyGivenNames x0; clear_value x0
    extract_lets +onlyGivenNames x1; clear_value x1
    extract_lets +onlyGivenNames x2; clear_value x2
    extract_lets +onlyGivenNames x3; clear_value x3
    extract_lets +onlyGivenNames x4
    refine keep_bind (s0 := s0) x4 ?_ (fun h0 => ?_)
    · unfold x4; clear x4
      refine keep_mk rfl rfl rfl rfl ?_
      exact h_s
    · clear_value x4
      extract_lets +onlyGivenNames x5
      refine keep_bind (s0 := s0) x5 ?_ (fun h1 => ?_)
      · unfold x5; clear x5
        refine keep_ite ?_ ?_
        · exact h0
        · apply touchDb_keep
          exact h0
      · clear_value x5
        extract_lets +onlyGivenNames x6
        refine keep_bind (s0 := s0) x6 ?_ (fun h2 => ?_)
        · unfold x6; clear x6
          refine keep_ite ?_ ?_
          · apply commitHeld_keep
            exact h1
          · exact h1
        · clear_value x6
          refine keep_ite ?_ ?_
          · apply sendOnAll_keep
            exact h2
          · exact h2

theorem execTopoExpiry_keep {s0 : State} (uid : Long) (s : State) (h_s : Keep s0 s) :
    KeepO s0 (execTopoExpiry uid s) := by
  unfold execTopoExpiry
  refine KeepO.next ?_
  refine keep_ite ?_ ?_
  · apply touchDb_keep
    refine keep_mk rfl rfl rfl rfl ?_
    exact h_s
  · exact h_s

theorem sendHeldAlarms_keep {s0 : State} (s : State) (h_s : Keep s0 s) :
    Keep s0 (sendHeldAlarms s) := by
  unfold sendHeldAlarms
  split
  · rename_i y0 y0' y0'' y0''' y0'''' y0''''' y0'''''' y0'''''''
    refine keep_ite ?_ ?_
    · refine keep_mk rfl rfl rfl rfl ?_
      exact h_s
    · extract_lets +onlyGivenNames x0; clear_value x0
      extract_lets +onlyGivenNames x1; clear_value x1
      extract_lets +onlyGivenNames x2
      refine keep_bind (s0 := s0) x2 ?_ (fun h0 => ?_)
      · unfold x2; clear x2
        refine keep_mk rfl rfl rfl rfl ?_
        exact h_s
      · clear_value x2
        refine keep_foldl ?_ ?_
        · intro a0 a1 h1
          apply sendRouted_keep
          exact h1
        · exact h0
  · rename_i y0 y0' y0''
    exact h_s

theorem takeAssign_keep {s0 : State} (pairs : List (Long × Byte)) (s : State) (h_s : Keep s0 s) :
    Keep s0 (takeAssign pairs s) := by
  unfold takeAssign
  extract_lets +onlyGivenNames x0; clear_value x0
  extract_lets +onlyGivenNames x1; clear_value x1
  extract_lets +onlyGivenNames x2
  refine keep_bind (s0 := s0) x2 ?_ (fun h0 => ?_)
  · unfold x2; clear x2
    split
    · rename_i y0 y0' y0''
      extract_lets +onlyGivenNames x2
      refine keep_bind (s0 := s0) x2 ?_ (fun h0 => ?_)
      · unfold x2; clear x2
        refine keep_mk rfl rfl rfl rfl ?_
        exact h_s
      · clear_value x2
        refine keep_ite ?_ ?_
        · apply raise_keep
          exact h0
        · exact h0
    · rename_i y0 y0'
      refine keep_ite ?_ ?_
      · refine keep_mk rfl rfl rfl rfl ?_
        exact h_s
      · exact h_s
  · clear_value x2
    extract_lets +onlyGivenNames x3
    refine keep_bind (s0 := s0) x3 ?_ (fun h1 => ?_)
    · unfold x3; clear x3
      refine keep_ite ?_ ?_
      · exact h0
      · apply touchDb_keep
        exact h0
    · clear_value x3
      apply sendHeldAlarms_keep
      exact h1

theorem assignAll_keep {s0 : State} (s : State) (h_s : Keep s0 s) :
    Keep s0 (assignAll s) := by
  unfold assignAll
  extract_lets +onlyGivenNames x0; clear_value x0
  extract_lets +onlyGivenNames x1; clear_value x1
  extract_lets +onlyGivenNames x2
  refine keep_bind (s0 := s0) x2 ?_ (fun h0 => ?_)
  · unfold x2; clear x2
    refine keep_ite ?_ ?_
    · apply raise_keep
      exact h_s
    · exact h_s
  · clear_value x2
    extract_lets +onlyGivenNames x3
    refine keep_bind (s0 := s0) x3 ?_ (fun h1 => ?_)
    · unfold x3; clear x3
      refine keep_foldl ?_ ?_
      · intro a0 a1 h1
        extract_lets +onlyGivenNames x3; clear_value x3
        extract_lets +onlyGivenNames x4; clear_value x4
        extract_lets +onlyGivenNames x5
        refine keep_bind (s0 := s0) x5 ?_ (fun h2 => ?_)
        · unfold x5; clear x5
          refine keep_mk rfl rfl rfl rfl ?_
          exact h1
        · clear_value x5
          apply sendOnAll_keep
          exact h2
      · exact h0
    · clear_value x3
      apply takeAssign_keep
      exact h1

theorem execAssignReceive_keep {s0 : State} (p : Fin 4) (a : Assign) (s : State) (h_s : Keep s0 s) :
    KeepO s0 (execAssignReceive p a s) := by
  unfold execAssignReceive
  refine KeepO.next ?_
  extract_lets +onlyGivenNames x0; clear_value x0
  refine keep_ite ?_ ?_
  · exact h_s
  · extract_lets +onlyGivenNames x1; clear_value x1
    extract_lets +onlyGivenNames x2
    refine keep_bind (s0 := s0) x2 ?_ (fun h0 => ?_)
    · unfold x2; clear x2
      refine keep_mk rfl rfl rfl rfl ?_
      exact h_s
    · clear_value x2
      refine keep_ite ?_ ?_
      · exact h0
      · extract_lets +onlyGivenNames x3
        refine keep_bind (s0 := s0) x3 ?_ (fun h1 => ?_)
        · unfold x3; clear x3
          apply sendOnAll_keep
          exact h0
        · clear_value x3
          refine keep_ite ?_ ?_
          · apply takeAssign_keep
            exact h1
          · exact h1

theorem reroute_keep {s0 : State} (s : State) (h_s : Keep s0 s) :
    Keep s0 (reroute s) := by
  unfold reroute
  refine keep_foldl ?_ ?_
  · intro a0 a1 h0
    refine keep_ite ?_ ?_
    · exact h0
    · extract_lets +onlyGivenNames x0; clear_value x0
      extract_lets +onlyGivenNames x1; clear_value x1
      refine keep_foldl ?_ ?_
      · intro a2 a3 h1
        apply sendRouted_keep
        exact h1
      · apply modLink_keep
        exact h0
  · exact h_s

theorem newLamplighter_keep {s0 : State} (r : Topo) (wasSelf : Bool) (s : State) (h_s : Keep s0 s) :
    Keep s0 (newLamplighter r wasSelf s) := by
  unfold newLamplighter
  extract_lets +onlyGivenNames x0; clear_value x0
  extract_lets +onlyGivenNames x1
  refine keep_bind (s0 := s0) x1 ?_ (fun h0 => ?_)
  · unfold x1; clear x1
    refine keep_mk rfl rfl rfl rfl ?_
    exact h_s
  · clear_value x1
    extract_lets +onlyGivenNames x2
    refine keep_bind (s0 := s0) x2 ?_ (fun h1 => ?_)
    · unfold x2; clear x2
      refine keep_ite ?_ ?_
      · apply badExchange_keep
        exact h0
      · exact h0
    · clear_value x2
      extract_lets +onlyGivenNames x3
      refine keep_bind (s0 := s0) x3 ?_ (fun h2 => ?_)
      · unfold x3; clear x3
        refine keep_ite ?_ ?_
        · apply becomeLamplighter_keep
          exact h1
        · refine keep_ite ?_ ?_
          · apply followAnother_keep
            exact h1
          · refine keep_ite ?_ ?_
            · apply enterHoldover_keep
              exact h1
            · exact h1
      · clear_value x3
        extract_lets +onlyGivenNames x4
        refine keep_bind (s0 := s0) x4 ?_ (fun h3 => ?_)
        · unfold x4; clear x4
          apply mark_keep
          exact h2
        · clear_value x4
          apply raise_keep
          exact h3

theorem execDatabaseSettled_keep {s0 : State} (s : State) (h_s : Keep s0 s) :
    KeepO s0 (execDatabaseSettled s) := by
  unfold execDatabaseSettled
  refine KeepO.next ?_
  refine keep_ite ?_ ?_
  · exact h_s
  · extract_lets +onlyGivenNames x0; clear_value x0
    extract_lets +onlyGivenNames x1; clear_value x1
    split
    · rename_i y0 y0'
      exact h_s
    · rename_i y0 y0' y0''
      extract_lets +onlyGivenNames x2; clear_value x2
      extract_lets +onlyGivenNames x3; clear_value x3
      extract_lets +onlyGivenNames x4; clear_value x4
      extract_lets +onlyGivenNames x5; clear_value x5
      extract_lets +onlyGivenNames x6; clear_value x6
      extract_lets +onlyGivenNames x7; clear_value x7
      extract_lets +onlyGivenNames x8; clear_value x8
      extract_lets +onlyGivenNames x9; clear_value x9
      extract_lets +onlyGivenNames x10
      refine keep_bind (s0 := s0) x10 ?_ (fun h0 => ?_)
      · unfold x10; clear x10
        refine keep_mk rfl rfl rfl rfl ?_
        exact h_s
      · clear_value x10
        extract_lets +onlyGivenNames x11
        refine keep_bind (s0 := s0) x11 ?_ (fun h1 => ?_)
        · unfold x11; clear x11
          refine keep_ite ?_ ?_
          · apply newLamplighter_keep
            exact h0
          · refine keep_ite ?_ ?_
            · apply badExchange_keep
              exact h0
            · exact h0
        · clear_value x11
          extract_lets +onlyGivenNames x12
          refine keep_bind (s0 := s0) x12 ?_ (fun h2 => ?_)
          · unfold x12; clear x12
            refine keep_ite ?_ ?_
            · apply raise_keep
              exact h1
            · exact h1
          · clear_value x12
            extract_lets +onlyGivenNames x13
            refine keep_bind (s0 := s0) x13 ?_ (fun h3 => ?_)
            · unfold x13; clear x13
              apply reroute_keep
              exact h2
            · clear_value x13
              extract_lets +onlyGivenNames x14
              refine keep_bind (s0 := s0) x14 ?_ (fun h4 => ?_)
              · unfold x14; clear x14
                refine keep_ite ?_ ?_
                · apply assignAll_keep
                  exact h3
                · exact h3
              · clear_value x14
                split
                · rename_i y1 y1' y1'' y1''' y1'''' y1''''' y1'''''' y1'''''''
                  refine keep_ite ?_ ?_
                  · refine keep_mk rfl rfl rfl rfl ?_
                    exact h4
                  · exact h4
                · rename_i y1 y1' y1''
                  exact h4

theorem joinFabric_keep {s0 : State} (s : State) (h_s : Keep s0 s) :
    Keep s0 (joinFabric s) := by
  unfold joinFabric
  apply touchDb_keep
  refine keep_mk rfl rfl rfl rfl ?_
  exact h_s

theorem leaveFabric_keep {s0 : State} (s : State) (h_s : Keep s0 s) :
    Keep s0 (leaveFabric s) := by
  unfold leaveFabric
  extract_lets +onlyGivenNames x0
  refine keep_bind (s0 := s0) x0 ?_ (fun h0 => ?_)
  · unfold x0; clear x0
    apply originate_keep
    exact h_s
  · clear_value x0
    extract_lets +onlyGivenNames x1; clear_value x1
    extract_lets +onlyGivenNames x2; clear_value x2
    extract_lets +onlyGivenNames x3
    refine keep_bind (s0 := s0) x3 ?_ (fun h1 => ?_)
    · unfold x3; clear x3
      refine keep_mk rfl rfl rfl rfl ?_
      exact h0
    · clear_value x3
      refine keep_ite ?_ ?_
      · exact h1
      · extract_lets +onlyGivenNames x4
        refine keep_bind (s0 := s0) x4 ?_ (fun h2 => ?_)
        · unfold x4; clear x4
          refine keep_ite ?_ ?_
          · apply badExchange_keep
            exact h1
          · exact h1
        · clear_value x4
          apply becomeLamplighter_keep
          exact h2

theorem fabricJoinBody_keep {s0 : State} (p : Packet) (s : State) (h_s : Keep s0 s) :
    Keep s0 (fabricJoinBody p s).st := by
  unfold fabricJoinBody
  extract_lets +onlyGivenNames x0; clear_value x0
  apply checked_keep
  · exact h_s
  · intro a0
    extract_lets +onlyGivenNames x1
    refine keep_bind (s0 := s0) x1 ?_ (fun h0 => ?_)
    · unfold x1; clear x1
      refine keep_ite ?_ ?_
      · apply joinFabric_keep
        exact h_s
      · apply leaveFabric_keep
        exact h_s
    · clear_value x1
      apply acceptCmd_keep
      refine keep_mk rfl rfl rfl rfl ?_
      exact h0

theorem execFabricJoin_keep {s0 : State} (p : Packet) (s : State) (h_s : Keep s0 s) :
    KeepO s0 (execFabricJoin p s) := by
  unfold execFabricJoin
  refine KeepO.next ?_
  apply runCommand_keep
  · intro a0 a1 h0
    apply fabricJoinBody_keep
    exact h0
  · exact h_s

theorem execFabricJoinDone_keep {s0 : State} (s : State) (h_s : Keep s0 s) :
    KeepO s0 (execFabricJoinDone s) := by
  unfold execFabricJoinDone
  refine KeepO.next ?_
  split
  · rename_i y0 y0'
    exact h_s
  · rename_i y0 y0' y0''
    extract_lets +onlyGivenNames x0; clear_value x0
    extract_lets +onlyGivenNames x1; clear_value x1
    extract_lets +onlyGivenNames x2
    refine keep_bind (s0 := s0) x2 ?_ (fun h0 => ?_)
    · unfold x2; clear x2
      refine keep_mk rfl rfl rfl rfl ?_
      exact h_s
    · clear_value x2
      apply completeDeferred_keep
      exact h0

theorem fabricStatusBody_keep {s0 : State} (p : Packet) (s : State) (h_s : Keep s0 s) :
    Keep s0 (fabricStatusBody p s).st := by
  unfold fabricStatusBody
  extract_lets +onlyGivenNames x0; clear_value x0
  apply checked_keep
  · exact h_s
  · intro a0
    apply okCmd_keep
    exact h_s

theorem execFabricStatus_keep {s0 : State} (p : Packet) (s : State) (h_s : Keep s0 s) :
    KeepO s0 (execFabricStatus p s) := by
  unfold execFabricStatus
  refine KeepO.next ?_
  apply runCommand_keep
  · intro a0 a1 h0
    apply fabricStatusBody_keep
    exact h0
  · exact h_s

theorem routeReadBody_keep {s0 : State} (p : Packet) (s : State) (h_s : Keep s0 s) :
    Keep s0 (routeReadBody p s).st := by
  unfold routeReadBody
  extract_lets +onlyGivenNames x0; clear_value x0
  apply checked_keep
  · exact h_s
  · intro a0
    apply okCmd_keep
    exact h_s

theorem execRouteRead_keep {s0 : State} (p : Packet) (s : State) (h_s : Keep s0 s) :
    KeepO s0 (execRouteRead p s) := by
  unfold execRouteRead
  refine KeepO.next ?_
  apply runCommand_keep
  · intro a0 a1 h0
    apply routeReadBody_keep
    exact h0
  · exact h_s

theorem portTouch_keep {s0 : State} (n : Fin 4) (s : State) (h_s : Keep s0 s) :
    Keep s0 (portTouch n s) := by
  unfold portTouch
  refine keep_ite ?_ ?_
  · exact h_s
  · extract_lets +onlyGivenNames x0; clear_value x0
    apply touchDb_keep
    apply modLink_keep
    exact h_s

theorem reinstatePort_keep {s0 : State} (role : Byte) (n : Fin 4) (s : State) (h_s : Keep s0 s) :
    Keep s0 (reinstatePort role n s) := by
  unfold reinstatePort
  refine keep_ite ?_ ?_
  · extract_lets +onlyGivenNames x0
    refine keep_bind (s0 := s0) x0 ?_ (fun h0 => ?_)
    · unfold x0; clear x0
      apply clearItem_keep
      refine keep_mk rfl rfl rfl rfl ?_
      exact h_s
    · clear_value x0
      extract_lets +onlyGivenNames x1
      refine keep_bind (s0 := s0) x1 ?_ (fun h1 => ?_)
      · unfold x1; clear x1
        apply journalRaise_keep
        exact h0
      · clear_value x1
        apply modLink_keep
        exact h1
  · exact h_s

theorem portConfigBody_keep {s0 : State} (p : Packet) (s : State) (h_s : Keep s0 s) :
    Keep s0 (portConfigBody p s).st := by
  unfold portConfigBody
  extract_lets +onlyGivenNames x0; clear_value x0
  extract_lets +onlyGivenNames x1; clear_value x1
  apply checked_keep
  · exact h_s
  · intro a0
    extract_lets +onlyGivenNames x2
    refine keep_bind (s0 := s0) x2 ?_ (fun h0 => ?_)
    · unfold x2; clear x2
      refine keep_ite ?_ ?_
      · refine keep_foldl ?_ ?_
        · intro a1 a2 h0
          apply reinstatePort_keep
          exact h0
        · exact h_s
      · exact h_s
    · clear_value x2
      extract_lets +onlyGivenNames x3
      refine keep_bind (s0 := s0) x3 ?_ (fun h1 => ?_)
      · unfold x3; clear x3
        apply setShws_keep
        exact h0
      · clear_value x3
        apply okCmd_keep
        refine keep_foldl ?_ ?_
        · intro a1 a2 h2
          apply portTouch_keep
          exact h2
        · exact h1

theorem execPortConfig_keep {s0 : State} (p : Packet) (s : State) (h_s : Keep s0 s) :
    KeepO s0 (execPortConfig p s) := by
  unfold execPortConfig
  refine KeepO.next ?_
  apply runCommand_keep
  · intro a0 a1 h0
    apply portConfigBody_keep
    exact h0
  · exact h_s

theorem lamplighterPriorityBody_keep {s0 : State} (p : Packet) (s : State) (h_s : Keep s0 s) :
    Keep s0 (lamplighterPriorityBody p s).st := by
  unfold lamplighterPriorityBody
  extract_lets +onlyGivenNames x0; clear_value x0
  apply checked_keep
  · exact h_s
  · intro a0
    apply okCmd_keep
    apply touchDb_keep
    apply setShw_keep
    exact h_s

theorem execLamplighterPriority_keep {s0 : State} (p : Packet) (s : State) (h_s : Keep s0 s) :
    KeepO s0 (execLamplighterPriority p s) := by
  unfold execLamplighterPriority
  refine KeepO.next ?_
  apply runCommand_keep
  · intro a0 a1 h0
    apply lamplighterPriorityBody_keep
    exact h0
  · exact h_s

theorem joinSegment_keep {s0 : State} (isReply : Bool) (src dest : Byte) (g : Segment) (s : State) (h_s : Keep s0 s) :
    Keep s0 (joinSegment isReply src dest g s).1 := by
  unfold joinSegment
  extract_lets +onlyGivenNames x0; clear_value x0
  extract_lets +onlyGivenNames x1; clear_value x1
  extract_lets +onlyGivenNames x2; clear_value x2
  refine keep_ite1 ?_ ?_
  · refine keep_pair1 ?_
    exact h_s
  · extract_lets +onlyGivenNames x3; clear_value x3
    refine keep_ite1 ?_ ?_
    · refine keep_pair1 ?_
      refine keep_mk rfl rfl rfl rfl ?_
      exact h_s
    · refine keep_pair1 ?_
      refine keep_mk rfl rfl rfl rfl ?_
      exact h_s

theorem execCmdFrameReceive_keep {s0 : State} (_p : Fin 4) (src dest : Byte) (g : Segment) (s : State) (h_s : Keep s0 s) :
    KeepO s0 (execCmdFrameReceive _p src dest g s) := by
  unfold execCmdFrameReceive
  refine KeepO.next ?_
  refine keep_ite ?_ ?_
  · exact h_s
  · split
    · rename_i y0 y0' y0'' y0'''
      refine keep_bind (s0 := s0) _ (keep_of1 y0''' ?_) (fun h0 => ?_)
      · apply joinSegment_keep
        exact h_s
      · refine keep_mk rfl rfl rfl rfl ?_
        exact h0
    · rename_i y0 y0' y0''
      refine keep_bind (s0 := s0) _ (keep_of1 y0'' ?_) (fun h0 => ?_)
      · apply joinSegment_keep
        exact h_s
      · exact h0

theorem takeReply_keep {s0 : State} (src : Byte) (i : Iface) (tag : Byte) (b : List Byte) (s : State) (h_s : Keep s0 s) :
    Keep s0 (takeReply src i tag b s) := by
  unfold takeReply
  extract_lets +onlyGivenNames x0; clear_value x0
  extract_lets +onlyGivenNames x1; clear_value x1
  split
  · rename_i y0 y0' y0''
    extract_lets +onlyGivenNames x2; clear_value x2
    apply queueReply_keep
    refine keep_mk rfl rfl rfl rfl ?_
    exact h_s
  · rename_i y0 y0'
    refine keep_ite ?_ ?_
    · apply noteAnswer_keep
      exact h_s
    · exact h_s

theorem execRplFrameReceive_keep {s0 : State} (_p : Fin 4) (src : Byte) (g : Segment) (s : State) (h_s : Keep s0 s) :
    KeepO s0 (execRplFrameReceive _p src g s) := by
  unfold execRplFrameReceive
  refine KeepO.next ?_
  refine keep_ite ?_ ?_
  · exact h_s
  · split
    · rename_i y0 y0' y0'' y0'''
      refine keep_bind (s0 := s0) _ (keep_of1 y0''' ?_) (fun h0 => ?_)
      · apply joinSegment_keep
        exact h_s
      · apply takeReply_keep
        exact h0
    · rename_i y0 y0' y0''
      refine keep_bind (s0 := s0) _ (keep_of1 y0'' ?_) (fun h0 => ?_)
      · apply joinSegment_keep
        exact h_s
      · exact h0

theorem execReassemblyTimeout_keep {s0 : State} (isReply : Bool) (src : Byte) (i : Iface) (tag : Byte) (s : State) (h_s : Keep s0 s) :
    KeepO s0 (execReassemblyTimeout isReply src i tag s) := by
  unfold execReassemblyTimeout
  refine KeepO.next ?_
  refine keep_mk rfl rfl rfl rfl ?_
  exact h_s

theorem execRelayTimeout_keep {s0 : State} (i : Iface) (tag : Byte) (s : State) (h_s : Keep s0 s) :
    KeepO s0 (execRelayTimeout i tag s) := by
  unfold execRelayTimeout
  refine KeepO.next ?_
  split
  · rename_i y0 y0' y0''
    apply queueReply_keep
    refine keep_mk rfl rfl rfl rfl ?_
    exact h_s
  · rename_i y0 y0'
    exact h_s

theorem execBroadcastSummary_keep {s0 : State} (i : Iface) (tag : Byte) (s : State) (h_s : Keep s0 s) :
    KeepO s0 (execBroadcastSummary i tag s) := by
  unfold execBroadcastSummary
  refine KeepO.next ?_
  split
  · rename_i y0 y0' y0''
    extract_lets +onlyGivenNames x0; clear_value x0
    extract_lets +onlyGivenNames x1; clear_value x1
    extract_lets +onlyGivenNames x2; clear_value x2
    apply queueReply_keep
    refine keep_mk rfl rfl rfl rfl ?_
    exact h_s
  · rename_i y0 y0'
    exact h_s

theorem execStreamSegmentSend_keep {s0 : State} (k : Fin 16) (s : State) (h_s : Keep s0 s) :
    KeepO s0 (execStreamSegmentSend k s) := by
  unfold execStreamSegmentSend
  refine KeepO.next ?_
  extract_lets +onlyGivenNames x0; clear_value x0
  extract_lets +onlyGivenNames x1; clear_value x1
  extract_lets +onlyGivenNames x2; clear_value x2
  refine keep_ite ?_ ?_
  · exact h_s
  · extract_lets +onlyGivenNames x3; clear_value x3
    apply sendRouted_keep
    apply modStream_keep
    exact h_s

theorem resendSegs_keep {s0 : State} (dest : Byte) (k : Nat) (q : Half) (b : List Byte) (l : List Nat) (s : State) (h_s : Keep s0 s) :
    Keep s0 (resendSegs dest k q b l s) := by
  induction l generalizing q b s with
  | nil => exact h_s
  | cons n l ih => exact ih _ _ _ (sendRouted_keep _ _ h_s)

theorem execStreamResendTimeout_keep {s0 : State} (k : Fin 16) (s : State) (h_s : Keep s0 s) :
    KeepO s0 (execStreamResendTimeout k s) := by
  unfold execStreamResendTimeout
  refine KeepO.next ?_
  extract_lets +onlyGivenNames x0; clear_value x0
  extract_lets +onlyGivenNames x1; clear_value x1
  refine keep_ite ?_ ?_
  · exact h_s
  · apply resendSegs_keep
    exact h_s

theorem execStreamAckReceive_keep {s0 : State} (_p : Fin 4) (_src : Byte) (k : Fin 16) (seq : Half) (s : State) (h_s : Keep s0 s) :
    KeepO s0 (execStreamAckReceive _p _src k seq s) := by
  unfold execStreamAckReceive
  refine KeepO.next ?_
  extract_lets +onlyGivenNames x0; clear_value x0
  extract_lets +onlyGivenNames x1; clear_value x1
  refine keep_ite ?_ ?_
  · exact h_s
  · apply modStream_keep
    exact h_s

theorem takeRecords_keep {s0 : State} (k : Fin 16) (n : Nat) (s : State) (h_s : Keep s0 s) : Keep s0 (takeRecords k n s) := by
  induction n generalizing s with
  | zero => exact h_s
  | succ n ih =>
    unfold takeRecords
    extract_lets +onlyGivenNames x0 x1 x2
    refine keep_ite h_s ?_
    extract_lets +onlyGivenNames x3 x4 x5
    exact ih _ (keep_mkW rfl (fun w => w) (fun w => placeBytes_wf _ _ _ _ w) (fun w => w) h_s)

theorem streamAck_keep {s0 : State} (k : Fin 16) (src : Byte) (num : Nat) (s : State) (h_s : Keep s0 s) :
    Keep s0 (streamAck k src num s) := by
  unfold streamAck
  extract_lets +onlyGivenNames x0; clear_value x0
  refine keep_ite ?_ ?_
  · apply sendRouted_keep
    apply modStream_keep
    exact h_s
  · exact h_s

theorem execStreamFrameReceive_keep {s0 : State} (_p : Fin 4) (src : Byte) (g : StreamSeg) (s : State) (h_s : Keep s0 s) :
    KeepO s0 (execStreamFrameReceive _p src g s) := by
  unfold execStreamFrameReceive
  refine KeepO.next ?_
  refine keep_ite ?_ ?_
  · exact h_s
  · split
    · rename_i y0 y0'
      exact h_s
    · rename_i y0 y0' y0''
      extract_lets +onlyGivenNames x0; clear_value x0
      extract_lets +onlyGivenNames x1; clear_value x1
      extract_lets +onlyGivenNames x2
      refine keep_bind (s0 := s0) x2 ?_ (fun h0 => ?_)
      · unfold x2; clear x2
        refine keep_ite ?_ ?_
        · apply takeRecords_keep
          apply modStream_keep
          exact h_s
        · exact h_s
      · clear_value x2
        apply streamAck_keep
        exact h0

theorem execAlarmFrameReceive_keep {s0 : State} (_p : Fin 4) (src : Byte) (a : AlarmMsg) (s : State) (h_s : Keep s0 s) :
    KeepO s0 (execAlarmFrameReceive _p src a s) := by
  unfold execAlarmFrameReceive
  refine KeepO.next ?_
  refine keep_ite ?_ ?_
  · exact h_s
  · extract_lets +onlyGivenNames x0
    refine keep_bindP (P := ∀ a0, Keep s0 a0 → Keep s0 (x0 a0)) ?_ (fun h0 => ?_)
    · unfold x0; clear x0
      intro a0 h0
      apply sendRouted_keep
      exact h0
    · clear_value x0
      refine keep_ite ?_ ?_
      · apply h0
        exact h_s
      · refine keep_ite ?_ ?_
        · exact h_s
        · extract_lets +onlyGivenNames x1; clear_value x1
          extract_lets +onlyGivenNames x2; clear_value x2
          extract_lets +onlyGivenNames x3; clear_value x3
          apply h0
          refine keep_mk rfl rfl rfl rfl ?_
          exact h_s

theorem execAlarmAckReceive_keep {s0 : State} (_p : Fin 4) (_src : Byte) (aseq : Half) (s : State) (h_s : Keep s0 s) :
    KeepO s0 (execAlarmAckReceive _p _src aseq s) := by
  unfold execAlarmAckReceive
  refine KeepO.next ?_
  refine keep_mk rfl rfl rfl rfl ?_
  exact h_s

theorem execAlarmResend_keep {s0 : State} (s : State) (h_s : Keep s0 s) :
    KeepO s0 (execAlarmResend s) := by
  unfold execAlarmResend
  refine KeepO.next ?_
  split
  · rename_i y0 y0' y0'' y0''' y0'''' y0''''' y0'''''' y0'''''''
    refine keep_ite ?_ ?_
    · apply sendHeldAlarms_keep
      exact h_s
    · extract_lets +onlyGivenNames x0; clear_value x0
      extract_lets +onlyGivenNames x1
      refine keep_bind (s0 := s0) x1 ?_ (fun h0 => ?_)
      · unfold x1; clear x1
        refine keep_foldl ?_ ?_
        · intro a0 a1 h0
          extract_lets +onlyGivenNames x1
          refine keep_bind (s0 := s0) x1 ?_ (fun h1 => ?_)
          · unfold x1; clear x1
            apply sendRouted_keep
            exact h0
          · clear_value x1
            apply raise_keep
            refine keep_mk rfl rfl rfl rfl ?_
            exact h1
        · exact h_s
      · clear_value x1
        apply sendHeldAlarms_keep
        exact h0
  · rename_i y0 y0' y0''
    exact h_s

theorem linkRc_keep {s0 : State} (o : Nat) (s : State) (h_s : Keep s0 s) :
    Keep s0 (linkRc o s) := by
  unfold linkRc
  refine keep_ite ?_ ?_
  · refine keep_mk rfl rfl rfl rfl ?_
    exact h_s
  · refine keep_ite ?_ ?_
    · refine keep_mk rfl rfl rfl rfl ?_
      exact h_s
    · refine keep_ite ?_ ?_
      · apply modLink_keep
        exact h_s
      · refine keep_ite ?_ ?_
        · apply modLink_keep
          exact h_s
        · exact h_s

theorem linkTouch_keep {s0 : State} (o : Nat) (s : State) (h_s : Keep s0 s) :
    Keep s0 (linkTouch o s) := by
  unfold linkTouch
  refine keep_ite ?_ ?_
  · apply touchDb_keep
    exact h_s
  · refine keep_ite ?_ ?_
    · apply portTouch_keep
      exact h_s
    · exact h_s

end Sys2Proof.Machine
end

