-- ==== Sys2Proof/Laws/KeepSec.lean ====
section
/-! SUPPORT. Every operation of Machine/Sec.lean keeps the queue and the canonical memories. -/
namespace Sys2Proof.Machine

open Sys2Proof

theorem putKeys_keep {s0 : State} (c : Bool) (k : Option KeysCopy) (s : State) (h_s : Keep s0 s) :
    Keep s0 (putKeys c k s) := by
  unfold putKeys
  refine keep_mk rfl rfl rfl rfl ?_
  exact h_s

theorem keysUpdate_keep {s0 : State} (k : KeysCopy) (s : State) (h_s : Keep s0 s) :
    Keep s0 (keysUpdate k s) := by
  unfold keysUpdate
  extract_lets +onlyGivenNames x0; clear_value x0
  extract_lets +onlyGivenNames x1; clear_value x1
  extract_lets +onlyGivenNames x2
  refine keep_bind (s0 := s0) x2 ?_ (fun h0 => ?_)
  · unfold x2; clear x2
    apply countErases_keep
    apply nvmGood_keep
    apply putKeys_keep
    exact h_s
  · clear_value x2
    refine keep_mk rfl rfl rfl rfl ?_
    exact h0

theorem keysFail_keep {s0 : State} (r : NvmResult) (s : State) (h_s : Keep s0 s) :
    Keep s0 (keysFail r s) := by
  unfold keysFail
  extract_lets +onlyGivenNames x0; clear_value x0
  apply nvmFailed_keep
  apply countErases_keep
  apply putKeys_keep
  exact h_s

theorem execKeyAreaUpdate_keep {s0 : State} (r : NvmResult) (s : State) (h_s : Keep s0 s) :
    KeepO s0 (execKeyAreaUpdate r s) := by
  unfold execKeyAreaUpdate
  refine KeepO.ite ?_ ?_
  · refine KeepO.next ?_
    exact h_s
  · refine KeepO.next ?_
    apply edgeLine_keep
    split
    · rename_i y0
      apply keysUpdate_keep
      exact h_s
    · rename_i y0 y0'
      apply keysFail_keep
      exact h_s

theorem execSafeLogProgram_keep {s0 : State} (s : State) (h_s : Keep s0 s) :
    KeepO s0 (execSafeLogProgram s) := by
  unfold execSafeLogProgram
  split
  · rename_i y0 y0' y0'' y0''' y0'''' y0''''' y0'''''' y0'''''''
    refine KeepO.ite ?_ ?_
    · refine KeepO.next ?_
      refine keep_mk rfl rfl rfl rfl ?_
      exact h_s
    · refine KeepO.next ?_
      apply putKeys_keep
      refine keep_mk rfl rfl rfl rfl ?_
      exact h_s
  · rename_i y0 y0' y0''
    refine KeepO.next ?_
    refine keep_mk rfl rfl rfl rfl ?_
    exact h_s

theorem cfgLockWrite_keep {s0 : State} (v : Word) (s : State) (h_s : Keep s0 s) :
    Keep s0 (cfgLockWrite v s) := by
  unfold cfgLockWrite
  extract_lets +onlyGivenNames x0; clear_value x0
  refine keep_mk rfl rfl rfl rfl ?_
  exact h_s

theorem sessionOpenBody_keep {s0 : State} (p : Packet) (s : State) (h_s : Keep s0 s) :
    Keep s0 (sessionOpenBody p s).st := by
  unfold sessionOpenBody
  extract_lets +onlyGivenNames x0; clear_value x0
  extract_lets +onlyGivenNames x1; clear_value x1
  apply checked_keep
  · exact h_s
  · intro a0
    split
    · rename_i y0 y0'
      apply failCmd_keep
      exact h_s
    · rename_i y0 y0' y0''
      extract_lets +onlyGivenNames x2; clear_value x2
      extract_lets +onlyGivenNames x3
      refine keep_bind (s0 := s0) x3 ?_ (fun h0 => ?_)
      · unfold x3; clear x3
        apply endSession_keep
        exact h_s
      · clear_value x3
        extract_lets +onlyGivenNames x4
        refine keep_bind (s0 := s0) x4 ?_ (fun h1 => ?_)
        · unfold x4; clear x4
          apply modSession_keep
          exact h0
        · clear_value x4
          apply okCmd_keep
          apply edgeLine_keep
          refine keep_mk rfl rfl rfl rfl ?_
          exact h1

theorem journalAuthFail_keep {s0 : State} (op : Byte) (slot : Option (Fin 6)) (o : Origin) (role attempted : Nat) (fails : Nat) (lock : Bool) (s : State) (h_s : Keep s0 s) :
    Keep s0 (journalAuthFail op slot o role attempted fails lock s) := by
  unfold journalAuthFail
  apply programAll_keep
  apply journalRaise_keep
  exact h_s

theorem sessionAuthBody_keep {s0 : State} (p : Packet) (s : State) (h_s : Keep s0 s) :
    Keep s0 (sessionAuthBody p s).st := by
  unfold sessionAuthBody
  refine keep_iteC ?_ ?_
  · apply failCmd_keep
    exact h_s
  · split
    · rename_i y0 y0'
      apply failCmd_keep
      exact h_s
    · rename_i y0 y0' y0''
      extract_lets +onlyGivenNames x0; clear_value x0
      split
      · rename_i y1 y1'
        apply failCmd_keep
        exact h_s
      · rename_i y1 y1' y1'' y1'''
        extract_lets +onlyGivenNames x1
        refine keep_bind (s0 := s0) x1 ?_ (fun h0 => ?_)
        · unfold x1; clear x1
          apply edgeLine_keep
          apply modSession_keep
          exact h_s
        · clear_value x1
          extract_lets +onlyGivenNames x2; clear_value x2
          refine keep_iteC ?_ ?_
          · apply okCmd_keep
            apply modSession_keep
            exact h0
          · extract_lets +onlyGivenNames x3; clear_value x3
            extract_lets +onlyGivenNames x4; clear_value x4
            extract_lets +onlyGivenNames x5
            refine keep_bind (s0 := s0) x5 ?_ (fun h1 => ?_)
            · unfold x5; clear x5
              apply modSession_keep
              exact h0
            · clear_value x5
              extract_lets +onlyGivenNames x6
              refine keep_bind (s0 := s0) x6 ?_ (fun h2 => ?_)
              · unfold x6; clear x6
                apply journalAuthFail_keep
                exact h1
              · clear_value x6
                extract_lets +onlyGivenNames x7
                refine keep_bind (s0 := s0) x7 ?_ (fun h3 => ?_)
                · unfold x7; clear x7
                  apply raise_keep
                  exact h2
                · clear_value x7
                  extract_lets +onlyGivenNames x8
                  refine keep_bind (s0 := s0) x8 ?_ (fun h4 => ?_)
                  · unfold x8; clear x8
                    refine keep_ite ?_ ?_
                    · apply raise_keep
                      exact h3
                    · exact h3
                  · clear_value x8
                    refine keep_cmd ?_
                    exact h4

theorem sessionCloseBody_keep {s0 : State} (p : Packet) (s : State) (h_s : Keep s0 s) :
    Keep s0 (sessionCloseBody p s).st := by
  unfold sessionCloseBody
  apply checked_keep
  · exact h_s
  · intro a0
    apply okCmd_keep
    split
    · rename_i y0 y0' y0''
      apply endSession_keep
      exact h_s
    · rename_i y0 y0'
      exact h_s

theorem execSessionOpen_keep {s0 : State} (p : Packet) (s : State) (h_s : Keep s0 s) :
    KeepO s0 (execSessionOpen p s) := by
  unfold execSessionOpen
  refine KeepO.next ?_
  apply runCommand_keep
  · intro a0 a1 h0
    apply sessionOpenBody_keep
    exact h0
  · exact h_s

theorem execSessionAuth_keep {s0 : State} (p : Packet) (s : State) (h_s : Keep s0 s) :
    KeepO s0 (execSessionAuth p s) := by
  unfold execSessionAuth
  refine KeepO.next ?_
  apply runCommand_keep
  · intro a0 a1 h0
    apply sessionAuthBody_keep
    exact h0
  · exact h_s

theorem execSessionClose_keep {s0 : State} (p : Packet) (s : State) (h_s : Keep s0 s) :
    KeepO s0 (execSessionClose p s) := by
  unfold execSessionClose
  refine KeepO.next ?_
  apply runCommand_keep
  · intro a0 a1 h0
    apply sessionCloseBody_keep
    exact h0
  · exact h_s

theorem execSessionIdleTimeout_keep {s0 : State} (k : Fin 6) (s : State) (h_s : Keep s0 s) :
    KeepO s0 (execSessionIdleTimeout k s) := by
  unfold execSessionIdleTimeout
  refine KeepO.next ?_
  apply endSession_keep
  exact h_s

theorem execChallengeExpiry_keep {s0 : State} (k : Fin 6) (s : State) (h_s : Keep s0 s) :
    KeepO s0 (execChallengeExpiry k s) := by
  unfold execChallengeExpiry
  refine KeepO.next ?_
  apply modSession_keep
  exact h_s

theorem execLockoutEnd_keep {s0 : State} (k : Fin 6) (s : State) (h_s : Keep s0 s) :
    KeepO s0 (execLockoutEnd k s) := by
  unfold execLockoutEnd
  refine KeepO.next ?_
  apply modSession_keep
  exact h_s

theorem keySetBody_keep {s0 : State} (p : Packet) (s : State) (h_s : Keep s0 s) :
    Keep s0 (keySetBody p s).st := by
  unfold keySetBody
  extract_lets +onlyGivenNames x0; clear_value x0
  extract_lets +onlyGivenNames x1; clear_value x1
  extract_lets +onlyGivenNames x2; clear_value x2
  extract_lets +onlyGivenNames x3; clear_value x3
  extract_lets +onlyGivenNames x4; clear_value x4
  extract_lets +onlyGivenNames x5; clear_value x5
  extract_lets +onlyGivenNames x6; clear_value x6
  extract_lets +onlyGivenNames x7; clear_value x7
  extract_lets +onlyGivenNames x8; clear_value x8
  extract_lets +onlyGivenNames x9; clear_value x9
  extract_lets +onlyGivenNames x10; clear_value x10
  apply checked_keep
  · exact h_s
  · intro a0
    refine keep_iteC ?_ ?_
    · extract_lets +onlyGivenNames x11; clear_value x11
      apply acceptCmd_keep
      apply edgeLine_keep
      refine keep_mk rfl rfl rfl rfl ?_
      exact h_s
    · refine keep_cmd ?_
      apply journalAuthFail_keep
      exact h_s

theorem keyEnds_keep {s0 : State} (j : KeyJob) (s : State) (h_s : Keep s0 s) :
    Keep s0 (keyEnds j s) := by
  unfold keyEnds
  refine keep_ite ?_ ?_
  · refine keep_foldl ?_ ?_
    · intro a0 a1 h0
      refine keep_ite ?_ ?_
      · apply endSession_keep
        exact h0
      · exact h0
    · exact h_s
  · exact h_s

theorem execKeySetDone_keep {s0 : State} (r : NvmResult) (s : State) (h_s : Keep s0 s) :
    KeepO s0 (execKeySetDone r s) := by
  unfold execKeySetDone
  split
  · rename_i y0 y0' y0'' y0''' y0'''' y0'''''
    extract_lets +onlyGivenNames x0; clear_value x0
    extract_lets +onlyGivenNames x1
    refine keep_bind (s0 := s0) x1 ?_ (fun h0 => ?_)
    · unfold x1; clear x1
      apply edgeLine_keep
      refine keep_mk rfl rfl rfl rfl ?_
      exact h_s
    · clear_value x1
      split
      · rename_i y1
        extract_lets +onlyGivenNames x2; clear_value x2
        extract_lets +onlyGivenNames x3; clear_value x3
        extract_lets +onlyGivenNames x4
        refine keep_bind (s0 := s0) x4 ?_ (fun h1 => ?_)
        · unfold x4; clear x4
          apply keysUpdate_keep
          exact h0
        · clear_value x4
          extract_lets +onlyGivenNames x5
          refine keep_bind (s0 := s0) x5 ?_ (fun h2 => ?_)
          · unfold x5; clear x5
            refine keep_ite ?_ ?_
            · exact h1
            · apply keyEnds_keep
              exact h1
          · clear_value x5
            extract_lets +onlyGivenNames x6
            refine keep_bind (s0 := s0) x6 ?_ (fun h3 => ?_)
            · unfold x6; clear x6
              split
              · rename_i y2 y2' y2''
                apply modSession_keep
                exact h2
              · rename_i y2 y2'
                exact h2
            · clear_value x6
              refine KeepO.next ?_
              apply completeDeferred_keep
              exact h3
      · rename_i y1 y1'
        refine KeepO.next ?_
        apply completeDeferred_keep
        apply keysFail_keep
        exact h0
  · rename_i y0 y0' y0''
    refine KeepO.next ?_
    exact h_s

theorem execKeySet_keep {s0 : State} (p : Packet) (s : State) (h_s : Keep s0 s) :
    KeepO s0 (execKeySet p s) := by
  unfold execKeySet
  refine KeepO.next ?_
  apply runCommand_keep
  · intro a0 a1 h0
    apply keySetBody_keep
    exact h0
  · exact h_s

theorem release_keep {s0 : State} (k : Fin 6) (last : Nat) (s : State) (h_s : Keep s0 s) :
    Keep s0 (release k last s) := by
  unfold release
  extract_lets +onlyGivenNames x0; clear_value x0
  extract_lets +onlyGivenNames x1; clear_value x1
  extract_lets +onlyGivenNames x2
  refine keep_bind (s0 := s0) x2 ?_ (fun h0 => ?_)
  · unfold x2; clear x2
    apply keysUpdate_keep
    apply programAll_keep
    exact h_s
  · clear_value x2
    extract_lets +onlyGivenNames x3
    refine keep_bind (s0 := s0) x3 ?_ (fun h1 => ?_)
    · unfold x3; clear x3
      split
      · rename_i y0 y0' y0''
        refine keep_ite ?_ ?_
        · exact h0
        · apply eraseSector_keep
          exact h0
      · rename_i y0 y0'
        exact h0
    · clear_value x3
      extract_lets +onlyGivenNames x4; clear_value x4
      extract_lets +onlyGivenNames x5; clear_value x5
      extract_lets +onlyGivenNames x6
      refine keep_bind (s0 := s0) x6 ?_ (fun h2 => ?_)
      · unfold x6; clear x6
        apply journalRaise_keep
        refine keep_mk rfl rfl rfl rfl ?_
        exact h1
      · clear_value x6
        apply checkJournalFull_keep
        apply programAll_keep
        exact h2

theorem journalReadBody_keep {s0 : State} (p : Packet) (s : State) (h_s : Keep s0 s) :
    Keep s0 (journalReadBody p s).st := by
  unfold journalReadBody
  extract_lets +onlyGivenNames x0; clear_value x0
  extract_lets +onlyGivenNames x1; clear_value x1
  split
  · rename_i y0 y0'
    apply failCmd_keep
    exact h_s
  · rename_i y0 y0' y0''
    apply checked_keep
    · exact h_s
    · intro a0
      extract_lets +onlyGivenNames x2
      refine keep_bind (s0 := s0) x2 ?_ (fun h0 => ?_)
      · unfold x2; clear x2
        refine keep_ite ?_ ?_
        · apply release_keep
          exact h_s
        · exact h_s
      · clear_value x2
        extract_lets +onlyGivenNames x3; clear_value x3
        extract_lets +onlyGivenNames x4; clear_value x4
        extract_lets +onlyGivenNames x5; clear_value x5
        extract_lets +onlyGivenNames x6; clear_value x6
        extract_lets +onlyGivenNames x7; clear_value x7
        apply okCmd_keep
        refine keep_mk rfl rfl rfl rfl ?_
        exact h0

theorem journalPolicyBody_keep {s0 : State} (p : Packet) (s : State) (h_s : Keep s0 s) :
    Keep s0 (journalPolicyBody p s).st := by
  unfold journalPolicyBody
  apply checked_keep
  · exact h_s
  · intro a0
    apply acceptCmd_keep
    exact h_s

theorem execJournalPolicyDone_keep {s0 : State} (r : NvmResult) (s : State) (h_s : Keep s0 s) :
    KeepO s0 (execJournalPolicyDone r s) := by
  unfold execJournalPolicyDone
  split
  · rename_i y0 y0'
    refine KeepO.next ?_
    exact h_s
  · rename_i y0 y0' y0''
    split
    · rename_i y1
      extract_lets +onlyGivenNames x0; clear_value x0
      extract_lets +onlyGivenNames x1
      refine keep_bind (s0 := s0) x1 ?_ (fun h0 => ?_)
      · unfold x1; clear x1
        apply checkJournalFull_keep
        apply keysUpdate_keep
        exact h_s
      · clear_value x1
        refine KeepO.next ?_
        apply completeDeferred_keep
        apply edgeLine_keep
        exact h0
    · rename_i y1 y1'
      refine KeepO.next ?_
      apply completeDeferred_keep
      apply edgeLine_keep
      apply keysFail_keep
      exact h_s

theorem execJournalRead_keep {s0 : State} (p : Packet) (s : State) (h_s : Keep s0 s) :
    KeepO s0 (execJournalRead p s) := by
  unfold execJournalRead
  refine KeepO.next ?_
  apply runCommand_keep
  · intro a0 a1 h0
    apply journalReadBody_keep
    exact h0
  · exact h_s

theorem execJournalPolicy_keep {s0 : State} (p : Packet) (s : State) (h_s : Keep s0 s) :
    KeepO s0 (execJournalPolicy p s) := by
  unfold execJournalPolicy
  refine KeepO.next ?_
  apply runCommand_keep
  · intro a0 a1 h0
    apply journalPolicyBody_keep
    exact h0
  · exact h_s

theorem execJournalEntryProgram_keep {s0 : State} (s : State) (h_s : Keep s0 s) :
    KeepO s0 (execJournalEntryProgram s) := by
  unfold execJournalEntryProgram
  refine KeepO.ite ?_ ?_
  · refine KeepO.next ?_
    exact h_s
  · refine KeepO.next ?_
    apply edgeLine_keep
    apply checkJournalFull_keep
    apply programOne_keep
    exact h_s

theorem execJournalSectorErase_keep {s0 : State} (ok : Bool) (s : State) (h_s : Keep s0 s) :
    KeepO s0 (execJournalSectorErase ok s) := by
  unfold execJournalSectorErase
  split
  · rename_i y0 y0'
    refine KeepO.next ?_
    exact h_s
  · rename_i y0 y0' y0''
    refine KeepO.ite ?_ ?_
    · refine KeepO.next ?_
      exact h_s
    · refine KeepO.ite ?_ ?_
      · refine KeepO.next ?_
        apply edgeLine_keep
        apply eraseSector_keep
        exact h_s
      · refine KeepO.next ?_
        apply edgeLine_keep
        apply raise_keep
        apply countErases_keep
        exact h_s

theorem execSnuffListWrite_keep {s0 : State} (r : NvmResult) (s : State) (h_s : Keep s0 s) :
    KeepO s0 (execSnuffListWrite r s) := by
  unfold execSnuffListWrite
  refine KeepO.ite ?_ ?_
  · refine KeepO.next ?_
    exact h_s
  · extract_lets +onlyGivenNames x0; clear_value x0
    extract_lets +onlyGivenNames x1; clear_value x1
    extract_lets +onlyGivenNames x2; clear_value x2
    extract_lets +onlyGivenNames x3; clear_value x3
    split
    · rename_i y0
      extract_lets +onlyGivenNames x4; clear_value x4
      refine KeepO.next ?_
      apply edgeLine_keep
      apply countErases_keep
      apply nvmGood_keep
      refine keep_mk rfl rfl rfl rfl ?_
      exact h_s
    · rename_i y0 y0'
      refine KeepO.next ?_
      apply edgeLine_keep
      apply nvmFailed_keep
      apply countErases_keep
      refine keep_mk rfl rfl rfl rfl ?_
      exact h_s

theorem modSlot_keep {s0 : State} (b : Bool) (f : ImageSlot → ImageSlot) (s : State) (h_s : Keep s0 s) :
    Keep s0 (modSlot b f s) := by
  unfold modSlot
  refine keep_mk rfl rfl rfl rfl ?_
  exact h_s

theorem modRegionOf_keep {s0 : State} (b : Bool) (kind : Nat) (x : Option Image) (s : State) (h_s : Keep s0 s) :
    Keep s0 (modRegionOf b kind x s) := by
  unfold modRegionOf
  apply modSlot_keep
  exact h_s

theorem eraseRegion_keep {s0 : State} (b : Bool) (kind : Nat) (s : State) (h_s : Keep s0 s) :
    Keep s0 (eraseRegion b kind s) := by
  unfold eraseRegion
  apply countErases_keep
  exact h_s

theorem imageRefuse_keep {s0 : State} (s : State) (h_s : Keep s0 s) :
    Keep s0 (imageRefuse s).st := by
  unfold imageRefuse
  apply failCmd_keep
  apply raise_keep
  exact h_s

theorem imageBeginBody_keep {s0 : State} (p : Packet) (s : State) (h_s : Keep s0 s) :
    Keep s0 (imageBeginBody p s).st := by
  unfold imageBeginBody
  extract_lets +onlyGivenNames x0; clear_value x0
  extract_lets +onlyGivenNames x1; clear_value x1
  extract_lets +onlyGivenNames x2; clear_value x2
  apply checked_keep
  · exact h_s
  · intro a0
    refine keep_iteC ?_ ?_
    · apply imageRefuse_keep
      exact h_s
    · extract_lets +onlyGivenNames x3; clear_value x3
      extract_lets +onlyGivenNames x4
      refine keep_bind (s0 := s0) x4 ?_ (fun h0 => ?_)
      · unfold x4; clear x4
        apply eraseRegion_keep
        apply modSlot_keep
        apply modRegionOf_keep
        exact h_s
      · clear_value x4
        extract_lets +onlyGivenNames x5; clear_value x5
        extract_lets +onlyGivenNames x6
        refine keep_bind (s0 := s0) x6 ?_ (fun h1 => ?_)
        · unfold x6; clear x6
          refine keep_ite ?_ ?_
          · apply keysUpdate_keep
            exact h0
          · exact h0
        · clear_value x6
          apply okCmd_keep
          apply edgeLine_keep
          refine keep_mk rfl rfl rfl rfl ?_
          exact h1

theorem imageDataBody_keep {s0 : State} (p : Packet) (s : State) (h_s : Keep s0 s) :
    Keep s0 (imageDataBody p s).st := by
  unfold imageDataBody
  extract_lets +onlyGivenNames x0; clear_value x0
  refine keep_iteC ?_ ?_
  · apply failCmd_keep
    exact h_s
  · split
    · rename_i y0 y0'
      apply failCmd_keep
      exact h_s
    · rename_i y0 y0' y0''
      extract_lets +onlyGivenNames x1; clear_value x1
      apply checked_keep
      · exact h_s
      · intro a0
        extract_lets +onlyGivenNames x2
        refine keep_bind (s0 := s0) x2 ?_ (fun h0 => ?_)
        · unfold x2; clear x2
          apply modRegionOf_keep
          exact h_s
        · clear_value x2
          apply okCmd_keep
          apply edgeLine_keep
          refine keep_mk rfl rfl rfl rfl ?_
          exact h0

theorem imageEndBody_keep {s0 : State} (p : Packet) (s : State) (h_s : Keep s0 s) :
    Keep s0 (imageEndBody p s).st := by
  unfold imageEndBody
  apply checked_keep
  · exact h_s
  · intro a0
    apply acceptCmd_keep
    exact h_s

theorem execImageEndDone_keep {s0 : State} (r : NvmResult) (s : State) (h_s : Keep s0 s) :
    KeepO s0 (execImageEndDone r s) := by
  unfold execImageEndDone
  split
  · rename_i y0 y0' y0'' y0''' y0'''' y0'''''
    extract_lets +onlyGivenNames x0; clear_value x0
    extract_lets +onlyGivenNames x1
    refine keep_bind (s0 := s0) x1 ?_ (fun h0 => ?_)
    · unfold x1; clear x1
      apply edgeLine_keep
      refine keep_mk rfl rfl rfl rfl ?_
      exact h_s
    · clear_value x1
      extract_lets +onlyGivenNames x2; clear_value x2
      extract_lets +onlyGivenNames x3; clear_value x3
      extract_lets +onlyGivenNames x4; clear_value x4
      refine KeepO.ite ?_ ?_
      · refine KeepO.next ?_
        apply completeDeferred_keep
        apply raise_keep
        exact h0
      · extract_lets +onlyGivenNames x5; clear_value x5
        split
        · rename_i y1
          extract_lets +onlyGivenNames x6
          refine keep_bind (s0 := s0) x6 ?_ (fun h1 => ?_)
          · unfold x6; clear x6
            apply modSlot_keep
            exact h0
          · clear_value x6
            extract_lets +onlyGivenNames x7
            refine keep_bind (s0 := s0) x7 ?_ (fun h2 => ?_)
            · unfold x7; clear x7
              apply eraseRegion_keep
              apply eraseRegion_keep
              exact h1
            · clear_value x7
              refine KeepO.next ?_
              apply completeDeferred_keep
              exact h2
        · rename_i y1 y1'
          refine KeepO.next ?_
          apply completeDeferred_keep
          apply nvmFailed_keep
          exact h0
  · rename_i y0 y0' y0''
    refine KeepO.next ?_
    exact h_s

theorem imageActivateBody_keep {s0 : State} (p : Packet) (s : State) (h_s : Keep s0 s) :
    Keep s0 (imageActivateBody p s).st := by
  unfold imageActivateBody
  extract_lets +onlyGivenNames x0; clear_value x0
  extract_lets +onlyGivenNames x1; clear_value x1
  extract_lets +onlyGivenNames x2; clear_value x2
  extract_lets +onlyGivenNames x3; clear_value x3
  apply checked_keep
  · exact h_s
  · intro a0
    apply acceptCmd_keep
    exact h_s

theorem execImageActivateDone_keep {s0 : State} (r : NvmResult) (s : State) (h_s : Keep s0 s) :
    KeepO s0 (execImageActivateDone r s) := by
  unfold execImageActivateDone
  split
  · rename_i y0 y0'
    refine KeepO.next ?_
    exact h_s
  · rename_i y0 y0' y0''
    extract_lets +onlyGivenNames x0; clear_value x0
    extract_lets +onlyGivenNames x1; clear_value x1
    split
    · rename_i y1
      extract_lets +onlyGivenNames x2; clear_value x2
      extract_lets +onlyGivenNames x3
      refine keep_bind (s0 := s0) x3 ?_ (fun h0 => ?_)
      · unfold x3; clear x3
        apply keysUpdate_keep
        exact h_s
      · clear_value x3
        refine KeepO.next ?_
        apply completeDeferred_keep
        apply edgeLine_keep
        exact h0
    · rename_i y1 y1'
      refine KeepO.next ?_
      apply completeDeferred_keep
      apply edgeLine_keep
      apply keysFail_keep
      exact h_s

theorem execImageBegin_keep {s0 : State} (p : Packet) (s : State) (h_s : Keep s0 s) :
    KeepO s0 (execImageBegin p s) := by
  unfold execImageBegin
  refine KeepO.next ?_
  apply runCommand_keep
  · intro a0 a1 h0
    apply imageBeginBody_keep
    exact h0
  · exact h_s

theorem execImageData_keep {s0 : State} (p : Packet) (s : State) (h_s : Keep s0 s) :
    KeepO s0 (execImageData p s) := by
  unfold execImageData
  refine KeepO.next ?_
  apply runCommand_keep
  · intro a0 a1 h0
    apply imageDataBody_keep
    exact h0
  · exact h_s

theorem execImageEnd_keep {s0 : State} (p : Packet) (s : State) (h_s : Keep s0 s) :
    KeepO s0 (execImageEnd p s) := by
  unfold execImageEnd
  refine KeepO.next ?_
  apply runCommand_keep
  · intro a0 a1 h0
    apply imageEndBody_keep
    exact h0
  · exact h_s

theorem execImageActivate_keep {s0 : State} (p : Packet) (s : State) (h_s : Keep s0 s) :
    KeepO s0 (execImageActivate p s) := by
  unfold execImageActivate
  refine KeepO.next ?_
  apply runCommand_keep
  · intro a0 a1 h0
    apply imageActivateBody_keep
    exact h0
  · exact h_s

theorem loadDecode_keep {s0 : State} (x : Option Image) (s : State) (h_s : Keep s0 s) :
    Keep s0 (loadDecode x s) := by
  unfold loadDecode
  split
  · rename_i y0 y0'
    refine keep_mk rfl rfl rfl rfl ?_
    exact h_s
  · rename_i y0
    refine keep_mk rfl rfl rfl rfl ?_
    exact h_s

theorem loadSlot_keep {s0 : State} (b : Bool) (s : State) (h_s : Keep s0 s) :
    Keep s0 (loadSlot b s) := by
  unfold loadSlot
  extract_lets +onlyGivenNames x0; clear_value x0
  extract_lets +onlyGivenNames x1; clear_value x1
  apply loadDecode_keep
  refine keep_mk rfl rfl rfl rfl ?_
  exact h_s

theorem decodeLoadBody_keep {s0 : State} (p : Packet) (s : State) (h_s : Keep s0 s) :
    Keep s0 (decodeLoadBody p s).st := by
  unfold decodeLoadBody
  extract_lets +onlyGivenNames x0; clear_value x0
  extract_lets +onlyGivenNames x1; clear_value x1
  extract_lets +onlyGivenNames x2; clear_value x2
  apply checked_keep
  · exact h_s
  · intro a0
    refine keep_iteC ?_ ?_
    · apply acceptCmd_keep
      apply edgeLine_keep
      exact h_s
    · apply imageRefuse_keep
      exact h_s

theorem execDecodeLoadDone_keep {s0 : State} (r : NvmResult) (s : State) (h_s : Keep s0 s) :
    KeepO s0 (execDecodeLoadDone r s) := by
  unfold execDecodeLoadDone
  split
  · rename_i y0 y0'
    refine KeepO.next ?_
    exact h_s
  · rename_i y0 y0' y0''
    extract_lets +onlyGivenNames x0; clear_value x0
    extract_lets +onlyGivenNames x1
    refine keep_bind (s0 := s0) x1 ?_ (fun h0 => ?_)
    · unfold x1; clear x1
      apply eraseRegion_keep
      apply edgeLine_keep
      exact h_s
    · clear_value x1
      split
      · rename_i y1
        extract_lets +onlyGivenNames x2; clear_value x2
        extract_lets +onlyGivenNames x3
        refine keep_bind (s0 := s0) x3 ?_ (fun h1 => ?_)
        · unfold x3; clear x3
          apply loadDecode_keep
          apply nvmGood_keep
          apply modRegionOf_keep
          exact h0
        · clear_value x3
          refine KeepO.next ?_
          apply completeDeferred_keep
          apply keysUpdate_keep
          exact h1
      · rename_i y1 y1'
        refine KeepO.next ?_
        apply completeDeferred_keep
        apply nvmFault_keep
        apply modRegionOf_keep
        exact h0

theorem execDecodeLoad_keep {s0 : State} (p : Packet) (s : State) (h_s : Keep s0 s) :
    KeepO s0 (execDecodeLoad p s) := by
  unfold execDecodeLoad
  refine KeepO.next ?_
  apply runCommand_keep
  · intro a0 a1 h0
    apply decodeLoadBody_keep
    exact h0
  · exact h_s

theorem secRc_keep {s0 : State} (o : Nat) (s : State) (h_s : Keep s0 s) :
    Keep s0 (secRc o s) := by
  unfold secRc
  refine keep_ite ?_ ?_
  · refine keep_mk rfl rfl rfl rfl ?_
    exact h_s
  · exact h_s

theorem nvmRc_keep {s0 : State} (o : Nat) (s : State) (h_s : Keep s0 s) :
    Keep s0 (nvmRc o s) := by
  unfold nvmRc
  refine keep_ite ?_ ?_
  · refine keep_mk rfl rfl rfl rfl ?_
    exact h_s
  · exact h_s

end Sys2Proof.Machine
end

