-- ==== Sys2Proof/Laws/KeepAccess.lean ====
section
/-! SUPPORT. Every operation of Machine/Access.lean keeps the queue and the canonical memories. -/
namespace Sys2Proof.Machine

open Sys2Proof

theorem hifRc_keep {s0 : State} (o : Nat) (s : State) (h_s : Keep s0 s) :
    Keep s0 (hifRc o s) := by
  unfold hifRc
  refine keep_ite ?_ ?_
  · apply modPort_keep
    apply modPort_keep
    exact h_s
  · exact h_s

theorem irqW1c_keep {s0 : State} (w : Nat) (s : State) (h_s : Keep s0 s) :
    Keep s0 (irqW1c w s) := by
  unfold irqW1c
  refine keep_mk rfl rfl rfl rfl ?_
  exact h_s

theorem hifW1c_keep {s0 : State} (o : Nat) (v : Word) (s : State) (h_s : Keep s0 s) :
    Keep s0 ((hifW1c o v s).getD s0) := by
  unfold hifW1c
  refine keep_iteO ?_ ?_
  · refine keep_some ?_
    refine keep_mk rfl rfl rfl rfl ?_
    exact h_s
  · refine keep_iteO ?_ ?_
    · refine keep_some ?_
      refine keep_mk rfl rfl rfl rfl ?_
      exact h_s
    · refine keep_iteO ?_ ?_
      · refine keep_some ?_
        apply irqW1c_keep
        exact h_s
      · refine keep_none ?_
        exact Keep.refl _

theorem engRc_keep {s0 : State} (o : Nat) (s : State) (h_s : Keep s0 s) :
    Keep s0 (engRc o s) := by
  unfold engRc
  refine keep_ite ?_ ?_
  · refine keep_mk rfl rfl rfl rfl ?_
    exact h_s
  · refine keep_ite ?_ ?_
    · refine keep_mk rfl rfl rfl rfl ?_
      exact h_s
    · refine keep_ite ?_ ?_
      · refine keep_mk rfl rfl rfl rfl ?_
        exact h_s
      · exact h_s

theorem blockRc_keep {s0 : State} (b o : Nat) (s : State) (h_s : Keep s0 s) :
    Keep s0 (blockRc b o s) := by
  unfold blockRc
  refine keep_ite ?_ ?_
  · apply modFlt_keep
    exact h_s
  · refine keep_ite ?_ ?_
    · exact h_s
    · split
      · rename_i y0
        apply hifRc_keep
        exact h_s
      · rename_i y0
        apply tchRc_keep
        exact h_s
      · rename_i y0
        apply carrRc_keep
        exact h_s
      · rename_i y0
        apply brdgRc_keep
        exact h_s
      · rename_i y0
        apply convRc_keep
        exact h_s
      · rename_i y0
        apply timeRc_keep
        exact h_s
      · rename_i y0
        apply linkRc_keep
        exact h_s
      · rename_i y0
        apply resRc_keep
        exact h_s
      · rename_i y0
        apply hkpRc_keep
        exact h_s
      · rename_i y0
        apply engRc_keep
        exact h_s
      · rename_i y0
        apply nvmRc_keep
        exact h_s
      · rename_i y0
        apply secRc_keep
        exact h_s
      · rename_i y0 y0' y0'' y0''' y0'''' y0''''' y0'''''' y0''''''' y0'''''''' y0''''''''' y0'''''''''' y0''''''''''' y0''''''''''''
        exact h_s

theorem devRead_keep {s0 : State} (a w : Nat) (s : State) (h_s : Keep s0 s) :
    Keep s0 (devRead a w s).2 := by
  unfold devRead
  split
  · rename_i y0 y0'
    refine keep_pair2 ?_
    exact h_s
  · rename_i y0 y0'
    refine keep_pair2 ?_
    refine keep_mk rfl rfl rfl rfl ?_
    exact h_s
  · rename_i y0 y0'
    refine keep_pair2 ?_
    exact h_s
  · rename_i y0 y0'
    refine keep_pair2 ?_
    apply blockRc_keep
    exact h_s
  · rename_i y0 y0'
    refine keep_pair2 ?_
    exact h_s
  · rename_i y0 y0' y0'' y0''' y0'''' y0'''''
    refine keep_pair2 ?_
    exact h_s

theorem devReads_keep {s0 : State} (w n a : Nat) (s : State) (h_s : Keep s0 s) : Keep s0 (devReads w n a s).2 := by
  induction n generalizing a s with
  | zero => exact h_s
  | succ n ih => exact ih _ _ (devRead_keep _ _ _ h_s)

theorem fltW1c_keep {s0 : State} (w : Writer) (b : Nat) (v : Word) (s : State) (h_s : Keep s0 s) :
    Keep s0 (fltW1c w b v s) := by
  unfold fltW1c
  extract_lets +onlyGivenNames x0; clear_value x0
  extract_lets +onlyGivenNames x1; clear_value x1
  apply acknowledge_keep
  exact h_s

theorem takeWord_keep {s0 : State} (a : Nat) (f : RegFile) (s : State) (h_s : Keep s0 s) :
    Keep s0 (takeWord a f s) := by
  unfold takeWord
  extract_lets +onlyGivenNames x0; clear_value x0
  extract_lets +onlyGivenNames x1; clear_value x1
  refine keep_ite ?_ ?_
  · apply withShadow_keep
    exact h_s
  · split
    · rename_i y0
      apply applyNow_keep
      apply applyNow_keep
      apply withShadow_keep
      exact h_s
    · rename_i y0
      apply applyNow_keep
      apply applyNow_keep
      apply withShadow_keep
      exact h_s
    · rename_i y0
      extract_lets +onlyGivenNames x0; clear_value x0
      extract_lets +onlyGivenNames x2; clear_value x2
      apply carrNow_keep
      extract_lets +onlyGivenNames x3
      refine keep_bind (s0 := s0) x3 ?_ (fun h0 => ?_)
      · unfold x3; clear x3
        apply withShadow_keep
        exact h_s
      · clear_value x3
        refine keep_mk rfl rfl rfl rfl ?_
        exact h0
    · rename_i y0
      extract_lets +onlyGivenNames x0; clear_value x0
      extract_lets +onlyGivenNames x2
      refine keep_bind (s0 := s0) x2 ?_ (fun h0 => ?_)
      · unfold x2; clear x2
        apply withShadow_keep
        exact h_s
      · clear_value x2
        extract_lets +onlyGivenNames x3
        refine keep_bind (s0 := s0) x3 ?_ (fun h1 => ?_)
        · unfold x3; clear x3
          apply applyNow_keep
          refine keep_mk rfl rfl rfl rfl ?_
          exact h0
        · clear_value x3
          apply excFix_keep
          apply settleLanes_keep
          exact h1
    · rename_i y0
      apply applyNow_keep
      apply withShadow_keep
      exact h_s
    · rename_i y0
      extract_lets +onlyGivenNames x0
      refine keep_bind (s0 := s0) x0 ?_ (fun h0 => ?_)
      · unfold x0; clear x0
        apply withShadow_keep
        exact h_s
      · clear_value x0
        refine keep_ite ?_ ?_
        · apply takeTrigger_keep
          exact h0
        · apply timeTouched_keep
          exact h0
    · rename_i y0
      apply linkTouch_keep
      apply withShadow_keep
      exact h_s
    · rename_i y0
      apply withShadow_keep
      apply resTouch_keep
      exact h_s
    · rename_i y0
      refine keep_ite ?_ ?_
      · refine keep_ite ?_ ?_
        · exact h_s
        · extract_lets +onlyGivenNames x0
          refine keep_bind (s0 := s0) x0 ?_ (fun h0 => ?_)
          · unfold x0; clear x0
            apply withShadow_keep
            exact h_s
          · clear_value x0
            refine keep_mk rfl rfl rfl rfl ?_
            exact h0
      · apply withShadow_keep
        exact h_s
    · rename_i y0 y0' y0'' y0''' y0'''' y0''''' y0'''''' y0''''''' y0'''''''' y0'''''''''
      apply withShadow_keep
      exact h_s

theorem regWrite_keep {s0 : State} (w : Writer) (op : Byte) (a : Nat) (v : Word) (s : State) (h_s : Keep s0 s) :
    Keep s0 (regWrite w op a v s).2 := by
  unfold regWrite
  extract_lets +onlyGivenNames x0; clear_value x0
  extract_lets +onlyGivenNames x1; clear_value x1
  refine keep_ite2 ?_ ?_
  · refine keep_pair2 ?_
    apply fltW1c_keep
    exact h_s
  · refine keep_ite2 ?_ ?_
    · apply reinstateWrite_keep
      exact h_s
    · refine keep_ite2 ?_ ?_
      · refine keep_pair2 ?_
        apply cfgLockWrite_keep
        exact h_s
      · refine keep_ite2 ?_ ?_
        · refine keep_pair2 ?_
          apply capW1c_keep
          exact h_s
        · split
          · rename_i y0 y0' y0''
            refine keep_bind (s0 := s0) _ (keep_ofsome (d := s0) y0'' ?_) (fun h0 => ?_)
            · refine keep_iteO ?_ ?_
              · apply hifW1c_keep
                exact h_s
              · refine keep_none ?_
                exact Keep.refl _
            · refine keep_pair2 ?_
              exact h0
          · rename_i y0 y0'
            refine keep_ite2 ?_ ?_
            · refine keep_pair2 ?_
              exact h_s
            · refine keep_ite2 ?_ ?_
              · refine keep_pair2 ?_
                exact h_s
              · extract_lets +onlyGivenNames x2; clear_value x2
                split
                · rename_i y1 y1' y1''
                  refine keep_pair2 ?_
                  exact h_s
                · rename_i y1 y1'
                  refine keep_pair2 ?_
                  apply takeWord_keep
                  exact h_s

theorem memWriteDev_keep {s0 : State} (a : Nat) (bs : List Byte) (s : State) (h_s : Keep s0 s) :
    Keep s0 (memWriteDev a bs s) := by
  unfold memWriteDev
  split
  · rename_i y0 y0'
    refine keep_mkW rfl (fun w => w) ?_ (fun w => w) ?_
    · intro w0
      with_reducible apply memWrite_wf
      with_reducible exact w0
    · exact h_s
  · rename_i y0 y0'
    refine keep_mkW rfl ?_ (fun w => w) (fun w => w) ?_
    · intro w0
      with_reducible apply memWrite_wf
      with_reducible exact w0
    · exact h_s
  · rename_i y0 y0'
    refine keep_mkW rfl (fun w => w) (fun w => w) ?_ ?_
    · intro w0
      with_reducible apply memWrite_wf
      with_reducible exact w0
    · exact h_s
  · rename_i y0 y0' y0'' y0'''
    exact h_s

theorem devWrite_keep {s0 : State} (w : Writer) (op : Byte) (a : Nat) (bs : List Byte) (s : State) (h_s : Keep s0 s) :
    Keep s0 (devWrite w op a bs s).2 := by
  unfold devWrite
  refine keep_ite2 ?_ ?_
  · apply regWrite_keep
    exact h_s
  · refine keep_pair2 ?_
    apply memWriteDev_keep
    exact h_s

theorem devWrites_keep {s0 : State} (w : Writer) (op : Byte) (n k a : Nat) (bs : List Byte) (s : State) (h_s : Keep s0 s) :
    Keep s0 (devWrites w op n k a bs s).2.2 := by
  induction k generalizing a bs s with
  | zero => exact h_s
  | succ k ih =>
    have h := devWrite_keep w op a (bs.take n) s h_s
    unfold devWrites
    split
    · rename_i t e
      rw [e] at h
      have k1 := ih (a + n) (bs.drop n) t h
      split
      rename_i e2
      rw [e2] at k1
      exact k1
    · exact h_s

theorem readRegBody_keep {s0 : State} (p : Packet) (s : State) (h_s : Keep s0 s) :
    Keep s0 (readRegBody p s).st := by
  unfold readRegBody
  extract_lets +onlyGivenNames x0; clear_value x0
  apply checked_keep
  · exact h_s
  · intro a0
    split
    rename_i y0 y0' y0'' y0'''
    refine keep_bind (s0 := s0) _ (keep_of2 y0''' ?_) (fun h0 => ?_)
    · apply devReads_keep
      exact h_s
    · apply okCmd_keep
      exact h0

theorem writeRegBody_keep {s0 : State} (p : Packet) (s : State) (h_s : Keep s0 s) :
    Keep s0 (writeRegBody p s).st := by
  unfold writeRegBody
  extract_lets +onlyGivenNames x0; clear_value x0
  extract_lets +onlyGivenNames x1; clear_value x1
  extract_lets +onlyGivenNames x2; clear_value x2
  apply checked_keep
  · exact h_s
  · intro a0
    extract_lets +onlyGivenNames x3; clear_value x3
    split
    · rename_i y0 y0' y0'' y0'''
      refine keep_bind (s0 := s0) _ (keep_of22 y0''' ?_) (fun h0 => ?_)
      · apply devWrites_keep
        exact h_s
      · apply okCmd_keep
        exact h0
    · rename_i y0 y0' y0'' y0''' y0'''' y0'''''
      refine keep_bind (s0 := s0) _ (keep_of22 y0''''' ?_) (fun h0 => ?_)
      · apply devWrites_keep
        exact h_s
      · refine keep_cmd ?_
        exact h0

theorem execReadReg_keep {s0 : State} (p : Packet) (s : State) (h_s : Keep s0 s) :
    KeepO s0 (execReadReg p s) := by
  unfold execReadReg
  refine KeepO.next ?_
  apply runCommand_keep
  · intro a0 a1 h0
    apply readRegBody_keep
    exact h0
  · exact h_s

theorem execWriteReg_keep {s0 : State} (p : Packet) (s : State) (h_s : Keep s0 s) :
    KeepO s0 (execWriteReg p s) := by
  unfold execWriteReg
  refine KeepO.next ?_
  apply runCommand_keep
  · intro a0 a1 h0
    apply writeRegBody_keep
    exact h0
  · exact h_s

theorem writeRow_keep {s0 : State} (w : Writer) (a : Nat) (v : Word) (s : State) (h_s : Keep s0 s) :
    Keep s0 (writeRow w a v s) := by
  unfold writeRow
  refine keep_ite ?_ ?_
  · extract_lets +onlyGivenNames x0; clear_value x0
    extract_lets +onlyGivenNames x1
    refine keep_bind (s0 := s0) x1 ?_ (fun h0 => ?_)
    · unfold x1; clear x1
      apply regWrite_keep
      exact h_s
    · clear_value x1
      split
      · rename_i y0
        refine keep_mk rfl rfl rfl rfl ?_
        exact h0
      · rename_i y0 y0'
        exact h0
  · split
    · rename_i y0
      refine keep_ite ?_ ?_
      · exact h_s
      · apply raise_keep
        exact h_s
    · rename_i y0 y0'
      exact h_s

theorem execFaultStatAck_keep {s0 : State} (w : Writer) (b : Fin 14) (mask : Word) (s : State) (h_s : Keep s0 s) :
    KeepO s0 (execFaultStatAck w b mask s) := by
  unfold execFaultStatAck
  refine KeepO.next ?_
  apply writeRow_keep
  exact h_s

theorem execHkpReinstate_keep {s0 : State} (w : Writer) (v : Word) (s : State) (h_s : Keep s0 s) :
    KeepO s0 (execHkpReinstate w v s) := by
  unfold execHkpReinstate
  refine KeepO.next ?_
  apply writeRow_keep
  exact h_s

theorem execSecCfgLockWrite_keep {s0 : State} (w : Writer) (v : Word) (s : State) (h_s : Keep s0 s) :
    KeepO s0 (execSecCfgLockWrite w v s) := by
  unfold execSecCfgLockWrite
  split
  · rename_i y0 y0'
    refine KeepO.next ?_
    apply writeRow_keep
    exact h_s
  · rename_i y0
    refine KeepO.next ?_
    exact h_s
  · rename_i y0
    refine KeepO.next ?_
    apply writeRow_keep
    exact h_s

theorem execTriggerCfgWrite_keep {s0 : State} (w : Writer) (u : Fin 16) (v : Word) (s : State) (h_s : Keep s0 s) :
    KeepO s0 (execTriggerCfgWrite w u v s) := by
  unfold execTriggerCfgWrite
  refine KeepO.next ?_
  apply writeRow_keep
  exact h_s

theorem execRegisterWrite_keep {s0 : State} (w : Writer) (a : Word) (v : Word) (s : State) (h_s : Keep s0 s) :
    KeepO s0 (execRegisterWrite w a v s) := by
  unfold execRegisterWrite
  refine KeepO.next ?_
  apply writeRow_keep
  exact h_s

theorem putCfg_keep {s0 : State} (b : Bool) (c : Option CfgCopy) (s : State) (h_s : Keep s0 s) :
    Keep s0 (putCfg b c s) := by
  unfold putCfg
  refine keep_mk rfl rfl rfl rfl ?_
  exact h_s

theorem saveConfigBody_keep {s0 : State} (p : Packet) (s : State) (h_s : Keep s0 s) :
    Keep s0 (saveConfigBody p s).st := by
  unfold saveConfigBody
  apply checked_keep
  · exact h_s
  · intro a0
    apply acceptCmd_keep
    refine keep_mk rfl rfl rfl rfl ?_
    exact h_s

theorem execSaveConfigDone_keep {s0 : State} (r : NvmResult) (s : State) (h_s : Keep s0 s) :
    KeepO s0 (execSaveConfigDone r s) := by
  unfold execSaveConfigDone
  split
  · rename_i y0 y0'
    refine KeepO.next ?_
    exact h_s
  · rename_i y0 y0' y0''
    extract_lets +onlyGivenNames x0; clear_value x0
    extract_lets +onlyGivenNames x1; clear_value x1
    extract_lets +onlyGivenNames x2; clear_value x2
    extract_lets +onlyGivenNames x3
    refine keep_bind (s0 := s0) x3 ?_ (fun h0 => ?_)
    · unfold x3; clear x3
      apply countErases_keep
      apply edgeLine_keep
      exact h_s
    · clear_value x3
      extract_lets +onlyGivenNames x4; clear_value x4
      extract_lets +onlyGivenNames x5; clear_value x5
      extract_lets +onlyGivenNames x6
      refine keep_bind (s0 := s0) x6 ?_ (fun h1 => ?_)
      · unfold x6; clear x6
        refine keep_mk rfl rfl rfl rfl ?_
        exact h0
      · clear_value x6
        split
        · rename_i y1
          extract_lets +onlyGivenNames x7; clear_value x7
          refine KeepO.next ?_
          apply completeDeferred_keep
          apply nvmGood_keep
          apply putCfg_keep
          exact h1
        · rename_i y1 y1'
          refine KeepO.next ?_
          apply completeDeferred_keep
          apply nvmFailed_keep
          apply putCfg_keep
          exact h1

theorem loadConfigBody_keep {s0 : State} (p : Packet) (s : State) (h_s : Keep s0 s) :
    Keep s0 (loadConfigBody p s).st := by
  unfold loadConfigBody
  apply checked_keep
  · exact h_s
  · intro a0
    apply acceptCmd_keep
    exact h_s

theorem loadItems_keep {s0 : State} (items : RegFile) (s : State) (h_s : Keep s0 s) :
    Keep s0 (loadItems items s) := by
  unfold loadItems
  extract_lets +onlyGivenNames x0; clear_value x0
  extract_lets +onlyGivenNames x1
  refine keep_bind (s0 := s0) x1 ?_ (fun h0 => ?_)
  · unfold x1; clear x1
    refine keep_foldl ?_ ?_
    · intro a0 a1 h0
      refine keep_ite ?_ ?_
      · exact h0
      · apply withdraw_keep
        exact h0
    · exact h_s
  · clear_value x1
    extract_lets +onlyGivenNames x2; clear_value x2
    extract_lets +onlyGivenNames x3; clear_value x3
    extract_lets +onlyGivenNames x4
    refine keep_bind (s0 := s0) x4 ?_ (fun h1 => ?_)
    · unfold x4; clear x4
      apply withShadow_keep
      exact h0
    · clear_value x4
      extract_lets +onlyGivenNames x5; clear_value x5
      extract_lets +onlyGivenNames x6
      refine keep_bind (s0 := s0) x6 ?_ (fun h2 => ?_)
      · unfold x6; clear x6
        refine keep_mk rfl rfl rfl rfl ?_
        exact h1
      · clear_value x6
        extract_lets +onlyGivenNames x7
        refine keep_bind (s0 := s0) x7 ?_ (fun h3 => ?_)
        · unfold x7; clear x7
          refine keep_foldl ?_ ?_
          · intro a0 a1 h3
            apply portTouch_keep
            exact h3
          · exact h2
        · clear_value x7
          apply timeTouched_keep
          refine keep_ite ?_ ?_
          · apply touchDb_keep
            exact h3
          · exact h3

theorem execLoadConfigDone_keep {s0 : State} (s : State) (h_s : Keep s0 s) :
    KeepO s0 (execLoadConfigDone s) := by
  unfold execLoadConfigDone
  split
  · rename_i y0 y0'
    refine KeepO.next ?_
    exact h_s
  · rename_i y0 y0' y0''
    split
    · rename_i y1 y1'
      refine KeepO.next ?_
      apply completeDeferred_keep
      exact h_s
    · rename_i y1 y1' y1'' y1'''
      extract_lets +onlyGivenNames x0
      refine keep_bind (s0 := s0) x0 ?_ (fun h0 => ?_)
      · unfold x0; clear x0
        apply loadItems_keep
        exact h_s
      · clear_value x0
        refine KeepO.next ?_
        apply completeDeferred_keep
        refine keep_mk rfl rfl rfl rfl ?_
        exact h0

theorem execSaveConfig_keep {s0 : State} (p : Packet) (s : State) (h_s : Keep s0 s) :
    KeepO s0 (execSaveConfig p s) := by
  unfold execSaveConfig
  refine KeepO.next ?_
  apply runCommand_keep
  · intro a0 a1 h0
    apply saveConfigBody_keep
    exact h0
  · exact h_s

theorem execLoadConfig_keep {s0 : State} (p : Packet) (s : State) (h_s : Keep s0 s) :
    KeepO s0 (execLoadConfig p s) := by
  unfold execLoadConfig
  refine KeepO.next ?_
  apply runCommand_keep
  · intro a0 a1 h0
    apply loadConfigBody_keep
    exact h0
  · exact h_s

end Sys2Proof.Machine
end

