-- ==== Sys2Proof/Laws/KeepMode.lean ====
section
/-! SUPPORT. Every operation of Machine/Mode.lean keeps the queue and the canonical memories. -/
namespace Sys2Proof.Machine

open Sys2Proof

theorem modeFrames_keep {s0 : State} (dest : Byte) (payload : List Byte) (s : State) (h_s : Keep s0 s) :
    Keep s0 (modeFrames dest payload s) := by
  unfold modeFrames
  apply sendPacket_keep
  exact h_s

theorem modeToAll_keep {s0 : State} (devs : List Byte) (payload : List Byte) (s : State) (h_s : Keep s0 s) :
    Keep s0 (modeToAll devs payload s) := by
  unfold modeToAll
  refine keep_foldl ?_ ?_
  · intro a0 a1 h0
    apply modeFrames_keep
    exact h0
  · exact h_s

theorem modeView_keep {s0 : State} (c : ModeChange) (f : RegFile) (s : State) (h_s : Keep s0 s) :
    Keep s0 (modeView c f s) := by
  unfold modeView
  extract_lets +onlyGivenNames x0; clear_value x0
  refine keep_mk rfl rfl rfl rfl ?_
  exact h_s

theorem journalMode_keep {s0 : State} (result : Byte) (id : Half) (e : Word) (s : State) (h_s : Keep s0 s) :
    Keep s0 (journalMode result id e s) := by
  unfold journalMode
  apply journalRaise_keep
  exact h_s

theorem takeChange_keep {s0 : State} (c : ModeChange) (s : State) (h_s : Keep s0 s) :
    Keep s0 (takeChange c s).2 := by
  unfold takeChange
  extract_lets +onlyGivenNames x0; clear_value x0
  extract_lets +onlyGivenNames x1
  refine keep_bind (s0 := s0) x1 ?_ (fun h0 => ?_)
  · unfold x1; clear x1
    apply journalMode_keep
    exact h_s
  · clear_value x1
    refine keep_pair2 ?_
    refine keep_ite ?_ ?_
    · refine keep_mk rfl rfl rfl rfl ?_
      exact h0
    · exact h0

theorem dropChange_keep {s0 : State} (s : State) (h_s : Keep s0 s) :
    Keep s0 (dropChange s) := by
  unfold dropChange
  extract_lets +onlyGivenNames x0; clear_value x0
  extract_lets +onlyGivenNames x1; clear_value x1
  extract_lets +onlyGivenNames x2
  refine keep_bind (s0 := s0) x2 ?_ (fun h0 => ?_)
  · unfold x2; clear x2
    refine keep_mk rfl rfl rfl rfl ?_
    exact h_s
  · clear_value x2
    refine keep_ite ?_ ?_
    · apply touchDb_keep
      exact h0
    · exact h0

theorem abortChange_keep {s0 : State} (id : Half) (s : State) (h_s : Keep s0 s) :
    Keep s0 (abortChange id s) := by
  unfold abortChange
  refine keep_ite ?_ ?_
  · apply journalMode_keep
    apply dropChange_keep
    exact h_s
  · exact h_s

theorem modePrepareBody_keep {s0 : State} (p : Packet) (s : State) (h_s : Keep s0 s) :
    Keep s0 (modePrepareBody p s).st := by
  unfold modePrepareBody
  extract_lets +onlyGivenNames x0; clear_value x0
  extract_lets +onlyGivenNames x1; clear_value x1
  apply checked_keep
  · exact h_s
  · intro a0
    extract_lets +onlyGivenNames x2; clear_value x2
    extract_lets +onlyGivenNames x3
    refine keep_bind (s0 := s0) x3 ?_ (fun h0 => ?_)
    · unfold x3; clear x3
      apply takeChange_keep
      exact h_s
    · clear_value x3
      extract_lets +onlyGivenNames x4; clear_value x4
      extract_lets +onlyGivenNames x5
      refine keep_bind (s0 := s0) x5 ?_ (fun h1 => ?_)
      · unfold x5; clear x5
        refine keep_mk rfl rfl rfl rfl ?_
        exact h0
      · clear_value x5
        apply acceptCmd_keep
        apply modeToAll_keep
        exact h1

theorem execModePrepare_keep {s0 : State} (p : Packet) (s : State) (h_s : Keep s0 s) :
    KeepO s0 (execModePrepare p s) := by
  unfold execModePrepare
  refine KeepO.next ?_
  apply runCommand_keep
  · intro a0 a1 h0
    apply modePrepareBody_keep
    exact h0
  · exact h_s

theorem modFlight_keep {s0 : State} (f : Flight → Flight) (s : State) (h_s : Keep s0 s) :
    Keep s0 (modFlight f s) := by
  unfold modFlight
  refine keep_mk rfl rfl rfl rfl ?_
  exact h_s

theorem execModePrepareDone_keep {s0 : State} (s : State) (h_s : Keep s0 s) :
    KeepO s0 (execModePrepareDone s) := by
  unfold execModePrepareDone
  refine KeepO.next ?_
  split
  · rename_i y0 y0' y0'' y0''' y0'''' y0'''''
    extract_lets +onlyGivenNames x0; clear_value x0
    extract_lets +onlyGivenNames x1; clear_value x1
    extract_lets +onlyGivenNames x2; clear_value x2
    extract_lets +onlyGivenNames x3
    refine keep_bind (s0 := s0) x3 ?_ (fun h0 => ?_)
    · unfold x3; clear x3
      apply abortChange_keep
      apply modeToAll_keep
      exact h_s
    · clear_value x3
      extract_lets +onlyGivenNames x4; clear_value x4
      extract_lets +onlyGivenNames x5
      refine keep_bind (s0 := s0) x5 ?_ (fun h1 => ?_)
      · unfold x5; clear x5
        refine keep_ite ?_ ?_
        · apply modFlight_keep
          exact h_s
        · refine keep_mk rfl rfl rfl rfl ?_
          exact h0
      · clear_value x5
        apply completeDeferred_keep
        exact h1
  · rename_i y0 y0' y0''
    exact h_s

theorem orderAll_keep {s0 : State} (commit : Bool) (f : Flight) (s : State) (h_s : Keep s0 s) :
    Keep s0 (orderAll commit f s) := by
  unfold orderAll
  extract_lets +onlyGivenNames x0; clear_value x0
  refine keep_ite ?_ ?_
  · extract_lets +onlyGivenNames x1
    refine keep_bind (s0 := s0) x1 ?_ (fun h0 => ?_)
    · unfold x1; clear x1
      apply modFlight_keep
      exact h_s
    · clear_value x1
      apply modeToAll_keep
      apply commitHeld_keep
      exact h0
  · extract_lets +onlyGivenNames x1
    refine keep_bind (s0 := s0) x1 ?_ (fun h0 => ?_)
    · unfold x1; clear x1
      apply modFlight_keep
      exact h_s
    · clear_value x1
      apply modeToAll_keep
      apply abortChange_keep
      exact h0

theorem modeCommitBody_keep {s0 : State} (p : Packet) (s : State) (h_s : Keep s0 s) :
    Keep s0 (modeCommitBody p s).st := by
  unfold modeCommitBody
  extract_lets +onlyGivenNames x0; clear_value x0
  extract_lets +onlyGivenNames x1; clear_value x1
  extract_lets +onlyGivenNames x2; clear_value x2
  extract_lets +onlyGivenNames x3; clear_value x3
  apply checked_keep
  · exact h_s
  · intro a0
    split
    · rename_i y0 y0'
      apply acceptCmd_keep
      apply orderAll_keep
      exact h_s
    · rename_i y0
      apply failCmd_keep
      exact h_s

theorem execModeCommit_keep {s0 : State} (p : Packet) (s : State) (h_s : Keep s0 s) :
    KeepO s0 (execModeCommit p s) := by
  unfold execModeCommit
  refine KeepO.next ?_
  apply runCommand_keep
  · intro a0 a1 h0
    apply modeCommitBody_keep
    exact h0
  · exact h_s

theorem execModeCommitDone_keep {s0 : State} (s : State) (h_s : Keep s0 s) :
    KeepO s0 (execModeCommitDone s) := by
  unfold execModeCommitDone
  refine KeepO.next ?_
  split
  · rename_i y0 y0' y0'' y0''' y0'''' y0'''''
    extract_lets +onlyGivenNames x0; clear_value x0
    extract_lets +onlyGivenNames x1; clear_value x1
    extract_lets +onlyGivenNames x2; clear_value x2
    extract_lets +onlyGivenNames x3; clear_value x3
    apply completeDeferred_keep
    refine keep_mk rfl rfl rfl rfl ?_
    exact h_s
  · rename_i y0 y0' y0''
    exact h_s

theorem execModeCommitResend_keep {s0 : State} (s : State) (h_s : Keep s0 s) :
    KeepO s0 (execModeCommitResend s) := by
  unfold execModeCommitResend
  refine KeepO.next ?_
  split
  · rename_i y0 y0' y0''
    extract_lets +onlyGivenNames x0; clear_value x0
    refine keep_ite ?_ ?_
    · refine keep_ite ?_ ?_
      · exact h_s
      · apply modeToAll_keep
        exact h_s
    · refine keep_ite ?_ ?_
      · extract_lets +onlyGivenNames x1
        refine keep_bind (s0 := s0) x1 ?_ (fun h0 => ?_)
        · unfold x1; clear x1
          apply abortChange_keep
          apply modeToAll_keep
          exact h_s
        · clear_value x1
          refine keep_mk rfl rfl rfl rfl ?_
          exact h0
      · exact h_s
  · rename_i y0 y0'
    exact h_s

theorem execModePrepareReceive_keep {s0 : State} (_p : Fin 4) (src : Byte) (c : ModeChange) (s : State) (h_s : Keep s0 s) :
    KeepO s0 (execModePrepareReceive _p src c s) := by
  unfold execModePrepareReceive
  refine KeepO.next ?_
  refine keep_ite ?_ ?_
  · exact h_s
  · split
    rename_i y0 y0' y0'' y0'''
    refine keep_bind (s0 := s0) _ (keep_of2 y0''' ?_) (fun h0 => ?_)
    · apply takeChange_keep
      exact h_s
    · apply modeFrames_keep
      exact h0

theorem execModeAckReceive_keep {s0 : State} (src : Byte) (a : ModeAck) (s : State) (h_s : Keep s0 s) :
    KeepO s0 (execModeAckReceive src a s) := by
  unfold execModeAckReceive
  refine KeepO.next ?_
  split
  · rename_i y0 y0' y0''
    refine keep_ite ?_ ?_
    · exact h_s
    · extract_lets +onlyGivenNames x0; clear_value x0
      apply modFlight_keep
      exact h_s
  · rename_i y0 y0'
    exact h_s

theorem execModeCommitReceive_keep {s0 : State} (how : CommitKind) (s : State) (h_s : Keep s0 s) :
    KeepO s0 (execModeCommitReceive how s) := by
  unfold execModeCommitReceive
  refine KeepO.next ?_
  split
  · rename_i y0 y0' y0''
    extract_lets +onlyGivenNames x0; clear_value x0
    extract_lets +onlyGivenNames x1
    refine keep_bind (s0 := s0) x1 ?_ (fun h0 => ?_)
    · unfold x1; clear x1
      apply commitHeld_keep
      exact h_s
    · clear_value x1
      refine keep_ite ?_ ?_
      · apply modeFrames_keep
        exact h0
      · exact h0
  · rename_i y0 y0' y0''
    apply commitHeld_keep
    exact h_s
  · rename_i y0 y0'
    apply commitHeld_keep
    exact h_s

theorem execModeAbortReceive_keep {s0 : State} (src : Byte) (id : Half) (s : State) (h_s : Keep s0 s) :
    KeepO s0 (execModeAbortReceive src id s) := by
  unfold execModeAbortReceive
  refine KeepO.next ?_
  refine keep_ite ?_ ?_
  · exact h_s
  · extract_lets +onlyGivenNames x0
    refine keep_bind (s0 := s0) x0 ?_ (fun h0 => ?_)
    · unfold x0; clear x0
      apply abortChange_keep
      exact h_s
    · clear_value x0
      refine keep_ite ?_ ?_
      · exact h0
      · apply modeFrames_keep
        exact h0

theorem execModeAppliedReceive_keep {s0 : State} (src : Byte) (id : Half) (epoch : Word) (s : State) (h_s : Keep s0 s) :
    KeepO s0 (execModeAppliedReceive src id epoch s) := by
  unfold execModeAppliedReceive
  refine KeepO.next ?_
  apply modFlight_keep
  exact h_s

theorem execPreparedChangeDiscard_keep {s0 : State} (s : State) (h_s : Keep s0 s) :
    KeepO s0 (execPreparedChangeDiscard s) := by
  unfold execPreparedChangeDiscard
  refine KeepO.next ?_
  refine keep_ite ?_ ?_
  · apply dropChange_keep
    exact h_s
  · exact h_s

theorem modeApply_keep {s0 : State} (x : Prepared) (m : Word) (s : State) (h_s : Keep s0 s) :
    Keep s0 (modeApply x m s) := by
  unfold modeApply
  extract_lets +onlyGivenNames x0; clear_value x0
  extract_lets +onlyGivenNames x1; clear_value x1
  extract_lets +onlyGivenNames x2; clear_value x2
  extract_lets +onlyGivenNames x3; clear_value x3
  extract_lets +onlyGivenNames x4
  refine keep_bind (s0 := s0) x4 ?_ (fun h0 => ?_)
  · unfold x4; clear x4
    apply withShadow_keep
    exact h_s
  · clear_value x4
    extract_lets +onlyGivenNames x5; clear_value x5
    extract_lets +onlyGivenNames x6
    refine keep_bind (s0 := s0) x6 ?_ (fun h1 => ?_)
    · unfold x6; clear x6
      refine keep_mk rfl rfl rfl rfl ?_
      exact h0
    · clear_value x6
      extract_lets +onlyGivenNames x7
      refine keep_bind (s0 := s0) x7 ?_ (fun h2 => ?_)
      · unfold x7; clear x7
        refine keep_foldl ?_ ?_
        · intro a0 a1 h2
          apply applyBlock_keep
          exact h2
        · exact h1
      · clear_value x7
        extract_lets +onlyGivenNames x8; clear_value x8
        extract_lets +onlyGivenNames x9; clear_value x9
        extract_lets +onlyGivenNames x10; clear_value x10
        extract_lets +onlyGivenNames x11; clear_value x11
        extract_lets +onlyGivenNames x12
        refine keep_bind (s0 := s0) x12 ?_ (fun h3 => ?_)
        · unfold x12; clear x12
          refine keep_mk rfl rfl rfl rfl ?_
          exact h2
        · clear_value x12
          extract_lets +onlyGivenNames x13; clear_value x13
          extract_lets +onlyGivenNames x14
          refine keep_bind (s0 := s0) x14 ?_ (fun h4 => ?_)
          · unfold x14; clear x14
            apply journalMode_keep
            apply touchDb_keep
            exact h3
          · clear_value x14
            refine keep_ite ?_ ?_
            · apply modFlight_keep
              exact h4
            · apply modeFrames_keep
              exact h4

theorem modeLags_keep {s0 : State} (x : Prepared) (s : State) (h_s : Keep s0 s) :
    Keep s0 (modeLags x s) := by
  unfold modeLags
  extract_lets +onlyGivenNames x0; clear_value x0
  extract_lets +onlyGivenNames x1; clear_value x1
  extract_lets +onlyGivenNames x2
  refine keep_bind (s0 := s0) x2 ?_ (fun h0 => ?_)
  · unfold x2; clear x2
    refine keep_mk rfl rfl rfl rfl ?_
    exact h_s
  · clear_value x2
    apply raise_keep
    apply touchDb_keep
    exact h0

theorem modeStep_keep {s0 : State} (m : Word) (s : State) (h_s : Keep s0 s) :
    Keep s0 (modeStep m s) := by
  unfold modeStep
  split
  · rename_i y0 y0'
    exact h_s
  · rename_i y0 y0' y0''
    refine keep_ite ?_ ?_
    · exact h_s
    · refine keep_ite ?_ ?_
      · apply modeApply_keep
        exact h_s
      · refine keep_ite ?_ ?_
        · exact h_s
        · apply modeLags_keep
          exact h_s

end Sys2Proof.Machine
end

