-- ==== Sys2Proof/Laws/KeepBoundary.lean ====
section
/-! SUPPORT. Every operation of Machine/Boundary.lean keeps the queue and the canonical memories. -/
namespace Sys2Proof.Machine

open Sys2Proof

theorem closeEpoch_keep {s0 : State} (s : State) (h_s : Keep s0 s) :
    Keep s0 (closeEpoch s) := by
  unfold closeEpoch
  split
  · rename_i y0 y0' y0''
    apply closeMarks_keep
    apply convCloseEpoch_keep
    exact h_s
  · rename_i y0 y0'
    exact h_s

theorem closingBoundary_keep {s0 : State} (tb : Nat) (s : State) (h_s : Keep s0 s) :
    Keep s0 (closingBoundary tb s) := by
  unfold closingBoundary
  extract_lets +onlyGivenNames x0
  refine keep_bind (s0 := s0) x0 ?_ (fun h0 => ?_)
  · unfold x0; clear x0
    apply closeEpoch_keep
    apply advanceTo_keep
    exact h_s
  · clear_value x0
    refine keep_mk rfl rfl rfl rfl ?_
    exact h0

theorem linesApply_keep {s0 : State} (s : State) (h_s : Keep s0 s) :
    Keep s0 (linesApply s) := by
  unfold linesApply
  refine keep_mk rfl rfl rfl rfl ?_
  exact h_s

theorem applyAll_keep {s0 : State} (s : State) (h_s : Keep s0 s) :
    Keep s0 (applyAll s) := by
  unfold applyAll
  apply carrApply_keep
  apply applyBlock_keep
  apply applyBlock_keep
  apply applyBlock_keep
  apply applyBlock_keep
  exact h_s

theorem configStep_keep {s0 : State} (m : Word) (s : State) (h_s : Keep s0 s) :
    Keep s0 (configStep m s) := by
  unfold configStep
  extract_lets +onlyGivenNames x0
  refine keep_bind (s0 := s0) x0 ?_ (fun h0 => ?_)
  · unfold x0; clear x0
    apply convDue_keep
    apply brdgDue_keep
    apply carrDue_keep
    apply modeStep_keep
    exact h_s
  · clear_value x0
    refine keep_ite ?_ ?_
    · apply applyAll_keep
      exact h0
    · exact h0

theorem configFollow_keep {s0 : State} (old : RegFile) (s : State) (h_s : Keep s0 s) :
    Keep s0 (configFollow old s) := by
  unfold configFollow
  apply brdgBoundary_keep
  apply tchBoundary_keep
  exact h_s

theorem gridOff_keep {s0 : State} (s : State) (h_s : Keep s0 s) :
    Keep s0 (gridOff s) := by
  unfold gridOff
  refine keep_mk rfl rfl rfl rfl ?_
  exact h_s

theorem gridBegin_keep {s0 : State} (m : Word) (s : State) (h_s : Keep s0 s) :
    Keep s0 (gridBegin m s) := by
  unfold gridBegin
  split
  · rename_i y0 y0' y0'' y0'''
    refine keep_ite ?_ ?_
    · exact h_s
    · apply tchStart_keep
      refine keep_mk rfl rfl rfl rfl ?_
      exact h_s
  · rename_i y0 y0'
    exact h_s

theorem gridAgain_keep {s0 : State} (s : State) (h_s : Keep s0 s) :
    Keep s0 (gridAgain s) := by
  unfold gridAgain
  refine keep_ite ?_ ?_
  · apply tchStart_keep
    refine keep_mk rfl rfl rfl rfl ?_
    exact h_s
  · exact h_s

theorem gridEpoch_keep {s0 : State} (s : State) (h_s : Keep s0 s) :
    Keep s0 (gridEpoch s) := by
  unfold gridEpoch
  refine keep_mk rfl rfl rfl rfl ?_
  exact h_s

theorem safeResume_keep {s0 : State} (tb : Nat) (s : State) (h_s : Keep s0 s) :
    Keep s0 (safeResume tb s) := by
  unfold safeResume
  split
  · rename_i y0 y0' y0''
    refine keep_ite ?_ ?_
    · apply startWindows_keep
      refine keep_mk rfl rfl rfl rfl ?_
      exact h_s
    · exact h_s
  · rename_i y0 y0'
    exact h_s

theorem healthRecords_keep {s0 : State} (m : Word) (tb : Nat) (s : State) (h_s : Keep s0 s) :
    Keep s0 (healthRecords m tb s) := by
  unfold healthRecords
  apply emit_keep
  exact h_s

theorem syncPulse_keep {s0 : State} (tb : Nat) (s : State) (h_s : Keep s0 s) :
    Keep s0 (syncPulse tb s) := by
  unfold syncPulse
  extract_lets +onlyGivenNames x0; clear_value x0
  refine keep_ite ?_ ?_
  · refine keep_mk rfl rfl rfl rfl ?_
    exact h_s
  · exact h_s

theorem endAcquisition_keep {s0 : State} (m : Word) (tb : Nat) (s : State) (h_s : Keep s0 s) :
    Keep s0 (endAcquisition m tb s) := by
  unfold endAcquisition
  extract_lets +onlyGivenNames x0; clear_value x0
  extract_lets +onlyGivenNames x1
  refine keep_bind (s0 := s0) x1 ?_ (fun h0 => ?_)
  · unfold x1; clear x1
    apply stopStreams_keep
    exact h_s
  · clear_value x1
    extract_lets +onlyGivenNames x2
    refine keep_bind (s0 := s0) x2 ?_ (fun h1 => ?_)
    · unfold x2; clear x2
      apply gridOff_keep
      exact h0
    · clear_value x2
      extract_lets +onlyGivenNames x3
      refine keep_bind (s0 := s0) x3 ?_ (fun h2 => ?_)
      · unfold x3; clear x3
        refine keep_ite ?_ ?_
        · apply tchStop_keep
          exact h1
        · exact h1
      · clear_value x3
        extract_lets +onlyGivenNames x4
        refine keep_bind (s0 := s0) x4 ?_ (fun h3 => ?_)
        · unfold x4; clear x4
          apply convPowerOff_keep
          exact h2
        · clear_value x4
          refine keep_mk rfl rfl rfl rfl ?_
          exact h3

theorem acquire_keep {s0 : State} (m : Word) (tb : Nat) (c : Schedule) (old : RegFile) (s : State) (h_s : Keep s0 s) :
    Keep s0 (acquire m tb c old s) := by
  unfold acquire
  extract_lets +onlyGivenNames x0
  refine keep_bind (s0 := s0) x0 ?_ (fun h0 => ?_)
  · unfold x0; clear x0
    apply taperApply_keep
    exact h_s
  · clear_value x0
    extract_lets +onlyGivenNames x1; clear_value x1
    extract_lets +onlyGivenNames x2; clear_value x2
    extract_lets +onlyGivenNames x3
    refine keep_bind (s0 := s0) x3 ?_ (fun h1 => ?_)
    · unfold x3; clear x3
      refine keep_mk rfl rfl rfl rfl ?_
      exact h0
    · clear_value x3
      extract_lets +onlyGivenNames x4
      refine keep_bind (s0 := s0) x4 ?_ (fun h2 => ?_)
      · unfold x4; clear x4
        apply safeResume_keep
        exact h1
      · clear_value x4
        extract_lets +onlyGivenNames x5
        refine keep_bind (s0 := s0) x5 ?_ (fun h3 => ?_)
        · unfold x5; clear x5
          apply convBoundary_keep
          exact h2
        · clear_value x5
          extract_lets +onlyGivenNames x6; clear_value x6
          extract_lets +onlyGivenNames x7
          refine keep_bind (s0 := s0) x7 ?_ (fun h4 => ?_)
          · unfold x7; clear x7
            refine keep_ite ?_ ?_
            · apply gridOff_keep
              exact h3
            · apply gridAgain_keep
              exact h3
          · clear_value x7
            extract_lets +onlyGivenNames x8
            refine keep_bind (s0 := s0) x8 ?_ (fun h5 => ?_)
            · unfold x8; clear x8
              apply gridEpoch_keep
              apply gridBegin_keep
              exact h4
            · clear_value x8
              extract_lets +onlyGivenNames x9
              refine keep_bind (s0 := s0) x9 ?_ (fun h6 => ?_)
              · unfold x9; clear x9
                apply resBoundary_keep
                exact h5
              · clear_value x9
                extract_lets +onlyGivenNames x10
                refine keep_bind (s0 := s0) x10 ?_ (fun h7 => ?_)
                · unfold x10; clear x10
                  refine keep_ite ?_ ?_
                  · apply tchStop_keep
                    exact h6
                  · exact h6
                · clear_value x10
                  apply healthRecords_keep
                  refine keep_mk rfl rfl rfl rfl ?_
                  exact h7

theorem gapDark_keep {s0 : State} (m : Word) (tb cause : Nat) (old : Schedule) (s : State) (h_s : Keep s0 s) :
    Keep s0 (gapDark m tb cause old s) := by
  unfold gapDark
  split
  · rename_i y0 y0' y0''
    refine keep_ite ?_ ?_
    · exact h_s
    · apply skipEpochs_keep
      exact h_s
  · rename_i y0 y0'
    exact h_s

theorem atBoundary_keep {s0 : State} (m : Word) (tb cause : Nat) (prev : Schedule) (s : State) (h_s : Keep s0 s) :
    Keep s0 (atBoundary m tb cause prev s) := by
  unfold atBoundary
  extract_lets +onlyGivenNames x0; clear_value x0
  extract_lets +onlyGivenNames x1
  refine keep_bind (s0 := s0) x1 ?_ (fun h0 => ?_)
  · unfold x1; clear x1
    apply linesApply_keep
    apply gapDark_keep
    apply closeEpoch_keep
    apply advanceTo_keep
    exact h_s
  · clear_value x1
    extract_lets +onlyGivenNames x2
    refine keep_bind (s0 := s0) x2 ?_ (fun h1 => ?_)
    · unfold x2; clear x2
      apply configStep_keep
      exact h0
    · clear_value x2
      extract_lets +onlyGivenNames x3; clear_value x3
      extract_lets +onlyGivenNames x4
      refine keep_bind (s0 := s0) x4 ?_ (fun h2 => ?_)
      · unfold x4; clear x4
        apply configFollow_keep
        exact h1
      · clear_value x4
        extract_lets +onlyGivenNames x5
        refine keep_bind (s0 := s0) x5 ?_ (fun h3 => ?_)
        · unfold x5; clear x5
          refine keep_ite ?_ ?_
          · refine keep_ite ?_ ?_
            · apply endAcquisition_keep
              exact h2
            · apply acquire_keep
              exact h2
          · exact h1
        · clear_value x5
          extract_lets +onlyGivenNames x6; clear_value x6
          extract_lets +onlyGivenNames x7; clear_value x7
          extract_lets +onlyGivenNames x8
          refine keep_bind (s0 := s0) x8 ?_ (fun h4 => ?_)
          · unfold x8; clear x8
            refine keep_mk rfl rfl rfl rfl ?_
            exact h3
          · clear_value x8
            apply edgeLine_keep
            apply syncPulse_keep
            exact h4

theorem adoptSchedule_keep {s0 : State} (c d : Schedule) (b : Word × Nat) (s : State) (h_s : Keep s0 s) :
    Keep s0 (adoptSchedule c d b s) := by
  unfold adoptSchedule
  extract_lets +onlyGivenNames x0; clear_value x0
  extract_lets +onlyGivenNames x1
  refine keep_bind (s0 := s0) x1 ?_ (fun h0 => ?_)
  · unfold x1; clear x1
    refine keep_mk rfl rfl rfl rfl ?_
    exact h_s
  · clear_value x1
    split
    rename_i y0 y0' y0'' y0'''
    refine keep_ite ?_ ?_
    · apply atBoundary_keep
      exact h0
    · apply closingBoundary_keep
      exact h0

theorem ownBoundary_keep {s0 : State} (c : Schedule) (m : Word) (tb : Nat) (s : State) (h_s : Keep s0 s) :
    Keep s0 (ownBoundary c m tb s) := by
  unfold ownBoundary
  extract_lets +onlyGivenNames x0; clear_value x0
  split
  · rename_i y0 y0' y0''
    extract_lets +onlyGivenNames x1; clear_value x1
    extract_lets +onlyGivenNames x2; clear_value x2
    extract_lets +onlyGivenNames x3
    refine keep_bind (s0 := s0) x3 ?_ (fun h0 => ?_)
    · unfold x3; clear x3
      refine keep_mk rfl rfl rfl rfl ?_
      exact h_s
    · clear_value x3
      extract_lets +onlyGivenNames x4; clear_value x4
      refine keep_ite ?_ ?_
      · apply atBoundary_keep
        exact h0
      · apply closingBoundary_keep
        exact h0
  · rename_i y0 y0'
    apply atBoundary_keep
    exact h_s

theorem execEpochBoundary_keep {s0 : State} (s : State) (h_s : Keep s0 s) :
    KeepO s0 (execEpochBoundary s) := by
  unfold execEpochBoundary
  split
  · rename_i y0 y0'
    refine KeepO.next ?_
    exact h_s
  · rename_i y0 y0' y0''
    refine KeepO.ite ?_ ?_
    · refine KeepO.next ?_
      exact h_s
    · split
      rename_i y1 y1' y1'' y1'''
      split
      · rename_i y2 y2' y2''
        extract_lets +onlyGivenNames x0; clear_value x0
        refine KeepO.ite ?_ ?_
        · refine KeepO.next ?_
          apply adoptSchedule_keep
          exact h_s
        · refine KeepO.next ?_
          apply ownBoundary_keep
          exact h_s
      · rename_i y2 y2'
        refine KeepO.next ?_
        apply ownBoundary_keep
        exact h_s

end Sys2Proof.Machine
end

