-- ==== Sys2Proof/Laws/KeepEmber.lean ====
section
/-! SUPPORT. Every operation of Machine/Ember.lean keeps the queue and the canonical memories. -/
namespace Sys2Proof.Machine

open Sys2Proof

theorem emberStart_keep {s0 : State} (s : State) (h_s : Keep s0 s) :
    Keep s0 (emberStart s) := by
  unfold emberStart
  extract_lets +onlyGivenNames x0
  refine keep_bind (s0 := s0) x0 ?_ (fun h0 => ?_)
  · unfold x0; clear x0
    apply applyRange_keep
    exact h_s
  · clear_value x0
    refine keep_mk rfl rfl rfl rfl ?_
    exact h0

theorem emberGang_keep {s0 : State} (v : Option Int) (g : Fin 8) (s : State) (h_s : Keep s0 s) :
    Keep s0 (emberGang v g s) := by
  unfold emberGang
  extract_lets +onlyGivenNames x0; clear_value x0
  extract_lets +onlyGivenNames x1; clear_value x1
  refine keep_ite ?_ ?_
  · exact h_s
  · split
    · rename_i y0
      extract_lets +onlyGivenNames x2; clear_value x2
      extract_lets +onlyGivenNames x3; clear_value x3
      extract_lets +onlyGivenNames x4; clear_value x4
      extract_lets +onlyGivenNames x5
      refine keep_bind (s0 := s0) x5 ?_ (fun h0 => ?_)
      · unfold x5; clear x5
        refine keep_mk rfl rfl rfl rfl ?_
        exact h_s
      · clear_value x5
        refine keep_ite ?_ ?_
        · apply raise_keep
          exact h0
        · exact h0
    · rename_i y0 y0'
      split
      rename_i y1 y1' y1'' y1'''
      split
      rename_i y2 y2' y2'' y2''' y2''''
      extract_lets +onlyGivenNames x2; clear_value x2
      extract_lets +onlyGivenNames x3
      refine keep_bind (s0 := s0) x3 ?_ (fun h0 => ?_)
      · unfold x3; clear x3
        refine keep_mk rfl rfl rfl rfl ?_
        exact h_s
      · clear_value x3
        refine keep_ite ?_ ?_
        · apply wakeEvent_keep
          exact h0
        · exact h0

theorem execEmberScan_keep {s0 : State} (v : List (Option Int)) (s : State) (h_s : Keep s0 s) :
    KeepO s0 (execEmberScan v s) := by
  unfold execEmberScan
  refine KeepO.ite ?_ ?_
  · refine KeepO.next ?_
    exact h_s
  · extract_lets +onlyGivenNames x0; clear_value x0
    extract_lets +onlyGivenNames x1
    refine keep_bind (s0 := s0) x1 ?_ (fun h0 => ?_)
    · unfold x1; clear x1
      refine keep_mk rfl rfl rfl rfl ?_
      exact h_s
    · clear_value x1
      refine KeepO.next ?_
      refine keep_foldl ?_ ?_
      · intro a0 a1 h1
        apply emberGang_keep
        exact h1
      · exact h0

end Sys2Proof.Machine
end

