-- ==== Sys2Proof/Laws/KeepPower.lean ====
section
/-! SUPPORT. Every operation of Machine/Power.lean keeps the queue and the canonical memories. -/
namespace Sys2Proof.Machine

open Sys2Proof

theorem nopBody_keep {s0 : State} (p : Packet) (s : State) (h_s : Keep s0 s) :
    Keep s0 (nopBody p s).st := by
  unfold nopBody
  apply checked_keep
  · exact h_s
  · intro a0
    apply okCmd_keep
    exact h_s

theorem identifyBody_keep {s0 : State} (p : Packet) (s : State) (h_s : Keep s0 s) :
    Keep s0 (identifyBody p s).st := by
  unfold identifyBody
  apply checked_keep
  · exact h_s
  · intro a0
    apply okCmd_keep
    exact h_s

theorem getStatusBody_keep {s0 : State} (p : Packet) (s : State) (h_s : Keep s0 s) :
    Keep s0 (getStatusBody p s).st := by
  unfold getStatusBody
  apply checked_keep
  · exact h_s
  · intro a0
    apply okCmd_keep
    exact h_s

theorem execNop_keep {s0 : State} (p : Packet) (s : State) (h_s : Keep s0 s) :
    KeepO s0 (execNop p s) := by
  unfold execNop
  refine KeepO.next ?_
  apply runCommand_keep
  · intro a0 a1 h0
    apply nopBody_keep
    exact h0
  · exact h_s

theorem execIdentify_keep {s0 : State} (p : Packet) (s : State) (h_s : Keep s0 s) :
    KeepO s0 (execIdentify p s) := by
  unfold execIdentify
  refine KeepO.next ?_
  apply runCommand_keep
  · intro a0 a1 h0
    apply identifyBody_keep
    exact h0
  · exact h_s

theorem execGetStatus_keep {s0 : State} (p : Packet) (s : State) (h_s : Keep s0 s) :
    KeepO s0 (execGetStatus p s) := by
  unfold execGetStatus
  refine KeepO.next ?_
  apply runCommand_keep
  · intro a0 a1 h0
    apply getStatusBody_keep
    exact h0
  · exact h_s

theorem setPowerStateBody_keep {s0 : State} (p : Packet) (s : State) (h_s : Keep s0 s) :
    Keep s0 (setPowerStateBody p s).st := by
  unfold setPowerStateBody
  extract_lets +onlyGivenNames x0; clear_value x0
  extract_lets +onlyGivenNames x1; clear_value x1
  apply checked_keep
  · exact h_s
  · intro a0
    extract_lets +onlyGivenNames x2; clear_value x2
    apply acceptCmd_keep
    refine keep_mk rfl rfl rfl rfl ?_
    exact h_s

theorem execSetPowerState_keep {s0 : State} (p : Packet) (s : State) (h_s : Keep s0 s) :
    KeepO s0 (execSetPowerState p s) := by
  unfold execSetPowerState
  refine KeepO.next ?_
  apply runCommand_keep
  · intro a0 a1 h0
    apply setPowerStateBody_keep
    exact h0
  · exact h_s

theorem frontOff_keep {s0 : State} (s : State) (h_s : Keep s0 s) :
    Keep s0 (frontOff s) := by
  unfold frontOff
  extract_lets +onlyGivenNames x0
  refine keep_bind (s0 := s0) x0 ?_ (fun h0 => ?_)
  · unfold x0; clear x0
    apply convPowerOff_keep
    apply gridOff_keep
    apply stopStreams_keep
    exact h_s
  · clear_value x0
    refine keep_mk rfl rfl rfl rfl ?_
    exact h0

theorem leaveActive_keep {s0 : State} (s : State) (h_s : Keep s0 s) :
    Keep s0 (leaveActive s) := by
  unfold leaveActive
  refine keep_ite ?_ ?_
  · extract_lets +onlyGivenNames x0
    refine keep_bind (s0 := s0) x0 ?_ (fun h0 => ?_)
    · unfold x0; clear x0
      apply frontOff_keep
      exact h_s
    · clear_value x0
      apply brdgPower_keep
      refine keep_mk rfl rfl rfl rfl ?_
      exact h0
  · exact h_s

theorem portsFollow_keep {s0 : State} (s : State) (h_s : Keep s0 s) :
    Keep s0 (portsFollow s) := by
  unfold portsFollow
  refine keep_foldl ?_ ?_
  · intro a0 a1 h0
    apply portTouch_keep
    exact h0
  · exact h_s

theorem toDormant_keep {s0 : State} (s : State) (h_s : Keep s0 s) :
    Keep s0 (toDormant s) := by
  unfold toDormant
  extract_lets +onlyGivenNames x0
  refine keep_bind (s0 := s0) x0 ?_ (fun h0 => ?_)
  · unfold x0; clear x0
    apply leaveActive_keep
    exact h_s
  · clear_value x0
    refine keep_ite ?_ ?_
    · exact h0
    · apply portsFollow_keep
      apply timeStop_keep
      refine keep_mk rfl rfl rfl rfl ?_
      exact h0

theorem toStandby_keep {s0 : State} (s : State) (h_s : Keep s0 s) :
    Keep s0 (toStandby s) := by
  unfold toStandby
  split
  · rename_i y0 y0'
    refine keep_ite ?_ ?_
    · refine keep_mk rfl rfl rfl rfl ?_
      exact h_s
    · extract_lets +onlyGivenNames x0; clear_value x0
      extract_lets +onlyGivenNames x1
      refine keep_bind (s0 := s0) x1 ?_ (fun h0 => ?_)
      · unfold x1; clear x1
        apply portsFollow_keep
        apply timeStart_keep
        refine keep_mk rfl rfl rfl rfl ?_
        exact h_s
      · clear_value x1
        refine keep_ite ?_ ?_
        · apply joinFabric_keep
          exact h0
        · exact h0
  · rename_i y0 y0'
    apply leaveActive_keep
    exact h_s

theorem toActive_keep {s0 : State} (s : State) (h_s : Keep s0 s) :
    Keep s0 (toActive s) := by
  unfold toActive
  refine keep_ite ?_ ?_
  · exact h_s
  · extract_lets +onlyGivenNames x0
    refine keep_bind (s0 := s0) x0 ?_ (fun h0 => ?_)
    · unfold x0; clear x0
      apply toStandby_keep
      exact h_s
    · clear_value x0
      extract_lets +onlyGivenNames x1; clear_value x1
      extract_lets +onlyGivenNames x2; clear_value x2
      extract_lets +onlyGivenNames x3
      refine keep_bind (s0 := s0) x3 ?_ (fun h1 => ?_)
      · unfold x3; clear x3
        refine keep_mk rfl rfl rfl rfl ?_
        exact h0
      · clear_value x3
        extract_lets +onlyGivenNames x4
        refine keep_bind (s0 := s0) x4 ?_ (fun h2 => ?_)
        · unfold x4; clear x4
          refine keep_ite ?_ ?_
          · apply configFollow_keep
            apply applyAll_keep
            exact h1
          · exact h1
        · clear_value x4
          apply brdgPower_keep
          exact h2

theorem takeTransition_keep {s0 : State} (b : PowerState) (s : State) (h_s : Keep s0 s) :
    Keep s0 (takeTransition b s) := by
  unfold takeTransition
  split
  · rename_i y0
    apply toStandby_keep
    exact h_s
  · rename_i y0
    apply toActive_keep
    exact h_s
  · rename_i y0 y0' y0''
    apply toDormant_keep
    exact h_s

theorem sleepEnter_keep {s0 : State} (b : PowerState) (s : State) (h_s : Keep s0 s) :
    Keep s0 (sleepEnter b s) := by
  unfold sleepEnter
  extract_lets +onlyGivenNames x0
  refine keep_bind (s0 := s0) x0 ?_ (fun h0 => ?_)
  · unfold x0; clear x0
    refine keep_foldl ?_ ?_
    · intro a0 a1 h0
      apply modSession_keep
      apply endSession_keep
      exact h0
    · exact h_s
  · clear_value x0
    extract_lets +onlyGivenNames x1; clear_value x1
    extract_lets +onlyGivenNames x2; clear_value x2
    extract_lets +onlyGivenNames x3; clear_value x3
    extract_lets +onlyGivenNames x4; clear_value x4
    extract_lets +onlyGivenNames x5; clear_value x5
    extract_lets +onlyGivenNames x6
    refine keep_bind (s0 := s0) x6 ?_ (fun h1 => ?_)
    · unfold x6; clear x6
      apply touchForget_keep
      refine keep_mk rfl rfl rfl rfl ?_
      exact h0
    · clear_value x6
      refine keep_ite ?_ ?_
      · apply emberStart_keep
        exact h1
      · exact h1

theorem execPowerTransitionComplete_keep {s0 : State} (us : Nat) (s : State) (h_s : Keep s0 s) :
    KeepO s0 (execPowerTransitionComplete us s) := by
  unfold execPowerTransitionComplete
  refine KeepO.next ?_
  split
  · rename_i y0 y0' y0'' y0''' y0'''' y0'''''
    refine keep_ite ?_ ?_
    · exact h_s
    · extract_lets +onlyGivenNames x0; clear_value x0
      extract_lets +onlyGivenNames x1
      refine keep_bind (s0 := s0) x1 ?_ (fun h0 => ?_)
      · unfold x1; clear x1
        refine keep_ite ?_ ?_
        · exact h_s
        · apply takeTransition_keep
          exact h_s
      · clear_value x1
        extract_lets +onlyGivenNames x2; clear_value x2
        extract_lets +onlyGivenNames x3; clear_value x3
        extract_lets +onlyGivenNames x4
        refine keep_bind (s0 := s0) x4 ?_ (fun h1 => ?_)
        · unfold x4; clear x4
          refine keep_mk rfl rfl rfl rfl ?_
          exact h0
        · clear_value x4
          apply completeDeferred_keep
          apply edgeLine_keep
          exact h1
  · rename_i y0 y0' y0''
    exact h_s

theorem execEmberEntry_keep {s0 : State} (s : State) (h_s : Keep s0 s) :
    KeepO s0 (execEmberEntry s) := by
  unfold execEmberEntry
  refine KeepO.next ?_
  split
  · rename_i y0 y0' y0''
    refine keep_ite ?_ ?_
    · exact h_s
    · apply sleepEnter_keep
      exact h_s
  · rename_i y0 y0'
    exact h_s

theorem exitRequest_keep {s0 : State} (s : State) (h_s : Keep s0 s) :
    Keep s0 (exitRequest s) := by
  unfold exitRequest
  refine keep_ite ?_ ?_
  · refine keep_mk rfl rfl rfl rfl ?_
    exact h_s
  · exact h_s

theorem wdRestart_keep {s0 : State} (s : State) (h_s : Keep s0 s) :
    Keep s0 (wdRestart s) := by
  unfold wdRestart
  refine keep_mk rfl rfl rfl rfl ?_
  exact h_s

theorem execExitComplete_keep {s0 : State} (s : State) (h_s : Keep s0 s) :
    KeepO s0 (execExitComplete s) := by
  unfold execExitComplete
  refine KeepO.next ?_
  refine keep_ite ?_ ?_
  · extract_lets +onlyGivenNames x0; clear_value x0
    extract_lets +onlyGivenNames x1; clear_value x1
    extract_lets +onlyGivenNames x2; clear_value x2
    extract_lets +onlyGivenNames x3
    refine keep_bind (s0 := s0) x3 ?_ (fun h0 => ?_)
    · unfold x3; clear x3
      apply wdRestart_keep
      refine keep_mk rfl rfl rfl rfl ?_
      exact h_s
    · clear_value x3
      refine keep_foldl ?_ ?_
      · intro a0 a1 h1
        apply react_keep
        exact h1
      · exact h0
  · exact h_s

theorem fullReset_keep {s0 : State} (cause : Nat) (s : State) (h_s : Keep s0 s) : Keep s0 (fullReset cause s) :=
  ⟨h_s.pend, fun _ => rfl, fun _ => rfl, fun _ => rfl⟩

theorem softReset_keep {s0 : State} (s : State) (h_s : Keep s0 s) :
    Keep s0 (softReset s) := by
  unfold softReset
  extract_lets +onlyGivenNames x0
  refine keep_bind (s0 := s0) x0 ?_ (fun h0 => ?_)
  · unfold x0; clear x0
    apply leaveActive_keep
    apply stopStreams_keep
    exact h_s
  · clear_value x0
    extract_lets +onlyGivenNames x1; clear_value x1
    extract_lets +onlyGivenNames x2
    refine keep_bind (s0 := s0) x2 ?_ (fun h1 => ?_)
    · unfold x2; clear x2
      apply touchForget_keep
      apply engineReset_keep
      exact h0
    · clear_value x2
      extract_lets +onlyGivenNames x3
      refine keep_bind (s0 := s0) x3 ?_ (fun h2 => ?_)
      · unfold x3; clear x3
        refine keep_foldl ?_ ?_
        · intro a0 a1 h2
          apply modSession_keep
          apply endSession_keep
          exact h2
        · exact h1
      · clear_value x3
        extract_lets +onlyGivenNames x4; clear_value x4
        extract_lets +onlyGivenNames x5
        refine keep_bind (s0 := s0) x5 ?_ (fun h3 => ?_)
        · unfold x5; clear x5
          apply setShw_keep
          apply setShw_keep
          exact h2
        · clear_value x5
          refine keep_mk rfl rfl rfl rfl ?_
          exact h3

theorem resetBy_keep {s0 : State} (cause : Nat) (s : State) (h_s : Keep s0 s) :
    Keep s0 (resetBy cause s) := by
  unfold resetBy
  refine keep_ite ?_ ?_
  · extract_lets +onlyGivenNames x0; clear_value x0
    refine keep_mk rfl rfl rfl rfl ?_
    exact h_s
  · apply fullReset_keep
    exact h_s

theorem resetBody_keep {s0 : State} (p : Packet) (s : State) (h_s : Keep s0 s) :
    Keep s0 (resetBody p s).st := by
  unfold resetBody
  extract_lets +onlyGivenNames x0; clear_value x0
  apply checked_keep
  · exact h_s
  · intro a0
    refine keep_cmd ?_
    refine keep_mk rfl rfl rfl rfl ?_
    exact h_s

theorem execReset_keep {s0 : State} (p : Packet) (s : State) (h_s : Keep s0 s) :
    KeepO s0 (execReset p s) := by
  unfold execReset
  refine KeepO.next ?_
  apply runCommand_keep
  · intro a0 a1 h0
    apply resetBody_keep
    exact h0
  · exact h_s

theorem resetBegin_keep {s0 : State} (s : State) (h_s : Keep s0 s) :
    Keep s0 (resetBegin s) := by
  unfold resetBegin
  split
  · rename_i y0 y0'
    apply fullReset_keep
    exact h_s
  · rename_i y0 y0'
    apply softReset_keep
    exact h_s
  · rename_i y0 y0'
    exact h_s

theorem execResetBegin_keep {s0 : State} (s : State) (h_s : Keep s0 s) :
    KeepO s0 (execResetBegin s) := by
  unfold execResetBegin
  refine KeepO.next ?_
  refine keep_ite ?_ ?_
  · exact h_s
  · apply resetBegin_keep
    exact h_s

theorem execPor_keep {s0 : State} (s : State) (h_s : Keep s0 s) :
    KeepO s0 (execPor s) := by
  unfold execPor
  refine KeepO.next ?_
  apply resetBy_keep
  refine keep_mk rfl rfl rfl rfl ?_
  exact h_s

theorem execSupplyReset_keep {s0 : State} (lostAlwaysOn : Bool) (s : State) (h_s : Keep s0 s) :
    KeepO s0 (execSupplyReset lostAlwaysOn s) := by
  unfold execSupplyReset
  refine KeepO.next ?_
  apply resetBy_keep
  refine keep_mk rfl rfl rfl rfl ?_
  exact h_s

theorem execSupplyBackInRange_keep {s0 : State} (s : State) (h_s : Keep s0 s) :
    KeepO s0 (execSupplyBackInRange s) := by
  unfold execSupplyBackInRange
  refine KeepO.next ?_
  refine keep_ite ?_ ?_
  · extract_lets +onlyGivenNames x0; clear_value x0
    extract_lets +onlyGivenNames x1; clear_value x1
    extract_lets +onlyGivenNames x2
    refine keep_bind (s0 := s0) x2 ?_ (fun h0 => ?_)
    · unfold x2; clear x2
      refine keep_mk rfl rfl rfl rfl ?_
      exact h_s
    · clear_value x2
      refine keep_ite ?_ ?_
      · apply fullReset_keep
        exact h0
      · refine keep_mk rfl rfl rfl rfl ?_
        exact h0
  · exact h_s

theorem execPinReset_keep {s0 : State} (s : State) (h_s : Keep s0 s) :
    KeepO s0 (execPinReset s) := by
  unfold execPinReset
  refine KeepO.next ?_
  apply resetBy_keep
  exact h_s

theorem execTmodeChange_keep {s0 : State} (high : Bool) (s : State) (h_s : Keep s0 s) :
    KeepO s0 (execTmodeChange high s) := by
  unfold execTmodeChange
  refine KeepO.next ?_
  extract_lets +onlyGivenNames x0; clear_value x0
  extract_lets +onlyGivenNames x1
  refine keep_bind (s0 := s0) x1 ?_ (fun h0 => ?_)
  · unfold x1; clear x1
    refine keep_mk rfl rfl rfl rfl ?_
    exact h_s
  · clear_value x1
    refine keep_ite ?_ ?_
    · refine keep_mk rfl rfl rfl rfl ?_
      exact h0
    · exact h0

theorem execThermalShutdown_keep {s0 : State} (s : State) (h_s : Keep s0 s) :
    KeepO s0 (execThermalShutdown s) := by
  unfold execThermalShutdown
  refine KeepO.next ?_
  refine keep_ite ?_ ?_
  · exact h_s
  · extract_lets +onlyGivenNames x0; clear_value x0
    extract_lets +onlyGivenNames x1; clear_value x1
    extract_lets +onlyGivenNames x2
    refine keep_bind (s0 := s0) x2 ?_ (fun h0 => ?_)
    · unfold x2; clear x2
      apply portsFollow_keep
      apply timeStop_keep
      apply frontOff_keep
      refine keep_mk rfl rfl rfl rfl ?_
      exact h_s
    · clear_value x2
      apply excFix_keep
      refine keep_mk rfl rfl rfl rfl ?_
      exact h0

theorem execThermalRestart_keep {s0 : State} (s : State) (h_s : Keep s0 s) :
    KeepO s0 (execThermalRestart s) := by
  unfold execThermalRestart
  refine KeepO.next ?_
  refine keep_ite ?_ ?_
  · extract_lets +onlyGivenNames x0; clear_value x0
    extract_lets +onlyGivenNames x1
    refine keep_bind (s0 := s0) x1 ?_ (fun h0 => ?_)
    · unfold x1; clear x1
      refine keep_mk rfl rfl rfl rfl ?_
      exact h_s
    · clear_value x1
      refine keep_ite ?_ ?_
      · refine keep_mk rfl rfl rfl rfl ?_
        exact h0
      · apply fullReset_keep
        exact h0
  · exact h_s

theorem restoreHold_keep {s0 : State} (s : State) (h_s : Keep s0 s) :
    Keep s0 (restoreHold s) := by
  unfold restoreHold
  refine keep_ite ?_ ?_
  · exact h_s
  · extract_lets +onlyGivenNames x0; clear_value x0
    extract_lets +onlyGivenNames x1; clear_value x1
    extract_lets +onlyGivenNames x2
    refine keep_bind (s0 := s0) x2 ?_ (fun h0 => ?_)
    · unfold x2; clear x2
      refine keep_mk rfl rfl rfl rfl ?_
      exact h_s
    · clear_value x2
      refine keep_ite ?_ ?_
      · exact h0
      · apply raise_keep
        exact h0

theorem loadGridTrims_keep {s0 : State} (s : State) (h_s : Keep s0 s) :
    Keep s0 (loadGridTrims s) := by
  unfold loadGridTrims
  extract_lets +onlyGivenNames x0; clear_value x0
  refine keep_ite ?_ ?_
  · apply raise_keep
    refine keep_mk rfl rfl rfl rfl ?_
    exact h_s
  · refine keep_mk rfl rfl rfl rfl ?_
    exact h_s

theorem loadReference_keep {s0 : State} (s : State) (h_s : Keep s0 s) :
    Keep s0 (loadReference s) := by
  unfold loadReference
  split
  · rename_i y0 y0' y0''
    refine keep_mkW rfl ?_ (fun w => w) (fun w => w) ?_
    · intro w0
      with_reducible apply memWrite_wf
      with_reducible exact w0
    · exact h_s
  · rename_i y0 y0'
    refine keep_mk rfl rfl rfl rfl ?_
    exact h_s

theorem loadVerified_keep {s0 : State} (b : Bool) (s : State) (h_s : Keep s0 s) :
    Keep s0 (loadVerified b s) := by
  unfold loadVerified
  extract_lets +onlyGivenNames x0; clear_value x0
  extract_lets +onlyGivenNames x1; clear_value x1
  extract_lets +onlyGivenNames x2; clear_value x2
  extract_lets +onlyGivenNames x3
  refine keep_bind (s0 := s0) x3 ?_ (fun h0 => ?_)
  · unfold x3; clear x3
    apply loadSlot_keep
    exact h_s
  · clear_value x3
    extract_lets +onlyGivenNames x4
    extract_lets +onlyGivenNames x5
    refine keep_bind (s0 := s0) x5 ?_ (fun h1 => ?_)
    · unfold x5; clear x5
      refine keep_ite ?_ ?_
      · refine keep_mk rfl rfl rfl rfl ?_
        exact h0
      · exact h0
    · clear_value x5
      extract_lets +onlyGivenNames x6
      refine keep_bind (s0 := s0) x6 ?_ (fun h2 => ?_)
      · unfold x6; clear x6
        refine keep_ite ?_ ?_
        · apply loadDecode_keep
          exact h1
        · exact h1
      · clear_value x6
        refine keep_ite ?_ ?_
        · apply raise_keep
          exact h2
        · exact h2

theorem journalImage_keep {s0 : State} (result : Byte) (slot : Bool) (s : State) (h_s : Keep s0 s) :
    Keep s0 (journalImage result slot s) := by
  unfold journalImage
  extract_lets +onlyGivenNames x0; clear_value x0
  apply journalRaise_keep
  exact h_s

theorem startFirmware_keep {s0 : State} (b : Bool) (s : State) (h_s : Keep s0 s) :
    Keep s0 (startFirmware b s) := by
  unfold startFirmware
  extract_lets +onlyGivenNames x0; clear_value x0
  extract_lets +onlyGivenNames x1; clear_value x1
  extract_lets +onlyGivenNames x2; clear_value x2
  extract_lets +onlyGivenNames x3
  extract_lets +onlyGivenNames x4
  refine keep_bind (s0 := s0) x4 ?_ (fun h0 => ?_)
  · unfold x4; clear x4
    refine keep_mk rfl rfl rfl rfl ?_
    exact h_s
  · clear_value x4
    extract_lets +onlyGivenNames x5
    refine keep_bind (s0 := s0) x5 ?_ (fun h1 => ?_)
    · unfold x5; clear x5
      apply loadReference_keep
      apply loadGridTrims_keep
      apply loadBridgeTrims_keep
      exact h0
    · clear_value x5
      extract_lets +onlyGivenNames x6
      refine keep_bind (s0 := s0) x6 ?_ (fun h2 => ?_)
      · unfold x6; clear x6
        refine keep_ite ?_ ?_
        · apply raise_keep
          exact h1
        · exact h1
      · clear_value x6
        extract_lets +onlyGivenNames x7
        refine keep_bind (s0 := s0) x7 ?_ (fun h3 => ?_)
        · unfold x7; clear x7
          refine keep_ite ?_ ?_
          · apply raise_keep
            exact h2
          · exact h2
        · clear_value x7
          apply restoreHold_keep
          exact h3

theorem execImageSelfCheck_keep {s0 : State} (selfTest : Bool) (s : State) (h_s : Keep s0 s) :
    KeepO s0 (execImageSelfCheck selfTest s) := by
  unfold execImageSelfCheck
  refine KeepO.next ?_
  refine keep_ite ?_ ?_
  · exact h_s
  · extract_lets +onlyGivenNames x0; clear_value x0
    extract_lets +onlyGivenNames x1
    refine keep_bind (s0 := s0) x1 ?_ (fun h0 => ?_)
    · unfold x1; clear x1
      refine keep_ite ?_ ?_
      · apply keysUpdate_keep
        exact h_s
      · exact h_s
    · clear_value x1
      extract_lets +onlyGivenNames x2; clear_value x2
      extract_lets +onlyGivenNames x3; clear_value x3
      extract_lets +onlyGivenNames x4; clear_value x4
      extract_lets +onlyGivenNames x5; clear_value x5
      refine keep_ite ?_ ?_
      · extract_lets +onlyGivenNames x6
        refine keep_bind (s0 := s0) x6 ?_ (fun h1 => ?_)
        · unfold x6; clear x6
          apply loadVerified_keep
          exact h0
        · clear_value x6
          refine keep_ite ?_ ?_
          · apply startFirmware_keep
            apply journalImage_keep
            apply keysUpdate_keep
            exact h1
          · refine keep_ite ?_ ?_
            · apply startFirmware_keep
              refine keep_mk rfl rfl rfl rfl ?_
              exact h1
            · apply startFirmware_keep
              exact h1
      · refine keep_ite ?_ ?_
        · refine keep_ite ?_ ?_
          · exact h0
          · extract_lets +onlyGivenNames x6
            refine keep_bind (s0 := s0) x6 ?_ (fun h1 => ?_)
            · unfold x6; clear x6
              apply keysUpdate_keep
              exact h0
            · clear_value x6
              apply journalImage_keep
              refine keep_mk rfl rfl rfl rfl ?_
              exact h1
        · refine keep_ite ?_ ?_
          · refine keep_mk rfl rfl rfl rfl ?_
            exact h0
          · apply journalImage_keep
            refine keep_mk rfl rfl rfl rfl ?_
            exact h0

theorem journalReset_keep {s0 : State} (s : State) (h_s : Keep s0 s) :
    Keep s0 (journalReset s) := by
  unfold journalReset
  refine keep_ite ?_ ?_
  · exact h_s
  · apply journalRaise_keep
    exact h_s

theorem execStartupConfigLoad_keep {s0 : State} (s : State) (h_s : Keep s0 s) :
    KeepO s0 (execStartupConfigLoad s) := by
  unfold execStartupConfigLoad
  refine KeepO.next ?_
  refine keep_ite ?_ ?_
  · exact h_s
  · extract_lets +onlyGivenNames x0; clear_value x0
    extract_lets +onlyGivenNames x1
    refine keep_bind (s0 := s0) x1 ?_ (fun h0 => ?_)
    · unfold x1; clear x1
      split
      · rename_i y0 y0' y0'' y0'''
        extract_lets +onlyGivenNames x1
        refine keep_bind (s0 := s0) x1 ?_ (fun h0 => ?_)
        · unfold x1; clear x1
          apply loadItems_keep
          exact h_s
        · clear_value x1
          refine keep_mk rfl rfl rfl rfl ?_
          exact h0
      · rename_i y0 y0'
        apply raise_keep
        refine keep_mk rfl rfl rfl rfl ?_
        exact h_s
    · clear_value x1
      extract_lets +onlyGivenNames x2
      refine keep_bind (s0 := s0) x2 ?_ (fun h1 => ?_)
      · unfold x2; clear x2
        refine keep_ite ?_ ?_
        · apply raise_keep
          exact h0
        · exact h0
      · clear_value x2
        apply journalReset_keep
        refine keep_mk rfl rfl rfl rfl ?_
        exact h1

theorem execFirmwareRestart_keep {s0 : State} (s : State) (h_s : Keep s0 s) :
    KeepO s0 (execFirmwareRestart s) := by
  unfold execFirmwareRestart
  refine KeepO.next ?_
  refine keep_ite ?_ ?_
  · exact h_s
  · apply restoreHold_keep
    apply journalReset_keep
    refine keep_mk rfl rfl rfl rfl ?_
    exact h_s

theorem execStateParity_keep {s0 : State} (b : Fin 14) (src : Fin 2) (s : State) (h_s : Keep s0 s) :
    KeepO s0 (execStateParity b src s) := by
  unfold execStateParity
  refine KeepO.next ?_
  refine keep_ite ?_ ?_
  · exact h_s
  · apply raise_keep
    exact h_s

theorem execPllUnlock_keep {s0 : State} (core : Bool) (s : State) (h_s : Keep s0 s) :
    KeepO s0 (execPllUnlock core s) := by
  unfold execPllUnlock
  refine KeepO.next ?_
  refine keep_ite ?_ ?_
  · exact h_s
  · apply raise_keep
    exact h_s

theorem restartBlock_keep {s0 : State} (b : Nat) (s : State) (h_s : Keep s0 s) :
    Keep s0 (restartBlock b s) := by
  unfold restartBlock
  split
  · rename_i y0
    apply startWindows_keep
    refine keep_mk rfl rfl rfl rfl ?_
    exact h_s
  · rename_i y0
    extract_lets +onlyGivenNames x0
    refine keep_bind (s0 := s0) x0 ?_ (fun h0 => ?_)
    · unfold x0; clear x0
      apply cancelHop_keep
      exact h_s
    · clear_value x0
      extract_lets +onlyGivenNames x1; clear_value x1
      extract_lets +onlyGivenNames x2
      refine keep_bind (s0 := s0) x2 ?_ (fun h1 => ?_)
      · unfold x2; clear x2
        refine keep_ite ?_ ?_
        · exact h0
        · apply newCarrier_keep
          exact h0
      · clear_value x2
        apply shadowFix_keep
        exact h1
  · rename_i y0
    extract_lets +onlyGivenNames x0; clear_value x0
    extract_lets +onlyGivenNames x1
    refine keep_bind (s0 := s0) x1 ?_ (fun h0 => ?_)
    · unfold x1; clear x1
      refine keep_mk rfl rfl rfl rfl ?_
      exact h_s
    · clear_value x1
      apply closeHeld_keep
      exact h0
  · rename_i y0
    apply convRestart_keep
    exact h_s
  · rename_i y0
    refine keep_mk rfl rfl rfl rfl ?_
    exact h_s
  · rename_i y0
    extract_lets +onlyGivenNames x0
    refine keep_bind (s0 := s0) x0 ?_ (fun h0 => ?_)
    · unfold x0; clear x0
      apply wdRestart_keep
      apply loadSlot_keep
      exact h_s
    · clear_value x0
      refine keep_mk rfl rfl rfl rfl ?_
      exact h0
  · rename_i y0 y0' y0'' y0''' y0'''' y0''''' y0''''''
    exact h_s

theorem execBlockResetRestart_keep {s0 : State} (b : Fin 14) (s : State) (h_s : Keep s0 s) :
    KeepO s0 (execBlockResetRestart b s) := by
  unfold execBlockResetRestart
  refine KeepO.next ?_
  refine keep_ite ?_ ?_
  · apply restartBlock_keep
    refine keep_mk rfl rfl rfl rfl ?_
    exact h_s
  · exact h_s

theorem execLpoTick_keep {s0 : State} (s : State) (h_s : Keep s0 s) :
    KeepO s0 (execLpoTick s) := by
  unfold execLpoTick
  refine KeepO.next ?_
  extract_lets +onlyGivenNames x0; clear_value x0
  extract_lets +onlyGivenNames x1
  refine keep_bind (s0 := s0) x1 ?_ (fun h0 => ?_)
  · unfold x1; clear x1
    refine keep_mk rfl rfl rfl rfl ?_
    exact h_s
  · clear_value x1
    refine keep_ite ?_ ?_
    · exact h0
    · extract_lets +onlyGivenNames x2
      extract_lets +onlyGivenNames x3
      refine keep_bind (s0 := s0) x3 ?_ (fun h1 => ?_)
      · unfold x3; clear x3
        apply edgeLine_keep
        refine keep_mk rfl rfl rfl rfl ?_
        exact h0
      · clear_value x3
        refine keep_ite ?_ ?_
        · refine keep_mk rfl rfl rfl rfl ?_
          exact h1
        · exact h1

theorem execWdogWarn_keep {s0 : State} (s : State) (h_s : Keep s0 s) :
    KeepO s0 (execWdogWarn s) := by
  unfold execWdogWarn
  refine KeepO.next ?_
  refine keep_ite ?_ ?_
  · exact h_s
  · apply raise_keep
    refine keep_mk rfl rfl rfl rfl ?_
    exact h_s

theorem execWatchdogExpiry_keep {s0 : State} (s : State) (h_s : Keep s0 s) :
    KeepO s0 (execWatchdogExpiry s) := by
  unfold execWatchdogExpiry
  refine KeepO.next ?_
  refine keep_ite ?_ ?_
  · exact h_s
  · apply fullReset_keep
    exact h_s

theorem packetReply_keep {s0 : State} (o : Origin) (tag status : Byte) (s : State) (h_s : Keep s0 s) :
    Keep s0 (packetReply o tag status s) := by
  unfold packetReply
  apply reply_keep
  exact h_s

theorem unknownCommand_keep {s0 : State} (o : Origin) (op tag dest flags : Byte) (params : List Byte) (s : State) (h_s : Keep s0 s) :
    Keep s0 (unknownCommand o op tag dest flags params s) := by
  unfold unknownCommand
  extract_lets +onlyGivenNames x0
  refine keep_bind (s0 := s0) x0 ?_ (fun h0 => ?_)
  · unfold x0; clear x0
    apply packetReply_keep
    exact h_s
  · clear_value x0
    split
    · rename_i y0 y0' y0''
      exact h0
    · rename_i y0 y0'
      refine keep_ite ?_ ?_
      · exact h0
      · refine keep_ite ?_ ?_
        · apply packetReply_keep
          exact h_s
        · refine keep_ite ?_ ?_
          · apply packetReply_keep
            exact h_s
          · apply relayCommand_keep
            exact h_s

theorem execUnknownOpcode_keep {s0 : State} (o : Origin) (bytes : List Byte) (s : State) (h_s : Keep s0 s) :
    KeepO s0 (execUnknownOpcode o bytes s) := by
  unfold execUnknownOpcode
  extract_lets +onlyGivenNames x0; clear_value x0
  extract_lets +onlyGivenNames x1; clear_value x1
  extract_lets +onlyGivenNames x2
  extract_lets +onlyGivenNames x3; clear_value x3
  refine KeepO.ite ?_ ?_
  · refine KeepO.next ?_
    exact h_s
  · refine KeepO.ite ?_ ?_
    · refine KeepO.next ?_
      apply holdPacket_keep
      exact h_s
    · extract_lets +onlyGivenNames x4
      refine keep_bind (s0 := s0) x4 ?_ (fun h0 => ?_)
      · unfold x4; clear x4
        apply takePacket_keep
        exact h_s
      · clear_value x4
        refine KeepO.next ?_
        refine keep_ite ?_ ?_
        · apply packetReply_keep
          exact h0
        · refine keep_ite ?_ ?_
          · apply packetReply_keep
            exact h0
          · apply unknownCommand_keep
            exact h0

end Sys2Proof.Machine
end

