-- ==== Sys2Proof/Laws/KeepEngine.lean ====
section
/-! SUPPORT. Every operation of Machine/Engine.lean keeps the queue and the canonical memories. -/
namespace Sys2Proof.Machine

open Sys2Proof

/-! ### Engine registers leave the engine's RAM -/

@[simp] theorem setFlags_ram (o : AluOut) (e : EngSt) : (setFlags o e).ram = e.ram := rfl
@[simp] theorem comparePair_ram (a b : Half) (e : EngSt) : (comparePair a b e).ram = e.ram := rfl
@[simp] theorem writeFlags_ram (b : Byte) (e : EngSt) : (writeFlags b e).ram = e.ram := rfl
@[simp] theorem wSet_ram (k : Nat) (b : Byte) (e : EngSt) : (wSet k b e).ram = e.ram := rfl
@[simp] theorem pSet_ram (p : Nat) (h : Half) (e : EngSt) : (pSet p h e).ram = e.ram := rfl
@[simp] theorem takeProduct_ram (m : MulDue) (e : EngSt) : (takeProduct m e).ram = e.ram := rfl
@[simp] theorem takeQuotient_ram (d : DivDue) (e : EngSt) : (takeQuotient d e).ram = e.ram := rfl
theorem takeProducts_ram (l : List MulDue) (e : EngSt) : (l.foldl (fun t m => takeProduct m t) e).ram = e.ram := by
  induction l generalizing e with
  | nil => rfl
  | cons m l ih => exact ih _
@[simp] theorem deliverDue_ram (e : EngSt) : (deliverDue e).ram = e.ram := by
  unfold deliverDue
  extract_lets d x
  have h : x.ram = e.ram := takeProducts_ram _ _
  split
  · split
    · exact h
    · exact h
  · exact h
@[simp] theorem popLoop_ram (e : EngSt) : (popLoop e).ram = e.ram := by
  unfold popLoop
  split <;> rfl
@[simp] theorem loopsDownTo_ram (k d : Nat) (e : EngSt) : (loopsDownTo k d e).ram = e.ram := by
  induction k generalizing e with
  | zero => rfl
  | succ k ih =>
    unfold loopsDownTo
    split
    · rw [ih]; exact popLoop_ram e
    · rfl
@[simp] theorem setNext_ram (n : Nat) (e : EngSt) : (setNext n e).ram = e.ram := rfl
@[simp] theorem setPc_ram (t : Half) (e : EngSt) : (setPc t e).ram = e.ram := rfl
@[simp] theorem endLoop_ram (k n : Nat) (e : EngSt) : (endLoop k n e).ram = e.ram := by
  induction k generalizing e with
  | zero => rfl
  | succ k ih =>
    unfold endLoop
    extract_lets old e2
    have h : e2.ram = e.ram := popLoop_ram e
    split
    · split
      · exact h
      · rw [ih]; exact h
    · exact h
@[simp] theorem endTest_ram (n : Nat) (e : EngSt) : (endTest n e).ram = e.ram := by
  unfold endTest
  split
  · rfl
  · exact endLoop_ram _ _ _
@[simp] theorem advance_ram (n : Nat) (e : EngSt) : (advance n e).ram = e.ram := by
  unfold advance
  extract_lets x
  split
  · exact endTest_ram _ _
  · rfl
theorem wSets_ram (f : Nat → Byte) (l : List Nat) (e : EngSt) : (l.foldl (fun t i => wSet (8 + i) (f i) t) e).ram = e.ram := by
  induction l generalizing e with
  | nil => rfl
  | cons m l ih => exact ih _
@[simp] theorem srRead_ram (k : Nat) (e : EngSt) : (srRead k e).2.ram = e.ram := by
  unfold srRead
  extract_lets lo hi
  split <;> rfl
theorem srWrite_ram {k : Nat} {b : Byte} {e t : EngSt} (h : srWrite k b e = some t) : t.ram = e.ram := by
  unfold srWrite at h
  split at h <;> cases h <;> first | rfl | (split <;> rfl)

theorem modEng_keep {s0 : State} (f : EngSt → EngSt) (s : State) (h_f : ∀ e, (f e).ram = e.ram) (h_s : Keep s0 s) :
    Keep s0 (modEng f s) :=
  keep_mk rfl rfl rfl (h_f _) h_s

theorem spend_keep {s0 : State} (n : Nat) (s : State) (h_s : Keep s0 s) :
    Keep s0 (spend n s) := by
  unfold spend
  apply modEng_keep
  · exact fun _ => rfl
  · exact h_s

theorem accFault_keep {s0 : State} (src : Nat) (s : State) (h_s : Keep s0 s) :
    Keep s0 (accFault src s).st := by
  unfold accFault
  refine keep_acc ?_
  exact h_s

theorem modAp_keep {s0 : State} (n : Nat) (f : Aperture → Aperture) (s : State) (h_s : Keep s0 s) :
    Keep s0 (modAp n f s) := by
  unfold modAp
  apply modEng_keep
  · exact fun _ => rfl
  · exact h_s

theorem latchRead_keep {s0 : State} (n d : Nat) (s : State) (h_s : Keep s0 s) :
    Keep s0 (latchRead n d s).st := by
  unfold latchRead
  extract_lets +onlyGivenNames x0; clear_value x0
  extract_lets +onlyGivenNames x1; clear_value x1
  split
  · rename_i y0 y0'
    refine keep_acc ?_
    exact h_s
  · rename_i y0
    split
    rename_i y1 y1' y1'' y1'''
    refine keep_bind (s0 := s0) _ (keep_of2 y1''' ?_) (fun h0 => ?_)
    · apply devRead_keep
      exact h_s
    · extract_lets +onlyGivenNames x1; clear_value x1
      refine keep_acc ?_
      apply modAp_keep
      exact h0

theorem bufferWrite_keep {s0 : State} (n d : Nat) (v : Byte) (s : State) (h_s : Keep s0 s) :
    Keep s0 (bufferWrite n d v s).st := by
  unfold bufferWrite
  extract_lets +onlyGivenNames x0; clear_value x0
  extract_lets +onlyGivenNames x1; clear_value x1
  extract_lets +onlyGivenNames x2; clear_value x2
  refine keep_iteA ?_ ?_
  · extract_lets +onlyGivenNames x3
    refine keep_bind (s0 := s0) x3 ?_ (fun h0 => ?_)
    · unfold x3; clear x3
      apply modAp_keep
      exact h_s
    · clear_value x3
      extract_lets +onlyGivenNames x4; clear_value x4
      extract_lets +onlyGivenNames x5
      refine keep_bind (s0 := s0) x5 ?_ (fun h1 => ?_)
      · unfold x5; clear x5
        refine keep_ite ?_ ?_
        · exact h0
        · apply writeRow_keep
          exact h0
      · clear_value x5
        refine keep_acc ?_
        exact h1
  · refine keep_acc ?_
    apply modAp_keep
    exact h_s

theorem apertureRead_keep {s0 : State} (a : Nat) (s : State) (h_s : Keep s0 s) :
    Keep s0 (apertureRead a s).st := by
  rw [apertureRead]
  split
  · rename_i y0 y0'
    refine keep_acc ?_
    exact h_s
  · rename_i y0 y0' y0''
    refine keep_iteA ?_ ?_
    · apply accFault_keep
      exact h_s
    · refine keep_iteA ?_ ?_
      · apply latchRead_keep
        exact h_s
      · split
        rename_i y1 y1' y1'' y1'''
        refine keep_bind (s0 := s0) _ (keep_of2 y1''' ?_) (fun h0 => ?_)
        · apply devRead_keep
          exact h_s
        · refine keep_acc ?_
          exact h0

theorem apertureWrite_keep {s0 : State} (a : Nat) (v : Byte) (s : State) (h_s : Keep s0 s) :
    Keep s0 (apertureWrite a v s).st := by
  unfold apertureWrite
  extract_lets +onlyGivenNames x0; clear_value x0
  extract_lets +onlyGivenNames x1; clear_value x1
  refine keep_iteA ?_ ?_
  · apply accFault_keep
    exact h_s
  · split
    · rename_i y0 y0'
      refine keep_acc ?_
      exact h_s
    · rename_i y0 y0'
      apply bufferWrite_keep
      exact h_s
    · rename_i y0 y0'
      refine keep_acc ?_
      exact h_s
    · rename_i y0 y0' y0'' y0''' y0''''
      refine keep_acc ?_
      apply memWriteDev_keep
      exact h_s

theorem localRead_keep {s0 : State} (a : Nat) (s : State) (h_s : Keep s0 s) :
    Keep s0 (localRead a s).st := by
  unfold localRead
  extract_lets +onlyGivenNames x0
  refine keep_iteA ?_ ?_
  · extract_lets +onlyGivenNames x1; clear_value x1
    split
    · rename_i y0 y0'
      refine keep_acc ?_
      exact h_s
    · rename_i y0 y0'
      refine keep_acc ?_
      exact h_s
    · rename_i y0 y0'
      refine keep_acc ?_
      exact h_s
    · rename_i y0 y0' y0'' y0'''
      apply accFault_keep
      exact h_s
  · refine keep_iteA ?_ ?_
    · refine keep_acc ?_
      exact h_s
    · refine keep_iteA ?_ ?_
      · refine keep_acc ?_
        exact h_s
      · refine keep_iteA ?_ ?_
        · refine keep_acc ?_
          exact h_s
        · apply accFault_keep
          exact h_s

theorem kick_keep {s0 : State} (v : Byte) (s : State) (h_s : Keep s0 s) :
    Keep s0 (kick v s) := by
  unfold kick
  refine keep_ite ?_ ?_
  · apply wdRestart_keep
    exact h_s
  · apply modEng_keep
    · exact fun _ => rfl
    · exact h_s

theorem localWrite_keep {s0 : State} (a : Nat) (v : Byte) (s : State) (h_s : Keep s0 s) :
    Keep s0 (localWrite a v s).st := by
  unfold localWrite
  extract_lets +onlyGivenNames x0; clear_value x0
  refine keep_iteA ?_ ?_
  · split
    · rename_i y0 y0'
      refine keep_acc ?_
      apply modAp_keep
      exact h_s
    · rename_i y0 y0'
      refine keep_acc ?_
      apply modAp_keep
      exact h_s
    · rename_i y0 y0'
      refine keep_acc ?_
      apply modAp_keep
      exact h_s
    · rename_i y0 y0' y0'' y0'''
      apply accFault_keep
      exact h_s
  · refine keep_iteA ?_ ?_
    · refine keep_acc ?_
      apply modEng_keep
      · exact fun _ => rfl
      · exact h_s
    · refine keep_iteA ?_ ?_
      · refine keep_acc ?_
        apply modEng_keep
        · exact fun _ => rfl
        · exact h_s
      · refine keep_iteA ?_ ?_
        · refine keep_acc ?_
          apply kick_keep
          exact h_s
        · apply accFault_keep
          exact h_s

theorem dataRead_keep {s0 : State} (a : Nat) (s : State) (h_s : Keep s0 s) :
    Keep s0 (dataRead a s).st := by
  unfold dataRead
  refine keep_iteA ?_ ?_
  · apply accFault_keep
    exact h_s
  · refine keep_iteA ?_ ?_
    · refine keep_acc ?_
      exact h_s
    · refine keep_iteA ?_ ?_
      · apply apertureRead_keep
        exact h_s
      · refine keep_iteA ?_ ?_
        · apply accFault_keep
          exact h_s
        · apply localRead_keep
          exact h_s

theorem dataWrite_keep {s0 : State} (a : Nat) (v : Byte) (s : State) (h_s : Keep s0 s) : Keep s0 (dataWrite a v s).st := by
  unfold dataWrite
  refine keep_iteA (accFault_keep _ _ h_s) (keep_iteA ?_ (keep_iteA (apertureWrite_keep _ _ _ h_s) (keep_iteA (accFault_keep _ _ h_s)
    (localWrite_keep _ _ _ h_s))))
  exact keep_mkW rfl (fun w => w) (fun w => w) (fun w => memWrite_wf _ _ w) h_s

theorem pushBytes_keep {s0 : State} (l : List Byte) (x : Acc) (h_x : Keep s0 x.st) : Keep s0 (pushBytes l x).st := by
  induction l generalizing x with
  | nil => exact h_x
  | cons b l ih =>
    unfold pushBytes
    extract_lets t y
    exact ih _ (dataWrite_keep _ _ _ (modEng_keep _ _ (fun _ => rfl) h_x))

theorem popBytes_keep {s0 : State} (n : Nat) (x : Acc) (h_x : Keep s0 x.st) : Keep s0 (popBytes n x).2.st := by
  induction n generalizing x with
  | zero => exact h_x
  | succ n ih =>
    unfold popBytes
    extract_lets +onlyGivenNames y t
    have h : Keep s0 t := modEng_keep _ _ (fun _ => rfl) (dataRead_keep _ _ h_x)
    split
    rename_i l z e
    have k := ih { y with st := t, stall := x.stall + y.stall, faults := x.faults ++ y.faults } h
    rw [e] at k
    exact k

theorem endHook_keep {s0 : State} (target : Half) (s : State) (h_s : Keep s0 s) : Keep s0 (endHook target s) := by
  unfold endHook
  split
  · exact h_s
  · extract_lets +onlyGivenNames e1 e2 t
    have h : Keep s0 t := keep_mk rfl rfl rfl (by
      show (List.foldl _ _ _ : EngSt).ram = s.eng.ram
      rw [wSets_ram]
      exact loopsDownTo_ram _ _ _) h_s
    exact keep_ite h (journalRaise_keep _ _ _ _ _ _ h)

theorem overrunHook_keep {s0 : State} (s : State) (h_s : Keep s0 s) :
    Keep s0 (overrunHook s) := by
  unfold overrunHook
  split
  · rename_i y0 y0'
    exact h_s
  · rename_i y0 y0' y0''
    apply endHook_keep
    apply modEng_keep
    · exact fun _ => rfl
    · exact h_s

theorem beginHook_keep {s0 : State} (t ret : Half) (s : State) (h_s : Keep s0 s) :
    Keep s0 (beginHook t ret s) := by
  unfold beginHook
  apply modEng_keep
  · exact fun _ => rfl
  · exact h_s

theorem raiseEng_keep {s0 : State} (l : List Nat) (s : State) (h_s : Keep s0 s) :
    Keep s0 (raiseEng l s) := by
  unfold raiseEng
  apply raiseAll_keep
  exact h_s

theorem finish_keep {s0 : State} (n : Nat) (rep : Bool) (r : Eff) (h_r : Keep s0 r.st) :
    Keep s0 (finish n rep r) := by
  unfold finish
  extract_lets +onlyGivenNames x0
  refine keep_bind (s0 := s0) x0 ?_ (fun h0 => ?_)
  · unfold x0; clear x0
    apply spend_keep
    exact h_r
  · clear_value x0
    extract_lets +onlyGivenNames x1
    refine keep_bind (s0 := s0) x1 ?_ (fun h1 => ?_)
    · unfold x1; clear x1
      refine keep_ite ?_ ?_
      · refine keep_ite ?_ ?_
        · apply modEng_keep
          · (intros; simp)
          · exact h0
        · apply modEng_keep
          · exact fun _ => rfl
          · exact h0
      · split
        · rename_i y0 y0'
          apply modEng_keep
          · (intros; simp)
          · exact h0
        · rename_i y0 y0' y0''
          apply modEng_keep
          · (intros; simp)
          · exact h0
        · rename_i y0 y0' y0''
          apply modEng_keep
          · exact fun _ => rfl
          · exact h0
        · rename_i y0 y0'
          exact h0
    · clear_value x1
      refine keep_ite ?_ ?_
      · apply raiseEng_keep
        apply overrunHook_keep
        exact h1
      · apply raiseEng_keep
        exact h1

theorem skipRow_keep {s0 : State} (x : Shape) (s : State) (h_s : Keep s0 s) :
    Keep s0 (skipRow x s) := by
  unfold skipRow
  refine keep_ite ?_ ?_
  · apply finish_keep
    refine keep_eff ?_
    apply modEng_keep
    · exact fun _ => rfl
    · exact h_s
  · apply finish_keep
    refine keep_eff ?_
    apply modEng_keep
    · exact fun _ => rfl
    · exact h_s

theorem runRow_keep {s0 : State} (x : Shape) (body : State → Eff) (s : State) (h_body : ∀ a0, Keep s0 a0 → Keep s0 (body a0).st) (h_s : Keep s0 s) :
    Keep s0 (runRow x body s) := by
  unfold runRow
  refine keep_ite ?_ ?_
  · exact h_s
  · extract_lets +onlyGivenNames x0
    refine keep_bind (s0 := s0) x0 ?_ (fun h0 => ?_)
    · unfold x0; clear x0
      apply modEng_keep
      · (intros; simp)
      · exact h_s
    · clear_value x0
      extract_lets +onlyGivenNames x1
      refine keep_ite ?_ ?_
      · apply raiseEng_keep
        exact h0
      · refine keep_ite ?_ ?_
        · apply skipRow_keep
          exact h0
        · refine keep_ite ?_ ?_
          · extract_lets +onlyGivenNames x2
            refine keep_bind (s0 := s0) x2 ?_ (fun h1 => ?_)
            · unfold x2; clear x2
              apply modEng_keep
              · exact fun _ => rfl
              · exact h0
            · clear_value x2
              refine keep_ite ?_ ?_
              · apply finish_keep
                refine keep_eff ?_
                apply modEng_keep
                · exact fun _ => rfl
                · exact h1
              · refine keep_ite ?_ ?_
                · apply finish_keep
                  refine keep_eff ?_
                  exact h1
                · apply finish_keep
                  apply h_body
                  exact h1
          · apply finish_keep
            apply h_body
            exact h0

theorem regOp_keep {s0 : State} (f : EngSt → EngSt) (s : State) (h_f : ∀ e, (f e).ram = e.ram) (h_s : Keep s0 s) :
    Keep s0 (regOp f s).st :=
  modEng_keep f s h_f h_s

theorem noOp_keep {s0 : State} (src : Nat) (s : State) (h_s : Keep s0 s) :
    Keep s0 (noOp src s).st := by
  unfold noOp
  refine keep_eff ?_
  exact h_s

theorem jumpTo_keep {s0 : State} (cost : Nat) (t : Half) (s : State) (h_s : Keep s0 s) :
    Keep s0 (jumpTo cost t s).st := by
  unfold jumpTo
  refine keep_iteE ?_ ?_
  · refine keep_eff ?_
    exact h_s
  · refine keep_eff ?_
    exact h_s

theorem callTo_keep {s0 : State} (words cost : Nat) (t : Half) (s : State) (h_s : Keep s0 s) :
    Keep s0 (callTo words cost t s).st := by
  unfold callTo
  refine keep_iteE ?_ ?_
  · refine keep_eff ?_
    exact h_s
  · refine keep_iteE ?_ ?_
    · refine keep_eff ?_
      exact h_s
    · extract_lets +onlyGivenNames x0; clear_value x0
      extract_lets +onlyGivenNames x1; clear_value x1
      extract_lets +onlyGivenNames x2
      refine keep_bind (s0 := s0) x2 ?_ (fun h0 => ?_)
      · unfold x2; clear x2
        apply spend_keep
        exact h_s
      · clear_value x2
        extract_lets +onlyGivenNames x3
        refine keep_bind (s0 := s0) x3.st ?_ (fun h1 => ?_)
        · unfold x3; clear x3
          apply pushBytes_keep
          refine keep_acc ?_
          exact h0
        · clear_value x3
          extract_lets +onlyGivenNames x4
          refine keep_bind (s0 := s0) x4 ?_ (fun h2 => ?_)
          · unfold x4; clear x4
            apply beginHook_keep
            exact h0
          · clear_value x4
            extract_lets +onlyGivenNames x5
            refine keep_bind (s0 := s0) x5 ?_ (fun h3 => ?_)
            · unfold x5; clear x5
              refine keep_ite ?_ ?_
              · apply modEng_keep
                · exact fun _ => rfl
                · exact h1
              · exact h1
            · clear_value x5
              refine keep_eff ?_
              exact h3

theorem returnTo_keep {s0 : State} (s : State) (h_s : Keep s0 s) :
    Keep s0 (returnTo s).st := by
  unfold returnTo
  refine keep_iteE ?_ ?_
  · refine keep_eff ?_
    exact h_s
  · extract_lets +onlyGivenNames x0; clear_value x0
    refine keep_iteE ?_ ?_
    · extract_lets +onlyGivenNames x1; clear_value x1
      refine keep_eff ?_
      apply endHook_keep
      apply spend_keep
      exact h_s
    · split
      rename_i y0 y0' y0'' y0'''
      refine keep_bind (s0 := s0) _ (keep_of2A y0''' ?_) (fun h0 => ?_)
      · apply popBytes_keep
        refine keep_acc ?_
        exact h_s
      · extract_lets +onlyGivenNames x1; clear_value x1
        refine keep_iteE ?_ ?_
        · refine keep_eff ?_
          exact h_s
        · refine keep_eff ?_
          exact h0

theorem enterLine_keep {s0 : State} (k : Nat) (s : State) (h_s : Keep s0 s) :
    Keep s0 (enterLine k s) := by
  unfold enterLine
  extract_lets +onlyGivenNames x0
  refine keep_bind (s0 := s0) x0 ?_ (fun h0 => ?_)
  · unfold x0; clear x0
    apply modEng_keep
    · (intros; simp)
    · exact h_s
  · clear_value x0
    refine keep_ite ?_ ?_
    · apply raiseEng_keep
      exact h0
    · extract_lets +onlyGivenNames x1
      extract_lets +onlyGivenNames x2
      refine keep_bind (s0 := s0) x2 ?_ (fun h1 => ?_)
      · unfold x2; clear x2
        apply modEng_keep
        · exact fun _ => rfl
        · exact h0
      · clear_value x2
        extract_lets +onlyGivenNames x3
        refine keep_bind (s0 := s0) x3.st ?_ (fun h2 => ?_)
        · unfold x3; clear x3
          apply pushBytes_keep
          refine keep_acc ?_
          exact h1
        · clear_value x3
          extract_lets +onlyGivenNames x4
          refine keep_bind (s0 := s0) x4 ?_ (fun h3 => ?_)
          · unfold x4; clear x4
            apply spend_keep
            exact h2
          · clear_value x4
            apply raiseEng_keep
            apply modEng_keep
            · exact fun _ => rfl
            · exact h3

theorem interruptReturn_keep {s0 : State} (s : State) (h_s : Keep s0 s) :
    Keep s0 (interruptReturn s).st := by
  unfold interruptReturn
  refine keep_iteE ?_ ?_
  · refine keep_eff ?_
    exact h_s
  · split
    rename_i y0 y0' y0'' y0'''
    refine keep_bind (s0 := s0) _ (keep_of2A y0''' ?_) (fun h0 => ?_)
    · apply popBytes_keep
      refine keep_acc ?_
      exact h_s
    · extract_lets +onlyGivenNames x0; clear_value x0
      refine keep_iteE ?_ ?_
      · refine keep_eff ?_
        exact h_s
      · extract_lets +onlyGivenNames x1; clear_value x1
        extract_lets +onlyGivenNames x2
        refine keep_bind (s0 := s0) x2 ?_ (fun h1 => ?_)
        · unfold x2; clear x2
          apply spend_keep
          exact h0
        · clear_value x2
          refine keep_eff ?_
          apply modEng_keep
          · exact fun _ => rfl
          · exact h1

theorem startLoop_keep {s0 : State} (count len : Half) (s : State) (h_s : Keep s0 s) :
    Keep s0 (startLoop count len s).st := by
  unfold startLoop
  extract_lets +onlyGivenNames x0
  extract_lets +onlyGivenNames x1; clear_value x1
  extract_lets +onlyGivenNames x2; clear_value x2
  extract_lets +onlyGivenNames x3; clear_value x3
  extract_lets +onlyGivenNames x4; clear_value x4
  extract_lets +onlyGivenNames x5; clear_value x5
  refine keep_iteE ?_ ?_
  · refine keep_eff ?_
    exact h_s
  · refine keep_eff ?_
    apply modEng_keep
    · exact fun _ => rfl
    · exact h_s

theorem breakLoop_keep {s0 : State} (s : State) (h_s : Keep s0 s) :
    Keep s0 (breakLoop s).st := by
  unfold breakLoop
  refine keep_iteE ?_ ?_
  · apply noOp_keep
    exact h_s
  · refine keep_iteE ?_ ?_
    · refine keep_eff ?_
      exact h_s
    · refine keep_eff ?_
      apply modEng_keep
      · (intros; simp)
      · exact h_s

theorem startRep_keep {s0 : State} (n : Byte) (s : State) (h_s : Keep s0 s) :
    Keep s0 (startRep n s).st := by
  unfold startRep
  apply regOp_keep
  · exact fun _ => rfl
  · exact h_s

theorem microWord_keep {s0 : State} (w : Word) (opnd : Byte) (m : Micro) (s : State) (h_s : Keep s0 s) :
    Keep s0 (microWord w opnd m s).2.st := by
  unfold microWord
  extract_lets +onlyGivenNames x0; clear_value x0
  extract_lets +onlyGivenNames x1; clear_value x1
  extract_lets +onlyGivenNames x2
  refine keep_bind (s0 := s0) x2.st ?_ (fun h0 => ?_)
  · unfold x2; clear x2
    refine keep_iteA ?_ ?_
    · apply dataRead_keep
      exact h_s
    · refine keep_acc ?_
      exact h_s
  · clear_value x2
    extract_lets +onlyGivenNames x3; clear_value x3
    extract_lets +onlyGivenNames x4
    extract_lets +onlyGivenNames x5; clear_value x5
    extract_lets +onlyGivenNames x6
    refine keep_bind (s0 := s0) x6 ?_ (fun h1 => ?_)
    · unfold x6; clear x6
      refine keep_ite ?_ ?_
      · apply modEng_keep
        · exact fun _ => rfl
        · exact h0
      · exact h0
    · clear_value x6
      extract_lets +onlyGivenNames x7; clear_value x7
      extract_lets +onlyGivenNames x8; clear_value x8
      extract_lets +onlyGivenNames x9
      refine keep_bind (s0 := s0) x9.st ?_ (fun h2 => ?_)
      · unfold x9; clear x9
        split
        · rename_i y0
          refine keep_acc ?_
          apply modEng_keep
          · exact fun _ => rfl
          · exact h1
        · rename_i y0
          refine keep_acc ?_
          apply modEng_keep
          · exact fun _ => rfl
          · exact h1
        · rename_i y0
          apply dataWrite_keep
          exact h1
        · rename_i y0 y0' y0'' y0'''
          refine keep_acc ?_
          exact h1
      · clear_value x9
        extract_lets +onlyGivenNames x10
        refine keep_bind (s0 := s0) x10 ?_ (fun h3 => ?_)
        · unfold x10; clear x10
          refine keep_ite ?_ ?_
          · apply modEng_keep
            · exact fun _ => rfl
            · exact h2
          · exact h2
        · clear_value x10
          refine keep_pair2A ?_
          refine keep_acc ?_
          exact h3

theorem microRun_keep {s0 : State} (n addr : Nat) (opnd : Byte) (m : Micro) (fl : List Nat) (s : State) (h_s : Keep s0 s) :
    Keep s0 (microRun n addr opnd m fl s).st := by
  induction n generalizing addr m fl s with
  | zero => exact h_s
  | succ n ih =>
    unfold microRun
    extract_lets +onlyGivenNames t w
    split
    rename_i m2 x e
    have hx : Keep s0 x.st := by
      have h := microWord_keep w opnd m t (modEng_keep _ _ deliverDue_ram h_s)
      rw [e] at h
      exact h
    have hs := spend_keep (1 + x.stall) x.st hx
    extract_lets +onlyGivenNames u f2 sq
    refine keep_iteE (keep_eff hs) (keep_iteE (keep_eff hs) ?_)
    exact ih _ _ _ _ hs

theorem customer_keep {s0 : State} (k : Nat) (opnd : Byte) (s : State) (h_s : Keep s0 s) :
    Keep s0 (customer k opnd s).st := by
  unfold customer
  extract_lets +onlyGivenNames x0; clear_value x0
  refine keep_iteE ?_ ?_
  · apply microRun_keep
    apply spend_keep
    exact h_s
  · apply noOp_keep
    exact h_s

end Sys2Proof.Machine
end

