-- ==== Sys2Proof/Laws/Engine.lean ====
section
/-! SUPPORT. What each shared operation of the engine does, once: results delivered, cycles spent, the end of an instruction,
the row at the PC, the stack in RAM, and a byte of a canonical memory after a write. -/
namespace Sys2Proof.Machine

open Sys2Proof

/-! ### Registers -/

theorem vget_vmodN {α : Type} {n : Nat} (v : Vector α n) (i j : Nat) (f : α → α) (d : α) :
    vget (vmodN v i f) j d = if i = j ∧ i < n then f (vget v j d) else vget v j d := by
  unfold vget vmodN vmod
  split
  · split
    · rename_i h1 h2
      by_cases e : i = j
      · subst e; simp [h2]
      · simp [e]
    · rename_i h1 h2; simp; intro e; omega
  · rename_i h1
    split
    · omega
    · simp

theorem wGet_wSet (k : Nat) (b : Byte) (e : EngSt) (j : Nat) (h : k < 16) :
    wGet (wSet k b e) j = if k = j then b else wGet e j := by
  unfold wGet wSet; rw [vget_vmodN]; simp [h]

@[simp] theorem setFlags_w (o : AluOut) (e : EngSt) : (setFlags o e).w = e.w := rfl
@[simp] theorem wGet_setFlags (o : AluOut) (e : EngSt) (j : Nat) : wGet (setFlags o e) j = wGet e j := rfl

/-! ### Delivery -/

theorem deliverDue_eq (e : EngSt) : deliverDue e = { e with
    mul := (deliverDue e).mul, quo := (deliverDue e).quo, rem := (deliverDue e).rem, fv := (deliverDue e).fv
    fdz := (deliverDue e).fdz, mulDue := (deliverDue e).mulDue, divDue := (deliverDue e).divDue } := by
  have hf : ∀ (l : List MulDue) (x : EngSt), l.foldl (fun t m => takeProduct m t) x
      = { x with mul := (l.foldl (fun t m => takeProduct m t) x).mul } := by
    intro l
    induction l with
    | nil => intro x; rfl
    | cons m l ih => intro x; simp only [List.foldl_cons]; rw [ih]; rfl
  unfold deliverDue
  simp only
  split
  · split
    · rw [hf]; rfl
    · rw [hf]
  · rw [hf]

@[simp] theorem deliverDue_w (e : EngSt) : (deliverDue e).w = e.w := by rw [deliverDue_eq]
@[simp] theorem deliverDue_pc (e : EngSt) : (deliverDue e).pc = e.pc := by rw [deliverDue_eq]
@[simp] theorem deliverDue_sp (e : EngSt) : (deliverDue e).sp = e.sp := by rw [deliverDue_eq]
@[simp] theorem deliverDue_fz (e : EngSt) : (deliverDue e).fz = e.fz := by rw [deliverDue_eq]
@[simp] theorem deliverDue_fc (e : EngSt) : (deliverDue e).fc = e.fc := by rw [deliverDue_eq]
@[simp] theorem deliverDue_fn (e : EngSt) : (deliverDue e).fn = e.fn := by rw [deliverDue_eq]
@[simp] theorem deliverDue_frp (e : EngSt) : (deliverDue e).frp = e.frp := by rw [deliverDue_eq]
@[simp] theorem deliverDue_fie (e : EngSt) : (deliverDue e).fie = e.fie := by rw [deliverDue_eq]
@[simp] theorem deliverDue_loop (e : EngSt) : (deliverDue e).loop = e.loop := by rw [deliverDue_eq]
@[simp] theorem deliverDue_loopStack (e : EngSt) : (deliverDue e).loopStack = e.loopStack := by rw [deliverDue_eq]
@[simp] theorem deliverDue_ldepth (e : EngSt) : (deliverDue e).ldepth = e.ldepth := by rw [deliverDue_eq]
@[simp] theorem deliverDue_repcnt (e : EngSt) : (deliverDue e).repcnt = e.repcnt := by rw [deliverDue_eq]
@[simp] theorem deliverDue_skipNext (e : EngSt) : (deliverDue e).skipNext = e.skipNext := by rw [deliverDue_eq]
@[simp] theorem deliverDue_repFirst (e : EngSt) : (deliverDue e).repFirst = e.repFirst := by rw [deliverDue_eq]
@[simp] theorem deliverDue_wrap (e : EngSt) : (deliverDue e).wrap = e.wrap := by rw [deliverDue_eq]
@[simp] theorem deliverDue_cycles (e : EngSt) : (deliverDue e).cycles = e.cycles := by rw [deliverDue_eq]
@[simp] theorem deliverDue_waiting (e : EngSt) : (deliverDue e).waiting = e.waiting := by rw [deliverDue_eq]
@[simp] theorem deliverDue_aps (e : EngSt) : (deliverDue e).aps = e.aps := by rw [deliverDue_eq]
@[simp] theorem deliverDue_stackLim (e : EngSt) : (deliverDue e).stackLim = e.stackLim := by rw [deliverDue_eq]
@[simp] theorem deliverDue_extWords (e : EngSt) : (deliverDue e).extWords = e.extWords := by rw [deliverDue_eq]
@[simp] theorem deliverDue_decode (e : EngSt) : (deliverDue e).decode = e.decode := by rw [deliverDue_eq]
@[simp] theorem deliverDue_edges (e : EngSt) : (deliverDue e).edges = e.edges := by rw [deliverDue_eq]
@[simp] theorem deliverDue_handler (e : EngSt) : (deliverDue e).handler = e.handler := by rw [deliverDue_eq]
@[simp] theorem deliverDue_hook (e : EngSt) : (deliverDue e).hook = e.hook := by rw [deliverDue_eq]
@[simp] theorem deliverDue_calls (e : EngSt) : (deliverDue e).calls = e.calls := by rw [deliverDue_eq]
@[simp] theorem deliverDue_overruns (e : EngSt) : (deliverDue e).overruns = e.overruns := by rw [deliverDue_eq]
@[simp] theorem wGet_deliverDue (e : EngSt) (j : Nat) : wGet (deliverDue e) j = wGet e j := by unfold wGet; simp
@[simp] theorem pGet_deliverDue (e : EngSt) (j : Nat) : pGet (deliverDue e) j = pGet e j := by unfold pGet; simp
@[simp] theorem fetchOk_deliverDue (e : EngSt) (n : Nat) : fetchOk (deliverDue e) n = fetchOk e n := by
  unfold fetchOk hookRuns; simp
@[simp] theorem inExt_deliverDue (e : EngSt) : inExt (deliverDue e) = inExt e := by unfold inExt hookRuns; simp
@[simp] theorem due_eng (s : State) : (due s).eng = deliverDue s.eng := rfl

/-! ### The end of an instruction -/

@[simp] theorem raiseEng_nil (s : State) : raiseEng [] s = s := rfl
@[simp] theorem modEng_eng (f : EngSt → EngSt) (s : State) : (modEng f s).eng = f s.eng := rfl
theorem modEng_modEng (f g : EngSt → EngSt) (s : State) : modEng f (modEng g s) = modEng (fun e => f (g e)) s := rfl

/-- What cycles do to an engine outside a hook. -/
theorem spend_eng (n : Nat) (s : State) (h : s.eng.hook = none) : (spend n s).eng = { s.eng with
    cycles := s.eng.cycles + n, mulDue := s.eng.mulDue.map (fun m => { m with left := m.left - n })
    divDue := s.eng.divDue.map (fun d => { d with left := d.left - n }) } := by
  simp [spend, h]

theorem spend_eq (n : Nat) (s : State) : spend n s = { s with eng := (spend n s).eng } := rfl

/-- Sequential execution moves the PC and the loop registers alone. -/
theorem advance_eq (n : Nat) (e : EngSt) : advance n e = { e with
    pc := (advance n e).pc, wrap := (advance n e).wrap, loop := (advance n e).loop, loopStack := (advance n e).loopStack
    ldepth := (advance n e).ldepth } := by
  have hp : ∀ e : EngSt, popLoop e = { e with
      loop := (popLoop e).loop, loopStack := (popLoop e).loopStack, ldepth := (popLoop e).ldepth } := by
    intro e; unfold popLoop; split <;> rfl
  have he : ∀ k m (e : EngSt), endLoop k m e = { e with
      pc := (endLoop k m e).pc, wrap := (endLoop k m e).wrap, loop := (endLoop k m e).loop
      loopStack := (endLoop k m e).loopStack, ldepth := (endLoop k m e).ldepth } := by
    intro k
    induction k with
    | zero => intro m e; rfl
    | succ k ih =>
      intro m e
      unfold endLoop
      simp only
      split
      · split
        · simp only [setPc]; rw [hp e]
        · rw [ih]; rw [hp e]
      · simp only [setNext]; rw [hp e]
  unfold advance
  simp only
  split
  · unfold endTest; split
    · rfl
    · exact he _ _ _
  · rfl

theorem advance_hook (n : Nat) (e : EngSt) : (advance n e).hook = e.hook := by rw [advance_eq]

/-- The end of an instruction outside a hook and a repetition. -/
theorem finish_none (n : Nat) (r : Eff) (h : r.st.eng.hook = none) : finish n false r = raiseEng r.faults
    (match r.flow with
      | .next => modEng (advance n) (spend r.cost r.st)
      | .over k => modEng (advance (n + k)) (spend r.cost r.st)
      | .jump t => modEng (setPc t) (spend r.cost r.st)
      | .done => spend r.cost r.st) := by
  have hs : (spend r.cost r.st).eng.hook = none := by simp [spend, h]
  unfold finish
  cases hf : r.flow <;> simp [budgetSpent, advance_hook, setPc, hs]

/-- The end of an iteration outside a hook. -/
theorem finish_rep (n : Nat) (r : Eff) (h : r.st.eng.hook = none) : finish n true r = raiseEng r.faults
    (if r.st.eng.repcnt.toNat ≤ 1 then modEng (fun e => advance n { e with repcnt := 0, frp := false }) (spend r.cost r.st)
     else modEng (fun e => { e with repcnt := e.repcnt - 1 }) (spend r.cost r.st)) := by
  have hs : (spend r.cost r.st).eng.hook = none := by simp [spend, h]
  have hr : (spend r.cost r.st).eng.repcnt = r.st.eng.repcnt := rfl
  unfold finish
  simp only [if_true, hr]
  split <;> simp [budgetSpent, advance_hook, hs]

/-- The end of an instruction outside a hook, without faults: time, the way on, the repetition and the loops move, nothing else. -/
theorem finish_only (n : Nat) (rep : Bool) (r : Eff) (h : r.st.eng.hook = none) (hf : r.faults = []) :
    ∃ e, finish n rep r = { r.st with eng := e } ∧ e = { r.st.eng with
      pc := e.pc, wrap := e.wrap, loop := e.loop, loopStack := e.loopStack, ldepth := e.ldepth, repcnt := e.repcnt
      frp := e.frp, cycles := e.cycles, mulDue := e.mulDue, divDue := e.divDue }
      ∧ (rep = false → e.repcnt = r.st.eng.repcnt ∧ e.frp = r.st.eng.frp) := by
  have hs := spend_eng r.cost r.st h
  cases rep
  · rw [finish_none n r h, hf]
    have adv : ∀ m, ∃ e, ({ (spend r.cost r.st) with eng := advance m (spend r.cost r.st).eng } : State) = { r.st with eng := e } ∧ e = { r.st.eng with
        pc := e.pc, wrap := e.wrap, loop := e.loop, loopStack := e.loopStack, ldepth := e.ldepth, repcnt := e.repcnt
        frp := e.frp, cycles := e.cycles, mulDue := e.mulDue, divDue := e.divDue }
        ∧ (false = false → e.repcnt = r.st.eng.repcnt ∧ e.frp = r.st.eng.frp) := by
      intro m
      refine ⟨advance m (spend r.cost r.st).eng, rfl, ?_, fun _ => ?_⟩
      · rw [hs, advance_eq]
      · rw [hs, advance_eq]; exact ⟨rfl, rfl⟩
    rcases r.flow with _ | k | x | _
    · exact adv n
    · exact adv (n + k)
    · refine ⟨setPc x (spend r.cost r.st).eng, rfl, ?_, fun _ => ?_⟩ <;> rw [hs]
      · rfl
      · exact ⟨rfl, rfl⟩
    · refine ⟨(spend r.cost r.st).eng, rfl, ?_, fun _ => ?_⟩ <;> rw [hs]
      exact ⟨rfl, rfl⟩
  · rw [finish_rep n r h, hf]
    split
    · refine ⟨advance n { (spend r.cost r.st).eng with repcnt := 0, frp := false }, rfl, ?_, fun k => nomatch k⟩
      rw [hs, advance_eq]
    · refine ⟨{ (spend r.cost r.st).eng with repcnt := (spend r.cost r.st).eng.repcnt - 1 }, rfl, ?_, fun k => nomatch k⟩
      rw [hs]

/-! ### The row at the PC -/

theorem runRow_ready (x : Shape) (body : State → Eff) (s : State) (h : EngReady x.words s) :
    runRow x body s = finish x.words (due s).eng.frp (body (due s)) := by
  obtain ⟨h1, h2, h3, h4⟩ := h
  unfold runRow
  simp only [due_eng] at h2
  simp [h1, h2, h3, h4, due]
theorem runRow_idle (x : Shape) (body : State → Eff) (s : State) (h : engineRuns s = false) : runRow x body s = s := by
  unfold runRow; simp [h]
theorem runRow_fetch (x : Shape) (body : State → Eff) (s : State) (h : engineRuns s = true) (k : fetchOk (due s).eng x.words = false) :
    runRow x body s = raiseEng [Src.engFetchFault] (due s) := by
  simp only [due_eng] at k
  unfold runRow; simp [h, k, due]
theorem runRow_skip (x : Shape) (body : State → Eff) (s : State) (h : EngSkips x.words s) : runRow x body s = skipRow x (due s) := by
  obtain ⟨h1, h2, h3⟩ := h
  simp only [due_eng] at h2
  unfold runRow; simp [h1, h2, h3, due]
theorem runRow_governed (x : Shape) (body : State → Eff) (s : State) (h : EngGoverned x.words s) :
    runRow x body s =
      (let u := modEng (fun e => { e with repFirst := false }) (due s)
       if !x.repeatable then
        finish x.words false { st := modEng (fun e => { e with frp := false, repcnt := 0 }) u, faults := [Src.engIllegalRep] }
       else if s.eng.repcnt = 0 then finish x.words false { st := u } else finish x.words true (body u)) := by
  obtain ⟨h1, h2, h3, h4⟩ := h
  simp only [due_eng] at h2
  unfold runRow; simp [h1, h2, h3, h4, due]

/-! ### Every instruction of the engine is a row at the PC -/

/-- An instruction runs as the row at the PC, with the words, the REP bar and the body that are its own; the shape of a customer
opcode reads its decode entry. -/
theorem engineRow_exec {i : Instr} {n : Nat} (h : EngineRow i n) : ∃ (x : Vector DecodeEntry 16 → Shape) (body : State → Eff), ∀ s,
    exec i s = .next (runRow (x s.eng.decode) body s) ∧ (x s.eng.decode).words = n ∧ (x s.eng.decode).isRep = isRepRow i
      ∧ (x s.eng.decode).repeatable = !barsRep s i := by
  cases h with
  | add a b => exact ⟨fun _ => plain, _, fun s => ⟨exec_add a b s, rfl, rfl, rfl⟩⟩
  | adc a b => exact ⟨fun _ => plain, _, fun s => ⟨exec_adc a b s, rfl, rfl, rfl⟩⟩
  | sub a b => exact ⟨fun _ => plain, _, fun s => ⟨exec_sub a b s, rfl, rfl, rfl⟩⟩
  | sbc a b => exact ⟨fun _ => plain, _, fun s => ⟨exec_sbc a b s, rfl, rfl, rfl⟩⟩
  | and a b => exact ⟨fun _ => plain, _, fun s => ⟨exec_and a b s, rfl, rfl, rfl⟩⟩
  | or a b => exact ⟨fun _ => plain, _, fun s => ⟨exec_or a b s, rfl, rfl, rfl⟩⟩
  | xor a b => exact ⟨fun _ => plain, _, fun s => ⟨exec_xor a b s, rfl, rfl, rfl⟩⟩
  | mov a b => exact ⟨fun _ => plain, _, fun s => ⟨exec_mov a b s, rfl, rfl, rfl⟩⟩
  | cmp a b => exact ⟨fun _ => plain, _, fun s => ⟨exec_cmp a b s, rfl, rfl, rfl⟩⟩
  | tst a b => exact ⟨fun _ => plain, _, fun s => ⟨exec_tst a b s, rfl, rfl, rfl⟩⟩
  | mulu a b => exact ⟨fun _ => plain, _, fun s => ⟨exec_mulu a b s, rfl, rfl, rfl⟩⟩
  | muls a b => exact ⟨fun _ => plain, _, fun s => ⟨exec_muls a b s, rfl, rfl, rfl⟩⟩
  | divu a b => exact ⟨fun _ => plain, _, fun s => ⟨exec_divu a b s, rfl, rfl, rfl⟩⟩
  | divs a b => exact ⟨fun _ => plain, _, fun s => ⟨exec_divs a b s, rfl, rfl, rfl⟩⟩
  | shl a b => exact ⟨fun _ => plain, _, fun s => ⟨exec_shl a b s, rfl, rfl, rfl⟩⟩
  | shr a b => exact ⟨fun _ => plain, _, fun s => ⟨exec_shr a b s, rfl, rfl, rfl⟩⟩
  | sar a b => exact ⟨fun _ => plain, _, fun s => ⟨exec_sar a b s, rfl, rfl, rfl⟩⟩
  | rol a b => exact ⟨fun _ => plain, _, fun s => ⟨exec_rol a b s, rfl, rfl, rfl⟩⟩
  | ror a b => exact ⟨fun _ => plain, _, fun s => ⟨exec_ror a b s, rfl, rfl, rfl⟩⟩
  | shlr a b => exact ⟨fun _ => plain, _, fun s => ⟨exec_shlr a b s, rfl, rfl, rfl⟩⟩
  | shrr a b => exact ⟨fun _ => plain, _, fun s => ⟨exec_shrr a b s, rfl, rfl, rfl⟩⟩
  | sarr a b => exact ⟨fun _ => plain, _, fun s => ⟨exec_sarr a b s, rfl, rfl, rfl⟩⟩
  | neg a => exact ⟨fun _ => plain, _, fun s => ⟨exec_neg a s, rfl, rfl, rfl⟩⟩
  | not a => exact ⟨fun _ => plain, _, fun s => ⟨exec_not a s, rfl, rfl, rfl⟩⟩
  | inc a => exact ⟨fun _ => plain, _, fun s => ⟨exec_inc a s, rfl, rfl, rfl⟩⟩
  | dec a => exact ⟨fun _ => plain, _, fun s => ⟨exec_dec a s, rfl, rfl, rfl⟩⟩
  | swapn a => exact ⟨fun _ => plain, _, fun s => ⟨exec_swapn a s, rfl, rfl, rfl⟩⟩
  | clr a => exact ⟨fun _ => plain, _, fun s => ⟨exec_clr a s, rfl, rfl, rfl⟩⟩
  | movi a b => exact ⟨fun _ => plain, _, fun s => ⟨exec_movi a b s, rfl, rfl, rfl⟩⟩
  | addi a b => exact ⟨fun _ => plain, _, fun s => ⟨exec_addi a b s, rfl, rfl, rfl⟩⟩
  | cmpi a b => exact ⟨fun _ => plain, _, fun s => ⟨exec_cmpi a b s, rfl, rfl, rfl⟩⟩
  | andi a b => exact ⟨fun _ => plain, _, fun s => ⟨exec_andi a b s, rfl, rfl, rfl⟩⟩
  | ld a b c d => exact ⟨fun _ => plain, _, fun s => ⟨exec_ld a b c d s, rfl, rfl, rfl⟩⟩
  | st a b c d => exact ⟨fun _ => plain, _, fun s => ⟨exec_st a b c d s, rfl, rfl, rfl⟩⟩
  | bra a => exact ⟨fun _ => (barred 1), _, fun s => ⟨exec_bra a s, rfl, rfl, rfl⟩⟩
  | call a => exact ⟨fun _ => (barred 1), _, fun s => ⟨exec_call a s, rfl, rfl, rfl⟩⟩
  | skip a => exact ⟨fun _ => (barred 1), _, fun s => ⟨exec_skip a s, rfl, rfl, rfl⟩⟩
  | skbc a b => exact ⟨fun _ => (barred 1), _, fun s => ⟨exec_skbc a b s, rfl, rfl, rfl⟩⟩
  | skbs a b => exact ⟨fun _ => (barred 1), _, fun s => ⟨exec_skbs a b s, rfl, rfl, rfl⟩⟩
  | bclr a b => exact ⟨fun _ => plain, _, fun s => ⟨exec_bclr a b s, rfl, rfl, rfl⟩⟩
  | bset a b => exact ⟨fun _ => plain, _, fun s => ⟨exec_bset a b s, rfl, rfl, rfl⟩⟩
  | customerOpcode a b => exact ⟨fun d => { repeatable := (d[a] : DecodeEntry).repOk }, customer a b, fun s => ⟨exec_customerOpcode a b s, rfl, rfl, (Bool.not_not _).symm⟩⟩
  | sysNop => exact ⟨fun _ => plain, _, fun s => ⟨exec_sysNop s, rfl, rfl, rfl⟩⟩
  | ret => exact ⟨fun _ => (barred 1), _, fun s => ⟨exec_ret s, rfl, rfl, rfl⟩⟩
  | reti => exact ⟨fun _ => (barred 1), _, fun s => ⟨exec_reti s, rfl, rfl, rfl⟩⟩
  | ei => exact ⟨fun _ => plain, _, fun s => ⟨exec_ei s, rfl, rfl, rfl⟩⟩
  | di => exact ⟨fun _ => plain, _, fun s => ⟨exec_di s, rfl, rfl, rfl⟩⟩
  | wait => exact ⟨fun _ => (barred 1), _, fun s => ⟨exec_wait s, rfl, rfl, rfl⟩⟩
  | jmpi a => exact ⟨fun _ => (barred 1), _, fun s => ⟨exec_jmpi a s, rfl, rfl, rfl⟩⟩
  | calli a => exact ⟨fun _ => (barred 1), _, fun s => ⟨exec_calli a s, rfl, rfl, rfl⟩⟩
  | mfs a b => exact ⟨fun _ => plain, _, fun s => ⟨exec_mfs a b s, rfl, rfl, rfl⟩⟩
  | mts a b => exact ⟨fun _ => plain, _, fun s => ⟨exec_mts a b s, rfl, rfl, rfl⟩⟩
  | push a => exact ⟨fun _ => plain, _, fun s => ⟨exec_push a s, rfl, rfl, rfl⟩⟩
  | pop a => exact ⟨fun _ => plain, _, fun s => ⟨exec_pop a s, rfl, rfl, rfl⟩⟩
  | padd a b => exact ⟨fun _ => plain, _, fun s => ⟨exec_padd a b s, rfl, rfl, rfl⟩⟩
  | pushp a => exact ⟨fun _ => plain, _, fun s => ⟨exec_pushp a s, rfl, rfl, rfl⟩⟩
  | popp a => exact ⟨fun _ => plain, _, fun s => ⟨exec_popp a s, rfl, rfl, rfl⟩⟩
  | movp a b => exact ⟨fun _ => plain, _, fun s => ⟨exec_movp a b s, rfl, rfl, rfl⟩⟩
  | pcmp a b => exact ⟨fun _ => plain, _, fun s => ⟨exec_pcmp a b s, rfl, rfl, rfl⟩⟩
  | repImm a => exact ⟨fun _ => repShape, _, fun s => ⟨exec_repImm a s, rfl, rfl, rfl⟩⟩
  | repReg a => exact ⟨fun _ => repShape, _, fun s => ⟨exec_repReg a s, rfl, rfl, rfl⟩⟩
  | lbreak => exact ⟨fun _ => (barred 1), _, fun s => ⟨exec_lbreak s, rfl, rfl, rfl⟩⟩
  | jmp a => exact ⟨fun _ => (barred 2), _, fun s => ⟨exec_jmp a s, rfl, rfl, rfl⟩⟩
  | callAbs a => exact ⟨fun _ => (barred 2), _, fun s => ⟨exec_callAbs a s, rfl, rfl, rfl⟩⟩
  | ldp a b => exact ⟨fun _ => { words := 2 }, _, fun s => ⟨exec_ldp a b s, rfl, rfl, rfl⟩⟩
  | loopImm a b => exact ⟨fun _ => (barred 2), _, fun s => ⟨exec_loopImm a b s, rfl, rfl, rfl⟩⟩
  | loopReg a b => exact ⟨fun _ => (barred 2), _, fun s => ⟨exec_loopReg a b s, rfl, rfl, rfl⟩⟩

/-! ### One byte of a canonical memory -/

theorem look_eq_none_of_lt {lo a : Nat} {m : Memory} (w : memWfFrom lo m = true) (h : a < lo) : look a m = none := by
  induction m generalizing lo with
  | nil => rfl
  | cons c l ih =>
    obtain ⟨k, b⟩ := c
    simp only [memWfFrom, Bool.and_eq_true, decide_eq_true_eq] at w
    have : (k == a) = false := by simp; omega
    simp only [look, this]
    exact ih w.2 (by omega)

theorem look_append {α β : Type} [BEq α] (k : α) (x y : List (α × β)) : look k (x ++ y) = (look k x).or (look k y) := by
  induction x with
  | nil => simp [look]
  | cons c l ih =>
    obtain ⟨a, b⟩ := c
    simp only [List.cons_append, look]
    split <;> simp [ih]

theorem look_filter (k : Nat) (p : Nat × Byte → Bool) (m : Memory) (h : ∀ b, p (k, b) = true) : look k (m.filter p) = look k m := by
  induction m with
  | nil => rfl
  | cons c l ih =>
    obtain ⟨a, b⟩ := c
    rw [List.filter_cons]
    by_cases e : a = k
    · subst e; simp [h, look]
    · have : (a == k) = false := by simpa using e
      split <;> simp [look, this, ih]

theorem look_filter_none (k : Nat) (p : Nat × Byte → Bool) (m : Memory) (h : ∀ b, p (k, b) = false) : look k (m.filter p) = none := by
  induction m with
  | nil => rfl
  | cons c l ih =>
    obtain ⟨a, b⟩ := c
    rw [List.filter_cons]
    by_cases e : a = k
    · subst e; simp [h, ih]
    · have : (a == k) = false := by simpa using e
      split <;> simp [look, this, ih]

theorem look_cells (k a : Nat) (bs : List Byte) : (look k (cells a bs)).getD memDefault =
    if a ≤ k ∧ k < a + bs.length then bs.getD (k - a) 0 else memDefault := by
  induction bs generalizing a with
  | nil => simp [cells, look]
  | cons b l ih =>
    unfold cells
    by_cases e : a = k
    · subst e
      have h0 : look a (cells (a + 1) l) = none := by
        have hs := cells_span (a + 1) l
        simp only [memSpan, Bool.and_eq_true] at hs
        exact look_eq_none_of_lt hs.1 (by omega)
      split
      · rename_i hb; simp [h0, hb]
      · simp [look]
    · have hk : (a == k) = false := by simpa using e
      have : (look k (if b = memDefault then cells (a + 1) l else (a, b) :: cells (a + 1) l)) = look k (cells (a + 1) l) := by
        split
        · rfl
        · simp [look, hk]
      rw [this, ih]
      by_cases h : a + 1 ≤ k ∧ k < a + 1 + l.length
      · have h' : a ≤ k ∧ k < a + (b :: l).length := by simp; omega
        have hm : k - a = (k - (a + 1)) + 1 := by omega
        rw [if_pos h, if_pos h', hm, List.getD_cons_succ]
      · have h' : ¬(a ≤ k ∧ k < a + (b :: l).length) := by simp; omega
        simp only [h, h', if_false]

/-- A byte read after a run of bytes is written: the byte written there, else what was there. -/
theorem memByte_memWrite (a : Nat) (bs : List Byte) (m : Memory) (k : Nat) :
    memByte (memWrite a bs m) k = if a ≤ k ∧ k < a + bs.length then bs.getD (k - a) 0 else memByte m k := by
  unfold memByte memWrite
  rw [look_append, look_append]
  by_cases h : a ≤ k ∧ k < a + bs.length
  · rw [look_filter_none k _ m (by intro b; simp; omega), look_filter_none k _ m (by intro b; simp; omega)]
    simp [look_cells, h]
  · by_cases hk : k < a
    · rw [look_filter k _ m (by intro b; simpa using hk)]
      have h2 : look k (cells a bs) = none := by
        have hs := cells_span a bs
        simp only [memSpan, Bool.and_eq_true] at hs
        exact look_eq_none_of_lt hs.1 hk
      rw [h2, look_filter_none k _ m (by intro b; simp; omega)]
      simp [h]
    · have hk2 : a + bs.length ≤ k := by omega
      rw [look_filter_none k _ m (by intro b; simp; omega), look_filter k _ m (by intro b; simpa using hk2)]
      have hc := look_cells k a bs
      rw [if_neg h] at hc
      simp only [h, if_false, Option.none_or]
      cases hl : look k (cells a bs) with
      | none => simp
      | some v =>
        exfalso
        have hs := cells_span a bs
        simp only [memSpan, Bool.and_eq_true, List.all_eq_true, decide_eq_true_eq] at hs
        have : ∀ (l : Memory), look k l = some v → (k, v) ∈ l := by
          intro l
          induction l with
          | nil => intro h; cases h
          | cons c t ih =>
            obtain ⟨x, y⟩ := c
            simp only [look]
            split
            · rename_i hx; intro hy; cases hy; simp at hx; subst hx; simp
            · intro hy; exact List.mem_cons_of_mem _ (ih hy)
        have := hs.2 _ (this _ hl)
        simp at this; omega

/-- One byte written. -/
theorem memByte_memWrite_one (a : Nat) (b : Byte) (m : Memory) (k : Nat) :
    memByte (memWrite a [b] m) k = if k = a then b else memByte m k := by
  rw [memByte_memWrite]
  by_cases h : k = a
  · subst h; simp
  · rw [if_neg h, if_neg]; simp; omega

/-- In a canonical memory reading one byte as a run gives the byte. -/
theorem memRead_one (m : Memory) (a : Nat) (w : Memory.wf m = true) : memRead m a 1 = [memByte m a] := by
  have key : ∀ (lo : Nat) (m : Memory), memWfFrom lo m = true →
      readRun 1 a (m.dropWhile (fun c => decide (c.1 < a))) = [(look a m).getD memDefault] := by
    intro lo m
    induction m generalizing lo with
    | nil => intro _; rfl
    | cons c l ih =>
      obtain ⟨k, b⟩ := c
      intro h
      simp only [memWfFrom, Bool.and_eq_true, decide_eq_true_eq] at h
      rw [List.dropWhile_cons]
      by_cases hk : k < a
      · have hne : (k == a) = false := by simp; omega
        simp only [hk, decide_true, if_true, look, hne]
        exact ih _ h.2
      · simp only [hk, decide_false, Bool.false_eq_true, if_false, look]
        by_cases e : k = a
        · subst e; simp [readRun]
        · have hne : (k == a) = false := by simpa using e
          have : look a l = none := look_eq_none_of_lt h.2 (by omega)
          simp [readRun, e, this]
  exact key 0 m w

/-! ### The stack in RAM -/

theorem subNat_toNat (x : Half) (k : Nat) (h : k ≤ x.toNat) : (x - BitVec.ofNat 16 k).toNat = x.toNat - k := by
  have := x.isLt
  rw [BitVec.toNat_sub, BitVec.toNat_ofNat, Nat.mod_eq_of_lt (show k < 2 ^ 16 by omega)]
  omega
theorem addNat_toNat (x : Half) (k : Nat) (h : x.toNat + k ≤ 0x8000) : (x + BitVec.ofNat 16 k).toNat = x.toNat + k := by
  rw [BitVec.toNat_add, BitVec.toNat_ofNat]; omega

theorem dataWrite_ram (a : Nat) (b : Byte) (s : State) (h : inExt s.eng = false) (ha : a < 0x8000) :
    dataWrite a b s = { st := modEng (fun e => { e with ram := memWrite a [b] e.ram }) s } := by
  unfold dataWrite; simp [h, ha]
theorem dataRead_ram (a : Nat) (s : State) (h : inExt s.eng = false) (ha : a < 0x8000) :
    dataRead a s = { val := memByte s.eng.ram a, st := s } := by
  unfold dataRead; simp [h, ha]

theorem pushOk_ram (e : EngSt) (n : Nat) (h1 : n ≤ e.sp.toNat) (h2 : e.stackLim.toNat ≤ e.sp.toNat - n) : pushOk e n = true := by
  unfold pushOk
  rw [List.all_eq_true]
  intro i hi
  have := List.mem_range.mp hi
  rw [decide_eq_true_eq, subNat_toNat _ _ (by omega)]
  omega

/-- Pushes to RAM outside the extension: SP goes down by their number, the first byte stands highest, nothing else changes. -/
theorem pushBytes_ram (l : List Byte) (x : Acc) (h : inExt x.st.eng = false) (h1 : l.length ≤ x.st.eng.sp.toNat)
    (h2 : x.st.eng.sp.toNat ≤ 0x8000) : ∃ m, (pushBytes l x).st = modEng (fun e => { e with sp := e.sp - BitVec.ofNat 16 l.length, ram := m }) x.st
      ∧ (pushBytes l x).stall = x.stall ∧ (pushBytes l x).faults = x.faults
      ∧ ∀ a, memByte m a = if x.st.eng.sp.toNat - l.length ≤ a ∧ a < x.st.eng.sp.toNat then l.getD (x.st.eng.sp.toNat - 1 - a) 0
          else memByte x.st.eng.ram a := by
  induction l generalizing x with
  | nil =>
    refine ⟨x.st.eng.ram, ?_, rfl, rfl, ?_⟩
    · simp [pushBytes, modEng]
    · intro a; rw [if_neg]; simp only [List.length_nil]; omega
  | cons b l ih =>
    have hl : (b :: l).length = l.length + 1 := rfl
    rw [hl] at h1
    have e1 := subNat_toNat x.st.eng.sp 1 (by omega)
    let s1 := modEng (fun e => { e with sp := e.sp - 1 }) x.st
    let y := dataWrite s1.eng.sp.toNat b s1
    have hy : y = { st := modEng (fun e => { e with ram := memWrite (x.st.eng.sp.toNat - 1) [b] e.ram }) s1 } := by
      have hsp : s1.eng.sp.toNat = x.st.eng.sp.toNat - 1 := e1
      show dataWrite s1.eng.sp.toNat b s1 = _
      rw [dataWrite_ram _ _ s1 (show inExt s1.eng = false from h) (by rw [hsp]; omega), hsp]
    let z : Acc := { y with stall := x.stall + y.stall, faults := x.faults ++ y.faults }
    have hz : pushBytes (b :: l) x = pushBytes l z := rfl
    have zst : z.st = modEng (fun e => { e with sp := e.sp - 1, ram := memWrite (x.st.eng.sp.toNat - 1) [b] e.ram }) x.st := by
      show y.st = _; rw [hy]; rfl
    have zsp : z.st.eng.sp.toNat = x.st.eng.sp.toNat - 1 := by rw [zst]; exact e1
    obtain ⟨m, k1, k2, k3, k4⟩ := ih z (by rw [zst]; exact h) (by omega) (by omega)
    refine ⟨m, ?_, ?_, ?_, ?_⟩
    · rw [hz, k1, zst]
      simp only [modEng, hl]
      congr 2
      have e2 : (x.st.eng.sp - 1).toNat = x.st.eng.sp.toNat - 1 := e1
      apply BitVec.eq_of_toNat_eq
      have e3 := subNat_toNat (x.st.eng.sp - 1) l.length (by omega)
      have e4 := subNat_toNat x.st.eng.sp (l.length + 1) (by omega)
      omega
    · rw [hz, k2]; show x.stall + y.stall = _; rw [hy]; rfl
    · rw [hz, k3]; show x.faults ++ y.faults = _; rw [hy]; simp
    · intro a
      rw [k4, zsp, hl]
      have zr : z.st.eng.ram = memWrite (x.st.eng.sp.toNat - 1) [b] x.st.eng.ram := by rw [zst]; rfl
      rw [zr, memByte_memWrite_one]
      by_cases ha : a = x.st.eng.sp.toNat - 1
      · rw [if_neg (by omega), if_pos ha, if_pos (by omega)]
        have : x.st.eng.sp.toNat - 1 - a = 0 := by omega
        rw [this]; rfl
      · rw [if_neg ha]
        by_cases hb : x.st.eng.sp.toNat - 1 - l.length ≤ a ∧ a < x.st.eng.sp.toNat - 1
        · rw [if_pos hb, if_pos (by omega)]
          have : x.st.eng.sp.toNat - 1 - a = (x.st.eng.sp.toNat - 1 - 1 - a) + 1 := by omega
          rw [this]; rfl
        · rw [if_neg hb, if_neg (by omega)]

/-- Pops from RAM outside the extension: the bytes from SP up, and SP past them. -/
theorem popBytes_ram (n : Nat) (x : Acc) (h : inExt x.st.eng = false) (h1 : x.st.eng.sp.toNat + n ≤ 0x8000) :
    (popBytes n x).1 = (List.range n).map (fun i => memByte x.st.eng.ram (x.st.eng.sp.toNat + i))
      ∧ (popBytes n x).2.st = modEng (fun e => { e with sp := e.sp + BitVec.ofNat 16 n }) x.st
      ∧ (popBytes n x).2.stall = x.stall ∧ (popBytes n x).2.faults = x.faults := by
  induction n generalizing x with
  | zero => exact ⟨rfl, by simp [popBytes, modEng], rfl, rfl⟩
  | succ n ih =>
    let y := dataRead x.st.eng.sp.toNat x.st
    have hy : y = { val := memByte x.st.eng.ram x.st.eng.sp.toNat, st := x.st } := dataRead_ram _ _ h (by omega)
    let z : Acc := { y with st := modEng (fun e => { e with sp := e.sp + 1 }) y.st, stall := x.stall + y.stall, faults := x.faults ++ y.faults }
    have hz : popBytes (n + 1) x = (y.val :: (popBytes n z).1, (popBytes n z).2) := rfl
    have zst : z.st = modEng (fun e => { e with sp := e.sp + 1 }) x.st := by show modEng (fun e => { e with sp := e.sp + 1 }) y.st = _; rw [hy]
    have e1 := addNat_toNat x.st.eng.sp 1 (by omega)
    have zsp : z.st.eng.sp.toNat = x.st.eng.sp.toNat + 1 := by rw [zst]; exact e1
    have zr : z.st.eng.ram = x.st.eng.ram := by rw [zst]; rfl
    obtain ⟨k1, k2, k3, k4⟩ := ih z (by rw [zst]; exact h) (by omega)
    rw [hz]
    refine ⟨?_, ?_, ?_, ?_⟩
    · show y.val :: (popBytes n z).1 = _
      rw [k1, zsp, zr, hy, List.range_succ_eq_map, List.map_cons, List.map_map]
      refine congrArg₂ _ rfl (List.map_congr_left fun i _ => ?_)
      show memByte _ (x.st.eng.sp.toNat + 1 + i) = memByte _ (x.st.eng.sp.toNat + (i + 1))
      congr 1; omega
    · show (popBytes n z).2.st = _
      rw [k2, zst]
      simp only [modEng]
      congr 2
      have e2 : (x.st.eng.sp + 1).toNat = x.st.eng.sp.toNat + 1 := e1
      apply BitVec.eq_of_toNat_eq
      have e3 := addNat_toNat (x.st.eng.sp + 1) n (by omega)
      have e4 := addNat_toNat x.st.eng.sp (n + 1) (by omega)
      omega
    · show (popBytes n z).2.stall = _; rw [k3]; show x.stall + y.stall = _; rw [hy]; rfl
    · show (popBytes n z).2.faults = _; rw [k4]; show x.faults ++ y.faults = _; rw [hy]; simp

end Sys2Proof.Machine
end

