-- ==== Sys2Proof/Laws/KeepEngIsa.lean ====
section
/-! SUPPORT. Every operation of Machine/EngIsa.lean keeps the queue and the canonical memories. -/
namespace Sys2Proof.Machine

open Sys2Proof

@[simp] theorem aluTo_ram (d : Nat) (o : EngSt → AluOut) (e : EngSt) : (aluTo d o e).ram = e.ram := rfl
@[simp] theorem aluTest_ram (o : EngSt → AluOut) (e : EngSt) : (aluTest o e).ram = e.ram := rfl
@[simp] theorem issueDiv_ram (o : DivOut) (e : EngSt) : (issueDiv o e).ram = e.ram := rfl
@[simp] theorem ldstInc_ram (p : Fin 8) (i : Bool) (e : EngSt) : (ldstInc p i e).ram = e.ram := by
  unfold ldstInc
  split <;> rfl
@[simp] theorem skipIf_ram (c : EngSt → Bool) (e : EngSt) : (skipIf c e).ram = e.ram := rfl

theorem engineNext_keep {s0 : State} (x : Shape) (body : State → Eff) (s : State) (h_body : ∀ a0, Keep s0 a0 → Keep s0 (body a0).st) (h_s : Keep s0 s) :
    KeepO s0 (engineNext x body s) := by
  unfold engineNext
  refine KeepO.next ?_
  apply runRow_keep
  · intro a0 h0
    apply h_body
    exact h0
  · exact h_s

theorem execAdd_keep {s0 : State} (d r : Fin 16) (s : State) (h_s : Keep s0 s) :
    KeepO s0 (execAdd d r s) := by
  unfold execAdd
  apply engineNext_keep
  · intro a0 h0
    apply regOp_keep
    · exact fun _ => rfl
    · exact h0
  · exact h_s

theorem execAdc_keep {s0 : State} (d r : Fin 16) (s : State) (h_s : Keep s0 s) :
    KeepO s0 (execAdc d r s) := by
  unfold execAdc
  apply engineNext_keep
  · intro a0 h0
    apply regOp_keep
    · exact fun _ => rfl
    · exact h0
  · exact h_s

theorem execSub_keep {s0 : State} (d r : Fin 16) (s : State) (h_s : Keep s0 s) :
    KeepO s0 (execSub d r s) := by
  unfold execSub
  apply engineNext_keep
  · intro a0 h0
    apply regOp_keep
    · exact fun _ => rfl
    · exact h0
  · exact h_s

theorem execSbc_keep {s0 : State} (d r : Fin 16) (s : State) (h_s : Keep s0 s) :
    KeepO s0 (execSbc d r s) := by
  unfold execSbc
  apply engineNext_keep
  · intro a0 h0
    apply regOp_keep
    · exact fun _ => rfl
    · exact h0
  · exact h_s

theorem execAnd_keep {s0 : State} (d r : Fin 16) (s : State) (h_s : Keep s0 s) :
    KeepO s0 (execAnd d r s) := by
  unfold execAnd
  apply engineNext_keep
  · intro a0 h0
    apply regOp_keep
    · exact fun _ => rfl
    · exact h0
  · exact h_s

theorem execOr_keep {s0 : State} (d r : Fin 16) (s : State) (h_s : Keep s0 s) :
    KeepO s0 (execOr d r s) := by
  unfold execOr
  apply engineNext_keep
  · intro a0 h0
    apply regOp_keep
    · exact fun _ => rfl
    · exact h0
  · exact h_s

theorem execXor_keep {s0 : State} (d r : Fin 16) (s : State) (h_s : Keep s0 s) :
    KeepO s0 (execXor d r s) := by
  unfold execXor
  apply engineNext_keep
  · intro a0 h0
    apply regOp_keep
    · exact fun _ => rfl
    · exact h0
  · exact h_s

theorem execMov_keep {s0 : State} (d r : Fin 16) (s : State) (h_s : Keep s0 s) :
    KeepO s0 (execMov d r s) := by
  unfold execMov
  apply engineNext_keep
  · intro a0 h0
    apply regOp_keep
    · exact fun _ => rfl
    · exact h0
  · exact h_s

theorem execCmp_keep {s0 : State} (d r : Fin 16) (s : State) (h_s : Keep s0 s) :
    KeepO s0 (execCmp d r s) := by
  unfold execCmp
  apply engineNext_keep
  · intro a0 h0
    apply regOp_keep
    · exact fun _ => rfl
    · exact h0
  · exact h_s

theorem execTst_keep {s0 : State} (d r : Fin 16) (s : State) (h_s : Keep s0 s) :
    KeepO s0 (execTst d r s) := by
  unfold execTst
  apply engineNext_keep
  · intro a0 h0
    apply regOp_keep
    · exact fun _ => rfl
    · exact h0
  · exact h_s

theorem execMulu_keep {s0 : State} (d r : Fin 16) (s : State) (h_s : Keep s0 s) :
    KeepO s0 (execMulu d r s) := by
  unfold execMulu
  apply engineNext_keep
  · intro a0 h0
    apply regOp_keep
    · exact fun _ => rfl
    · exact h0
  · exact h_s

theorem execMuls_keep {s0 : State} (d r : Fin 16) (s : State) (h_s : Keep s0 s) :
    KeepO s0 (execMuls d r s) := by
  unfold execMuls
  apply engineNext_keep
  · intro a0 h0
    apply regOp_keep
    · exact fun _ => rfl
    · exact h0
  · exact h_s

theorem execDivu_keep {s0 : State} (pd : Fin 8) (r : Fin 16) (s : State) (h_s : Keep s0 s) :
    KeepO s0 (execDivu pd r s) := by
  unfold execDivu
  apply engineNext_keep
  · intro a0 h0
    apply regOp_keep
    · exact fun _ => rfl
    · exact h0
  · exact h_s

theorem execDivs_keep {s0 : State} (pd : Fin 8) (r : Fin 16) (s : State) (h_s : Keep s0 s) :
    KeepO s0 (execDivs pd r s) := by
  unfold execDivs
  apply engineNext_keep
  · intro a0 h0
    apply regOp_keep
    · exact fun _ => rfl
    · exact h0
  · exact h_s

theorem execShl_keep {s0 : State} (d count : Fin 16) (s : State) (h_s : Keep s0 s) :
    KeepO s0 (execShl d count s) := by
  unfold execShl
  apply engineNext_keep
  · intro a0 h0
    apply regOp_keep
    · exact fun _ => rfl
    · exact h0
  · exact h_s

theorem execShr_keep {s0 : State} (d count : Fin 16) (s : State) (h_s : Keep s0 s) :
    KeepO s0 (execShr d count s) := by
  unfold execShr
  apply engineNext_keep
  · intro a0 h0
    apply regOp_keep
    · exact fun _ => rfl
    · exact h0
  · exact h_s

theorem execSar_keep {s0 : State} (d count : Fin 16) (s : State) (h_s : Keep s0 s) :
    KeepO s0 (execSar d count s) := by
  unfold execSar
  apply engineNext_keep
  · intro a0 h0
    apply regOp_keep
    · exact fun _ => rfl
    · exact h0
  · exact h_s

theorem execRol_keep {s0 : State} (d count : Fin 16) (s : State) (h_s : Keep s0 s) :
    KeepO s0 (execRol d count s) := by
  unfold execRol
  apply engineNext_keep
  · intro a0 h0
    apply regOp_keep
    · exact fun _ => rfl
    · exact h0
  · exact h_s

theorem execRor_keep {s0 : State} (d count : Fin 16) (s : State) (h_s : Keep s0 s) :
    KeepO s0 (execRor d count s) := by
  unfold execRor
  apply engineNext_keep
  · intro a0 h0
    apply regOp_keep
    · exact fun _ => rfl
    · exact h0
  · exact h_s

theorem execShlr_keep {s0 : State} (d r : Fin 16) (s : State) (h_s : Keep s0 s) :
    KeepO s0 (execShlr d r s) := by
  unfold execShlr
  apply engineNext_keep
  · intro a0 h0
    apply regOp_keep
    · exact fun _ => rfl
    · exact h0
  · exact h_s

theorem execShrr_keep {s0 : State} (d r : Fin 16) (s : State) (h_s : Keep s0 s) :
    KeepO s0 (execShrr d r s) := by
  unfold execShrr
  apply engineNext_keep
  · intro a0 h0
    apply regOp_keep
    · exact fun _ => rfl
    · exact h0
  · exact h_s

theorem execSarr_keep {s0 : State} (d r : Fin 16) (s : State) (h_s : Keep s0 s) :
    KeepO s0 (execSarr d r s) := by
  unfold execSarr
  apply engineNext_keep
  · intro a0 h0
    apply regOp_keep
    · exact fun _ => rfl
    · exact h0
  · exact h_s

theorem execNeg_keep {s0 : State} (d : Fin 16) (s : State) (h_s : Keep s0 s) :
    KeepO s0 (execNeg d s) := by
  unfold execNeg
  apply engineNext_keep
  · intro a0 h0
    apply regOp_keep
    · exact fun _ => rfl
    · exact h0
  · exact h_s

theorem execNot_keep {s0 : State} (d : Fin 16) (s : State) (h_s : Keep s0 s) :
    KeepO s0 (execNot d s) := by
  unfold execNot
  apply engineNext_keep
  · intro a0 h0
    apply regOp_keep
    · exact fun _ => rfl
    · exact h0
  · exact h_s

theorem execInc_keep {s0 : State} (d : Fin 16) (s : State) (h_s : Keep s0 s) :
    KeepO s0 (execInc d s) := by
  unfold execInc
  apply engineNext_keep
  · intro a0 h0
    apply regOp_keep
    · exact fun _ => rfl
    · exact h0
  · exact h_s

theorem execDec_keep {s0 : State} (d : Fin 16) (s : State) (h_s : Keep s0 s) :
    KeepO s0 (execDec d s) := by
  unfold execDec
  apply engineNext_keep
  · intro a0 h0
    apply regOp_keep
    · exact fun _ => rfl
    · exact h0
  · exact h_s

theorem execSwapn_keep {s0 : State} (d : Fin 16) (s : State) (h_s : Keep s0 s) :
    KeepO s0 (execSwapn d s) := by
  unfold execSwapn
  apply engineNext_keep
  · intro a0 h0
    apply regOp_keep
    · exact fun _ => rfl
    · exact h0
  · exact h_s

theorem execClr_keep {s0 : State} (d : Fin 16) (s : State) (h_s : Keep s0 s) :
    KeepO s0 (execClr d s) := by
  unfold execClr
  apply engineNext_keep
  · intro a0 h0
    apply regOp_keep
    · exact fun _ => rfl
    · exact h0
  · exact h_s

theorem execMovi_keep {s0 : State} (d : Fin 16) (imm : Byte) (s : State) (h_s : Keep s0 s) :
    KeepO s0 (execMovi d imm s) := by
  unfold execMovi
  apply engineNext_keep
  · intro a0 h0
    apply regOp_keep
    · exact fun _ => rfl
    · exact h0
  · exact h_s

theorem execAddi_keep {s0 : State} (d : Fin 16) (imm : Byte) (s : State) (h_s : Keep s0 s) :
    KeepO s0 (execAddi d imm s) := by
  unfold execAddi
  apply engineNext_keep
  · intro a0 h0
    apply regOp_keep
    · exact fun _ => rfl
    · exact h0
  · exact h_s

theorem execCmpi_keep {s0 : State} (d : Fin 16) (imm : Byte) (s : State) (h_s : Keep s0 s) :
    KeepO s0 (execCmpi d imm s) := by
  unfold execCmpi
  apply engineNext_keep
  · intro a0 h0
    apply regOp_keep
    · exact fun _ => rfl
    · exact h0
  · exact h_s

theorem execAndi_keep {s0 : State} (d : Fin 16) (imm : Byte) (s : State) (h_s : Keep s0 s) :
    KeepO s0 (execAndi d imm s) := by
  unfold execAndi
  apply engineNext_keep
  · intro a0 h0
    apply regOp_keep
    · exact fun _ => rfl
    · exact h0
  · exact h_s

theorem loadBody_keep {s0 : State} (d : Fin 16) (p : Fin 8) (inc : Bool) (disp : Fin 16) (s : State) (h_s : Keep s0 s) :
    Keep s0 (loadBody d p inc disp s).st := by
  unfold loadBody
  extract_lets +onlyGivenNames x0
  refine keep_bind (s0 := s0) x0.st ?_ (fun h0 => ?_)
  · unfold x0; clear x0
    apply dataRead_keep
    exact h_s
  · clear_value x0
    refine keep_eff ?_
    apply modEng_keep
    · (intros; simp)
    · exact h0

theorem storeBody_keep {s0 : State} (r : Fin 16) (p : Fin 8) (inc : Bool) (disp : Fin 16) (s : State) (h_s : Keep s0 s) :
    Keep s0 (storeBody r p inc disp s).st := by
  unfold storeBody
  extract_lets +onlyGivenNames x0
  refine keep_bind (s0 := s0) x0.st ?_ (fun h0 => ?_)
  · unfold x0; clear x0
    apply dataWrite_keep
    exact h_s
  · clear_value x0
    refine keep_eff ?_
    apply modEng_keep
    · (intros; simp)
    · exact h0

theorem execLd_keep {s0 : State} (d : Fin 16) (p : Fin 8) (inc : Bool) (disp : Fin 16) (s : State) (h_s : Keep s0 s) :
    KeepO s0 (execLd d p inc disp s) := by
  unfold execLd
  apply engineNext_keep
  · intro a0 h0
    apply loadBody_keep
    exact h0
  · exact h_s

theorem execSt_keep {s0 : State} (r : Fin 16) (p : Fin 8) (inc : Bool) (disp : Fin 16) (s : State) (h_s : Keep s0 s) :
    KeepO s0 (execSt r p inc disp s) := by
  unfold execSt
  apply engineNext_keep
  · intro a0 h0
    apply storeBody_keep
    exact h0
  · exact h_s

theorem execBra_keep {s0 : State} (rel : BitVec 12) (s : State) (h_s : Keep s0 s) :
    KeepO s0 (execBra rel s) := by
  unfold execBra
  apply engineNext_keep
  · intro a0 h0
    apply jumpTo_keep
    exact h0
  · exact h_s

theorem execCall_keep {s0 : State} (rel : BitVec 12) (s : State) (h_s : Keep s0 s) :
    KeepO s0 (execCall rel s) := by
  unfold execCall
  apply engineNext_keep
  · intro a0 h0
    apply callTo_keep
    exact h0
  · exact h_s

theorem execJmpi_keep {s0 : State} (p : Fin 8) (s : State) (h_s : Keep s0 s) :
    KeepO s0 (execJmpi p s) := by
  unfold execJmpi
  apply engineNext_keep
  · intro a0 h0
    apply jumpTo_keep
    exact h0
  · exact h_s

theorem execCalli_keep {s0 : State} (p : Fin 8) (s : State) (h_s : Keep s0 s) :
    KeepO s0 (execCalli p s) := by
  unfold execCalli
  apply engineNext_keep
  · intro a0 h0
    apply callTo_keep
    exact h0
  · exact h_s

theorem execJmp_keep {s0 : State} (target : Half) (s : State) (h_s : Keep s0 s) :
    KeepO s0 (execJmp target s) := by
  unfold execJmp
  apply engineNext_keep
  · intro a0 h0
    apply jumpTo_keep
    exact h0
  · exact h_s

theorem execCallAbs_keep {s0 : State} (target : Half) (s : State) (h_s : Keep s0 s) :
    KeepO s0 (execCallAbs target s) := by
  unfold execCallAbs
  apply engineNext_keep
  · intro a0 h0
    apply callTo_keep
    exact h0
  · exact h_s

theorem execRet_keep {s0 : State} (s : State) (h_s : Keep s0 s) :
    KeepO s0 (execRet s) := by
  unfold execRet
  apply engineNext_keep
  · intro a0 h0
    apply returnTo_keep
    exact h0
  · exact h_s

theorem execReti_keep {s0 : State} (s : State) (h_s : Keep s0 s) :
    KeepO s0 (execReti s) := by
  unfold execReti
  apply engineNext_keep
  · intro a0 h0
    apply interruptReturn_keep
    exact h0
  · exact h_s

theorem execSkip_keep {s0 : State} (cond : Fin 16) (s : State) (h_s : Keep s0 s) :
    KeepO s0 (execSkip cond s) := by
  unfold execSkip
  apply engineNext_keep
  · intro a0 h0
    apply regOp_keep
    · exact fun _ => rfl
    · exact h0
  · exact h_s

theorem execSkbc_keep {s0 : State} (d : Fin 16) (b : Fin 8) (s : State) (h_s : Keep s0 s) :
    KeepO s0 (execSkbc d b s) := by
  unfold execSkbc
  apply engineNext_keep
  · intro a0 h0
    apply regOp_keep
    · exact fun _ => rfl
    · exact h0
  · exact h_s

theorem execSkbs_keep {s0 : State} (d : Fin 16) (b : Fin 8) (s : State) (h_s : Keep s0 s) :
    KeepO s0 (execSkbs d b s) := by
  unfold execSkbs
  apply engineNext_keep
  · intro a0 h0
    apply regOp_keep
    · exact fun _ => rfl
    · exact h0
  · exact h_s

theorem execBclr_keep {s0 : State} (d : Fin 16) (b : Fin 8) (s : State) (h_s : Keep s0 s) :
    KeepO s0 (execBclr d b s) := by
  unfold execBclr
  apply engineNext_keep
  · intro a0 h0
    apply regOp_keep
    · exact fun _ => rfl
    · exact h0
  · exact h_s

theorem execBset_keep {s0 : State} (d : Fin 16) (b : Fin 8) (s : State) (h_s : Keep s0 s) :
    KeepO s0 (execBset d b s) := by
  unfold execBset
  apply engineNext_keep
  · intro a0 h0
    apply regOp_keep
    · exact fun _ => rfl
    · exact h0
  · exact h_s

theorem execSysNop_keep {s0 : State} (s : State) (h_s : Keep s0 s) :
    KeepO s0 (execSysNop s) := by
  unfold execSysNop
  apply engineNext_keep
  · intro a0 h0
    apply regOp_keep
    · exact fun _ => rfl
    · exact h0
  · exact h_s

theorem execEi_keep {s0 : State} (s : State) (h_s : Keep s0 s) :
    KeepO s0 (execEi s) := by
  unfold execEi
  apply engineNext_keep
  · intro a0 h0
    apply regOp_keep
    · exact fun _ => rfl
    · exact h0
  · exact h_s

theorem execDi_keep {s0 : State} (s : State) (h_s : Keep s0 s) :
    KeepO s0 (execDi s) := by
  unfold execDi
  apply engineNext_keep
  · intro a0 h0
    apply regOp_keep
    · exact fun _ => rfl
    · exact h0
  · exact h_s

theorem waitBody_keep {s0 : State} (s : State) (h_s : Keep s0 s) :
    Keep s0 (waitBody s).st := by
  unfold waitBody
  refine keep_iteE ?_ ?_
  · refine keep_eff ?_
    exact h_s
  · apply regOp_keep
    · exact fun _ => rfl
    · exact h_s

theorem execWait_keep {s0 : State} (s : State) (h_s : Keep s0 s) :
    KeepO s0 (execWait s) := by
  unfold execWait
  apply engineNext_keep
  · intro a0 h0
    apply waitBody_keep
    exact h0
  · exact h_s

theorem execMfs_keep {s0 : State} (d k : Fin 16) (s : State) (h_s : Keep s0 s) :
    KeepO s0 (execMfs d k s) := by
  unfold execMfs
  apply engineNext_keep
  · intro a0 h0
    apply regOp_keep
    · (intros; simp)
    · exact h0
  · exact h_s

theorem mtsBody_keep {s0 : State} (r k : Fin 16) (s : State) (h_s : Keep s0 s) : Keep s0 (mtsBody r k s).st := by
  unfold mtsBody
  split
  · rename_i e h
    exact keep_mk rfl rfl rfl (srWrite_ram h) h_s
  · exact noOp_keep _ _ h_s

theorem execMts_keep {s0 : State} (r k : Fin 16) (s : State) (h_s : Keep s0 s) :
    KeepO s0 (execMts r k s) := by
  unfold execMts
  apply engineNext_keep
  · intro a0 h0
    apply mtsBody_keep
    exact h0
  · exact h_s

theorem pushBody_keep {s0 : State} (cost : Nat) (l : List Byte) (s : State) (h_s : Keep s0 s) :
    Keep s0 (pushBody cost l s).st := by
  unfold pushBody
  refine keep_iteE ?_ ?_
  · refine keep_eff ?_
    exact h_s
  · extract_lets +onlyGivenNames x0
    refine keep_bind (s0 := s0) x0.st ?_ (fun h0 => ?_)
    · unfold x0; clear x0
      apply pushBytes_keep
      refine keep_acc ?_
      exact h_s
    · clear_value x0
      refine keep_eff ?_
      exact h0

theorem popBody_keep {s0 : State} (cost n : Nat) (put : List Byte → EngSt → EngSt) (s : State) (h_put : ∀ a0 a1, (put a0 a1).ram = a1.ram) (h_s : Keep s0 s) :
    Keep s0 (popBody cost n put s).st := by
  unfold popBody
  refine keep_iteE ?_ ?_
  · refine keep_eff ?_
    exact h_s
  · split
    rename_i y0 y0' y0'' y0'''
    refine keep_bind (s0 := s0) _ (keep_of2A y0''' ?_) (fun h0 => ?_)
    · apply popBytes_keep
      refine keep_acc ?_
      exact h_s
    · refine keep_eff ?_
      apply modEng_keep
      · (intros; apply h_put)
      · exact h0

theorem execPush_keep {s0 : State} (r : Fin 16) (s : State) (h_s : Keep s0 s) :
    KeepO s0 (execPush r s) := by
  unfold execPush
  apply engineNext_keep
  · intro a0 h0
    apply pushBody_keep
    exact h0
  · exact h_s

theorem execPop_keep {s0 : State} (d : Fin 16) (s : State) (h_s : Keep s0 s) :
    KeepO s0 (execPop d s) := by
  unfold execPop
  apply engineNext_keep
  · intro a0 h0
    apply popBody_keep
    · exact fun _ _ => rfl
    · exact h0
  · exact h_s

theorem execPadd_keep {s0 : State} (p : Fin 8) (imm : Byte) (s : State) (h_s : Keep s0 s) :
    KeepO s0 (execPadd p imm s) := by
  unfold execPadd
  apply engineNext_keep
  · intro a0 h0
    apply regOp_keep
    · exact fun _ => rfl
    · exact h0
  · exact h_s

theorem execLdp_keep {s0 : State} (p : Fin 8) (imm : Half) (s : State) (h_s : Keep s0 s) :
    KeepO s0 (execLdp p imm s) := by
  unfold execLdp
  apply engineNext_keep
  · intro a0 h0
    refine keep_eff ?_
    apply modEng_keep
    · exact fun _ => rfl
    · exact h0
  · exact h_s

theorem execPushp_keep {s0 : State} (p : Fin 8) (s : State) (h_s : Keep s0 s) :
    KeepO s0 (execPushp p s) := by
  unfold execPushp
  apply engineNext_keep
  · intro a0 h0
    apply pushBody_keep
    exact h0
  · exact h_s

theorem execPopp_keep {s0 : State} (p : Fin 8) (s : State) (h_s : Keep s0 s) :
    KeepO s0 (execPopp p s) := by
  unfold execPopp
  apply engineNext_keep
  · intro a0 h0
    apply popBody_keep
    · exact fun _ _ => rfl
    · exact h0
  · exact h_s

theorem execMovp_keep {s0 : State} (p q : Fin 8) (s : State) (h_s : Keep s0 s) :
    KeepO s0 (execMovp p q s) := by
  unfold execMovp
  apply engineNext_keep
  · intro a0 h0
    apply regOp_keep
    · exact fun _ => rfl
    · exact h0
  · exact h_s

theorem execPcmp_keep {s0 : State} (p q : Fin 8) (s : State) (h_s : Keep s0 s) :
    KeepO s0 (execPcmp p q s) := by
  unfold execPcmp
  apply engineNext_keep
  · intro a0 h0
    apply regOp_keep
    · exact fun _ => rfl
    · exact h0
  · exact h_s

theorem execRepImm_keep {s0 : State} (n : Byte) (s : State) (h_s : Keep s0 s) :
    KeepO s0 (execRepImm n s) := by
  unfold execRepImm
  apply engineNext_keep
  · intro a0 h0
    apply startRep_keep
    exact h0
  · exact h_s

theorem execRepReg_keep {s0 : State} (r : Fin 16) (s : State) (h_s : Keep s0 s) :
    KeepO s0 (execRepReg r s) := by
  unfold execRepReg
  apply engineNext_keep
  · intro a0 h0
    apply startRep_keep
    exact h0
  · exact h_s

theorem execLoopImm_keep {s0 : State} (n : Byte) (len : Half) (s : State) (h_s : Keep s0 s) :
    KeepO s0 (execLoopImm n len s) := by
  unfold execLoopImm
  apply engineNext_keep
  · intro a0 h0
    apply startLoop_keep
    exact h0
  · exact h_s

theorem execLoopReg_keep {s0 : State} (p : Fin 8) (len : Half) (s : State) (h_s : Keep s0 s) :
    KeepO s0 (execLoopReg p len s) := by
  unfold execLoopReg
  apply engineNext_keep
  · intro a0 h0
    apply startLoop_keep
    exact h0
  · exact h_s

theorem execLbreak_keep {s0 : State} (s : State) (h_s : Keep s0 s) :
    KeepO s0 (execLbreak s) := by
  unfold execLbreak
  apply engineNext_keep
  · intro a0 h0
    apply breakLoop_keep
    exact h0
  · exact h_s

theorem execCustomerOpcode_keep {s0 : State} (entry : Fin 16) (operand : Byte) (s : State) (h_s : Keep s0 s) :
    KeepO s0 (execCustomerOpcode entry operand s) := by
  unfold execCustomerOpcode
  apply engineNext_keep
  · intro a0 h0
    apply customer_keep
    exact h0
  · exact h_s

theorem execIllegalOpcode_keep {s0 : State} (w : Half) (s : State) (h_s : Keep s0 s) :
    KeepO s0 (execIllegalOpcode w s) := by
  unfold execIllegalOpcode
  refine KeepO.ite ?_ ?_
  · refine KeepO.next ?_
    exact h_s
  · apply engineNext_keep
    · intro a0 h0
      apply noOp_keep
      exact h0
    · exact h_s

theorem execMulDelivery_keep {s0 : State} (s : State) (h_s : Keep s0 s) :
    KeepO s0 (execMulDelivery s) := by
  unfold execMulDelivery
  refine KeepO.next ?_
  split
  · rename_i y0 y0' y0'' y0'''
    refine keep_ite ?_ ?_
    · apply modEng_keep
      · exact fun _ => rfl
      · exact h_s
    · exact h_s
  · rename_i y0 y0'
    exact h_s

theorem execDivDelivery_keep {s0 : State} (s : State) (h_s : Keep s0 s) :
    KeepO s0 (execDivDelivery s) := by
  unfold execDivDelivery
  refine KeepO.next ?_
  split
  · rename_i y0 y0' y0''
    refine keep_ite ?_ ?_
    · apply modEng_keep
      · exact fun _ => rfl
      · exact h_s
    · exact h_s
  · rename_i y0 y0'
    exact h_s

theorem execInterruptEntry_keep {s0 : State} (s : State) (h_s : Keep s0 s) :
    KeepO s0 (execInterruptEntry s) := by
  unfold execInterruptEntry
  refine KeepO.next ?_
  split
  · rename_i y0 y0' y0''
    refine keep_ite ?_ ?_
    · apply enterLine_keep
      exact h_s
    · exact h_s
  · rename_i y0 y0'
    exact h_s

theorem execWaitResume_keep {s0 : State} (s : State) (h_s : Keep s0 s) :
    KeepO s0 (execWaitResume s) := by
  unfold execWaitResume
  refine KeepO.next ?_
  split
  · rename_i y0 y0' y0''
    refine keep_ite ?_ ?_
    · refine keep_ite ?_ ?_
      · apply enterLine_keep
        exact h_s
      · apply modEng_keep
        · exact fun _ => rfl
        · exact h_s
    · exact h_s
  · rename_i y0 y0'
    exact h_s

theorem execExtOverrun_keep {s0 : State} (s : State) (h_s : Keep s0 s) :
    KeepO s0 (execExtOverrun s) := by
  unfold execExtOverrun
  refine KeepO.next ?_
  refine keep_ite ?_ ?_
  · apply raiseEng_keep
    apply overrunHook_keep
    exact h_s
  · exact h_s

theorem localEvent_keep {s0 : State} (a : Nat) (v : Byte) (s : State) (h_s : Keep s0 s) :
    Keep s0 (localEvent a v s) := by
  unfold localEvent
  refine keep_ite ?_ ?_
  · extract_lets +onlyGivenNames x0
    refine keep_bind (s0 := s0) x0.st ?_ (fun h0 => ?_)
    · unfold x0; clear x0
      apply dataWrite_keep
      exact h_s
    · clear_value x0
      apply raiseEng_keep
      exact h0
  · exact h_s

theorem execApertureBaseWrite_keep {s0 : State} (n : Fin 4) (v : Byte) (s : State) (h_s : Keep s0 s) :
    KeepO s0 (execApertureBaseWrite n v s) := by
  unfold execApertureBaseWrite
  refine KeepO.next ?_
  apply localEvent_keep
  exact h_s

theorem execWdkick_keep {s0 : State} (v : Byte) (s : State) (h_s : Keep s0 s) :
    KeepO s0 (execWdkick v s) := by
  unfold execWdkick
  refine KeepO.next ?_
  apply localEvent_keep
  exact h_s

end Sys2Proof.Machine
end

