-- ==== Sys2Proof/Laws/KeepHif.lean ====
section
/-! SUPPORT. Every operation of Machine/Hif.lean keeps the queue and the canonical memories. -/
namespace Sys2Proof.Machine

open Sys2Proof

theorem setLatch_keep {s0 : State} (i : Iface) (l : Option (Nat × List Byte)) (s : State) (h_s : Keep s0 s) :
    Keep s0 (setLatch i l s) := by
  unfold setLatch
  apply modPort_keep
  exact h_s

theorem statusRead_keep {s0 : State} (i : Iface) (off : Nat) (s : State) (h_s : Keep s0 s) :
    Keep s0 (statusRead i off s).2 := by
  unfold statusRead
  split
  · rename_i y0 y0'
    refine keep_pair2 ?_
    exact h_s
  · rename_i y0 y0' y0'' y0'''
    refine keep_ite2 ?_ ?_
    · refine keep_pair2 ?_
      refine keep_ite ?_ ?_
      · exact h_s
      · apply setLatch_keep
        exact h_s
    · split
      · rename_i y1 y1' y1'' y1'''
        refine keep_pair2 ?_
        exact h_s
      · rename_i y1 y1'
        refine keep_pair2 ?_
        exact h_s

theorem replyRead_keep {s0 : State} (i : Iface) (s : State) (h_s : Keep s0 s) :
    Keep s0 (replyRead i s).2 := by
  unfold replyRead
  extract_lets +onlyGivenNames x0; clear_value x0
  split
  · rename_i y0 y0' y0'' y0'''
    refine keep_ite2 ?_ ?_
    · refine keep_pair2 ?_
      apply modPort_keep
      exact h_s
    · refine keep_pair2 ?_
      apply modPort_keep
      exact h_s
  · rename_i y0 y0'
    refine keep_pair2 ?_
    apply modPort_keep
    exact h_s

theorem popReply_keep {s0 : State} (i : Iface) (s : State) (h_s : Keep s0 s) :
    Keep s0 (popReply i s) := by
  unfold popReply
  split
  · rename_i y0 y0'
    exact h_s
  · rename_i y0 y0' y0'' y0'''
    extract_lets +onlyGivenNames x0
    refine keep_bind (s0 := s0) x0 ?_ (fun h0 => ?_)
    · unfold x0; clear x0
      apply edgeLine_keep
      apply modPort_keep
      exact h_s
    · clear_value x0
      split
      · rename_i y1 y1'
        exact h0
      · rename_i y1 y1'
        apply resetBegin_keep
        exact h0
      · rename_i y1 y1'
        split
        · rename_i y2 y2' y2''
          apply sleepEnter_keep
          exact h0
        · rename_i y2 y2'
          exact h0

theorem mailboxWrite_keep {s0 : State} (i : Iface) (b : Byte) (s : State) (h_s : Keep s0 s) :
    Keep s0 (mailboxWrite i b s) := by
  unfold mailboxWrite
  refine keep_ite ?_ ?_
  · apply protoEvent_keep
    apply modPort_keep
    exact h_s
  · apply modPort_keep
    exact h_s

theorem doorbell_keep {s0 : State} (i : Iface) (b : Byte) (s : State) (h_s : Keep s0 s) :
    Keep s0 (doorbell i b s) := by
  unfold doorbell
  extract_lets +onlyGivenNames x0; clear_value x0
  refine keep_ite ?_ ?_
  · refine keep_ite ?_ ?_
    · apply protoEvent_keep
      exact h_s
    · refine keep_ite ?_ ?_
      · apply modPort_keep
        exact h_s
      · refine keep_ite ?_ ?_
        · exact h_s
        · apply modPort_keep
          exact h_s
  · exact h_s

theorem portStatWrite_keep {s0 : State} (i : Iface) (b : Byte) (s : State) (h_s : Keep s0 s) :
    Keep s0 (portStatWrite i b s) := by
  unfold portStatWrite
  extract_lets +onlyGivenNames x0
  refine keep_bind (s0 := s0) x0 ?_ (fun h0 => ?_)
  · unfold x0; clear x0
    apply modPort_keep
    exact h_s
  · clear_value x0
    split
    · rename_i y0
      refine keep_ite ?_ ?_
      · refine keep_mk rfl rfl rfl rfl ?_
        exact h0
      · exact h0
    · rename_i y0
      exact h0

theorem wakeWrite_keep {s0 : State} (b : Byte) (s : State) (h_s : Keep s0 s) :
    Keep s0 (wakeWrite b s) := by
  unfold wakeWrite
  refine keep_ite ?_ ?_
  · apply exitRequest_keep
    exact h_s
  · refine keep_ite ?_ ?_
    · refine keep_mk rfl rfl rfl rfl ?_
      exact h_s
    · exact h_s

theorem windowRead_keep {s0 : State} (i : Iface) (off : Nat) (s : State) (h_s : Keep s0 s) :
    Keep s0 (windowRead i off s).2 := by
  unfold windowRead
  refine keep_ite2 ?_ ?_
  · refine keep_ite2 ?_ ?_
    · refine keep_pair2 ?_
      exact h_s
    · refine keep_ite2 ?_ ?_
      · apply statusRead_keep
        exact h_s
      · refine keep_pair2 ?_
        exact h_s
  · refine keep_ite2 ?_ ?_
    · apply statusRead_keep
      exact h_s
    · refine keep_ite2 ?_ ?_
      · apply replyRead_keep
        exact h_s
      · refine keep_ite2 ?_ ?_
        · split
          rename_i y0 y0' y0'' y0'''
          refine keep_bind (s0 := s0) _ (keep_of2 y0''' ?_) (fun h0 => ?_)
          · apply readPort_keep
            exact h_s
          · refine keep_pair2 ?_
            exact h0
        · refine keep_ite2 ?_ ?_
          · apply readAlarm_keep
            exact h_s
          · refine keep_pair2 ?_
            exact h_s

theorem windowWrite_keep {s0 : State} (i : Iface) (off : Nat) (b : Byte) (s : State) (h_s : Keep s0 s) :
    Keep s0 (windowWrite i off b s) := by
  unfold windowWrite
  refine keep_ite ?_ ?_
  · apply wakeWrite_keep
    exact h_s
  · refine keep_ite ?_ ?_
    · exact h_s
    · refine keep_ite ?_ ?_
      · apply mailboxWrite_keep
        exact h_s
      · refine keep_ite ?_ ?_
        · apply portStatWrite_keep
          exact h_s
        · refine keep_ite ?_ ?_
          · apply doorbell_keep
            exact h_s
          · refine keep_ite ?_ ?_
            · refine keep_ite ?_ ?_
              · apply popReply_keep
                exact h_s
              · refine keep_ite ?_ ?_
                · apply modPort_keep
                  exact h_s
                · exact h_s
            · refine keep_ite ?_ ?_
              · refine keep_ite ?_ ?_
                · apply commitPort_keep
                  exact h_s
                · refine keep_ite ?_ ?_
                  · apply rewindPort_keep
                    exact h_s
                  · exact h_s
              · refine keep_ite ?_ ?_
                · apply irqW1c_keep
                  exact h_s
                · exact h_s

theorem returned_keep {s0 : State} (i : Iface) (r : List Byte × State) (h_r : Keep s0 r.2) :
    Keep s0 (returned i r) := by
  unfold returned
  apply modPort_keep
  exact h_r

theorem returned1_keep {s0 : State} (i : Iface) (r : Byte × State) (h_r : Keep s0 r.2) :
    Keep s0 (returned1 i r) := by
  unfold returned1
  apply returned_keep
  refine keep_pair2 ?_
  exact h_r

theorem access_keep {s0 : State} (i : Iface) (f : State → State) (s : State) (h_f : ∀ a0, Keep s0 a0 → Keep s0 (f a0)) (h_s : Keep s0 s) :
    Keep s0 (access i f s) := by
  unfold access
  refine keep_ite ?_ ?_
  · apply h_f
    exact h_s
  · exact h_s

theorem execCmdMailboxWrite_keep {s0 : State} (i : Iface) (b : Byte) (s : State) (h_s : Keep s0 s) :
    KeepO s0 (execCmdMailboxWrite i b s) := by
  unfold execCmdMailboxWrite
  refine KeepO.next ?_
  apply access_keep
  · intro a0 h0
    apply windowWrite_keep
    exact h0
  · exact h_s

theorem execDoorbellSubmit_keep {s0 : State} (i : Iface) (s : State) (h_s : Keep s0 s) :
    KeepO s0 (execDoorbellSubmit i s) := by
  unfold execDoorbellSubmit
  refine KeepO.next ?_
  apply access_keep
  · intro a0 h0
    apply windowWrite_keep
    exact h0
  · exact h_s

theorem execDoorbellDiscard_keep {s0 : State} (i : Iface) (s : State) (h_s : Keep s0 s) :
    KeepO s0 (execDoorbellDiscard i s) := by
  unfold execDoorbellDiscard
  refine KeepO.next ?_
  apply access_keep
  · intro a0 h0
    apply windowWrite_keep
    exact h0
  · exact h_s

theorem execReplyMailboxRead_keep {s0 : State} (i : Iface) (s : State) (h_s : Keep s0 s) :
    KeepO s0 (execReplyMailboxRead i s) := by
  unfold execReplyMailboxRead
  refine KeepO.next ?_
  apply access_keep
  · intro a0 h0
    apply returned1_keep
    apply windowRead_keep
    exact h0
  · exact h_s

theorem execReplyPop_keep {s0 : State} (i : Iface) (s : State) (h_s : Keep s0 s) :
    KeepO s0 (execReplyPop i s) := by
  unfold execReplyPop
  refine KeepO.next ?_
  apply access_keep
  · intro a0 h0
    apply windowWrite_keep
    exact h0
  · exact h_s

theorem execReplyRewind_keep {s0 : State} (i : Iface) (s : State) (h_s : Keep s0 s) :
    KeepO s0 (execReplyRewind i s) := by
  unfold execReplyRewind
  refine KeepO.next ?_
  apply access_keep
  · intro a0 h0
    apply windowWrite_keep
    exact h0
  · exact h_s

theorem execStreamPortRead_keep {s0 : State} (i : Iface) (s : State) (h_s : Keep s0 s) :
    KeepO s0 (execStreamPortRead i s) := by
  unfold execStreamPortRead
  refine KeepO.next ?_
  apply access_keep
  · intro a0 h0
    apply returned1_keep
    apply windowRead_keep
    exact h0
  · exact h_s

theorem execStreamCommit_keep {s0 : State} (i : Iface) (s : State) (h_s : Keep s0 s) :
    KeepO s0 (execStreamCommit i s) := by
  unfold execStreamCommit
  refine KeepO.next ?_
  apply access_keep
  · intro a0 h0
    apply windowWrite_keep
    exact h0
  · exact h_s

theorem execStreamRewind_keep {s0 : State} (i : Iface) (s : State) (h_s : Keep s0 s) :
    KeepO s0 (execStreamRewind i s) := by
  unfold execStreamRewind
  refine KeepO.next ?_
  apply access_keep
  · intro a0 h0
    apply windowWrite_keep
    exact h0
  · exact h_s

theorem execAlarmPortRead_keep {s0 : State} (i : Iface) (s : State) (h_s : Keep s0 s) :
    KeepO s0 (execAlarmPortRead i s) := by
  unfold execAlarmPortRead
  refine KeepO.next ?_
  apply access_keep
  · intro a0 h0
    apply returned1_keep
    apply windowRead_keep
    exact h0
  · exact h_s

theorem execWakeExitRequest_keep {s0 : State} (i : Iface) (s : State) (h_s : Keep s0 s) :
    KeepO s0 (execWakeExitRequest i s) := by
  unfold execWakeExitRequest
  refine KeepO.next ?_
  apply access_keep
  · intro a0 h0
    apply windowWrite_keep
    exact h0
  · exact h_s

theorem execWakeRelease_keep {s0 : State} (i : Iface) (s : State) (h_s : Keep s0 s) :
    KeepO s0 (execWakeRelease i s) := by
  unfold execWakeRelease
  refine KeepO.next ?_
  apply access_keep
  · intro a0 h0
    apply windowWrite_keep
    exact h0
  · exact h_s

theorem execStatusFieldLatch_keep {s0 : State} (i : Iface) (off : Half) (s : State) (h_s : Keep s0 s) :
    KeepO s0 (execStatusFieldLatch i off s) := by
  unfold execStatusFieldLatch
  refine KeepO.next ?_
  apply access_keep
  · intro a0 h0
    split
    · rename_i y0 y0' y0'' y0'''
      refine keep_ite ?_ ?_
      · apply returned1_keep
        apply windowRead_keep
        exact h0
      · exact h0
    · rename_i y0 y0'
      exact h0
  · exact h_s

theorem execReplyStall_keep {s0 : State} (i : Iface) (s : State) (h_s : Keep s0 s) :
    KeepO s0 (execReplyStall i s) := by
  unfold execReplyStall
  refine KeepO.next ?_
  refine keep_ite ?_ ?_
  · exact h_s
  · apply raise_keep
    exact h_s

theorem onePointer_keep {s0 : State} (one : Bool) (s : State) (h_s : Keep s0 s) :
    Keep s0 (onePointer one s) := by
  unfold onePointer
  refine keep_ite ?_ ?_
  · apply protoEvent_keep
    exact h_s
  · exact h_s

theorem twiIdle_keep {s0 : State} (busy : Bool) (s : State) (h_s : Keep s0 s) :
    Keep s0 (twiIdle busy s) := by
  unfold twiIdle
  apply setLatch_keep
  refine keep_mk rfl rfl rfl rfl ?_
  exact h_s

theorem execI2cAddressPhase_keep {s0 : State} (addr : BitVec 7) (read onePtr : Bool) (s : State) (h_s : Keep s0 s) :
    KeepO s0 (execI2cAddressPhase addr read onePtr s) := by
  unfold execI2cAddressPhase
  refine KeepO.next ?_
  apply access_keep
  · intro a0 h0
    extract_lets +onlyGivenNames x0
    refine keep_bind (s0 := s0) x0 ?_ (fun h1 => ?_)
    · unfold x0; clear x0
      apply twiIdle_keep
      apply onePointer_keep
      exact h0
    · clear_value x0
      extract_lets +onlyGivenNames x1; clear_value x1
      extract_lets +onlyGivenNames x2; clear_value x2
      extract_lets +onlyGivenNames x3
      refine keep_bind (s0 := s0) x3 ?_ (fun h2 => ?_)
      · unfold x3; clear x3
        refine keep_mk rfl rfl rfl rfl ?_
        exact h1
      · clear_value x3
        refine keep_ite ?_ ?_
        · refine keep_mk rfl rfl rfl rfl ?_
          exact h2
        · exact h2
  · exact h_s

theorem execPointerLoad_keep {s0 : State} (lo hi : Byte) (s : State) (h_s : Keep s0 s) :
    KeepO s0 (execPointerLoad lo hi s) := by
  unfold execPointerLoad
  refine KeepO.next ?_
  refine keep_ite ?_ ?_
  · apply modPort_keep
    exact h_s
  · exact h_s

theorem execI2cWriteByte_keep {s0 : State} (b : Byte) (s : State) (h_s : Keep s0 s) :
    KeepO s0 (execI2cWriteByte b s) := by
  unfold execI2cWriteByte
  refine KeepO.next ?_
  refine keep_ite ?_ ?_
  · extract_lets +onlyGivenNames x0; clear_value x0
    apply windowWrite_keep
    apply modPort_keep
    exact h_s
  · exact h_s

theorem execI2cReadByte_keep {s0 : State} (ready : Bool) (s : State) (h_s : Keep s0 s) :
    KeepO s0 (execI2cReadByte ready s) := by
  unfold execI2cReadByte
  refine KeepO.next ?_
  refine keep_ite ?_ ?_
  · extract_lets +onlyGivenNames x0; clear_value x0
    extract_lets +onlyGivenNames x1
    refine keep_bind (s0 := s0) x1 ?_ (fun h0 => ?_)
    · unfold x1; clear x1
      apply modPort_keep
      exact h_s
    · clear_value x1
      refine keep_ite ?_ ?_
      · apply returned1_keep
        refine keep_pair2 ?_
        refine keep_mk rfl rfl rfl rfl ?_
        exact h0
      · apply returned1_keep
        apply windowRead_keep
        exact h0
  · exact h_s

theorem execCondDiscard_keep {s0 : State} (stop : Bool) (s : State) (h_s : Keep s0 s) :
    KeepO s0 (execCondDiscard stop s) := by
  unfold execCondDiscard
  refine KeepO.next ?_
  refine keep_ite ?_ ?_
  · apply protoEvent_keep
    apply twiIdle_keep
    refine keep_mk rfl rfl rfl rfl ?_
    exact h_s
  · exact h_s

theorem execStopCondition_keep {s0 : State} (onePtr : Bool) (s : State) (h_s : Keep s0 s) :
    KeepO s0 (execStopCondition onePtr s) := by
  unfold execStopCondition
  refine KeepO.next ?_
  apply access_keep
  · intro a0 h0
    apply twiIdle_keep
    apply onePointer_keep
    exact h0
  · exact h_s

theorem twiTimeout_keep {s0 : State} (bit : BitVec 4) (s : State) (h_s : Keep s0 s) :
    Keep s0 (twiTimeout bit s) := by
  unfold twiTimeout
  refine keep_ite ?_ ?_
  · apply protoEvent_keep
    apply twiIdle_keep
    refine keep_mk rfl rfl rfl rfl ?_
    exact h_s
  · exact h_s

theorem execSclTimeout_keep {s0 : State} (s : State) (h_s : Keep s0 s) :
    KeepO s0 (execSclTimeout s) := by
  unfold execSclTimeout
  refine KeepO.next ?_
  apply twiTimeout_keep
  exact h_s

theorem execSdaTimeout_keep {s0 : State} (s : State) (h_s : Keep s0 s) :
    KeepO s0 (execSdaTimeout s) := by
  unfold execSdaTimeout
  refine KeepO.next ?_
  apply twiTimeout_keep
  exact h_s

theorem quadSelect_keep {s0 : State} (s : State) (h_s : Keep s0 s) :
    Keep s0 (quadSelect s) := by
  unfold quadSelect
  apply setLatch_keep
  refine keep_mk rfl rfl rfl rfl ?_
  exact h_s

theorem quadWrites_keep {s0 : State} (l : List Byte) (p : Half) (s : State) (h_s : Keep s0 s) : Keep s0 (quadWrites l p s) := by
  induction l generalizing p s with
  | nil => exact modPort_keep _ _ _ h_s
  | cons b l ih => exact ih _ _ (windowWrite_keep _ _ _ _ h_s)

theorem quadReads_keep {s0 : State} (n : Nat) (p : Half) (s : State) (h_s : Keep s0 s) : Keep s0 (quadReads n p s).2 := by
  induction n generalizing p s with
  | zero => unfold quadReads; exact keep_pair2 (modPort_keep _ _ _ h_s)
  | succ n ih =>
    unfold quadReads
    split
    rename_i b t e
    have h : Keep s0 t := by
      have k := windowRead_keep .quad p.toNat s h_s
      rw [e] at k
      exact k
    split
    rename_i l u e2
    have k := ih (p + 1) t h
    rw [e2] at k
    exact k

theorem execQspiWrite_keep {s0 : State} (ptr : Half) (data : List Byte) (s : State) (h_s : Keep s0 s) :
    KeepO s0 (execQspiWrite ptr data s) := by
  unfold execQspiWrite
  refine KeepO.next ?_
  apply access_keep
  · intro a0 h0
    apply quadWrites_keep
    apply quadSelect_keep
    exact h0
  · exact h_s

theorem execQspiRead_keep {s0 : State} (ptr : Half) (n : Nat) (s : State) (h_s : Keep s0 s) :
    KeepO s0 (execQspiRead ptr n s) := by
  unfold execQspiRead
  refine KeepO.next ?_
  apply access_keep
  · intro a0 h0
    apply setLatch_keep
    apply returned_keep
    apply quadReads_keep
    apply quadSelect_keep
    exact h0
  · exact h_s

theorem execReadState_keep {s0 : State} (n : Nat) (s : State) (h_s : Keep s0 s) :
    KeepO s0 (execReadState n s) := by
  unfold execReadState
  refine KeepO.next ?_
  apply access_keep
  · intro a0 h0
    apply returned_keep
    refine keep_pair2 ?_
    apply quadSelect_keep
    exact h0
  · exact h_s

theorem execBulkRead_keep {s0 : State} (n : Nat) (s : State) (h_s : Keep s0 s) :
    KeepO s0 (execBulkRead n s) := by
  unfold execBulkRead
  refine KeepO.next ?_
  apply access_keep
  · intro a0 h0
    apply returned_keep
    apply readPort_keep
    apply quadSelect_keep
    exact h0
  · exact h_s

theorem execCsAbort_keep {s0 : State} (s : State) (h_s : Keep s0 s) :
    KeepO s0 (execCsAbort s) := by
  unfold execCsAbort
  refine KeepO.next ?_
  apply access_keep
  · intro a0 h0
    apply protoEvent_keep
    refine keep_mk rfl rfl rfl rfl ?_
    exact h0
  · exact h_s

theorem execBadInstr_keep {s0 : State} (code : Byte) (s : State) (h_s : Keep s0 s) :
    KeepO s0 (execBadInstr code s) := by
  unfold execBadInstr
  refine KeepO.next ?_
  apply access_keep
  · intro a0 h0
    refine keep_ite ?_ ?_
    · exact h0
    · apply protoEvent_keep
      extract_lets +onlyGivenNames x0
      refine keep_bind (s0 := s0) x0 ?_ (fun h1 => ?_)
      · unfold x0; clear x0
        apply quadSelect_keep
        exact h0
      · clear_value x0
        refine keep_mk rfl rfl rfl rfl ?_
        exact h1
  · exact h_s

theorem execCsnExitRequest_keep {s0 : State} (s : State) (h_s : Keep s0 s) :
    KeepO s0 (execCsnExitRequest s) := by
  unfold execCsnExitRequest
  refine KeepO.next ?_
  apply exitRequest_keep
  exact h_s

end Sys2Proof.Machine
end

