-- ==== Sys2Proof/Laws/State.lean ====
section
/-! SUPPORT. What each named update of State leaves alone: one lemma for each of its fields, so that no proof unfolds a
record update. -/
namespace Sys2Proof.Machine

open Sys2Proof

theorem foldl_keeps {α β : Type} (g : State → β) (f : State → α → State) (h : ∀ s a, g (f s a) = g s) (l : List α) (s : State) :
    g (l.foldl f s) = g s := by
  induction l generalizing s with
  | nil => rfl
  | cons a l ih => rw [List.foldl_cons, ih, h]

@[simp] theorem setShw_active (a : Nat) (w : Word) (s : State) : (setShw a w s).active = s.active := rfl
@[simp] theorem setShw_gram (a : Nat) (w : Word) (s : State) : (setShw a w s).gram = s.gram := rfl
@[simp] theorem setShw_sys (a : Nat) (w : Word) (s : State) : (setShw a w s).sys = s.sys := rfl
@[simp] theorem setShw_safe (a : Nat) (w : Word) (s : State) : (setShw a w s).safe = s.safe := rfl
@[simp] theorem setShw_hif (a : Nat) (w : Word) (s : State) : (setShw a w s).hif = s.hif := rfl
@[simp] theorem setShw_sec (a : Nat) (w : Word) (s : State) : (setShw a w s).sec = s.sec := rfl
@[simp] theorem setShw_nvm (a : Nat) (w : Word) (s : State) : (setShw a w s).nvm = s.nvm := rfl
@[simp] theorem setShw_flt (a : Nat) (w : Word) (s : State) : (setShw a w s).flt = s.flt := rfl
@[simp] theorem setShw_snuff (a : Nat) (w : Word) (s : State) : (setShw a w s).snuff = s.snuff := rfl
@[simp] theorem setShw_snuffDue (a : Nat) (w : Word) (s : State) : (setShw a w s).snuffDue = s.snuffDue := rfl
@[simp] theorem setShw_snuffOff (a : Nat) (w : Word) (s : State) : (setShw a w s).snuffOff = s.snuffOff := rfl
@[simp] theorem setShw_snuffWrite (a : Nat) (w : Word) (s : State) : (setShw a w s).snuffWrite = s.snuffWrite := rfl
@[simp] theorem setShw_grid (a : Nat) (w : Word) (s : State) : (setShw a w s).grid = s.grid := rfl
@[simp] theorem setShw_tch (a : Nat) (w : Word) (s : State) : (setShw a w s).tch = s.tch := rfl
@[simp] theorem setShw_carr (a : Nat) (w : Word) (s : State) : (setShw a w s).carr = s.carr := rfl
@[simp] theorem setShw_brdg (a : Nat) (w : Word) (s : State) : (setShw a w s).brdg = s.brdg := rfl
@[simp] theorem setShw_conv (a : Nat) (w : Word) (s : State) : (setShw a w s).conv = s.conv := rfl
@[simp] theorem setShw_time (a : Nat) (w : Word) (s : State) : (setShw a w s).time = s.time := rfl
@[simp] theorem setShw_link (a : Nat) (w : Word) (s : State) : (setShw a w s).link = s.link := rfl
@[simp] theorem setShw_res (a : Nat) (w : Word) (s : State) : (setShw a w s).res = s.res := rfl
@[simp] theorem setShw_hkp (a : Nat) (w : Word) (s : State) : (setShw a w s).hkp = s.hkp := rfl
@[simp] theorem setShw_eng (a : Nat) (w : Word) (s : State) : (setShw a w s).eng = s.eng := rfl
@[simp] theorem setShw_freeCtr (a : Nat) (w : Word) (s : State) : (setShw a w s).freeCtr = s.freeCtr := rfl
@[simp] theorem setShw_pending (a : Nat) (w : Word) (s : State) : (setShw a w s).pending = s.pending := rfl

@[simp] theorem setAcw_shadow (a : Nat) (w : Word) (s : State) : (setAcw a w s).shadow = s.shadow := rfl
@[simp] theorem setAcw_gram (a : Nat) (w : Word) (s : State) : (setAcw a w s).gram = s.gram := rfl
@[simp] theorem setAcw_sys (a : Nat) (w : Word) (s : State) : (setAcw a w s).sys = s.sys := rfl
@[simp] theorem setAcw_safe (a : Nat) (w : Word) (s : State) : (setAcw a w s).safe = s.safe := rfl
@[simp] theorem setAcw_hif (a : Nat) (w : Word) (s : State) : (setAcw a w s).hif = s.hif := rfl
@[simp] theorem setAcw_sec (a : Nat) (w : Word) (s : State) : (setAcw a w s).sec = s.sec := rfl
@[simp] theorem setAcw_nvm (a : Nat) (w : Word) (s : State) : (setAcw a w s).nvm = s.nvm := rfl
@[simp] theorem setAcw_flt (a : Nat) (w : Word) (s : State) : (setAcw a w s).flt = s.flt := rfl
@[simp] theorem setAcw_snuff (a : Nat) (w : Word) (s : State) : (setAcw a w s).snuff = s.snuff := rfl
@[simp] theorem setAcw_snuffDue (a : Nat) (w : Word) (s : State) : (setAcw a w s).snuffDue = s.snuffDue := rfl
@[simp] theorem setAcw_snuffOff (a : Nat) (w : Word) (s : State) : (setAcw a w s).snuffOff = s.snuffOff := rfl
@[simp] theorem setAcw_snuffWrite (a : Nat) (w : Word) (s : State) : (setAcw a w s).snuffWrite = s.snuffWrite := rfl
@[simp] theorem setAcw_grid (a : Nat) (w : Word) (s : State) : (setAcw a w s).grid = s.grid := rfl
@[simp] theorem setAcw_tch (a : Nat) (w : Word) (s : State) : (setAcw a w s).tch = s.tch := rfl
@[simp] theorem setAcw_carr (a : Nat) (w : Word) (s : State) : (setAcw a w s).carr = s.carr := rfl
@[simp] theorem setAcw_brdg (a : Nat) (w : Word) (s : State) : (setAcw a w s).brdg = s.brdg := rfl
@[simp] theorem setAcw_conv (a : Nat) (w : Word) (s : State) : (setAcw a w s).conv = s.conv := rfl
@[simp] theorem setAcw_time (a : Nat) (w : Word) (s : State) : (setAcw a w s).time = s.time := rfl
@[simp] theorem setAcw_link (a : Nat) (w : Word) (s : State) : (setAcw a w s).link = s.link := rfl
@[simp] theorem setAcw_res (a : Nat) (w : Word) (s : State) : (setAcw a w s).res = s.res := rfl
@[simp] theorem setAcw_hkp (a : Nat) (w : Word) (s : State) : (setAcw a w s).hkp = s.hkp := rfl
@[simp] theorem setAcw_eng (a : Nat) (w : Word) (s : State) : (setAcw a w s).eng = s.eng := rfl
@[simp] theorem setAcw_freeCtr (a : Nat) (w : Word) (s : State) : (setAcw a w s).freeCtr = s.freeCtr := rfl
@[simp] theorem setAcw_pending (a : Nat) (w : Word) (s : State) : (setAcw a w s).pending = s.pending := rfl

@[simp] theorem withShadow_active (f : RegFile) (s : State) : (withShadow f s).active = s.active := rfl
@[simp] theorem withShadow_gram (f : RegFile) (s : State) : (withShadow f s).gram = s.gram := rfl
@[simp] theorem withShadow_sys (f : RegFile) (s : State) : (withShadow f s).sys = s.sys := rfl
@[simp] theorem withShadow_safe (f : RegFile) (s : State) : (withShadow f s).safe = s.safe := rfl
@[simp] theorem withShadow_hif (f : RegFile) (s : State) : (withShadow f s).hif = s.hif := rfl
@[simp] theorem withShadow_sec (f : RegFile) (s : State) : (withShadow f s).sec = s.sec := rfl
@[simp] theorem withShadow_nvm (f : RegFile) (s : State) : (withShadow f s).nvm = s.nvm := rfl
@[simp] theorem withShadow_flt (f : RegFile) (s : State) : (withShadow f s).flt = s.flt := rfl
@[simp] theorem withShadow_snuff (f : RegFile) (s : State) : (withShadow f s).snuff = s.snuff := rfl
@[simp] theorem withShadow_snuffDue (f : RegFile) (s : State) : (withShadow f s).snuffDue = s.snuffDue := rfl
@[simp] theorem withShadow_snuffOff (f : RegFile) (s : State) : (withShadow f s).snuffOff = s.snuffOff := rfl
@[simp] theorem withShadow_snuffWrite (f : RegFile) (s : State) : (withShadow f s).snuffWrite = s.snuffWrite := rfl
@[simp] theorem withShadow_grid (f : RegFile) (s : State) : (withShadow f s).grid = s.grid := rfl
@[simp] theorem withShadow_tch (f : RegFile) (s : State) : (withShadow f s).tch = s.tch := rfl
@[simp] theorem withShadow_carr (f : RegFile) (s : State) : (withShadow f s).carr = s.carr := rfl
@[simp] theorem withShadow_brdg (f : RegFile) (s : State) : (withShadow f s).brdg = s.brdg := rfl
@[simp] theorem withShadow_conv (f : RegFile) (s : State) : (withShadow f s).conv = s.conv := rfl
@[simp] theorem withShadow_time (f : RegFile) (s : State) : (withShadow f s).time = s.time := rfl
@[simp] theorem withShadow_link (f : RegFile) (s : State) : (withShadow f s).link = s.link := rfl
@[simp] theorem withShadow_res (f : RegFile) (s : State) : (withShadow f s).res = s.res := rfl
@[simp] theorem withShadow_hkp (f : RegFile) (s : State) : (withShadow f s).hkp = s.hkp := rfl
@[simp] theorem withShadow_eng (f : RegFile) (s : State) : (withShadow f s).eng = s.eng := rfl
@[simp] theorem withShadow_freeCtr (f : RegFile) (s : State) : (withShadow f s).freeCtr = s.freeCtr := rfl
@[simp] theorem withShadow_pending (f : RegFile) (s : State) : (withShadow f s).pending = s.pending := rfl

@[simp] theorem applyRange_shadow (a b : Nat) (s : State) : (applyRange a b s).shadow = s.shadow := rfl
@[simp] theorem applyRange_gram (a b : Nat) (s : State) : (applyRange a b s).gram = s.gram := rfl
@[simp] theorem applyRange_sys (a b : Nat) (s : State) : (applyRange a b s).sys = s.sys := rfl
@[simp] theorem applyRange_safe (a b : Nat) (s : State) : (applyRange a b s).safe = s.safe := rfl
@[simp] theorem applyRange_hif (a b : Nat) (s : State) : (applyRange a b s).hif = s.hif := rfl
@[simp] theorem applyRange_sec (a b : Nat) (s : State) : (applyRange a b s).sec = s.sec := rfl
@[simp] theorem applyRange_nvm (a b : Nat) (s : State) : (applyRange a b s).nvm = s.nvm := rfl
@[simp] theorem applyRange_flt (a b : Nat) (s : State) : (applyRange a b s).flt = s.flt := rfl
@[simp] theorem applyRange_snuff (a b : Nat) (s : State) : (applyRange a b s).snuff = s.snuff := rfl
@[simp] theorem applyRange_snuffDue (a b : Nat) (s : State) : (applyRange a b s).snuffDue = s.snuffDue := rfl
@[simp] theorem applyRange_snuffOff (a b : Nat) (s : State) : (applyRange a b s).snuffOff = s.snuffOff := rfl
@[simp] theorem applyRange_snuffWrite (a b : Nat) (s : State) : (applyRange a b s).snuffWrite = s.snuffWrite := rfl
@[simp] theorem applyRange_grid (a b : Nat) (s : State) : (applyRange a b s).grid = s.grid := rfl
@[simp] theorem applyRange_tch (a b : Nat) (s : State) : (applyRange a b s).tch = s.tch := rfl
@[simp] theorem applyRange_carr (a b : Nat) (s : State) : (applyRange a b s).carr = s.carr := rfl
@[simp] theorem applyRange_brdg (a b : Nat) (s : State) : (applyRange a b s).brdg = s.brdg := rfl
@[simp] theorem applyRange_conv (a b : Nat) (s : State) : (applyRange a b s).conv = s.conv := rfl
@[simp] theorem applyRange_time (a b : Nat) (s : State) : (applyRange a b s).time = s.time := rfl
@[simp] theorem applyRange_link (a b : Nat) (s : State) : (applyRange a b s).link = s.link := rfl
@[simp] theorem applyRange_res (a b : Nat) (s : State) : (applyRange a b s).res = s.res := rfl
@[simp] theorem applyRange_hkp (a b : Nat) (s : State) : (applyRange a b s).hkp = s.hkp := rfl
@[simp] theorem applyRange_eng (a b : Nat) (s : State) : (applyRange a b s).eng = s.eng := rfl
@[simp] theorem applyRange_freeCtr (a b : Nat) (s : State) : (applyRange a b s).freeCtr = s.freeCtr := rfl
@[simp] theorem applyRange_pending (a b : Nat) (s : State) : (applyRange a b s).pending = s.pending := rfl

@[simp] theorem applyBlock_shadow (b : Nat) (s : State) : (applyBlock b s).shadow = s.shadow := rfl
@[simp] theorem applyBlock_gram (b : Nat) (s : State) : (applyBlock b s).gram = s.gram := rfl
@[simp] theorem applyBlock_sys (b : Nat) (s : State) : (applyBlock b s).sys = s.sys := rfl
@[simp] theorem applyBlock_safe (b : Nat) (s : State) : (applyBlock b s).safe = s.safe := rfl
@[simp] theorem applyBlock_hif (b : Nat) (s : State) : (applyBlock b s).hif = s.hif := rfl
@[simp] theorem applyBlock_sec (b : Nat) (s : State) : (applyBlock b s).sec = s.sec := rfl
@[simp] theorem applyBlock_nvm (b : Nat) (s : State) : (applyBlock b s).nvm = s.nvm := rfl
@[simp] theorem applyBlock_flt (b : Nat) (s : State) : (applyBlock b s).flt = s.flt := rfl
@[simp] theorem applyBlock_snuff (b : Nat) (s : State) : (applyBlock b s).snuff = s.snuff := rfl
@[simp] theorem applyBlock_snuffDue (b : Nat) (s : State) : (applyBlock b s).snuffDue = s.snuffDue := rfl
@[simp] theorem applyBlock_snuffOff (b : Nat) (s : State) : (applyBlock b s).snuffOff = s.snuffOff := rfl
@[simp] theorem applyBlock_snuffWrite (b : Nat) (s : State) : (applyBlock b s).snuffWrite = s.snuffWrite := rfl
@[simp] theorem applyBlock_grid (b : Nat) (s : State) : (applyBlock b s).grid = s.grid := rfl
@[simp] theorem applyBlock_tch (b : Nat) (s : State) : (applyBlock b s).tch = s.tch := rfl
@[simp] theorem applyBlock_carr (b : Nat) (s : State) : (applyBlock b s).carr = s.carr := rfl
@[simp] theorem applyBlock_brdg (b : Nat) (s : State) : (applyBlock b s).brdg = s.brdg := rfl
@[simp] theorem applyBlock_conv (b : Nat) (s : State) : (applyBlock b s).conv = s.conv := rfl
@[simp] theorem applyBlock_time (b : Nat) (s : State) : (applyBlock b s).time = s.time := rfl
@[simp] theorem applyBlock_link (b : Nat) (s : State) : (applyBlock b s).link = s.link := rfl
@[simp] theorem applyBlock_res (b : Nat) (s : State) : (applyBlock b s).res = s.res := rfl
@[simp] theorem applyBlock_hkp (b : Nat) (s : State) : (applyBlock b s).hkp = s.hkp := rfl
@[simp] theorem applyBlock_eng (b : Nat) (s : State) : (applyBlock b s).eng = s.eng := rfl
@[simp] theorem applyBlock_freeCtr (b : Nat) (s : State) : (applyBlock b s).freeCtr = s.freeCtr := rfl
@[simp] theorem applyBlock_pending (b : Nat) (s : State) : (applyBlock b s).pending = s.pending := rfl

@[simp] theorem edgeLine_shadow (n : Nat) (s : State) : (edgeLine n s).shadow = s.shadow := rfl
@[simp] theorem edgeLine_active (n : Nat) (s : State) : (edgeLine n s).active = s.active := rfl
@[simp] theorem edgeLine_gram (n : Nat) (s : State) : (edgeLine n s).gram = s.gram := rfl
@[simp] theorem edgeLine_sys (n : Nat) (s : State) : (edgeLine n s).sys = s.sys := rfl
@[simp] theorem edgeLine_safe (n : Nat) (s : State) : (edgeLine n s).safe = s.safe := rfl
@[simp] theorem edgeLine_hif (n : Nat) (s : State) : (edgeLine n s).hif = s.hif := rfl
@[simp] theorem edgeLine_sec (n : Nat) (s : State) : (edgeLine n s).sec = s.sec := rfl
@[simp] theorem edgeLine_nvm (n : Nat) (s : State) : (edgeLine n s).nvm = s.nvm := rfl
@[simp] theorem edgeLine_flt (n : Nat) (s : State) : (edgeLine n s).flt = s.flt := rfl
@[simp] theorem edgeLine_snuff (n : Nat) (s : State) : (edgeLine n s).snuff = s.snuff := rfl
@[simp] theorem edgeLine_snuffDue (n : Nat) (s : State) : (edgeLine n s).snuffDue = s.snuffDue := rfl
@[simp] theorem edgeLine_snuffOff (n : Nat) (s : State) : (edgeLine n s).snuffOff = s.snuffOff := rfl
@[simp] theorem edgeLine_snuffWrite (n : Nat) (s : State) : (edgeLine n s).snuffWrite = s.snuffWrite := rfl
@[simp] theorem edgeLine_grid (n : Nat) (s : State) : (edgeLine n s).grid = s.grid := rfl
@[simp] theorem edgeLine_tch (n : Nat) (s : State) : (edgeLine n s).tch = s.tch := rfl
@[simp] theorem edgeLine_carr (n : Nat) (s : State) : (edgeLine n s).carr = s.carr := rfl
@[simp] theorem edgeLine_brdg (n : Nat) (s : State) : (edgeLine n s).brdg = s.brdg := rfl
@[simp] theorem edgeLine_conv (n : Nat) (s : State) : (edgeLine n s).conv = s.conv := rfl
@[simp] theorem edgeLine_time (n : Nat) (s : State) : (edgeLine n s).time = s.time := rfl
@[simp] theorem edgeLine_link (n : Nat) (s : State) : (edgeLine n s).link = s.link := rfl
@[simp] theorem edgeLine_res (n : Nat) (s : State) : (edgeLine n s).res = s.res := rfl
@[simp] theorem edgeLine_hkp (n : Nat) (s : State) : (edgeLine n s).hkp = s.hkp := rfl
@[simp] theorem edgeLine_freeCtr (n : Nat) (s : State) : (edgeLine n s).freeCtr = s.freeCtr := rfl
@[simp] theorem edgeLine_pending (n : Nat) (s : State) : (edgeLine n s).pending = s.pending := rfl

@[simp] theorem journalRaise_shadow (r o e k : Byte) (d : List Byte) (s : State) : (journalRaise r o e k d s).shadow = s.shadow := rfl
@[simp] theorem journalRaise_active (r o e k : Byte) (d : List Byte) (s : State) : (journalRaise r o e k d s).active = s.active := rfl
@[simp] theorem journalRaise_gram (r o e k : Byte) (d : List Byte) (s : State) : (journalRaise r o e k d s).gram = s.gram := rfl
@[simp] theorem journalRaise_sys (r o e k : Byte) (d : List Byte) (s : State) : (journalRaise r o e k d s).sys = s.sys := rfl
@[simp] theorem journalRaise_safe (r o e k : Byte) (d : List Byte) (s : State) : (journalRaise r o e k d s).safe = s.safe := rfl
@[simp] theorem journalRaise_hif (r o e k : Byte) (d : List Byte) (s : State) : (journalRaise r o e k d s).hif = s.hif := rfl
@[simp] theorem journalRaise_nvm (r o e k : Byte) (d : List Byte) (s : State) : (journalRaise r o e k d s).nvm = s.nvm := rfl
@[simp] theorem journalRaise_flt (r o e k : Byte) (d : List Byte) (s : State) : (journalRaise r o e k d s).flt = s.flt := rfl
@[simp] theorem journalRaise_snuff (r o e k : Byte) (d : List Byte) (s : State) : (journalRaise r o e k d s).snuff = s.snuff := rfl
@[simp] theorem journalRaise_snuffDue (r o e k : Byte) (d : List Byte) (s : State) : (journalRaise r o e k d s).snuffDue = s.snuffDue := rfl
@[simp] theorem journalRaise_snuffOff (r o e k : Byte) (d : List Byte) (s : State) : (journalRaise r o e k d s).snuffOff = s.snuffOff := rfl
@[simp] theorem journalRaise_snuffWrite (r o e k : Byte) (d : List Byte) (s : State) : (journalRaise r o e k d s).snuffWrite = s.snuffWrite := rfl
@[simp] theorem journalRaise_grid (r o e k : Byte) (d : List Byte) (s : State) : (journalRaise r o e k d s).grid = s.grid := rfl
@[simp] theorem journalRaise_tch (r o e k : Byte) (d : List Byte) (s : State) : (journalRaise r o e k d s).tch = s.tch := rfl
@[simp] theorem journalRaise_carr (r o e k : Byte) (d : List Byte) (s : State) : (journalRaise r o e k d s).carr = s.carr := rfl
@[simp] theorem journalRaise_brdg (r o e k : Byte) (d : List Byte) (s : State) : (journalRaise r o e k d s).brdg = s.brdg := rfl
@[simp] theorem journalRaise_conv (r o e k : Byte) (d : List Byte) (s : State) : (journalRaise r o e k d s).conv = s.conv := rfl
@[simp] theorem journalRaise_time (r o e k : Byte) (d : List Byte) (s : State) : (journalRaise r o e k d s).time = s.time := rfl
@[simp] theorem journalRaise_link (r o e k : Byte) (d : List Byte) (s : State) : (journalRaise r o e k d s).link = s.link := rfl
@[simp] theorem journalRaise_res (r o e k : Byte) (d : List Byte) (s : State) : (journalRaise r o e k d s).res = s.res := rfl
@[simp] theorem journalRaise_hkp (r o e k : Byte) (d : List Byte) (s : State) : (journalRaise r o e k d s).hkp = s.hkp := rfl
@[simp] theorem journalRaise_eng (r o e k : Byte) (d : List Byte) (s : State) : (journalRaise r o e k d s).eng = s.eng := rfl
@[simp] theorem journalRaise_freeCtr (r o e k : Byte) (d : List Byte) (s : State) : (journalRaise r o e k d s).freeCtr = s.freeCtr := rfl
@[simp] theorem journalRaise_pending (r o e k : Byte) (d : List Byte) (s : State) : (journalRaise r o e k d s).pending = s.pending := rfl

@[simp] theorem sendOn_shadow (n : Fin 4) (f : Frame) (s : State) : (sendOn n f s).shadow = s.shadow := rfl
@[simp] theorem sendOn_active (n : Fin 4) (f : Frame) (s : State) : (sendOn n f s).active = s.active := rfl
@[simp] theorem sendOn_gram (n : Fin 4) (f : Frame) (s : State) : (sendOn n f s).gram = s.gram := rfl
@[simp] theorem sendOn_sys (n : Fin 4) (f : Frame) (s : State) : (sendOn n f s).sys = s.sys := rfl
@[simp] theorem sendOn_safe (n : Fin 4) (f : Frame) (s : State) : (sendOn n f s).safe = s.safe := rfl
@[simp] theorem sendOn_hif (n : Fin 4) (f : Frame) (s : State) : (sendOn n f s).hif = s.hif := rfl
@[simp] theorem sendOn_sec (n : Fin 4) (f : Frame) (s : State) : (sendOn n f s).sec = s.sec := rfl
@[simp] theorem sendOn_nvm (n : Fin 4) (f : Frame) (s : State) : (sendOn n f s).nvm = s.nvm := rfl
@[simp] theorem sendOn_flt (n : Fin 4) (f : Frame) (s : State) : (sendOn n f s).flt = s.flt := rfl
@[simp] theorem sendOn_snuff (n : Fin 4) (f : Frame) (s : State) : (sendOn n f s).snuff = s.snuff := rfl
@[simp] theorem sendOn_snuffDue (n : Fin 4) (f : Frame) (s : State) : (sendOn n f s).snuffDue = s.snuffDue := rfl
@[simp] theorem sendOn_snuffOff (n : Fin 4) (f : Frame) (s : State) : (sendOn n f s).snuffOff = s.snuffOff := rfl
@[simp] theorem sendOn_snuffWrite (n : Fin 4) (f : Frame) (s : State) : (sendOn n f s).snuffWrite = s.snuffWrite := rfl
@[simp] theorem sendOn_grid (n : Fin 4) (f : Frame) (s : State) : (sendOn n f s).grid = s.grid := rfl
@[simp] theorem sendOn_tch (n : Fin 4) (f : Frame) (s : State) : (sendOn n f s).tch = s.tch := rfl
@[simp] theorem sendOn_carr (n : Fin 4) (f : Frame) (s : State) : (sendOn n f s).carr = s.carr := rfl
@[simp] theorem sendOn_brdg (n : Fin 4) (f : Frame) (s : State) : (sendOn n f s).brdg = s.brdg := rfl
@[simp] theorem sendOn_conv (n : Fin 4) (f : Frame) (s : State) : (sendOn n f s).conv = s.conv := rfl
@[simp] theorem sendOn_time (n : Fin 4) (f : Frame) (s : State) : (sendOn n f s).time = s.time := rfl
@[simp] theorem sendOn_res (n : Fin 4) (f : Frame) (s : State) : (sendOn n f s).res = s.res := rfl
@[simp] theorem sendOn_hkp (n : Fin 4) (f : Frame) (s : State) : (sendOn n f s).hkp = s.hkp := rfl
@[simp] theorem sendOn_eng (n : Fin 4) (f : Frame) (s : State) : (sendOn n f s).eng = s.eng := rfl
@[simp] theorem sendOn_freeCtr (n : Fin 4) (f : Frame) (s : State) : (sendOn n f s).freeCtr = s.freeCtr := rfl
@[simp] theorem sendOn_pending (n : Fin 4) (f : Frame) (s : State) : (sendOn n f s).pending = s.pending := rfl

@[simp] theorem modPort_shadow (i : Iface) (f : HostPort → HostPort) (s : State) : (modPort i f s).shadow = s.shadow := by cases i <;> rfl
@[simp] theorem modPort_active (i : Iface) (f : HostPort → HostPort) (s : State) : (modPort i f s).active = s.active := by cases i <;> rfl
@[simp] theorem modPort_gram (i : Iface) (f : HostPort → HostPort) (s : State) : (modPort i f s).gram = s.gram := by cases i <;> rfl
@[simp] theorem modPort_sys (i : Iface) (f : HostPort → HostPort) (s : State) : (modPort i f s).sys = s.sys := by cases i <;> rfl
@[simp] theorem modPort_safe (i : Iface) (f : HostPort → HostPort) (s : State) : (modPort i f s).safe = s.safe := by cases i <;> rfl
@[simp] theorem modPort_sec (i : Iface) (f : HostPort → HostPort) (s : State) : (modPort i f s).sec = s.sec := by cases i <;> rfl
@[simp] theorem modPort_nvm (i : Iface) (f : HostPort → HostPort) (s : State) : (modPort i f s).nvm = s.nvm := by cases i <;> rfl
@[simp] theorem modPort_flt (i : Iface) (f : HostPort → HostPort) (s : State) : (modPort i f s).flt = s.flt := by cases i <;> rfl
@[simp] theorem modPort_snuff (i : Iface) (f : HostPort → HostPort) (s : State) : (modPort i f s).snuff = s.snuff := by cases i <;> rfl
@[simp] theorem modPort_snuffDue (i : Iface) (f : HostPort → HostPort) (s : State) : (modPort i f s).snuffDue = s.snuffDue := by cases i <;> rfl
@[simp] theorem modPort_snuffOff (i : Iface) (f : HostPort → HostPort) (s : State) : (modPort i f s).snuffOff = s.snuffOff := by cases i <;> rfl
@[simp] theorem modPort_snuffWrite (i : Iface) (f : HostPort → HostPort) (s : State) : (modPort i f s).snuffWrite = s.snuffWrite := by cases i <;> rfl
@[simp] theorem modPort_grid (i : Iface) (f : HostPort → HostPort) (s : State) : (modPort i f s).grid = s.grid := by cases i <;> rfl
@[simp] theorem modPort_tch (i : Iface) (f : HostPort → HostPort) (s : State) : (modPort i f s).tch = s.tch := by cases i <;> rfl
@[simp] theorem modPort_carr (i : Iface) (f : HostPort → HostPort) (s : State) : (modPort i f s).carr = s.carr := by cases i <;> rfl
@[simp] theorem modPort_brdg (i : Iface) (f : HostPort → HostPort) (s : State) : (modPort i f s).brdg = s.brdg := by cases i <;> rfl
@[simp] theorem modPort_conv (i : Iface) (f : HostPort → HostPort) (s : State) : (modPort i f s).conv = s.conv := by cases i <;> rfl
@[simp] theorem modPort_time (i : Iface) (f : HostPort → HostPort) (s : State) : (modPort i f s).time = s.time := by cases i <;> rfl
@[simp] theorem modPort_link (i : Iface) (f : HostPort → HostPort) (s : State) : (modPort i f s).link = s.link := by cases i <;> rfl
@[simp] theorem modPort_res (i : Iface) (f : HostPort → HostPort) (s : State) : (modPort i f s).res = s.res := by cases i <;> rfl
@[simp] theorem modPort_hkp (i : Iface) (f : HostPort → HostPort) (s : State) : (modPort i f s).hkp = s.hkp := by cases i <;> rfl
@[simp] theorem modPort_eng (i : Iface) (f : HostPort → HostPort) (s : State) : (modPort i f s).eng = s.eng := by cases i <;> rfl
@[simp] theorem modPort_freeCtr (i : Iface) (f : HostPort → HostPort) (s : State) : (modPort i f s).freeCtr = s.freeCtr := by cases i <;> rfl
@[simp] theorem modPort_pending (i : Iface) (f : HostPort → HostPort) (s : State) : (modPort i f s).pending = s.pending := by cases i <;> rfl

@[simp] theorem queueReply_shadow (i : Iface) (r : Reply) (s : State) : (queueReply i r s).shadow = s.shadow := by cases i <;> rfl
@[simp] theorem queueReply_active (i : Iface) (r : Reply) (s : State) : (queueReply i r s).active = s.active := by cases i <;> rfl
@[simp] theorem queueReply_gram (i : Iface) (r : Reply) (s : State) : (queueReply i r s).gram = s.gram := by cases i <;> rfl
@[simp] theorem queueReply_sys (i : Iface) (r : Reply) (s : State) : (queueReply i r s).sys = s.sys := by cases i <;> rfl
@[simp] theorem queueReply_safe (i : Iface) (r : Reply) (s : State) : (queueReply i r s).safe = s.safe := by cases i <;> rfl
@[simp] theorem queueReply_sec (i : Iface) (r : Reply) (s : State) : (queueReply i r s).sec = s.sec := by cases i <;> rfl
@[simp] theorem queueReply_nvm (i : Iface) (r : Reply) (s : State) : (queueReply i r s).nvm = s.nvm := by cases i <;> rfl
@[simp] theorem queueReply_flt (i : Iface) (r : Reply) (s : State) : (queueReply i r s).flt = s.flt := by cases i <;> rfl
@[simp] theorem queueReply_snuff (i : Iface) (r : Reply) (s : State) : (queueReply i r s).snuff = s.snuff := by cases i <;> rfl
@[simp] theorem queueReply_snuffDue (i : Iface) (r : Reply) (s : State) : (queueReply i r s).snuffDue = s.snuffDue := by cases i <;> rfl
@[simp] theorem queueReply_snuffOff (i : Iface) (r : Reply) (s : State) : (queueReply i r s).snuffOff = s.snuffOff := by cases i <;> rfl
@[simp] theorem queueReply_snuffWrite (i : Iface) (r : Reply) (s : State) : (queueReply i r s).snuffWrite = s.snuffWrite := by cases i <;> rfl
@[simp] theorem queueReply_grid (i : Iface) (r : Reply) (s : State) : (queueReply i r s).grid = s.grid := by cases i <;> rfl
@[simp] theorem queueReply_tch (i : Iface) (r : Reply) (s : State) : (queueReply i r s).tch = s.tch := by cases i <;> rfl
@[simp] theorem queueReply_carr (i : Iface) (r : Reply) (s : State) : (queueReply i r s).carr = s.carr := by cases i <;> rfl
@[simp] theorem queueReply_brdg (i : Iface) (r : Reply) (s : State) : (queueReply i r s).brdg = s.brdg := by cases i <;> rfl
@[simp] theorem queueReply_conv (i : Iface) (r : Reply) (s : State) : (queueReply i r s).conv = s.conv := by cases i <;> rfl
@[simp] theorem queueReply_time (i : Iface) (r : Reply) (s : State) : (queueReply i r s).time = s.time := by cases i <;> rfl
@[simp] theorem queueReply_link (i : Iface) (r : Reply) (s : State) : (queueReply i r s).link = s.link := by cases i <;> rfl
@[simp] theorem queueReply_res (i : Iface) (r : Reply) (s : State) : (queueReply i r s).res = s.res := by cases i <;> rfl
@[simp] theorem queueReply_hkp (i : Iface) (r : Reply) (s : State) : (queueReply i r s).hkp = s.hkp := by cases i <;> rfl
@[simp] theorem queueReply_eng (i : Iface) (r : Reply) (s : State) : (queueReply i r s).eng = s.eng := by cases i <;> rfl
@[simp] theorem queueReply_freeCtr (i : Iface) (r : Reply) (s : State) : (queueReply i r s).freeCtr = s.freeCtr := by cases i <;> rfl
@[simp] theorem queueReply_pending (i : Iface) (r : Reply) (s : State) : (queueReply i r s).pending = s.pending := by cases i <;> rfl

@[simp] theorem protoCount_shadow (i : Iface) (s : State) : (protoCount i s).shadow = s.shadow := by cases i <;> rfl
@[simp] theorem protoCount_active (i : Iface) (s : State) : (protoCount i s).active = s.active := by cases i <;> rfl
@[simp] theorem protoCount_gram (i : Iface) (s : State) : (protoCount i s).gram = s.gram := by cases i <;> rfl
@[simp] theorem protoCount_sys (i : Iface) (s : State) : (protoCount i s).sys = s.sys := by cases i <;> rfl
@[simp] theorem protoCount_safe (i : Iface) (s : State) : (protoCount i s).safe = s.safe := by cases i <;> rfl
@[simp] theorem protoCount_sec (i : Iface) (s : State) : (protoCount i s).sec = s.sec := by cases i <;> rfl
@[simp] theorem protoCount_nvm (i : Iface) (s : State) : (protoCount i s).nvm = s.nvm := by cases i <;> rfl
@[simp] theorem protoCount_flt (i : Iface) (s : State) : (protoCount i s).flt = s.flt := by cases i <;> rfl
@[simp] theorem protoCount_snuff (i : Iface) (s : State) : (protoCount i s).snuff = s.snuff := by cases i <;> rfl
@[simp] theorem protoCount_snuffDue (i : Iface) (s : State) : (protoCount i s).snuffDue = s.snuffDue := by cases i <;> rfl
@[simp] theorem protoCount_snuffOff (i : Iface) (s : State) : (protoCount i s).snuffOff = s.snuffOff := by cases i <;> rfl
@[simp] theorem protoCount_snuffWrite (i : Iface) (s : State) : (protoCount i s).snuffWrite = s.snuffWrite := by cases i <;> rfl
@[simp] theorem protoCount_grid (i : Iface) (s : State) : (protoCount i s).grid = s.grid := by cases i <;> rfl
@[simp] theorem protoCount_tch (i : Iface) (s : State) : (protoCount i s).tch = s.tch := by cases i <;> rfl
@[simp] theorem protoCount_carr (i : Iface) (s : State) : (protoCount i s).carr = s.carr := by cases i <;> rfl
@[simp] theorem protoCount_brdg (i : Iface) (s : State) : (protoCount i s).brdg = s.brdg := by cases i <;> rfl
@[simp] theorem protoCount_conv (i : Iface) (s : State) : (protoCount i s).conv = s.conv := by cases i <;> rfl
@[simp] theorem protoCount_time (i : Iface) (s : State) : (protoCount i s).time = s.time := by cases i <;> rfl
@[simp] theorem protoCount_link (i : Iface) (s : State) : (protoCount i s).link = s.link := by cases i <;> rfl
@[simp] theorem protoCount_res (i : Iface) (s : State) : (protoCount i s).res = s.res := by cases i <;> rfl
@[simp] theorem protoCount_hkp (i : Iface) (s : State) : (protoCount i s).hkp = s.hkp := by cases i <;> rfl
@[simp] theorem protoCount_eng (i : Iface) (s : State) : (protoCount i s).eng = s.eng := by cases i <;> rfl
@[simp] theorem protoCount_freeCtr (i : Iface) (s : State) : (protoCount i s).freeCtr = s.freeCtr := by cases i <;> rfl
@[simp] theorem protoCount_pending (i : Iface) (s : State) : (protoCount i s).pending = s.pending := by cases i <;> rfl

@[simp] theorem setLatch_shadow (i : Iface) (l : Option (Nat × List Byte)) (s : State) : (setLatch i l s).shadow = s.shadow := by cases i <;> rfl
@[simp] theorem setLatch_active (i : Iface) (l : Option (Nat × List Byte)) (s : State) : (setLatch i l s).active = s.active := by cases i <;> rfl
@[simp] theorem setLatch_gram (i : Iface) (l : Option (Nat × List Byte)) (s : State) : (setLatch i l s).gram = s.gram := by cases i <;> rfl
@[simp] theorem setLatch_sys (i : Iface) (l : Option (Nat × List Byte)) (s : State) : (setLatch i l s).sys = s.sys := by cases i <;> rfl
@[simp] theorem setLatch_safe (i : Iface) (l : Option (Nat × List Byte)) (s : State) : (setLatch i l s).safe = s.safe := by cases i <;> rfl
@[simp] theorem setLatch_sec (i : Iface) (l : Option (Nat × List Byte)) (s : State) : (setLatch i l s).sec = s.sec := by cases i <;> rfl
@[simp] theorem setLatch_nvm (i : Iface) (l : Option (Nat × List Byte)) (s : State) : (setLatch i l s).nvm = s.nvm := by cases i <;> rfl
@[simp] theorem setLatch_flt (i : Iface) (l : Option (Nat × List Byte)) (s : State) : (setLatch i l s).flt = s.flt := by cases i <;> rfl
@[simp] theorem setLatch_snuff (i : Iface) (l : Option (Nat × List Byte)) (s : State) : (setLatch i l s).snuff = s.snuff := by cases i <;> rfl
@[simp] theorem setLatch_snuffDue (i : Iface) (l : Option (Nat × List Byte)) (s : State) : (setLatch i l s).snuffDue = s.snuffDue := by cases i <;> rfl
@[simp] theorem setLatch_snuffOff (i : Iface) (l : Option (Nat × List Byte)) (s : State) : (setLatch i l s).snuffOff = s.snuffOff := by cases i <;> rfl
@[simp] theorem setLatch_snuffWrite (i : Iface) (l : Option (Nat × List Byte)) (s : State) : (setLatch i l s).snuffWrite = s.snuffWrite := by cases i <;> rfl
@[simp] theorem setLatch_grid (i : Iface) (l : Option (Nat × List Byte)) (s : State) : (setLatch i l s).grid = s.grid := by cases i <;> rfl
@[simp] theorem setLatch_tch (i : Iface) (l : Option (Nat × List Byte)) (s : State) : (setLatch i l s).tch = s.tch := by cases i <;> rfl
@[simp] theorem setLatch_carr (i : Iface) (l : Option (Nat × List Byte)) (s : State) : (setLatch i l s).carr = s.carr := by cases i <;> rfl
@[simp] theorem setLatch_brdg (i : Iface) (l : Option (Nat × List Byte)) (s : State) : (setLatch i l s).brdg = s.brdg := by cases i <;> rfl
@[simp] theorem setLatch_conv (i : Iface) (l : Option (Nat × List Byte)) (s : State) : (setLatch i l s).conv = s.conv := by cases i <;> rfl
@[simp] theorem setLatch_time (i : Iface) (l : Option (Nat × List Byte)) (s : State) : (setLatch i l s).time = s.time := by cases i <;> rfl
@[simp] theorem setLatch_link (i : Iface) (l : Option (Nat × List Byte)) (s : State) : (setLatch i l s).link = s.link := by cases i <;> rfl
@[simp] theorem setLatch_res (i : Iface) (l : Option (Nat × List Byte)) (s : State) : (setLatch i l s).res = s.res := by cases i <;> rfl
@[simp] theorem setLatch_hkp (i : Iface) (l : Option (Nat × List Byte)) (s : State) : (setLatch i l s).hkp = s.hkp := by cases i <;> rfl
@[simp] theorem setLatch_eng (i : Iface) (l : Option (Nat × List Byte)) (s : State) : (setLatch i l s).eng = s.eng := by cases i <;> rfl
@[simp] theorem setLatch_freeCtr (i : Iface) (l : Option (Nat × List Byte)) (s : State) : (setLatch i l s).freeCtr = s.freeCtr := by cases i <;> rfl
@[simp] theorem setLatch_pending (i : Iface) (l : Option (Nat × List Byte)) (s : State) : (setLatch i l s).pending = s.pending := by cases i <;> rfl

@[simp] theorem modSession_shadow (k : Fin 6) (f : Session → Session) (s : State) : (modSession k f s).shadow = s.shadow := rfl
@[simp] theorem modSession_active (k : Fin 6) (f : Session → Session) (s : State) : (modSession k f s).active = s.active := rfl
@[simp] theorem modSession_gram (k : Fin 6) (f : Session → Session) (s : State) : (modSession k f s).gram = s.gram := rfl
@[simp] theorem modSession_sys (k : Fin 6) (f : Session → Session) (s : State) : (modSession k f s).sys = s.sys := rfl
@[simp] theorem modSession_safe (k : Fin 6) (f : Session → Session) (s : State) : (modSession k f s).safe = s.safe := rfl
@[simp] theorem modSession_hif (k : Fin 6) (f : Session → Session) (s : State) : (modSession k f s).hif = s.hif := rfl
@[simp] theorem modSession_nvm (k : Fin 6) (f : Session → Session) (s : State) : (modSession k f s).nvm = s.nvm := rfl
@[simp] theorem modSession_flt (k : Fin 6) (f : Session → Session) (s : State) : (modSession k f s).flt = s.flt := rfl
@[simp] theorem modSession_snuff (k : Fin 6) (f : Session → Session) (s : State) : (modSession k f s).snuff = s.snuff := rfl
@[simp] theorem modSession_snuffDue (k : Fin 6) (f : Session → Session) (s : State) : (modSession k f s).snuffDue = s.snuffDue := rfl
@[simp] theorem modSession_snuffOff (k : Fin 6) (f : Session → Session) (s : State) : (modSession k f s).snuffOff = s.snuffOff := rfl
@[simp] theorem modSession_snuffWrite (k : Fin 6) (f : Session → Session) (s : State) : (modSession k f s).snuffWrite = s.snuffWrite := rfl
@[simp] theorem modSession_grid (k : Fin 6) (f : Session → Session) (s : State) : (modSession k f s).grid = s.grid := rfl
@[simp] theorem modSession_tch (k : Fin 6) (f : Session → Session) (s : State) : (modSession k f s).tch = s.tch := rfl
@[simp] theorem modSession_carr (k : Fin 6) (f : Session → Session) (s : State) : (modSession k f s).carr = s.carr := rfl
@[simp] theorem modSession_brdg (k : Fin 6) (f : Session → Session) (s : State) : (modSession k f s).brdg = s.brdg := rfl
@[simp] theorem modSession_conv (k : Fin 6) (f : Session → Session) (s : State) : (modSession k f s).conv = s.conv := rfl
@[simp] theorem modSession_time (k : Fin 6) (f : Session → Session) (s : State) : (modSession k f s).time = s.time := rfl
@[simp] theorem modSession_link (k : Fin 6) (f : Session → Session) (s : State) : (modSession k f s).link = s.link := rfl
@[simp] theorem modSession_res (k : Fin 6) (f : Session → Session) (s : State) : (modSession k f s).res = s.res := rfl
@[simp] theorem modSession_hkp (k : Fin 6) (f : Session → Session) (s : State) : (modSession k f s).hkp = s.hkp := rfl
@[simp] theorem modSession_eng (k : Fin 6) (f : Session → Session) (s : State) : (modSession k f s).eng = s.eng := rfl
@[simp] theorem modSession_freeCtr (k : Fin 6) (f : Session → Session) (s : State) : (modSession k f s).freeCtr = s.freeCtr := rfl
@[simp] theorem modSession_pending (k : Fin 6) (f : Session → Session) (s : State) : (modSession k f s).pending = s.pending := rfl

@[simp] theorem commitHeld_shadow (m : ModeChange → Bool) (s : State) : (commitHeld m s).shadow = s.shadow := rfl
@[simp] theorem commitHeld_active (m : ModeChange → Bool) (s : State) : (commitHeld m s).active = s.active := rfl
@[simp] theorem commitHeld_gram (m : ModeChange → Bool) (s : State) : (commitHeld m s).gram = s.gram := rfl
@[simp] theorem commitHeld_sys (m : ModeChange → Bool) (s : State) : (commitHeld m s).sys = s.sys := rfl
@[simp] theorem commitHeld_safe (m : ModeChange → Bool) (s : State) : (commitHeld m s).safe = s.safe := rfl
@[simp] theorem commitHeld_hif (m : ModeChange → Bool) (s : State) : (commitHeld m s).hif = s.hif := rfl
@[simp] theorem commitHeld_sec (m : ModeChange → Bool) (s : State) : (commitHeld m s).sec = s.sec := rfl
@[simp] theorem commitHeld_nvm (m : ModeChange → Bool) (s : State) : (commitHeld m s).nvm = s.nvm := rfl
@[simp] theorem commitHeld_flt (m : ModeChange → Bool) (s : State) : (commitHeld m s).flt = s.flt := rfl
@[simp] theorem commitHeld_snuff (m : ModeChange → Bool) (s : State) : (commitHeld m s).snuff = s.snuff := rfl
@[simp] theorem commitHeld_snuffDue (m : ModeChange → Bool) (s : State) : (commitHeld m s).snuffDue = s.snuffDue := rfl
@[simp] theorem commitHeld_snuffOff (m : ModeChange → Bool) (s : State) : (commitHeld m s).snuffOff = s.snuffOff := rfl
@[simp] theorem commitHeld_snuffWrite (m : ModeChange → Bool) (s : State) : (commitHeld m s).snuffWrite = s.snuffWrite := rfl
@[simp] theorem commitHeld_grid (m : ModeChange → Bool) (s : State) : (commitHeld m s).grid = s.grid := rfl
@[simp] theorem commitHeld_tch (m : ModeChange → Bool) (s : State) : (commitHeld m s).tch = s.tch := rfl
@[simp] theorem commitHeld_carr (m : ModeChange → Bool) (s : State) : (commitHeld m s).carr = s.carr := rfl
@[simp] theorem commitHeld_brdg (m : ModeChange → Bool) (s : State) : (commitHeld m s).brdg = s.brdg := rfl
@[simp] theorem commitHeld_conv (m : ModeChange → Bool) (s : State) : (commitHeld m s).conv = s.conv := rfl
@[simp] theorem commitHeld_time (m : ModeChange → Bool) (s : State) : (commitHeld m s).time = s.time := rfl
@[simp] theorem commitHeld_res (m : ModeChange → Bool) (s : State) : (commitHeld m s).res = s.res := rfl
@[simp] theorem commitHeld_hkp (m : ModeChange → Bool) (s : State) : (commitHeld m s).hkp = s.hkp := rfl
@[simp] theorem commitHeld_eng (m : ModeChange → Bool) (s : State) : (commitHeld m s).eng = s.eng := rfl
@[simp] theorem commitHeld_freeCtr (m : ModeChange → Bool) (s : State) : (commitHeld m s).freeCtr = s.freeCtr := rfl
@[simp] theorem commitHeld_pending (m : ModeChange → Bool) (s : State) : (commitHeld m s).pending = s.pending := rfl

@[simp] theorem modEng_shadow (f : EngSt → EngSt) (s : State) : (modEng f s).shadow = s.shadow := rfl
@[simp] theorem modEng_active (f : EngSt → EngSt) (s : State) : (modEng f s).active = s.active := rfl
@[simp] theorem modEng_gram (f : EngSt → EngSt) (s : State) : (modEng f s).gram = s.gram := rfl
@[simp] theorem modEng_sys (f : EngSt → EngSt) (s : State) : (modEng f s).sys = s.sys := rfl
@[simp] theorem modEng_safe (f : EngSt → EngSt) (s : State) : (modEng f s).safe = s.safe := rfl
@[simp] theorem modEng_hif (f : EngSt → EngSt) (s : State) : (modEng f s).hif = s.hif := rfl
@[simp] theorem modEng_sec (f : EngSt → EngSt) (s : State) : (modEng f s).sec = s.sec := rfl
@[simp] theorem modEng_nvm (f : EngSt → EngSt) (s : State) : (modEng f s).nvm = s.nvm := rfl
@[simp] theorem modEng_flt (f : EngSt → EngSt) (s : State) : (modEng f s).flt = s.flt := rfl
@[simp] theorem modEng_snuff (f : EngSt → EngSt) (s : State) : (modEng f s).snuff = s.snuff := rfl
@[simp] theorem modEng_snuffDue (f : EngSt → EngSt) (s : State) : (modEng f s).snuffDue = s.snuffDue := rfl
@[simp] theorem modEng_snuffOff (f : EngSt → EngSt) (s : State) : (modEng f s).snuffOff = s.snuffOff := rfl
@[simp] theorem modEng_snuffWrite (f : EngSt → EngSt) (s : State) : (modEng f s).snuffWrite = s.snuffWrite := rfl
@[simp] theorem modEng_grid (f : EngSt → EngSt) (s : State) : (modEng f s).grid = s.grid := rfl
@[simp] theorem modEng_tch (f : EngSt → EngSt) (s : State) : (modEng f s).tch = s.tch := rfl
@[simp] theorem modEng_carr (f : EngSt → EngSt) (s : State) : (modEng f s).carr = s.carr := rfl
@[simp] theorem modEng_brdg (f : EngSt → EngSt) (s : State) : (modEng f s).brdg = s.brdg := rfl
@[simp] theorem modEng_conv (f : EngSt → EngSt) (s : State) : (modEng f s).conv = s.conv := rfl
@[simp] theorem modEng_time (f : EngSt → EngSt) (s : State) : (modEng f s).time = s.time := rfl
@[simp] theorem modEng_link (f : EngSt → EngSt) (s : State) : (modEng f s).link = s.link := rfl
@[simp] theorem modEng_res (f : EngSt → EngSt) (s : State) : (modEng f s).res = s.res := rfl
@[simp] theorem modEng_hkp (f : EngSt → EngSt) (s : State) : (modEng f s).hkp = s.hkp := rfl
@[simp] theorem modEng_freeCtr (f : EngSt → EngSt) (s : State) : (modEng f s).freeCtr = s.freeCtr := rfl
@[simp] theorem modEng_pending (f : EngSt → EngSt) (s : State) : (modEng f s).pending = s.pending := rfl

@[simp] theorem spend_shadow (n : Nat) (s : State) : (spend n s).shadow = s.shadow := rfl
@[simp] theorem spend_active (n : Nat) (s : State) : (spend n s).active = s.active := rfl
@[simp] theorem spend_gram (n : Nat) (s : State) : (spend n s).gram = s.gram := rfl
@[simp] theorem spend_sys (n : Nat) (s : State) : (spend n s).sys = s.sys := rfl
@[simp] theorem spend_safe (n : Nat) (s : State) : (spend n s).safe = s.safe := rfl
@[simp] theorem spend_hif (n : Nat) (s : State) : (spend n s).hif = s.hif := rfl
@[simp] theorem spend_sec (n : Nat) (s : State) : (spend n s).sec = s.sec := rfl
@[simp] theorem spend_nvm (n : Nat) (s : State) : (spend n s).nvm = s.nvm := rfl
@[simp] theorem spend_flt (n : Nat) (s : State) : (spend n s).flt = s.flt := rfl
@[simp] theorem spend_snuff (n : Nat) (s : State) : (spend n s).snuff = s.snuff := rfl
@[simp] theorem spend_snuffDue (n : Nat) (s : State) : (spend n s).snuffDue = s.snuffDue := rfl
@[simp] theorem spend_snuffOff (n : Nat) (s : State) : (spend n s).snuffOff = s.snuffOff := rfl
@[simp] theorem spend_snuffWrite (n : Nat) (s : State) : (spend n s).snuffWrite = s.snuffWrite := rfl
@[simp] theorem spend_grid (n : Nat) (s : State) : (spend n s).grid = s.grid := rfl
@[simp] theorem spend_tch (n : Nat) (s : State) : (spend n s).tch = s.tch := rfl
@[simp] theorem spend_carr (n : Nat) (s : State) : (spend n s).carr = s.carr := rfl
@[simp] theorem spend_brdg (n : Nat) (s : State) : (spend n s).brdg = s.brdg := rfl
@[simp] theorem spend_conv (n : Nat) (s : State) : (spend n s).conv = s.conv := rfl
@[simp] theorem spend_time (n : Nat) (s : State) : (spend n s).time = s.time := rfl
@[simp] theorem spend_link (n : Nat) (s : State) : (spend n s).link = s.link := rfl
@[simp] theorem spend_res (n : Nat) (s : State) : (spend n s).res = s.res := rfl
@[simp] theorem spend_hkp (n : Nat) (s : State) : (spend n s).hkp = s.hkp := rfl
@[simp] theorem spend_freeCtr (n : Nat) (s : State) : (spend n s).freeCtr = s.freeCtr := rfl
@[simp] theorem spend_pending (n : Nat) (s : State) : (spend n s).pending = s.pending := rfl

@[simp] theorem modAp_shadow (n : Nat) (f : Aperture → Aperture) (s : State) : (modAp n f s).shadow = s.shadow := rfl
@[simp] theorem modAp_active (n : Nat) (f : Aperture → Aperture) (s : State) : (modAp n f s).active = s.active := rfl
@[simp] theorem modAp_gram (n : Nat) (f : Aperture → Aperture) (s : State) : (modAp n f s).gram = s.gram := rfl
@[simp] theorem modAp_sys (n : Nat) (f : Aperture → Aperture) (s : State) : (modAp n f s).sys = s.sys := rfl
@[simp] theorem modAp_safe (n : Nat) (f : Aperture → Aperture) (s : State) : (modAp n f s).safe = s.safe := rfl
@[simp] theorem modAp_hif (n : Nat) (f : Aperture → Aperture) (s : State) : (modAp n f s).hif = s.hif := rfl
@[simp] theorem modAp_sec (n : Nat) (f : Aperture → Aperture) (s : State) : (modAp n f s).sec = s.sec := rfl
@[simp] theorem modAp_nvm (n : Nat) (f : Aperture → Aperture) (s : State) : (modAp n f s).nvm = s.nvm := rfl
@[simp] theorem modAp_flt (n : Nat) (f : Aperture → Aperture) (s : State) : (modAp n f s).flt = s.flt := rfl
@[simp] theorem modAp_snuff (n : Nat) (f : Aperture → Aperture) (s : State) : (modAp n f s).snuff = s.snuff := rfl
@[simp] theorem modAp_snuffDue (n : Nat) (f : Aperture → Aperture) (s : State) : (modAp n f s).snuffDue = s.snuffDue := rfl
@[simp] theorem modAp_snuffOff (n : Nat) (f : Aperture → Aperture) (s : State) : (modAp n f s).snuffOff = s.snuffOff := rfl
@[simp] theorem modAp_snuffWrite (n : Nat) (f : Aperture → Aperture) (s : State) : (modAp n f s).snuffWrite = s.snuffWrite := rfl
@[simp] theorem modAp_grid (n : Nat) (f : Aperture → Aperture) (s : State) : (modAp n f s).grid = s.grid := rfl
@[simp] theorem modAp_tch (n : Nat) (f : Aperture → Aperture) (s : State) : (modAp n f s).tch = s.tch := rfl
@[simp] theorem modAp_carr (n : Nat) (f : Aperture → Aperture) (s : State) : (modAp n f s).carr = s.carr := rfl
@[simp] theorem modAp_brdg (n : Nat) (f : Aperture → Aperture) (s : State) : (modAp n f s).brdg = s.brdg := rfl
@[simp] theorem modAp_conv (n : Nat) (f : Aperture → Aperture) (s : State) : (modAp n f s).conv = s.conv := rfl
@[simp] theorem modAp_time (n : Nat) (f : Aperture → Aperture) (s : State) : (modAp n f s).time = s.time := rfl
@[simp] theorem modAp_link (n : Nat) (f : Aperture → Aperture) (s : State) : (modAp n f s).link = s.link := rfl
@[simp] theorem modAp_res (n : Nat) (f : Aperture → Aperture) (s : State) : (modAp n f s).res = s.res := rfl
@[simp] theorem modAp_hkp (n : Nat) (f : Aperture → Aperture) (s : State) : (modAp n f s).hkp = s.hkp := rfl
@[simp] theorem modAp_freeCtr (n : Nat) (f : Aperture → Aperture) (s : State) : (modAp n f s).freeCtr = s.freeCtr := rfl
@[simp] theorem modAp_pending (n : Nat) (f : Aperture → Aperture) (s : State) : (modAp n f s).pending = s.pending := rfl

@[simp] theorem modFlt_shadow (b : Nat) (f : FaultSt → FaultSt) (s : State) : (modFlt b f s).shadow = s.shadow := rfl
@[simp] theorem modFlt_active (b : Nat) (f : FaultSt → FaultSt) (s : State) : (modFlt b f s).active = s.active := rfl
@[simp] theorem modFlt_gram (b : Nat) (f : FaultSt → FaultSt) (s : State) : (modFlt b f s).gram = s.gram := rfl
@[simp] theorem modFlt_sys (b : Nat) (f : FaultSt → FaultSt) (s : State) : (modFlt b f s).sys = s.sys := rfl
@[simp] theorem modFlt_safe (b : Nat) (f : FaultSt → FaultSt) (s : State) : (modFlt b f s).safe = s.safe := rfl
@[simp] theorem modFlt_hif (b : Nat) (f : FaultSt → FaultSt) (s : State) : (modFlt b f s).hif = s.hif := rfl
@[simp] theorem modFlt_sec (b : Nat) (f : FaultSt → FaultSt) (s : State) : (modFlt b f s).sec = s.sec := rfl
@[simp] theorem modFlt_nvm (b : Nat) (f : FaultSt → FaultSt) (s : State) : (modFlt b f s).nvm = s.nvm := rfl
@[simp] theorem modFlt_snuff (b : Nat) (f : FaultSt → FaultSt) (s : State) : (modFlt b f s).snuff = s.snuff := rfl
@[simp] theorem modFlt_snuffDue (b : Nat) (f : FaultSt → FaultSt) (s : State) : (modFlt b f s).snuffDue = s.snuffDue := rfl
@[simp] theorem modFlt_snuffOff (b : Nat) (f : FaultSt → FaultSt) (s : State) : (modFlt b f s).snuffOff = s.snuffOff := rfl
@[simp] theorem modFlt_snuffWrite (b : Nat) (f : FaultSt → FaultSt) (s : State) : (modFlt b f s).snuffWrite = s.snuffWrite := rfl
@[simp] theorem modFlt_grid (b : Nat) (f : FaultSt → FaultSt) (s : State) : (modFlt b f s).grid = s.grid := rfl
@[simp] theorem modFlt_tch (b : Nat) (f : FaultSt → FaultSt) (s : State) : (modFlt b f s).tch = s.tch := rfl
@[simp] theorem modFlt_carr (b : Nat) (f : FaultSt → FaultSt) (s : State) : (modFlt b f s).carr = s.carr := rfl
@[simp] theorem modFlt_brdg (b : Nat) (f : FaultSt → FaultSt) (s : State) : (modFlt b f s).brdg = s.brdg := rfl
@[simp] theorem modFlt_conv (b : Nat) (f : FaultSt → FaultSt) (s : State) : (modFlt b f s).conv = s.conv := rfl
@[simp] theorem modFlt_time (b : Nat) (f : FaultSt → FaultSt) (s : State) : (modFlt b f s).time = s.time := rfl
@[simp] theorem modFlt_link (b : Nat) (f : FaultSt → FaultSt) (s : State) : (modFlt b f s).link = s.link := rfl
@[simp] theorem modFlt_res (b : Nat) (f : FaultSt → FaultSt) (s : State) : (modFlt b f s).res = s.res := rfl
@[simp] theorem modFlt_hkp (b : Nat) (f : FaultSt → FaultSt) (s : State) : (modFlt b f s).hkp = s.hkp := rfl
@[simp] theorem modFlt_eng (b : Nat) (f : FaultSt → FaultSt) (s : State) : (modFlt b f s).eng = s.eng := rfl
@[simp] theorem modFlt_freeCtr (b : Nat) (f : FaultSt → FaultSt) (s : State) : (modFlt b f s).freeCtr = s.freeCtr := rfl
@[simp] theorem modFlt_pending (b : Nat) (f : FaultSt → FaultSt) (s : State) : (modFlt b f s).pending = s.pending := rfl

@[simp] theorem modLane_shadow (n : Nat) (f : LaneSt → LaneSt) (s : State) : (modLane n f s).shadow = s.shadow := rfl
@[simp] theorem modLane_active (n : Nat) (f : LaneSt → LaneSt) (s : State) : (modLane n f s).active = s.active := rfl
@[simp] theorem modLane_gram (n : Nat) (f : LaneSt → LaneSt) (s : State) : (modLane n f s).gram = s.gram := rfl
@[simp] theorem modLane_sys (n : Nat) (f : LaneSt → LaneSt) (s : State) : (modLane n f s).sys = s.sys := rfl
@[simp] theorem modLane_safe (n : Nat) (f : LaneSt → LaneSt) (s : State) : (modLane n f s).safe = s.safe := rfl
@[simp] theorem modLane_hif (n : Nat) (f : LaneSt → LaneSt) (s : State) : (modLane n f s).hif = s.hif := rfl
@[simp] theorem modLane_sec (n : Nat) (f : LaneSt → LaneSt) (s : State) : (modLane n f s).sec = s.sec := rfl
@[simp] theorem modLane_nvm (n : Nat) (f : LaneSt → LaneSt) (s : State) : (modLane n f s).nvm = s.nvm := rfl
@[simp] theorem modLane_flt (n : Nat) (f : LaneSt → LaneSt) (s : State) : (modLane n f s).flt = s.flt := rfl
@[simp] theorem modLane_snuff (n : Nat) (f : LaneSt → LaneSt) (s : State) : (modLane n f s).snuff = s.snuff := rfl
@[simp] theorem modLane_snuffDue (n : Nat) (f : LaneSt → LaneSt) (s : State) : (modLane n f s).snuffDue = s.snuffDue := rfl
@[simp] theorem modLane_snuffOff (n : Nat) (f : LaneSt → LaneSt) (s : State) : (modLane n f s).snuffOff = s.snuffOff := rfl
@[simp] theorem modLane_snuffWrite (n : Nat) (f : LaneSt → LaneSt) (s : State) : (modLane n f s).snuffWrite = s.snuffWrite := rfl
@[simp] theorem modLane_grid (n : Nat) (f : LaneSt → LaneSt) (s : State) : (modLane n f s).grid = s.grid := rfl
@[simp] theorem modLane_tch (n : Nat) (f : LaneSt → LaneSt) (s : State) : (modLane n f s).tch = s.tch := rfl
@[simp] theorem modLane_carr (n : Nat) (f : LaneSt → LaneSt) (s : State) : (modLane n f s).carr = s.carr := rfl
@[simp] theorem modLane_brdg (n : Nat) (f : LaneSt → LaneSt) (s : State) : (modLane n f s).brdg = s.brdg := rfl
@[simp] theorem modLane_time (n : Nat) (f : LaneSt → LaneSt) (s : State) : (modLane n f s).time = s.time := rfl
@[simp] theorem modLane_link (n : Nat) (f : LaneSt → LaneSt) (s : State) : (modLane n f s).link = s.link := rfl
@[simp] theorem modLane_res (n : Nat) (f : LaneSt → LaneSt) (s : State) : (modLane n f s).res = s.res := rfl
@[simp] theorem modLane_hkp (n : Nat) (f : LaneSt → LaneSt) (s : State) : (modLane n f s).hkp = s.hkp := rfl
@[simp] theorem modLane_eng (n : Nat) (f : LaneSt → LaneSt) (s : State) : (modLane n f s).eng = s.eng := rfl
@[simp] theorem modLane_freeCtr (n : Nat) (f : LaneSt → LaneSt) (s : State) : (modLane n f s).freeCtr = s.freeCtr := rfl
@[simp] theorem modLane_pending (n : Nat) (f : LaneSt → LaneSt) (s : State) : (modLane n f s).pending = s.pending := rfl

@[simp] theorem modWin_shadow (w : WinItem) (f : WinSt → WinSt) (s : State) : (modWin w f s).shadow = s.shadow := by cases w <;> rfl
@[simp] theorem modWin_active (w : WinItem) (f : WinSt → WinSt) (s : State) : (modWin w f s).active = s.active := by cases w <;> rfl
@[simp] theorem modWin_gram (w : WinItem) (f : WinSt → WinSt) (s : State) : (modWin w f s).gram = s.gram := by cases w <;> rfl
@[simp] theorem modWin_sys (w : WinItem) (f : WinSt → WinSt) (s : State) : (modWin w f s).sys = s.sys := by cases w <;> rfl
@[simp] theorem modWin_safe (w : WinItem) (f : WinSt → WinSt) (s : State) : (modWin w f s).safe = s.safe := by cases w <;> rfl
@[simp] theorem modWin_hif (w : WinItem) (f : WinSt → WinSt) (s : State) : (modWin w f s).hif = s.hif := by cases w <;> rfl
@[simp] theorem modWin_sec (w : WinItem) (f : WinSt → WinSt) (s : State) : (modWin w f s).sec = s.sec := by cases w <;> rfl
@[simp] theorem modWin_nvm (w : WinItem) (f : WinSt → WinSt) (s : State) : (modWin w f s).nvm = s.nvm := by cases w <;> rfl
@[simp] theorem modWin_flt (w : WinItem) (f : WinSt → WinSt) (s : State) : (modWin w f s).flt = s.flt := by cases w <;> rfl
@[simp] theorem modWin_snuff (w : WinItem) (f : WinSt → WinSt) (s : State) : (modWin w f s).snuff = s.snuff := by cases w <;> rfl
@[simp] theorem modWin_snuffDue (w : WinItem) (f : WinSt → WinSt) (s : State) : (modWin w f s).snuffDue = s.snuffDue := by cases w <;> rfl
@[simp] theorem modWin_snuffOff (w : WinItem) (f : WinSt → WinSt) (s : State) : (modWin w f s).snuffOff = s.snuffOff := by cases w <;> rfl
@[simp] theorem modWin_snuffWrite (w : WinItem) (f : WinSt → WinSt) (s : State) : (modWin w f s).snuffWrite = s.snuffWrite := by cases w <;> rfl
@[simp] theorem modWin_grid (w : WinItem) (f : WinSt → WinSt) (s : State) : (modWin w f s).grid = s.grid := by cases w <;> rfl
@[simp] theorem modWin_tch (w : WinItem) (f : WinSt → WinSt) (s : State) : (modWin w f s).tch = s.tch := by cases w <;> rfl
@[simp] theorem modWin_carr (w : WinItem) (f : WinSt → WinSt) (s : State) : (modWin w f s).carr = s.carr := by cases w <;> rfl
@[simp] theorem modWin_conv (w : WinItem) (f : WinSt → WinSt) (s : State) : (modWin w f s).conv = s.conv := by cases w <;> rfl
@[simp] theorem modWin_time (w : WinItem) (f : WinSt → WinSt) (s : State) : (modWin w f s).time = s.time := by cases w <;> rfl
@[simp] theorem modWin_link (w : WinItem) (f : WinSt → WinSt) (s : State) : (modWin w f s).link = s.link := by cases w <;> rfl
@[simp] theorem modWin_res (w : WinItem) (f : WinSt → WinSt) (s : State) : (modWin w f s).res = s.res := by cases w <;> rfl
@[simp] theorem modWin_hkp (w : WinItem) (f : WinSt → WinSt) (s : State) : (modWin w f s).hkp = s.hkp := by cases w <;> rfl
@[simp] theorem modWin_eng (w : WinItem) (f : WinSt → WinSt) (s : State) : (modWin w f s).eng = s.eng := by cases w <;> rfl
@[simp] theorem modWin_freeCtr (w : WinItem) (f : WinSt → WinSt) (s : State) : (modWin w f s).freeCtr = s.freeCtr := by cases w <;> rfl
@[simp] theorem modWin_pending (w : WinItem) (f : WinSt → WinSt) (s : State) : (modWin w f s).pending = s.pending := by cases w <;> rfl

@[simp] theorem modStream_shadow (k : Fin 16) (f : StreamSt → StreamSt) (s : State) : (modStream k f s).shadow = s.shadow := rfl
@[simp] theorem modStream_active (k : Fin 16) (f : StreamSt → StreamSt) (s : State) : (modStream k f s).active = s.active := rfl
@[simp] theorem modStream_gram (k : Fin 16) (f : StreamSt → StreamSt) (s : State) : (modStream k f s).gram = s.gram := rfl
@[simp] theorem modStream_sys (k : Fin 16) (f : StreamSt → StreamSt) (s : State) : (modStream k f s).sys = s.sys := rfl
@[simp] theorem modStream_safe (k : Fin 16) (f : StreamSt → StreamSt) (s : State) : (modStream k f s).safe = s.safe := rfl
@[simp] theorem modStream_hif (k : Fin 16) (f : StreamSt → StreamSt) (s : State) : (modStream k f s).hif = s.hif := rfl
@[simp] theorem modStream_sec (k : Fin 16) (f : StreamSt → StreamSt) (s : State) : (modStream k f s).sec = s.sec := rfl
@[simp] theorem modStream_nvm (k : Fin 16) (f : StreamSt → StreamSt) (s : State) : (modStream k f s).nvm = s.nvm := rfl
@[simp] theorem modStream_flt (k : Fin 16) (f : StreamSt → StreamSt) (s : State) : (modStream k f s).flt = s.flt := rfl
@[simp] theorem modStream_snuff (k : Fin 16) (f : StreamSt → StreamSt) (s : State) : (modStream k f s).snuff = s.snuff := rfl
@[simp] theorem modStream_snuffDue (k : Fin 16) (f : StreamSt → StreamSt) (s : State) : (modStream k f s).snuffDue = s.snuffDue := rfl
@[simp] theorem modStream_snuffOff (k : Fin 16) (f : StreamSt → StreamSt) (s : State) : (modStream k f s).snuffOff = s.snuffOff := rfl
@[simp] theorem modStream_snuffWrite (k : Fin 16) (f : StreamSt → StreamSt) (s : State) : (modStream k f s).snuffWrite = s.snuffWrite := rfl
@[simp] theorem modStream_grid (k : Fin 16) (f : StreamSt → StreamSt) (s : State) : (modStream k f s).grid = s.grid := rfl
@[simp] theorem modStream_tch (k : Fin 16) (f : StreamSt → StreamSt) (s : State) : (modStream k f s).tch = s.tch := rfl
@[simp] theorem modStream_carr (k : Fin 16) (f : StreamSt → StreamSt) (s : State) : (modStream k f s).carr = s.carr := rfl
@[simp] theorem modStream_brdg (k : Fin 16) (f : StreamSt → StreamSt) (s : State) : (modStream k f s).brdg = s.brdg := rfl
@[simp] theorem modStream_conv (k : Fin 16) (f : StreamSt → StreamSt) (s : State) : (modStream k f s).conv = s.conv := rfl
@[simp] theorem modStream_time (k : Fin 16) (f : StreamSt → StreamSt) (s : State) : (modStream k f s).time = s.time := rfl
@[simp] theorem modStream_link (k : Fin 16) (f : StreamSt → StreamSt) (s : State) : (modStream k f s).link = s.link := rfl
@[simp] theorem modStream_hkp (k : Fin 16) (f : StreamSt → StreamSt) (s : State) : (modStream k f s).hkp = s.hkp := rfl
@[simp] theorem modStream_eng (k : Fin 16) (f : StreamSt → StreamSt) (s : State) : (modStream k f s).eng = s.eng := rfl
@[simp] theorem modStream_freeCtr (k : Fin 16) (f : StreamSt → StreamSt) (s : State) : (modStream k f s).freeCtr = s.freeCtr := rfl
@[simp] theorem modStream_pending (k : Fin 16) (f : StreamSt → StreamSt) (s : State) : (modStream k f s).pending = s.pending := rfl

@[simp] theorem modLink_shadow (n : Fin 4) (f : PortSt → PortSt) (s : State) : (modLink n f s).shadow = s.shadow := rfl
@[simp] theorem modLink_active (n : Fin 4) (f : PortSt → PortSt) (s : State) : (modLink n f s).active = s.active := rfl
@[simp] theorem modLink_gram (n : Fin 4) (f : PortSt → PortSt) (s : State) : (modLink n f s).gram = s.gram := rfl
@[simp] theorem modLink_sys (n : Fin 4) (f : PortSt → PortSt) (s : State) : (modLink n f s).sys = s.sys := rfl
@[simp] theorem modLink_safe (n : Fin 4) (f : PortSt → PortSt) (s : State) : (modLink n f s).safe = s.safe := rfl
@[simp] theorem modLink_hif (n : Fin 4) (f : PortSt → PortSt) (s : State) : (modLink n f s).hif = s.hif := rfl
@[simp] theorem modLink_sec (n : Fin 4) (f : PortSt → PortSt) (s : State) : (modLink n f s).sec = s.sec := rfl
@[simp] theorem modLink_nvm (n : Fin 4) (f : PortSt → PortSt) (s : State) : (modLink n f s).nvm = s.nvm := rfl
@[simp] theorem modLink_flt (n : Fin 4) (f : PortSt → PortSt) (s : State) : (modLink n f s).flt = s.flt := rfl
@[simp] theorem modLink_snuff (n : Fin 4) (f : PortSt → PortSt) (s : State) : (modLink n f s).snuff = s.snuff := rfl
@[simp] theorem modLink_snuffDue (n : Fin 4) (f : PortSt → PortSt) (s : State) : (modLink n f s).snuffDue = s.snuffDue := rfl
@[simp] theorem modLink_snuffOff (n : Fin 4) (f : PortSt → PortSt) (s : State) : (modLink n f s).snuffOff = s.snuffOff := rfl
@[simp] theorem modLink_snuffWrite (n : Fin 4) (f : PortSt → PortSt) (s : State) : (modLink n f s).snuffWrite = s.snuffWrite := rfl
@[simp] theorem modLink_grid (n : Fin 4) (f : PortSt → PortSt) (s : State) : (modLink n f s).grid = s.grid := rfl
@[simp] theorem modLink_tch (n : Fin 4) (f : PortSt → PortSt) (s : State) : (modLink n f s).tch = s.tch := rfl
@[simp] theorem modLink_carr (n : Fin 4) (f : PortSt → PortSt) (s : State) : (modLink n f s).carr = s.carr := rfl
@[simp] theorem modLink_brdg (n : Fin 4) (f : PortSt → PortSt) (s : State) : (modLink n f s).brdg = s.brdg := rfl
@[simp] theorem modLink_conv (n : Fin 4) (f : PortSt → PortSt) (s : State) : (modLink n f s).conv = s.conv := rfl
@[simp] theorem modLink_time (n : Fin 4) (f : PortSt → PortSt) (s : State) : (modLink n f s).time = s.time := rfl
@[simp] theorem modLink_res (n : Fin 4) (f : PortSt → PortSt) (s : State) : (modLink n f s).res = s.res := rfl
@[simp] theorem modLink_hkp (n : Fin 4) (f : PortSt → PortSt) (s : State) : (modLink n f s).hkp = s.hkp := rfl
@[simp] theorem modLink_eng (n : Fin 4) (f : PortSt → PortSt) (s : State) : (modLink n f s).eng = s.eng := rfl
@[simp] theorem modLink_freeCtr (n : Fin 4) (f : PortSt → PortSt) (s : State) : (modLink n f s).freeCtr = s.freeCtr := rfl
@[simp] theorem modLink_pending (n : Fin 4) (f : PortSt → PortSt) (s : State) : (modLink n f s).pending = s.pending := rfl

@[simp] theorem drainOn_shadow (n : Fin 4) (s : State) : (drainOn n s).shadow = s.shadow := rfl
@[simp] theorem drainOn_active (n : Fin 4) (s : State) : (drainOn n s).active = s.active := rfl
@[simp] theorem drainOn_gram (n : Fin 4) (s : State) : (drainOn n s).gram = s.gram := rfl
@[simp] theorem drainOn_sys (n : Fin 4) (s : State) : (drainOn n s).sys = s.sys := rfl
@[simp] theorem drainOn_safe (n : Fin 4) (s : State) : (drainOn n s).safe = s.safe := rfl
@[simp] theorem drainOn_hif (n : Fin 4) (s : State) : (drainOn n s).hif = s.hif := rfl
@[simp] theorem drainOn_sec (n : Fin 4) (s : State) : (drainOn n s).sec = s.sec := rfl
@[simp] theorem drainOn_nvm (n : Fin 4) (s : State) : (drainOn n s).nvm = s.nvm := rfl
@[simp] theorem drainOn_flt (n : Fin 4) (s : State) : (drainOn n s).flt = s.flt := rfl
@[simp] theorem drainOn_snuff (n : Fin 4) (s : State) : (drainOn n s).snuff = s.snuff := rfl
@[simp] theorem drainOn_snuffDue (n : Fin 4) (s : State) : (drainOn n s).snuffDue = s.snuffDue := rfl
@[simp] theorem drainOn_snuffOff (n : Fin 4) (s : State) : (drainOn n s).snuffOff = s.snuffOff := rfl
@[simp] theorem drainOn_snuffWrite (n : Fin 4) (s : State) : (drainOn n s).snuffWrite = s.snuffWrite := rfl
@[simp] theorem drainOn_grid (n : Fin 4) (s : State) : (drainOn n s).grid = s.grid := rfl
@[simp] theorem drainOn_tch (n : Fin 4) (s : State) : (drainOn n s).tch = s.tch := rfl
@[simp] theorem drainOn_carr (n : Fin 4) (s : State) : (drainOn n s).carr = s.carr := rfl
@[simp] theorem drainOn_brdg (n : Fin 4) (s : State) : (drainOn n s).brdg = s.brdg := rfl
@[simp] theorem drainOn_conv (n : Fin 4) (s : State) : (drainOn n s).conv = s.conv := rfl
@[simp] theorem drainOn_time (n : Fin 4) (s : State) : (drainOn n s).time = s.time := rfl
@[simp] theorem drainOn_res (n : Fin 4) (s : State) : (drainOn n s).res = s.res := rfl
@[simp] theorem drainOn_hkp (n : Fin 4) (s : State) : (drainOn n s).hkp = s.hkp := rfl
@[simp] theorem drainOn_eng (n : Fin 4) (s : State) : (drainOn n s).eng = s.eng := rfl
@[simp] theorem drainOn_freeCtr (n : Fin 4) (s : State) : (drainOn n s).freeCtr = s.freeCtr := rfl
@[simp] theorem drainOn_pending (n : Fin 4) (s : State) : (drainOn n s).pending = s.pending := rfl

@[simp] theorem modFlight_shadow (f : Flight → Flight) (s : State) : (modFlight f s).shadow = s.shadow := rfl
@[simp] theorem modFlight_active (f : Flight → Flight) (s : State) : (modFlight f s).active = s.active := rfl
@[simp] theorem modFlight_gram (f : Flight → Flight) (s : State) : (modFlight f s).gram = s.gram := rfl
@[simp] theorem modFlight_sys (f : Flight → Flight) (s : State) : (modFlight f s).sys = s.sys := rfl
@[simp] theorem modFlight_safe (f : Flight → Flight) (s : State) : (modFlight f s).safe = s.safe := rfl
@[simp] theorem modFlight_hif (f : Flight → Flight) (s : State) : (modFlight f s).hif = s.hif := rfl
@[simp] theorem modFlight_sec (f : Flight → Flight) (s : State) : (modFlight f s).sec = s.sec := rfl
@[simp] theorem modFlight_nvm (f : Flight → Flight) (s : State) : (modFlight f s).nvm = s.nvm := rfl
@[simp] theorem modFlight_flt (f : Flight → Flight) (s : State) : (modFlight f s).flt = s.flt := rfl
@[simp] theorem modFlight_snuff (f : Flight → Flight) (s : State) : (modFlight f s).snuff = s.snuff := rfl
@[simp] theorem modFlight_snuffDue (f : Flight → Flight) (s : State) : (modFlight f s).snuffDue = s.snuffDue := rfl
@[simp] theorem modFlight_snuffOff (f : Flight → Flight) (s : State) : (modFlight f s).snuffOff = s.snuffOff := rfl
@[simp] theorem modFlight_snuffWrite (f : Flight → Flight) (s : State) : (modFlight f s).snuffWrite = s.snuffWrite := rfl
@[simp] theorem modFlight_grid (f : Flight → Flight) (s : State) : (modFlight f s).grid = s.grid := rfl
@[simp] theorem modFlight_tch (f : Flight → Flight) (s : State) : (modFlight f s).tch = s.tch := rfl
@[simp] theorem modFlight_carr (f : Flight → Flight) (s : State) : (modFlight f s).carr = s.carr := rfl
@[simp] theorem modFlight_brdg (f : Flight → Flight) (s : State) : (modFlight f s).brdg = s.brdg := rfl
@[simp] theorem modFlight_conv (f : Flight → Flight) (s : State) : (modFlight f s).conv = s.conv := rfl
@[simp] theorem modFlight_time (f : Flight → Flight) (s : State) : (modFlight f s).time = s.time := rfl
@[simp] theorem modFlight_res (f : Flight → Flight) (s : State) : (modFlight f s).res = s.res := rfl
@[simp] theorem modFlight_hkp (f : Flight → Flight) (s : State) : (modFlight f s).hkp = s.hkp := rfl
@[simp] theorem modFlight_eng (f : Flight → Flight) (s : State) : (modFlight f s).eng = s.eng := rfl
@[simp] theorem modFlight_freeCtr (f : Flight → Flight) (s : State) : (modFlight f s).freeCtr = s.freeCtr := rfl
@[simp] theorem modFlight_pending (f : Flight → Flight) (s : State) : (modFlight f s).pending = s.pending := rfl

@[simp] theorem setRate_shadow (y : Int) (s : State) : (setRate y s).shadow = s.shadow := rfl
@[simp] theorem setRate_active (y : Int) (s : State) : (setRate y s).active = s.active := rfl
@[simp] theorem setRate_gram (y : Int) (s : State) : (setRate y s).gram = s.gram := rfl
@[simp] theorem setRate_sys (y : Int) (s : State) : (setRate y s).sys = s.sys := rfl
@[simp] theorem setRate_safe (y : Int) (s : State) : (setRate y s).safe = s.safe := rfl
@[simp] theorem setRate_hif (y : Int) (s : State) : (setRate y s).hif = s.hif := rfl
@[simp] theorem setRate_sec (y : Int) (s : State) : (setRate y s).sec = s.sec := rfl
@[simp] theorem setRate_nvm (y : Int) (s : State) : (setRate y s).nvm = s.nvm := rfl
@[simp] theorem setRate_flt (y : Int) (s : State) : (setRate y s).flt = s.flt := rfl
@[simp] theorem setRate_snuff (y : Int) (s : State) : (setRate y s).snuff = s.snuff := rfl
@[simp] theorem setRate_snuffDue (y : Int) (s : State) : (setRate y s).snuffDue = s.snuffDue := rfl
@[simp] theorem setRate_snuffOff (y : Int) (s : State) : (setRate y s).snuffOff = s.snuffOff := rfl
@[simp] theorem setRate_snuffWrite (y : Int) (s : State) : (setRate y s).snuffWrite = s.snuffWrite := rfl
@[simp] theorem setRate_grid (y : Int) (s : State) : (setRate y s).grid = s.grid := rfl
@[simp] theorem setRate_tch (y : Int) (s : State) : (setRate y s).tch = s.tch := rfl
@[simp] theorem setRate_carr (y : Int) (s : State) : (setRate y s).carr = s.carr := rfl
@[simp] theorem setRate_brdg (y : Int) (s : State) : (setRate y s).brdg = s.brdg := rfl
@[simp] theorem setRate_conv (y : Int) (s : State) : (setRate y s).conv = s.conv := rfl
@[simp] theorem setRate_link (y : Int) (s : State) : (setRate y s).link = s.link := rfl
@[simp] theorem setRate_res (y : Int) (s : State) : (setRate y s).res = s.res := rfl
@[simp] theorem setRate_hkp (y : Int) (s : State) : (setRate y s).hkp = s.hkp := rfl
@[simp] theorem setRate_eng (y : Int) (s : State) : (setRate y s).eng = s.eng := rfl
@[simp] theorem setRate_freeCtr (y : Int) (s : State) : (setRate y s).freeCtr = s.freeCtr := rfl
@[simp] theorem setRate_pending (y : Int) (s : State) : (setRate y s).pending = s.pending := rfl

@[simp] theorem tickTime_shadow (s : State) : (tickTime s).shadow = s.shadow := by unfold tickTime; (repeat' split) <;> rfl
@[simp] theorem tickTime_active (s : State) : (tickTime s).active = s.active := by unfold tickTime; (repeat' split) <;> rfl
@[simp] theorem tickTime_gram (s : State) : (tickTime s).gram = s.gram := by unfold tickTime; (repeat' split) <;> rfl
@[simp] theorem tickTime_sys (s : State) : (tickTime s).sys = s.sys := by unfold tickTime; (repeat' split) <;> rfl
@[simp] theorem tickTime_safe (s : State) : (tickTime s).safe = s.safe := by unfold tickTime; (repeat' split) <;> rfl
@[simp] theorem tickTime_hif (s : State) : (tickTime s).hif = s.hif := by unfold tickTime; (repeat' split) <;> rfl
@[simp] theorem tickTime_sec (s : State) : (tickTime s).sec = s.sec := by unfold tickTime; (repeat' split) <;> rfl
@[simp] theorem tickTime_nvm (s : State) : (tickTime s).nvm = s.nvm := by unfold tickTime; (repeat' split) <;> rfl
@[simp] theorem tickTime_flt (s : State) : (tickTime s).flt = s.flt := by unfold tickTime; (repeat' split) <;> rfl
@[simp] theorem tickTime_snuff (s : State) : (tickTime s).snuff = s.snuff := by unfold tickTime; (repeat' split) <;> rfl
@[simp] theorem tickTime_snuffDue (s : State) : (tickTime s).snuffDue = s.snuffDue := by unfold tickTime; (repeat' split) <;> rfl
@[simp] theorem tickTime_snuffOff (s : State) : (tickTime s).snuffOff = s.snuffOff := by unfold tickTime; (repeat' split) <;> rfl
@[simp] theorem tickTime_snuffWrite (s : State) : (tickTime s).snuffWrite = s.snuffWrite := by unfold tickTime; (repeat' split) <;> rfl
@[simp] theorem tickTime_grid (s : State) : (tickTime s).grid = s.grid := by unfold tickTime; (repeat' split) <;> rfl
@[simp] theorem tickTime_tch (s : State) : (tickTime s).tch = s.tch := by unfold tickTime; (repeat' split) <;> rfl
@[simp] theorem tickTime_carr (s : State) : (tickTime s).carr = s.carr := by unfold tickTime; (repeat' split) <;> rfl
@[simp] theorem tickTime_brdg (s : State) : (tickTime s).brdg = s.brdg := by unfold tickTime; (repeat' split) <;> rfl
@[simp] theorem tickTime_conv (s : State) : (tickTime s).conv = s.conv := by unfold tickTime; (repeat' split) <;> rfl
@[simp] theorem tickTime_link (s : State) : (tickTime s).link = s.link := by unfold tickTime; (repeat' split) <;> rfl
@[simp] theorem tickTime_res (s : State) : (tickTime s).res = s.res := by unfold tickTime; (repeat' split) <;> rfl
@[simp] theorem tickTime_hkp (s : State) : (tickTime s).hkp = s.hkp := by unfold tickTime; (repeat' split) <;> rfl
@[simp] theorem tickTime_eng (s : State) : (tickTime s).eng = s.eng := by unfold tickTime; (repeat' split) <;> rfl
@[simp] theorem tickTime_freeCtr (s : State) : (tickTime s).freeCtr = s.freeCtr := by unfold tickTime; (repeat' split) <;> rfl
@[simp] theorem tickTime_pending (s : State) : (tickTime s).pending = s.pending := by unfold tickTime; (repeat' split) <;> rfl

@[simp] theorem advanceTo_shadow (t : Nat) (s : State) : (advanceTo t s).shadow = s.shadow := by unfold advanceTo; split <;> rfl
@[simp] theorem advanceTo_active (t : Nat) (s : State) : (advanceTo t s).active = s.active := by unfold advanceTo; split <;> rfl
@[simp] theorem advanceTo_gram (t : Nat) (s : State) : (advanceTo t s).gram = s.gram := by unfold advanceTo; split <;> rfl
@[simp] theorem advanceTo_sys (t : Nat) (s : State) : (advanceTo t s).sys = s.sys := by unfold advanceTo; split <;> rfl
@[simp] theorem advanceTo_safe (t : Nat) (s : State) : (advanceTo t s).safe = s.safe := by unfold advanceTo; split <;> rfl
@[simp] theorem advanceTo_hif (t : Nat) (s : State) : (advanceTo t s).hif = s.hif := by unfold advanceTo; split <;> rfl
@[simp] theorem advanceTo_sec (t : Nat) (s : State) : (advanceTo t s).sec = s.sec := by unfold advanceTo; split <;> rfl
@[simp] theorem advanceTo_nvm (t : Nat) (s : State) : (advanceTo t s).nvm = s.nvm := by unfold advanceTo; split <;> rfl
@[simp] theorem advanceTo_flt (t : Nat) (s : State) : (advanceTo t s).flt = s.flt := by unfold advanceTo; split <;> rfl
@[simp] theorem advanceTo_snuff (t : Nat) (s : State) : (advanceTo t s).snuff = s.snuff := by unfold advanceTo; split <;> rfl
@[simp] theorem advanceTo_snuffDue (t : Nat) (s : State) : (advanceTo t s).snuffDue = s.snuffDue := by unfold advanceTo; split <;> rfl
@[simp] theorem advanceTo_snuffOff (t : Nat) (s : State) : (advanceTo t s).snuffOff = s.snuffOff := by unfold advanceTo; split <;> rfl
@[simp] theorem advanceTo_snuffWrite (t : Nat) (s : State) : (advanceTo t s).snuffWrite = s.snuffWrite := by unfold advanceTo; split <;> rfl
@[simp] theorem advanceTo_grid (t : Nat) (s : State) : (advanceTo t s).grid = s.grid := by unfold advanceTo; split <;> rfl
@[simp] theorem advanceTo_tch (t : Nat) (s : State) : (advanceTo t s).tch = s.tch := by unfold advanceTo; split <;> rfl
@[simp] theorem advanceTo_carr (t : Nat) (s : State) : (advanceTo t s).carr = s.carr := by unfold advanceTo; split <;> rfl
@[simp] theorem advanceTo_brdg (t : Nat) (s : State) : (advanceTo t s).brdg = s.brdg := by unfold advanceTo; split <;> rfl
@[simp] theorem advanceTo_conv (t : Nat) (s : State) : (advanceTo t s).conv = s.conv := by unfold advanceTo; split <;> rfl
@[simp] theorem advanceTo_link (t : Nat) (s : State) : (advanceTo t s).link = s.link := by unfold advanceTo; split <;> rfl
@[simp] theorem advanceTo_res (t : Nat) (s : State) : (advanceTo t s).res = s.res := by unfold advanceTo; split <;> rfl
@[simp] theorem advanceTo_hkp (t : Nat) (s : State) : (advanceTo t s).hkp = s.hkp := by unfold advanceTo; split <;> rfl
@[simp] theorem advanceTo_eng (t : Nat) (s : State) : (advanceTo t s).eng = s.eng := by unfold advanceTo; split <;> rfl
@[simp] theorem advanceTo_freeCtr (t : Nat) (s : State) : (advanceTo t s).freeCtr = s.freeCtr := by unfold advanceTo; split <;> rfl
@[simp] theorem advanceTo_pending (t : Nat) (s : State) : (advanceTo t s).pending = s.pending := by unfold advanceTo; split <;> rfl

@[simp] theorem putCfg_shadow (b : Bool) (c : Option CfgCopy) (s : State) : (putCfg b c s).shadow = s.shadow := rfl
@[simp] theorem putCfg_active (b : Bool) (c : Option CfgCopy) (s : State) : (putCfg b c s).active = s.active := rfl
@[simp] theorem putCfg_gram (b : Bool) (c : Option CfgCopy) (s : State) : (putCfg b c s).gram = s.gram := rfl
@[simp] theorem putCfg_sys (b : Bool) (c : Option CfgCopy) (s : State) : (putCfg b c s).sys = s.sys := rfl
@[simp] theorem putCfg_safe (b : Bool) (c : Option CfgCopy) (s : State) : (putCfg b c s).safe = s.safe := rfl
@[simp] theorem putCfg_hif (b : Bool) (c : Option CfgCopy) (s : State) : (putCfg b c s).hif = s.hif := rfl
@[simp] theorem putCfg_sec (b : Bool) (c : Option CfgCopy) (s : State) : (putCfg b c s).sec = s.sec := rfl
@[simp] theorem putCfg_flt (b : Bool) (c : Option CfgCopy) (s : State) : (putCfg b c s).flt = s.flt := rfl
@[simp] theorem putCfg_snuff (b : Bool) (c : Option CfgCopy) (s : State) : (putCfg b c s).snuff = s.snuff := rfl
@[simp] theorem putCfg_snuffDue (b : Bool) (c : Option CfgCopy) (s : State) : (putCfg b c s).snuffDue = s.snuffDue := rfl
@[simp] theorem putCfg_snuffOff (b : Bool) (c : Option CfgCopy) (s : State) : (putCfg b c s).snuffOff = s.snuffOff := rfl
@[simp] theorem putCfg_snuffWrite (b : Bool) (c : Option CfgCopy) (s : State) : (putCfg b c s).snuffWrite = s.snuffWrite := rfl
@[simp] theorem putCfg_grid (b : Bool) (c : Option CfgCopy) (s : State) : (putCfg b c s).grid = s.grid := rfl
@[simp] theorem putCfg_tch (b : Bool) (c : Option CfgCopy) (s : State) : (putCfg b c s).tch = s.tch := rfl
@[simp] theorem putCfg_carr (b : Bool) (c : Option CfgCopy) (s : State) : (putCfg b c s).carr = s.carr := rfl
@[simp] theorem putCfg_brdg (b : Bool) (c : Option CfgCopy) (s : State) : (putCfg b c s).brdg = s.brdg := rfl
@[simp] theorem putCfg_conv (b : Bool) (c : Option CfgCopy) (s : State) : (putCfg b c s).conv = s.conv := rfl
@[simp] theorem putCfg_time (b : Bool) (c : Option CfgCopy) (s : State) : (putCfg b c s).time = s.time := rfl
@[simp] theorem putCfg_link (b : Bool) (c : Option CfgCopy) (s : State) : (putCfg b c s).link = s.link := rfl
@[simp] theorem putCfg_res (b : Bool) (c : Option CfgCopy) (s : State) : (putCfg b c s).res = s.res := rfl
@[simp] theorem putCfg_hkp (b : Bool) (c : Option CfgCopy) (s : State) : (putCfg b c s).hkp = s.hkp := rfl
@[simp] theorem putCfg_eng (b : Bool) (c : Option CfgCopy) (s : State) : (putCfg b c s).eng = s.eng := rfl
@[simp] theorem putCfg_freeCtr (b : Bool) (c : Option CfgCopy) (s : State) : (putCfg b c s).freeCtr = s.freeCtr := rfl
@[simp] theorem putCfg_pending (b : Bool) (c : Option CfgCopy) (s : State) : (putCfg b c s).pending = s.pending := rfl

@[simp] theorem countErase_shadow (k : Nat) (s : State) : (countErase k s).shadow = s.shadow := rfl
@[simp] theorem countErase_active (k : Nat) (s : State) : (countErase k s).active = s.active := rfl
@[simp] theorem countErase_gram (k : Nat) (s : State) : (countErase k s).gram = s.gram := rfl
@[simp] theorem countErase_sys (k : Nat) (s : State) : (countErase k s).sys = s.sys := rfl
@[simp] theorem countErase_safe (k : Nat) (s : State) : (countErase k s).safe = s.safe := rfl
@[simp] theorem countErase_hif (k : Nat) (s : State) : (countErase k s).hif = s.hif := rfl
@[simp] theorem countErase_sec (k : Nat) (s : State) : (countErase k s).sec = s.sec := rfl
@[simp] theorem countErase_flt (k : Nat) (s : State) : (countErase k s).flt = s.flt := rfl
@[simp] theorem countErase_snuff (k : Nat) (s : State) : (countErase k s).snuff = s.snuff := rfl
@[simp] theorem countErase_snuffDue (k : Nat) (s : State) : (countErase k s).snuffDue = s.snuffDue := rfl
@[simp] theorem countErase_snuffOff (k : Nat) (s : State) : (countErase k s).snuffOff = s.snuffOff := rfl
@[simp] theorem countErase_snuffWrite (k : Nat) (s : State) : (countErase k s).snuffWrite = s.snuffWrite := rfl
@[simp] theorem countErase_grid (k : Nat) (s : State) : (countErase k s).grid = s.grid := rfl
@[simp] theorem countErase_tch (k : Nat) (s : State) : (countErase k s).tch = s.tch := rfl
@[simp] theorem countErase_carr (k : Nat) (s : State) : (countErase k s).carr = s.carr := rfl
@[simp] theorem countErase_brdg (k : Nat) (s : State) : (countErase k s).brdg = s.brdg := rfl
@[simp] theorem countErase_conv (k : Nat) (s : State) : (countErase k s).conv = s.conv := rfl
@[simp] theorem countErase_time (k : Nat) (s : State) : (countErase k s).time = s.time := rfl
@[simp] theorem countErase_link (k : Nat) (s : State) : (countErase k s).link = s.link := rfl
@[simp] theorem countErase_res (k : Nat) (s : State) : (countErase k s).res = s.res := rfl
@[simp] theorem countErase_hkp (k : Nat) (s : State) : (countErase k s).hkp = s.hkp := rfl
@[simp] theorem countErase_eng (k : Nat) (s : State) : (countErase k s).eng = s.eng := rfl
@[simp] theorem countErase_freeCtr (k : Nat) (s : State) : (countErase k s).freeCtr = s.freeCtr := rfl
@[simp] theorem countErase_pending (k : Nat) (s : State) : (countErase k s).pending = s.pending := rfl

@[simp] theorem unreserve_shadow (a : Byte) (k : Nat) (s : State) : (unreserve a k s).shadow = s.shadow := rfl
@[simp] theorem unreserve_active (a : Byte) (k : Nat) (s : State) : (unreserve a k s).active = s.active := rfl
@[simp] theorem unreserve_gram (a : Byte) (k : Nat) (s : State) : (unreserve a k s).gram = s.gram := rfl
@[simp] theorem unreserve_sys (a : Byte) (k : Nat) (s : State) : (unreserve a k s).sys = s.sys := rfl
@[simp] theorem unreserve_safe (a : Byte) (k : Nat) (s : State) : (unreserve a k s).safe = s.safe := rfl
@[simp] theorem unreserve_hif (a : Byte) (k : Nat) (s : State) : (unreserve a k s).hif = s.hif := rfl
@[simp] theorem unreserve_sec (a : Byte) (k : Nat) (s : State) : (unreserve a k s).sec = s.sec := rfl
@[simp] theorem unreserve_nvm (a : Byte) (k : Nat) (s : State) : (unreserve a k s).nvm = s.nvm := rfl
@[simp] theorem unreserve_flt (a : Byte) (k : Nat) (s : State) : (unreserve a k s).flt = s.flt := rfl
@[simp] theorem unreserve_snuff (a : Byte) (k : Nat) (s : State) : (unreserve a k s).snuff = s.snuff := rfl
@[simp] theorem unreserve_snuffDue (a : Byte) (k : Nat) (s : State) : (unreserve a k s).snuffDue = s.snuffDue := rfl
@[simp] theorem unreserve_snuffOff (a : Byte) (k : Nat) (s : State) : (unreserve a k s).snuffOff = s.snuffOff := rfl
@[simp] theorem unreserve_snuffWrite (a : Byte) (k : Nat) (s : State) : (unreserve a k s).snuffWrite = s.snuffWrite := rfl
@[simp] theorem unreserve_grid (a : Byte) (k : Nat) (s : State) : (unreserve a k s).grid = s.grid := rfl
@[simp] theorem unreserve_tch (a : Byte) (k : Nat) (s : State) : (unreserve a k s).tch = s.tch := rfl
@[simp] theorem unreserve_carr (a : Byte) (k : Nat) (s : State) : (unreserve a k s).carr = s.carr := rfl
@[simp] theorem unreserve_brdg (a : Byte) (k : Nat) (s : State) : (unreserve a k s).brdg = s.brdg := rfl
@[simp] theorem unreserve_conv (a : Byte) (k : Nat) (s : State) : (unreserve a k s).conv = s.conv := rfl
@[simp] theorem unreserve_time (a : Byte) (k : Nat) (s : State) : (unreserve a k s).time = s.time := rfl
@[simp] theorem unreserve_res (a : Byte) (k : Nat) (s : State) : (unreserve a k s).res = s.res := rfl
@[simp] theorem unreserve_hkp (a : Byte) (k : Nat) (s : State) : (unreserve a k s).hkp = s.hkp := rfl
@[simp] theorem unreserve_eng (a : Byte) (k : Nat) (s : State) : (unreserve a k s).eng = s.eng := rfl
@[simp] theorem unreserve_freeCtr (a : Byte) (k : Nat) (s : State) : (unreserve a k s).freeCtr = s.freeCtr := rfl
@[simp] theorem unreserve_pending (a : Byte) (k : Nat) (s : State) : (unreserve a k s).pending = s.pending := rfl

@[simp] theorem sendRouted_shadow (f : Frame) (s : State) : (sendRouted f s).shadow = s.shadow := by unfold sendRouted; (repeat' split) <;> rfl
@[simp] theorem sendRouted_active (f : Frame) (s : State) : (sendRouted f s).active = s.active := by unfold sendRouted; (repeat' split) <;> rfl
@[simp] theorem sendRouted_gram (f : Frame) (s : State) : (sendRouted f s).gram = s.gram := by unfold sendRouted; (repeat' split) <;> rfl
@[simp] theorem sendRouted_sys (f : Frame) (s : State) : (sendRouted f s).sys = s.sys := by unfold sendRouted; (repeat' split) <;> rfl
@[simp] theorem sendRouted_safe (f : Frame) (s : State) : (sendRouted f s).safe = s.safe := by unfold sendRouted; (repeat' split) <;> rfl
@[simp] theorem sendRouted_hif (f : Frame) (s : State) : (sendRouted f s).hif = s.hif := by unfold sendRouted; (repeat' split) <;> rfl
@[simp] theorem sendRouted_sec (f : Frame) (s : State) : (sendRouted f s).sec = s.sec := by unfold sendRouted; (repeat' split) <;> rfl
@[simp] theorem sendRouted_nvm (f : Frame) (s : State) : (sendRouted f s).nvm = s.nvm := by unfold sendRouted; (repeat' split) <;> rfl
@[simp] theorem sendRouted_flt (f : Frame) (s : State) : (sendRouted f s).flt = s.flt := by unfold sendRouted; (repeat' split) <;> rfl
@[simp] theorem sendRouted_snuff (f : Frame) (s : State) : (sendRouted f s).snuff = s.snuff := by unfold sendRouted; (repeat' split) <;> rfl
@[simp] theorem sendRouted_snuffDue (f : Frame) (s : State) : (sendRouted f s).snuffDue = s.snuffDue := by unfold sendRouted; (repeat' split) <;> rfl
@[simp] theorem sendRouted_snuffOff (f : Frame) (s : State) : (sendRouted f s).snuffOff = s.snuffOff := by unfold sendRouted; (repeat' split) <;> rfl
@[simp] theorem sendRouted_snuffWrite (f : Frame) (s : State) : (sendRouted f s).snuffWrite = s.snuffWrite := by unfold sendRouted; (repeat' split) <;> rfl
@[simp] theorem sendRouted_grid (f : Frame) (s : State) : (sendRouted f s).grid = s.grid := by unfold sendRouted; (repeat' split) <;> rfl
@[simp] theorem sendRouted_tch (f : Frame) (s : State) : (sendRouted f s).tch = s.tch := by unfold sendRouted; (repeat' split) <;> rfl
@[simp] theorem sendRouted_carr (f : Frame) (s : State) : (sendRouted f s).carr = s.carr := by unfold sendRouted; (repeat' split) <;> rfl
@[simp] theorem sendRouted_brdg (f : Frame) (s : State) : (sendRouted f s).brdg = s.brdg := by unfold sendRouted; (repeat' split) <;> rfl
@[simp] theorem sendRouted_conv (f : Frame) (s : State) : (sendRouted f s).conv = s.conv := by unfold sendRouted; (repeat' split) <;> rfl
@[simp] theorem sendRouted_time (f : Frame) (s : State) : (sendRouted f s).time = s.time := by unfold sendRouted; (repeat' split) <;> rfl
@[simp] theorem sendRouted_res (f : Frame) (s : State) : (sendRouted f s).res = s.res := by unfold sendRouted; (repeat' split) <;> rfl
@[simp] theorem sendRouted_hkp (f : Frame) (s : State) : (sendRouted f s).hkp = s.hkp := by unfold sendRouted; (repeat' split) <;> rfl
@[simp] theorem sendRouted_eng (f : Frame) (s : State) : (sendRouted f s).eng = s.eng := by unfold sendRouted; (repeat' split) <;> rfl
@[simp] theorem sendRouted_freeCtr (f : Frame) (s : State) : (sendRouted f s).freeCtr = s.freeCtr := by unfold sendRouted; (repeat' split) <;> rfl
@[simp] theorem sendRouted_pending (f : Frame) (s : State) : (sendRouted f s).pending = s.pending := by unfold sendRouted; (repeat' split) <;> rfl


@[simp] theorem sendPacket_shadow (d : Byte) (c : Fin 4) (y : Nat) (i : Iface) (g : Byte) (b : List Byte) (s : State) : (sendPacket d c y i g b s).shadow = s.shadow := foldl_keeps (fun x => x.shadow) _ (fun _ _ => by simp) _ _
@[simp] theorem sendPacket_active (d : Byte) (c : Fin 4) (y : Nat) (i : Iface) (g : Byte) (b : List Byte) (s : State) : (sendPacket d c y i g b s).active = s.active := foldl_keeps (fun x => x.active) _ (fun _ _ => by simp) _ _
@[simp] theorem sendPacket_gram (d : Byte) (c : Fin 4) (y : Nat) (i : Iface) (g : Byte) (b : List Byte) (s : State) : (sendPacket d c y i g b s).gram = s.gram := foldl_keeps (fun x => x.gram) _ (fun _ _ => by simp) _ _
@[simp] theorem sendPacket_sys (d : Byte) (c : Fin 4) (y : Nat) (i : Iface) (g : Byte) (b : List Byte) (s : State) : (sendPacket d c y i g b s).sys = s.sys := foldl_keeps (fun x => x.sys) _ (fun _ _ => by simp) _ _
@[simp] theorem sendPacket_safe (d : Byte) (c : Fin 4) (y : Nat) (i : Iface) (g : Byte) (b : List Byte) (s : State) : (sendPacket d c y i g b s).safe = s.safe := foldl_keeps (fun x => x.safe) _ (fun _ _ => by simp) _ _
@[simp] theorem sendPacket_hif (d : Byte) (c : Fin 4) (y : Nat) (i : Iface) (g : Byte) (b : List Byte) (s : State) : (sendPacket d c y i g b s).hif = s.hif := foldl_keeps (fun x => x.hif) _ (fun _ _ => by simp) _ _
@[simp] theorem sendPacket_sec (d : Byte) (c : Fin 4) (y : Nat) (i : Iface) (g : Byte) (b : List Byte) (s : State) : (sendPacket d c y i g b s).sec = s.sec := foldl_keeps (fun x => x.sec) _ (fun _ _ => by simp) _ _
@[simp] theorem sendPacket_nvm (d : Byte) (c : Fin 4) (y : Nat) (i : Iface) (g : Byte) (b : List Byte) (s : State) : (sendPacket d c y i g b s).nvm = s.nvm := foldl_keeps (fun x => x.nvm) _ (fun _ _ => by simp) _ _
@[simp] theorem sendPacket_flt (d : Byte) (c : Fin 4) (y : Nat) (i : Iface) (g : Byte) (b : List Byte) (s : State) : (sendPacket d c y i g b s).flt = s.flt := foldl_keeps (fun x => x.flt) _ (fun _ _ => by simp) _ _
@[simp] theorem sendPacket_snuff (d : Byte) (c : Fin 4) (y : Nat) (i : Iface) (g : Byte) (b : List Byte) (s : State) : (sendPacket d c y i g b s).snuff = s.snuff := foldl_keeps (fun x => x.snuff) _ (fun _ _ => by simp) _ _
@[simp] theorem sendPacket_snuffDue (d : Byte) (c : Fin 4) (y : Nat) (i : Iface) (g : Byte) (b : List Byte) (s : State) : (sendPacket d c y i g b s).snuffDue = s.snuffDue := foldl_keeps (fun x => x.snuffDue) _ (fun _ _ => by simp) _ _
@[simp] theorem sendPacket_snuffOff (d : Byte) (c : Fin 4) (y : Nat) (i : Iface) (g : Byte) (b : List Byte) (s : State) : (sendPacket d c y i g b s).snuffOff = s.snuffOff := foldl_keeps (fun x => x.snuffOff) _ (fun _ _ => by simp) _ _
@[simp] theorem sendPacket_snuffWrite (d : Byte) (c : Fin 4) (y : Nat) (i : Iface) (g : Byte) (b : List Byte) (s : State) : (sendPacket d c y i g b s).snuffWrite = s.snuffWrite := foldl_keeps (fun x => x.snuffWrite) _ (fun _ _ => by simp) _ _
@[simp] theorem sendPacket_grid (d : Byte) (c : Fin 4) (y : Nat) (i : Iface) (g : Byte) (b : List Byte) (s : State) : (sendPacket d c y i g b s).grid = s.grid := foldl_keeps (fun x => x.grid) _ (fun _ _ => by simp) _ _
@[simp] theorem sendPacket_tch (d : Byte) (c : Fin 4) (y : Nat) (i : Iface) (g : Byte) (b : List Byte) (s : State) : (sendPacket d c y i g b s).tch = s.tch := foldl_keeps (fun x => x.tch) _ (fun _ _ => by simp) _ _
@[simp] theorem sendPacket_carr (d : Byte) (c : Fin 4) (y : Nat) (i : Iface) (g : Byte) (b : List Byte) (s : State) : (sendPacket d c y i g b s).carr = s.carr := foldl_keeps (fun x => x.carr) _ (fun _ _ => by simp) _ _
@[simp] theorem sendPacket_brdg (d : Byte) (c : Fin 4) (y : Nat) (i : Iface) (g : Byte) (b : List Byte) (s : State) : (sendPacket d c y i g b s).brdg = s.brdg := foldl_keeps (fun x => x.brdg) _ (fun _ _ => by simp) _ _
@[simp] theorem sendPacket_conv (d : Byte) (c : Fin 4) (y : Nat) (i : Iface) (g : Byte) (b : List Byte) (s : State) : (sendPacket d c y i g b s).conv = s.conv := foldl_keeps (fun x => x.conv) _ (fun _ _ => by simp) _ _
@[simp] theorem sendPacket_time (d : Byte) (c : Fin 4) (y : Nat) (i : Iface) (g : Byte) (b : List Byte) (s : State) : (sendPacket d c y i g b s).time = s.time := foldl_keeps (fun x => x.time) _ (fun _ _ => by simp) _ _
@[simp] theorem sendPacket_res (d : Byte) (c : Fin 4) (y : Nat) (i : Iface) (g : Byte) (b : List Byte) (s : State) : (sendPacket d c y i g b s).res = s.res := foldl_keeps (fun x => x.res) _ (fun _ _ => by simp) _ _
@[simp] theorem sendPacket_hkp (d : Byte) (c : Fin 4) (y : Nat) (i : Iface) (g : Byte) (b : List Byte) (s : State) : (sendPacket d c y i g b s).hkp = s.hkp := foldl_keeps (fun x => x.hkp) _ (fun _ _ => by simp) _ _
@[simp] theorem sendPacket_eng (d : Byte) (c : Fin 4) (y : Nat) (i : Iface) (g : Byte) (b : List Byte) (s : State) : (sendPacket d c y i g b s).eng = s.eng := foldl_keeps (fun x => x.eng) _ (fun _ _ => by simp) _ _
@[simp] theorem sendPacket_freeCtr (d : Byte) (c : Fin 4) (y : Nat) (i : Iface) (g : Byte) (b : List Byte) (s : State) : (sendPacket d c y i g b s).freeCtr = s.freeCtr := foldl_keeps (fun x => x.freeCtr) _ (fun _ _ => by simp) _ _
@[simp] theorem sendPacket_pending (d : Byte) (c : Fin 4) (y : Nat) (i : Iface) (g : Byte) (b : List Byte) (s : State) : (sendPacket d c y i g b s).pending = s.pending := foldl_keeps (fun x => x.pending) _ (fun _ _ => by simp) _ _

@[simp] theorem modeFrames_shadow (d : Byte) (b : List Byte) (s : State) : (modeFrames d b s).shadow = s.shadow := sendPacket_shadow _ _ _ _ _ _ _
@[simp] theorem modeFrames_active (d : Byte) (b : List Byte) (s : State) : (modeFrames d b s).active = s.active := sendPacket_active _ _ _ _ _ _ _
@[simp] theorem modeFrames_gram (d : Byte) (b : List Byte) (s : State) : (modeFrames d b s).gram = s.gram := sendPacket_gram _ _ _ _ _ _ _
@[simp] theorem modeFrames_sys (d : Byte) (b : List Byte) (s : State) : (modeFrames d b s).sys = s.sys := sendPacket_sys _ _ _ _ _ _ _
@[simp] theorem modeFrames_safe (d : Byte) (b : List Byte) (s : State) : (modeFrames d b s).safe = s.safe := sendPacket_safe _ _ _ _ _ _ _
@[simp] theorem modeFrames_hif (d : Byte) (b : List Byte) (s : State) : (modeFrames d b s).hif = s.hif := sendPacket_hif _ _ _ _ _ _ _
@[simp] theorem modeFrames_sec (d : Byte) (b : List Byte) (s : State) : (modeFrames d b s).sec = s.sec := sendPacket_sec _ _ _ _ _ _ _
@[simp] theorem modeFrames_nvm (d : Byte) (b : List Byte) (s : State) : (modeFrames d b s).nvm = s.nvm := sendPacket_nvm _ _ _ _ _ _ _
@[simp] theorem modeFrames_flt (d : Byte) (b : List Byte) (s : State) : (modeFrames d b s).flt = s.flt := sendPacket_flt _ _ _ _ _ _ _
@[simp] theorem modeFrames_snuff (d : Byte) (b : List Byte) (s : State) : (modeFrames d b s).snuff = s.snuff := sendPacket_snuff _ _ _ _ _ _ _
@[simp] theorem modeFrames_snuffDue (d : Byte) (b : List Byte) (s : State) : (modeFrames d b s).snuffDue = s.snuffDue := sendPacket_snuffDue _ _ _ _ _ _ _
@[simp] theorem modeFrames_snuffOff (d : Byte) (b : List Byte) (s : State) : (modeFrames d b s).snuffOff = s.snuffOff := sendPacket_snuffOff _ _ _ _ _ _ _
@[simp] theorem modeFrames_snuffWrite (d : Byte) (b : List Byte) (s : State) : (modeFrames d b s).snuffWrite = s.snuffWrite := sendPacket_snuffWrite _ _ _ _ _ _ _
@[simp] theorem modeFrames_grid (d : Byte) (b : List Byte) (s : State) : (modeFrames d b s).grid = s.grid := sendPacket_grid _ _ _ _ _ _ _
@[simp] theorem modeFrames_tch (d : Byte) (b : List Byte) (s : State) : (modeFrames d b s).tch = s.tch := sendPacket_tch _ _ _ _ _ _ _
@[simp] theorem modeFrames_carr (d : Byte) (b : List Byte) (s : State) : (modeFrames d b s).carr = s.carr := sendPacket_carr _ _ _ _ _ _ _
@[simp] theorem modeFrames_brdg (d : Byte) (b : List Byte) (s : State) : (modeFrames d b s).brdg = s.brdg := sendPacket_brdg _ _ _ _ _ _ _
@[simp] theorem modeFrames_conv (d : Byte) (b : List Byte) (s : State) : (modeFrames d b s).conv = s.conv := sendPacket_conv _ _ _ _ _ _ _
@[simp] theorem modeFrames_time (d : Byte) (b : List Byte) (s : State) : (modeFrames d b s).time = s.time := sendPacket_time _ _ _ _ _ _ _
@[simp] theorem modeFrames_res (d : Byte) (b : List Byte) (s : State) : (modeFrames d b s).res = s.res := sendPacket_res _ _ _ _ _ _ _
@[simp] theorem modeFrames_hkp (d : Byte) (b : List Byte) (s : State) : (modeFrames d b s).hkp = s.hkp := sendPacket_hkp _ _ _ _ _ _ _
@[simp] theorem modeFrames_eng (d : Byte) (b : List Byte) (s : State) : (modeFrames d b s).eng = s.eng := sendPacket_eng _ _ _ _ _ _ _
@[simp] theorem modeFrames_freeCtr (d : Byte) (b : List Byte) (s : State) : (modeFrames d b s).freeCtr = s.freeCtr := sendPacket_freeCtr _ _ _ _ _ _ _
@[simp] theorem modeFrames_pending (d : Byte) (b : List Byte) (s : State) : (modeFrames d b s).pending = s.pending := sendPacket_pending _ _ _ _ _ _ _

@[simp] theorem modeToAll_shadow (l : List Byte) (b : List Byte) (s : State) : (modeToAll l b s).shadow = s.shadow := foldl_keeps (fun x => x.shadow) _ (fun _ _ => by simp) _ _
@[simp] theorem modeToAll_active (l : List Byte) (b : List Byte) (s : State) : (modeToAll l b s).active = s.active := foldl_keeps (fun x => x.active) _ (fun _ _ => by simp) _ _
@[simp] theorem modeToAll_gram (l : List Byte) (b : List Byte) (s : State) : (modeToAll l b s).gram = s.gram := foldl_keeps (fun x => x.gram) _ (fun _ _ => by simp) _ _
@[simp] theorem modeToAll_sys (l : List Byte) (b : List Byte) (s : State) : (modeToAll l b s).sys = s.sys := foldl_keeps (fun x => x.sys) _ (fun _ _ => by simp) _ _
@[simp] theorem modeToAll_safe (l : List Byte) (b : List Byte) (s : State) : (modeToAll l b s).safe = s.safe := foldl_keeps (fun x => x.safe) _ (fun _ _ => by simp) _ _
@[simp] theorem modeToAll_hif (l : List Byte) (b : List Byte) (s : State) : (modeToAll l b s).hif = s.hif := foldl_keeps (fun x => x.hif) _ (fun _ _ => by simp) _ _
@[simp] theorem modeToAll_sec (l : List Byte) (b : List Byte) (s : State) : (modeToAll l b s).sec = s.sec := foldl_keeps (fun x => x.sec) _ (fun _ _ => by simp) _ _
@[simp] theorem modeToAll_nvm (l : List Byte) (b : List Byte) (s : State) : (modeToAll l b s).nvm = s.nvm := foldl_keeps (fun x => x.nvm) _ (fun _ _ => by simp) _ _
@[simp] theorem modeToAll_flt (l : List Byte) (b : List Byte) (s : State) : (modeToAll l b s).flt = s.flt := foldl_keeps (fun x => x.flt) _ (fun _ _ => by simp) _ _
@[simp] theorem modeToAll_snuff (l : List Byte) (b : List Byte) (s : State) : (modeToAll l b s).snuff = s.snuff := foldl_keeps (fun x => x.snuff) _ (fun _ _ => by simp) _ _
@[simp] theorem modeToAll_snuffDue (l : List Byte) (b : List Byte) (s : State) : (modeToAll l b s).snuffDue = s.snuffDue := foldl_keeps (fun x => x.snuffDue) _ (fun _ _ => by simp) _ _
@[simp] theorem modeToAll_snuffOff (l : List Byte) (b : List Byte) (s : State) : (modeToAll l b s).snuffOff = s.snuffOff := foldl_keeps (fun x => x.snuffOff) _ (fun _ _ => by simp) _ _
@[simp] theorem modeToAll_snuffWrite (l : List Byte) (b : List Byte) (s : State) : (modeToAll l b s).snuffWrite = s.snuffWrite := foldl_keeps (fun x => x.snuffWrite) _ (fun _ _ => by simp) _ _
@[simp] theorem modeToAll_grid (l : List Byte) (b : List Byte) (s : State) : (modeToAll l b s).grid = s.grid := foldl_keeps (fun x => x.grid) _ (fun _ _ => by simp) _ _
@[simp] theorem modeToAll_tch (l : List Byte) (b : List Byte) (s : State) : (modeToAll l b s).tch = s.tch := foldl_keeps (fun x => x.tch) _ (fun _ _ => by simp) _ _
@[simp] theorem modeToAll_carr (l : List Byte) (b : List Byte) (s : State) : (modeToAll l b s).carr = s.carr := foldl_keeps (fun x => x.carr) _ (fun _ _ => by simp) _ _
@[simp] theorem modeToAll_brdg (l : List Byte) (b : List Byte) (s : State) : (modeToAll l b s).brdg = s.brdg := foldl_keeps (fun x => x.brdg) _ (fun _ _ => by simp) _ _
@[simp] theorem modeToAll_conv (l : List Byte) (b : List Byte) (s : State) : (modeToAll l b s).conv = s.conv := foldl_keeps (fun x => x.conv) _ (fun _ _ => by simp) _ _
@[simp] theorem modeToAll_time (l : List Byte) (b : List Byte) (s : State) : (modeToAll l b s).time = s.time := foldl_keeps (fun x => x.time) _ (fun _ _ => by simp) _ _
@[simp] theorem modeToAll_res (l : List Byte) (b : List Byte) (s : State) : (modeToAll l b s).res = s.res := foldl_keeps (fun x => x.res) _ (fun _ _ => by simp) _ _
@[simp] theorem modeToAll_hkp (l : List Byte) (b : List Byte) (s : State) : (modeToAll l b s).hkp = s.hkp := foldl_keeps (fun x => x.hkp) _ (fun _ _ => by simp) _ _
@[simp] theorem modeToAll_eng (l : List Byte) (b : List Byte) (s : State) : (modeToAll l b s).eng = s.eng := foldl_keeps (fun x => x.eng) _ (fun _ _ => by simp) _ _
@[simp] theorem modeToAll_freeCtr (l : List Byte) (b : List Byte) (s : State) : (modeToAll l b s).freeCtr = s.freeCtr := foldl_keeps (fun x => x.freeCtr) _ (fun _ _ => by simp) _ _
@[simp] theorem modeToAll_pending (l : List Byte) (b : List Byte) (s : State) : (modeToAll l b s).pending = s.pending := foldl_keeps (fun x => x.pending) _ (fun _ _ => by simp) _ _

@[simp] theorem noteAnswer_shadow (i : Iface) (a b c : Byte) (s : State) : (noteAnswer i a b c s).shadow = s.shadow := rfl
@[simp] theorem noteAnswer_active (i : Iface) (a b c : Byte) (s : State) : (noteAnswer i a b c s).active = s.active := rfl
@[simp] theorem noteAnswer_gram (i : Iface) (a b c : Byte) (s : State) : (noteAnswer i a b c s).gram = s.gram := rfl
@[simp] theorem noteAnswer_sys (i : Iface) (a b c : Byte) (s : State) : (noteAnswer i a b c s).sys = s.sys := rfl
@[simp] theorem noteAnswer_safe (i : Iface) (a b c : Byte) (s : State) : (noteAnswer i a b c s).safe = s.safe := rfl
@[simp] theorem noteAnswer_hif (i : Iface) (a b c : Byte) (s : State) : (noteAnswer i a b c s).hif = s.hif := rfl
@[simp] theorem noteAnswer_nvm (i : Iface) (a b c : Byte) (s : State) : (noteAnswer i a b c s).nvm = s.nvm := rfl
@[simp] theorem noteAnswer_flt (i : Iface) (a b c : Byte) (s : State) : (noteAnswer i a b c s).flt = s.flt := rfl
@[simp] theorem noteAnswer_snuff (i : Iface) (a b c : Byte) (s : State) : (noteAnswer i a b c s).snuff = s.snuff := rfl
@[simp] theorem noteAnswer_snuffDue (i : Iface) (a b c : Byte) (s : State) : (noteAnswer i a b c s).snuffDue = s.snuffDue := rfl
@[simp] theorem noteAnswer_snuffOff (i : Iface) (a b c : Byte) (s : State) : (noteAnswer i a b c s).snuffOff = s.snuffOff := rfl
@[simp] theorem noteAnswer_snuffWrite (i : Iface) (a b c : Byte) (s : State) : (noteAnswer i a b c s).snuffWrite = s.snuffWrite := rfl
@[simp] theorem noteAnswer_grid (i : Iface) (a b c : Byte) (s : State) : (noteAnswer i a b c s).grid = s.grid := rfl
@[simp] theorem noteAnswer_tch (i : Iface) (a b c : Byte) (s : State) : (noteAnswer i a b c s).tch = s.tch := rfl
@[simp] theorem noteAnswer_carr (i : Iface) (a b c : Byte) (s : State) : (noteAnswer i a b c s).carr = s.carr := rfl
@[simp] theorem noteAnswer_brdg (i : Iface) (a b c : Byte) (s : State) : (noteAnswer i a b c s).brdg = s.brdg := rfl
@[simp] theorem noteAnswer_conv (i : Iface) (a b c : Byte) (s : State) : (noteAnswer i a b c s).conv = s.conv := rfl
@[simp] theorem noteAnswer_time (i : Iface) (a b c : Byte) (s : State) : (noteAnswer i a b c s).time = s.time := rfl
@[simp] theorem noteAnswer_link (i : Iface) (a b c : Byte) (s : State) : (noteAnswer i a b c s).link = s.link := rfl
@[simp] theorem noteAnswer_res (i : Iface) (a b c : Byte) (s : State) : (noteAnswer i a b c s).res = s.res := rfl
@[simp] theorem noteAnswer_hkp (i : Iface) (a b c : Byte) (s : State) : (noteAnswer i a b c s).hkp = s.hkp := rfl
@[simp] theorem noteAnswer_eng (i : Iface) (a b c : Byte) (s : State) : (noteAnswer i a b c s).eng = s.eng := rfl
@[simp] theorem noteAnswer_freeCtr (i : Iface) (a b c : Byte) (s : State) : (noteAnswer i a b c s).freeCtr = s.freeCtr := rfl
@[simp] theorem noteAnswer_pending (i : Iface) (a b c : Byte) (s : State) : (noteAnswer i a b c s).pending = s.pending := rfl

@[simp] theorem endSession_shadow (k : Fin 6) (s : State) : (endSession k s).shadow = s.shadow := rfl
@[simp] theorem endSession_active (k : Fin 6) (s : State) : (endSession k s).active = s.active := rfl
@[simp] theorem endSession_gram (k : Fin 6) (s : State) : (endSession k s).gram = s.gram := rfl
@[simp] theorem endSession_sys (k : Fin 6) (s : State) : (endSession k s).sys = s.sys := rfl
@[simp] theorem endSession_safe (k : Fin 6) (s : State) : (endSession k s).safe = s.safe := rfl
@[simp] theorem endSession_hif (k : Fin 6) (s : State) : (endSession k s).hif = s.hif := rfl
@[simp] theorem endSession_flt (k : Fin 6) (s : State) : (endSession k s).flt = s.flt := rfl
@[simp] theorem endSession_snuff (k : Fin 6) (s : State) : (endSession k s).snuff = s.snuff := rfl
@[simp] theorem endSession_snuffDue (k : Fin 6) (s : State) : (endSession k s).snuffDue = s.snuffDue := rfl
@[simp] theorem endSession_snuffOff (k : Fin 6) (s : State) : (endSession k s).snuffOff = s.snuffOff := rfl
@[simp] theorem endSession_snuffWrite (k : Fin 6) (s : State) : (endSession k s).snuffWrite = s.snuffWrite := rfl
@[simp] theorem endSession_grid (k : Fin 6) (s : State) : (endSession k s).grid = s.grid := rfl
@[simp] theorem endSession_tch (k : Fin 6) (s : State) : (endSession k s).tch = s.tch := rfl
@[simp] theorem endSession_carr (k : Fin 6) (s : State) : (endSession k s).carr = s.carr := rfl
@[simp] theorem endSession_brdg (k : Fin 6) (s : State) : (endSession k s).brdg = s.brdg := rfl
@[simp] theorem endSession_conv (k : Fin 6) (s : State) : (endSession k s).conv = s.conv := rfl
@[simp] theorem endSession_time (k : Fin 6) (s : State) : (endSession k s).time = s.time := rfl
@[simp] theorem endSession_link (k : Fin 6) (s : State) : (endSession k s).link = s.link := rfl
@[simp] theorem endSession_res (k : Fin 6) (s : State) : (endSession k s).res = s.res := rfl
@[simp] theorem endSession_hkp (k : Fin 6) (s : State) : (endSession k s).hkp = s.hkp := rfl
@[simp] theorem endSession_eng (k : Fin 6) (s : State) : (endSession k s).eng = s.eng := rfl
@[simp] theorem endSession_freeCtr (k : Fin 6) (s : State) : (endSession k s).freeCtr = s.freeCtr := rfl
@[simp] theorem endSession_pending (k : Fin 6) (s : State) : (endSession k s).pending = s.pending := rfl

@[simp] theorem setShw_own (a : Nat) (w : Word) (s : State) : (setShw a w s).shadow = fileSet a w s.shadow := rfl
@[simp] theorem setAcw_own (a : Nat) (w : Word) (s : State) : (setAcw a w s).active = fileSet a w s.active := rfl
@[simp] theorem withShadow_own (f : RegFile) (s : State) : (withShadow f s).shadow = f := rfl
@[simp] theorem modEng_own (f : EngSt → EngSt) (s : State) : (modEng f s).eng = f s.eng := rfl
@[simp] theorem edgeLine_own (n : Nat) (s : State) : (edgeLine n s).eng = { s.eng with edges := s.eng.edges ||| (1#32 <<< n) } := rfl
@[simp] theorem modEng_id (s : State) : modEng id s = s := rfl

end Sys2Proof.Machine
end

