-- ==== Sys2Proof/Tests/Slice0.lean ====
section
/-! SUPPORT. The model's own tests: ill-formed terms refused, a state and operands that meet the hypotheses of each
statement, and one step of a few commands. -/
namespace Sys2Proof.Tests

open Sys2Proof Sys2Proof.Machine

/-! ### States built for the tests -/

/-- A local packet for this device. -/
def pkt (f : Byte) (q : List Byte) : Packet := ⟨.loc .twi, 0x42, 0xFE, f, q⟩

/-- An awake device whose firmware runs, its time acquired under a schedule of 2,125 us. -/
def live : State := { State.reset with
  sys := { State.reset.sys with power := .active, fwRun := true, cfgLoaded := true, inReset := false }
  time := { State.reset.time with state := .free, acq := true, ns := 100000000, sched := some ⟨2125, 0, 0⟩, epoch := some 47, incr := 0 }
  sec := { State.reset.sec with sessions := State.reset.sec.sessions.set 0 { ({} : Session) with role := 3 } } }

/-- The engine of that device, changed. -/
def engS (f : EngSt → EngSt) : State := modEng f live

/-- A hook in progress. -/
def hook0 : HookSave := ⟨0, Vector.replicate 8 0x11, 0x8000, 0, 0x0123, 64, 0, 0⟩

/-- An engine in the extension region. -/
def extS : State := engS (fun e => { e with
  pc := 0xC010, hook := some hook0, sp := 0x7FFE, extWords := List.replicate 64 0, aps := e.aps.set 0 { base := 0x01000 } })

/-- What `Admitted` asks of a local packet for this device. -/
theorem admitted_local (op : Nat) (p : Packet) (s : State) (i : Iface) (info : OpInfo) (h1 : opInfo op = some info)
    (h2 : canTake p.origin s = true) (h3 : p.flags = 0) (h4 : admitCheck info p (takePacket p.origin s) = none)
    (h5 : p.origin = .loc i) (h6 : p.dest ≠ 0xFF) (h7 : destHere (takePacket p.origin s) p.dest = true) :
    Admitted op p s false (takePacket p.origin s) :=
  ⟨info, h1, h2, h3, h4, by rw [h5]; exact .inl ⟨h6, h5 ▸ h7, rfl, rfl⟩⟩

/-! ### Ill-formed terms -/

theorem test_reset_inv : Inv State.reset = true := by decide

theorem test_wf_params : (Instr.nop (pkt 0 (List.replicate 4097 0))).wf = false := by simp only [Instr.wf, Packet.wf, pkt, List.length_replicate]; decide
theorem test_wf_origin : (Instr.nop { pkt 0 [] with origin := .remote 0xF0 .twi }).wf = false := by decide
theorem test_wf_unknown : (Instr.unknownOpcode (.remote 0xF0 .twi) []).wf = false := by decide
theorem test_wf_frame_chips : (Instr.gridFrameComplete ⟨[], [], [], false⟩).wf = false := by decide
theorem test_wf_frame_shadow : (Instr.gridFrameComplete ⟨List.replicate 160 [], [], List.replicate 161 [], false⟩).wf = false := by
  simp only [Instr.wf, FrameInput.wf, List.length_replicate]; decide
theorem test_wf_frame_overload : (Instr.gridFrameComplete ⟨List.replicate 160 [], [160], [], false⟩).wf = false := by
  simp only [Instr.wf, FrameInput.wf, List.length_replicate]; decide
theorem test_wf_idle : (Instr.idleListenFrame (List.replicate 161 none)).wf = false := by simp only [Instr.wf, List.length_replicate]; decide
theorem test_wf_ember : (Instr.emberScan (List.replicate 9 none)).wf = false := by decide
theorem test_wf_sample : (Instr.bridgeSample 0 (List.replicate 33 ⟨0, 0, 0⟩)).wf = false := by simp only [Instr.wf, List.length_replicate]; decide
theorem test_wf_round : (Instr.housekeepingRound [] true).wf = false := by decide
theorem test_wf_forward_hops : (Instr.frameForward 0 ⟨0, 0, 0, 0, 32, []⟩).wf = false := by decide
theorem test_wf_forward_payload : (Instr.frameForward 0 ⟨0, 0, 0, 0, 1, List.replicate 4097 0⟩).wf = false := by simp only [Instr.wf, List.length_replicate]; decide
theorem test_wf_segment_bytes : (Instr.cmdFrameReceive 0 0 0 ⟨.twi, 0, 0, true, List.replicate 253 0⟩).wf = false := by
  simp only [Instr.wf, Segment.wf, List.length_replicate]; decide
theorem test_wf_segment_number : (Instr.rplFrameReceive 0 0 ⟨.twi, 0, 256, true, []⟩).wf = false := by decide
theorem test_wf_stream : (Instr.streamFrameReceive 0 0 ⟨0, 0, List.replicate 4097 0⟩).wf = false := by simp only [Instr.wf, List.length_replicate]; decide
theorem test_wf_alarm : (Instr.alarmFrameReceive 0 0 ⟨0, false, []⟩).wf = false := by decide
theorem test_wf_assign : (Instr.assignReceive 0 ⟨0, 0, List.replicate 25 (0, 0)⟩).wf = false := by simp only [Instr.wf, Assign.wf, List.length_replicate]; decide
theorem test_wf_counts : (Instr.qspiRead 0 0).wf = false ∧ (Instr.readState 0).wf = false ∧ (Instr.bulkRead 0).wf = false
    ∧ (Instr.qspiWrite 0 []).wf = false := by decide
theorem test_wf_good : (Instr.nop (pkt 0 [])).wf = true ∧ (Instr.streamFrameReceive 0 0 ⟨0, 0, []⟩).wf = true := by decide

/-! ### The statements about every command -/

theorem wit_StepFront : ({ State.reset with pending := [.mulDelivery] } : State).pending = .mulDelivery :: []
    ∧ State.reset.pending = [] ∧ State.reset.time.state = .stopped ∧ live.pending = [] ∧ live.time.state ≠ .stopped
    ∧ live.time.frac < 2 ^ 32 := by decide

theorem wit_InvStep : ∃ t, Inv State.reset = true ∧ step State.reset = .next t := ⟨_, by decide, rfl⟩

theorem wit_SessionRoles : ∃ t, exec (.lockoutEnd 2) State.reset = .next t := ⟨_, rfl⟩

theorem wit_MemoryCanonical : Memory.wf ([] : Memory) = true
    ∧ Memory.wf State.reset.res.mem = true ∧ Memory.wf State.reset.gram = true ∧ Memory.wf State.reset.eng.ram = true
    ∧ 0x001FFFFF + ([1] : List Byte).length ≤ 0x00200000 ∧ 0x54FFF + ([1] : List Byte).length ≤ 0x55000
    ∧ 0x6C000 + ([1] : List Byte).length ≤ 0x80000 ∧ 0x7FFF + ([1] : List Byte).length ≤ 0x8000 := by decide

theorem test_memory_write : memRead (memWrite 5 [1, 2] []) 4 4 = [0, 1, 2, 0] := by decide

/-! ### The engine -/

theorem wit_EngReady : EngReady 1 (engS id) ∧ EngReady 2 (engS (fun e => { e with pc := 0xBFFE }))
    ∧ EngReady 1 (engS (fun e => { e with pc := 0xBFFF })) := by unfold EngReady; decide

theorem wit_AluArithmetic : (15 : Nat) ≤ 15 ∧ (aluNeg 0x80).val = 0x80 ∧ (aluNeg 0x80).v = some true
    ∧ (aluRol 0x81 1).val = 0x03 ∧ (aluRol 0x81 1).c = some true := by decide
theorem wit_ArithmeticEdges : EngReady 1 (engS id) ∧ (1 : Nat) ≤ 1 ∧ (7 : Nat) ≤ 7 ∧ (9 : Nat) ≤ 15 ∧ 16 % 8 = 0 ∧ 9 % 8 ≠ 0 := by
  unfold EngReady; decide
theorem wit_RegisterRows : EngReady 1 (engS id) ∧ EngReady 2 (engS id) := by unfold EngReady; decide
theorem wit_RegisterFrame : EngReady 1 (engS id) ∧ EngReady 2 (engS id) ∧ (engS id).eng.hook = none ∧ (engS id).eng.frp = false := by
  unfold EngReady; decide

theorem wit_SpecialRegisters : EngReady 1 (engS id) ∧ (srWrite 0 0 (engS id).eng).isSome = true ∧ (5 : Fin 16).val ≤ 5
    ∧ 6 ≤ (6 : Fin 16).val := by unfold EngReady; decide

theorem wit_MultiplierDivider : EngReady 1 (engS id) ∧ (engS id).eng.mulDue = [] ∧ (engS id).eng.hook = none ∧ (engS id).eng.frp = false
    ∧ unitsRun (engS id) = true
    ∧ (engS (fun e => { e with mulDue := [⟨1, 7⟩] })).eng.mulDue = ⟨1, 7⟩ :: []
    ∧ (engS (fun e => { e with divDue := some ⟨1, 2, 3, false, false⟩ })).eng.divDue = some ⟨1, 2, 3, false, false⟩
    ∧ unitsRun State.reset = false ∧ (0x0A00 : Half).toNat / (0x0B : Byte).toNat ≤ 255
    ∧ -128 ≤ (0xFF80 : Half).toInt.tdiv (1 : Byte).toInt ∧ (0x7F : Half).toInt.tdiv (1 : Byte).toInt ≤ 127 := by unfold EngReady; decide

theorem test_mulu : ∃ t, exec (.mulu 1 2) (engS (fun e => { e with w := (e.w.set 1 0xFF).set 2 0xFF })) = .next t
    ∧ (due t).eng.mul = 0 ∧ (due (spend 1 t)).eng.mul = 0xFE01 := ⟨_, rfl, by decide, by decide⟩

theorem test_add_wraps : ∃ t, exec (.add 1 2) (engS (fun e => { e with w := (e.w.set 1 0x7F).set 2 1 })) = .next t
    ∧ wGet t.eng 1 = 0x80 ∧ t.eng.fv = true ∧ t.eng.fc = false ∧ t.eng.pc = 1 := ⟨_, rfl, by decide, by decide, by decide, by decide⟩

/-- LD from the last byte of RAM and from an aperture; a store there. -/
theorem wit_LoadStore : EngReady 1 (engS (fun e => { e with w := e.w.set 1 0x7F |>.set 0 0xFF }))
    ∧ (pGet (engS (fun e => { e with w := e.w.set 1 0x7F |>.set 0 0xFF })).eng 0 + 0).toNat = 0x7FFF
    ∧ inExt (engS id).eng = false ∧ (engS id).eng.hook = none := by unfold EngReady; decide

theorem wit_DataSpace_ram : inExt (engS id).eng = false ∧ (0xC000 : Nat) ≤ 0xC000 ∧ 0xFEFF < 0xFF00
    ∧ Memory.wf (engS id).res.mem = true ∧ Memory.wf (engS id).eng.ram = true := by decide

theorem wit_DataSpace_aperture :
    (vget (engS id).eng.aps ((0x8000 - 0x8000) / 0x1000) {}).base.toNat * 0x1000 + 0x8000 % 0x1000 < 0x00200000
    ∧ (vget (engS (fun e => { e with aps := e.aps.set 3 { base := 0x807 } })).eng.aps ((0xBFFF - 0x8000) / 0x1000) {}).base.toNat * 0x1000
        + 0xBFFF % 0x1000 = 0x00807FFF
    ∧ (vget (engS (fun e => { e with aps := e.aps.set 1 { base := 0x2000 } })).eng.aps ((0x9000 - 0x8000) / 0x1000) {}).base.toNat * 0x1000
        + 0x9000 % 0x1000 = 0x02000000
    ∧ rangeOf ((vget (engS (fun e => { e with aps := e.aps.set 2 { base := 0x300 } })).eng.aps ((0xA000 - 0x8000) / 0x1000) {}).base.toNat * 0x1000
        + 0xA000 % 0x1000) = none := by decide

/-- A register word through an aperture: bytes 0 and 1 with a latch held, and a gathered word before its byte 3. -/
theorem wit_DataSpace_register :
    let e := (engS (fun e => { e with aps := e.aps.set 0 { base := 0x1000, latch := some (0x01000000, 7), wbuf := some (0x01000000, 9) } })).eng
    (vget e.aps 0 {}).base.toNat * 0x1000 + 0x8001 % 0x1000 = 0x01000001 ∧ (vget e.aps 0 {}).latch = some (0x01000001 / 4 * 4, 7)
    ∧ (0x01000001 % 4 ≠ 0) ∧ (vget e.aps 0 {}).wbuf = some (0x01000003 / 4 * 4, 9) ∧ 0x01000003 % 4 = 3
    ∧ 0x01000003 / 4 * 4 ≠ Reg.secCfgLock ∧ (vget (engS id).eng.aps 0 {}).latch = none := by decide

theorem wit_DataSpace_extension : inExt extS.eng = true ∧ extMayTouch extS.eng 0x5FFF false = false
    ∧ extMayTouch extS.eng 0x5FFF true = false ∧ extMayTouch extS.eng 0x6000 false = true := by decide

/-- Pushes at the limit and below it, pops at the top of RAM and past it. -/
theorem wit_StackRows_room : EngReady 1 (engS (fun e => { e with sp := 0x8000, stackLim := 0x7FFC }))
    ∧ (due (engS (fun e => { e with sp := 0x7001, stackLim := 0x7000 }))).eng.stackLim.toNat
        ≤ (due (engS (fun e => { e with sp := 0x7001, stackLim := 0x7000 }))).eng.sp.toNat - 1
    ∧ (due (engS (fun e => { e with sp := 0x7002, stackLim := 0x7000 }))).eng.stackLim.toNat
        ≤ (due (engS (fun e => { e with sp := 0x7002, stackLim := 0x7000 }))).eng.sp.toNat - 2
    ∧ (due (engS (fun e => { e with sp := 0x7FFF }))).eng.sp.toNat + 1 ≤ 0x8000
    ∧ (due (engS (fun e => { e with sp := 0x7FFE }))).eng.sp.toNat + 2 ≤ 0x8000 := by unfold EngReady; decide

theorem wit_StackRows_fault : EngReady 1 (engS (fun e => { e with sp := 0x7000 })) ∧ EngReady 2 (engS (fun e => { e with sp := 0x7001 }))
    ∧ ((due (engS (fun e => { e with sp := 0x7000 }))).eng.sp - 1).toNat < (due (engS (fun e => { e with sp := 0x7000 }))).eng.stackLim.toNat
    ∧ ((due (engS (fun e => { e with sp := 0x7001 }))).eng.sp - 2).toNat < (due (engS (fun e => { e with sp := 0x7001 }))).eng.stackLim.toNat
    ∧ ((due (engS (fun e => { e with sp := 0x7003 }))).eng.sp - 4).toNat < (engS (fun e => { e with sp := 0x7003 })).eng.stackLim.toNat
    ∧ 0x8000 < (due (engS id)).eng.sp.toNat + 1 ∧ 0x8000 < (due (engS (fun e => { e with sp := 0x7FFD }))).eng.sp.toNat + 4
    ∧ inExt (due (engS id)).eng = false := by unfold EngReady; decide

theorem test_push_pop : ∃ t v, exec (.push 1) (engS (fun e => { e with w := e.w.set 1 0x5A })) = .next t ∧ t.eng.sp = 0x7FFF
    ∧ exec (.pop 2) t = .next v ∧ wGet v.eng 2 = 0x5A ∧ v.eng.sp = 0x8000 :=
  ⟨_, _, rfl, by decide, rfl, by decide, by decide⟩

theorem wit_Transfers : inExt (due (engS id)).eng = false ∧ (engS id).eng.frp = false ∧ (engS id).eng.hook = none
    ∧ isHookWord (((due (engS id)).eng.pc + 1 + (0x010 : BitVec 12).signExtend 16)) = false
    ∧ isHookWord 0xBFFF = false ∧ isHookWord 0xC020 = false
    ∧ 2 ≤ (due (engS id)).eng.sp.toNat ∧ (due (engS id)).eng.sp.toNat ≤ 0x8000
    ∧ (due (engS id)).eng.stackLim.toNat ≤ (due (engS id)).eng.sp.toNat - 2 := by decide

theorem wit_Transfers_extension : EngReady 1 extS ∧ EngReady 2 extS ∧ inExt (due extS).eng = true
    ∧ ((due extS).eng.pc + 1 + (0xFE0 : BitVec 12).signExtend 16).toNat < 0xC000 ∧ (pGet (due extS).eng 0).toNat < 0xC000 := by
  unfold EngReady; decide

theorem test_bra : ∃ t, exec (.bra 0xFFE) (engS (fun e => { e with pc := 0x0100 })) = .next t ∧ t.eng.pc = 0x00FF := ⟨_, rfl, by decide⟩

theorem wit_Skips : EngReady 1 (engS id) ∧ EngSkips 1 (engS (fun e => { e with skipNext := true }))
    ∧ EngSkips 2 (engS (fun e => { e with skipNext := true })) ∧ isRepRow (.add 0 0) = false ∧ isRepRow (.repImm 3) = true := by
  unfold EngReady EngSkips; decide
theorem wit_Skips_row : EngineRow (.repImm 3) 1 ∧ EngineRow (.jmp 0x1234) 2 := ⟨.repImm 3, .jmp 0x1234⟩

theorem test_skip_two_words : ∃ t, exec (.jmp 0x1234) (engS (fun e => { e with skipNext := true })) = .next t ∧ t.eng.pc = 2
    ∧ t.eng.skipNext = false := ⟨_, rfl, by decide, by decide⟩

/-- A body that ends at the last word of its region, one word more, a length of 0; a fourth level and a fifth. -/
theorem wit_Loops : EngReady 2 (engS (fun e => { e with pc := 0xBFFD })) ∧ (engS (fun e => { e with pc := 0xBFFD })).eng.hook = none
    ∧ (0xBFFD : Half).toNat + 2 + (1 : Half).toNat - 1 < 0xC000 ∧ ¬((0xBFFD : Half).toNat + 2 + (2 : Half).toNat - 1 < 0xC000)
    ∧ (engS (fun e => { e with ldepth := 3 })).eng.ldepth < 4 ∧ 4 ≤ (engS (fun e => { e with ldepth := 4 })).eng.ldepth
    ∧ (engS id).eng.ldepth = 0 ∧ 1 ≤ (engS (fun e => { e with ldepth := 1 })).eng.ldepth := by unfold EngReady; decide

theorem wit_Loops_end :
    let e := (engS (fun e => { e with pc := 9, ldepth := 2, loop := ⟨5, 9, 2⟩, loopStack := [⟨3, 9, 2⟩] })).eng
    0 < e.ldepth ∧ e.ldepth ≤ 4 ∧ e.pc.toNat ≤ e.loop.lend.toNat ∧ e.loop.lend.toNat < e.pc.toNat + 1 ∧ 1 < e.loop.lcount.toNat
    ∧ e.loopStack = ⟨3, 9, 2⟩ :: [] ∧ (9 : Half) = e.loop.lend := by decide

theorem test_loop_back : ∃ t, exec (.inc 1) (engS (fun e => { e with pc := 9, ldepth := 1, loop := ⟨5, 9, 2⟩ })) = .next t ∧ t.eng.pc = 5
    ∧ t.eng.loop.lcount = 1 := ⟨_, rfl, by decide, by decide⟩

theorem wit_Repetition : EngReady 1 (engS id) ∧ EngGoverned 1 (engS (fun e => { e with repFirst := true, frp := true, repcnt := 2 }))
    ∧ barsRep (engS id) (.bra 0) = true ∧ barsRep (engS id) (.add 0 0) = false
    ∧ (engS (fun e => { e with repFirst := true })).eng.repcnt = 0
    ∧ 1 < (engS (fun e => { e with repFirst := true, frp := true, repcnt := 2 })).eng.repcnt.toNat
    ∧ (engS (fun e => { e with frp := true, repcnt := 1 })).eng.repcnt.toNat ≤ 1 := by unfold EngReady EngGoverned; decide
theorem wit_Repetition_row : EngineRow (.bra 0) 1 ∧ EngineRow (.add 0 0) 1 := ⟨.bra 0, .add 0 0⟩
theorem wit_Repetition_function : (∀ e : EngSt, (id e).repcnt = e.repcnt ∧ (id e).hook = e.hook)
    ∧ (engS (fun e => { e with frp := true })).eng.hook = none := ⟨fun _ => ⟨rfl, rfl⟩, by decide⟩

/-- Line 17, the LPO tick, pending and enabled. -/
def irqS : State := { modEng (fun e => { e with fie := true, edges := 1#32 <<< 17 }) live with shadow := [(Reg.engIrqEn, 1#32 <<< 17)] }
theorem wit_Interrupts : unitsRun irqS = true ∧ irqS.eng.fie = true ∧ irqS.eng.skipNext = false ∧ irqS.eng.repFirst = false
    ∧ firstLine irqS = some 17 ∧ irqS.eng.hook = none ∧ 4 ≤ irqS.eng.sp.toNat ∧ irqS.eng.sp.toNat ≤ 0x8000
    ∧ irqS.eng.stackLim.toNat ≤ irqS.eng.sp.toNat - 4 ∧ unitsRun State.reset = false ∧ firstLine live = none := by decide
theorem wit_Interrupts_return : EngReady 1 (engS (fun e => { e with sp := 0x7FFC })) ∧ (0x7FFC : Half).toNat + 4 ≤ 0x8000
    ∧ firstLine (due (engS id)) = none ∧ EngReady 1 extS ∧ inExt (due extS).eng = true
    ∧ firstLine (due { irqS with eng := { irqS.eng with fie := false } }) ≠ none
    ∧ unitsRun { irqS with eng := { irqS.eng with waiting := true } } = true
    ∧ firstLine { irqS with eng := { irqS.eng with waiting := true } } = some 17 := by unfold EngReady; decide

theorem test_interrupt_vector : ∃ t, exec .interruptEntry irqS = .next t ∧ t.eng.pc = 0x0062 ∧ t.eng.sp = 0x7FFC ∧ t.eng.fie = false
    ∧ t.eng.edges = 0 := ⟨_, rfl, by decide, by decide, by decide, by decide⟩

theorem wit_CustomerOpcodes : EngReady 1 (engS id) ∧ ((engS id).eng.decode[0] : DecodeEntry).en = false
    ∧ ((engS (fun e => { e with decode := e.decode.set 0 ⟨0, true, true, 8⟩ })).eng.decode[0] : DecodeEntry).en = true
    ∧ fetchOk (due (engS (fun e => { e with pc := 0xC000 }))).eng 1 = false ∧ engineRuns (engS id) = true ∧ engineRuns State.reset = false
    ∧ inExt (engS id).eng = false ∧ engineRuns extS = true ∧ inExt extS.eng = true := by unfold EngReady; decide
theorem wit_CustomerOpcodes_word : legalWord (0x0001 : Half).toNat = false ∧ legalWord (0x0000 : Half).toNat = true := by decide

/-- A budget of 1 and a call to the last word of the hook table. -/
def callS : State := { engS (fun e => { e with pc := 0xBFF0 }) with shadow := [(Reg.engExtCfg, 0x00010000)] }
theorem wit_Hooks_call : EngReady 1 callS ∧ EngReady 2 callS ∧ callS.eng.hook = none ∧ callS.eng.frp = false ∧ callS.eng.pc.toNat < 0xC000
    ∧ 2 ≤ callS.eng.sp.toNat ∧ callS.eng.sp.toNat ≤ 0x8000 ∧ callS.eng.stackLim.toNat ≤ callS.eng.sp.toNat - 2
    ∧ fld (shw callS Reg.engExtCfg) 16 16 ≠ 0
    ∧ 0xC000 ≤ (callS.eng.pc + 1 + (0x00F : BitVec 12).signExtend 16).toNat := by unfold EngReady; decide

theorem wit_Hooks_return : EngReady 1 extS ∧ extS.eng.hook = some hook0 ∧ hook0.inHandler = 0 ∧ 0xC000 ≤ extS.eng.pc.toNat
    ∧ extS.eng.frp = false ∧ extS.eng.sp.toNat + 2 = hook0.sp.toNat ∧ extS.eng.sp.toNat + 2 ≤ 0x8000 ∧ Memory.wf extS.eng.ram = true
    ∧ extS.eng.ldepth ≤ 4 ∧ unitsRun extS = true ∧ hookRuns State.reset.eng = false := by unfold EngReady; decide
theorem wit_Hooks_budget : (∀ e : EngSt, (id e).hook = e.hook ∧ (id e).w = e.w) ∧ 63 < hook0.budget ∧ hook0.budget ≤ 64 :=
  ⟨fun _ => ⟨rfl, rfl⟩, by decide, by decide⟩

theorem test_hook_call : ∃ t, exec (.callAbs 0xC002) callS = .next t ∧ t.eng.pc = 0xC002 ∧ t.eng.hook.map (·.hook) = some 1
    ∧ t.eng.hook.map (·.ret) = some 0xBFF2 ∧ t.eng.hook.map (·.budget) = some 64 :=
  ⟨_, rfl, by decide, by decide, by decide, by decide⟩

/-! ### Commands -/

/-- The same device in STANDBY, and one with session slot 0 under a challenge. -/
def stby : State := { live with sys := { live.sys with power := .standby } }

/-- Steps 5 to 8 pass for an opcode with no parameters. -/
def admits (s : State) (op : Nat) : Bool :=
  (opInfo op).any (fun i => admitCheck i (pkt 0 []) (takePacket (.loc .twi) s) == none)

theorem admitted_of (op : Nat) (s : State) (h : admits s op = true) (h1 : canTake (.loc .twi) s = true)
    (h2 : destHere (takePacket (.loc .twi) s) 0xFE = true) : Admitted op (pkt 0 []) s false (takePacket (.loc .twi) s) := by
  unfold admits at h
  cases hi : opInfo op with
  | none => rw [hi] at h; cases h
  | some i =>
    rw [hi] at h
    exact admitted_local op (pkt 0 []) s .twi i hi h1 rfl (eq_of_beq h) rfl (by decide) h2

theorem live_takes : canTake (.loc .twi) live = true ∧ destHere (takePacket (.loc .twi) live) 0xFE = true := by decide
theorem stby_takes : canTake (.loc .twi) stby = true ∧ destHere (takePacket (.loc .twi) stby) 0xFE = true := by decide

theorem admitted_live (op : Nat) (h : admits live op = true) : Admitted op (pkt 0 []) live false (takePacket (.loc .twi) live) :=
  admitted_of op live h live_takes.1 live_takes.2
theorem admitted_stby (op : Nat) (h : admits stby op = true) : Admitted op (pkt 0 []) stby false (takePacket (.loc .twi) stby) :=
  admitted_of op stby h stby_takes.1 stby_takes.2

theorem admitted_somewhere (op : Nat) (h : (admits live op || admits stby op) = true) : ∃ p s b u, Admitted op p s b u := by
  rcases Bool.or_eq_true_iff.1 h with h | h
  · exact ⟨_, _, _, _, admitted_live op h⟩
  · exact ⟨_, _, _, _, admitted_stby op h⟩
/-- Every opcode of a list is admitted somewhere: what the statements of the command groups assume. -/
theorem admitted_all (l : List Nat) (h : l.all (fun o => admits live o || admits stby o) = true) :
    ∀ op ∈ l, ∃ p s b u, Admitted op p s b u := fun op m => admitted_somewhere op (List.all_eq_true.1 h op m)

theorem wit_ProtocolCommands : ∀ op ∈ [0x00, 0x01, 0x02, 0x08, 0x09, 0x0A, 0x0B, 0x0C, 0x0D], ∃ p s b u, Admitted op p s b u :=
  admitted_all _ (by decide)
theorem wit_Sessions_packets : ∀ op ∈ [0x03, 0x04, 0x05], ∃ p s b u, Admitted op p s b u :=
  admitted_all _ (by decide)
theorem wit_GridCommands : ∀ op ∈ [0x10, 0x11, 0x12, 0x13, 0x14, 0x15, 0x16, 0x17], ∃ p s b u, Admitted op p s b u :=
  admitted_all _ (by decide)
theorem wit_TouchCommands : ∀ op ∈ [0x20, 0x21, 0x22, 0x23, 0x24, 0x25], ∃ p s b u, Admitted op p s b u :=
  admitted_all _ (by decide)
theorem wit_CarrierCommands : ∀ op ∈ [0x30, 0x31, 0x32, 0x33], ∃ p s b u, Admitted op p s b u :=
  admitted_all _ (by decide)
theorem wit_BridgeCommands_packets : ∀ op ∈ [0x40, 0x41, 0x42, 0x43, 0x44, 0x45, 0x46], ∃ p s b u, Admitted op p s b u :=
  admitted_all _ (by decide)
theorem wit_ConverterCommands : ∀ op ∈ [0x50, 0x51, 0x52, 0x53, 0x54, 0x55, 0x56], ∃ p s b u, Admitted op p s b u :=
  admitted_all _ (by decide)
theorem wit_TimeCommands : ∀ op ∈ [0x60, 0x61, 0x62, 0x63, 0x64, 0x65, 0x66], ∃ p s b u, Admitted op p s b u :=
  admitted_all _ (by decide)
theorem wit_FabricCommands : ∀ op ∈ [0x70, 0x71, 0x72, 0x73, 0x74, 0x75, 0x76], ∃ p s b u, Admitted op p s b u :=
  admitted_all _ (by decide)
theorem wit_StreamCommands : ∀ op ∈ [0x80, 0x81, 0x82, 0x83, 0x84, 0x85], ∃ p s b u, Admitted op p s b u :=
  admitted_all _ (by decide)
theorem wit_FaultCommands_packets : ∀ op ∈ [0x90, 0x91, 0x92, 0x93, 0x94], ∃ p s b u, Admitted op p s b u :=
  admitted_all _ (by decide)
theorem wit_KeyImageCommands_packets : ∀ op ∈ [0xA0, 0xA1, 0xA2, 0xA8, 0xA9, 0xAA, 0xAB, 0xAC], ∃ p s b u, Admitted op p s b u :=
  admitted_all _ (by decide)

/-- A broadcast from a local interface, and a packet of another device's interface. -/
theorem wit_Admitted_broadcast : ∃ u, Admitted 0x00 { pkt 0 [] with dest := 0xFF } live true u :=
  ⟨_, _, rfl, by decide, rfl, by decide, .inr ⟨rfl, rfl, rfl, rfl⟩⟩
theorem wit_Admitted_remote : ∃ u, Admitted 0x00 { pkt 0 [] with origin := .remote 0x07 .quad } live false u :=
  ⟨_, _, rfl, by decide, rfl, by decide, rfl, rfl, by decide⟩

theorem wit_Concluding : ∃ i, opInfo 0x08 = some i ∧ (acceptCmd live).silent = false ∧ (acceptCmd live).status = 0x01
    ∧ (okCmd live []).status ≠ 0x01 ∧ i.journal = true ∧ (okCmd live []).ownEntry = false ∧ (0x08 : Nat) ≠ 0x04
    ∧ (opInfo 0x00).all (fun x => !x.journal) = true := ⟨_, rfl, by decide⟩

/-- A device whose reply queue is full; a device joined with one neighbour. -/
def fullS : State := modPort .twi (fun h => { h with replies := List.replicate 8 ⟨[], .normal⟩ }) live
def meshS : State := { live with link := { live.link with
  joined := true, addr := some 5, ll := some (9, 100, 7), routes := [(7, 1, 2)]
  ports := live.link.ports.set 1 { ({} : PortSt) with state := .up, nbrUid := 9, nbrAddr := 7 } } }
theorem wit_Refusals : CommandRow (.nop (pkt 0 [])) 0x00 (pkt 0 []) ∧ canTake (.loc .twi) fullS = false
    ∧ (opInfo 0x0A).all (fun x => !x.bcast) = true ∧ destHere (takePacket (.loc .twi) meshS) 0x09 = false
    ∧ destReachable (takePacket (.loc .twi) meshS) 0x09 = false ∧ destHere (takePacket (.loc .twi) meshS) 0x07 = false
    ∧ destReachable (takePacket (.loc .twi) meshS) 0x07 = true ∧ canTake (.loc .twi) meshS = true
    ∧ canTake (.remote 7 .twi) State.reset = false := ⟨.nop _, by decide, by decide, by decide, by decide, by decide, by decide, by decide, by decide⟩
theorem wit_Refusals_step : (opInfo 0x0D).any (fun i => admitCheck i (pkt 0 []) (takePacket (.loc .twi) live) == some 0x30) = true
    ∧ (opInfo 0x08).any (fun i => admitCheck i { pkt 0 [] with origin := .remote 7 .twi } (takePacket (.remote 7 .twi) live) == some 0x21) = true := by
  decide

/-- Slot 0 has a challenge pending for role 2, whose key is not installed: a wrong answer; a fourth failure before it. -/
def authS (n : Nat) : State := modSession 0 (fun e => { e with challenge := some (5, 2), fails := n }) live
theorem wit_Sessions : (List.replicate 16 (0 : Byte)).length = 16 ∧ slotOf (authS 0) (.loc .twi) = some 0
    ∧ (authS 0).sec.sessions[(0 : Fin 6)].challenge = some (5, 2) ∧ (roleKey (authS 0) 2).isSome = false
    ∧ min 5 ((authS 4).sec.sessions[(0 : Fin 6)].fails + 1) = 5 ∧ min 5 ((authS 0).sec.sessions[(0 : Fin 6)].fails + 1) < 5
    ∧ live.sec.sessions[(0 : Fin 6)].challenge = none := by decide
theorem wit_Sessions_admitted : Admitted 0x04 (pkt 0 (List.replicate 16 0)) (authS 0) false (takePacket (.loc .twi) (authS 0)) :=
  admitted_local _ _ _ .twi _ rfl (by decide) rfl (by decide) rfl (by decide) (by decide)

theorem wit_ShadowAndActive : State.reset.time.sched = none ∧ live.sys.power = .active ∧ live.time.sched ≠ none
    ∧ ([(4, 1), (8, 2)] : RegFile).Pairwise (fun x y => x.1 < y.1) := by decide

theorem test_identify : ∃ t, exec (.identify (pkt 0 [])) live = .next t
    ∧ (t.hif.twi.replies.map (fun r => r.bytes.length)) = [26] ∧ t.time = live.time := ⟨_, rfl, by decide, by decide⟩
theorem test_nop_bad_length : ∃ t, exec (.nop (pkt 0 [1])) live = .next t
    ∧ t.hif.twi.replies.map (fun r => r.bytes.getD 0 0) = [0x11] := ⟨_, rfl, by decide⟩

/-- A snuffed lane 0 and nothing else; REINSTATE of lane 0 with its group's bit. -/
theorem wit_BridgeCommands : (List.replicate 8 (0 : Byte)).length = 8 ∧ (pkt 0 [] : Packet).params.length ≠ 8
    ∧ zeros ([1, 0, 0, 0, 1, 0, 0, 0] : List Byte) 5 3 = true ∧ zeros ([1, 0, 0, 0, 1, 1, 0, 0] : List Byte) 5 3 = false
    ∧ maskBits 32 (u32 ([1, 0, 0, 0, 1, 0, 0, 0] : List Byte) 0) = [0] := by decide

/-- The first and the last ns of epoch 0 of a schedule at its shortest period, and the ns before it. -/
theorem wit_EpochNumbers : (1000 : Nat) ≤ 1000 ∧ (1000 : Nat) ≤ 1000000 ∧ 10 + 0 * (1000 * 1000) ≤ 10 ∧ 10 < 10 + (0 + 1) * (1000 * 1000)
    ∧ 1000009 < 10 + (0 + 1) * (1000 * 1000) ∧ 9 < 10 ∧ live.time.sched = some ⟨2125, 0, 0⟩ ∧ live.time.acq = true
    ∧ State.reset.time.sched = none := by decide
theorem test_epoch_number : epochAt ⟨1000, 10, 0⟩ 1000009 = 0 ∧ epochAt ⟨1000, 10, 0⟩ 1000010 = 1 ∧ epochAt ⟨1000, 10, 0⟩ 9 = 0xFFFFFFFF := by
  decide

theorem wit_FaultCommands : State.reset.safe.hold = false := by decide

/-- JOURNAL_READ of a full block, and one that releases. -/
theorem wit_KeyImageCommands : slotOf live (.loc .twi) = some 0 ∧ (List.replicate 12 (0 : Byte)).length = 12
    ∧ (pkt 0 [] : Packet).params.length ≠ 12 ∧ releaseOk live 0 0 = false := by decide

/-! ### Completions -/

/-- A deferred command outstanding. -/
def outS (op : Byte) (q : List Byte) : State :=
  { live with sec := { live.sec with fwVersion := 0x01000000, outstanding := [⟨op, .loc .twi, some 0, 3, 0x42, false, q⟩] } }

theorem wit_Completions_none : findOut live 0x08 = none ∧ findOut live 0x0C = none ∧ live.grid.capture = none ∧ live.carr.survey = none
    ∧ live.link.joining = none := by decide
/-- The transition to STANDBY, and to EMBER, reached; the device is not in reset. -/
theorem wit_Completions_power : (findOut (outS 0x08 []) 0x08).isSome = true ∧ (⟨.active, .standby, false⟩ : Transition).boundary = false
    ∧ (outS 0x08 []).sys.inReset = false ∧ asleep (outS 0x08 []) = false ∧ (⟨.active, .standby, false⟩ : Transition).start = (outS 0x08 []).sys.power
    ∧ (⟨.active, .ember, false⟩ : Transition).target = .ember ∧ (⟨.active, .active, false⟩ : Transition).target = .active := by decide
theorem wit_Completions_config : (findOut (outS 0x0C []) 0x0C).isSome = true ∧ (findOut (outS 0x0D []) 0x0D).isSome = true
    ∧ newerCfg (outS 0x0D []) = none
    ∧ (newerCfg { outS 0x0D [] with nvm := { live.nvm with cfg1 := some ⟨3, 0x01000000, []⟩ } }).isSome = true := by decide
/-- A capture with all frames of no kind, one with an unstable value, and one that is short, ended or not. -/
def fullCap : Capture := { firstEpoch := some 1 }
def shakyS : State := { live with active := [(Reg.gridSched 0, 1)] }
def shakyCap : Capture := { fullCap with kinds := fullCap.kinds.set 0 { frames := 16, acc := [(0, 0, 0, 15)] } }
theorem wit_Completions_capture : (captureFull live fullCap && fullCap.firstEpoch.isSome) = true ∧ (captureSpread live fullCap).1 = 0
    ∧ (captureFull shakyS shakyCap && shakyCap.firstEpoch.isSome) = true ∧ (captureSpread shakyS shakyCap).1 ≠ 0
    ∧ (captureFull shakyS fullCap && fullCap.firstEpoch.isSome) = false
    ∧ (({ fullCap with ended := true } : Capture).ended || !gridRuns shakyS) = true
    ∧ (fullCap.ended || !gridRuns { shakyS with grid := { shakyS.grid with running := true } }) = false := by decide
theorem wit_Completions_others : ({ live with carr := { live.carr with survey := some ⟨0, 0, false, false, []⟩ } } : State).carr.survey
      = some ⟨0, 0, false, false, []⟩
    ∧ ({ live with link := { live.link with joining := some true } } : State).link.joining = some true := by decide

theorem wit_KeyImageCompletions : findOut live 0xA0 = none ∧ live.sec.keyJob = none ∧ findOut live 0xA2 = none ∧ findOut live 0xAA = none
    ∧ live.sec.transfer = none ∧ findOut live 0xAB = none ∧ findOut live 0xAC = none
    ∧ (findOut (outS 0xA0 []) 0xA0).isSome = true ∧ (findOut (outS 0xA2 [1]) 0xA2).isSome = true
    ∧ (findOut (outS 0xAA []) 0xAA).isSome = true ∧ (findOut (outS 0xAB [1]) 0xAB).isSome = true ∧ (findOut (outS 0xAC []) 0xAC).isSome = true := by
  decide
/-- A new OPERATOR key while slot 1 holds that role, issued from slot 0. -/
theorem wit_KeyImageCompletions_key : (some 0 : Option (Fin 6)) ≠ some 1 ∧ (1 : BitVec 2).toNat = 0 + 1
    ∧ (keyApply ⟨0, false, List.replicate 32 1, some 0⟩ live.sec.keys).installed ≠ live.sec.keys.installed := by decide
/-- The digest of no bytes (the published value of the algorithm R449 names). -/
theorem test_sha256_empty : sha256 [] = [0xe3, 0xb0, 0xc4, 0x42, 0x98, 0xfc, 0x1c, 0x14, 0x9a, 0xfb, 0xf4, 0xc8, 0x99, 0x6f, 0xb9, 0x24, 0x27, 0xae,
    0x41, 0xe4, 0x64, 0x9b, 0x93, 0x4c, 0xa4, 0x95, 0x99, 0x1b, 0x78, 0x52, 0xb8, 0x55] := by decide +kernel
/-- An image of no bytes whose header carries their digest, and one whose digest differs. -/
theorem wit_KeyImageCompletions_image : ([] : List Byte).length = u32 (List.replicate 32 0 ++ sha256 []) 16
    ∧ sha256 [] = ((List.replicate 32 0 ++ sha256 []).drop 32).take 32 ∧ sha256 [] ≠ ((List.replicate 64 (0 : Byte)).drop 32).take 32 := by
  rw [test_sha256_empty]; decide

/-! ### The host interface -/

/-- The quad interface enabled. -/
def hostS : State := { live with shadow := [(Reg.hifQspiCfg, 1)] }
/-- One reply of two bytes waits, and one alarm; the cursor at its last byte. -/
def replyS (c a : Nat) : State := { modPort .twi (fun h => { h with replies := [⟨[1, 2], .normal⟩], rplCursor := c }) hostS with
  hif := { (modPort .twi (fun h => { h with replies := [⟨[1, 2], .normal⟩], rplCursor := c }) hostS).hif with alarmCursor := a }
  res := { hostS.res with alarms := [List.replicate 32 7] } }

theorem wit_CommandMailbox : windowLive .twi hostS = true ∧ windowLive .quad hostS = true ∧ windowLow hostS = false ∧ 0x100 ≤ 0x1FF
    ∧ (hostPort hostS .twi).mbox.submitted = false
    ∧ (hostPort (modPort .twi (fun h => { h with mbox := { h.mbox with submitted := true } }) hostS) .twi).mbox.submitted = true
    ∧ windowLive .twi { hostS with sys := { hostS.sys with inReset := true } } = false := by decide
theorem wit_CommandMailbox_reply : (hostPort (replyS 1 0) .twi).replies = ⟨[1, 2], .normal⟩ :: [] ∧ (hostPort (replyS 1 0) .twi).rplCursor < 2
    ∧ 2 ≤ (hostPort (replyS 2 0) .twi).rplCursor ∧ (hostPort hostS .twi).replies = [] := by decide
theorem test_reply_last_byte : ∃ t, exec (.replyMailboxRead .twi) (replyS 1 0) = .next t ∧ t.hif.twi.lastRead = [2] ∧ t.hif.twi.rplCursor = 2
    ∧ t.hif.twi.portStat = 0 := ⟨_, rfl, by decide, by decide, by decide⟩
theorem test_reply_underrun : ∃ t, exec (.replyMailboxRead .twi) (replyS 2 0) = .next t ∧ t.hif.twi.lastRead = [0]
    ∧ t.hif.twi.portStat = 2 := ⟨_, rfl, by decide, by decide⟩

/-- A stream of drain 0 holds one record of 12 bytes. -/
def recS : State := { modStream 3 (fun x => { x with admitted := true, pages := 1, recs := [⟨0, 5, List.replicate 12 9, false, 0⟩] }) hostS with
  shadow := [(Reg.hifQspiCfg, 1), (Reg.resStreamCfg 3, 0x00010000)] }
theorem wit_PortsAndWake : windowLive .twi recS = true ∧ windowLow recS = false
    ∧ ((portRecs .twi recS).flatMap (fun r => r.2.bytes)).drop (hostPort recS .twi).rdCursor = 9 :: List.replicate 11 9
    ∧ ((portRecs .quad recS).flatMap (fun r => r.2.bytes)).drop (hostPort recS .quad).rdCursor = []
    ∧ recS.res.alarms = [] ∧ (replyS 0 30).res.alarms = List.replicate 32 7 :: [] ∧ (replyS 0 30).hif.alarmCursor < 31
    ∧ 31 ≤ (replyS 0 31).hif.alarmCursor := by decide
theorem wit_PortsAndWake_latch : (0x16 : Half).toNat < 0x100 ∧ statusField .twi (0x16 : Half).toNat (replyS 0 0) = some ((0x16 : Half).toNat, [2, 0])
    ∧ 1 < ([2, 0] : List Byte).length ∧ statusField .twi ((0x16 : Half).toNat + 1) (replyS 0 0) = some ((0x16 : Half).toNat, [2, 0])
    ∧ (hostPort (modPort .twi (fun h => { h with latch := some ((0x16 : Half).toNat, [2, 0]) }) (replyS 0 0)) .twi).latch
        = some ((0x16 : Half).toNat, [2, 0]) := by decide
theorem wit_PortsAndWake_wake : ({ live.sys with power := .ember } : SysSt).power = .ember ∧ live.sys.inReset = false ∧ live.sys.exitPend = false
    ∧ windowLow { live with sys := { live.sys with power := .ember } } = true ∧ 8 ≤ (hostPort fullS .twi).replies.length
    ∧ windowLow fullS = false := by decide
theorem test_alarm_leaves : ∃ t, exec (.alarmPortRead .quad) (replyS 0 31) = .next t ∧ t.res.alarms = [] ∧ t.hif.alarmCursor = 0
    ∧ t.hif.quad.lastRead = [7] := ⟨_, rfl, by decide, by decide, by decide⟩

/-- The target selected for writes or reads. -/
def selS (r : Option Bool) : State := { hostS with hif := { hostS.hif with twiSel := r } }
theorem wit_TwoWireTarget : windowLive .twi (selS none) = true ∧ (selS (some false)).hif.twiSel = some false
    ∧ (selS (some true)).hif.twiSel = some true ∧ windowLow (selS none) = false
    ∧ bitOf (8#32) 3 = true ∧ bitOf (0#32) 3 = false ∧ bitOf (4#32) 2 = true
    ∧ (63 : Half).toNat % 64 = 63 ∧ windowLive .quad hostS = true := by decide
theorem wit_TwoWireTarget_address : twiAcks (shw hostS Reg.hifI2cCfg, shw hostS Reg.hifI2cAddr, shw hostS Reg.hifI2cMask) 0x2C = true
    ∧ twiAcks (shw hostS Reg.hifI2cCfg, shw hostS Reg.hifI2cAddr, shw hostS Reg.hifI2cMask) 0x01 = false := by decide
theorem test_pointer_page : ∃ t, exec (.i2cWriteByte 0) { selS (some false) with hif := { (selS (some false)).hif with
      twi := { (selS (some false)).hif.twi with pointer := 0x013F } } } = .next t ∧ t.hif.twi.pointer = 0x0100
    ∧ t.hif.twi.mbox.buf = [0] := ⟨_, rfl, by decide, by decide⟩

theorem wit_QuadTarget : windowLive .quad hostS = true ∧ (0xFF : Byte) ≠ 0x02 ∧ (0xFF : Byte) ≠ 0x0B ∧ (0xFF : Byte) ≠ 0x05 ∧ (0xFF : Byte) ≠ 0x3B := by
  decide

/-! ### Reset and power -/

theorem wit_Resets : (1 : Nat) ≤ 1 ∧ (7 : Nat) ≤ 7 ∧ live.sys.inReset = false ∧ live.sys.power = .active ∧ live.eng.wdWarned = false := by decide
theorem test_pin_reset : ∃ t, exec .pinReset live = .next t ∧ t.sys.power = .dormant ∧ t.sys.cause = 3 ∧ t.sys.prev = 1
    ∧ t.sys.count = 1 := ⟨_, rfl, by decide, by decide, by decide, by decide⟩

/-! ### Reset, start-up and faults -/

/-- A reset stands, with and without thermal shutdown. -/
theorem wit_Resets_standing : ({ live.sys with inReset := true } : SysSt).inReset = true ∧ live.sys.thermal = false
    ∧ ({ live.sys with thermal := true, thermalReset := true, inReset := true } : SysSt).thermalReset = true
    ∧ ({ live.sys with supplyOut := true, lostAlwaysOn := true } : SysSt).lostAlwaysOn = true ∧ asleep live = false
    ∧ live.sys.supplyOut = false ∧ live.sys.lostAlwaysOn = false := by decide

/-- After a soft reset; while the loader runs, with a slot that passes, and with an activation pending and trials made. -/
def loadS (pend : Bool) (n : BitVec 2) : State := { State.reset with
  nvm := { State.reset.nvm with slotA := { fw := some ⟨[], [], 0x01000000, 5⟩, valid := true } }
  sec := { State.reset.sec with keys := { fwCounter := 5, makerCounter := 0, pendingAct := pend, trial := n } } }
theorem wit_StartUp_restart : State.reset.sys.inReset = false ∧ asleep State.reset = false ∧ State.reset.sys.fwRun = false
    ∧ State.reset.sec.recovery = false ∧ ({ State.reset.sys with cause := 5 } : SysSt).cause = 5 ∧ State.reset.sys.cause ≠ 5 := by decide
theorem wit_StartUp_self_check : loaderRuns (loadS false 0) = true ∧ loaderRuns live = false ∧ (loadS false 0).sec.keys.pendingAct = false
    ∧ (loadS false 0).sec.keyAreaDefault = false ∧ (imageSlot (loadS false 0) false).valid = true
    ∧ (imageSlot (loadS false 0) false).fw.any (fun x => decide ((loadS false 0).sec.keys.fwCounter.toNat ≤ x.rollback.toNat)) = true
    ∧ (loadS true 0).sec.keys.pendingAct = true ∧ (loadS true 1).sec.keys.trial.toNat < 2 ∧ 2 ≤ (loadS true 2).sec.keys.trial.toNat
    ∧ (imageSlot (loadS false 0) true).valid = false := by decide
theorem test_third_trial : ∃ t, exec (.imageSelfCheck false) (loadS true 2) = .next t ∧ t.sys.fallback = true
    ∧ t.sec.keys.pendingAct = false := ⟨_, rfl, by decide, by decide⟩

/-- Firmware runs and no configuration is loaded yet; without a copy, and with one. -/
def bootS (c : Option CfgCopy) : State := { live with
  sys := { live.sys with cfgLoaded := false }, nvm := { live.nvm with cfg0 := c }, sec := { live.sec with fwVersion := 0x01000000 } }
theorem wit_StartUp_config : (bootS none).sys.inReset = false ∧ asleep (bootS none) = false ∧ (bootS none).sys.fwRun = true
    ∧ (bootS none).sys.cfgLoaded = false ∧ (bootS none).sys.cause ≠ 5 ∧ newerCfg (bootS none) = none
    ∧ newerCfg (bootS (some ⟨3, 0x01000000, []⟩)) = some (false, ⟨3, 0x01000000, []⟩) := by decide
theorem wit_StartUp_ember : ({ live.sys with emberArmed := some .ember } : SysSt).emberArmed = some .ember ∧ live.sys.inReset = false
    ∧ live.sys.emberArmed = none
    ∧ asleep { live with sys := { live.sys with power := .ember, exitPend := true } } = true ∧ live.flt.deferred = [] := by decide

/-- What the rows of the NVM act on. -/
def entry0 : JEntry := ⟨64, ⟨0, 0, 0, 0, 0, []⟩, [], false, 0⟩
def nvmS (policy : Bool) : State := { live with
  safe := { live.safe with logDue := [true] }
  snuffWrite := true
  nvm := { live.nvm with keys0 := some {}, eraseDue := some 1, journal := [entry0] }
  sec := { live.sec with raised := [⟨0, 0, 0, 0, 0, []⟩], keysDue := true, keys := { policy := policy } } }
theorem wit_StartUp_nvm : (nvmS true).safe.logDue = true :: [] ∧ newerKeys (nvmS true) = some (false, {}) ∧ ({} : KeysCopy).safeLog.length < 255
    ∧ live.safe.logDue = [] ∧ live.sec.raised = [] ∧ (nvmS true).sec.raised ≠ [] ∧ live.nvm.eraseDue = none ∧ (nvmS true).nvm.eraseDue = some 1
    ∧ eraseBarred (nvmS true) 1 = true ∧ eraseBarred (nvmS false) 1 = false ∧ live.snuffWrite = false ∧ (nvmS true).snuffWrite = true
    ∧ (newerSnuff (nvmS true)).isSome = true ∧ live.sec.keysDue = false ∧ (nvmS true).sec.keysDue = true := by decide
theorem wit_StartUp_shadow : ∃ x ∈ ({ live with flt := { live.flt with shadows := [⟨6, 0⟩] } } : State).flt.shadows, x.block = (6 : Fin 14).val :=
  ⟨⟨6, 0⟩, by decide, by decide⟩

/-- Source 0 of block 6 at a severity; inside the shadow of block 5; repeated. -/
def faultS (sev : Nat) (sh : List Shadow) : State := { live with
  shadow := [(Reg.flt 6 1, 1), (Reg.flt 6 2, BitVec.ofNat 32 sev)], flt := { live.flt with shadows := sh } }
theorem wit_Raising : (6 : Nat) < 14 ∧ (31 : Nat) < 32 ∧ (faultS 0 [⟨6, 1⟩]).flt.shadows.any (fun x => x.block == 6) = true
    ∧ srcEnabled { live with shadow := [(Reg.flt 6 1, 0)] } 6 0 = false
    ∧ (faultS 0 []).flt.shadows.any (fun x => x.block == 6) = false ∧ srcEnabled (faultS 0 []) 6 0 = true
    ∧ [0, 1, 2, 3, 4].map (fun v => (nextSeverity (faultS v []) 6 0 noItem).1) = [0, 1, 2, 3, 4]
    ∧ (faultS 1 [⟨5, 2⟩]).flt.shadows.find? (fun x => (consumers x.block).contains 6) = some ⟨5, 2⟩ ∧ neverConsequential 6 1 = false
    ∧ 1 ≤ srcSeverity (faultS 1 []) 6 0 ∧ 31 < itemCount 6 := by decide
theorem test_raise_reset_block : (raise 6 0 noItem (faultS 3 [])).flt.shadows = [⟨6, 0⟩] ∧ fltStat (raise 6 0 noItem (faultS 3 [])) 6 = 1 := by decide

/-! ### Time -/

/-- Pin edges enabled; TRIG 3 on both edges; capture unit 7 on source 5 both edges. -/
def pinS : State := { live with shadow := [(Reg.hifPinCfg, 0x40), (Reg.hifTrigCfg, 0x03000000), (Reg.timeCapCfg 7, 0x35)] }
theorem wit_TimeEdges_pins : bitOf (shw pinS Reg.hifPinCfg) 4 = false ∧ bitOf (shw pinS Reg.hifPinCfg) 6 = true ∧ timeRuns pinS = true
    ∧ awake pinS = true ∧ bitOf (shw { live with shadow := [(Reg.hifPinCfg, 0x10)] } Reg.hifPinCfg) 4 = true ∧ timeRuns State.reset = false
    ∧ awake State.reset = false ∧ pinS.conv.syncFrom = none ∧ (∀ k : Fin 8, pinS.time.caps[k].valid = false) := by decide
theorem wit_TimeEdges_pps : bitOf (shw pinS Reg.timeServoCfg) 17 = false
    ∧ ({ live.time with ppsSet := some 5 } : TimeSt).ppsSet = some 5 ∧ live.time.ppsSet = none ∧ 999999 % 1000000000 < 1000000
    ∧ 999000000 < 999000001 % 1000000000 ∧ 1000000 ≤ 1000000 % 1000000000 ∧ 499999999 < 500000000 ∧ live.time.bigTheta = none
    ∧ (live.time.ppsOn && !live.time.ppsLost) = false ∧ ({ live.time with ppsOn := true } : TimeSt).ppsOn = true := by decide
theorem wit_TimeEdges_out : live.time.ppsOut = false ∧ timeAcq live = true
    ∧ fld (shw { live with shadow := [(Reg.timePpsCfg, 10)] } Reg.timePpsCfg) 0 9 ≠ 0 ∧ ({ live.time with ppsOut := true } : TimeSt).ppsOut = true
    ∧ timeAcq State.reset = false := by decide
/-- A periodic trigger armed, a slew at and below its limit. -/
theorem wit_TimeEdges_trigger : ({ armed := true, mode := 2, period := 10000, count := 3 } : TrigSt).armed = true ∧ live.time.trigs[(0 : Fin 16)].armed = false
    ∧ 0 < ({ period := 10000 } : TrigSt).period ∧ live.time.slew = none ∧ ({ live.time with slew := some 7 } : TimeSt).slew = some 7
    ∧ ({ live.time with y := 500000000 } : TimeSt).y = 500000000 ∧ live.time.y ≠ 500000000 := by decide
theorem test_trig_capture : ∃ t, exec (.trigEdge 3 true 77) pinS = .next t ∧ t.time.caps[(7 : Fin 8)].time = 77
    ∧ t.time.caps[(7 : Fin 8)].valid = true := ⟨_, rfl, by decide, by decide⟩

/-- A lamplighter's unique ID that is not this device's. -/
theorem other_uid : Config.uid + 1 ≠ Config.uid := by intro h; bv_omega
/-- A follower whose parent is port 1. -/
def followS : State := { live with
  link := { live.link with joined := true, addr := some 5, ll := some (Config.uid + 1, 100, 7), parent := some 1
                           ports := live.link.ports.set 1 { ({} : PortSt) with state := .up } }
  time := { live.time with state := .locked } }
theorem follows : isLamplighter followS = false := by
  show (Config.uid + 1 == Config.uid) = false
  exact beq_eq_false_iff_ne.2 other_uid
theorem wit_TimeFabric : timeAcq live = true ∧ live.time.depth ≤ 15 ∧ timeRuns followS = true ∧ followS.link.parent = some 1
    ∧ (15 : Nat) ≤ 15 ∧ (5 : Nat) ≤ 5 ∧ live.time.exch = none ∧ State.reset.time.sched = none ∧ live.time.sched = some ⟨2125, 0, 0⟩
    ∧ live.time.clampRun ≠ 7 ∧ live.time.state = .free ∧ followS.time.state ≠ .free ∧ srcEnabled { live with shadow := [(Reg.flt 7 1, 0)] } 7 Src.timeHoldover = false := by
  decide
theorem wit_TimeFabric_parent (p : Nat) : isLamplighter followS = false ∧ (llOf followS).2 = Config.uid + 1
    ∧ (⟨0, 0, none, 3, p, Config.uid + 1⟩ : Exchange).llUid = (llOf followS).2 := ⟨follows, rfl, rfl⟩
/-- Exchanges: a round trip at its bound of 20,000 ns and past it; a change of 200 ns from the average and past it. -/
theorem wit_TimeFabric_bounds : (2 * 10000 * 65536 : Int) ≤ 2 * 10000 * 65536 ∧ (2 * 10000 * 65536 : Int) < 2 * 10000 * 65536 + 1
    ∧ ¬((2 * 100 * 65536 : Int) < 2 * 100 * 65536) ∧ thetaBig (-100000000000000) = true ∧ (7 : Int) % 2 ≠ 0 ∧ (8 : Int) % 2 = 0 := by decide
theorem wit_TimeFabric_change : syncCommits 9 2500 ⟨1, 9, 2500, []⟩ = true ∧ syncCommits 9 2500 ⟨1, 8, 2500, []⟩ = false
    ∧ ((⟨2125, 0, 0⟩ : Schedule) = ⟨2125, 0, 0⟩) := by decide

/-! ### The grid -/

/-- The grid runs: entry 0 is a mutual frame at offset 6, and is due or in progress. -/
def gridS : State := { live with
  active := [(Reg.gridSched 0, 0x61)]
  grid := { live.grid with running := true }, time := { live.time with lastAcq := some 47 } }
def frameS : State := { gridS with grid := { gridS.grid with frame := some ⟨0, 0, 0, false, 99881000, 47⟩ } }
theorem wit_GridFrames_start : gridS.time.epoch = some 47 ∧ gridS.time.sched = some ⟨2125, 0, 0⟩ ∧ nextEntry gridS = some ⟨0, 0, 6⟩
    ∧ gridS.sys.power = .active ∧ gridS.grid.running = true ∧ gridS.grid.restart = false ∧ gridS.grid.runDone = false ∧ gridS.grid.frame = none
    ∧ acqHalted gridS = false ∧ gridS.time.lastAcq = some 47 ∧ frameS.grid.frame = some ⟨0, 0, 0, false, 99881000, 47⟩ ∧ nextEntry live = none := by
  decide
theorem wit_GridFrames_boundary : epochsRun gridS = true ∧ gridS.time.adopt = none ∧ gridS.time.stepped = false ∧ laterW 48 47 = true
    ∧ epochsRun State.reset = false ∧ State.reset.time.lastAcq = none ∧ 0 < (⟨2125, 0, 0⟩ : Schedule).p
    ∧ (firstBoundary ⟨2500, 0, 0⟩ (gridS.time.ns + 1)).2 = 102500000 ∧ (nextBoundary ⟨2125, 0, 0⟩ gridS) = (48, 102000000)
    ∧ (firstBoundary ⟨1000, 0, 0⟩ (gridS.time.ns + 1)).2 ≤ (nextBoundary ⟨2125, 0, 0⟩ gridS).2
    ∧ gridS.link.prep = none ∧ gridS.sys.trans = none := by decide
theorem wit_GridFrames_listen : live.safe.hold = false ∧ awake live = true ∧ live.grid.running = false ∧ live.carr.survey = none
    ∧ surveyEntry ⟨1, 4, false, false, []⟩ = some 0 ∧ surveyEntry ⟨0, 4, false, false, []⟩ = none
    ∧ bitOf (acw { live with active := [(Reg.carrCfg, 0x20)] } Reg.carrCfg) 5 = true := by decide
theorem wit_GridFrames_quiet : srcEnabled { live with shadow := [(Reg.flt 2 1, 0)] } 2 Src.gridLaneOverload = false
    ∧ srcEnabled { live with shadow := [(Reg.flt 2 1, 0)] } 2 Src.gridLaneStuck = false := by decide
theorem test_frame_start : ∃ t, exec .gridFrameStart gridS = .next t ∧ t.grid.frame.map (·.t0) = some 99881000 ∧ t.grid.nextSlot = 1 :=
  ⟨_, rfl, by decide, by decide⟩

/-! ### Touch, ember and housekeeping -/

def held0 : HeldFrame := ⟨0, 0, 0, 9, 0, 47, 0⟩
def touchS (seq : Word) : State := { gridS with
  tch := { gridS.tch with todo := [held0] }, grid := { gridS.grid with ring := [{ held0 with seq := seq }] } }
theorem wit_TouchAndRounds_frames : (touchS 9).tch.todo = held0 :: [] ∧ ((held0.kind == 0) = true) ∧ tchRuns (touchS 9) = true
    ∧ (touchS 9).grid.ring.any (fun x => x.seq == held0.seq) = true ∧ (touchS 8).grid.ring.any (fun x => x.seq == held0.seq) = false
    ∧ tchRuns { touchS 9 with tch := { (touchS 9).tch with restartWait := true } } = false ∧ live.tch.todo = [] := by decide
theorem wit_TouchAndRounds_nodes : ((2, 3) : Nat × Nat) ∈ ([(2, 3)] : Relearn) ∧ ((2, 4) : Nat × Nat) ∉ ([(2, 3)] : Relearn)
    ∧ roundDiv ((100 : Int) * 65536 - 110 * 65536) 65536 ≤ -10 ∧ -10 < roundDiv ((100 : Int) * 65536 - 109 * 65536) 65536
    ∧ 10 ≤ roundDiv ((100 : Int) * 65536 - 90 * 65536) 65536 ∧ roundDiv ((100 : Int) * 65536 - 91 * 65536) 65536 < 10 := by decide

/-- An ember scan with gang 7 enabled. -/
def emberS : State := { live with sys := { live.sys with power := .ember }, active := [(Reg.carrEmbCfg, 0x8001)] }
theorem wit_TouchAndRounds_ember : emberS.sys.power = .ember ∧ emberS.sys.exitPend = false ∧ emberS.sys.inReset = false
    ∧ fld (acw emberS Reg.carrEmbCfg) 0 6 ≠ 0 ∧ fld (acw { live with active := [(Reg.carrEmbCfg, 0)] } Reg.carrEmbCfg) 0 6 = 0
    ∧ ((gangsOn emberS.active).contains (7 : Fin 8).val && gangAlive emberS (7 : Fin 8).val) = true
    ∧ ((gangsOn emberS.active).contains (6 : Fin 8).val && gangAlive emberS (6 : Fin 8).val) = false
    ∧ ({ first := [1, 2, 3] } : GangSt).first.length = 3 ∧ ({} : GangSt).first.length < 3
    ∧ ({ base := some (40, 2) } : GangSt).base = some (40, 2) ∧ ({ base := some (40, 2) } : GangSt).rebase = none := by decide +kernel
theorem test_gang_approach : (gangStep 0 4 8 20 18 { base := some (40, 2) }).2 = (true, false)
    ∧ (gangStep 0 4 8 20 17 { base := some (40, 2) }).2 = (false, false) := by decide

theorem wit_TouchAndRounds_rounds : hkpRuns live = true ∧ hkpRuns { live with sys := { live.sys with inReset := true } } = false
    ∧ liveSensors (sensorsApply live) = [0, 1, 2, 3, 4, 5, 6, 7, 8]
    ∧ liveSensors (sensorsApply { live with snuff := { live.snuff with sensors := 0x1FF } }) = []
    ∧ bitOf (acw { live with active := [(Reg.hkpCfg, 0x01000555)] } Reg.hkpCfg) 24 = true ∧ live.hkp.hotRun ≠ 7 ∧ live.hkp.coolRun ≠ 63
    ∧ live.hkp.kActive ≤ 16 ∧ 16 * 0 + 15 < 2 ^ 32 := by decide

/-! ### Register writes -/

/-- A register of block 10 for the extension and for a session; a plain word; a reinstatement of line 279. -/
theorem wit_RegisterWrites : mayWrite (.session 0) Reg.hkpCfg live = true ∧ mayWrite .extension Reg.hkpCfg live = false
    ∧ mayWrite .extension Reg.gridCfg live = true ∧ mayWrite (.session 1) Reg.secCfgLock live = false
    ∧ mayWrite (.session 0) Reg.secCfgLock live = true ∧ mayWrite (.session 0) (Reg.flt 13 0) live = true
    ∧ mayWrite (.session 0) Reg.hkpReinstate live = true ∧ mayWrite (.session 0) (Reg.timeTrgCfg 15) live = true := by decide
theorem wit_RegisterWrites_plain : Reg.hkpCfg % 0x10000 ≠ 0xF000 ∧ regMask Reg.hkpCfg ≠ 0
    ∧ outOp live 0x15 = false ∧ blockRule live (candidate live Reg.hkpCfg (shw live Reg.hkpCfg)) (blockOf Reg.hkpCfg) (Reg.hkpCfg % 0x10000) = none
    ∧ regMask 0x01000000 = 0 ∧ (fld (fileGet (fileSet (Reg.timeTrgCfg 0) 0 live.shadow) (Reg.timeTrgCfg 0)) 0 2 = 0)
    ∧ timeRule live (fileSet (Reg.timeTrgCfg 0) 0 live.shadow) 0x100 = none := by decide
def snuffedS : State := { live with snuff := { live.snuff with lines := 1#280 <<< 279, sensors := 0x100 } }
theorem wit_RegisterWrites_reinstate : fld (0xC3002117 : Word) 24 8 = 0xC3 ∧ fld (0xC3002117 : Word) 12 4 = 2 ∧ fld (0xC3002117 : Word) 0 9 = 279
    ∧ fld (0xC3002117 : Word) 9 3 = 0 ∧ fld (0xC3002117 : Word) 16 8 = 0 ∧ fld (0xC3002118 : Word) 0 9 = 280
    ∧ fld (0xC3003000 : Word) 12 4 = 3 ∧ fld (0x00002117 : Word) 24 8 ≠ 0xC3 ∧ itemSnuffed snuffedS 10 8 = true ∧ itemSnuffed snuffedS 2 279 = true
    ∧ itemSnuffed live 2 279 = false := by decide +kernel

/-! ### The bridge -/

/-- Lane 5 converts at rate 3, at the start of epoch 47 and at its last instant. -/
def convS (j : Nat) : State := { live with
  time := { live.time with lastAcq := some 47 }
  conv := { live.conv with lanes := live.conv.lanes.set 5 { (live.conv.lanes[(5 : Fin 32)] : LaneSt) with on := true, nextIdx := j } } }
theorem wit_BridgeSamples : (convS 0).time.epoch = some 47 ∧ (convS 0).time.sched = some ⟨2125, 0, 0⟩ ∧ (convS 0).time.lastAcq = some 47
    ∧ lanes32.filter (fun n => laneOn (convS 0) n && laneRate (convS 0).active n == laneRate (convS 0).active 5) = [5]
    ∧ lanes32.all (fun n => !(laneOn live n && laneRate live.active n == 3)) = true
    ∧ 0 * 1000000000 < (⟨2125, 0, 0⟩ : Schedule).pNs * odrOf 3 ∧ (⟨2125, 0, 0⟩ : Schedule).pNs * odrOf 3 ≤ (odrOf 3) * 1000000000 := by decide
theorem wit_BridgeSamples_values : (-8388608 : Int) ≤ -8388608 ∧ (8388607 : Int) ≤ 8388607 ∧ 255 < 256 ∧ egMode live.active (3 / 4) ≠ 2
    ∧ sampleWord false false (-8388608) 0xFF = 0xFF800000 ∧ sampleWord true true 8388607 1 = 0xFFFFFF01 := by decide
/-- A threshold of 100 above, hysteresis 10, persistence 1: at the level, at its release and above it, at the second hit. -/
theorem wit_BridgeSamples_threshold : bitOf (0x01000064 : Word) 24 = true ∧ bitOf (0x00000064 : Word) 24 = false
    ∧ (thrStep 0x01000064 0x0100000A 100 ⟨true, 1⟩).2 = some 0x60 ∧ (thrStep 0x01000064 0x0100000A 100 ⟨true, 0⟩).2 = none
    ∧ (thrStep 0x01000064 0x0100000A 90 ⟨false, 0⟩).2 = none ∧ (thrStep 0x01000064 0x0100000A 89 ⟨false, 0⟩).2 = some 0x61 := by decide
theorem wit_BridgeSamples_select : laneSource live.active 5 = 0 ∧ live.conv.lastInterval = none ∧ live.sys.power = .active ∧ timeRuns live = true
    ∧ fld (acw { live with active := [(Reg.convInterval, 500)] } Reg.convInterval) 0 24 * 1000 = 500000
    ∧ lanes32.all (fun n => !laneOn live n) = true ∧ lanes32.any (laneOn (convS 0)) = true := by decide

/-- Group 1 and lane 5 of it watched, with a violation in progress, closed, classed, or none. -/
def winS (x y : WinSt) : State := { live with
  active := [(Reg.brdgEgCfg 1, 0x3), (Reg.brdgLaneCfg 5, 0xFFFFFFFF), (Reg.brdgEgCfg 1 + 4, 0xFFFFFFFF)]
  brdg := { live.brdg with lanes := live.brdg.lanes.set 5 x, groups := live.brdg.groups.set 1 y } }
theorem wit_WindowEvents : (winOf (winS { viol := some 7 } {}) (.lane 5)).viol = some 7
    ∧ (winOf (winS {} {}) (.lane 5)).viol = none ∧ (winOf (winS {} {}) (.group 1)).viol = none
    ∧ (winOf (winS { clear := some 9 } {}) (.lane 5)).clear = some 9 ∧ (winOf (winS { viol := some 7, classed := .event } {}) (.lane 5)).classed = .event
    ∧ (groupWin (winS { lastViol := some (50, none) } {}) 1).lastViol = none
    ∧ (groupWin (winS { lastViol := some (50, none) } { lastViol := some (40, some 60) }) 1).lastViol = some (40, some 60)
    ∧ laneSnuffed (winS {} {}) 5 = false ∧ (5208 - 0) * 6144 ≤ 32000000 ∧ ¬((5209 - 0) * 6144 ≤ 32000000) := by decide
/-- The eighth event exactly 10 s after the first, and 1 ns later. -/
theorem wit_WindowEvents_eight : (([10000000001, 7, 6, 5, 4, 3, 2, 1] : List Nat))[7]? = some 1 ∧ 10000000001 ≤ 1 + 10000000000
    ∧ 1 + 10000000000 < 10000000002 := by decide
theorem wit_WindowEvents_group : ({ live.brdg with excOn := 0x80 } : BrdgSt).excOn.getLsbD (7 : Fin 8).val = true
    ∧ live.brdg.excOn.getLsbD (7 : Fin 8).val = false ∧ live.sys.power = .active ∧ live.brdg.restart = false
    ∧ groupOn live 0 = false ∧ live.snuffDue.lanes.getLsbD (31 : Fin 32).val = false
    ∧ ({ live.snuffDue with lanes := 0x80000000, groups := 0x80 } : SnuffSet).lanes.getLsbD (31 : Fin 32).val = true
    ∧ ({ live.snuffDue with lanes := 0x80000000, groups := 0x80 } : SnuffSet).groups.getLsbD (7 : Fin 8).val = true := by decide

/-! ### The fabric -/

/-- Port 0 in TRAINING, TRAINED or UP, seven retrains in the last minute and fifteen CRC errors in the last second. -/
def portS (st : PortState) (l : Bool) : State := { live with link := { live.link with
  joined := true
  ports := live.link.ports.set 0 { ({} : PortSt) with
    state := st, loop := l, retrainMs := List.replicate 7 0, crcMs := List.replicate 15 0 } } }
theorem wit_LinkPorts : linkRuns (portS .training false) = true ∧ (portS .training false).link.ports[(0 : Fin 4)].state = .training
    ∧ linkRuns State.reset = false ∧ (portS .trained false).link.ports[(0 : Fin 4)].state = .trained
    ∧ (portS .trained false).link.ports[(0 : Fin 4)].loop = false ∧ (portS .up true).link.ports[(0 : Fin 4)].loop = true
    ∧ (portS .up false).link.ports[(0 : Fin 4)].state = .up ∧ (portS .up false).link.joined = true
    ∧ 8 ≤ (((portS .up false).sys.lpoMs :: (portS .up false).link.ports[(0 : Fin 4)].retrainMs).filter (fun t => decide ((portS .up false).sys.lpoMs < t + 60000))).length
    ∧ 16 ≤ (((portS .up false).sys.lpoMs :: (portS .up false).link.ports[(0 : Fin 4)].crcMs).filter (fun t => decide ((portS .up false).sys.lpoMs < t + 1000))).length := by
  decide

/-- Frames: for another device with a route and without one, a broadcast of each kind, and the last hop. -/
theorem wit_LinkTopology_forward : linkRuns meshS = true ∧ (7 : Byte) ≠ 0xFE ∧ meshS.link.addr ≠ some 7 ∧ routePort meshS 7 = some 1
    ∧ routePort meshS 9 = none ∧ (1 : Nat) ≤ 1 ∧ (1 : Nat) < 2 ∧ (0x10 : Nat) ≠ 0x08 ∧ (0x10 : Nat) ≠ 0x0C ∧ meshS.link.addr = some 5
    ∧ meshS.link.joined = true ∧ live.link.joined = false := by decide
def topo0 (seq : Word) (j : Bool) : Topo := { uid := Config.uid + 1, seq := seq, priority := 3, pin := 0xFF, addr := 7, joined := j, heldDormant := false
                                              modeLag := false, prepHeld := false, modeGen := 0, modeId := 4, depth := 0, parent := 0xFF, ports := [] }
def topoS : State := { meshS with link := { meshS.link with topo := [topo0 5 true], assigns := [⟨Config.uid + 1, 5, []⟩], ll := some (Config.uid + 1, 100, 7) } }
theorem wit_LinkTopology_topo : (topo0 6 true).uid ≠ Config.uid ∧ topoNewer (topo0 6 true) topoS = true ∧ topoNewer (topo0 5 true) topoS = false
    ∧ topoS.link.topo.any (fun x => x.uid == Config.uid + 1) = true ∧ live.link.topo.all (fun x => x.uid != Config.uid + 1) = true := by
  refine ⟨other_uid, ?_, ?_, ?_, rfl⟩ <;> simp [topoNewer, topoS, topo0, laterW]
theorem wit_LinkTopology_assign : (⟨Config.uid + 1, 6, [(Config.uid, 9)]⟩ : Assign).uid ≠ Config.uid
    ∧ look Config.uid ([(Config.uid, 9)] : List (Long × Byte)) = some (9 : Byte) ∧ look Config.uid ([] : List (Long × Byte)) = none
    ∧ (topoS.link.assigns.find? (fun x => x.uid == Config.uid + 1)).all (fun x => laterW 6 x.seq) = true
    ∧ topoS.link.ll.any (fun x => x.1 == Config.uid + 1) = true := by
  refine ⟨other_uid, ?_, rfl, ?_, ?_⟩ <;> simp [look, topoS, laterW]
theorem wit_LinkTopology_elect : elect [topo0 1 true] = some (topo0 1 true) ∧ elect [] = none := ⟨rfl, rfl⟩

/-- A packet half received, a relay waiting, a broadcast collected. -/
def segS : State := { meshS with
  link := { meshS.link with reasm := [⟨false, 7, .quad, 0x42, 1, [1, 2], 5⟩] }
  sec := { meshS.sec with relays := [⟨.twi, 0x33, 7, 0x01, false⟩], bcasts := [⟨.quad, 0x44, 0x00, [5, 7], [(5, 0)]⟩] } }
theorem wit_LinkPackets : linkRuns segS = true ∧ segS.link.addr = some 5
    ∧ segS.link.reasm.any (fun x => (x.isReply == false && x.src == 7 && x.iface == .quad && x.tag == 0x42) && x.next == 1) = true
    ∧ segS.link.reasm.any (fun x => (x.isReply == false && x.src == 7 && x.iface == .quad && x.tag == 0x42) && x.next == 2) = false
    ∧ ([] : List Byte).length ≤ 4104 ∧ linkRuns State.reset = false ∧ (9 : Byte) ≠ 0xFF
    ∧ segS.sec.relays.find? (fun r => r.iface == .twi && r.tag == 0x33 && r.dest == 7) = some ⟨.twi, 0x33, 7, 0x01, false⟩
    ∧ segS.sec.relays.all (fun r => !(r.iface == .quad && r.tag == 0x33)) = true
    ∧ segS.sec.bcasts.find? (fun b => b.iface == .quad && b.tag == 0x44) = some ⟨.quad, 0x44, 0x00, [5, 7], [(5, 0)]⟩
    ∧ segS.sec.bcasts.all (fun b => !(b.iface == .twi && b.tag == 0x44)) = true := by decide
/-- Packets of seven bytes, of a wrong CRC, and of an undefined opcode with a right one, for this and another device. -/
def rawPkt (op dest : Byte) : List Byte := [op, 0x42, 0, 0, dest, 0] ++ le 2 (crc16 [op, 0x42, 0, 0, dest, 0]).toNat
theorem wit_LinkPackets_raw : ([1, 2, 3, 4, 5, 6, 7] : List Byte).length < 8
    ∧ (u16 ([0xFF, 0x42, 0, 0, 0xFE, 0, 0, 0] : List Byte) 6 == (crc16 ([0xFF, 0x42, 0, 0, 0xFE, 0] : List Byte)).toNat) = false
    ∧ (u16 (rawPkt 0xFF 0xFE) 6 == (crc16 ((rawPkt 0xFF 0xFE).take 6)).toNat) = true ∧ (opInfo 0xFF).isSome = false ∧ (opInfo 0x00).isSome = true
    ∧ (rawPkt 0xFF 0xFE).length = 8 + u16 (rawPkt 0xFF 0xFE) 2 ∧ destHere (takePacket (.loc .twi) meshS) 0xFE = true
    ∧ destHere (takePacket (.loc .twi) meshS) 7 = false ∧ destReachable (takePacket (.loc .twi) meshS) 7 = true
    ∧ destReachable (takePacket (.loc .twi) meshS) 9 = false ∧ canTake (.loc .twi) meshS = true ∧ canTake (.loc .twi) fullS = false := by decide +kernel
theorem test_bad_length : ∃ t, exec (.unknownOpcode (.loc .twi) [1, 2, 3, 4, 5, 6, 7]) live = .next t
    ∧ t.hif.twi.replies.map (fun r => r.bytes.take 2) = [[0x11, 2]] := ⟨_, rfl, by decide⟩

/-- Stream 3 drains to device 7 over the fabric, two segments unacknowledged; stream 4 receives from device 7. -/
def strS : State := { meshS with
  shadow := [(Reg.resStreamCfg 3, 0x00010703), (Reg.resDrainLat 0, 1000)]
  res := { meshS.res with streams := ((meshS.res.streams.set 3 { ({} : StreamSt) with
      admitted := true, pages := 1, recs := [⟨0, 5, List.replicate 300 9, false, 0⟩, ⟨1, 6, List.replicate 300 8, false, 300⟩]
      segBase := 0xFFFF, segsOut := [252, 252] }).set 4 { ({} : StreamSt) with
      admitted := true, pages := 1, rx := some (7, 2), rxNext := 9, rxCount := 31 }).set 5 { ({} : StreamSt) with
      admitted := true, pages := 1, recs := [⟨2, 1, List.replicate 12 7, false, 0⟩] } } }
theorem wit_FabricStreams : linkRuns strS = true ∧ (streamDef strS.shadow 3).drain = 3 ∧ strS.res.streams[(3 : Fin 16)].admitted = true
    ∧ strS.res.streams[(3 : Fin 16)].rx = none ∧ strS.res.streams[(3 : Fin 16)].segsOut.length < 1024
    ∧ (((strS.res.streams[(3 : Fin 16)].recs.flatMap (·.bytes)).drop (0 + sumNat strS.res.streams[(3 : Fin 16)].segsOut)).take 252).length = 96
    ∧ (streamDef strS.shadow 5).drain ≠ 3
    ∧ ((0 : Half) - strS.res.streams[(3 : Fin 16)].segBase).toNat + 1 = strS.res.streams[(3 : Fin 16)].segsOut.length
    ∧ strS.res.streams[(3 : Fin 16)].segsOut.length < ((1 : Half) - strS.res.streams[(3 : Fin 16)].segBase).toNat + 1 := by decide +kernel
theorem wit_FabricStreams_receive : allStreams.find? (fun k => (strS.res.streams[k] : StreamSt).rx == some (7, 2)) = some 4
    ∧ allStreams.find? (fun k => (strS.res.streams[k] : StreamSt).rx == some (7, 1)) = none
    ∧ strS.res.streams[(4 : Fin 16)].rxNext = 9 ∧ 0 + 4096 ≤ freeSpace strS.res.streams[(4 : Fin 16)]
    ∧ ¬(0 + 4097 ≤ freeSpace strS.res.streams[(4 : Fin 16)]) ∧ 31 ≤ strS.res.streams[(4 : Fin 16)].rxCount
    ∧ strS.res.streams[(4 : Fin 16)].rxBytes = [] ∧ (List.replicate 12 (0 : Byte)).length = 12 + pad4 (u16 (List.replicate 12 0) 2) := by decide +kernel
theorem wit_FabricStreams_late : strS.res.streams[(5 : Fin 16)].recs = ⟨2, 1, List.replicate 12 7, false, 0⟩ :: []
    ∧ streamDrain strS 5 ≠ 3 ∧ drainLat strS.shadow (streamDrain strS 5) ≠ 0 ∧ strS.res.streams[(0 : Fin 16)].recs = [] := by decide
theorem test_ack_releases : ∃ t, exec (.streamAckReceive 1 7 3 0) strS = .next t ∧ t.res.streams[(3 : Fin 16)].recs.length = 1
    ∧ t.res.streams[(3 : Fin 16)].ackedBytes = 204 ∧ t.res.streams[(3 : Fin 16)].segBase = 1 := ⟨_, rfl, by decide +kernel, by decide +kernel, by decide +kernel⟩

/-- The lamplighter of a joined pair, its queue with room and full; an origin with one alarm. -/
def lampS (n : Nat) : State := { meshS with
  link := { meshS.link with ll := none, seenAseq := [(7, 3)] }, res := { meshS.res with alarms := List.replicate n [] } }
theorem wit_FabricStreams_alarms : linkRuns (lampS 63) = true ∧ (lampS 63).link.joined = true ∧ isLamplighter (lampS 63) = true
    ∧ ((7, 3) : Byte × Half) ∈ (lampS 63).link.seenAseq ∧ ((7, 4) : Byte × Half) ∉ (lampS 63).link.seenAseq ∧ (lampS 63).res.alarms.length < 64
    ∧ 64 ≤ (lampS 64).res.alarms.length ∧ live.link.addr = none ∧ live.link.ll = none
    ∧ followS.link.addr = some 5 ∧ linkRuns followS = true := by decide
theorem wit_FabricStreams_follower : followS.link.ll = some (Config.uid + 1, 100, 7) ∧ Config.uid + 1 ≠ Config.uid := ⟨rfl, other_uid⟩

/-- An admission request here and on the route, with room and without; its answers. -/
def req0 (dest : Byte) (rate : Nat) (rel : Bool) : AdmissionReq := ⟨7, dest, 2, .twi, 100, rate, 1, rel⟩
def askS : State := { meshS with
  shadow := [(Reg.linkPortCfg 1, 1), (Reg.resDrainRate 0, 100000), (Reg.resDrainLat 0, 1000)]
  res := { meshS.res with streams := meshS.res.streams.set 6 { ({} : StreamSt) with asking := some ⟨.loc .twi, 0x42, 7, 1, 0, 100, 50, 200⟩ } } }
theorem wit_FabricStreams_admission : destHere askS 5 = true ∧ destHere askS 7 = false ∧ (grantReceive (req0 5 10 false) askS).isSome = true
    ∧ grantReceive (req0 5 100001 false) askS = none ∧ routePort askS 7 = some 1 ∧ routePort askS 9 = none
    ∧ portUsed askS 1 + 50 ≤ portRoom askS 1 ∧ ¬(portUsed askS 1 + 100000000 ≤ portRoom askS 1)
    ∧ (∀ k : Fin 16, askS.res.streams[k].rx ≠ some (7, 2)) ∧ strS.res.streams[(4 : Fin 16)].rx = some (7, 2)
    ∧ (∀ j : Fin 16, strS.res.streams[j].rx = some (7, 2) → j = 4)
    ∧ askS.res.streams[(6 : Fin 16)].asking = some ⟨.loc .twi, 0x42, 7, 1, 0, 100, 50, 200⟩ ∧ askS.res.streams[(0 : Fin 16)].asking = none := by decide +kernel

/-! ### Mode changes -/

def chg0 : ModeChange := ⟨4, 100, 2500, []⟩
def flight0 (c a : Bool) : Flight := ⟨chg0, [5, 7], [(5, 0)], true, c, [5], [(5, 100)], a, []⟩
def flyS (f : Flight) : State := { meshS with
  link := { meshS.link with ll := none, flight := some f, prep := some ⟨chg0, false, false, false⟩ }
  sec := { meshS.sec with outstanding := [⟨0x73, .loc .twi, some 0, 3, 0x42, false, []⟩, ⟨0x74, .loc .twi, some 0, 3, 0x43, false, []⟩] } }
theorem wit_ModeChangeRules_prepare : linkRuns followS = true ∧ (llShown followS).1 = 7 ∧ modeCheck chg0 followS = 0 ∧ modeCheck ⟨4, 100, 2501, []⟩
      { followS with link := { followS.link with prep := some ⟨chg0, false, false, false⟩ } } ≠ 0
    ∧ live.link.flight = none ∧ findOut live 0x73 = none ∧ live.link.prep = none := by decide +kernel
theorem wit_ModeChangeRules_done : (flyS (flight0 false false)).link.flight = some (flight0 false false)
    ∧ (findOut (flyS (flight0 false false)) 0x73).isSome = true ∧ (findOut (flyS (flight0 false false)) 0x74).isSome = true
    ∧ ((∀ x ∈ ([(5, 0), (7, 0)] : List (Byte × Byte)), x.2 = 0) ∧ ∀ d ∈ ([5, 7] : List Byte), ∃ x ∈ ([(5, 0), (7, 0)] : List (Byte × Byte)), x.1 = d)
    ∧ ¬(∀ d ∈ (flight0 false false).asked, ∃ x ∈ (flight0 false false).acks, x.1 = d) ∧ (flight0 false false).aborted = false := 
  ⟨rfl, by decide, by decide, by simp, by simp [flight0], rfl⟩
theorem wit_ModeChangeRules_acks : (flight0 true false).change.id = 4 ∧ (7 : Byte) ∈ (flight0 true false).asked ∧ (8 : Byte) ∉ (flight0 true false).asked
    ∧ (∀ x ∈ (flight0 true false).acks, x.1 ≠ 7) ∧ (∃ x ∈ (flight0 true false).acks, x.1 = 5) ∧ ({ flight0 true false with prepared := false } : Flight).prepared = false
    ∧ (∀ x ∈ (flight0 true false).applied, x.1 ≠ 7) ∧ (flight0 true true).aborted = true := 
  ⟨rfl, by simp [flight0], by simp [flight0], by simp [flight0], by simp [flight0], rfl, by simp [flight0], rfl⟩
/-- 60 s after the target epoch starts, exactly, and 1 ns before. -/
theorem wit_ModeChangeRules_resend : targetStart chg0 (flyS (flight0 true false)) = 212500000
    ∧ targetStart chg0 (flyS (flight0 true false)) + 60000000000 ≤ 60212500000
    ∧ ¬(targetStart chg0 (flyS (flight0 true false)) + 60000000000 ≤ 60212499999) ∧ (flight0 true false).commitSent = true
    ∧ (flight0 false false).commitSent = false ∧ (flight0 false false).prepared = true := by decide +kernel
/-- Before the target boundary, at it, and after it; committed or not; lagging; with and without a new period. -/
theorem wit_ModeChangeRules_step : laterW chg0.target 99 = true ∧ laterW chg0.target 100 = false ∧ laterW chg0.target 101 = false
    ∧ (flyS (flight0 true false)).link.prep = some ⟨chg0, false, false, false⟩ ∧ chg0.newP ≠ 0
    ∧ (flyS (flight0 true false)).time.sched = some ⟨2125, 0, 0⟩ ∧ (⟨chg0, true, false, false⟩ : Prepared).committed = true
    ∧ (⟨chg0, false, true, false⟩ : Prepared).lagging = true ∧ (⟨chg0, true, true, true⟩ : Prepared).resume = true
    ∧ (flyS (flight0 true false)).link.prep.all (fun x => x.change.id == 4) = true
    ∧ (flyS (flight0 true false)).link.prep.any (fun x => !x.committed) = true := by decide +kernel
theorem test_mode_applies : (modeStep 100 { flyS (flight0 true false) with
      link := { (flyS (flight0 true false)).link with prep := some ⟨chg0, true, false, false⟩ } }).time.sched = some ⟨2500, 212500000, 100⟩ := by decide +kernel

end Sys2Proof.Tests
end

section
/-! The epoch numbers of a schedule (R22, R24, R25). -/
namespace Sys2Proof.Machine

open Sys2Proof

variable {c : Schedule}

theorem epochAt_before {t : Nat} (h : t < c.t0) : epochAt c t = c.n0 - 1 := if_pos h

/-- Between the start of epoch N0 + k and the start of the next, the quotient by the period is k. -/
theorem epochAt_within {k t : Nat} (hlo : c.t0 + k * c.pNs ≤ t) (hhi : t < c.t0 + (k + 1) * c.pNs) :
    epochAt c t = c.n0 + BitVec.ofNat 32 k := by
  have hstarted : ¬ t < c.t0 := by omega
  have hquot : (t - c.t0) / c.pNs = k := Nat.div_eq_of_lt_le (by omega) (by omega)
  rw [epochAt, if_neg hstarted, hquot]

theorem epochStart_add {k : Nat} (hk : k < 2 ^ 32) :
    epochStart c (c.n0 + BitVec.ofNat 32 k) = c.t0 + k * c.pNs := by
  have hoff : c.n0 + BitVec.ofNat 32 k - c.n0 = BitVec.ofNat 32 k := by
    rw [BitVec.add_comm, BitVec.add_sub_cancel]
  rw [epochStart, hoff, BitVec.toNat_ofNat, Nat.mod_eq_of_lt hk]

theorem laterW_succ (e : Word) : laterW (e + 1) e = true := by simp [laterW]

theorem timeAcq_eq_true (s : State) : timeAcq s = true ↔ s.time.state ≠ .stopped ∧ s.time.acq = true := by
  simp [timeAcq, timeRuns]

theorem currentEpoch_eq_some {s : State} (hs : s.time.sched = some c) (ha : timeAcq s = true) :
    currentEpoch s = some (epochAt c s.time.ns) := by
  simp [currentEpoch, hs, ha]

/-- No current epoch exists without a schedule, or while time does not run or is not acquired (R25). -/
theorem currentEpoch_eq_none {s : State} (h : s.time.sched = none ∨ s.time.state = .stopped ∨ s.time.acq = false) :
    currentEpoch s = none := by
  rcases h with h | h | h <;> simp [currentEpoch, timeAcq, timeRuns, h]

/-- Before T0 the number is N0 - 1: N0 is the next boundary and passes the test of a target epoch. -/
theorem epoch_before_schedule {s : State} (hs : s.time.sched = some c) (ha : timeAcq s = true) (ht : s.time.ns < c.t0) :
    reportEpoch s = c.n0 - 1 ∧ nextEpoch s = some c.n0 ∧ targetBad s c.n0 = none := by
  have hcur : currentEpoch s = some (c.n0 - 1) := by rw [currentEpoch_eq_some hs ha, epochAt_before ht]
  have hlater : laterW c.n0 (c.n0 - 1) = true := by
    have h := laterW_succ (c.n0 - 1)
    rwa [BitVec.sub_add_cancel] at h
  refine ⟨?_, ?_, ?_⟩
  · simp [reportEpoch, hcur]
  · simp [nextEpoch, hcur]
  · rw [targetBad, hcur]
    exact if_pos hlater

end Sys2Proof.Machine

open Sys2Proof Sys2Proof.Machine

/-- Settles O35: the quotient of the time since T0 by the period counts the epochs, and N0 - 1 stands before T0. -/
theorem epochNumbers : Obligations.EpochNumbers := by
  unfold Obligations.EpochNumbers
  intro c _ _
  have hper : 1000 * c.p = c.pNs := Nat.mul_comm 1000 c.p
  rw [hper]
  refine ⟨fun _ _ => epochAt_within, fun _ => epochAt_before, fun h0 t ht => ?_, fun _ => epochStart_add,
    fun s hs hst hacq => epoch_before_schedule hs ((timeAcq_eq_true s).2 ⟨hst, hacq⟩), fun s h => ?_⟩
  · rw [epochAt_before ht, h0]
    rfl
  · have hnone := currentEpoch_eq_none h
    exact ⟨hnone, by simp [reportEpoch, hnone], fun e => by simp [targetBad, hnone]⟩

end

section
/-! What the operations of an epoch boundary and of a grid frame leave alone. -/
namespace Sys2Proof.Machine

open Sys2Proof

/-! ### Records write the reservoir only -/

/-- `t` differs from `s` in the reservoir at most. -/
def OnlyRes (s t : State) : Prop := t = { s with res := t.res }

variable {s t u : State}

theorem OnlyRes.refl (s : State) : OnlyRes s s := rfl

theorem OnlyRes.trans (h : OnlyRes s t) (k : OnlyRes t u) : OnlyRes s u := by
  unfold OnlyRes at *
  rw [k, h]

theorem onlyRes_foldl {α : Type} {f : State → α → State} (hf : ∀ s a, OnlyRes s (f s a)) (l : List α) (s : State) :
    OnlyRes s (l.foldl f s) :=
  List.foldlRecOn (motive := OnlyRes s) l f (.refl s) (fun _ h a _ => h.trans (hf _ a))

theorem onlyRes_ite {p : Prop} [Decidable p] (h : OnlyRes s t) (k : OnlyRes s u) : OnlyRes s (if p then t else u) := by
  split <;> assumption

theorem onlyRes_modStream (k : Fin 16) (f : StreamSt → StreamSt) (s : State) : OnlyRes s (modStream k f s) := rfl

theorem onlyRes_putRecord (k : Fin 16) (type : Nat) (e : Word) (p : List Byte) (s : State) :
    OnlyRes s (putRecord k type e p s) := rfl

theorem onlyRes_emit (bit type : Nat) (e : Word) (p : Fin 16 → Option (List Byte)) (s : State) :
    OnlyRes s (emit bit type e p s) := by
  refine onlyRes_foldl (fun t k => ?_) _ s
  split
  · split
    · exact onlyRes_putRecord ..
    · exact .refl t
  · exact .refl t

theorem onlyRes_emitEvents (bit : Nat) (e : Word) (l : List (List Byte)) (s : State) :
    OnlyRes s (emitEvents bit e l s) :=
  onlyRes_ite (.refl s) (onlyRes_emit ..)

theorem onlyRes_writeDark (k : Fin 16) (r : DarkRun) (s : State) : OnlyRes s (writeDark k r s) := rfl

theorem onlyRes_darkEpoch (k : Fin 16) (e : Word) (a b : Nat) (s : State) : OnlyRes s (darkEpoch k e a b s) :=
  (onlyRes_modStream k _ s).trans (onlyRes_foldl (fun t r => onlyRes_writeDark k r t) _ _)

theorem onlyRes_closeDarks (k : Fin 16) (s : State) : OnlyRes s (closeDarks k s) :=
  (onlyRes_modStream k _ s).trans (onlyRes_foldl (fun t r => onlyRes_writeDark k r t) _ _)

theorem onlyRes_markDark (cause mask : Nat) (s : State) : OnlyRes s (markDark cause mask s) := by
  unfold markDark
  split
  · refine onlyRes_foldl (fun t k => onlyRes_ite ?_ (.refl t)) _ s
    exact (onlyRes_modStream k _ t).trans (onlyRes_darkEpoch ..)
  · exact .refl s

theorem onlyRes_stopStream (k : Fin 16) (s : State) : OnlyRes s (stopStream k s) :=
  (onlyRes_closeDarks k s).trans (onlyRes_modStream ..)

theorem onlyRes_stopStreams (s : State) : OnlyRes s (stopStreams s) :=
  onlyRes_foldl (fun t k => (onlyRes_ite (onlyRes_stopStream k t) (.refl t)).trans (onlyRes_modStream ..)) _ s

theorem onlyRes_closeBlock (k : Fin 16) (b : BlockRun) (s : State) : OnlyRes s (closeBlock k b s) :=
  (onlyRes_modStream k _ s).trans (onlyRes_ite (onlyRes_putRecord ..) (.refl _))

theorem onlyRes_closeMarks (e : Word) (s : State) : OnlyRes s (closeMarks e s) :=
  onlyRes_foldl (fun t _ => (onlyRes_ite (.refl t) (onlyRes_putRecord ..)).trans (onlyRes_modStream ..)) _ s

theorem onlyRes_skipEpochs (a b : Word) (cause x y : Nat) (s : State) : OnlyRes s (skipEpochs a b cause x y s) :=
  onlyRes_foldl (fun t k => onlyRes_ite (.refl t)
    ((onlyRes_modStream k _ t).trans (onlyRes_foldl (fun u r => onlyRes_writeDark _ r u) _ _))) _ s

theorem onlyRes_gapDark (m : Word) (tb cause : Nat) (c : Schedule) (s : State) : OnlyRes s (gapDark m tb cause c s) := by
  unfold gapDark
  split
  · exact onlyRes_ite (.refl s) (onlyRes_skipEpochs ..)
  · exact .refl s

theorem onlyRes_settleEpochs (s : State) : OnlyRes s (settleEpochs s) := rfl


/-! ### Observations that a step keeps -/

/-- `t` shows what `s` shows of an observation `v`, and no grid frame has begun. -/
def Keeps {α : Type} (v : State → α) (s t : State) : Prop :=
  v t = v s ∧ (s.grid.frame = none → t.grid.frame = none)

variable {α : Type} {v : State → α}

theorem Keeps.refl (s : State) : Keeps v s s := ⟨rfl, id⟩

theorem Keeps.trans (h : Keeps v s t) (k : Keeps v t u) : Keeps v s u := ⟨k.1.trans h.1, fun e => k.2 (h.2 e)⟩

/-- The form of `trans` for a record update followed by an operation: the operation is read first. -/
theorem Keeps.after (k : Keeps v t u) (h : v t = v s) (hf : s.grid.frame = none → t.grid.frame = none) : Keeps v s u :=
  .trans ⟨h, hf⟩ k

/-- The form of `trans` for an operation followed by a record update. -/
theorem Keeps.upd (k : Keeps v s t) (h : v u = v t) (hf : t.grid.frame = none → u.grid.frame = none) : Keeps v s u :=
  .trans k ⟨h, hf⟩

theorem keeps_foldl {β : Type} {f : State → β → State} (hf : ∀ s a, Keeps v s (f s a)) (l : List β) (s : State) :
    Keeps v s (l.foldl f s) :=
  List.foldlRecOn (motive := Keeps v s) l f (.refl s) (fun _ h a _ => h.trans (hf _ a))

theorem keeps_ite {p : Prop} [Decidable p] (h : Keeps v s t) (k : Keeps v s u) : Keeps v s (if p then t else u) := by
  split <;> assumption

theorem keeps_ite_fst {β : Type} {p : Prop} [Decidable p] {a b : State × β} (h : Keeps v s a.1) (k : Keeps v s b.1) :
    Keeps v s (if p then a else b).1 := by
  split <;> assumption

/-- What the state of a pair that an equation names keeps. -/
theorem keeps_of_eq {β : Type} {p q : State × β} (e : p = q) (h : Keeps v s p.1) : Keeps v s q.1 := e ▸ h

theorem keeps_of_eq_snd {β γ : Type} {p q : γ × State × β} (e : p = q) (h : Keeps v s p.2.1) : Keeps v s q.2.1 := e ▸ h

theorem OnlyRes.keeps (h : OnlyRes s t) (hv : ∀ r, v { s with res := r } = v s) : Keeps v s t := by
  rw [h]
  exact ⟨hv _, id⟩

/-! ### What a fault of a block leaves alone -/

/-- What the raise of a fault of block `b` leaves alone, whatever its reaction: only faults of the grid (2) touch the
snuffed lines and the drivers, only those of the grid and the touch pipeline (3) touch the pipeline. -/
def faultView (b : Nat) (s : State) :=
  (s.shadow, s.gram, s.nvm, s.sys.power, s.sys.trans, s.time.ns, s.time.lastAcq, s.snuffOff.lines,
    (s.grid.running, s.grid.nextSlot, s.grid.ring, s.grid.nextSeq, s.grid.frameSeq, s.grid.lastSlot, s.grid.lastCarrier,
      s.grid.framesLeft, s.grid.runDone),
    if b = 2 then none else some (s.grid.driversOff, s.snuff.lines, s.snuffDue.lines),
    if b = 2 ∨ b = 3 then none else some s.tch)

theorem markDark_faultView (b cause mask : Nat) (s : State) : Keeps (faultView b) s (markDark cause mask s) :=
  (onlyRes_markDark cause mask s).keeps (fun _ => rfl)

theorem safeBegin_faultView (b : Nat) (s : State) : Keeps (faultView b) s (safeBegin s) :=
  keeps_ite (.refl s) (.after (markDark_faultView b ..) rfl (fun _ => rfl))

theorem snuffAdd_lines {b : Nat} (hb : b ≠ 2) (item : Nat) (x : SnuffSet) : (snuffAdd b item x).lines = x.lines := by
  unfold snuffAdd
  rw [if_neg hb]
  (repeat' split) <;> rfl

theorem snuffItem_faultView (b item : Nat) (s : State) : Keeps (faultView b) s (snuffItem b item s) := by
  unfold snuffItem
  refine keeps_ite (.refl s) (keeps_ite ?_ (keeps_ite ?_ ?_)) <;> refine ⟨?_, id⟩ <;> by_cases hb : b = 2 <;>
    simp [faultView, hb, snuffAdd_lines]

theorem touchForget_faultView {b : Nat} (hb : b = 2 ∨ b = 3) (s : State) : Keeps (faultView b) s (touchForget s) :=
  ⟨by simp [faultView, hb, touchForget], id⟩

theorem armTrigger_faultView (b : Nat) (s : State) (n : Fin 16) : Keeps (faultView b) s (armTrigger n s).1 := ⟨rfl, id⟩

theorem resetEffects_faultView (b : Nat) (s : State) : Keeps (faultView b) s (resetEffects b s) := by
  unfold resetEffects
  split
  case h_2 =>
    refine .trans ?_ (touchForget_faultView (.inl rfl) _)
    exact .after (markDark_faultView ..) rfl (fun _ => rfl)
  case h_3 =>
    exact (markDark_faultView 3 4 touchSources s).trans ((touchForget_faultView (.inr rfl) _).upd rfl id)
  case h_7 =>
    have harm := keeps_foldl (armTrigger_faultView 7) (List.finRange 16)
    exact (harm _).after (s := s) rfl id |>.trans (keeps_ite ⟨rfl, id⟩ (.refl _))
  case h_9 => exact .after (markDark_faultView ..) rfl id
  all_goals exact ⟨rfl, id⟩

theorem blockReset_faultView (b src : Nat) (s : State) : Keeps (faultView b) s (blockReset b src s) :=
  keeps_ite (.refl s) (.after (resetEffects_faultView ..) rfl id)

theorem react_faultView (b src item sev : Nat) (s : State) : Keeps (faultView b) s (react b src item sev s) := by
  have hirq : Keeps (faultView b) s
      (if 1 ≤ sev then { s with hif := { s.hif with irqEvents := s.hif.irqEvents ||| 0b0001 } } else s) :=
    keeps_ite ⟨rfl, id⟩ (.refl s)
  have hsnuff := hirq.trans (keeps_ite (snuffItem_faultView b item _) (.refl _) (p := 2 ≤ sev))
  exact hsnuff.trans (keeps_ite (blockReset_faultView ..) (keeps_ite (safeBegin_faultView ..) (.refl _)))

theorem raise_faultView (b src item : Nat) (s : State) : Keeps (faultView b) s (raise b src item s) := by
  unfold raise raiseIn
  refine keeps_ite (.refl s) ?_
  extract_lets
  split
  extract_lets recorded journaled
  have hrecorded : Keeps (faultView b) s recorded := ⟨rfl, id⟩
  have hjournaled : Keeps (faultView b) s journaled := hrecorded.trans (keeps_ite ⟨rfl, id⟩ (.refl _))
  exact hjournaled.trans (keeps_ite (.refl _) (keeps_ite ⟨rfl, id⟩ (react_faultView ..)))


/-! ### What the operations of a boundary leave alone -/

/-- What the operations between the taking of a boundary and its end leave alone, but for those that set it. -/
def boundaryView (s : State) :=
  (s.nvm, s.sys.power, s.sys.trans, s.time.ns, s.time.lastAcq, s.snuffOff.lines, s.snuff.lines, s.snuffDue.lines,
    s.grid.running, s.grid.nextSlot, s.grid.driversOff)

/-- `t` keeps the boundary view of `s`, and no grid frame has begun. -/
abbrev Calm (s t : State) : Prop := Keeps boundaryView s t

theorem OnlyRes.calm (h : OnlyRes s t) : Calm s t := h.keeps (fun _ => rfl)

theorem calm_raise {b : Nat} (hb : b ≠ 2) (src item : Nat) (s : State) : Calm s (raise b src item s) := by
  obtain ⟨hview, hframe⟩ := raise_faultView b src item s
  refine ⟨?_, hframe⟩
  simp only [faultView, if_neg hb, Prod.mk.injEq, Option.some.injEq] at hview
  simp only [boundaryView, hview]

/-! #### Touch windows and contacts -/

theorem calm_startWindows (mask : Nat) (b : Bool) (s : State) : Calm s (startWindows mask b s) := by
  unfold startWindows
  extract_lets rs fresh cancelled opened
  have hcancelled : Calm s cancelled := ⟨rfl, id⟩
  have hopened : Calm s opened := by
    refine hcancelled.trans (keeps_foldl (fun t r => ?_) rs _)
    exact ⟨rfl, id⟩
  exact keeps_ite (.refl s) (hopened.upd rfl id)

theorem calm_tchStart (s : State) : Calm s (tchStart s) := (calm_startWindows 0xFF false _).after rfl id

theorem calm_reportCancelled (t0 : Nat) (pick : Contact → Bool) (s : State) (o : TchOut) :
    Calm s (reportCancelled t0 pick s o).1 :=
  List.foldlRecOn (motive := fun (a : State × TchOut) => Calm s a.1) _ _ (.refl s) (fun _ h _ _ => h.upd rfl id)

theorem calm_idIssue (n : Nat) (s : State) : Calm s (idIssue n s).2 := by
  induction n generalizing s with
  | zero => exact ⟨rfl, id⟩
  | succ n ih =>
    simp only [idIssue]
    split
    · exact (ih _).after rfl id
    · exact ⟨rfl, id⟩

theorem calm_needSelf (w : Bool) (i t0 te : Nat) (s : State) (o : TchOut) : Calm s (needSelf w i t0 te s o).2.1 := by
  unfold needSelf
  split
  · exact .refl s
  · split
    · exact .refl s
    · exact keeps_ite (.refl s) ((calm_raise (by decide) _ _ _).after rfl id)

theorem calm_fieldFrame (r : Region) (t0 te : Nat) (xs : List NodeR) (s : State) (o : TchOut) :
    Calm s (fieldFrame r t0 te xs s o).2.1 :=
  (calm_needSelf ..).upd rfl id

theorem calm_contactDown (t0 : Nat) (c : Contact) (s : State) : Calm s (contactDown t0 c s).2 := by
  unfold contactDown
  cases c.id with
  | none => exact (calm_idIssue 256 s).trans (keeps_ite (.refl _) ⟨rfl, id⟩)
  | some v => exact keeps_ite (.refl s) ⟨rfl, id⟩


theorem calm_gesture (g : GestCfg) (bit : Nat) (e : TchEv) (s : State) (o : TchOut) : Calm s (gesture g bit e s o).1 := by
  unfold gesture
  split
  · exact keeps_ite ⟨rfl, id⟩ (.refl s)
  · exact .refl s

theorem calm_upGestures (t0 : Nat) (c : Contact) (s : State) (o : TchOut) : Calm s (upGestures t0 c s o).1 := by
  unfold upGestures
  refine keeps_ite_fst (.refl s) ?_
  extract_lets g dt tap dbl
  have htaps : Calm s (if dbl then gesture g 1 ⟨0x21, c.region, c.id.getD 0xFF, c.x, c.y⟩ s o
      else if tap then gesture g 0 ⟨0x20, c.region, c.id.getD 0xFF, c.x, c.y⟩ s o else (s, o)).1 :=
    keeps_ite_fst (calm_gesture ..) (keeps_ite_fst (calm_gesture ..) (.refl s))
  split
  next u o hu =>
    rw [hu] at htaps
    extract_lets u'
    have htapped : Calm s u' := htaps.trans (keeps_ite ⟨rfl, id⟩ (.refl _))
    exact keeps_ite_fst (htapped.trans (calm_gesture ..)) htapped

theorem calm_longPress (t0 : Nat) (c : Contact) (s : State) (o : TchOut) : Calm s (longPress t0 c s o).2.1 := by
  simp only [longPress]
  split
  · exact .refl s
  · split
    · exact calm_gesture ..
    · exact .refl s

theorem calm_contactStuck (t0 : Nat) (c : Contact) (s : State) (o : TchOut) : Calm s (contactStuck t0 c s o).1 :=
  (calm_raise (by decide) _ _ _).after rfl id

/-- A tentative contact is matched, goes or goes DOWN; one that holds an ID ends, is missed or follows. -/
theorem calm_keepContact (t0 : Nat) (wet : Option Rect) (ds : List Det) (pairs : List (Nat × Nat)) (c : Contact)
    (a : State × TchOut × Relearn) : Calm a.1 (keepContact t0 wet ds pairs c a).1 := by
  obtain ⟨s, o, rl⟩ := a
  unfold keepContact
  generalize (look c.slot pairs).bind (fun k => ds[k]?) = d
  cases d with
  | none =>
    refine keeps_ite_fst ⟨rfl, id⟩ (keeps_ite_fst ⟨rfl, id⟩ (keeps_ite_fst (calm_contactStuck (o := o) ..) (keeps_ite_fst ?_ ?_)))
    · exact (calm_upGestures ..).after rfl id
    · exact ⟨rfl, id⟩
  | some d =>
    refine keeps_ite_fst (keeps_ite_fst ⟨rfl, id⟩ (keeps_ite_fst ?_ ⟨rfl, id⟩))
      (keeps_ite_fst ⟨rfl, id⟩ (keeps_ite_fst (calm_contactStuck (o := o) ..) (keeps_ite_fst ?_ ?_)))
    · exact (calm_contactDown t0 ..).upd rfl id
    · exact (calm_contactDown t0 ..).upd rfl id
    · exact (calm_longPress t0 _ s o).upd rfl id

theorem calm_enterDet (t0 i : Nat) (p : List (List (Nat × Nat) × Bool)) (d : Det) (a : State × TchOut) :
    Calm a.1 (enterDet t0 i p d a).1 := by
  obtain ⟨s, o⟩ := a
  simp only [enterDet]
  split
  · exact .refl s
  split
  · refine .trans ?_ (keeps_ite (.refl _) ((calm_raise (by decide) _ _ _).after rfl id))
    exact ⟨rfl, id⟩
  split
  · exact (calm_contactDown t0 ..).upd rfl id
  split
  · exact (calm_contactDown t0 ..).upd rfl id
  · exact ⟨rfl, id⟩

theorem calm_keeper (t0 i : Nat) (wet : Option Rect) (ds : List Det) (s : State) (o : TchOut) :
    Calm s (keeper t0 i wet ds s o).1 := by
  unfold keeper
  extract_lets cs pairs
  have hheld : Calm s (cs.foldl (fun a c => keepContact t0 wet ds pairs
      ((a.1.tch.contacts.find? (fun x => x.slot == c.slot)).getD c) a) ((s, o, []) : State × TchOut × Relearn)).1 :=
    List.foldlRecOn (motive := fun (a : State × TchOut × Relearn) => Calm s a.1) _ _ (.refl s)
      (fun _ h _ _ => h.trans (calm_keepContact ..))
  split
  next u o rl hu =>
    rw [hu] at hheld
    exact List.foldlRecOn (motive := fun (a : State × TchOut) => Calm s a.1) _ _ hheld
      (fun _ h _ _ => h.trans (calm_enterDet ..))

theorem calm_surfaceFrame (r : Region) (t0 te : Nat) (xs : List NodeR) (s : State) (o : TchOut) :
    Calm s (surfaceFrame r t0 te xs s o).2.1 := by
  unfold surfaceFrame
  extract_lets f i st on1 off els acts dets
  have hself := calm_needSelf (waterOn f i || haloOn f i) i t0 te s o
  split
  next selfs u o hu =>
    rw [hu] at hself
    extract_lets isWet wets fingers wetNodes skip
    split
    next a k _ =>
      split
      next wet run ch _ =>
        extract_lets o rect upd u2 held hov ds
        have hkept := calm_keeper t0 i rect ds u2 o
        split
        next w o rl hw =>
          rw [hw] at hkept
          exact (hself.trans (hkept.after rfl id)).upd rfl id


theorem calm_windowEnd (r : Region) (xs : List NodeR) (l : List (List (Option Int))) (s : State) (o : TchOut) :
    Calm s (windowEnd r xs l s o).2.1 := by
  simp only [windowEnd]
  split
  · exact ⟨rfl, id⟩
  · split <;> exact ⟨rfl, id⟩

/-- A frame of a region: skipped, one of its start-up window, or run through the features of its type. -/
theorem calm_regionFrame (h : HeldFrame) (i : Nat) (a : State × TchOut) : Calm a.1 (regionFrame h i a).1 := by
  obtain ⟨s, o⟩ := a
  unfold regionFrame
  refine keeps_ite_fst (.refl s) ?_
  extract_lets +onlyGivenNames gap opened xs none1
  have hopened : Calm s opened := keeps_ite (calm_startWindows ..) (.refl s)
  clear_value opened
  refine hopened.trans (keeps_ite_fst ((calm_raise (by decide) _ _ _).after rfl id) ?_)
  extract_lets +onlyGivenNames timed te run
  have htimed : Calm opened timed := ⟨rfl, id⟩
  have hrun : ∀ xs u o, Calm u (run xs u o).1 := by
    intro xs u o
    unfold run
    extract_lets mine o'
    split
    next ys w o'' hw =>
      have hfeatures : Calm u w := by
        split at hw
        · exact keeps_of_eq_snd hw (calm_fieldFrame ..)
        · exact keeps_of_eq_snd hw (calm_surfaceFrame ..)
      exact hfeatures.upd rfl id
  clear_value run timed
  refine htimed.trans ?_
  split
  · exact hrun ..
  · have hdone := calm_reportCancelled h.t0 (fun c => c.region == i) timed o
    split
    next u o hu =>
      rw [hu] at hdone
      refine hdone.trans ?_
      extract_lets vals
      refine keeps_ite_fst ⟨rfl, id⟩ ?_
      extract_lets
      refine keeps_ite_fst ⟨rfl, id⟩ ?_
      have hend := calm_windowEnd (regionOf s.active i) xs vals u o
      split
      next ys w o hw =>
        rw [hw] at hend
        exact hend.trans (hrun ..)

theorem calm_controlsFrame (pick : Nat → Bool) (sig : Nat → Nat → Option Int) (s : State) :
    Calm s (controlsFrame pick sig s).1 := by
  refine keeps_ite_fst (.refl s) ?_
  exact List.foldlRecOn (motive := fun (a : State × List (List Byte)) => Calm s a.1) _ _ (.refl s)
    (fun _ h _ _ => h.upd rfl id)

theorem calm_sendRouted (f : Frame) (s : State) : Calm s (sendRouted f s) := by
  unfold sendRouted
  split <;> exact ⟨rfl, id⟩

theorem calm_sendPacket (d : Byte) (c : Fin 4) (type : Nat) (i : Iface) (tag : Byte) (bs : List Byte) (s : State) :
    Calm s (sendPacket d c type i tag bs s) :=
  keeps_foldl (fun _ _ => calm_sendRouted ..) _ s

theorem calm_alarmToFabric (bs : List Byte) (s : State) : Calm s (alarmToFabric bs s) := by
  unfold alarmToFabric
  refine keeps_ite ?_ (.refl s)
  extract_lets q _ queued
  have hqueued : Calm s queued := ⟨rfl, id⟩
  split
  · exact (hqueued.trans (calm_sendRouted ..)).upd rfl id
  · exact hqueued

theorem calm_pushAlarm (b : Nat) (ev : List Byte) (e : Word) (s : State) : Calm s (pushAlarm b ev e s) := by
  refine .trans ?_ (calm_alarmToFabric ..)
  exact keeps_ite ⟨rfl, id⟩ ((calm_raise (by decide) _ _ _).after rfl id)

theorem calm_showContacts (t0 : Nat) (s : State) : Calm s (showContacts t0 s) := by
  simp [Keeps, boundaryView, showContacts]

theorem calm_finishMutual (h : HeldFrame) (ctl : List (List Byte)) (s : State) (o : TchOut) :
    Calm s (finishMutual h ctl s o) := by
  unfold finishMutual
  extract_lets fl payload evs alarmed write reported controlled recorded per
  have halarmed : Calm s alarmed := keeps_foldl (fun _ _ => calm_pushAlarm ..) _ s
  have hreported : Calm s reported := halarmed.trans (keeps_ite (onlyRes_emit ..).calm (.refl _))
  have hcontrolled : Calm s controlled := hreported.trans (keeps_ite (.refl _) (onlyRes_emit ..).calm)
  have hrecorded : Calm s recorded := hcontrolled.trans (onlyRes_emitEvents ..).calm
  clear_value recorded
  exact .trans (hrecorded.upd rfl id) (calm_showContacts ..)

theorem calm_mutualFrame (h : HeldFrame) (s : State) : Calm s (mutualFrame h s) := by
  unfold mutualFrame
  have hlowered : Calm s (reportLowered h (s, {})).1 := calm_reportCancelled ..
  split
  next u o hu =>
    rw [hu] at hlowered
    have hregions : Calm s ((List.range 8).foldl (fun a i => regionFrame h i a) (u, o)).1 :=
      List.foldlRecOn (motive := fun (a : State × TchOut) => Calm s a.1) _ _ hlowered
        (fun _ k _ _ => k.trans (calm_regionFrame ..))
    split
    next w o hw =>
      rw [hw] at hregions
      have hcontrols := hregions.trans (calm_controlsFrame (fun c => bitOf (acw w (Reg.tchCtlCfg c)) 2)
        (fun d n => look (d, n) o.els) w)
      split
      next x ctl hx =>
        rw [hx] at hcontrols
        exact hcontrols.trans (calm_finishMutual ..)

theorem calm_selfLine (i : Nat) (x : Option Int) (a : State × List (Option Int)) : Calm a.1 (selfLine i x a).1 := by
  obtain ⟨s, l⟩ := a
  cases x with
  | none => exact .refl s
  | some x => exact keeps_ite_fst ⟨rfl, id⟩ (keeps_ite (.refl s) ⟨rfl, id⟩)

theorem calm_selfFrame (h : HeldFrame) (s : State) : Calm s (selfFrame h s) := by
  unfold selfFrame
  extract_lets +onlyGivenNames set m lines raw vals x
  clear_value lines raw vals x
  split
  next u usable hu =>
    have hwindow : Calm s u := by
      split at hu
      · exact keeps_of_eq hu (.refl s)
      · extract_lets ws _ learned at hu
        have hlearned : Calm s learned := by
          refine keeps_foldl (fun t p => ?_) _ s
          split <;> exact ⟨rfl, id⟩
        clear_value learned
        exact keeps_of_eq hu (keeps_ite_fst ⟨rfl, id⟩ (hlearned.upd rfl id))
    refine keeps_ite hwindow ?_
    have hlines : Calm s (vals.zipIdx.foldl (fun a p => selfLine p.2 p.1 a) (u, [])).1 :=
      List.foldlRecOn (motive := fun (a : State × List (Option Int)) => Calm s a.1) _ _ hwindow
        (fun _ k _ _ => k.trans (calm_selfLine ..))
    split
    next w sigs hw =>
      have hread : Calm s w := keeps_of_eq hw hlines
      extract_lets +onlyGivenNames _ taken
      have htaken : Calm s taken := hread.upd rfl id
      clear_value taken
      split
      next z ctl hz =>
        have hcontrols : Calm s z := htaken.trans (keeps_of_eq hz (calm_controlsFrame ..))
        exact hcontrols.trans (keeps_ite (.refl _) (onlyRes_emit ..).calm)

theorem calm_tchDrain (s : State) : Calm s (tchDrain s) := by
  have htaken : Calm s { s with tch := { s.tch with todo := [] } } := ⟨rfl, id⟩
  refine htaken.trans (keeps_ite (.refl _) (keeps_foldl (fun t h => ?_) _ _))
  exact keeps_ite (keeps_ite (calm_mutualFrame ..) (calm_selfFrame ..)) (.refl t)

theorem calm_tchStop (m : Word) (t0 : Nat) (s : State) : Calm s (tchStop m t0 s) := by
  unfold tchStop
  extract_lets cancelled
  have hcancelled : Calm s cancelled := (calm_tchDrain s).upd rfl id
  have hreported := hcancelled.trans (calm_reportCancelled t0 (fun _ => true) cancelled {})
  split
  next u o hu =>
    rw [hu] at hreported
    extract_lets fl payload recorded
    have hrecorded : Calm s recorded := hreported.trans (onlyRes_emit ..).calm
    clear_value recorded
    exact .trans (hrecorded.upd rfl id) (calm_showContacts ..)


/-! #### A region's configuration at a boundary -/

theorem calm_tchBoundary (old : RegFile) (s : State) : Calm s (tchBoundary old s) := by
  unfold tchBoundary
  extract_lets +onlyGivenNames f pairs moved'
  have hmoved : Calm s moved' := by
    refine keeps_foldl (fun t p => ?_) pairs s
    refine keeps_ite ?_ (keeps_ite ⟨rfl, id⟩ (.refl t))
    extract_lets cancelled disabled
    have hcancelled : Calm t cancelled := ⟨rfl, id⟩
    have hdisabled : Calm t disabled := hcancelled.trans (keeps_ite ⟨rfl, id⟩ (.refl _))
    exact hdisabled.trans (keeps_ite (.refl _) ⟨rfl, id⟩)
  clear_value moved' pairs
  extract_lets +onlyGivenNames moved lines planned all windows _ waiting
  have hwindows : Calm s windows := hmoved.trans (calm_startWindows ..)
  clear_value windows
  have hwaiting : Calm s waiting := by
    refine .trans (hwindows.upd (u := { windows with tch := { windows.tch with resetWait := [] } }) rfl id) ?_
    exact keeps_foldl (fun t (p : Nat × Bool) => calm_startWindows p.1 p.2 t) _ _
  clear_value waiting
  exact hwaiting.upd rfl id

/-! #### Lanes -/

theorem calm_laneStop (n : Nat) (s : State) : Calm s (laneStop n s) := by
  refine .trans (t := _) ?_ (keeps_ite ⟨rfl, id⟩ (.refl _))
  exact ⟨rfl, id⟩

theorem calm_convPowerOff (s : State) : Calm s (convPowerOff s) := by
  unfold convPowerOff
  extract_lets stopped
  have hstopped : Calm s stopped := keeps_foldl (fun t n => keeps_ite (calm_laneStop ..) (.refl t)) _ s
  clear_value stopped
  exact hstopped.upd rfl id

theorem calm_allLaneReset (code : Nat) (m : Word) (tb : Nat) (s : State) : Calm s (allLaneReset code m tb s) := by
  unfold allLaneReset
  extract_lets +onlyGivenNames on
  refine keeps_ite (.refl s) ?_
  extract_lets +onlyGivenNames cfg pulse settled
  have hsettled : Calm s settled := by
    refine keeps_foldl (fun t n => ?_) on s
    exact ⟨rfl, id⟩
  clear_value settled
  exact hsettled.upd rfl id

theorem calm_convEvent (sel : Nat → Bool) (e : Nat) (s : State) : Calm s (convEvent sel e s) := by
  refine keeps_foldl (fun t n => keeps_ite ?_ (.refl t)) _ s
  exact ⟨rfl, id⟩

theorem calm_convBoundary (m : Word) (tb : Nat) (old : RegFile) (b : Bool) (s : State) :
    Calm s (convBoundary m tb old b s) := by
  unfold convBoundary
  extract_lets +onlyGivenNames changed
  have hchanged : Calm s changed := by
    refine keeps_foldl (fun t n => ?_) _ s
    exact ⟨rfl, id⟩
  clear_value changed
  extract_lets +onlyGivenNames due stopped resume _ halted
  have hstopped : Calm s stopped := hchanged.trans (keeps_foldl (fun t n => keeps_ite (calm_laneStop ..) (.refl t)) _ _)
  clear_value stopped
  have hhalted : Calm s halted := hstopped.upd rfl id
  clear_value halted
  extract_lets +onlyGivenNames resumed
  have hresumed : Calm s resumed := by
    refine hhalted.trans (keeps_ite (keeps_foldl (fun t n => ?_) _ _) (.refl _))
    exact ⟨rfl, id⟩
  clear_value resumed
  extract_lets +onlyGivenNames started decim sync stepped _ begun
  have hstarted : Calm s started := by
    refine hresumed.trans (keeps_foldl (fun t n => keeps_ite ?_ (.refl t)) _ _)
    exact ⟨rfl, id⟩
  clear_value started
  have hbegun : Calm s begun := hstarted.upd rfl id
  clear_value begun
  refine .trans ?_ (calm_convEvent ..)
  exact hbegun.trans (keeps_ite (calm_allLaneReset ..) (keeps_ite (calm_allLaneReset ..)
    (keeps_ite (calm_allLaneReset ..) (.refl _))))

theorem calm_settleLanes (l : List Nat) (s : State) : Calm s (settleLanes l s) := by
  refine keeps_foldl (fun t n => ?_) l s
  exact ⟨rfl, id⟩

theorem calm_closeHeld (gs : List Nat) (s : State) : Calm s (closeHeld gs s) := by
  unfold closeHeld
  refine keeps_ite (.refl s) ?_
  extract_lets +onlyGivenNames l m _ closed
  have hclosed : Calm s closed := ⟨rfl, id⟩
  clear_value closed
  exact (hclosed.trans (calm_settleLanes ..)).upd rfl id

theorem calm_applySnuff (w : WinItem) (s : State) : Calm s (applySnuff w s) := by
  unfold applySnuff
  split <;> exact keeps_ite ⟨rfl, id⟩ (.refl s)

theorem calm_brdgBoundary (old : RegFile) (s : State) : Calm s (brdgBoundary old s) := by
  unfold brdgBoundary
  extract_lets settled' closed idle groups lanes
  have hclosed : Calm s closed := (calm_settleLanes ..).trans (calm_closeHeld ..)
  have hgroups : Calm s groups := hclosed.trans (keeps_foldl (fun t g => keeps_ite (calm_applySnuff ..) (.refl t)) _ _)
  have hlanes : Calm s lanes := hgroups.trans (keeps_foldl (fun t g => keeps_ite (calm_applySnuff ..) (.refl t)) _ _)
  clear_value lanes
  exact hlanes.upd rfl id

/-! #### Configuration -/

theorem calm_cancelHop (s : State) : Calm s (cancelHop s) := keeps_ite ⟨rfl, id⟩ (.refl s)

theorem calm_shadowFix (s : State) : Calm s (shadowFix s) := by
  unfold shadowFix
  split
  · exact keeps_ite (.refl s) ⟨rfl, id⟩
  · exact ⟨rfl, id⟩

theorem calm_carrApply (s : State) : Calm s (carrApply s) := by
  unfold carrApply
  extract_lets +onlyGivenNames was applied gone cancelled named fixed
  have happlied : Calm s applied := ⟨rfl, id⟩
  clear_value applied
  have hcancelled : Calm s cancelled := happlied.trans (keeps_ite (calm_cancelHop _) (.refl _))
  clear_value cancelled
  have hnamed : Calm s named := by
    unfold named
    split
    · exact hcancelled.upd rfl id
    · exact hcancelled
  clear_value named
  have hfixed : Calm s fixed := hnamed.trans (calm_shadowFix _)
  clear_value fixed
  exact hfixed.trans (keeps_ite (calm_raise (by decide) ..) (.refl _))

theorem calm_applyAll (s : State) : Calm s (applyAll s) := (calm_carrApply _).after rfl id

theorem calm_carrDue (m : Word) (s : State) : Calm s (carrDue m s) := by
  unfold carrDue
  split
  · exact keeps_ite (.refl s) ⟨rfl, id⟩
  · exact .refl s

theorem calm_convDue (m : Word) (s : State) : Calm s (convDue m s) := by
  unfold convDue
  split
  · exact keeps_ite (.refl s) ⟨rfl, id⟩
  · exact .refl s

theorem calm_brdgDue (m : Word) (s : State) : Calm s (brdgDue m s) := by
  unfold brdgDue
  extract_lets due taken
  have htaken : Calm s taken := by
    refine keeps_foldl (fun t c => ?_) due s
    exact ⟨rfl, id⟩
  clear_value taken
  exact htaken.upd rfl id

theorem calm_touchDb (s : State) : Calm s (touchDb s) := keeps_ite ⟨rfl, id⟩ (.refl s)

theorem calm_modeApply (x : Prepared) (m : Word) (s : State) : Calm s (modeApply x m s) := by
  unfold modeApply
  extract_lets +onlyGivenNames c ws f named _ _ written applied
  have happlied : Calm s applied := by
    refine .trans (t := written) ⟨rfl, id⟩ (keeps_foldl (fun t b => ?_) _ _)
    exact ⟨rfl, id⟩
  clear_value applied
  extract_lets time1 time2 time3 _ moved late journaled
  have htime : time2.ns = applied.time.ns ∧ time2.lastAcq = applied.time.lastAcq := by
    unfold time2
    split <;> exact ⟨rfl, rfl⟩
  have hmoved : Calm s moved := happlied.upd (by simp only [boundaryView, moved, time3, htime]) id
  clear_value moved
  have hjournaled : Calm s journaled := (hmoved.trans (calm_touchDb _)).upd rfl id
  clear_value journaled
  refine hjournaled.trans (keeps_ite ?_ (calm_sendPacket ..))
  exact ⟨rfl, id⟩

theorem calm_modeStep (m : Word) (s : State) : Calm s (modeStep m s) := by
  unfold modeStep
  split
  · exact .refl s
  · refine keeps_ite (.refl s) (keeps_ite (calm_modeApply ..) (keeps_ite (.refl s) ?_))
    refine .trans ?_ (calm_raise (b := 8) (by decide) ..)
    exact (calm_touchDb _).after rfl id

theorem calm_configStep (m : Word) (s : State) : Calm s (configStep m s) := by
  have hmode := calm_modeStep m s
  have hdue := ((hmode.trans (calm_carrDue m _)).trans (calm_brdgDue m _)).trans (calm_convDue m _)
  exact hdue.trans (keeps_ite (calm_applyAll _) (.refl _))

theorem calm_configFollow (old : RegFile) (s : State) : Calm s (configFollow old s) :=
  (calm_tchBoundary old s).trans (calm_brdgBoundary ..)

/-! #### Records -/

theorem calm_closeEpoch (s : State) : Calm s (closeEpoch s) := by
  unfold closeEpoch
  split
  next e _ =>
    refine .trans ?_ (onlyRes_closeMarks ..).calm
    unfold convCloseEpoch
    extract_lets evs _ taken
    have htaken : Calm s taken := ⟨rfl, id⟩
    refine htaken.trans (onlyRes_foldl (fun t k => ?_) _ _).calm
    have hblocks := onlyRes_foldl (fun t b => onlyRes_closeBlock k b t) t.res.streams[k].blocks t
    refine hblocks.trans (onlyRes_ite (onlyRes_foldl (fun u i => ?_) _ _) (.refl _))
    exact onlyRes_putRecord ..
  · exact .refl s

theorem calm_runStream (m : Word) (c : Schedule) (l : List (Nat × Nat)) (k : Fin 16) (s : State) :
    Calm s (runStream m c l k s) := by
  unfold runStream
  extract_lets +onlyGivenNames st src others dark live e free above full takes set raised
  have hset : Calm s set := ⟨rfl, id⟩
  clear_value set
  have hraised : Calm s raised := hset.trans (keeps_ite (calm_raise (by decide) ..) (.refl _))
  exact hraised.trans (onlyRes_darkEpoch ..).calm

theorem calm_resBoundary (m : Word) (c : Schedule) (l : List (Nat × Nat)) (s : State) : Calm s (resBoundary m c l s) := by
  unfold resBoundary
  extract_lets +onlyGivenNames due causes stopped _ shifted
  have hstopped : Calm s stopped := (onlyRes_foldl (fun t k => onlyRes_ite (onlyRes_stopStream k t) (.refl t)) _ s).calm
  clear_value stopped
  have hshifted : Calm s shifted := hstopped.upd rfl id
  clear_value shifted
  have hsettled : Calm s (settleEpochs shifted) := hshifted.trans (onlyRes_settleEpochs _).calm
  refine hsettled.trans (keeps_foldl (fun t k => ?_) _ _)
  extract_lets started
  have hstarted : Calm t started := (onlyRes_ite (onlyRes_modStream ..) (.refl t)).calm
  exact hstarted.trans (keeps_ite (calm_runStream ..) (.refl _))


/-! ### The boundary of an epoch -/

theorem advanceTo_ns (n : Nat) (s : State) : (advanceTo n s).time.ns = max s.time.ns n := by
  unfold advanceTo
  split
  next h => exact (Nat.max_eq_right h.le).symm
  next h => exact (Nat.max_eq_left (Nat.not_lt.mp h)).symm

theorem advanceTo_lastAcq (n : Nat) (s : State) : (advanceTo n s).time.lastAcq = s.time.lastAcq := by
  unfold advanceTo
  split <;> rfl

/-- Advancing the counter writes the counter and its fraction only. -/
theorem advanceTo_eq (n : Nat) (s : State) :
    advanceTo n s = { s with time := { s.time with ns := (advanceTo n s).time.ns, frac := (advanceTo n s).time.frac } } := by
  unfold advanceTo
  split <;> rfl

variable {c d : Schedule}

/-- The first boundary at or after an instant: on the grid of the schedule, less than a period later. -/
theorem firstBoundary_spec (hp : 0 < c.p) (n : Nat) :
    n ≤ (firstBoundary c n).2 ∧ c.t0 ≤ (firstBoundary c n).2 ∧
      ((firstBoundary c n).2 = c.t0 ∨ (firstBoundary c n).2 < n + c.pNs) ∧
      ((firstBoundary c n).2 - c.t0) % c.pNs = 0 := by
  have hpos : 0 < c.pNs := by unfold Schedule.pNs; omega
  have hk := Nat.div_add_mod (n - c.t0 + c.pNs - 1) c.pNs
  have hmod := Nat.mod_lt (n - c.t0 + c.pNs - 1) hpos
  simp only [firstBoundary, ceilDiv]
  generalize (n - c.t0 + c.pNs - 1) / c.pNs = k at hk
  rw [Nat.mul_comm] at hk
  refine ⟨by omega, by omega, ?_, by simp⟩
  rcases Nat.eq_zero_or_pos k with rfl | hkpos
  · exact .inl (by simp)
  · by_cases hn : n ≤ c.t0
    · have hzero : n - c.t0 = 0 := by omega
      have hone : c.pNs ≤ k * c.pNs := Nat.le_mul_of_pos_left _ hkpos
      omega
    · exact .inr (by omega)

theorem laterBoundary_of_later {l : Option Word} {b : Word × Nat} (h : ∀ a, l = some a → laterW b.1 a = true) :
    laterBoundary c l b = b := by
  cases l with
  | none => rfl
  | some a => exact if_pos (h a rfl)

theorem nextBoundary_next {e : Word} (he : s.time.epoch = some e) (hs : s.time.stepped = false)
    (hl : ∀ a, s.time.lastAcq = some a → laterW (e + 1) a = true) :
    nextBoundary c s = (e + 1, epochStart c (e + 1)) := by
  have hnext : nextBoundary c s = laterBoundary c s.time.lastAcq (e + 1, epochStart c (e + 1)) := by
    simp only [nextBoundary, he, hs]
    rfl
  rw [hnext]
  apply laterBoundary_of_later
  exact hl

theorem nextBoundary_first (h : s.time.epoch = none ∨ s.time.stepped = true) (hl : s.time.lastAcq = none) :
    nextBoundary c s = firstBoundary c s.time.ns := by
  have hfirst : nextBoundary c s = laterBoundary c s.time.lastAcq (firstBoundary c s.time.ns) := by
    rcases h with h | h
    · simp only [nextBoundary, h]
    · cases he : s.time.epoch <;> simp [nextBoundary, he, h]
  rw [hfirst, hl]
  rfl

/-- No epoch at or before the last one acquired is taken (R36). -/
theorem nextBoundary_later {a : Word} (hl : s.time.lastAcq = some a) : laterW (nextBoundary c s).1 a = true := by
  have hsome (b : Word × Nat) : laterW (laterBoundary c (some a) b).1 a = true := by
    unfold laterBoundary
    dsimp only
    split
    · assumption
    · exact laterW_succ a
  rw [nextBoundary, hl]
  exact hsome _

theorem execEpochBoundary_idle (h : s.time.sched = none ∨ epochsRun s = false) : execEpochBoundary s = .next s := by
  unfold execEpochBoundary
  split
  · rfl
  next c hc =>
    have hr : epochsRun s = false := by simpa [hc] using h
    simp [hr]

theorem execEpochBoundary_adopt (hc : s.time.sched = some c) (hr : epochsRun s = true) (hd : s.time.adopt = some d)
    (hb : (firstBoundary d (s.time.ns + 1)).2 ≤ (nextBoundary c s).2) :
    execEpochBoundary s = .next (adoptSchedule c d (firstBoundary d (s.time.ns + 1)) s) := by
  simp [execEpochBoundary, hc, hr, hd, hb]

theorem execEpochBoundary_own (hc : s.time.sched = some c) (hr : epochsRun s = true)
    (hd : ∀ d, s.time.adopt = some d → (nextBoundary c s).2 < (firstBoundary d (s.time.ns + 1)).2) :
    execEpochBoundary s = .next (ownBoundary c (nextBoundary c s).1 (nextBoundary c s).2 s) := by
  unfold execEpochBoundary
  rw [hc]
  cases ha : s.time.adopt with
  | none => simp [hr]
  | some d => simp [hr, Nat.not_le.mpr (hd d ha)]

/-! #### The steps of a boundary -/

theorem Calm.fields (h : Calm s t) :
    t.nvm = s.nvm ∧ t.sys.power = s.sys.power ∧ t.sys.trans = s.sys.trans ∧ t.time.ns = s.time.ns
      ∧ t.time.lastAcq = s.time.lastAcq ∧ t.snuffOff.lines = s.snuffOff.lines ∧ t.snuff.lines = s.snuff.lines
      ∧ t.snuffDue.lines = s.snuffDue.lines ∧ t.grid.running = s.grid.running ∧ t.grid.nextSlot = s.grid.nextSlot
      ∧ t.grid.driversOff = s.grid.driversOff := by
  simpa only [boundaryView, Prod.mk.injEq] using h.1

/-- The part of the boundary view that the start and the end of acquisition leave alone. -/
def lineView (s : State) := (s.nvm, s.sys.power, s.time.ns, s.snuff.lines)

theorem Calm.lines (h : Calm s t) : Keeps lineView s t := by
  obtain ⟨hnvm, hpower, -, hns, -, -, hlines, -⟩ := h.fields
  exact ⟨by simp only [lineView, hnvm, hpower, hns, hlines], h.2⟩

/-- The opening of the boundary of epoch `m`: the epoch in progress closed, the snuffs and the configuration in force. -/
def boundaryOpen (m : Word) (tb cause : Nat) (prev : Schedule) (s : State) : State :=
  configStep m (linesApply (gapDark m tb cause prev (closeEpoch (advanceTo tb s))))

/-- The end of the boundary of epoch `m`: it is the epoch in progress, and its pulse and edge line are given. -/
def boundaryMark (m : Word) (tb : Nat) (prev : Schedule) (s : State) : State :=
  edgeLine 21 (syncPulse tb { s with
    time := { s.time with epoch := some m, stepped := false }, conv := { s.conv with prevP := prev.pNs } })

/-- The part of a boundary between its opening and its end: in ACTIVE acquisition goes on or ends (R31). -/
def boundaryBody (m : Word) (tb : Nat) (c : Schedule) (old : RegFile) (s : State) : State :=
  if s.sys.power = .active then
    if (configFollow old s).sys.trans.any (·.boundary) then endAcquisition m tb (configFollow old s)
    else acquire m tb c old (configFollow old s)
  else s

theorem atBoundary_eq (m : Word) (tb cause : Nat) (prev : Schedule) (s : State) :
    atBoundary m tb cause prev s = boundaryMark m tb prev (boundaryBody m tb
      ((boundaryOpen m tb cause prev s).time.sched.getD prev) s.active (boundaryOpen m tb cause prev s)) := by
  unfold atBoundary
  extract_lets +onlyGivenNames old opened configured c followed body _ _ marked
  have hbody : body = boundaryBody m tb c old configured := rfl
  exact congrArg (boundaryMark m tb prev) hbody

/-- At the opening the counter stands at the boundary and the snuffs due have taken effect (R162). -/
theorem boundaryOpen_fields (m : Word) (tb cause : Nat) (prev : Schedule) (s : State) :
    (boundaryOpen m tb cause prev s).nvm = s.nvm ∧ (boundaryOpen m tb cause prev s).sys.power = s.sys.power
      ∧ (boundaryOpen m tb cause prev s).sys.trans = s.sys.trans
      ∧ (boundaryOpen m tb cause prev s).time.ns = max s.time.ns tb
      ∧ (boundaryOpen m tb cause prev s).time.lastAcq = s.time.lastAcq
      ∧ (boundaryOpen m tb cause prev s).snuff.lines = ((s.snuff.lines &&& ~~~s.snuffOff.lines) ||| s.snuffDue.lines) := by
  have hclosed : Calm (advanceTo tb s) (gapDark m tb cause prev (closeEpoch (advanceTo tb s))) :=
    (calm_closeEpoch _).trans (onlyRes_gapDark ..).calm
  have hconfig := calm_configStep m (linesApply (gapDark m tb cause prev (closeEpoch (advanceTo tb s))))
  unfold boundaryOpen
  generalize configStep m _ = u at hconfig ⊢
  generalize gapDark m tb cause prev (closeEpoch (advanceTo tb s)) = w at hclosed hconfig
  obtain ⟨hnvm, hpower, htrans, hns, hacq, -, hlines, -⟩ := hconfig.fields
  obtain ⟨hnvm', hpower', htrans', hns', hacq', hoff', hlines', hdue', -⟩ := hclosed.fields
  simp only [hnvm, hpower, htrans, hns, hacq, hlines, linesApply, hnvm', hpower', htrans', hns', hacq', hoff', hlines',
    hdue', advanceTo_ns, advanceTo_lastAcq, advanceTo_nvm, advanceTo_sys, advanceTo_snuff, advanceTo_snuffDue,
    advanceTo_snuffOff, and_self]

/-- The pulse is an output of the host interface only. -/
theorem syncPulse_eq (tb : Nat) (s : State) : syncPulse tb s = { s with hif := (syncPulse tb s).hif } := by
  unfold syncPulse
  extract_lets
  split <;> rfl

theorem boundaryMark_fields (m : Word) (tb : Nat) (prev : Schedule) (s : State) :
    (boundaryMark m tb prev s).time = { s.time with epoch := some m, stepped := false }
      ∧ (boundaryMark m tb prev s).conv = { s.conv with prevP := prev.pNs }
      ∧ (boundaryMark m tb prev s).eng.edges.getLsbD 21 = true
      ∧ (boundaryMark m tb prev s).nvm = s.nvm ∧ (boundaryMark m tb prev s).sys = s.sys
      ∧ (boundaryMark m tb prev s).snuff = s.snuff ∧ (boundaryMark m tb prev s).grid = s.grid := by
  unfold boundaryMark
  rw [syncPulse_eq]
  exact ⟨rfl, rfl, by simp [edgeLine], rfl, rfl, rfl, rfl⟩

/-! #### Acquisition at a boundary -/

theorem calm_safeResume (tb : Nat) (s : State) : Calm s (safeResume tb s) := by
  unfold safeResume
  split
  · exact keeps_ite ((calm_startWindows ..).after rfl id) (.refl s)
  · exact .refl s

theorem calm_gridAgain (s : State) : Calm s (gridAgain s) := keeps_ite ((calm_tchStart _).after rfl id) (.refl s)

theorem calm_healthRecords (m : Word) (tb : Nat) (s : State) : Calm s (healthRecords m tb s) := (onlyRes_emit ..).calm

theorem gridOff_lines (s : State) : Keeps lineView s (gridOff s) := ⟨rfl, fun _ => rfl⟩

theorem gridBegin_lines (m : Word) (s : State) : Keeps lineView s (gridBegin m s) := by
  unfold gridBegin
  split
  · exact keeps_ite (.refl s) ((calm_tchStart _).lines.after rfl id)
  · exact .refl s

/-- In ACTIVE the epoch that begins is acquired, its frames from entry 0 on with every driver on (R157, R180). -/
theorem acquire_fields (m : Word) (tb : Nat) (c : Schedule) (old : RegFile) (s : State) :
    Keeps lineView s (acquire m tb c old s) ∧ (acquire m tb c old s).time.lastAcq = some m
      ∧ (acquire m tb c old s).grid.nextSlot = 0 ∧ (acquire m tb c old s).grid.driversOff = [] := by
  unfold acquire
  extract_lets +onlyGivenNames tapered p _ paused resumed converted stops switched
  have htapered : Calm s tapered := ⟨rfl, id⟩
  clear_value tapered
  have hpaused : Calm s paused := htapered.upd rfl id
  clear_value paused
  have hconverted : Calm s converted := (hpaused.trans (calm_safeResume ..)).trans (calm_convBoundary ..)
  clear_value converted
  have hswitched : Keeps lineView s switched :=
    hconverted.lines.trans (keeps_ite (gridOff_lines _) (calm_gridAgain _).lines)
  clear_value switched
  extract_lets +onlyGivenNames begun reserved stopped
  have hbegun : Keeps lineView s begun := (hswitched.trans (gridBegin_lines ..)).upd rfl id
  have hslot : begun.grid.nextSlot = 0 ∧ begun.grid.driversOff = [] := ⟨rfl, rfl⟩
  clear_value begun
  have hstopped : Calm begun stopped := (calm_resBoundary ..).trans (keeps_ite (calm_tchStop ..) (.refl _))
  clear_value stopped
  have hhealth := calm_healthRecords m tb { stopped with time := { stopped.time with lastAcq := some m } }
  generalize healthRecords m tb _ = closed at hhealth ⊢
  obtain ⟨-, -, -, -, hacq, -, -, -, -, hnext, hoff⟩ := hhealth.fields
  obtain ⟨-, -, -, -, -, -, -, -, -, hnext', hoff'⟩ := hstopped.fields
  refine ⟨(hbegun.trans hstopped.lines).trans (hhealth.lines.after rfl id), hacq, ?_, ?_⟩
  · exact hnext.trans (hnext'.trans hslot.1)
  · exact hoff.trans (hoff'.trans hslot.2)

/-- Acquisition ends: the grid stops with no frame in progress, and the transition has had its boundary (Table 4-2). -/
theorem endAcquisition_fields (m : Word) (tb : Nat) (s : State) :
    Keeps lineView s (endAcquisition m tb s) ∧ (endAcquisition m tb s).time.lastAcq = s.time.lastAcq
      ∧ (endAcquisition m tb s).grid.running = false ∧ (endAcquisition m tb s).grid.frame = none
      ∧ (endAcquisition m tb s).sys.trans.any (·.boundary) = false := by
  unfold endAcquisition
  extract_lets +onlyGivenNames was stopped off drained silent
  have hstopped : Calm s stopped := (onlyRes_stopStreams s).calm
  clear_value stopped
  have hoff : Keeps lineView s off := hstopped.lines.trans (gridOff_lines _)
  have hoffgrid : off.grid.running = false ∧ off.grid.frame = none := ⟨rfl, rfl⟩
  obtain ⟨-, -, -, -, hacq, -⟩ := hstopped.fields
  have hoffacq : off.time.lastAcq = s.time.lastAcq := hacq
  clear_value off
  have hsilent : Calm off silent := (keeps_ite (calm_tchStop ..) (.refl off)).trans (calm_convPowerOff _)
  clear_value silent
  obtain ⟨-, -, -, -, hacq', -, -, -, hrun, -⟩ := hsilent.fields
  refine ⟨(hoff.trans hsilent.lines).upd rfl id, hacq'.trans hoffacq, hrun.trans hoffgrid.1, hsilent.2 hoffgrid.2, ?_⟩
  cases silent.sys.trans <;> rfl

theorem boundaryBody_lines (m : Word) (tb : Nat) (c : Schedule) (old : RegFile) (s : State) :
    lineView (boundaryBody m tb c old s) = lineView s := by
  have hfollow := (calm_configFollow old s).lines
  exact (keeps_ite (keeps_ite (hfollow.trans (endAcquisition_fields ..).1) (hfollow.trans (acquire_fields ..).1)) (.refl s)).1

/-- Out of ACTIVE nothing is acquired; in ACTIVE the epoch is acquired, or acquisition ends with it. -/
theorem boundaryBody_acquires (m : Word) (tb : Nat) (c : Schedule) (old : RegFile) (s : State) :
    let t := boundaryBody m tb c old s
    (s.sys.power ≠ .active → t.time.lastAcq = s.time.lastAcq)
      ∧ (s.sys.power = .active → s.sys.trans.any (·.boundary) = false →
          t.time.lastAcq = some m ∧ t.grid.nextSlot = 0 ∧ t.grid.driversOff = [])
      ∧ (s.sys.power = .active → s.sys.trans.any (·.boundary) = true → t.time.lastAcq = s.time.lastAcq
          ∧ t.grid.running = false ∧ t.grid.frame = none ∧ t.sys.trans.any (·.boundary) = false) := by
  obtain ⟨-, -, htrans, -, hacq, -⟩ := (calm_configFollow old s).fields
  refine ⟨fun h => ?_, fun h hb => ?_, fun h hb => ?_⟩
  · rw [boundaryBody, if_neg h]
  · rw [boundaryBody, if_pos h, if_neg (by simp [htrans, hb])]
    exact (acquire_fields ..).2
  · rw [boundaryBody, if_pos h, if_pos (by simpa only [htrans] using hb)]
    obtain ⟨hacq', hstopped⟩ := (endAcquisition_fields m tb (configFollow old s)).2
    exact ⟨hacq'.trans hacq, hstopped⟩

/-! #### The boundary of the schedule in force -/

/-- What the boundary of epoch `m` of the schedule in force leaves (R31, R157, R162, R180). -/
theorem atBoundary_fields (m : Word) (tb cause : Nat) (prev : Schedule) (s : State) :
    let t := atBoundary m tb cause prev s
    t.time.epoch = some m ∧ t.time.stepped = false ∧ t.eng.edges.getLsbD 21 = true
      ∧ t.time.ns = max s.time.ns tb ∧ t.snuff.lines = ((s.snuff.lines &&& ~~~s.snuffOff.lines) ||| s.snuffDue.lines)
      ∧ t.conv.prevP = prev.pNs ∧ t.sys.power = s.sys.power ∧ t.nvm = s.nvm
      ∧ (s.sys.power ≠ .active → t.time.lastAcq = s.time.lastAcq)
      ∧ (s.sys.power = .active → s.sys.trans.any (·.boundary) = false →
          t.time.lastAcq = some m ∧ t.grid.nextSlot = 0 ∧ t.grid.driversOff = [])
      ∧ (s.sys.power = .active → s.sys.trans.any (·.boundary) = true → t.time.lastAcq = s.time.lastAcq
          ∧ t.grid.running = false ∧ t.grid.frame = none ∧ t.sys.trans.any (·.boundary) = false) := by
  obtain ⟨hnvm, hpower, htrans, hns, hacq, hlines⟩ := boundaryOpen_fields m tb cause prev s
  rw [atBoundary_eq]
  generalize boundaryOpen m tb cause prev s = u at *
  have hbody := boundaryBody_lines m tb (u.time.sched.getD prev) s.active u
  obtain ⟨hidle, hruns, hends⟩ := boundaryBody_acquires m tb (u.time.sched.getD prev) s.active u
  generalize boundaryBody m tb (u.time.sched.getD prev) s.active u = w at *
  obtain ⟨htime, hconv, hedge, hnvm', hsys, hsnuff, hgrid⟩ := boundaryMark_fields m tb prev w
  simp only [lineView, Prod.mk.injEq] at hbody
  obtain ⟨hwnvm, hwpower, hwns, hwlines⟩ := hbody
  simp only [htime, hconv, hsys, hsnuff, hgrid, hnvm', true_and]
  rw [← hpower, ← htrans, ← hacq]
  exact ⟨hedge, hwns.trans hns, hwlines.trans hlines, hwpower, hwnvm.trans hnvm, hidle, hruns, hends⟩


/-! ### A frame starts -/

/-- A hop writes the carrier only, and takes effect with the first frame that starts when it is due (R241). -/
theorem hopApply_eq (n : Nat) (s : State) : hopApply n s = { s with carr := (hopApply n s).carr } := by
  unfold hopApply
  split
  · split
    · rfl
    · rfl
  · rfl

theorem hopApply_none {n : Nat} (h : s.carr.hop = none) : hopApply n s = s := by simp only [hopApply, h]

theorem hopApply_due {n dest from1 v : Nat} (h : s.carr.hop = some (dest, from1, v)) (hn : from1 ≤ n) :
    (hopApply n s).carr.active = dest ∧ (hopApply n s).carr.hop = none ∧ (hopApply n s).carr.hops = sat16 s.carr.hops 1
      ∧ (hopApply n s).carr.curWin = [] := by
  simp only [hopApply, h, if_pos hn]
  exact ⟨rfl, rfl, rfl, rfl⟩

theorem hopApply_early {n dest from1 v : Nat} (h : s.carr.hop = some (dest, from1, v)) (hn : n < from1) : hopApply n s = s := by
  simp only [hopApply, h, if_neg (Nat.not_le.mpr hn)]

theorem execGridFrameStart_idle (h : s.time.epoch = none ∨ s.time.sched = none ∨ nextEntry s = none ∨ s.sys.power ≠ .active
      ∨ s.grid.running = false ∨ s.grid.restart = true ∨ s.grid.runDone = true ∨ s.grid.frame.isSome ∨ acqHalted s = true
      ∨ s.time.lastAcq ≠ s.time.epoch) : execGridFrameStart s = .next s := by
  unfold execGridFrameStart
  split
  next e c slot he hc hd =>
    refine if_pos ?_
    simpa [he, hc, hd] using h
  next => rfl

/-- The frame of schedule entry `d` in epoch `e` runs from `t0` on the current carrier (R157). -/
def frameOn (e : Word) (t0 : Nat) (d : SlotDef) (s : State) : State :=
  { s with grid := { s.grid with
    frame := some ⟨d.slot, d.kind, s.carr.active, (look d.slot s.grid.slotCarrier).any (fun o => o != s.carr.active), t0, e⟩
    nextSlot := d.slot + 1
    slotCarrier := bind1 d.slot s.carr.active s.grid.slotCarrier } }

/-- The frame of schedule entry `d` in epoch `e`, begun at its offset, a due hop applied. -/
def frameBegun (e : Word) (c : Schedule) (d : SlotDef) (s : State) : State :=
  let t0 := epochStart c e + d.off * 1000
  frameOn e t0 d (hopApply t0 (advanceTo t0 s))

theorem execGridFrameStart_eq {e : Word} {d : SlotDef} (he : s.time.epoch = some e) (hc : s.time.sched = some c)
    (hd : nextEntry s = some d) (hp : s.sys.power = .active) (hr : s.grid.running = true) (hre : s.grid.restart = false)
    (hdone : s.grid.runDone = false) (hf : s.grid.frame = none) (hh : acqHalted s = false) (ha : s.time.lastAcq = some e) :
    execGridFrameStart s = .next (frameBegun e c d s) := by
  unfold execGridFrameStart
  rw [he, hc, hd]
  simp only [hp, hr, hre, hdone, hf, hh, ha]
  rw [if_neg (by simp)]
  have hslots : (hopApply (epochStart c e + d.off * 1000) (advanceTo (epochStart c e + d.off * 1000) s)).grid.slotCarrier
      = s.grid.slotCarrier := by rw [hopApply_eq, advanceTo_grid]
  simp only [frameBegun, frameOn, hslots]
  cases look d.slot s.grid.slotCarrier <;> rfl

/-! ### A frame is complete -/

/-- What a completed frame shows and the faults it may raise leave alone. -/
def frameView (s : State) :=
  (s.shadow, s.gram, s.nvm, s.time.ns, s.grid.ring, s.grid.nextSeq, s.grid.frameSeq, s.grid.lastSlot, s.grid.lastCarrier,
    s.grid.framesLeft, s.grid.runDone)

/-- The frame view with the touch pipeline. -/
def frameTchView (s : State) := (frameView s, s.tch)

theorem Keeps.frame (h : Keeps frameTchView s t) : Keeps frameView s t := ⟨congrArg Prod.fst h.1, h.2⟩

theorem raise_frameView (b src item : Nat) (s : State) : Keeps frameView s (raise b src item s) := by
  obtain ⟨hview, hframe⟩ := raise_faultView b src item s
  simp only [faultView, Prod.mk.injEq] at hview
  exact ⟨by simp only [frameView, hview], hframe⟩

theorem raise_frameTchView {b : Nat} (hb : ¬(b = 2 ∨ b = 3)) (src item : Nat) (s : State) :
    Keeps frameTchView s (raise b src item s) := by
  obtain ⟨hview, hframe⟩ := raise_faultView b src item s
  simp only [faultView, if_neg hb, Prod.mk.injEq, Option.some.injEq] at hview
  exact ⟨by simp only [frameTchView, frameView, hview], hframe⟩

theorem raise_disabled {b src : Nat} (h : srcEnabled s b src = false) (item : Nat) : raise b src item s = s := by
  simp [raise, raiseIn, h]

theorem srcEnabled_congr (h : t.shadow = s.shadow) (b src : Nat) : srcEnabled t b src = srcEnabled s b src := by
  simp only [srcEnabled, shw, h]

/-- Raises of a source that is not detected change nothing. -/
theorem raises_disabled {β : Type} {b src : Nat} (h : srcEnabled s b src = false) (item : β → Nat) (l : List β) :
    l.foldl (fun t x => raise b src (item x) t) s = s := by
  induction l with
  | nil => rfl
  | cons x l ih => rw [List.foldl_cons, raise_disabled h, ih]

theorem overloadFaults_frameView (l : List Nat) (s : State) : Keeps frameView s (overloadFaults l s) := by
  unfold overloadFaults
  extract_lets +onlyGivenNames lanes runs _ counted raised
  have hcounted : Keeps frameView s counted := ⟨rfl, id⟩
  have hraised : Keeps frameView s raised := hcounted.trans (keeps_foldl (fun t n => raise_frameView ..) _ _)
  exact hraised.trans (keeps_foldl (fun t r => raise_frameView ..) _ _)

/-- Without an overload, or with its sources not detected, a frame leaves the touch pipeline as it is. -/
theorem overloadFaults_quiet {l : List Nat} (h : (List.range 160).any (fun n => l.contains n && !lineSnuffed s (120 + n)) = false
      ∨ (srcEnabled s 2 Src.gridLaneOverload = false ∧ srcEnabled s 2 Src.gridLaneStuck = false)) :
    Keeps frameTchView s (overloadFaults l s) := by
  unfold overloadFaults
  extract_lets +onlyGivenNames lanes runs _ counted raised
  have hcounted : Keeps frameTchView s counted := ⟨rfl, id⟩
  rcases h with h | ⟨hover, hstuck⟩
  · have hlanes : lanes = [] := by
      rw [List.any_eq_false] at h
      exact List.filter_eq_nil_iff.mpr h
    simp only [raised, runs, hlanes]
    exact hcounted
  · have hsame : ∀ src, srcEnabled counted 2 src = srcEnabled s 2 src := srcEnabled_congr rfl 2
    have hraised : raised = counted := raises_disabled ((hsame _).trans hover) (120 + ·) lanes
    rw [hraised, raises_disabled ((hsame _).trans hstuck)]
    exact hcounted

theorem OnlyRes.frame (h : OnlyRes s t) : Keeps frameTchView s t := h.keeps (fun _ => rfl)

theorem shadowValue_frame (n q : Nat) (s : State) : Keeps frameTchView s (shadowValue n q s) := by
  unfold shadowValue
  split
  · split
    · exact ⟨rfl, id⟩
    · exact .refl s
  · exact keeps_ite ⟨rfl, id⟩ (.refl s)

theorem shadowFrame_frame (l : List (List Int)) (o : List Nat) (s : State) : Keeps frameTchView s (shadowFrame l o s) := by
  refine keeps_ite (.refl s) (keeps_foldl (fun t n => ?_) _ s)
  exact keeps_ite ⟨rfl, id⟩ (keeps_ite (.refl t) (keeps_ite ((shadowValue_frame ..).after rfl id) ⟨rfl, id⟩))

theorem noisyStep_frame (n m : Nat) (s : State) : Keeps frameTchView s (noisyStep n m s).1 := by
  refine keeps_ite_fst (.refl s) (keeps_ite_fst ?_ (keeps_ite_fst ⟨rfl, id⟩ (.refl s)))
  exact (raise_frameTchView (by decide) ..).after rfl id

theorem hopEvaluate_frame (n : Nat) (a b : Option Half) (s : State) : Keeps frameTchView s (hopEvaluate n a b s) := by
  unfold hopEvaluate
  refine keeps_ite (.refl s) ?_
  split
  extract_lets run _ noted
  have hnoted : Keeps frameTchView s noted := ⟨rfl, id⟩
  split
  · exact hnoted.trans (keeps_ite ⟨rfl, id⟩ (.refl _))
  · exact hnoted

theorem dwellStep_frame (s : State) : Keeps frameTchView s (dwellStep s) := by
  unfold dwellStep
  split
  · exact .refl s
  · exact keeps_ite (.refl s) (keeps_ite ⟨rfl, id⟩ ⟨rfl, id⟩)

theorem flickerFrame_frame (a b : Nat) (l : Nat × Nat) (s : State) : Keeps frameTchView s (flickerFrame a b l s).1 := by
  unfold flickerFrame
  extract_lets +onlyGivenNames w curWin candWin cur cand done _ taken
  have htaken : Keeps frameTchView s taken := ⟨rfl, id⟩
  clear_value taken cur
  split
  next u evs hu =>
    have hnoisy : Keeps frameTchView s u := by
      split at hu
      · exact keeps_of_eq hu (htaken.trans (noisyStep_frame ..))
      · exact keeps_of_eq hu htaken
    exact (hnoisy.trans (hopEvaluate_frame ..)).trans (dwellStep_frame _)

theorem carrierFrame_frame (fr : FrameRun) (x : FrameInput) (l : List (List Int)) (s : State) :
    Keeps frameTchView s (carrierFrame fr x l s) := by
  unfold carrierFrame
  extract_lets +onlyGivenNames shadowed hopEv _ cleared
  have hshadowed : Keeps frameTchView s shadowed := shadowFrame_frame ..
  clear_value shadowed
  have hcleared : Keeps frameTchView s cleared := hshadowed.trans (keeps_ite (.refl _) ⟨rfl, id⟩)
  clear_value cleared
  split
  next u evs hu =>
    have hflicker : Keeps frameTchView s u :=
      keeps_of_eq hu (keeps_ite_fst (hcleared.trans (flickerFrame_frame ..)) hcleared)
    exact hflicker.trans (onlyRes_emitEvents ..).frame

/-- The record of a completed frame, for the ring and the touch pipeline (R157, R173). -/
def heldFrame (fr : FrameRun) (dur : Nat) (a : State) : HeldFrame :=
  ⟨nextBuffer a, fr.slot, fr.kind, a.grid.nextSeq, fr.t0, fr.epoch, dur⟩

/-- A lane overload of the frame's input on a line that is not snuffed. -/
def overloaded (x : FrameInput) (a : State) : Bool :=
  (List.range 160).any (fun n => x.overload.contains n && !lineSnuffed a (120 + n))

/-- The frame's buffer in the grid RAM: its descriptor and its values (R162). -/
def frameGram (x : FrameInput) (fr : FrameRun) (a : State) : Memory :=
  let fl := frameFlags a fr.hop (decodeFrame a x fr.kind).2 (overloaded x a) (x.vtxLow || a.grid.vtxLow)
  ringWrite (nextBuffer a) fr.kind (descriptor fr.t0 a.grid.nextSeq fr.slot fr.kind fr.carrier
    (fl + 4 + 32 * b1 (fullWindow.snuffed a)) fullWindow) (decodeFrame a x fr.kind).1 a.gram

/-- The completed frame in the ring and in the touch pipeline's queue, at the instant of its end, before its faults and
records. -/
def frameHeld (x : FrameInput) (fr : FrameRun) (dur : Nat) (a : State) : State :=
  { a with
    gram := frameGram x fr a
    grid := { a.grid with
      frame := none, nextSeq := a.grid.nextSeq + 1, frameSeq := a.grid.nextSeq, lastSlot := fr.slot, lastCarrier := fr.carrier
      ring := (heldFrame fr dur a :: a.grid.ring).take 5, runFrames := min 5 (a.grid.runFrames + 1)
      framesLeft := if a.grid.limited then a.grid.framesLeft - 1 else a.grid.framesLeft
      runDone := a.grid.limited && decide (a.grid.framesLeft - 1 = 0)
      capture := a.grid.capture.map (captureFrame a fr.kind fr.carrier fr.epoch (decodeFrame a x fr.kind).1) }
    tch := { a.tch with todo := a.tch.todo ++ [heldFrame fr dur a] } }

theorem execGridFrameComplete_eq {x : FrameInput} {fr : FrameRun} {dur : Nat} {a : State} (h : s.grid.frame = some fr)
    (hdur : dur = frameNs s.active fr.carrier fr.kind) (ha : a = advanceTo (fr.t0 + dur) s) :
    ∃ p vals, execGridFrameComplete x s
      = .next (carrierFrame fr x vals (emit 0 1 fr.epoch p (overloadFaults x.overload (frameHeld x fr dur a)))) := by
  subst hdur ha
  unfold execGridFrameComplete
  rw [h]
  exact ⟨_, _, rfl⟩

theorem advanceTo_lineSnuffed (n : Nat) (s : State) : lineSnuffed (advanceTo n s) = lineSnuffed s := by
  funext m
  simp only [lineSnuffed, advanceTo_snuff]

theorem frameHeld_lineSnuffed (x : FrameInput) (fr : FrameRun) (dur : Nat) (a : State) :
    lineSnuffed (frameHeld x fr dur a) = lineSnuffed a := rfl

theorem frameHeld_shadow (x : FrameInput) (fr : FrameRun) (dur : Nat) (a : State) :
    (frameHeld x fr dur a).shadow = a.shadow := rfl

/-- The faults and records of a completed frame keep its views; the touch pipeline too, where no overload is detected. -/
theorem execGridFrameComplete_keeps {x : FrameInput} {fr : FrameRun} {dur : Nat} {a : State} (h : s.grid.frame = some fr)
    (hdur : dur = frameNs s.active fr.carrier fr.kind) (ha : a = advanceTo (fr.t0 + dur) s) :
    ∃ t, execGridFrameComplete x s = .next t ∧ Keeps frameView (frameHeld x fr dur a) t
      ∧ (overloaded x s = false ∨ (srcEnabled s 2 Src.gridLaneOverload = false ∧ srcEnabled s 2 Src.gridLaneStuck = false) →
        Keeps frameTchView (frameHeld x fr dur a) t) := by
  obtain ⟨p, vals, hexec⟩ := execGridFrameComplete_eq (x := x) h hdur ha
  have hsnuff : lineSnuffed (frameHeld x fr dur a) = lineSnuffed s :=
    (frameHeld_lineSnuffed ..).trans (ha ▸ advanceTo_lineSnuffed ..)
  have hdetect : ∀ src, srcEnabled (frameHeld x fr dur a) 2 src = srcEnabled s 2 src :=
    srcEnabled_congr ((frameHeld_shadow ..).trans (ha ▸ advanceTo_shadow ..)) 2
  generalize frameHeld x fr dur a = v at *
  have hrecords := (onlyRes_emit 0 1 fr.epoch p (overloadFaults x.overload v)).frame.trans (carrierFrame_frame fr x vals _)
  refine ⟨_, hexec, (overloadFaults_frameView x.overload v).trans hrecords.frame, fun hq => ?_⟩
  rw [overloaded, ← hsnuff, ← hdetect, ← hdetect] at hq
  exact (overloadFaults_quiet hq).trans hrecords

theorem frameHeld_keeps_fields {x : FrameInput} {fr : FrameRun} {dur : Nat} {a : State}
    (h : Keeps frameView (frameHeld x fr dur a) t) :
    t.grid.frame = none ∧ t.grid.nextSeq = a.grid.nextSeq + 1 ∧ t.grid.frameSeq = a.grid.nextSeq ∧ t.grid.lastSlot = fr.slot
      ∧ t.grid.lastCarrier = fr.carrier ∧ t.gram = frameGram x fr a
      ∧ t.grid.ring = (heldFrame fr dur a :: a.grid.ring).take 5
      ∧ t.grid.framesLeft = (if a.grid.limited then a.grid.framesLeft - 1 else a.grid.framesLeft)
      ∧ t.grid.runDone = (a.grid.limited && decide (a.grid.framesLeft - 1 = 0))
      ∧ t.time.ns = a.time.ns ∧ t.nvm = a.nvm ∧ t.shadow = a.shadow := by
  obtain ⟨hview, hframe⟩ := h
  simp only [frameView, Prod.mk.injEq] at hview
  obtain ⟨hshadow, hgram, hnvm, hns, hring, hnext, hseq, hslot, hcarrier, hleft, hdone⟩ := hview
  exact ⟨hframe rfl, hnext, hseq, hslot, hcarrier, hgram, hring, hleft, hdone, hns, hnvm, hshadow⟩

theorem frameHeld_keeps_tch {x : FrameInput} {fr : FrameRun} {dur : Nat} {a : State}
    (h : Keeps frameTchView (frameHeld x fr dur a) t) : t.tch = { a.tch with todo := a.tch.todo ++ [heldFrame fr dur a] } :=
  congrArg Prod.snd h.1

/-- A completed frame, from the state `a` at the instant of its end (R157, R162, R173). -/
theorem execGridFrameComplete_spec {x : FrameInput} {fr : FrameRun} {dur : Nat} {a : State} (hf : s.grid.frame = some fr)
    (hdur : dur = frameNs s.active fr.carrier fr.kind) (ha : a = advanceTo (fr.t0 + dur) s) :
    let vals := (decodeFrame a x fr.kind).1
    let ovl := (List.range 160).any (fun n => x.overload.contains n && !lineSnuffed s (120 + n))
    let fl := frameFlags a fr.hop (decodeFrame a x fr.kind).2 ovl (x.vtxLow || s.grid.vtxLow)
    ∃ t, execGridFrameComplete x s = .next t ∧ t.grid.frame = none ∧ t.grid.nextSeq = s.grid.nextSeq + 1
      ∧ t.grid.frameSeq = s.grid.nextSeq ∧ t.grid.lastSlot = fr.slot ∧ t.grid.lastCarrier = fr.carrier
      ∧ t.gram = ringWrite (nextBuffer a) fr.kind (descriptor fr.t0 s.grid.nextSeq fr.slot fr.kind fr.carrier
          (fl + 4 + 32 * b1 (fullWindow.snuffed a)) fullWindow) vals s.gram
      ∧ t.grid.ring = (⟨nextBuffer a, fr.slot, fr.kind, s.grid.nextSeq, fr.t0, fr.epoch, dur⟩ :: s.grid.ring).take 5
      ∧ t.grid.framesLeft = (if s.grid.limited then s.grid.framesLeft - 1 else s.grid.framesLeft)
      ∧ t.grid.runDone = (s.grid.limited && decide (s.grid.framesLeft - 1 = 0))
      ∧ (ovl = false ∨ (srcEnabled s 2 Src.gridLaneOverload = false ∧ srcEnabled s 2 Src.gridLaneStuck = false) →
          ∃ h, t.tch = { s.tch with todo := s.tch.todo ++ [h] } ∧ h.seq = s.grid.nextSeq ∧ h.slot = fr.slot)
      ∧ t.time.ns = max s.time.ns (fr.t0 + dur) ∧ t.nvm = s.nvm ∧ t.shadow = s.shadow := by
  intro vals ovl fl
  obtain ⟨t, hexec, hview, hquiet⟩ := execGridFrameComplete_keeps (x := x) hf hdur ha
  obtain ⟨hframe, hnext, hseq, hslot, hcarrier, hgram, hring, hleft, hdone, hns, hnvm, hshadow⟩ := frameHeld_keeps_fields hview
  have hsnuff : lineSnuffed a = lineSnuffed s := ha ▸ advanceTo_lineSnuffed ..
  have hgrid : a.grid = s.grid := ha ▸ advanceTo_grid ..
  have htch : a.tch = s.tch := ha ▸ advanceTo_tch ..
  rw [hgrid] at hnext hseq hring hleft hdone
  rw [frameGram, overloaded, hsnuff, hgrid, show a.gram = s.gram from ha ▸ advanceTo_gram ..] at hgram
  rw [heldFrame, hgrid] at hring
  exact ⟨t, hexec, hframe, hnext, hseq, hslot, hcarrier, hgram, hring, hleft, hdone,
    fun hq => ⟨heldFrame fr dur a, htch ▸ frameHeld_keeps_tch (hquiet hq), congrArg (·.nextSeq) hgrid, rfl⟩,
    hns.trans (ha ▸ advanceTo_ns ..), hnvm.trans (ha ▸ advanceTo_nvm ..), hshadow.trans (ha ▸ advanceTo_shadow ..)⟩

/-! ### Idle listen frames -/

/-- The values an idle listen frame gives, by lane (R239). -/
def listenValues (u : List (Option Int)) (s : State) : List (Nat × Nat) :=
  (u.zipIdx.filterMap (fun (p : Option Int × Nat) => p.1.map (fun v => (p.2, (v * v * 512).toNat)))).filter
    (fun p => decide (p.1 < 160) && !lineSnuffed s (120 + p.1))

theorem surveyAdds_keep (e : Nat) (l : List (Nat × Nat)) (v : Survey) :
    (l.foldl (fun (a : Survey) p => surveyAdd e p.1 p.2 a) v).mask = v.mask
      ∧ (l.foldl (fun (a : Survey) p => surveyAdd e p.1 p.2 a) v).standalone = v.standalone
      ∧ (l.foldl (fun (a : Survey) p => surveyAdd e p.1 p.2 a) v).running = v.running := by
  refine List.foldlRecOn (motive := fun (a : Survey) => a.mask = v.mask ∧ a.standalone = v.standalone ∧ a.running = v.running)
    _ _ ⟨rfl, rfl, rfl⟩ (fun a h p _ => ?_)
  unfold surveyAdd
  extract_lets
  split
  · exact h
  · exact h

theorem shadowValue_off {n q : Nat} (hs : s.carr.survey = none) (hc : s.carr.shadow = none) : shadowValue n q s = s := by
  simp [shadowValue, hs, hc]

theorem shadowValue_on {n q : Nat} (hs : s.carr.survey = none) (hc : s.carr.shadow.isSome) :
    shadowValue n q s = { s with carr := { s.carr with gathered := (s.carr.gathered.1 + q, s.carr.gathered.2 + 1) } } := by
  simp [shadowValue, hs, hc]

theorem shadowValues_off (hs : s.carr.survey = none) (hc : s.carr.shadow = none) (l : List (Nat × Nat)) :
    l.foldl (fun t p => shadowValue p.1 p.2 t) s = s := by
  induction l with
  | nil => rfl
  | cons p l ih => rw [List.foldl_cons, shadowValue_off hs hc, ih]

theorem sumNat_cons (a : Nat) (l : List Nat) : sumNat (a :: l) = a + sumNat l := by
  simp only [sumNat, ← List.sum_eq_foldl, List.sum_cons]

/-- Without a survey the candidate's window gathers the sum of the values and their count. -/
theorem shadowValues_on (hs : s.carr.survey = none) (hc : s.carr.shadow.isSome) (l : List (Nat × Nat)) :
    l.foldl (fun t p => shadowValue p.1 p.2 t) s = { s with carr := { s.carr with
      gathered := (s.carr.gathered.1 + sumNat (l.map (·.2)), s.carr.gathered.2 + l.length) } } := by
  induction l generalizing s with
  | nil => rfl
  | cons p l ih =>
    rw [List.foldl_cons, shadowValue_on hs hc]
    refine (ih (s := { s with carr := { s.carr with gathered := (s.carr.gathered.1 + p.2, s.carr.gathered.2 + 1) } })
      hs hc).trans ?_
    simp only [List.map_cons, sumNat_cons, List.length_cons, Nat.add_assoc, Nat.add_comm 1]

theorem execIdleListenFrame_idle {u : List (Option Int)} (h : s.safe.hold = true ∨ awake s = false
      ∨ (s.carr.survey = none ∧ (s.grid.running = false ∨ bitOf (acw s Reg.carrCfg) 5 = false ∨ s.carr.shadow = none))
      ∨ (s.carr.survey.isSome ∧ s.grid.running = true ∧ bitOf (acw s Reg.carrCfg) 5 = false)
      ∨ s.carr.survey.any (fun v => (surveyEntry v).isNone) = true) : execIdleListenFrame u s = .next s := by
  unfold execIdleListenFrame
  extract_lets vs
  split
  · rfl
  next hawake =>
  simp only [Bool.or_eq_true, Bool.not_eq_true', not_or, Bool.not_eq_true, Bool.not_eq_false] at hawake
  simp only [hawake, Bool.false_eq_true, Bool.true_eq_false, false_or] at h
  split
  next v hv =>
    split
    · rfl
    next hrun =>
    split
    · rfl
    next e he =>
      simp [hv, he] at h hrun
      simp [h] at hrun
  next hv =>
    split
    next hrun =>
      simp [hv] at h hrun
      rw [shadowValues_off hv (by simpa [hrun] using h)]
    next => rfl

theorem execIdleListenFrame_survey {u : List (Option Int)} {v : Survey} {e : Nat} (hh : s.safe.hold = false)
    (ha : awake s = true) (hr : s.grid.running = false ∨ bitOf (acw s Reg.carrCfg) 5 = true) (hv : s.carr.survey = some v)
    (he : surveyEntry v = some e) :
    ∃ w, execIdleListenFrame u s = .next { s with carr := { s.carr with survey := some w } } ∧ w.mask = v.mask
      ∧ w.got = ((listenValues u s).foldl (fun a p => surveyAdd e p.1 p.2 a) v).got
      ∧ w.standalone = (v.standalone || !s.grid.running) ∧ w.running = (v.running || s.grid.running) := by
  obtain ⟨hmask, halone, hrunning⟩ := surveyAdds_keep e (listenValues u s) v
  have hgo : ¬ (s.grid.running && !bitOf (acw s Reg.carrCfg) 5) = true := by rcases hr with hr | hr <;> simp [hr]
  have hawake : ¬ (s.safe.hold || !awake s) = true := by simp [hh, ha]
  unfold execIdleListenFrame
  rw [hv]
  simp only [if_neg hawake, if_neg hgo, he]
  refine ⟨_, rfl, hmask, rfl, ?_, ?_⟩
  · rw [← halone]; rfl
  · rw [← hrunning]; rfl

theorem execIdleListenFrame_candidate {u : List (Option Int)} (hh : s.safe.hold = false) (ha : awake s = true)
    (hr : s.grid.running = true) (hcfg : bitOf (acw s Reg.carrCfg) 5 = true) (hv : s.carr.survey = none)
    (hc : s.carr.shadow.isSome) :
    execIdleListenFrame u s = .next { s with carr := { s.carr with
      gathered := (s.carr.gathered.1 + sumNat ((listenValues u s).map (·.2)),
        s.carr.gathered.2 + (listenValues u s).length) } } := by
  have hawake : ¬ (s.safe.hold || !awake s) = true := by simp [hh, ha]
  unfold execIdleListenFrame
  rw [hv]
  simp only [if_neg hawake, hr, hcfg, Bool.and_self, if_true]
  rw [shadowValues_on hv hc]
  rfl


/-! ### The rows -/

/-- The boundary of the schedule in force, where no lagging change ends it (R31, R365). -/
theorem epochBoundary_own (hc : s.time.sched = some c) (hr : epochsRun s = true)
    (hd : ∀ d, s.time.adopt = some d → (nextBoundary c s).2 < (firstBoundary d (s.time.ns + 1)).2) :
    let b := nextBoundary c s
    ∃ t, exec .epochBoundary s = .next t ∧ t = ownBoundary c b.1 b.2 s
      ∧ (modeCloses b.1 s = none → t.time.epoch = some b.1 ∧ t.time.stepped = false ∧ t.eng.edges.getLsbD 21 = true
        ∧ t.time.ns = max s.time.ns b.2 ∧ t.snuff.lines = ((s.snuff.lines &&& ~~~s.snuffOff.lines) ||| s.snuffDue.lines)
        ∧ t.conv.prevP = c.pNs ∧ t.sys.power = s.sys.power ∧ t.nvm = s.nvm ∧ t.pending = s.pending
        ∧ (s.sys.power ≠ .active → t.time.lastAcq = s.time.lastAcq)
        ∧ (s.sys.power = .active → s.sys.trans.any (·.boundary) = false → t.time.lastAcq = some b.1 ∧ t.grid.nextSlot = 0
            ∧ t.grid.driversOff = [])
        ∧ (s.sys.power = .active → s.sys.trans.any (·.boundary) = true → t.time.lastAcq = s.time.lastAcq
            ∧ t.grid.running = false ∧ t.grid.frame = none ∧ t.sys.trans.any (·.boundary) = false)) := by
  refine ⟨_, (exec_epochBoundary s).trans (execEpochBoundary_own hc hr hd), rfl, fun hm => ?_⟩
  have hpend := (ownBoundary_keep c (nextBoundary c s).1 (nextBoundary c s).2 s (Keep.refl s)).pend
  obtain ⟨cause, hown⟩ : ∃ cause, ownBoundary c (nextBoundary c s).1 (nextBoundary c s).2 s
      = atBoundary (nextBoundary c s).1 (nextBoundary c s).2 cause c s := by
    unfold ownBoundary
    rw [hm]
    exact ⟨_, rfl⟩
  rw [hown] at hpend ⊢
  obtain ⟨hepoch, hstepped, hedge, hns, hlines, hperiod, hpower, hnvm, hacq⟩ := atBoundary_fields _ _ cause c s
  exact ⟨hepoch, hstepped, hedge, hns, hlines, hperiod, hpower, hnvm, hpend, hacq⟩

/-- A frame's start writes the counter, the carrier and the frame's own fields, and nothing else. -/
theorem frameBegun_eq (e : Word) (c : Schedule) (d : SlotDef) (s : State) :
    let t0 := epochStart c e + d.off * 1000
    let a := advanceTo t0 s
    let k := (hopApply t0 a).carr
    frameBegun e c d s = { s with
      time := { s.time with ns := a.time.ns, frac := a.time.frac }
      carr := k
      grid := { s.grid with
        frame := some ⟨d.slot, d.kind, k.active, (look d.slot s.grid.slotCarrier).any (fun o => o != k.active), t0, e⟩
        nextSlot := d.slot + 1
        slotCarrier := bind1 d.slot k.active s.grid.slotCarrier } } := by
  intro t0 a k
  have hhop : hopApply t0 a = { a with carr := k } := hopApply_eq t0 a
  have hadv : a = { s with time := { s.time with ns := a.time.ns, frac := a.time.frac } } := advanceTo_eq t0 s
  change frameOn e t0 d (hopApply t0 a) = _
  rw [hhop]
  clear hhop
  clear_value k a
  generalize a.time.ns = n, a.time.frac = m at hadv ⊢
  subst hadv
  rfl

theorem frameBegun_spec (e : Word) (c : Schedule) (d : SlotDef) (s : State) :
    let t0 := epochStart c e + d.off * 1000
    let t := frameBegun e c d s
    t.time.ns = max s.time.ns t0
      ∧ t.grid.frame = some ⟨d.slot, d.kind, t.carr.active, (look d.slot s.grid.slotCarrier).any (fun o => o != t.carr.active), t0, e⟩
      ∧ t.grid.nextSlot = d.slot + 1
      ∧ (∀ n from1 v, s.carr.hop = some (n, from1, v) → (from1 ≤ t0 → t.carr.active = n ∧ t.carr.hop = none
            ∧ t.carr.hops = sat16 s.carr.hops 1 ∧ t.carr.curWin = []) ∧ (t0 < from1 → t.carr = s.carr))
      ∧ (s.carr.hop = none → t.carr = s.carr)
      ∧ t = { s with grid := { s.grid with frame := t.grid.frame, nextSlot := t.grid.nextSlot, slotCarrier := t.grid.slotCarrier }
                     carr := t.carr, time := { s.time with ns := t.time.ns, frac := t.time.frac } } := by
  intro t0 t
  have ht : t = _ := frameBegun_eq e c d s
  have hcarr : t.carr = (hopApply t0 (advanceTo t0 s)).carr := by rw [ht]
  refine ⟨?_, ?_, ?_, fun n from1 v h => ⟨fun hle => ?_, fun hlt => ?_⟩, fun h => ?_, ?_⟩
  · rw [ht]
    exact advanceTo_ns t0 s
  · rw [ht]
  · rw [ht]
  · rw [hcarr]
    obtain ⟨hactive, hhop, hhops, hwin⟩ := hopApply_due (s := advanceTo t0 s) (by rw [advanceTo_carr, h]) hle
    exact ⟨hactive, hhop, by rw [hhops, advanceTo_carr], hwin⟩
  · rw [hcarr, hopApply_early (s := advanceTo t0 s) (by rw [advanceTo_carr, h]) hlt, advanceTo_carr]
  · rw [hcarr, hopApply_none (by rw [advanceTo_carr, h]), advanceTo_carr]
  · rw [ht]

theorem execVtxLow_eq (p : Bool) (s : State) :
    let u : State := { s with grid := { s.grid with vtxLow := p } }
    execVtxLow p s = .next (if p = true ∧ s.grid.vtxLow = false ∧ s.grid.running = true then raise 2 Src.gridVtxLow noItem u
      else u) := by
  unfold execVtxLow
  simp only [Bool.and_eq_true, Bool.not_eq_true', and_assoc]

end Sys2Proof.Machine
end


section

open Sys2Proof Sys2Proof.Machine

/-- Settles O51: each row of the statement is an equation of the boundary, the frame or the listen frame; the boundary
and the completed frame keep their views through every fault and record they cause. -/
theorem gridFrames : Obligations.GridFrames := by
  unfold Obligations.GridFrames
  refine ⟨fun s h => ?_, fun s c => ⟨fun e => nextBoundary_next, fun he hl hp => ?_, fun a => nextBoundary_later⟩,
    fun s c hc hr => ⟨fun d hd hb => ?_, fun hd => ?_⟩, fun s h => ?_, fun s e c d he hc hd hp hr hre hdone hf hh ha => ?_,
    fun x s hf => ?_, fun x s fr hf => ?_, fun u s h => ?_, fun u s hh ha hr => ⟨fun v e hv he => ?_, fun hv hr' hc => ?_⟩,
    fun l s => ?_, fun p s => ?_⟩
  · rw [exec_epochBoundary]
    exact execEpochBoundary_idle h
  · rw [nextBoundary_first he hl]
    exact firstBoundary_spec hp s.time.ns
  · rw [exec_epochBoundary]
    exact execEpochBoundary_adopt hc hr hd hb
  · exact epochBoundary_own hc hr hd
  · rw [exec_gridFrameStart]
    exact execGridFrameStart_idle h
  · rw [exec_gridFrameStart, execGridFrameStart_eq he hc hd hp hr hre hdone hf hh ha]
    exact ⟨_, rfl, frameBegun_spec ..⟩
  · rw [exec_gridFrameComplete, execGridFrameComplete, hf]
  · rw [exec_gridFrameComplete]
    exact execGridFrameComplete_spec hf rfl rfl
  · rw [exec_idleListenFrame]
    exact execIdleListenFrame_idle h
  · rw [exec_idleListenFrame]
    exact execIdleListenFrame_survey hh ha hr hv he
  · rw [exec_idleListenFrame, execIdleListenFrame_candidate hh ha hr' (by simpa [hr'] using hr) hv hc]
    exact ⟨_, rfl, rfl, rfl⟩
  · rfl
  · rw [exec_vtxLow]
    exact execVtxLow_eq p s

end


section
/-! What SESSION_AUTH does, case by case (R69, R70, R449, R450). -/
namespace Sys2Proof.Machine

open Sys2Proof

/-- The pending challenge of a slot is used up (R69). -/
def challengeUsed (k : Fin 6) (s : State) : State :=
  edgeLine 20 (modSession k (fun (x : Session) => { x with challenge := none }) s)

/-- The key with which role `r` authenticates, empty where none is installed (R449). -/
def authKey (r : BitVec 2) (s : State) : List Byte := (roleKey s r.toNat).getD []

/-- The answer of a SESSION_AUTH is the one the challenge calls for (R449). -/
def AuthRight (p : Packet) (k : Fin 6) (c : BitVec 128) (r : BitVec 2) (s : State) : Prop :=
  (roleKey s r.toNat).isSome = true ∧ (hmac (authKey r s) (authMessage c r.toNat k p.origin)).take 16 = p.params

/-- The role authenticated for, given to the slot (R450). -/
def authGrant (k : Fin 6) (c : BitVec 128) (r : BitVec 2) (s : State) : State :=
  modSession k (fun (x : Session) => { x with
    role := r, fails := 0, lockout := false, keySets := 0
    ks := hmac (authKey r s) ([0x53, 0x4B, 0x45, 0x59] ++ le 16 c.toNat ++ uidBytes) }) s

/-- The failures in a row of a slot after one more, at most five (R70). -/
def failsNext (e : Session) : Nat := min 5 (e.fails + 1)

/-- A wrong answer counted and journaled; the fifth locks the slot (R70). -/
def authCounted (p : Packet) (k : Fin 6) (r : BitVec 2) (e : Session) (s : State) : State :=
  journalAuthFail 0x04 (some k) p.origin e.role.toNat r.toNat (failsNext e) (decide (5 ≤ failsNext e))
    (modSession k (fun (x : Session) => { x with
      fails := failsNext e, lockout := x.lockout || decide (5 ≤ failsNext e) }) s)

variable {p : Packet} {s : State} {k : Fin 6} {c : BitVec 128} {r : BitVec 2}

theorem sessionAuthBody_badLength (h : p.params.length ≠ 16) : sessionAuthBody p s = failCmd s 0x11 := if_pos h

theorem sessionAuthBody_noSlot (h : p.params.length = 16) (hk : slotOf s p.origin = none) :
    sessionAuthBody p s = failCmd s 0x21 := by
  simp only [sessionAuthBody, h, hk, ne_eq, not_true, if_false]

theorem sessionAuthBody_noChallenge (h : p.params.length = 16) (hk : slotOf s p.origin = some k)
    (hc : s.sec.sessions[k].challenge = none) : sessionAuthBody p s = failCmd s 0x21 := by
  simp only [sessionAuthBody, h, hk, hc, ne_eq, not_true, if_false]

theorem sessionAuthBody_right (h : p.params.length = 16) (hk : slotOf s p.origin = some k)
    (hc : s.sec.sessions[k].challenge = some (c, r)) (hr : AuthRight p k c r (challengeUsed k s)) :
    sessionAuthBody p s = okCmd (authGrant k c r (challengeUsed k s)) [] := by
  simp only [sessionAuthBody, h, hk, hc, ne_eq, not_true, if_false]
  exact if_pos hr

theorem sessionAuthBody_wrong (h : p.params.length = 16) (hk : slotOf s p.origin = some k)
    (hc : s.sec.sessions[k].challenge = some (c, r)) (hr : ¬ AuthRight p k c r (challengeUsed k s)) :
    sessionAuthBody p s =
      let t := raise 13 Src.secAuthFail noItem (authCounted p k r s.sec.sessions[k] (challengeUsed k s))
      { st := if 5 ≤ failsNext s.sec.sessions[k] then raise 13 Src.secAuthLockout noItem t else t
        status := 0x20, ownEntry := true } := by
  simp only [sessionAuthBody, h, hk, hc, ne_eq, not_true, if_false]
  refine (if_neg hr).trans ?_
  simp only [decide_eq_true_eq]
  rfl

end Sys2Proof.Machine
end

section
/-! What each operation and each row leaves of the roles of the session slots: all but the ends of a session and
SESSION_AUTH keep every role. -/
namespace Sys2Proof.Machine

open Sys2Proof

/-- The role that each session slot holds (R67). -/
def roles (s : State) : Vector (BitVec 2) 6 := s.sec.sessions.map (·.role)

@[simp] theorem roles_mk {sh ac g sy sa hi se nv fl sn sd so sw gr tc ca br co ti li re hk en fc p} :
    roles (State.mk sh ac g sy sa hi se nv fl sn sd so sw gr tc ca br co ti li re hk en fc p)
      = se.sessions.map (·.role) := rfl

@[simp] theorem sessions_roles (s : State) : s.sec.sessions.map (·.role) = roles s := rfl

/-- The roles of the state an outcome leaves, `d` where it leaves none. -/
def outcomeRoles (d : Vector (BitVec 2) 6) : Host.Outcome State Fault Refusal → Vector (BitVec 2) 6
  | .next t => roles t
  | _ => d

@[simp] theorem outcomeRoles_next (d) (t : State) : outcomeRoles d (.next t) = roles t := rfl

section
variable {α β γ : Type} {c : Prop} [Decidable c]

@[simp] theorem roles_ite (a b : State) : roles (if c then a else b) = if c then roles a else roles b := by
  split <;> rfl

@[simp] theorem roles_ite_fst (a b : State × α) :
    roles (if c then a else b).1 = if c then roles a.1 else roles b.1 := by split <;> rfl

@[simp] theorem roles_ite_snd (a b : α × State) :
    roles (if c then a else b).2 = if c then roles a.2 else roles b.2 := by split <;> rfl

@[simp] theorem roles_ite_snd_fst (a b : α × State × β) :
    roles (if c then a else b).2.1 = if c then roles a.2.1 else roles b.2.1 := by split <;> rfl

@[simp] theorem roles_ite_snd_snd (a b : α × β × State) :
    roles (if c then a else b).2.2 = if c then roles a.2.2 else roles b.2.2 := by split <;> rfl

@[simp] theorem roles_ite_cmd (a b : CmdResult) :
    roles (if c then a else b).st = if c then roles a.st else roles b.st := by split <;> rfl

@[simp] theorem roles_ite_eff (a b : Eff) :
    roles (if c then a else b).st = if c then roles a.st else roles b.st := by split <;> rfl

@[simp] theorem roles_ite_acc (a b : Acc) :
    roles (if c then a else b).st = if c then roles a.st else roles b.st := by split <;> rfl

@[simp] theorem outcomeRoles_ite (d) (a b : Host.Outcome State Fault Refusal) :
    outcomeRoles d (if c then a else b) = if c then outcomeRoles d a else outcomeRoles d b := by split <;> rfl

theorem roles_foldl_of {f : β → α → β} {π : β → State} (hf : ∀ t a, roles (π (f t a)) = roles (π t)) (l : List α)
    (t : β) : roles (π (l.foldl f t)) = roles (π t) := by
  induction l generalizing t with
  | nil => rfl
  | cons a l ih => rw [List.foldl_cons, ih, hf]

@[simp] theorem roles_foldl {f : State → α → State} (hf : ∀ t a, roles (f t a) = roles t) (l : List α) (s : State) :
    roles (l.foldl f s) = roles s := roles_foldl_of (π := id) hf l s

@[simp] theorem roles_foldl_fst {f : State × β → α → State × β} (hf : ∀ t a, roles (f t a).1 = roles t.1) (l : List α)
    (t : State × β) : roles (l.foldl f t).1 = roles t.1 := roles_foldl_of (π := Prod.fst) hf l t

@[simp] theorem roles_foldl_snd {f : β × State → α → β × State} (hf : ∀ t a, roles (f t a).2 = roles t.2) (l : List α)
    (t : β × State) : roles (l.foldl f t).2 = roles t.2 := roles_foldl_of (π := Prod.snd) hf l t
end

/-- A change of a slot that keeps its role keeps every role. -/
@[simp] theorem roles_modSession (k : Fin 6) {f : Session → Session} (hf : ∀ e, (f e).role = e.role) (s : State) :
    roles (modSession k f s) = roles s := by
  simp only [roles, modSession, vmod]
  apply Vector.ext
  intro i hi
  simp only [Vector.getElem_map, Vector.getElem_set]
  split
  · next h => subst h; exact hf _
  · rfl

@[simp] theorem roles_modEng (f : EngSt → EngSt) (s : State) : roles (modEng f s) = roles s := rfl

@[simp] theorem roles_checked (s : State) (l : List (Bool × Byte)) {go : Unit → CmdResult}
    (h : roles (go ()).st = roles s) : roles (checked s l go).st = roles s := by
  unfold checked
  split
  · rfl
  · exact h

theorem OnlyRes.roles {s t : State} (h : OnlyRes s t) : Machine.roles t = Machine.roles s := by
  rw [h]
  rfl

theorem roles_of_fst {α : Type} {p : State × α} {a : α} {t : State} (e : p = (t, a)) : roles t = roles p.1 := by rw [e]

theorem roles_of_snd {α : Type} {p : α × State} {a : α} {t : State} (e : p = (a, t)) : roles t = roles p.2 := by rw [e]

theorem roles_of_snd_fst {α β : Type} {p : α × State × β} {a : α} {b : β} {t : State} (e : p = (a, t, b)) :
    roles t = roles p.2.1 := by rw [e]

/-! ### The named operations -/

@[simp] theorem roles_setShw (a : Nat) (w : Word) (s : State) : roles (setShw a w s) = roles s := by simp [setShw]
@[simp] theorem roles_setAcw (a : Nat) (w : Word) (s : State) : roles (setAcw a w s) = roles s := by simp [setAcw]
@[simp] theorem roles_setShws (ws : List (Nat × Word)) (s : State) : roles (setShws ws s) = roles s := by simp [setShws]

@[simp] theorem roles_applyRange (lo hi : Nat) (s : State) : roles (applyRange lo hi s) = roles s := by
  simp [applyRange]

@[simp] theorem roles_applyBlock (b : Nat) (s : State) : roles (applyBlock b s) = roles s := by simp [applyBlock]
@[simp] theorem roles_freshBit (s : State) : roles (freshBit s).2 = roles s := by simp [freshBit]
@[simp] theorem roles_freeDiv (a : Int) (b : Nat) (s : State) : roles (freeDiv a b s).2 = roles s := by simp [freeDiv]
@[simp] theorem roles_freshInt (s : State) : roles (freshInt s).2 = roles s := by simp [freshInt]
@[simp] theorem roles_edgeLine (n : Nat) (s : State) : roles (edgeLine n s) = roles s := by simp [edgeLine]

@[simp] theorem roles_journalRaise (role opcode result kind : Byte) (data : List Byte) (s : State) :
    roles (journalRaise role opcode result kind data s) = roles s := by simp [journalRaise]

@[simp] theorem roles_sendOn (n : Fin 4) (f : Frame) (s : State) : roles (sendOn n f s) = roles s := by simp [sendOn]

@[simp] theorem roles_sendOnAll (ns : List (Fin 4)) (f : Frame) (s : State) : roles (sendOnAll ns f s) = roles s := by
  simp [sendOnAll]

@[simp] theorem roles_sendRouted (f : Frame) (s : State) : roles (sendRouted f s) = roles s := by
  unfold sendRouted
  split <;> simp

@[simp] theorem roles_sendPacket (dest : Byte) (cls : Fin 4) (type : Nat) (i : Iface) (tag : Byte)
    (bytes : List Byte) (s : State) :
    roles (sendPacket dest cls type i tag bytes s) = roles s := by simp [sendPacket]

@[simp] theorem roles_modPort (i : Iface) (f : HostPort → HostPort) (s : State) : roles (modPort i f s) = roles s := by
  unfold modPort
  split <;> simp

@[simp] theorem roles_queueReply (i : Iface) (r : Reply) (s : State) : roles (queueReply i r s) = roles s := by
  simp [queueReply]

@[simp] theorem roles_noteAnswer (i : Iface) (tag src status : Byte) (s : State) :
    roles (noteAnswer i tag src status s) = roles s := by simp [noteAnswer]

@[simp] theorem roles_reply (o : Origin) (bcast : Bool) (tag status : Byte) (final : Bool) (data : List Byte)
    (why : ReplyPurpose) (s : State) :
    roles (reply o bcast tag status final data why s) = roles s := by
  unfold reply
  split <;> simp

@[simp] theorem roles_commitHeld (mine : ModeChange → Bool) (s : State) : roles (commitHeld mine s) = roles s := by
  simp [commitHeld]

@[simp] theorem roles_alarmToFabric (entry : List Byte) (s : State) : roles (alarmToFabric entry s) = roles s := by
  simp only [alarmToFabric]
  repeat' split
  all_goals simp

@[simp] theorem roles_wakeEvent (s : State) : roles (wakeEvent s) = roles s := by simp [wakeEvent]
@[simp] theorem roles_protoCount (i : Iface) (s : State) : roles (protoCount i s) = roles s := by simp [protoCount]
@[simp] theorem roles_countErase (k : Nat) (s : State) : roles (countErase k s) = roles s := by simp [countErase]

/-! ### Records -/

@[simp] theorem roles_modStream (k : Fin 16) (f : StreamSt → StreamSt) (s : State) :
    roles (modStream k f s) = roles s := by simp [modStream]

@[simp] theorem roles_appendRecord (k : Fin 16) (epoch : Word) (bs : List Byte) (spend : Bool) (s : State) :
    roles (appendRecord k epoch bs spend s) = roles s := by simp [appendRecord]

@[simp] theorem roles_putRecord (k : Fin 16) (type : Nat) (epoch : Word) (payload : List Byte) (s : State) :
    roles (putRecord k type epoch payload s) = roles s := by simp [putRecord]

@[simp] theorem roles_emit (bit type : Nat) (epoch : Word) (payload : Fin 16 → Option (List Byte)) (s : State) :
    roles (emit bit type epoch payload s) = roles s :=
  (onlyRes_emit ..).roles

@[simp] theorem roles_writeDark (k : Fin 16) (r : DarkRun) (s : State) : roles (writeDark k r s) = roles s := by
  simp [writeDark]

@[simp] theorem roles_darkEpoch (k : Fin 16) (e : Word) (start stop : Nat) (s : State) :
    roles (darkEpoch k e start stop s) = roles s := by simp [darkEpoch]

@[simp] theorem roles_closeDarks (k : Fin 16) (s : State) : roles (closeDarks k s) = roles s := by simp [closeDarks]

@[simp] theorem roles_markDark (cause mask : Nat) (s : State) : roles (markDark cause mask s) = roles s := by
  unfold markDark
  split <;> simp

/-! ### The counter -/

@[simp] theorem roles_setRate (y : Int) (s : State) : roles (setRate y s) = roles s := by simp [setRate]
@[simp] theorem roles_timeStart (s : State) : roles (timeStart s) = roles s := by simp [timeStart]
@[simp] theorem roles_timeStop (s : State) : roles (timeStop s) = roles s := by simp [timeStop]
@[simp] theorem roles_advanceTo (t : Nat) (s : State) : roles (advanceTo t s) = roles s := by simp [advanceTo]
@[simp] theorem roles_tickTime (s : State) : roles (tickTime s) = roles s := by simp [tickTime]
@[simp] theorem roles_armTrigger (u : Fin 16) (s : State) : roles (armTrigger u s).1 = roles s := by simp [armTrigger]

/-! ### Faults -/

@[simp] theorem roles_modFlt (b : Nat) (f : FaultSt → FaultSt) (s : State) : roles (modFlt b f s) = roles s := by
  simp [modFlt]

@[simp] theorem roles_safeBegin (s : State) : roles (safeBegin s) = roles s := by simp [safeBegin]
@[simp] theorem roles_excFix (s : State) : roles (excFix s) = roles s := by simp [excFix]
@[simp] theorem roles_safeEnd (s : State) : roles (safeEnd s) = roles s := by simp [safeEnd]
@[simp] theorem roles_snuffItem (b item : Nat) (s : State) : roles (snuffItem b item s) = roles s := by simp [snuffItem]
@[simp] theorem roles_touchForget (s : State) : roles (touchForget s) = roles s := by simp [touchForget]
@[simp] theorem roles_engineReset (s : State) : roles (engineReset s) = roles s := by simp [engineReset]

@[simp] theorem roles_resetEffects (b : Nat) (s : State) : roles (resetEffects b s) = roles s := by
  unfold resetEffects
  split <;> simp

@[simp] theorem roles_blockReset (b src : Nat) (s : State) : roles (blockReset b src s) = roles s := by
  simp [blockReset]

@[simp] theorem roles_react (b src item sev : Nat) (s : State) : roles (react b src item sev s) = roles s := by
  simp [react]

@[simp] theorem roles_raiseIn (open0 : List Shadow) (b src item : Nat) (s : State) :
    roles (raiseIn open0 b src item s) = roles s := by simp [raiseIn]

@[simp] theorem roles_raise (b src item : Nat) (s : State) : roles (raise b src item s) = roles s := by simp [raise]

@[simp] theorem roles_raiseAll (l : List (Nat × Nat × Nat)) (s : State) : roles (raiseAll l s) = roles s := by
  simp [raiseAll]

@[simp] theorem roles_acknowledge (b mask : Nat) (s : State) : roles (acknowledge b mask s) = roles s := by
  simp [acknowledge]

@[simp] theorem roles_protoEvent (i : Iface) (s : State) : roles (protoEvent i s) = roles s := by simp [protoEvent]

@[simp] theorem roles_pushAlarm (block : Nat) (event : List Byte) (epoch : Word) (s : State) :
    roles (pushAlarm block event epoch s) = roles s := by simp [pushAlarm]

@[simp] theorem roles_addMark (entry : List Byte) (s : State) : roles (addMark entry s) = roles s := by
  unfold addMark
  split <;> simp

@[simp] theorem roles_checkJournalFull (s : State) : roles (checkJournalFull s) = roles s := by simp [checkJournalFull]
@[simp] theorem roles_countErases (k n : Nat) (s : State) : roles (countErases k n s) = roles s := by simp [countErases]

@[simp] theorem roles_nvmFault (r : NvmResult) (s : State) : roles (nvmFault r s) = roles s := by
  unfold nvmFault
  split <;> simp

@[simp] theorem roles_nvmFailed (r : NvmResult) (k n : Nat) (s : State) : roles (nvmFailed r k n s) = roles s := by
  simp [nvmFailed]

@[simp] theorem roles_nvmGood (k n : Nat) (s : State) : roles (nvmGood k n s) = roles s := by simp [nvmGood]
@[simp] theorem roles_eraseSector (k : Nat) (s : State) : roles (eraseSector k s) = roles s := by simp [eraseSector]

@[simp] theorem roles_programOne (s : State) : roles (programOne s) = roles s := by
  unfold programOne
  split <;> simp

@[simp] theorem roles_programN (n : Nat) (s : State) : roles (programN n s) = roles s := by
  induction n generalizing s with
  | zero => rfl
  | succ n ih => rw [programN, ih, roles_programOne]

@[simp] theorem roles_programAll (s : State) : roles (programAll s) = roles s := by simp [programAll]
@[simp] theorem roles_armRaise (u : Fin 16) (s : State) : roles (armRaise u s) = roles s := by simp [armRaise]

/-! ### The checking order of Table 2-5 -/

@[simp] theorem roles_failCmd (s : State) (st : Byte) : roles (failCmd s st).st = roles s := by simp [failCmd]
@[simp] theorem roles_okCmd (s : State) (data : List Byte) : roles (okCmd s data).st = roles s := by simp [okCmd]
@[simp] theorem roles_acceptCmd (s : State) : roles (acceptCmd s).st = roles s := by simp [acceptCmd]

@[simp] theorem roles_journalCommand (o : Origin) (slot : Option (Fin 6)) (role : BitVec 2) (tag op status : Byte)
    (params : List Byte) (s : State) :
    roles (journalCommand o slot role tag op status params s) = roles s := by simp [journalCommand]

@[simp] theorem roles_conclude (info : OpInfo) (p : Packet) (bcast : Bool) (slot : Option (Fin 6)) (role : BitVec 2)
    (r : CmdResult) :
    roles (conclude info p bcast slot role r) = roles r.st := by simp [conclude]

/-- Steps 5 to 11 change the roles by the command's body alone. -/
theorem roles_executeCommand_or (info : OpInfo) (body : Packet → State → CmdResult) (p : Packet) (b : Bool)
    (s : State) :
    roles (executeCommand info body p b s) = roles s ∨ roles (executeCommand info body p b s) = roles
    (body p s).st := by
  unfold executeCommand
  cases admitCheck info p s <;> simp

theorem slotOf_congr {s t : State} (h : t.sec.sessions = s.sec.sessions) (o : Origin) : slotOf t o = slotOf s o := by
  unfold slotOf
  rw [h]

theorem slotOf_modSession (k : Fin 6) {f : Session → Session} (hf : ∀ e, (f e).origin = e.origin) (s : State)
    (o : Origin) : slotOf (modSession k f s) o = slotOf s o := by
  have h : ∀ j : Fin 6, (modSession k f s).sec.sessions[j].origin = s.sec.sessions[j].origin := by
    intro j
    simp only [modSession, vmod, Fin.getElem_fin, Vector.getElem_set]
    split
    · next e => simp only [e, hf]
    · rfl
  unfold slotOf
  simp only [h]

theorem slotOf_takePacket (o o' : Origin) (s : State) : slotOf (takePacket o s) o' = slotOf s o' := by
  unfold takePacket
  extract_lets _ taken
  have h : slotOf taken o' = slotOf s o' := by
    apply slotOf_congr
    unfold taken
    split
    · rw [modPort_sec]
    · rfl
  rw [← h]
  split
  · exact slotOf_modSession _ (by intros; rfl) taken o'
  · rfl

theorem sendBroadcast_sessions (i : Iface) (op : Nat) (p : Packet) (s : State) :
    (sendBroadcast i op p s).sec.sessions = s.sec.sessions := by
  refine foldl_keeps (fun t : State => t.sec.sessions) _ (fun t g => ?_) _ s
  exact foldl_keeps (fun u : State => u.sec.sessions) _ (by intros; rfl) _ t

/-- The roles of a packet's end `t`: those of its start `s`, or those its body leaves on a state of the same roles and
the same slot of the origin. -/
def RolesByBody (body : Packet → State → CmdResult) (p : Packet) (s t : State) : Prop :=
  roles t = roles s ∨ ∃ u, roles u = roles s ∧ slotOf u p.origin = slotOf s p.origin ∧ roles t = roles (body p u).st

theorem executeCommand_rolesByBody (info : OpInfo) (body : Packet → State → CmdResult) (p : Packet) (b : Bool)
    {s u : State} (hu : roles u = roles s) (hslot : slotOf u p.origin = slotOf s p.origin) :
    RolesByBody body p s (executeCommand info body p b u) :=
  (roles_executeCommand_or info body p b u).imp (fun h => h.trans hu) (fun h => ⟨u, hu, hslot, h⟩)

@[simp] theorem roles_rejectCommand (info : OpInfo) (p : Packet) (st : Byte) (s : State) :
    roles (rejectCommand info p st s) = roles s := by simp [rejectCommand]

@[simp] theorem roles_holdPacket (o : Origin) (bytes : List Byte) (s : State) :
    roles (holdPacket o bytes s) = roles s := by
  unfold holdPacket
  split <;> simp

@[simp] theorem roles_takePacket (o : Origin) (s : State) : roles (takePacket o s) = roles s := by
  simp only [takePacket]
  repeat' split
  all_goals simp

@[simp] theorem roles_relayCommand (i : Iface) (op : Nat) (p : Packet) (s : State) :
    roles (relayCommand i op p s) = roles s := by simp [relayCommand]

@[simp] theorem roles_sendBroadcast (i : Iface) (op : Nat) (p : Packet) (s : State) :
    roles (sendBroadcast i op p s) = roles s := by simp [sendBroadcast]

theorem checkCommand_rolesByBody (info : OpInfo) (body : Packet → State → CmdResult) (p : Packet) (s : State) :
    RolesByBody body p s (checkCommand info body p s) := by
  have hrejected : ∀ st, RolesByBody body p s (rejectCommand info p st s) := fun st => .inl (by simp)
  have hhere : RolesByBody body p s (executeCommand info body p false s) := executeCommand_rolesByBody _ _ _ _ rfl rfl
  unfold checkCommand
  split
  · split
    · exact hrejected _
    split
    · exact hrejected _
    · exact hhere
  split
  · split
    · exact hrejected _
    split
    · exact hrejected _
    · refine executeCommand_rolesByBody _ _ _ _ (by simp) (slotOf_congr ?_ _)
      rw [sendBroadcast_sessions, queueReply_sec]
  split
  · split
    · exact hrejected _
    · exact hhere
  split
  · exact hrejected _
  split
  · exact hrejected _
  · exact .inl (by simp)

theorem runCommand_rolesByBody (op : Nat) (body : Packet → State → CmdResult) (p : Packet) (s : State) :
    RolesByBody body p s (runCommand op body p s) := by
  unfold runCommand
  split
  · exact .inl rfl
  split
  next info _ _ =>
    have h := checkCommand_rolesByBody info body p (takePacket p.origin s)
    rwa [RolesByBody, roles_takePacket, slotOf_takePacket] at h
  · exact .inl (by simp)

theorem roles_runCommand (op : Nat) {body : Packet → State → CmdResult} (p : Packet) (s : State)
    (h : ∀ u, roles (body p u).st = roles u) : roles (runCommand op body p s) = roles s := by
  rcases runCommand_rolesByBody op body p s with e | ⟨u, hu, -, e⟩
  · exact e
  · rw [e, h, hu]

@[simp] theorem roles_completeDeferred (op : Nat) (status : Byte) (data : List Byte) (why : ReplyPurpose) (s : State) :
    roles (completeDeferred op status data why s) = roles s := by
  unfold completeDeferred
  split <;> simp

/-! ### Configuration -/

@[simp] theorem roles_withShadow (f : RegFile) (s : State) : roles (withShadow f s) = roles s := by simp [withShadow]
@[simp] theorem roles_applyNow (b : Nat) (s : State) : roles (applyNow b s) = roles s := by simp [applyNow]

/-! ### Bridge lanes -/

@[simp] theorem roles_modLane (n : Nat) (f : LaneSt → LaneSt) (s : State) : roles (modLane n f s) = roles s := by
  simp [modLane]

@[simp] theorem roles_settleLane (n : Nat) (s : State) : roles (settleLane n s) = roles s := by simp [settleLane]

@[simp] theorem roles_settleLanes (l : List Nat) (s : State) : roles (settleLanes l s) = roles s := by
  simp [settleLanes]

@[simp] theorem roles_applyGroup (g : Nat) (s : State) : roles (applyGroup g s) = roles s := by simp [applyGroup]
@[simp] theorem roles_closeHeld (gs : List Nat) (s : State) : roles (closeHeld gs s) = roles s := by simp [closeHeld]
@[simp] theorem roles_brdgDue (m : Word) (s : State) : roles (brdgDue m s) = roles s := by simp [brdgDue]

@[simp] theorem roles_applySnuff (w : WinItem) (s : State) : roles (applySnuff w s) = roles s := by
  unfold applySnuff
  split <;> simp

@[simp] theorem roles_brdgBoundary (old : RegFile) (s : State) : roles (brdgBoundary old s) = roles s := by
  simp [brdgBoundary]

@[simp] theorem roles_brdgPower (s : State) : roles (brdgPower s) = roles s := by simp [brdgPower]
@[simp] theorem roles_brdgRc (o : Nat) (s : State) : roles (brdgRc o s) = roles s := by simp [brdgRc]

@[simp] theorem roles_brdgChange (ws : List (Nat × Word)) (at1 : Bool) (e : Word) (s : State) :
    roles (brdgChange ws at1 e s).st = roles s := by simp [brdgChange]

@[simp] theorem roles_bridgeConfigBody (p : Packet) (s : State) : roles (bridgeConfigBody p s).st = roles s := by
  simp [bridgeConfigBody]

@[simp] theorem roles_exciteSetBody (p : Packet) (s : State) : roles (exciteSetBody p s).st = roles s := by
  simp [exciteSetBody]

@[simp] theorem roles_cmwinSetBody (p : Packet) (s : State) : roles (cmwinSetBody p s).st = roles s := by
  simp [cmwinSetBody]

@[simp] theorem roles_checkDacBody (p : Packet) (s : State) : roles (checkDacBody p s).st = roles s := by
  simp [checkDacBody]

@[simp] theorem roles_clearItem (b item : Nat) (s : State) : roles (clearItem b item s) = roles s := by simp [clearItem]

@[simp] theorem roles_laneReinstateBody (p : Packet) (s : State) : roles (laneReinstateBody p s).st = roles s := by
  simp [laneReinstateBody]

@[simp] theorem roles_loadBridgeTrims (neutral : Bool) (s : State) : roles (loadBridgeTrims neutral s) = roles s := by
  simp [loadBridgeTrims]

@[simp] theorem roles_trimApplyBody (p : Packet) (s : State) : roles (trimApplyBody p s).st = roles s := by
  simp [trimApplyBody]

@[simp] theorem roles_trimReadBody (p : Packet) (s : State) : roles (trimReadBody p s).st = roles s := by
  simp [trimReadBody]

@[simp] theorem roles_modWin (w : WinItem) (f : WinSt → WinSt) (s : State) : roles (modWin w f s) = roles s := by
  unfold modWin
  split <;> simp

@[simp] theorem roles_winPermanent (w : WinItem) (s : State) : roles (winPermanent w s) = roles s := by
  simp [winPermanent]

@[simp] theorem roles_winEvent (w : WinItem) (t : Nat) (s : State) : roles (winEvent w t s) = roles s := by
  simp only [winEvent]
  split <;> simp

@[simp] theorem roles_execWindowViolationBegin (w : WinItem) (t : Long) (s : State) :
    outcomeRoles (roles s) (execWindowViolationBegin w t s) = roles s := by
  unfold execWindowViolationBegin
  repeat' split
  all_goals simp

@[simp] theorem roles_execLeadEventClassify (lane : Fin 32) (s : State) :
    outcomeRoles (roles s) (execLeadEventClassify lane s) = roles s := by
  simp only [execLeadEventClassify]
  split <;> simp

@[simp] theorem roles_execWindowViolationEnd (w : WinItem) (t : Long) (s : State) :
    outcomeRoles (roles s) (execWindowViolationEnd w t s) = roles s := by
  unfold execWindowViolationEnd
  split
  · rfl
  · exact (roles_foldl (by intros; rfl) _ _).trans (roles_modWin ..)

@[simp] theorem roles_execTransientClose (w : WinItem) (s : State) :
    outcomeRoles (roles s) (execTransientClose w s) = roles s := by
  simp only [execTransientClose]
  split <;> simp

@[simp] theorem roles_execPermanentDecision (w : WinItem) (s : State) :
    outcomeRoles (roles s) (execPermanentDecision w s) = roles s := by
  simp only [execPermanentDecision]
  split <;> simp

@[simp] theorem roles_execExcOvercurrent (g : Fin 8) (s : State) :
    outcomeRoles (roles s) (execExcOvercurrent g s) = roles s := by simp [execExcOvercurrent]

@[simp] theorem roles_execVexLow (g : Fin 8) (present : Bool) (s : State) :
    outcomeRoles (roles s) (execVexLow g present s) = roles s := by simp [execVexLow]

@[simp] theorem roles_execBrdgChangeApply (g : Fin 8) (s : State) :
    outcomeRoles (roles s) (execBrdgChangeApply g s) = roles s := by simp [execBrdgChangeApply]

@[simp] theorem roles_execBrdgSnuffApply (w : WinItem) (s : State) :
    outcomeRoles (roles s) (execBrdgSnuffApply w s) = roles s := by simp [execBrdgSnuffApply]

/-! ### Carriers -/

@[simp] theorem roles_shadowTo (after : Nat) (s : State) : roles (shadowTo after s) = roles s := by simp [shadowTo]

@[simp] theorem roles_shadowFix (s : State) : roles (shadowFix s) = roles s := by
  unfold shadowFix
  split <;> simp

@[simp] theorem roles_newCarrier (n v2 : Nat) (s : State) : roles (newCarrier n v2 s) = roles s := by simp [newCarrier]
@[simp] theorem roles_cancelHop (s : State) : roles (cancelHop s) = roles s := by simp [cancelHop]

@[simp] theorem roles_carrApply (s : State) : roles (carrApply s) = roles s := by
  simp only [carrApply]
  split <;> simp

@[simp] theorem roles_carrNow (s : State) : roles (carrNow s) = roles s := by simp [carrNow]

@[simp] theorem roles_carrDue (m : Word) (s : State) : roles (carrDue m s) = roles s := by
  unfold carrDue
  split <;> simp

@[simp] theorem roles_shadowValue (n q : Nat) (s : State) : roles (shadowValue n q s) = roles s := by
  unfold shadowValue
  repeat' split
  all_goals simp

@[simp] theorem roles_shadowLane (n l : Nat) (xs : List Int) (s : State) : roles (shadowLane n l xs s) = roles s := by
  simp [shadowLane]

@[simp] theorem roles_shadowFrame (shadow : List (List Int)) (overload : List Nat) (s : State) :
    roles (shadowFrame shadow overload s) = roles s := by simp [shadowFrame]

@[simp] theorem roles_noisyStep (t fi : Nat) (s : State) : roles (noisyStep t fi s).1 = roles s := by simp [noisyStep]

@[simp] theorem roles_hopEvaluate (te : Nat) (cur cand : Option Half) (s : State) :
    roles (hopEvaluate te cur cand s) = roles s := by
  simp only [hopEvaluate]
  repeat' split
  all_goals simp

@[simp] theorem roles_dwellStep (s : State) : roles (dwellStep s) = roles s := by
  unfold dwellStep
  split <;> simp

@[simp] theorem roles_flickerFrame (t0 te : Nat) (listen : Nat × Nat) (s : State) :
    roles (flickerFrame t0 te listen s).1 = roles s := by
  simp only [flickerFrame]
  repeat' split
  all_goals simp

@[simp] theorem roles_carrRc (o : Nat) (s : State) : roles (carrRc o s) = roles s := by simp [carrRc]

@[simp] theorem roles_carrierTableBody (p : Packet) (s : State) : roles (carrierTableBody p s).st = roles s := by
  simp [carrierTableBody]

@[simp] theorem roles_hopPolicyBody (p : Packet) (s : State) : roles (hopPolicyBody p s).st = roles s := by
  simp [hopPolicyBody]

@[simp] theorem roles_noiseSurveyBody (p : Packet) (s : State) : roles (noiseSurveyBody p s).st = roles s := by
  simp [noiseSurveyBody]

@[simp] theorem roles_emberConfigBody (p : Packet) (s : State) : roles (emberConfigBody p s).st = roles s := by
  simp [emberConfigBody]

@[simp] theorem roles_execNoiseSurveyDone (s : State) : outcomeRoles (roles s) (execNoiseSurveyDone s) = roles s := by
  unfold execNoiseSurveyDone
  split <;> simp

@[simp] theorem roles_execIdleListenFrame (u : List (Option Int)) (s : State) :
    outcomeRoles (roles s) (execIdleListenFrame u s) = roles s := by
  unfold execIdleListenFrame
  repeat' split
  all_goals simp

/-! ### Conversion -/

@[simp] theorem roles_convRc (o : Nat) (s : State) : roles (convRc o s) = roles s := by simp [convRc]

@[simp] theorem roles_convChange (ws : List (Nat × Word)) (at1 : Bool) (e : Word) (s : State) :
    roles (convChange ws at1 e s).st = roles s := by simp [convChange]

@[simp] theorem roles_convConfigBody (p : Packet) (s : State) : roles (convConfigBody p s).st = roles s := by
  simp [convConfigBody]

@[simp] theorem roles_filterSelectBody (p : Packet) (s : State) : roles (filterSelectBody p s).st = roles s := by
  simp [filterSelectBody]

@[simp] theorem roles_convStartBody (p : Packet) (s : State) : roles (convStartBody p s).st = roles s := by
  simp [convStartBody]

@[simp] theorem roles_convStopBody (p : Packet) (s : State) : roles (convStopBody p s).st = roles s := by
  simp [convStopBody]

@[simp] theorem roles_decimSyncBody (p : Packet) (s : State) : roles (decimSyncBody p s).st = roles s := by
  simp [decimSyncBody]

@[simp] theorem roles_threshSetBody (p : Packet) (s : State) : roles (threshSetBody p s).st = roles s := by
  simp [threshSetBody]

@[simp] theorem roles_onsetConfigBody (p : Packet) (s : State) : roles (onsetConfigBody p s).st = roles s := by
  simp [onsetConfigBody]

@[simp] theorem roles_convEvent (sel : Nat → Bool) (e : Nat) (s : State) : roles (convEvent sel e s) = roles s := by
  simp [convEvent]

@[simp] theorem roles_execConvIntervalEvent (s : State) :
    outcomeRoles (roles s) (execConvIntervalEvent s) = roles s := by
  unfold execConvIntervalEvent
  split <;> simp

@[simp] theorem roles_execModOverload (lane : Fin 32) (negative : Bool) (s : State) :
    outcomeRoles (roles s) (execModOverload lane negative s) = roles s := by simp [execModOverload]

@[simp] theorem roles_execModUnlock (s : State) : outcomeRoles (roles s) (execModUnlock s) = roles s := by
  simp [execModUnlock]

@[simp] theorem roles_trimmedValue (f : RegFile) (trim : BitVec 10 × BitVec 10) (n : Nat) (v : Int) (s : State) :
    roles (trimmedValue f trim n v s).2 = roles s := by simp [trimmedValue]

@[simp] theorem roles_convRaise (n : Nat) (cls0 : Bool) (entry : List Byte) (s : State) :
    roles (convRaise n cls0 entry s) = roles s := by simp [convRaise]

@[simp] theorem roles_onsetEntry (n start j : Nat) (cls0 : Bool) (sta lta : Nat) (ds : List Nat) (s : State) :
    roles (onsetEntry n start j cls0 sta lta ds s).2 = roles s := by
  simp only [onsetEntry]
  split <;> simp

@[simp] theorem roles_acquireSample (n t start j : Nat) (x0 : SampleInput) (settling first : Bool) (s : State) :
    roles (acquireSample n t start j x0 settling first s).2 = roles s := by
  unfold acquireSample
  extract_lets +onlyGivenNames f x sn invalid check trim
  split
  next v1 u hu =>
  have hu : roles u = roles s := by simp [roles_of_snd hu]
  extract_lets +onlyGivenNames over1 sat clipped zero v acts thr r0 r1 on xw
  obtain ⟨xo, trig⟩ := if on && acts then onsetStep f n v xw else (xw, none)
  dsimp -zeta only
  extract_lets +onlyGivenNames ev flags word lane thrEv checked
  have hthr : ∀ k r t, roles (thrEv k r t) = roles t := by
    intro k r t
    unfold thrEv
    split <;> simp
  have hchecked : roles checked = roles s := by simp [checked, hthr, lane, hu]
  cases trig with
  | none => exact hchecked
  | some p => simp [hchecked]

@[simp] theorem roles_laneAfter (n t : Nat) (sat : Bool) (s : State) : roles (laneAfter n t sat s) = roles s := by
  simp [laneAfter]

@[simp] theorem roles_takeCheck (n : Nat) (s : State) : roles (takeCheck n s) = roles s := by simp [takeCheck]
@[simp] theorem roles_takeRestart (n : Nat) (s : State) : roles (takeRestart n s) = roles s := by simp [takeRestart]

@[simp] theorem roles_laneInstant (t start j : Nat) (x0 : SampleInput) (s : State) :
    roles (laneInstant t start j x0 s).2 = roles s := by
  unfold laneInstant
  extract_lets n u
  have hu : roles u = roles s := by simp [u]
  split
  next sel x ret _ =>
  extract_lets +onlyGivenNames first sat settling due conv counted
  have hcounted : roles counted = roles s := by simp [counted, due, hu]
  split
  · split
    next e => simp [roles_of_snd e, hcounted]
  · simp [hcounted]

@[simp] theorem roles_closeBlock (k : Fin 16) (b : BlockRun) (s : State) : roles (closeBlock k b s) = roles s := by
  simp [closeBlock]

@[simp] theorem roles_blockTake (k : Fin 16) (r key t j : Nat) (e : Word) (ws : List (Nat × Nat)) (s : State) :
    roles (blockTake k r key t j e ws s) = roles s := by simp [blockTake]

@[simp] theorem roles_closeGaps (k : Fin 16) (r j : Nat) (keys : List Nat) (s : State) :
    roles (closeGaps k r j keys s) = roles s := by simp [closeGaps]

@[simp] theorem roles_streamWords (r t j : Nat) (e : Word) (ws : List (Nat × Nat)) (s : State) :
    roles (streamWords r t j e ws s) = roles s := by simp [streamWords]

@[simp] theorem roles_closeLast (r : Nat) (s : State) : roles (closeLast r s) = roles s := by simp [closeLast]

@[simp] theorem roles_execBridgeSample (r : Fin 16) (x : List SampleInput) (s : State) :
    outcomeRoles (roles s) (execBridgeSample r x s) = roles s := by
  simp only [execBridgeSample]
  split
  · split
    · rfl
    · simp only [outcomeRoles_next, roles_ite, roles_closeLast, roles_streamWords, ite_self]
      refine (roles_foldl_snd (fun b n => ?_) _ _).trans (roles_advanceTo ..)
      split <;> next e => simp [roles_of_snd e]
  · rfl

@[simp] theorem roles_convDue (m : Word) (s : State) : roles (convDue m s) = roles s := by
  unfold convDue
  split <;> simp

@[simp] theorem roles_convCloseEpoch (e : Word) (s : State) : roles (convCloseEpoch e s) = roles s := by
  simp [convCloseEpoch]

@[simp] theorem roles_laneStart (n tb : Nat) (s : State) : roles (laneStart n tb s) = roles s := by simp [laneStart]
@[simp] theorem roles_laneStop (n : Nat) (s : State) : roles (laneStop n s) = roles s := by simp [laneStop]

@[simp] theorem roles_laneChange (old : RegFile) (n tb : Nat) (s : State) :
    roles (laneChange old n tb s) = roles s := by simp [laneChange]

@[simp] theorem roles_allLaneReset (code : Nat) (m : Word) (tb : Nat) (s : State) :
    roles (allLaneReset code m tb s) = roles s := by simp [allLaneReset]

@[simp] theorem roles_convBoundary (m : Word) (tb : Nat) (old : RegFile) (halted : Bool) (s : State) :
    roles (convBoundary m tb old halted s) = roles s := by simp [convBoundary]

@[simp] theorem roles_convPowerOff (s : State) : roles (convPowerOff s) = roles s := by simp [convPowerOff]
@[simp] theorem roles_convRestart (s : State) : roles (convRestart s) = roles s := by simp [convRestart]

@[simp] theorem roles_syncReset (t : Long) (s : State) : roles (syncReset t s) = roles s := by
  unfold syncReset
  split <;> simp

/-! ### The node grid -/

@[simp] theorem roles_gridConfigBody (p : Packet) (s : State) : roles (gridConfigBody p s).st = roles s := by
  simp [gridConfigBody]

@[simp] theorem roles_regionDefineBody (p : Packet) (s : State) : roles (regionDefineBody p s).st = roles s := by
  simp [regionDefineBody]

@[simp] theorem roles_drivePlanBody (p : Packet) (s : State) : roles (drivePlanBody p s).st = roles s := by
  simp [drivePlanBody]

@[simp] theorem roles_selfcapConfigBody (p : Packet) (s : State) : roles (selfcapConfigBody p s).st = roles s := by
  simp [selfcapConfigBody]

@[simp] theorem roles_gridStartBody (p : Packet) (s : State) : roles (gridStartBody p s).st = roles s := by
  simp [gridStartBody]

@[simp] theorem roles_gridStopBody (p : Packet) (s : State) : roles (gridStopBody p s).st = roles s := by
  simp [gridStopBody]

@[simp] theorem roles_captureReferenceBody (p : Packet) (s : State) :
    roles (captureReferenceBody p s).st = roles s := by simp [captureReferenceBody]

@[simp] theorem roles_readFrameBody (p : Packet) (s : State) : roles (readFrameBody p s).st = roles s := by
  simp only [readFrameBody]
  split <;> simp

@[simp] theorem roles_execCaptureReferenceDone (r : NvmResult) (s : State) :
    outcomeRoles (roles s) (execCaptureReferenceDone r s) = roles s := by
  unfold execCaptureReferenceDone
  repeat' split
  all_goals simp

@[simp] theorem roles_hopApply (t : Nat) (s : State) : roles (hopApply t s) = roles s := by
  unfold hopApply
  split <;> simp

@[simp] theorem roles_execGridFrameStart (s : State) : outcomeRoles (roles s) (execGridFrameStart s) = roles s := by
  unfold execGridFrameStart
  split <;> simp

@[simp] theorem roles_overloadFaults (overload : List Nat) (s : State) :
    roles (overloadFaults overload s) = roles s := by simp [overloadFaults]

@[simp] theorem roles_emitEvents (bit : Nat) (epoch : Word) (evs : List (List Byte)) (s : State) :
    roles (emitEvents bit epoch evs s) = roles s := by simp [emitEvents]

@[simp] theorem roles_carrierFrame (fr : FrameRun) (x : FrameInput) (vals : List (List Int)) (s : State) :
    roles (carrierFrame fr x vals s) = roles s := by simp [carrierFrame]

@[simp] theorem roles_execGridFrameComplete (x : FrameInput) (s : State) :
    outcomeRoles (roles s) (execGridFrameComplete x s) = roles s := by
  unfold execGridFrameComplete
  split <;> simp

@[simp] theorem roles_execDriveOvercurrent (line : Fin 120) (s : State) :
    outcomeRoles (roles s) (execDriveOvercurrent line s) = roles s := by simp [execDriveOvercurrent]

@[simp] theorem roles_execVtxLow (present : Bool) (s : State) :
    outcomeRoles (roles s) (execVtxLow present s) = roles s := by simp [execVtxLow]

/-! ### Housekeeping -/

@[simp] theorem roles_faultReadBody (p : Packet) (s : State) : roles (faultReadBody p s).st = roles s := by
  simp [faultReadBody]

@[simp] theorem roles_faultAckBody (p : Packet) (s : State) : roles (faultAckBody p s).st = roles s := by
  simp [faultAckBody]

@[simp] theorem roles_severitySetBody (p : Packet) (s : State) : roles (severitySetBody p s).st = roles s := by
  simp [severitySetBody]

@[simp] theorem roles_thermalConfigBody (p : Packet) (s : State) : roles (thermalConfigBody p s).st = roles s := by
  simp [thermalConfigBody]

@[simp] theorem roles_taperApply (s : State) : roles (taperApply s) = roles s := by simp [taperApply]
@[simp] theorem roles_taperRound (s : State) : roles (taperRound s) = roles s := by simp [taperRound]
@[simp] theorem roles_sensorsApply (s : State) : roles (sensorsApply s) = roles s := by simp [sensorsApply]

@[simp] theorem roles_crossCheck (dis : List Nat) (s : State) : roles (crossCheck dis s) = roles s := by
  simp [crossCheck]

@[simp] theorem roles_roundTj (live dis : List Nat) (v : Nat → Int) (s : State) :
    roles (roundTj live dis v s) = roles s := by
  simp only [roundTj]
  split <;> simp

@[simp] theorem roles_tempWarnStep (s : State) : roles (tempWarnStep s) = roles s := by simp [tempWarnStep]

@[simp] theorem roles_supplyStep (conv : List Int) (s : State) : roles (supplyStep conv s) = roles s := by
  simp [supplyStep]

@[simp] theorem roles_sensorsLowStep (s : State) : roles (sensorsLowStep s) = roles s := by simp [sensorsLowStep]
@[simp] theorem roles_checkStep (ok : Bool) (s : State) : roles (checkStep ok s) = roles s := by simp [checkStep]

@[simp] theorem roles_execHousekeepingRound (conv : List Int) (checkOk : Bool) (s : State) :
    outcomeRoles (roles s) (execHousekeepingRound conv checkOk s) = roles s := by simp [execHousekeepingRound]

@[simp] theorem roles_healthReadBody (p : Packet) (s : State) : roles (healthReadBody p s).st = roles s := by
  simp [healthReadBody]

@[simp] theorem roles_reinstateItem (role op : Byte) (b item : Nat) (s : State) :
    roles (reinstateItem role op b item s) = roles s := by simp [reinstateItem]

@[simp] theorem roles_reinstateWrite (role op : Byte) (v : Word) (s : State) :
    roles (reinstateWrite role op v s).2 = roles s := by simp [reinstateWrite]

@[simp] theorem roles_hkpRc (o : Nat) (s : State) : roles (hkpRc o s) = roles s := by simp [hkpRc]

/-! ### The touch pipeline -/

@[simp] theorem roles_modRegion (i : Nat) (f : RegionSt → RegionSt) (s : State) :
    roles (modRegion i f s) = roles s := by simp [modRegion]

@[simp] theorem roles_idPass (s : State) : roles (idPass s) = roles s := by simp [idPass]

@[simp] theorem roles_idIssue (n : Nat) (s : State) : roles (idIssue n s).2 = roles s := by
  induction n generalizing s with
  | zero => rfl
  | succ n ih => simp [idIssue, ih]

@[simp] theorem roles_dropContact (c : Contact) (s : State) : roles (dropContact c s) = roles s := by simp [dropContact]
@[simp] theorem roles_putContact (c : Contact) (s : State) : roles (putContact c s) = roles s := by simp [putContact]

@[simp] theorem roles_cancelContacts (mask : Nat) (s : State) : roles (cancelContacts mask s) = roles s := by
  simp [cancelContacts]

@[simp] theorem roles_reportCancelled (t0 : Nat) (pick : Contact → Bool) (s : State) (o : TchOut) :
    roles (reportCancelled t0 pick s o).1 = roles s := by simp [reportCancelled]

@[simp] theorem roles_startWindows (mask : Nat) (ignoreRef : Bool) (s : State) :
    roles (startWindows mask ignoreRef s) = roles s := by simp [startWindows]

@[simp] theorem roles_windowEnd (r : Region) (xs : List NodeR) (vals : List (List (Option Int))) (s : State)
    (o : TchOut) :
    roles (windowEnd r xs vals s o).2.1 = roles s := by
  simp only [windowEnd]
  split <;> simp

@[simp] theorem roles_needSelf (want : Bool) (i t0 te : Nat) (s : State) (o : TchOut) :
    roles (needSelf want i t0 te s o).2.1 = roles s := by
  unfold needSelf
  repeat' split
  all_goals simp

@[simp] theorem roles_fieldFrame (r : Region) (t0 te : Nat) (xs : List NodeR) (s : State) (o : TchOut) :
    roles (fieldFrame r t0 te xs s o).2.1 = roles s := by simp [fieldFrame]

@[simp] theorem roles_contactDown (t0 : Nat) (c : Contact) (s : State) : roles (contactDown t0 c s).2 = roles s := by
  simp only [contactDown]
  repeat' split
  all_goals simp

@[simp] theorem roles_gesture (g : GestCfg) (bit : Nat) (e : TchEv) (s : State) (o : TchOut) :
    roles (gesture g bit e s o).1 = roles s := by simp [gesture]

@[simp] theorem roles_upGestures (t0 : Nat) (c : Contact) (s : State) (o : TchOut) :
    roles (upGestures t0 c s o).1 = roles s := by simp [upGestures]

@[simp] theorem roles_longPress (t0 : Nat) (c : Contact) (s : State) (o : TchOut) :
    roles (longPress t0 c s o).2.1 = roles s := by simp [longPress]

@[simp] theorem roles_contactStuck (t0 : Nat) (c : Contact) (s : State) (o : TchOut) :
    roles (contactStuck t0 c s o).1 = roles s := by simp [contactStuck]

@[simp] theorem roles_keepContact (t0 : Nat) (wet : Option Rect) (ds : List Det) (pairs : List (Nat × Nat))
    (c : Contact) (a : State × TchOut × Relearn) :
    roles (keepContact t0 wet ds pairs c a).1 = roles a.1 := by
  simp only [keepContact]
  repeat' split
  all_goals simp

@[simp] theorem roles_enterDet (t0 i : Nat) (present : List (List (Nat × Nat) × Bool)) (d : Det) (a : State × TchOut) :
    roles (enterDet t0 i present d a).1 = roles a.1 := by
  simp only [enterDet]
  repeat' split
  all_goals simp

@[simp] theorem roles_keeper (t0 i : Nat) (wet : Option Rect) (ds : List Det) (s : State) (o : TchOut) :
    roles (keeper t0 i wet ds s o).1 = roles s := by simp [keeper]

@[simp] theorem roles_footStep (r : Region) (t0 : Nat) (xs : List NodeR) (ds : List Det) (s : State) :
    roles (footStep r t0 xs ds s) = roles s := by simp [footStep]

@[simp] theorem roles_surfaceFrame (r : Region) (t0 te : Nat) (xs : List NodeR) (s : State) (o : TchOut) :
    roles (surfaceFrame r t0 te xs s o).2.1 = roles s := by
  unfold surfaceFrame
  extract_lets +onlyGivenNames f i st on1 off els acts dets
  split
  next selfs u o' hu =>
  have hu : roles u = roles s := by simp [roles_of_snd_fst hu]
  extract_lets +onlyGivenNames isWet wets fingers wetNodes
  split
  extract_lets +onlyGivenNames skip
  split
  extract_lets +onlyGivenNames o2 rect upd kept held hov ds
  split
  next v o3 rl hv =>
  have hv : roles v = roles s := by
    rw [roles_of_fst hv]
    simp [kept, hu]
  simp [hv]

@[simp] theorem roles_regionFrame (h : HeldFrame) (i : Nat) (a : State × TchOut) :
    roles (regionFrame h i a).1 = roles a.1 := by
  obtain ⟨s, o⟩ := a
  unfold regionFrame
  dsimp -zeta only
  extract_lets +onlyGivenNames r
  split
  · rfl
  extract_lets +onlyGivenNames gap opened xs none1
  have hopened : roles opened = roles s := by simp [opened]
  split
  · simp [hopened]
  extract_lets +onlyGivenNames seen te run
  have hseen : roles seen = roles s := by simp [seen, hopened]
  have hrun : ∀ xs t o, roles (run xs t o).1 = roles t := by
    intro xs t o
    exact (roles_ite_snd_fst ..).trans (by simp)
  split
  · rw [hrun, hseen]
  · simp [hrun, hseen]

@[simp] theorem roles_controlsFrame (pick : Nat → Bool) (sig : Nat → Nat → Option Int) (s : State) :
    roles (controlsFrame pick sig s).1 = roles s := by
  unfold controlsFrame
  split
  · rfl
  · exact roles_foldl_fst (by intros; rfl) _ _

@[simp] theorem roles_showContacts (t0 : Nat) (s : State) : roles (showContacts t0 s) = roles s := by
  simp [showContacts]

@[simp] theorem roles_finishMutual (h : HeldFrame) (ctl : List (List Byte)) (s : State) (o : TchOut) :
    roles (finishMutual h ctl s o) = roles s := by simp [finishMutual]

theorem roles_takeTodo {m : Bool} {s t : State} {h : HeldFrame} {b : Bool} (e : takeTodo m s = some (h, b, t)) :
    roles t = roles s := by
  unfold takeTodo at e
  split at e
  · cases e
  · split at e <;> cases e
    rfl

@[simp] theorem roles_settleEpochs (s : State) : roles (settleEpochs s) = roles s := by simp [settleEpochs]

@[simp] theorem roles_reportLowered (h : HeldFrame) (a : State × TchOut) : roles (reportLowered h a).1 = roles a.1 := by
  simp [reportLowered]

@[simp] theorem roles_mutualFrame (h : HeldFrame) (s : State) : roles (mutualFrame h s) = roles s := by
  simp [mutualFrame]

@[simp] theorem roles_execTouchMutualFrame (late : Bool) (s : State) :
    outcomeRoles (roles s) (execTouchMutualFrame late s) = roles s := by
  unfold execTouchMutualFrame
  split
  · rfl
  · next e => simp [roles_takeTodo e]

@[simp] theorem roles_setSelfBase (i : Nat) (b : Int) (s : State) : roles (setSelfBase i b s) = roles s := by
  simp [setSelfBase]

@[simp] theorem roles_selfLine (i : Nat) (v : Option Int) (a : State × List (Option Int)) :
    roles (selfLine i v a).1 = roles a.1 := by
  unfold selfLine
  repeat' split
  all_goals simp

@[simp] theorem roles_selfFrame (h : HeldFrame) (s : State) : roles (selfFrame h s) = roles s := by
  unfold selfFrame
  extract_lets +onlyGivenNames set m lines raw vals x
  split
  next u usable e =>
  have hu : roles u = roles s := by
    rw [roles_of_fst e]
    split
    · rfl
    dsimp only
    split
    · rfl
    · exact roles_foldl (by intro t p; split <;> simp) _ _
  split
  · exact hu
  split
  next v sigs hv =>
  have hv : roles v = roles s := ((roles_of_fst hv).trans (roles_foldl_fst (by simp) _ _)).trans hu
  simp [hv]

@[simp] theorem roles_tchDrain (s : State) : roles (tchDrain s) = roles s := by simp [tchDrain]

@[simp] theorem roles_execTouchSelfFrame (late : Bool) (s : State) :
    outcomeRoles (roles s) (execTouchSelfFrame late s) = roles s := by
  unfold execTouchSelfFrame
  split
  · rfl
  · next e => simp [roles_takeTodo e]

/-! ### Touch commands -/

@[simp] theorem roles_rescaleRegion (r : Region) (gold : Nat) (s : State) :
    roles (rescaleRegion r gold s) = roles s := by simp [rescaleRegion]

@[simp] theorem roles_lowerMax (s : State) : roles (lowerMax s) = roles s := by simp [lowerMax]

@[simp] theorem roles_tchBoundary (old : RegFile) (s : State) : roles (tchBoundary old s) = roles s := by
  simp [tchBoundary]

@[simp] theorem roles_tchStart (s : State) : roles (tchStart s) = roles s := by simp [tchStart]

@[simp] theorem roles_tchStop (stop : Word) (t0 : Nat) (s : State) : roles (tchStop stop t0 s) = roles s := by
  simp [tchStop]

@[simp] theorem roles_tchRc (o : Nat) (s : State) : roles (tchRc o s) = roles s := by simp [tchRc]

@[simp] theorem roles_touchConfigBody (p : Packet) (s : State) : roles (touchConfigBody p s).st = roles s := by
  simp [touchConfigBody]

@[simp] theorem roles_controlDefineBody (p : Packet) (s : State) : roles (controlDefineBody p s).st = roles s := by
  simp [controlDefineBody]

@[simp] theorem roles_gestureConfigBody (p : Packet) (s : State) : roles (gestureConfigBody p s).st = roles s := by
  simp [gestureConfigBody]

@[simp] theorem roles_baselineResetBody (p : Packet) (s : State) : roles (baselineResetBody p s).st = roles s := by
  simp [baselineResetBody]

@[simp] theorem roles_contactPolicyBody (p : Packet) (s : State) : roles (contactPolicyBody p s).st = roles s := by
  simp [contactPolicyBody]

@[simp] theorem roles_readContactsBody (p : Packet) (s : State) : roles (readContactsBody p s).st = roles s := by
  unfold readContactsBody
  split <;> simp

/-! ### The reservoir -/

@[simp] theorem roles_layOut (k : Fin 16) (s : State) : roles (layOut k s) = roles s := by simp [layOut]

@[simp] theorem roles_grant (k : Fin 16) (base pages e rate : Nat) (s : State) :
    roles (grant k base pages e rate s) = roles s := by simp [grant]

theorem roles_reservePort {src : Byte} {k : Nat} {n : Fin 4} {rate : Nat} {s t : State}
    (e : reservePort src k n rate s = some t) : roles t = roles s := by
  simp only [reservePort] at e
  split at e <;> cases e
  rfl

@[simp] theorem roles_unreserve (src : Byte) (k : Nat) (s : State) : roles (unreserve src k s) = roles s := by
  simp [unreserve]

@[simp] theorem roles_releaseRoute (k : Fin 16) (s : State) : roles (releaseRoute k s) = roles s := by
  simp [releaseRoute]

@[simp] theorem roles_askFail (k : Fin 16) (s : State) : roles (askFail k s) = roles s := by
  unfold askFail
  split <;> simp

@[simp] theorem roles_withdraw (k : Fin 16) (s : State) : roles (withdraw k s) = roles s := by simp [withdraw]

@[simp] theorem roles_streamDefineBody (p : Packet) (s : State) : roles (streamDefineBody p s).st = roles s := by
  simp [streamDefineBody]

@[simp] theorem roles_streamAdmitBody (p : Packet) (s : State) : roles (streamAdmitBody p s).st = roles s := by
  refine roles_checked _ _ ?_
  extract_lets d
  split
  extract_lets base bad
  split
  · rfl
  split
  · simp
  split
  · rfl
  split
  · rfl
  · next e => simp [roles_reservePort e]

@[simp] theorem roles_streamStartBody (p : Packet) (s : State) : roles (streamStartBody p s).st = roles s := by
  simp [streamStartBody]

@[simp] theorem roles_streamStopBody (p : Packet) (s : State) : roles (streamStopBody p s).st = roles s := by
  simp [streamStopBody]

@[simp] theorem roles_releaseRecs (k : Fin 16) (gone : Rec → Bool) (s : State) :
    roles (releaseRecs k gone s) = roles s := by simp [releaseRecs]

@[simp] theorem roles_streamReadBody (p : Packet) (s : State) : roles (streamReadBody p s).st = roles s := by
  simp [streamReadBody]

@[simp] theorem roles_drainDeclareBody (p : Packet) (s : State) : roles (drainDeclareBody p s).st = roles s := by
  simp [drainDeclareBody]

theorem roles_grantReceive {q : AdmissionReq} {s t : State} (e : grantReceive q s = some t) : roles t = roles s := by
  unfold grantReceive at e
  extract_lets d mine idle at e
  split at e
  · cases e
  · dsimp only at e
    split at e
    · cases e
    · split at e <;> cases e
      simp

@[simp] theorem roles_execAdmissionRequestReceive (p : Fin 4) (q : AdmissionReq) (s : State) :
    outcomeRoles (roles s) (execAdmissionRequestReceive p q s) = roles s := by
  unfold execAdmissionRequestReceive
  extract_lets k i answer onward
  rw [outcomeRoles_next]
  have hanswer : ∀ g f t, roles (answer g f t) = roles t := by intros; simp [answer]
  have honward : ∀ t, roles (onward t) = roles t := by intros; simp [onward]
  split
  · split
    · split <;> simp
    · split
      · next e => simp [hanswer, roles_grantReceive e]
      · simp [hanswer]
  · split
    · simp [honward]
    · split
      · simp [hanswer]
      · split
        · next e => simp [hanswer, honward, roles_reservePort e]
        · simp [hanswer]

@[simp] theorem roles_execAdmissionReplyReceive (_src : Byte) (a : AdmissionReply) (s : State) :
    outcomeRoles (roles s) (execAdmissionReplyReceive _src a s) = roles s := by
  unfold execAdmissionReplyReceive
  split <;> simp

@[simp] theorem roles_closeMarks (e : Word) (s : State) : roles (closeMarks e s) = roles s := by simp [closeMarks]
@[simp] theorem roles_stopStream (k : Fin 16) (s : State) : roles (stopStream k s) = roles s := by simp [stopStream]
@[simp] theorem roles_stopStreams (s : State) : roles (stopStreams s) = roles s := by simp [stopStreams]

@[simp] theorem roles_skipEpochs (first last : Word) (cause start stop : Nat) (s : State) :
    roles (skipEpochs first last cause start stop s) = roles s := by simp [skipEpochs]

@[simp] theorem roles_runStream (m : Word) (c : Schedule) (causes : List (Nat × Nat)) (k : Fin 16) (s : State) :
    roles (runStream m c causes k s) = roles s := by simp [runStream]

@[simp] theorem roles_resBoundary (m : Word) (c : Schedule) (causes : List (Nat × Nat)) (s : State) :
    roles (resBoundary m c causes s) = roles s := by simp [resBoundary]

@[simp] theorem roles_readPort (i : Iface) (n : Nat) (s : State) : roles (readPort i n s).2 = roles s := by
  simp [readPort]

@[simp] theorem roles_commitPort (i : Iface) (s : State) : roles (commitPort i s) = roles s := by simp [commitPort]
@[simp] theorem roles_rewindPort (i : Iface) (s : State) : roles (rewindPort i s) = roles s := by simp [rewindPort]

@[simp] theorem roles_readAlarm (i : Iface) (s : State) : roles (readAlarm i s).2 = roles s := by
  unfold readAlarm
  split <;> simp

@[simp] theorem roles_execDrainLate (k : Fin 16) (s : State) :
    outcomeRoles (roles s) (execDrainLate k s) = roles s := by
  simp only [execDrainLate]
  split <;> simp

@[simp] theorem roles_resRc (o : Nat) (s : State) : roles (resRc o s) = roles s := by simp [resRc]
@[simp] theorem roles_resTouch (o : Nat) (s : State) : roles (resTouch o s) = roles s := by simp [resTouch]

/-! ### The time base -/

@[simp] theorem roles_rateFix (s : State) : roles (rateFix s) = roles s := by simp [rateFix]
@[simp] theorem roles_ppsFix (s : State) : roles (ppsFix s) = roles s := by simp [ppsFix]
@[simp] theorem roles_beaconFix (s : State) : roles (beaconFix s) = roles s := by simp [beaconFix]
@[simp] theorem roles_timeTouched (s : State) : roles (timeTouched s) = roles s := by simp [timeTouched]

@[simp] theorem roles_mark (time kind unit : Nat) (falling step : Bool) (data : Nat) (s : State) :
    roles (mark time kind unit falling step data s) = roles s := by simp [mark]

@[simp] theorem roles_passTriggers (lim : Nat) (s : State) : roles (passTriggers lim s) = roles s := by
  simp [passTriggers]

@[simp] theorem roles_moveCounter (d : Int) (s : State) : roles (moveCounter d s) = roles s := by simp [moveCounter]
@[simp] theorem roles_stepEffects (old : Nat) (s : State) : roles (stepEffects old s) = roles s := by simp [stepEffects]
@[simp] theorem roles_stepBy (d : Int) (s : State) : roles (stepBy d s) = roles s := by simp [stepBy]
@[simp] theorem roles_stepTo (v : Nat) (s : State) : roles (stepTo v s) = roles s := by simp [stepTo]

@[simp] theorem roles_acquireLamplighter (v : Nat) (s : State) : roles (acquireLamplighter v s) = roles s := by
  simp [acquireLamplighter]

@[simp] theorem roles_servo (theta : Int) (tb kp ki : Nat) (s : State) : roles (servo theta tb kp ki s) = roles s := by
  simp [servo]

@[simp] theorem roles_noteTheta (theta : Int) (s : State) : roles (noteTheta theta s) = roles s := by simp [noteTheta]
@[simp] theorem roles_notePath (d : Int) (s : State) : roles (notePath d s) = roles s := by simp [notePath]
@[simp] theorem roles_badExchange (s : State) : roles (badExchange s) = roles s := by simp [badExchange]
@[simp] theorem roles_enterHoldover (s : State) : roles (enterHoldover s) = roles s := by simp [enterHoldover]

@[simp] theorem roles_leaveHoldover (st : TimeState) (s : State) : roles (leaveHoldover st s) = roles s := by
  simp [leaveHoldover]

@[simp] theorem roles_lockState (theta : Int) (s : State) : roles (lockState theta s) = roles s := by simp [lockState]

@[simp] theorem roles_becomeLamplighter (s : State) : roles (becomeLamplighter s) = roles s := by
  simp [becomeLamplighter]

@[simp] theorem roles_followAnother (s : State) : roles (followAnother s) = roles s := by simp [followAnother]

@[simp] theorem roles_timeSetBody (p : Packet) (s : State) : roles (timeSetBody p s).st = roles s := by
  simp only [timeSetBody]
  split <;> simp

@[simp] theorem roles_timeGetBody (p : Packet) (s : State) : roles (timeGetBody p s).st = roles s := by
  simp [timeGetBody]

@[simp] theorem roles_servoConfigBody (p : Packet) (s : State) : roles (servoConfigBody p s).st = roles s := by
  simp [servoConfigBody]

@[simp] theorem roles_disarm (u : Fin 16) (s : State) : roles (disarm u s) = roles s := by simp [disarm]
@[simp] theorem roles_takeTrigger (u : Fin 16) (s : State) : roles (takeTrigger u s) = roles s := by simp [takeTrigger]

@[simp] theorem roles_triggerSetBody (p : Packet) (s : State) : roles (triggerSetBody p s).st = roles s := by
  simp [triggerSetBody]

@[simp] theorem roles_captureConfigBody (p : Packet) (s : State) : roles (captureConfigBody p s).st = roles s := by
  simp [captureConfigBody]

@[simp] theorem roles_beaconConfigBody (p : Packet) (s : State) : roles (beaconConfigBody p s).st = roles s := by
  simp [beaconConfigBody]

@[simp] theorem roles_epochSetBody (p : Packet) (s : State) : roles (epochSetBody p s).st = roles s := by
  simp [epochSetBody]

@[simp] theorem roles_timeRc (o : Nat) (s : State) : roles (timeRc o s) = roles s := by simp [timeRc]
@[simp] theorem roles_capW1c (c : Nat) (w : Word) (s : State) : roles (capW1c c w s) = roles s := by simp [capW1c]

@[simp] theorem roles_execTimeNowLatch (s : State) : outcomeRoles (roles s) (execTimeNowLatch s) = roles s := by
  simp [execTimeNowLatch]

@[simp] theorem roles_captureOne (c : Fin 8) (falling : Bool) (t : Long) (s : State) :
    roles (captureOne c falling t s) = roles s := by simp [captureOne]

@[simp] theorem roles_captureEdge (src : Nat) (falling : Bool) (t : Long) (s : State) :
    roles (captureEdge src falling t s) = roles s := by simp [captureEdge]

@[simp] theorem roles_execSyncEdge (falling : Bool) (t : Long) (s : State) :
    outcomeRoles (roles s) (execSyncEdge falling t s) = roles s := by simp [execSyncEdge]

@[simp] theorem roles_execTrigEdge (n : Fin 4) (falling : Bool) (t : Long) (s : State) :
    outcomeRoles (roles s) (execTrigEdge n falling t s) = roles s := by simp [execTrigEdge]

@[simp] theorem roles_ppsServo (t : Nat) (s : State) : roles (ppsServo t s) = roles s := by
  simp only [ppsServo]
  repeat' split
  all_goals simp

@[simp] theorem roles_execPpsinEdge (falling : Bool) (t : Long) (s : State) :
    outcomeRoles (roles s) (execPpsinEdge falling t s) = roles s := by
  simp only [execPpsinEdge]
  repeat' split
  all_goals simp

@[simp] theorem roles_execPpsLost (s : State) : outcomeRoles (roles s) (execPpsLost s) = roles s := by
  simp [execPpsLost]

theorem roles_advanceTo_ppsOut (n : Nat) (b : Bool) (s : State) :
    roles { advanceTo n s with time := { (advanceTo n s).time with ppsOut := b } } = roles s :=
  roles_advanceTo n s

@[simp] theorem roles_execPpsoutPulse (s : State) : outcomeRoles (roles s) (execPpsoutPulse s) = roles s := by
  rw [execPpsoutPulse]
  split
  · exact roles_advanceTo_ppsOut ..
  split
  · rfl
  · rw [outcomeRoles_next]
    exact roles_advanceTo_ppsOut ..

@[simp] theorem roles_execTclkLost (s : State) : outcomeRoles (roles s) (execTclkLost s) = roles s := by
  simp [execTclkLost]

@[simp] theorem roles_execTimeTriggerFire (u : Fin 16) (s : State) :
    outcomeRoles (roles s) (execTimeTriggerFire u s) = roles s := by simp [execTimeTriggerFire]

@[simp] theorem roles_execSlewEnd (s : State) : outcomeRoles (roles s) (execSlewEnd s) = roles s := by
  unfold execSlewEnd
  split <;> simp

@[simp] theorem roles_execSyncFrameSend (s : State) : outcomeRoles (roles s) (execSyncFrameSend s) = roles s := by
  unfold execSyncFrameSend
  split
  · rfl
  · exact (roles_foldl (by intros; rfl) _ _).trans (roles_advanceTo ..)

@[simp] theorem roles_takeSchedule (f : SyncFrame) (s : State) : roles (takeSchedule f s) = roles s := by
  unfold takeSchedule
  repeat' split
  all_goals simp

@[simp] theorem roles_execSyncFrameReceive (p : Fin 4) (f : SyncFrame) (t2 : Stamp) (s : State) :
    outcomeRoles (roles s) (execSyncFrameReceive p f t2 s) = roles s := by simp [execSyncFrameReceive]

@[simp] theorem roles_execDelayReqSend (t3 : Stamp) (s : State) :
    outcomeRoles (roles s) (execDelayReqSend t3 s) = roles s := by
  unfold execDelayReqSend
  split <;> simp

@[simp] theorem roles_execDelayReqReceive (p : Fin 4) (seq : Half) (t4 : Stamp) (s : State) :
    outcomeRoles (roles s) (execDelayReqReceive p seq t4 s) = roles s := by simp [execDelayReqReceive]

@[simp] theorem roles_acceptPath (d2 : Int) (s : State) : roles (acceptPath d2 s) = roles s := by
  unfold acceptPath
  split <;> simp

@[simp] theorem roles_useTheta (theta d2 : Int) (s : State) : roles (useTheta theta d2 s) = roles s := by
  unfold useTheta
  repeat' split
  all_goals simp

@[simp] theorem roles_execDelayRespReceive (p : Fin 4) (seq : Half) (t4 : Stamp) (s : State) :
    outcomeRoles (roles s) (execDelayRespReceive p seq t4 s) = roles s := by
  simp only [execDelayRespReceive]
  repeat' split
  all_goals simp

@[simp] theorem roles_execDelayRespTimeout (s : State) : outcomeRoles (roles s) (execDelayRespTimeout s) = roles s := by
  unfold execDelayRespTimeout
  split <;> simp

@[simp] theorem roles_execBeaconMissed (s : State) : outcomeRoles (roles s) (execBeaconMissed s) = roles s := by
  simp [execBeaconMissed]

/-! ### The fabric -/

@[simp] theorem roles_modLink (n : Fin 4) (f : PortSt → PortSt) (s : State) : roles (modLink n f s) = roles s := by
  simp [modLink]

@[simp] theorem roles_drainOn (n : Fin 4) (s : State) : roles (drainOn n s) = roles s := by simp [drainOn]
@[simp] theorem roles_touchDb (s : State) : roles (touchDb s) = roles s := by simp [touchDb]

@[simp] theorem roles_execPortTrained (p : Fin 4) (uid : Long) (s : State) :
    outcomeRoles (roles s) (execPortTrained p uid s) = roles s := by simp [execPortTrained]

@[simp] theorem roles_execPortMismatch (p : Fin 4) (s : State) :
    outcomeRoles (roles s) (execPortMismatch p s) = roles s := by simp [execPortMismatch]

@[simp] theorem roles_execHelloSend (s : State) : outcomeRoles (roles s) (execHelloSend s) = roles s := by
  simp [execHelloSend]

@[simp] theorem roles_execHelloReceive (p : Fin 4) (h : Hello) (s : State) :
    outcomeRoles (roles s) (execHelloReceive p h s) = roles s := by simp [execHelloReceive]

@[simp] theorem roles_execLinkDown (p : Fin 4) (codeErrors : Nat) (s : State) :
    outcomeRoles (roles s) (execLinkDown p codeErrors s) = roles s := by simp [execLinkDown]

@[simp] theorem roles_execCreditReceive (p cls : Fin 4) (n : Byte) (s : State) :
    outcomeRoles (roles s) (execCreditReceive p cls n s) = roles s := by simp [execCreditReceive]

@[simp] theorem roles_execFrameDiscard (p : Fin 4) (why : DiscardCause) (s : State) :
    outcomeRoles (roles s) (execFrameDiscard p why s) = roles s := by simp [execFrameDiscard]

@[simp] theorem roles_execFrameForward (p : Fin 4) (f : Frame) (s : State) :
    outcomeRoles (roles s) (execFrameForward p f s) = roles s := by simp [execFrameForward]

@[simp] theorem roles_originate (joined : Bool) (s : State) : roles (originate joined s) = roles s := by
  simp [originate]

@[simp] theorem roles_execTopoOriginate (s : State) : outcomeRoles (roles s) (execTopoOriginate s) = roles s := by
  simp [execTopoOriginate]

@[simp] theorem roles_execTopoReceive (p : Fin 4) (r : Topo) (s : State) :
    outcomeRoles (roles s) (execTopoReceive p r s) = roles s := by simp [execTopoReceive]

@[simp] theorem roles_execTopoExpiry (uid : Long) (s : State) :
    outcomeRoles (roles s) (execTopoExpiry uid s) = roles s := by simp [execTopoExpiry]

@[simp] theorem roles_sendHeldAlarms (s : State) : roles (sendHeldAlarms s) = roles s := by
  unfold sendHeldAlarms
  split <;> simp

@[simp] theorem roles_takeAssign (pairs : List (Long × Byte)) (s : State) : roles (takeAssign pairs s) = roles s := by
  unfold takeAssign
  split <;> simp

@[simp] theorem roles_assignAll (s : State) : roles (assignAll s) = roles s := by simp [assignAll]

@[simp] theorem roles_execAssignReceive (p : Fin 4) (a : Assign) (s : State) :
    outcomeRoles (roles s) (execAssignReceive p a s) = roles s := by simp [execAssignReceive]

@[simp] theorem roles_reroute (s : State) : roles (reroute s) = roles s := by simp [reroute]

@[simp] theorem roles_newLamplighter (r : Topo) (wasSelf : Bool) (s : State) :
    roles (newLamplighter r wasSelf s) = roles s := by simp [newLamplighter]

@[simp] theorem roles_execDatabaseSettled (s : State) : outcomeRoles (roles s) (execDatabaseSettled s) = roles s := by
  unfold execDatabaseSettled
  rw [outcomeRoles_next]
  split
  · rfl
  extract_lets ds reach
  split
  · rfl
  extract_lets +onlyGivenNames changed way depth settled led limited sent assigned
  have hassigned : roles assigned = roles s := by simp [assigned, sent, limited, led, settled]
  split
  · rw [roles_ite, ← hassigned]
    exact ite_self _
  · exact hassigned

@[simp] theorem roles_joinFabric (s : State) : roles (joinFabric s) = roles s := by simp [joinFabric]
@[simp] theorem roles_leaveFabric (s : State) : roles (leaveFabric s) = roles s := by simp [leaveFabric]

@[simp] theorem roles_fabricJoinBody (p : Packet) (s : State) : roles (fabricJoinBody p s).st = roles s := by
  simp [fabricJoinBody]

@[simp] theorem roles_execFabricJoinDone (s : State) : outcomeRoles (roles s) (execFabricJoinDone s) = roles s := by
  unfold execFabricJoinDone
  split <;> simp

@[simp] theorem roles_fabricStatusBody (p : Packet) (s : State) : roles (fabricStatusBody p s).st = roles s := by
  simp [fabricStatusBody]

@[simp] theorem roles_routeReadBody (p : Packet) (s : State) : roles (routeReadBody p s).st = roles s := by
  simp [routeReadBody]

@[simp] theorem roles_portTouch (n : Fin 4) (s : State) : roles (portTouch n s) = roles s := by simp [portTouch]

@[simp] theorem roles_reinstatePort (role : Byte) (n : Fin 4) (s : State) :
    roles (reinstatePort role n s) = roles s := by simp [reinstatePort]

@[simp] theorem roles_portConfigBody (p : Packet) (s : State) : roles (portConfigBody p s).st = roles s := by
  simp [portConfigBody]

@[simp] theorem roles_lamplighterPriorityBody (p : Packet) (s : State) :
    roles (lamplighterPriorityBody p s).st = roles s := by simp [lamplighterPriorityBody]

@[simp] theorem roles_joinSegment (isReply : Bool) (src dest : Byte) (g : Segment) (s : State) :
    roles (joinSegment isReply src dest g s).1 = roles s := by simp [joinSegment]

@[simp] theorem roles_execCmdFrameReceive (p : Fin 4) (src dest : Byte) (g : Segment) (s : State) :
    outcomeRoles (roles s) (execCmdFrameReceive p src dest g s) = roles s := by
  simp only [execCmdFrameReceive, outcomeRoles_next]
  split
  · rfl
  · split <;> next e => simp [roles_of_fst e]

@[simp] theorem roles_takeReply (src : Byte) (i : Iface) (tag : Byte) (b : List Byte) (s : State) :
    roles (takeReply src i tag b s) = roles s := by
  simp only [takeReply]
  split <;> simp

@[simp] theorem roles_execRplFrameReceive (p : Fin 4) (src : Byte) (g : Segment) (s : State) :
    outcomeRoles (roles s) (execRplFrameReceive p src g s) = roles s := by
  simp only [execRplFrameReceive, outcomeRoles_next]
  split
  · rfl
  · split <;> next e => simp [roles_of_fst e]

@[simp] theorem roles_execReassemblyTimeout (isReply : Bool) (src : Byte) (i : Iface) (tag : Byte) (s : State) :
    outcomeRoles (roles s) (execReassemblyTimeout isReply src i tag s) = roles s := by simp [execReassemblyTimeout]

@[simp] theorem roles_execRelayTimeout (i : Iface) (tag : Byte) (s : State) :
    outcomeRoles (roles s) (execRelayTimeout i tag s) = roles s := by
  unfold execRelayTimeout
  split <;> simp

@[simp] theorem roles_execBroadcastSummary (i : Iface) (tag : Byte) (s : State) :
    outcomeRoles (roles s) (execBroadcastSummary i tag s) = roles s := by
  unfold execBroadcastSummary
  split <;> simp

@[simp] theorem roles_execStreamSegmentSend (k : Fin 16) (s : State) :
    outcomeRoles (roles s) (execStreamSegmentSend k s) = roles s := by simp [execStreamSegmentSend]

@[simp] theorem roles_resendSegs (dest : Byte) (k : Nat) (q : Half) (b : List Byte) (l : List Nat) (s : State) :
    roles (resendSegs dest k q b l s) = roles s := by
  induction l generalizing q b s with
  | nil => rfl
  | cons n l ih => rw [resendSegs, ih, roles_sendRouted]

@[simp] theorem roles_execStreamResendTimeout (k : Fin 16) (s : State) :
    outcomeRoles (roles s) (execStreamResendTimeout k s) = roles s := by simp [execStreamResendTimeout]

@[simp] theorem roles_execStreamAckReceive (_p : Fin 4) (_src : Byte) (k : Fin 16) (seq : Half) (s : State) :
    outcomeRoles (roles s) (execStreamAckReceive _p _src k seq s) = roles s := by simp [execStreamAckReceive]

@[simp] theorem roles_takeRecords (k : Fin 16) (n : Nat) (s : State) : roles (takeRecords k n s) = roles s := by
  induction n generalizing s with
  | zero => rfl
  | succ n ih => simp [takeRecords, ih]

@[simp] theorem roles_streamAck (k : Fin 16) (src : Byte) (num : Nat) (s : State) :
    roles (streamAck k src num s) = roles s := by simp [streamAck]

@[simp] theorem roles_execStreamFrameReceive (_p : Fin 4) (src : Byte) (g : StreamSeg) (s : State) :
    outcomeRoles (roles s) (execStreamFrameReceive _p src g s) = roles s := by
  unfold execStreamFrameReceive
  repeat' split
  all_goals simp

@[simp] theorem roles_execAlarmFrameReceive (_p : Fin 4) (src : Byte) (a : AlarmMsg) (s : State) :
    outcomeRoles (roles s) (execAlarmFrameReceive _p src a s) = roles s := by simp [execAlarmFrameReceive]

@[simp] theorem roles_execAlarmAckReceive (_p : Fin 4) (_src : Byte) (aseq : Half) (s : State) :
    outcomeRoles (roles s) (execAlarmAckReceive _p _src aseq s) = roles s := by simp [execAlarmAckReceive]

@[simp] theorem roles_execAlarmResend (s : State) : outcomeRoles (roles s) (execAlarmResend s) = roles s := by
  unfold execAlarmResend
  split <;> simp

@[simp] theorem roles_linkRc (o : Nat) (s : State) : roles (linkRc o s) = roles s := by simp [linkRc]
@[simp] theorem roles_linkTouch (o : Nat) (s : State) : roles (linkTouch o s) = roles s := by simp [linkTouch]

/-! ### Keys, journal and images -/

@[simp] theorem roles_putKeys (c : Bool) (k : Option KeysCopy) (s : State) : roles (putKeys c k s) = roles s := by
  simp [putKeys]

@[simp] theorem roles_keysUpdate (k : KeysCopy) (s : State) : roles (keysUpdate k s) = roles s := by simp [keysUpdate]
@[simp] theorem roles_keysFail (r : NvmResult) (s : State) : roles (keysFail r s) = roles s := by simp [keysFail]

@[simp] theorem roles_execKeyAreaUpdate (r : NvmResult) (s : State) :
    outcomeRoles (roles s) (execKeyAreaUpdate r s) = roles s := by
  unfold execKeyAreaUpdate
  repeat' split
  all_goals simp

@[simp] theorem roles_execSafeLogProgram (s : State) : outcomeRoles (roles s) (execSafeLogProgram s) = roles s := by
  unfold execSafeLogProgram
  split <;> simp

@[simp] theorem roles_cfgLockWrite (v : Word) (s : State) : roles (cfgLockWrite v s) = roles s := by simp [cfgLockWrite]

@[simp] theorem roles_journalAuthFail (op : Byte) (slot : Option (Fin 6)) (o : Origin) (role attempted fails : Nat)
    (lock : Bool) (s : State) :
    roles (journalAuthFail op slot o role attempted fails lock s) = roles s := by simp [journalAuthFail]

@[simp] theorem roles_execChallengeExpiry (k : Fin 6) (s : State) :
    outcomeRoles (roles s) (execChallengeExpiry k s) = roles s := by simp [execChallengeExpiry]

@[simp] theorem roles_execLockoutEnd (k : Fin 6) (s : State) :
    outcomeRoles (roles s) (execLockoutEnd k s) = roles s := by simp [execLockoutEnd]

@[simp] theorem roles_keySetBody (p : Packet) (s : State) : roles (keySetBody p s).st = roles s := by simp [keySetBody]

@[simp] theorem roles_release (k : Fin 6) (last : Nat) (s : State) : roles (release k last s) = roles s := by
  unfold release
  extract_lets +onlyGivenNames top kept updated erased
  have herased : roles erased = roles s := by
    unfold erased
    split <;> simp [updated]
  simp [herased]

@[simp] theorem roles_journalReadBody (p : Packet) (s : State) : roles (journalReadBody p s).st = roles s := by
  unfold journalReadBody
  split <;> simp

@[simp] theorem roles_journalPolicyBody (p : Packet) (s : State) : roles (journalPolicyBody p s).st = roles s := by
  simp [journalPolicyBody]

@[simp] theorem roles_execJournalPolicyDone (r : NvmResult) (s : State) :
    outcomeRoles (roles s) (execJournalPolicyDone r s) = roles s := by
  unfold execJournalPolicyDone
  repeat' split
  all_goals simp

@[simp] theorem roles_execJournalEntryProgram (s : State) :
    outcomeRoles (roles s) (execJournalEntryProgram s) = roles s := by simp [execJournalEntryProgram]

@[simp] theorem roles_execJournalSectorErase (ok : Bool) (s : State) :
    outcomeRoles (roles s) (execJournalSectorErase ok s) = roles s := by
  unfold execJournalSectorErase
  split <;> simp

@[simp] theorem roles_execSnuffListWrite (r : NvmResult) (s : State) :
    outcomeRoles (roles s) (execSnuffListWrite r s) = roles s := by
  unfold execSnuffListWrite
  repeat' split
  all_goals simp

@[simp] theorem roles_modSlot (b : Bool) (f : ImageSlot → ImageSlot) (s : State) : roles (modSlot b f s) = roles s := by
  simp [modSlot]

@[simp] theorem roles_modRegionOf (b : Bool) (kind : Nat) (x : Option Image) (s : State) :
    roles (modRegionOf b kind x s) = roles s := by simp [modRegionOf]

@[simp] theorem roles_eraseRegion (b : Bool) (kind : Nat) (s : State) : roles (eraseRegion b kind s) = roles s := by
  simp [eraseRegion]

@[simp] theorem roles_imageRefuse (s : State) : roles (imageRefuse s).st = roles s := by simp [imageRefuse]

@[simp] theorem roles_imageBeginBody (p : Packet) (s : State) : roles (imageBeginBody p s).st = roles s := by
  simp [imageBeginBody]

@[simp] theorem roles_imageDataBody (p : Packet) (s : State) : roles (imageDataBody p s).st = roles s := by
  unfold imageDataBody
  split <;> simp

@[simp] theorem roles_imageEndBody (p : Packet) (s : State) : roles (imageEndBody p s).st = roles s := by
  simp [imageEndBody]

@[simp] theorem roles_execImageEndDone (r : NvmResult) (s : State) :
    outcomeRoles (roles s) (execImageEndDone r s) = roles s := by
  unfold execImageEndDone
  repeat' split
  all_goals simp

@[simp] theorem roles_imageActivateBody (p : Packet) (s : State) : roles (imageActivateBody p s).st = roles s := by
  simp [imageActivateBody]

@[simp] theorem roles_execImageActivateDone (r : NvmResult) (s : State) :
    outcomeRoles (roles s) (execImageActivateDone r s) = roles s := by
  unfold execImageActivateDone
  repeat' split
  all_goals simp

@[simp] theorem roles_loadDecode (x : Option Image) (s : State) : roles (loadDecode x s) = roles s := by
  unfold loadDecode
  split <;> simp

@[simp] theorem roles_loadSlot (b : Bool) (s : State) : roles (loadSlot b s) = roles s := by simp [loadSlot]

@[simp] theorem roles_decodeLoadBody (p : Packet) (s : State) : roles (decodeLoadBody p s).st = roles s := by
  simp [decodeLoadBody]

@[simp] theorem roles_execDecodeLoadDone (r : NvmResult) (s : State) :
    outcomeRoles (roles s) (execDecodeLoadDone r s) = roles s := by
  unfold execDecodeLoadDone
  repeat' split
  all_goals simp

@[simp] theorem roles_secRc (o : Nat) (s : State) : roles (secRc o s) = roles s := by simp [secRc]
@[simp] theorem roles_nvmRc (o : Nat) (s : State) : roles (nvmRc o s) = roles s := by simp [nvmRc]

/-! ### Device space -/

@[simp] theorem roles_hifRc (o : Nat) (s : State) : roles (hifRc o s) = roles s := by simp [hifRc]
@[simp] theorem roles_irqW1c (w : Nat) (s : State) : roles (irqW1c w s) = roles s := by simp [irqW1c]

theorem roles_hifW1c {o : Nat} {v : Word} {s t : State} (e : hifW1c o v s = some t) : roles t = roles s := by
  simp only [hifW1c] at e
  split at e
  · cases e; rfl
  · split at e
    · cases e; rfl
    · split at e <;> cases e
      simp

@[simp] theorem roles_engRc (o : Nat) (s : State) : roles (engRc o s) = roles s := by simp [engRc]

@[simp] theorem roles_blockRc (b o : Nat) (s : State) : roles (blockRc b o s) = roles s := by
  unfold blockRc
  repeat' split
  all_goals simp

@[simp] theorem roles_devRead (a w : Nat) (s : State) : roles (devRead a w s).2 = roles s := by
  unfold devRead
  split <;> simp

@[simp] theorem roles_devReads (w n a : Nat) (s : State) : roles (devReads w n a s).2 = roles s := by
  induction n generalizing a s with
  | zero => rfl
  | succ n ih => exact (ih ..).trans (roles_devRead ..)

@[simp] theorem roles_fltW1c (w : Writer) (b : Nat) (v : Word) (s : State) : roles (fltW1c w b v s) = roles s := by
  simp [fltW1c]

@[simp] theorem roles_takeWord (a : Nat) (f : RegFile) (s : State) : roles (takeWord a f s) = roles s := by
  simp only [takeWord]
  repeat' split
  all_goals simp

@[simp] theorem roles_regWrite (w : Writer) (op : Byte) (a : Nat) (v : Word) (s : State) :
    roles (regWrite w op a v s).2 = roles s := by
  unfold regWrite
  extract_lets b o
  split
  · simp
  split
  · simp
  split
  · simp
  split
  · simp
  split
  · next e =>
    split at e
    · exact roles_hifW1c e
    · cases e
  split
  · rfl
  split
  · rfl
  split <;> simp

@[simp] theorem roles_memWriteDev (a : Nat) (bs : List Byte) (s : State) : roles (memWriteDev a bs s) = roles s := by
  unfold memWriteDev
  split <;> simp

@[simp] theorem roles_devWrite (w : Writer) (op : Byte) (a : Nat) (bs : List Byte) (s : State) :
    roles (devWrite w op a bs s).2 = roles s := by simp [devWrite]

@[simp] theorem roles_devWrites (w : Writer) (op : Byte) (n k a : Nat) (bs : List Byte) (s : State) :
    roles (devWrites w op n k a bs s).2.2 = roles s := by
  induction k generalizing a bs s with
  | zero => rfl
  | succ k ih =>
    simp only [devWrites]
    split
    · next e => exact (ih ..).trans ((roles_of_snd e).trans (roles_devWrite ..))
    · rfl

@[simp] theorem roles_readRegBody (p : Packet) (s : State) : roles (readRegBody p s).st = roles s := by
  simp [readRegBody]

@[simp] theorem roles_writeRegBody (p : Packet) (s : State) : roles (writeRegBody p s).st = roles s := by
  refine roles_checked _ _ ?_
  extract_lets w
  have h := roles_devWrites w 0x0B (u8 p.params 4) (u16 p.params 6) (u32 p.params 0) (p.params.drop 8) s
  split <;> next e => rwa [e] at h

@[simp] theorem roles_writeRow (w : Writer) (a : Nat) (v : Word) (s : State) : roles (writeRow w a v s) = roles s := by
  unfold writeRow
  repeat' split
  all_goals simp

@[simp] theorem roles_execFaultStatAck (w : Writer) (b : Fin 14) (mask : Word) (s : State) :
    outcomeRoles (roles s) (execFaultStatAck w b mask s) = roles s := by simp [execFaultStatAck]

@[simp] theorem roles_execHkpReinstate (w : Writer) (v : Word) (s : State) :
    outcomeRoles (roles s) (execHkpReinstate w v s) = roles s := by simp [execHkpReinstate]

@[simp] theorem roles_execSecCfgLockWrite (w : Writer) (v : Word) (s : State) :
    outcomeRoles (roles s) (execSecCfgLockWrite w v s) = roles s := by
  unfold execSecCfgLockWrite
  split <;> simp

@[simp] theorem roles_execTriggerCfgWrite (w : Writer) (u : Fin 16) (v : Word) (s : State) :
    outcomeRoles (roles s) (execTriggerCfgWrite w u v s) = roles s := by simp [execTriggerCfgWrite]

@[simp] theorem roles_execRegisterWrite (w : Writer) (a v : Word) (s : State) :
    outcomeRoles (roles s) (execRegisterWrite w a v s) = roles s := by simp [execRegisterWrite]

@[simp] theorem roles_putCfg (b : Bool) (c : Option CfgCopy) (s : State) : roles (putCfg b c s) = roles s := by
  simp [putCfg]

@[simp] theorem roles_saveConfigBody (p : Packet) (s : State) : roles (saveConfigBody p s).st = roles s := by
  simp [saveConfigBody]

@[simp] theorem roles_execSaveConfigDone (r : NvmResult) (s : State) :
    outcomeRoles (roles s) (execSaveConfigDone r s) = roles s := by
  unfold execSaveConfigDone
  repeat' split
  all_goals simp

@[simp] theorem roles_loadConfigBody (p : Packet) (s : State) : roles (loadConfigBody p s).st = roles s := by
  simp [loadConfigBody]

@[simp] theorem roles_loadItems (items : RegFile) (s : State) : roles (loadItems items s) = roles s := by
  simp [loadItems]

@[simp] theorem roles_execLoadConfigDone (s : State) : outcomeRoles (roles s) (execLoadConfigDone s) = roles s := by
  unfold execLoadConfigDone
  repeat' split
  all_goals simp

/-! ### Mode changes -/

@[simp] theorem roles_modeFrames (dest : Byte) (payload : List Byte) (s : State) :
    roles (modeFrames dest payload s) = roles s := by simp [modeFrames]

@[simp] theorem roles_modeToAll (devs payload : List Byte) (s : State) :
    roles (modeToAll devs payload s) = roles s := by simp [modeToAll]

@[simp] theorem roles_modeView (c : ModeChange) (f : RegFile) (s : State) : roles (modeView c f s) = roles s := by
  simp [modeView]

@[simp] theorem roles_journalMode (result : Byte) (id : Half) (e : Word) (s : State) :
    roles (journalMode result id e s) = roles s := by simp [journalMode]

@[simp] theorem roles_takeChange (c : ModeChange) (s : State) : roles (takeChange c s).2 = roles s := by
  simp [takeChange]

@[simp] theorem roles_dropChange (s : State) : roles (dropChange s) = roles s := by simp [dropChange]
@[simp] theorem roles_abortChange (id : Half) (s : State) : roles (abortChange id s) = roles s := by simp [abortChange]

@[simp] theorem roles_modePrepareBody (p : Packet) (s : State) : roles (modePrepareBody p s).st = roles s := by
  simp [modePrepareBody]

@[simp] theorem roles_modFlight (f : Flight → Flight) (s : State) : roles (modFlight f s) = roles s := by
  simp [modFlight]

@[simp] theorem roles_execModePrepareDone (s : State) : outcomeRoles (roles s) (execModePrepareDone s) = roles s := by
  unfold execModePrepareDone
  split <;> simp

@[simp] theorem roles_orderAll (commit : Bool) (f : Flight) (s : State) : roles (orderAll commit f s) = roles s := by
  simp [orderAll]

@[simp] theorem roles_modeCommitBody (p : Packet) (s : State) : roles (modeCommitBody p s).st = roles s := by
  simp only [modeCommitBody]
  split <;> simp

@[simp] theorem roles_execModeCommitDone (s : State) : outcomeRoles (roles s) (execModeCommitDone s) = roles s := by
  unfold execModeCommitDone
  split <;> simp

@[simp] theorem roles_execModeCommitResend (s : State) : outcomeRoles (roles s) (execModeCommitResend s) = roles s := by
  unfold execModeCommitResend
  split <;> simp

@[simp] theorem roles_execModePrepareReceive (_p : Fin 4) (src : Byte) (c : ModeChange) (s : State) :
    outcomeRoles (roles s) (execModePrepareReceive _p src c s) = roles s := by simp [execModePrepareReceive]

@[simp] theorem roles_execModeAckReceive (src : Byte) (a : ModeAck) (s : State) :
    outcomeRoles (roles s) (execModeAckReceive src a s) = roles s := by
  unfold execModeAckReceive
  split <;> simp

@[simp] theorem roles_execModeCommitReceive (how : CommitKind) (s : State) :
    outcomeRoles (roles s) (execModeCommitReceive how s) = roles s := by
  unfold execModeCommitReceive
  split <;> simp

@[simp] theorem roles_execModeAbortReceive (src : Byte) (id : Half) (s : State) :
    outcomeRoles (roles s) (execModeAbortReceive src id s) = roles s := by simp [execModeAbortReceive]

@[simp] theorem roles_execModeAppliedReceive (src : Byte) (id : Half) (epoch : Word) (s : State) :
    outcomeRoles (roles s) (execModeAppliedReceive src id epoch s) = roles s := by simp [execModeAppliedReceive]

@[simp] theorem roles_execPreparedChangeDiscard (s : State) :
    outcomeRoles (roles s) (execPreparedChangeDiscard s) = roles s := by simp [execPreparedChangeDiscard]

@[simp] theorem roles_modeApply (x : Prepared) (m : Word) (s : State) : roles (modeApply x m s) = roles s := by
  simp [modeApply]

@[simp] theorem roles_modeLags (x : Prepared) (s : State) : roles (modeLags x s) = roles s := by simp [modeLags]

@[simp] theorem roles_modeStep (m : Word) (s : State) : roles (modeStep m s) = roles s := by
  unfold modeStep
  split <;> simp

/-! ### The epoch boundary -/

@[simp] theorem roles_closeEpoch (s : State) : roles (closeEpoch s) = roles s := by
  unfold closeEpoch
  split <;> simp

@[simp] theorem roles_closingBoundary (tb : Nat) (s : State) : roles (closingBoundary tb s) = roles s := by
  simp [closingBoundary]

@[simp] theorem roles_linesApply (s : State) : roles (linesApply s) = roles s := by simp [linesApply]
@[simp] theorem roles_applyAll (s : State) : roles (applyAll s) = roles s := by simp [applyAll]
@[simp] theorem roles_configStep (m : Word) (s : State) : roles (configStep m s) = roles s := by simp [configStep]

@[simp] theorem roles_configFollow (old : RegFile) (s : State) : roles (configFollow old s) = roles s := by
  simp [configFollow]

@[simp] theorem roles_gridOff (s : State) : roles (gridOff s) = roles s := by simp [gridOff]

@[simp] theorem roles_gridBegin (m : Word) (s : State) : roles (gridBegin m s) = roles s := by
  unfold gridBegin
  split <;> simp

@[simp] theorem roles_gridAgain (s : State) : roles (gridAgain s) = roles s := by simp [gridAgain]
@[simp] theorem roles_gridEpoch (s : State) : roles (gridEpoch s) = roles s := by simp [gridEpoch]

@[simp] theorem roles_safeResume (tb : Nat) (s : State) : roles (safeResume tb s) = roles s := by
  unfold safeResume
  split <;> simp

@[simp] theorem roles_healthRecords (m : Word) (tb : Nat) (s : State) : roles (healthRecords m tb s) = roles s := by
  simp [healthRecords]

@[simp] theorem roles_syncPulse (tb : Nat) (s : State) : roles (syncPulse tb s) = roles s := by simp [syncPulse]

@[simp] theorem roles_endAcquisition (m : Word) (tb : Nat) (s : State) : roles (endAcquisition m tb s) = roles s := by
  simp [endAcquisition]

@[simp] theorem roles_acquire (m : Word) (tb : Nat) (c : Schedule) (old : RegFile) (s : State) :
    roles (acquire m tb c old s) = roles s := by simp [acquire]

@[simp] theorem roles_gapDark (m : Word) (tb cause : Nat) (old : Schedule) (s : State) :
    roles (gapDark m tb cause old s) = roles s := by
  unfold gapDark
  split <;> simp

@[simp] theorem roles_atBoundary (m : Word) (tb cause : Nat) (prev : Schedule) (s : State) :
    roles (atBoundary m tb cause prev s) = roles s := by simp [atBoundary]

@[simp] theorem roles_adoptSchedule (c d : Schedule) (b : Word × Nat) (s : State) :
    roles (adoptSchedule c d b s) = roles s := by simp [adoptSchedule]

@[simp] theorem roles_ownBoundary (c : Schedule) (m : Word) (tb : Nat) (s : State) :
    roles (ownBoundary c m tb s) = roles s := by
  unfold ownBoundary
  split <;> simp

@[simp] theorem roles_execEpochBoundary (s : State) : outcomeRoles (roles s) (execEpochBoundary s) = roles s := by
  unfold execEpochBoundary
  repeat' split
  all_goals simp

/-! ### The ember scan -/

@[simp] theorem roles_emberStart (s : State) : roles (emberStart s) = roles s := by simp [emberStart]

@[simp] theorem roles_emberGang (v : Option Int) (g : Fin 8) (s : State) : roles (emberGang v g s) = roles s := by
  unfold emberGang
  split <;> simp

@[simp] theorem roles_execEmberScan (v : List (Option Int)) (s : State) :
    outcomeRoles (roles s) (execEmberScan v s) = roles s := by simp [execEmberScan]

/-! ### Power states and start-up -/

@[simp] theorem roles_nopBody (p : Packet) (s : State) : roles (nopBody p s).st = roles s := by simp [nopBody]

@[simp] theorem roles_identifyBody (p : Packet) (s : State) : roles (identifyBody p s).st = roles s := by
  simp [identifyBody]

@[simp] theorem roles_getStatusBody (p : Packet) (s : State) : roles (getStatusBody p s).st = roles s := by
  simp [getStatusBody]

@[simp] theorem roles_setPowerStateBody (p : Packet) (s : State) : roles (setPowerStateBody p s).st = roles s := by
  simp [setPowerStateBody]

@[simp] theorem roles_frontOff (s : State) : roles (frontOff s) = roles s := by simp [frontOff]
@[simp] theorem roles_leaveActive (s : State) : roles (leaveActive s) = roles s := by simp [leaveActive]
@[simp] theorem roles_portsFollow (s : State) : roles (portsFollow s) = roles s := by simp [portsFollow]
@[simp] theorem roles_toDormant (s : State) : roles (toDormant s) = roles s := by simp [toDormant]

@[simp] theorem roles_toStandby (s : State) : roles (toStandby s) = roles s := by
  unfold toStandby
  split <;> simp

@[simp] theorem roles_toActive (s : State) : roles (toActive s) = roles s := by simp [toActive]

@[simp] theorem roles_takeTransition (b : PowerState) (s : State) : roles (takeTransition b s) = roles s := by
  unfold takeTransition
  split <;> simp

@[simp] theorem roles_execPowerTransitionComplete (us : Nat) (s : State) :
    outcomeRoles (roles s) (execPowerTransitionComplete us s) = roles s := by
  unfold execPowerTransitionComplete
  split <;> simp

@[simp] theorem roles_exitRequest (s : State) : roles (exitRequest s) = roles s := by simp [exitRequest]
@[simp] theorem roles_wdRestart (s : State) : roles (wdRestart s) = roles s := by simp [wdRestart]

@[simp] theorem roles_execExitComplete (s : State) : outcomeRoles (roles s) (execExitComplete s) = roles s := by
  simp [execExitComplete]

@[simp] theorem roles_resetBody (p : Packet) (s : State) : roles (resetBody p s).st = roles s := roles_checked _ _ rfl

@[simp] theorem roles_execTmodeChange (high : Bool) (s : State) :
    outcomeRoles (roles s) (execTmodeChange high s) = roles s := by simp [execTmodeChange]

@[simp] theorem roles_execThermalShutdown (s : State) : outcomeRoles (roles s) (execThermalShutdown s) = roles s := by
  simp [execThermalShutdown]

@[simp] theorem roles_restoreHold (s : State) : roles (restoreHold s) = roles s := by simp [restoreHold]
@[simp] theorem roles_loadGridTrims (s : State) : roles (loadGridTrims s) = roles s := by simp [loadGridTrims]

@[simp] theorem roles_loadReference (s : State) : roles (loadReference s) = roles s := by
  unfold loadReference
  split <;> simp

@[simp] theorem roles_loadVerified (b : Bool) (s : State) : roles (loadVerified b s) = roles s := by simp [loadVerified]

@[simp] theorem roles_journalImage (result : Byte) (slot : Bool) (s : State) :
    roles (journalImage result slot s) = roles s := by simp [journalImage]

@[simp] theorem roles_startFirmware (b : Bool) (s : State) : roles (startFirmware b s) = roles s := by
  simp [startFirmware]

@[simp] theorem roles_execImageSelfCheck (selfTest : Bool) (s : State) :
    outcomeRoles (roles s) (execImageSelfCheck selfTest s) = roles s := by simp [execImageSelfCheck]

@[simp] theorem roles_journalReset (s : State) : roles (journalReset s) = roles s := by simp [journalReset]

@[simp] theorem roles_execStartupConfigLoad (s : State) :
    outcomeRoles (roles s) (execStartupConfigLoad s) = roles s := by
  unfold execStartupConfigLoad
  repeat' split
  all_goals simp

@[simp] theorem roles_execFirmwareRestart (s : State) : outcomeRoles (roles s) (execFirmwareRestart s) = roles s := by
  simp [execFirmwareRestart]

@[simp] theorem roles_execStateParity (b : Fin 14) (src : Fin 2) (s : State) :
    outcomeRoles (roles s) (execStateParity b src s) = roles s := by simp [execStateParity]

@[simp] theorem roles_execPllUnlock (core : Bool) (s : State) :
    outcomeRoles (roles s) (execPllUnlock core s) = roles s := by simp [execPllUnlock]

@[simp] theorem roles_restartBlock (b : Nat) (s : State) : roles (restartBlock b s) = roles s := by
  unfold restartBlock
  split <;> simp

@[simp] theorem roles_execBlockResetRestart (b : Fin 14) (s : State) :
    outcomeRoles (roles s) (execBlockResetRestart b s) = roles s := by simp [execBlockResetRestart]

@[simp] theorem roles_execLpoTick (s : State) : outcomeRoles (roles s) (execLpoTick s) = roles s := by
  simp only [execLpoTick]
  repeat' split
  all_goals simp

@[simp] theorem roles_execWdogWarn (s : State) : outcomeRoles (roles s) (execWdogWarn s) = roles s := by
  simp [execWdogWarn]

@[simp] theorem roles_packetReply (o : Origin) (tag status : Byte) (s : State) :
    roles (packetReply o tag status s) = roles s := by simp [packetReply]

@[simp] theorem roles_unknownCommand (o : Origin) (op tag dest flags : Byte) (params : List Byte) (s : State) :
    roles (unknownCommand o op tag dest flags params s) = roles s := by
  unfold unknownCommand
  repeat' split
  all_goals simp

@[simp] theorem roles_execUnknownOpcode (o : Origin) (bytes : List Byte) (s : State) :
    outcomeRoles (roles s) (execUnknownOpcode o bytes s) = roles s := by simp [execUnknownOpcode]

/-! ### The engine -/

@[simp] theorem roles_spend (n : Nat) (s : State) : roles (spend n s) = roles s := by simp [spend]
@[simp] theorem roles_accFault (src : Nat) (s : State) : roles (accFault src s).st = roles s := by simp [accFault]

@[simp] theorem roles_modAp (n : Nat) (f : Aperture → Aperture) (s : State) : roles (modAp n f s) = roles s := by
  simp [modAp]

@[simp] theorem roles_latchRead (n d : Nat) (s : State) : roles (latchRead n d s).st = roles s := by
  simp only [latchRead]
  split <;> simp

@[simp] theorem roles_bufferWrite (n d : Nat) (v : Byte) (s : State) : roles (bufferWrite n d v s).st = roles s := by
  simp [bufferWrite]

@[simp] theorem roles_apertureRead (a : Nat) (s : State) : roles (apertureRead a s).st = roles s := by
  rw [apertureRead]
  split
  · rfl
  split
  · simp
  split
  · simp
  split
  next e => exact (roles_of_snd e).trans (roles_devRead ..)

@[simp] theorem roles_apertureWrite (a : Nat) (v : Byte) (s : State) : roles (apertureWrite a v s).st = roles s := by
  simp only [apertureWrite]
  repeat' split
  all_goals simp

@[simp] theorem roles_localRead (a : Nat) (s : State) : roles (localRead a s).st = roles s := by
  unfold localRead
  repeat' split
  all_goals simp

@[simp] theorem roles_kick (v : Byte) (s : State) : roles (kick v s) = roles s := by simp [kick]

@[simp] theorem roles_localWrite (a : Nat) (v : Byte) (s : State) : roles (localWrite a v s).st = roles s := by
  unfold localWrite
  repeat' split
  all_goals simp

@[simp] theorem roles_dataRead (a : Nat) (s : State) : roles (dataRead a s).st = roles s := by simp [dataRead]

@[simp] theorem roles_dataWrite (a : Nat) (v : Byte) (s : State) : roles (dataWrite a v s).st = roles s := by
  simp [dataWrite]

@[simp] theorem roles_pushBytes (l : List Byte) (x : Acc) : roles (pushBytes l x).st = roles x.st := by
  induction l generalizing x with
  | nil => rfl
  | cons b l ih => simp [pushBytes, ih]

@[simp] theorem roles_popBytes (n : Nat) (x : Acc) : roles (popBytes n x).2.st = roles x.st := by
  induction n generalizing x with
  | zero => rfl
  | succ n ih => simp [popBytes, ih]

@[simp] theorem roles_endHook (target : Half) (s : State) : roles (endHook target s) = roles s := by
  unfold endHook
  split <;> simp

@[simp] theorem roles_overrunHook (s : State) : roles (overrunHook s) = roles s := by
  unfold overrunHook
  split <;> simp

@[simp] theorem roles_beginHook (t ret : Half) (s : State) : roles (beginHook t ret s) = roles s := by simp [beginHook]
@[simp] theorem roles_raiseEng (l : List Nat) (s : State) : roles (raiseEng l s) = roles s := by simp [raiseEng]

@[simp] theorem roles_finish (n : Nat) (rep : Bool) (r : Eff) : roles (finish n rep r) = roles r.st := by
  simp only [finish]
  repeat' split
  all_goals simp

@[simp] theorem roles_skipRow (x : Shape) (s : State) : roles (skipRow x s) = roles s := by simp [skipRow]

@[simp] theorem roles_runRow (x : Shape) (body : State → Eff) (s : State) (h : ∀ t, roles (body t).st = roles t) :
    roles (runRow x body s) = roles s := by
  simp [runRow, h]

@[simp] theorem roles_regOp (f : EngSt → EngSt) (s : State) : roles (regOp f s).st = roles s := by simp [regOp]
@[simp] theorem roles_noOp (src : Nat) (s : State) : roles (noOp src s).st = roles s := by simp [noOp]

@[simp] theorem roles_jumpTo (cost : Nat) (t : Half) (s : State) : roles (jumpTo cost t s).st = roles s := by
  simp [jumpTo]

@[simp] theorem roles_callTo (words cost : Nat) (t : Half) (s : State) :
    roles (callTo words cost t s).st = roles s := by simp [callTo]

@[simp] theorem roles_returnTo (s : State) : roles (returnTo s).st = roles s := by simp [returnTo]
@[simp] theorem roles_enterLine (k : Nat) (s : State) : roles (enterLine k s) = roles s := by simp [enterLine]
@[simp] theorem roles_interruptReturn (s : State) : roles (interruptReturn s).st = roles s := by simp [interruptReturn]

@[simp] theorem roles_startLoop (count len : Half) (s : State) : roles (startLoop count len s).st = roles s := by
  simp [startLoop]

@[simp] theorem roles_breakLoop (s : State) : roles (breakLoop s).st = roles s := by simp [breakLoop]
@[simp] theorem roles_startRep (n : Byte) (s : State) : roles (startRep n s).st = roles s := by simp [startRep]

@[simp] theorem roles_microWord (w : Word) (opnd : Byte) (m : Micro) (s : State) :
    roles (microWord w opnd m s).2.st = roles s := by
  simp only [microWord]
  repeat' split
  all_goals simp

@[simp] theorem roles_microRun (n addr : Nat) (opnd : Byte) (m : Micro) (l : List Nat) (s : State) :
    roles (microRun n addr opnd m l s).st = roles s := by
  induction n generalizing addr m l s with
  | zero => rfl
  | succ n ih => simp [microRun, ih]

@[simp] theorem roles_customer (k : Nat) (opnd : Byte) (s : State) : roles (customer k opnd s).st = roles s := by
  simp [customer]

/-! ### The engine's instructions -/

@[simp] theorem roles_engineNext (x : Shape) (body : State → Eff) (s : State) (h : ∀ t, roles (body t).st = roles t) :
    outcomeRoles (roles s) (engineNext x body s) = roles s := by
  simp [engineNext, h]

@[simp] theorem roles_execAdd (d r : Fin 16) (s : State) : outcomeRoles (roles s) (execAdd d r s) = roles s := by
  simp [execAdd]

@[simp] theorem roles_execAdc (d r : Fin 16) (s : State) : outcomeRoles (roles s) (execAdc d r s) = roles s := by
  simp [execAdc]

@[simp] theorem roles_execSub (d r : Fin 16) (s : State) : outcomeRoles (roles s) (execSub d r s) = roles s := by
  simp [execSub]

@[simp] theorem roles_execSbc (d r : Fin 16) (s : State) : outcomeRoles (roles s) (execSbc d r s) = roles s := by
  simp [execSbc]

@[simp] theorem roles_execAnd (d r : Fin 16) (s : State) : outcomeRoles (roles s) (execAnd d r s) = roles s := by
  simp [execAnd]

@[simp] theorem roles_execOr (d r : Fin 16) (s : State) : outcomeRoles (roles s) (execOr d r s) = roles s := by
  simp [execOr]

@[simp] theorem roles_execXor (d r : Fin 16) (s : State) : outcomeRoles (roles s) (execXor d r s) = roles s := by
  simp [execXor]

@[simp] theorem roles_execMov (d r : Fin 16) (s : State) : outcomeRoles (roles s) (execMov d r s) = roles s := by
  simp [execMov]

@[simp] theorem roles_execCmp (d r : Fin 16) (s : State) : outcomeRoles (roles s) (execCmp d r s) = roles s := by
  simp [execCmp]

@[simp] theorem roles_execTst (d r : Fin 16) (s : State) : outcomeRoles (roles s) (execTst d r s) = roles s := by
  simp [execTst]

@[simp] theorem roles_execMulu (d r : Fin 16) (s : State) : outcomeRoles (roles s) (execMulu d r s) = roles s := by
  simp [execMulu]

@[simp] theorem roles_execMuls (d r : Fin 16) (s : State) : outcomeRoles (roles s) (execMuls d r s) = roles s := by
  simp [execMuls]

@[simp] theorem roles_execDivu (pd : Fin 8) (r : Fin 16) (s : State) :
    outcomeRoles (roles s) (execDivu pd r s) = roles s := by simp [execDivu]

@[simp] theorem roles_execDivs (pd : Fin 8) (r : Fin 16) (s : State) :
    outcomeRoles (roles s) (execDivs pd r s) = roles s := by simp [execDivs]

@[simp] theorem roles_execShl (d count : Fin 16) (s : State) :
    outcomeRoles (roles s) (execShl d count s) = roles s := by simp [execShl]

@[simp] theorem roles_execShr (d count : Fin 16) (s : State) :
    outcomeRoles (roles s) (execShr d count s) = roles s := by simp [execShr]

@[simp] theorem roles_execSar (d count : Fin 16) (s : State) :
    outcomeRoles (roles s) (execSar d count s) = roles s := by simp [execSar]

@[simp] theorem roles_execRol (d count : Fin 16) (s : State) :
    outcomeRoles (roles s) (execRol d count s) = roles s := by simp [execRol]

@[simp] theorem roles_execRor (d count : Fin 16) (s : State) :
    outcomeRoles (roles s) (execRor d count s) = roles s := by simp [execRor]

@[simp] theorem roles_execShlr (d r : Fin 16) (s : State) : outcomeRoles (roles s) (execShlr d r s) = roles s := by
  simp [execShlr]

@[simp] theorem roles_execShrr (d r : Fin 16) (s : State) : outcomeRoles (roles s) (execShrr d r s) = roles s := by
  simp [execShrr]

@[simp] theorem roles_execSarr (d r : Fin 16) (s : State) : outcomeRoles (roles s) (execSarr d r s) = roles s := by
  simp [execSarr]

@[simp] theorem roles_execNeg (d : Fin 16) (s : State) : outcomeRoles (roles s) (execNeg d s) = roles s := by
  simp [execNeg]

@[simp] theorem roles_execNot (d : Fin 16) (s : State) : outcomeRoles (roles s) (execNot d s) = roles s := by
  simp [execNot]

@[simp] theorem roles_execInc (d : Fin 16) (s : State) : outcomeRoles (roles s) (execInc d s) = roles s := by
  simp [execInc]

@[simp] theorem roles_execDec (d : Fin 16) (s : State) : outcomeRoles (roles s) (execDec d s) = roles s := by
  simp [execDec]

@[simp] theorem roles_execSwapn (d : Fin 16) (s : State) : outcomeRoles (roles s) (execSwapn d s) = roles s := by
  simp [execSwapn]

@[simp] theorem roles_execClr (d : Fin 16) (s : State) : outcomeRoles (roles s) (execClr d s) = roles s := by
  simp [execClr]

@[simp] theorem roles_execMovi (d : Fin 16) (imm : Byte) (s : State) :
    outcomeRoles (roles s) (execMovi d imm s) = roles s := by simp [execMovi]

@[simp] theorem roles_execAddi (d : Fin 16) (imm : Byte) (s : State) :
    outcomeRoles (roles s) (execAddi d imm s) = roles s := by simp [execAddi]

@[simp] theorem roles_execCmpi (d : Fin 16) (imm : Byte) (s : State) :
    outcomeRoles (roles s) (execCmpi d imm s) = roles s := by simp [execCmpi]

@[simp] theorem roles_execAndi (d : Fin 16) (imm : Byte) (s : State) :
    outcomeRoles (roles s) (execAndi d imm s) = roles s := by simp [execAndi]

@[simp] theorem roles_loadBody (d : Fin 16) (p : Fin 8) (inc : Bool) (disp : Fin 16) (s : State) :
    roles (loadBody d p inc disp s).st = roles s := by simp [loadBody]

@[simp] theorem roles_storeBody (r : Fin 16) (p : Fin 8) (inc : Bool) (disp : Fin 16) (s : State) :
    roles (storeBody r p inc disp s).st = roles s := by simp [storeBody]

@[simp] theorem roles_execLd (d : Fin 16) (p : Fin 8) (inc : Bool) (disp : Fin 16) (s : State) :
    outcomeRoles (roles s) (execLd d p inc disp s) = roles s := by simp [execLd]

@[simp] theorem roles_execSt (r : Fin 16) (p : Fin 8) (inc : Bool) (disp : Fin 16) (s : State) :
    outcomeRoles (roles s) (execSt r p inc disp s) = roles s := by simp [execSt]

@[simp] theorem roles_execBra (rel : BitVec 12) (s : State) : outcomeRoles (roles s) (execBra rel s) = roles s := by
  simp [execBra]

@[simp] theorem roles_execCall (rel : BitVec 12) (s : State) : outcomeRoles (roles s) (execCall rel s) = roles s := by
  simp [execCall]

@[simp] theorem roles_execJmpi (p : Fin 8) (s : State) : outcomeRoles (roles s) (execJmpi p s) = roles s := by
  simp [execJmpi]

@[simp] theorem roles_execCalli (p : Fin 8) (s : State) : outcomeRoles (roles s) (execCalli p s) = roles s := by
  simp [execCalli]

@[simp] theorem roles_execJmp (target : Half) (s : State) : outcomeRoles (roles s) (execJmp target s) = roles s := by
  simp [execJmp]

@[simp] theorem roles_execCallAbs (target : Half) (s : State) :
    outcomeRoles (roles s) (execCallAbs target s) = roles s := by simp [execCallAbs]

@[simp] theorem roles_execRet (s : State) : outcomeRoles (roles s) (execRet s) = roles s := by simp [execRet]
@[simp] theorem roles_execReti (s : State) : outcomeRoles (roles s) (execReti s) = roles s := by simp [execReti]

@[simp] theorem roles_execSkip (cond : Fin 16) (s : State) : outcomeRoles (roles s) (execSkip cond s) = roles s := by
  simp [execSkip]

@[simp] theorem roles_execSkbc (d : Fin 16) (b : Fin 8) (s : State) :
    outcomeRoles (roles s) (execSkbc d b s) = roles s := by simp [execSkbc]

@[simp] theorem roles_execSkbs (d : Fin 16) (b : Fin 8) (s : State) :
    outcomeRoles (roles s) (execSkbs d b s) = roles s := by simp [execSkbs]

@[simp] theorem roles_execBclr (d : Fin 16) (b : Fin 8) (s : State) :
    outcomeRoles (roles s) (execBclr d b s) = roles s := by simp [execBclr]

@[simp] theorem roles_execBset (d : Fin 16) (b : Fin 8) (s : State) :
    outcomeRoles (roles s) (execBset d b s) = roles s := by simp [execBset]

@[simp] theorem roles_execSysNop (s : State) : outcomeRoles (roles s) (execSysNop s) = roles s := by simp [execSysNop]
@[simp] theorem roles_execEi (s : State) : outcomeRoles (roles s) (execEi s) = roles s := by simp [execEi]
@[simp] theorem roles_execDi (s : State) : outcomeRoles (roles s) (execDi s) = roles s := by simp [execDi]
@[simp] theorem roles_waitBody (s : State) : roles (waitBody s).st = roles s := by simp [waitBody]
@[simp] theorem roles_execWait (s : State) : outcomeRoles (roles s) (execWait s) = roles s := by simp [execWait]

@[simp] theorem roles_execMfs (d k : Fin 16) (s : State) : outcomeRoles (roles s) (execMfs d k s) = roles s := by
  simp [execMfs]

@[simp] theorem roles_mtsBody (r k : Fin 16) (s : State) : roles (mtsBody r k s).st = roles s := by
  unfold mtsBody
  split <;> simp

@[simp] theorem roles_execMts (r k : Fin 16) (s : State) : outcomeRoles (roles s) (execMts r k s) = roles s := by
  simp [execMts]

@[simp] theorem roles_pushBody (cost : Nat) (l : List Byte) (s : State) : roles (pushBody cost l s).st = roles s := by
  simp [pushBody]

@[simp] theorem roles_popBody (cost n : Nat) (put : List Byte → EngSt → EngSt) (s : State) :
    roles (popBody cost n put s).st = roles s := by simp [popBody]

@[simp] theorem roles_execPush (r : Fin 16) (s : State) : outcomeRoles (roles s) (execPush r s) = roles s := by
  simp [execPush]

@[simp] theorem roles_execPop (d : Fin 16) (s : State) : outcomeRoles (roles s) (execPop d s) = roles s := by
  simp [execPop]

@[simp] theorem roles_execPadd (p : Fin 8) (imm : Byte) (s : State) :
    outcomeRoles (roles s) (execPadd p imm s) = roles s := by simp [execPadd]

@[simp] theorem roles_execLdp (p : Fin 8) (imm : Half) (s : State) : outcomeRoles (roles s)
    (execLdp p imm s) = roles s :=
  roles_engineNext _ _ _ (fun _ => rfl)

@[simp] theorem roles_execPushp (p : Fin 8) (s : State) : outcomeRoles (roles s) (execPushp p s) = roles s := by
  simp [execPushp]

@[simp] theorem roles_execPopp (p : Fin 8) (s : State) : outcomeRoles (roles s) (execPopp p s) = roles s := by
  simp [execPopp]

@[simp] theorem roles_execMovp (p q : Fin 8) (s : State) : outcomeRoles (roles s) (execMovp p q s) = roles s := by
  simp [execMovp]

@[simp] theorem roles_execPcmp (p q : Fin 8) (s : State) : outcomeRoles (roles s) (execPcmp p q s) = roles s := by
  simp [execPcmp]

@[simp] theorem roles_execRepImm (n : Byte) (s : State) : outcomeRoles (roles s) (execRepImm n s) = roles s := by
  simp [execRepImm]

@[simp] theorem roles_execRepReg (r : Fin 16) (s : State) : outcomeRoles (roles s) (execRepReg r s) = roles s := by
  simp [execRepReg]

@[simp] theorem roles_execLoopImm (n : Byte) (len : Half) (s : State) :
    outcomeRoles (roles s) (execLoopImm n len s) = roles s := by simp [execLoopImm]

@[simp] theorem roles_execLoopReg (p : Fin 8) (len : Half) (s : State) :
    outcomeRoles (roles s) (execLoopReg p len s) = roles s := by simp [execLoopReg]

@[simp] theorem roles_execLbreak (s : State) : outcomeRoles (roles s) (execLbreak s) = roles s := by simp [execLbreak]

@[simp] theorem roles_execCustomerOpcode (entry : Fin 16) (operand : Byte) (s : State) :
    outcomeRoles (roles s) (execCustomerOpcode entry operand s) = roles s := by simp [execCustomerOpcode]

@[simp] theorem roles_execIllegalOpcode (w : Half) (s : State) :
    outcomeRoles (roles s) (execIllegalOpcode w s) = roles s := by simp [execIllegalOpcode]

@[simp] theorem roles_execMulDelivery (s : State) : outcomeRoles (roles s) (execMulDelivery s) = roles s := by
  unfold execMulDelivery
  split <;> simp

@[simp] theorem roles_execDivDelivery (s : State) : outcomeRoles (roles s) (execDivDelivery s) = roles s := by
  unfold execDivDelivery
  split <;> simp

@[simp] theorem roles_execInterruptEntry (s : State) : outcomeRoles (roles s) (execInterruptEntry s) = roles s := by
  unfold execInterruptEntry
  split <;> simp

@[simp] theorem roles_execWaitResume (s : State) : outcomeRoles (roles s) (execWaitResume s) = roles s := by
  unfold execWaitResume
  split <;> simp

@[simp] theorem roles_execExtOverrun (s : State) : outcomeRoles (roles s) (execExtOverrun s) = roles s := by
  simp [execExtOverrun]

@[simp] theorem roles_localEvent (a : Nat) (v : Byte) (s : State) : roles (localEvent a v s) = roles s := by
  simp [localEvent]

@[simp] theorem roles_execApertureBaseWrite (n : Fin 4) (v : Byte) (s : State) :
    outcomeRoles (roles s) (execApertureBaseWrite n v s) = roles s := by simp [execApertureBaseWrite]

@[simp] theorem roles_execWdkick (v : Byte) (s : State) : outcomeRoles (roles s) (execWdkick v s) = roles s := by
  simp [execWdkick]

/-! ### The host links -/

@[simp] theorem roles_setLatch (i : Iface) (l : Option (Nat × List Byte)) (s : State) :
    roles (setLatch i l s) = roles s := by simp [setLatch]

@[simp] theorem roles_statusRead (i : Iface) (off : Nat) (s : State) : roles (statusRead i off s).2 = roles s := by
  unfold statusRead
  repeat' split
  all_goals simp

@[simp] theorem roles_replyRead (i : Iface) (s : State) : roles (replyRead i s).2 = roles s := by
  simp only [replyRead]
  split <;> simp

@[simp] theorem roles_mailboxWrite (i : Iface) (b : Byte) (s : State) : roles (mailboxWrite i b s) = roles s := by
  simp [mailboxWrite]

@[simp] theorem roles_doorbell (i : Iface) (b : Byte) (s : State) : roles (doorbell i b s) = roles s := by
  simp [doorbell]

@[simp] theorem roles_portStatWrite (i : Iface) (b : Byte) (s : State) : roles (portStatWrite i b s) = roles s := by
  unfold portStatWrite
  split <;> simp

@[simp] theorem roles_wakeWrite (b : Byte) (s : State) : roles (wakeWrite b s) = roles s := by simp [wakeWrite]

@[simp] theorem roles_windowRead (i : Iface) (off : Nat) (s : State) : roles (windowRead i off s).2 = roles s := by
  simp [windowRead]

@[simp] theorem roles_returned (i : Iface) (r : List Byte × State) : roles (returned i r) = roles r.2 := by
  simp [returned]

@[simp] theorem roles_returned1 (i : Iface) (r : Byte × State) : roles (returned1 i r) = roles r.2 := by
  simp [returned1]

@[simp] theorem roles_access (i : Iface) (f : State → State) (s : State) (h : ∀ t, roles (f t) = roles t) :
    roles (access i f s) = roles s := by
  simp [access, h]

@[simp] theorem roles_execReplyMailboxRead (i : Iface) (s : State) :
    outcomeRoles (roles s) (execReplyMailboxRead i s) = roles s := by simp [execReplyMailboxRead]

@[simp] theorem roles_execStreamPortRead (i : Iface) (s : State) :
    outcomeRoles (roles s) (execStreamPortRead i s) = roles s := by simp [execStreamPortRead]

@[simp] theorem roles_execAlarmPortRead (i : Iface) (s : State) :
    outcomeRoles (roles s) (execAlarmPortRead i s) = roles s := by simp [execAlarmPortRead]

@[simp] theorem roles_execStatusFieldLatch (i : Iface) (off : Half) (s : State) :
    outcomeRoles (roles s) (execStatusFieldLatch i off s) = roles s := by
  refine roles_access i _ s (fun t => ?_)
  split <;> simp

@[simp] theorem roles_execReplyStall (i : Iface) (s : State) :
    outcomeRoles (roles s) (execReplyStall i s) = roles s := by simp [execReplyStall]

@[simp] theorem roles_onePointer (one : Bool) (s : State) : roles (onePointer one s) = roles s := by simp [onePointer]
@[simp] theorem roles_twiIdle (busy : Bool) (s : State) : roles (twiIdle busy s) = roles s := by simp [twiIdle]

@[simp] theorem roles_execI2cAddressPhase (addr : BitVec 7) (read onePtr : Bool) (s : State) :
    outcomeRoles (roles s) (execI2cAddressPhase addr read onePtr s) = roles s := by simp [execI2cAddressPhase]

@[simp] theorem roles_execPointerLoad (lo hi : Byte) (s : State) :
    outcomeRoles (roles s) (execPointerLoad lo hi s) = roles s := by simp [execPointerLoad]

@[simp] theorem roles_execI2cReadByte (ready : Bool) (s : State) :
    outcomeRoles (roles s) (execI2cReadByte ready s) = roles s := by simp [execI2cReadByte]

@[simp] theorem roles_execCondDiscard (stop : Bool) (s : State) :
    outcomeRoles (roles s) (execCondDiscard stop s) = roles s := by simp [execCondDiscard]

@[simp] theorem roles_execStopCondition (onePtr : Bool) (s : State) :
    outcomeRoles (roles s) (execStopCondition onePtr s) = roles s := by simp [execStopCondition]

@[simp] theorem roles_twiTimeout (bit : BitVec 4) (s : State) : roles (twiTimeout bit s) = roles s := by
  simp [twiTimeout]

@[simp] theorem roles_execSclTimeout (s : State) : outcomeRoles (roles s) (execSclTimeout s) = roles s := by
  simp [execSclTimeout]

@[simp] theorem roles_execSdaTimeout (s : State) : outcomeRoles (roles s) (execSdaTimeout s) = roles s := by
  simp [execSdaTimeout]

@[simp] theorem roles_quadSelect (s : State) : roles (quadSelect s) = roles s := by simp [quadSelect]

@[simp] theorem roles_quadReads (n : Nat) (p : Half) (s : State) : roles (quadReads n p s).2 = roles s := by
  induction n generalizing p s with
  | zero => rfl
  | succ n ih => exact (ih ..).trans (roles_windowRead ..)

@[simp] theorem roles_execQspiRead (ptr : Half) (n : Nat) (s : State) :
    outcomeRoles (roles s) (execQspiRead ptr n s) = roles s := by simp [execQspiRead]

@[simp] theorem roles_execReadState (n : Nat) (s : State) : outcomeRoles (roles s) (execReadState n s) = roles s := by
  simp [execReadState]

@[simp] theorem roles_execBulkRead (n : Nat) (s : State) : outcomeRoles (roles s) (execBulkRead n s) = roles s := by
  simp [execBulkRead]

@[simp] theorem roles_execCsAbort (s : State) : outcomeRoles (roles s) (execCsAbort s) = roles s := by
  simp [execCsAbort]

@[simp] theorem roles_execBadInstr (code : Byte) (s : State) :
    outcomeRoles (roles s) (execBadInstr code s) = roles s := by simp [execBadInstr]

@[simp] theorem roles_execCsnExitRequest (s : State) : outcomeRoles (roles s) (execCsnExitRequest s) = roles s := by
  simp [execCsnExitRequest]

end Sys2Proof.Machine
end

section
/-! The operations that end sessions take roles away and give none; SESSION_AUTH gives one to its origin's slot (R67,
R68). -/
namespace Sys2Proof.Machine

open Sys2Proof

/-! ### SESSION_AUTH -/

section
variable {p : Packet} {s : State} {k : Fin 6} {c : BitVec 128} {r : BitVec 2}

@[simp] theorem roles_challengeUsed (k : Fin 6) (s : State) : roles (challengeUsed k s) = roles s := by
  simp [challengeUsed]

@[simp] theorem roles_authCounted (e : Session) : roles (authCounted p k r e s) = roles s := by simp [authCounted]

theorem roles_modSession_ne {k j : Fin 6} (h : k ≠ j) (f : Session → Session) (s : State) :
    (roles (modSession k f s))[j] = (roles s)[j] := by
  have hkj : k.val ≠ j.val := fun e => h (Fin.ext e)
  simp only [modSession, vmod, roles, Fin.getElem_fin, Vector.getElem_map, Vector.getElem_set, if_neg hkj]

/-- SESSION_AUTH gives a role to no slot but that of the packet's origin. -/
theorem roles_sessionAuthBody (p : Packet) (s : State) {j : Fin 6} (hj : slotOf s p.origin ≠ some j) :
    (roles (sessionAuthBody p s).st)[j] = (roles s)[j] := by
  by_cases hlen : p.params.length = 16
  swap
  · rw [sessionAuthBody_badLength hlen]
    rfl
  rcases hk : slotOf s p.origin with _ | k
  · rw [sessionAuthBody_noSlot hlen hk]
    rfl
  rcases hc : s.sec.sessions[k].challenge with _ | ⟨c, r⟩
  · rw [sessionAuthBody_noChallenge hlen hk hc]
    rfl
  by_cases hr : AuthRight p k c r (challengeUsed k s)
  · have hkj : k ≠ j := fun e => hj (by rw [hk, e])
    rw [sessionAuthBody_right hlen hk hc hr]
    simp only [okCmd, authGrant]
    rw [roles_modSession_ne hkj, roles_challengeUsed]
  · rw [sessionAuthBody_wrong hlen hk hc hr]
    simp

end

/-! ### Ends of sessions -/

/-- Every slot has in `r'` the role it has in `r`, or none. -/
def Lowers (r r' : Vector (BitVec 2) 6) : Prop := ∀ k : Fin 6, r'[k] = r[k] ∨ r'[k] = 0

section
variable {r r' r'' : Vector (BitVec 2) 6}
@[simp] theorem Lowers.refl (r) : Lowers r r := fun _ => .inl rfl

theorem Lowers.trans (h : Lowers r r') (h' : Lowers r' r'') : Lowers r r'' := by
  intro k
  rcases h' k with e | e
  · rw [e]
    exact h k
  · exact .inr e

theorem lowers_set (k : Fin 6) : Lowers r (r.set k 0) := by
  intro j
  rw [Fin.getElem_fin, Fin.getElem_fin, Vector.getElem_set]
  split
  · exact .inr rfl
  · exact .inl rfl

theorem lowers_ite_state {s t u : State} {c : Prop} [Decidable c] (h : Lowers (roles s) (roles t))
    (h' : Lowers (roles s) (roles u)) :
    Lowers (roles s) (roles (if c then t else u)) := by
  split <;> assumption
end

theorem roles_endSession (k : Fin 6) (s : State) : roles (endSession k s) = (roles s).set k 0 := by
  simp only [endSession, modSession, vmod, roles_mk]
  apply Vector.ext
  intro i hi
  simp only [roles, Vector.getElem_map, Vector.getElem_set]
  split <;> rfl

theorem lowers_endSession (k : Fin 6) (s : State) : Lowers (roles s) (roles (endSession k s)) := by
  rw [roles_endSession]
  exact lowers_set k

theorem lowers_foldl {α : Type} {f : State → α → State} (hf : ∀ t a, Lowers (roles t) (roles (f t a))) (l : List α)
    (s : State) : Lowers (roles s) (roles (l.foldl f s)) := 
  List.foldlRecOn (motive := fun t => Lowers (roles s) (roles t)) l f (.refl _) (fun _ h a _ => h.trans (hf _ a))

theorem lowers_endAll {f : Session → Session} (hf : ∀ e, (f e).role = e.role) (s : State) :
    Lowers (roles s) (roles (allSlots.foldl (fun t k => modSession k f (endSession k t)) s)) :=
  lowers_foldl (fun t k => by rw [roles_modSession k hf]; exact lowers_endSession k t) allSlots s

theorem role_default (k : Fin 6) : (({} : SecSt).sessions[k] : Session).role = 0 := by decide +revert

theorem lowers_fullReset (cause : Nat) (s : State) : Lowers (roles s) (roles (fullReset cause s)) := by
  intro k
  simp only [fullReset, roles_mk, Fin.getElem_fin, Vector.getElem_map]
  exact .inr (role_default k)

theorem lowers_sleepEnter (b : PowerState) (s : State) : Lowers (roles s) (roles (sleepEnter b s)) := by
  have h := lowers_endAll (f := fun e => { e with fails := 0 }) (fun _ => rfl) s
  simpa [sleepEnter] using h

theorem lowers_softReset (s : State) : Lowers (roles s) (roles (softReset s)) := by
  have h := lowers_endAll (f := fun e => { e with fails := 0, lockout := false }) (fun _ => rfl)
    (touchForget (engineReset (leaveActive (stopStreams s))))
  simpa [softReset] using h

theorem lowers_resetBy (cause : Nat) (s : State) : Lowers (roles s) (roles (resetBy cause s)) := by
  unfold resetBy
  split
  · exact .refl _
  · exact lowers_fullReset cause s

theorem lowers_resetBegin (s : State) : Lowers (roles s) (roles (resetBegin s)) := by
  unfold resetBegin
  split
  · exact lowers_fullReset 4 s
  · exact lowers_softReset s
  · exact .refl _

@[simp] theorem lowers_popReply (i : Iface) (s : State) : Lowers (roles s) (roles (popReply i s)) := by
  unfold popReply
  split
  · exact .refl _
  · extract_lets t
    have ht : roles t = roles s := by simp [t]
    rw [← ht]
    split
    · exact .refl _
    · exact lowers_resetBegin t
    · split
      · exact lowers_sleepEnter _ t
      · exact .refl _

theorem lowers_windowWrite (i : Iface) (off : Nat) (b : Byte) (s : State) :
    Lowers (roles s) (roles (windowWrite i off b s)) := by
  unfold windowWrite
  repeat' split
  all_goals simp

theorem lowers_quadWrites (l : List Byte) (p : Half) (s : State) : Lowers (roles s) (roles (quadWrites l p s)) := by
  induction l generalizing p s with
  | nil => simp [quadWrites]
  | cons b l ih => exact Lowers.trans (lowers_windowWrite .quad p.toNat b s) (ih _ _)

theorem lowers_keyEnds (j : KeyJob) (s : State) : Lowers (roles s) (roles (keyEnds j s)) := by
  refine lowers_ite_state ?_ (.refl _)
  refine lowers_foldl (fun t k => ?_) allSlots s
  exact lowers_ite_state (lowers_endSession k t) (.refl _)

theorem lowers_access (i : Iface) {f : State → State} (s : State) (hf : ∀ t, Lowers (roles t) (roles (f t))) :
    Lowers (roles s) (roles (access i f s)) := lowers_ite_state (hf s) (.refl _)

theorem lowers_execKeySetDone (r : NvmResult) (s : State) :
    Lowers (roles s) (outcomeRoles (roles s) (execKeySetDone r s)) := by
  unfold execKeySetDone
  split
  · extract_lets +onlyGivenNames sec taken
    have htaken : roles taken = roles s := by simp [taken, sec]
    split
    · extract_lets +onlyGivenNames old new updated ended counted
      have hended : Lowers (roles s) (roles ended) := by
        have h : roles updated = roles s := by simp [updated, htaken]
        rw [← h]
        exact lowers_ite_state (.refl _) (lowers_keyEnds _ _)
      have hcounted : roles counted = roles ended := by
        unfold counted
        split <;> simp
      simpa [hcounted] using hended
    · simp [htaken]
  · exact .refl _

/-! ### Rows -/

theorem lowers_runCommand {op : Nat} {body : Packet → State → CmdResult} (p : Packet) (s : State)
    (h : ∀ u, Lowers (roles u) (roles (body p u).st)) : Lowers (roles s) (roles (runCommand op body p s)) := by
  rcases runCommand_rolesByBody op body p s with e | ⟨u, hu, -, e⟩
  · rw [e]
    exact .refl _
  · rw [e, ← hu]
    exact h u

theorem lowers_sessionOpenBody (p : Packet) (s : State) : Lowers (roles s) (roles (sessionOpenBody p s).st) := by
  unfold sessionOpenBody checked
  extract_lets q r
  split
  · exact .refl _
  split
  · exact .refl _
  · rename_i k _
    have h := lowers_endSession k s
    simpa [okCmd] using h

theorem lowers_sessionCloseBody (p : Packet) (s : State) : Lowers (roles s) (roles (sessionCloseBody p s).st) := by
  unfold sessionCloseBody checked
  split
  · exact .refl _
  · dsimp only [okCmd]
    split
    · exact lowers_endSession _ s
    · exact .refl _

theorem lowers_of_eq {s : State} {r : Vector (BitVec 2) 6} (h : r = roles s) : Lowers (roles s) r := by
  rw [h]
  exact .refl _

theorem commandRow_lowers {i : Instr} {op : Nat} {p : Packet} (h : CommandRow i op p) (ho : op ≠ 0x04) (s : State) :
    Lowers (roles s) (outcomeRoles (roles s) (exec i s)) := by
  cases h
  case sessionOpen => exact lowers_runCommand _ _ (lowers_sessionOpenBody _)
  case sessionAuth => exact absurd rfl ho
  case sessionClose => exact lowers_runCommand _ _ (lowers_sessionCloseBody _)
  all_goals exact lowers_of_eq (roles_runCommand _ _ _ (by simp))

theorem lowers_execEmberEntry (s : State) : Lowers (roles s) (outcomeRoles (roles s) (execEmberEntry s)) := by
  simp only [execEmberEntry, outcomeRoles_next]
  split
  · exact lowers_ite_state (.refl _) (lowers_sleepEnter _ s)
  · exact .refl _

/-- SESSION_AUTH changes no role but that of the slot its origin holds. -/
theorem roles_execSessionAuth {p : Packet} {s : State} {j : Fin 6} (hj : slotOf s p.origin ≠ some j) :
    (outcomeRoles (roles s) (execSessionAuth p s))[j] = (roles s)[j] := by
  rw [execSessionAuth, outcomeRoles_next]
  rcases runCommand_rolesByBody 0x04 sessionAuthBody p s with e | ⟨u, hu, hslot, e⟩
  · rw [e]
  · rw [e, roles_sessionAuthBody p u (by rwa [hslot]), hu]

theorem exec_lowers (i : Instr) (h : ∀ p, i ≠ .sessionAuth p) (s : State) :
    Lowers (roles s) (outcomeRoles (roles s) (exec i s)) := by
  cases i
  case sessionAuth p => exact absurd rfl (h p)
  case sessionIdleTimeout k => exact lowers_endSession k s
  case keySetDone r => exact lowers_execKeySetDone r s
  case resetBegin => exact lowers_ite_state (.refl _) (lowers_resetBegin s)
  case por => exact lowers_resetBy 1 _
  case supplyReset b => exact lowers_resetBy 2 _
  case pinReset => exact lowers_resetBy 3 s
  case supplyBackInRange => exact lowers_ite_state (lowers_ite_state (lowers_fullReset 1 _) (.refl _)) (.refl _)
  case thermalRestart => exact lowers_ite_state (lowers_ite_state (.refl _) (lowers_fullReset 7 _)) (.refl _)
  case watchdogExpiry => exact lowers_ite_state (.refl _) (lowers_fullReset 6 s)
  case emberEntry =>
    refine lowers_execEmberEntry s
  case cmdMailboxWrite i b => exact lowers_access i s (lowers_windowWrite i 0x100 b)
  case doorbellSubmit i => exact lowers_access i s (lowers_windowWrite i 0x14 1)
  case doorbellDiscard i => exact lowers_access i s (lowers_windowWrite i 0x14 2)
  case replyPop i => exact lowers_access i s (lowers_windowWrite i 0x19 1)
  case replyRewind i => exact lowers_access i s (lowers_windowWrite i 0x19 2)
  case streamCommit i => exact lowers_access i s (lowers_windowWrite i 0x20 1)
  case streamRewind i => exact lowers_access i s (lowers_windowWrite i 0x20 2)
  case wakeExitRequest i => exact lowers_access i s (lowers_windowWrite i 0x30 0xA5)
  case wakeRelease i => exact lowers_access i s (lowers_windowWrite i 0x30 0x5A)
  case i2cWriteByte b =>
    refine lowers_ite_state ?_ (.refl _)
    exact Lowers.trans (lowers_of_eq (roles_modPort ..)) (lowers_windowWrite _ _ _ _)
  case qspiWrite p l =>
    exact lowers_access .quad s (fun t => Lowers.trans (lowers_of_eq (roles_quadSelect t)) (lowers_quadWrites l p _))
  case nop | identify | getStatus | sessionOpen | sessionClose | setPowerState | reset | readReg | writeReg |
      saveConfig | loadConfig | gridConfig | regionDefine | drivePlan | gridStart | gridStop | captureReference |
      readFrame | selfcapConfig | touchConfig | controlDefine | gestureConfig | baselineReset | contactPolicy |
      readContacts | carrierTable | hopPolicy | noiseSurvey | emberConfig | bridgeConfig | exciteSet | cmwinSet |
      checkDac | laneReinstate | trimApply | trimRead | convConfig | filterSelect | convStart | convStop |
      decimSync | threshSet | onsetConfig | timeSet | timeGet | servoConfig | triggerSet | captureConfig |
      beaconConfig | epochSet | fabricJoin | fabricStatus | routeRead | modePrepare | modeCommit | portConfig |
      lamplighterPriority | streamDefine | streamAdmit | streamStart | streamStop | streamRead | drainDeclare |
      faultRead | faultAck | severitySet | thermalConfig | healthRead | keySet | journalRead | journalPolicy |
      imageBegin | imageData | imageEnd | imageActivate | decodeLoad =>
    exact commandRow_lowers (by constructor) (by decide) s
  all_goals exact lowers_of_eq (by simp [exec])

end Sys2Proof.Machine
end

section

open Sys2Proof Sys2Proof.Machine

/-- Settles O5: every row but SESSION_AUTH keeps a slot's role or takes it away, and SESSION_AUTH changes the role of
its origin's slot alone. -/
theorem sessionRoles : Obligations.SessionRoles := by
  intro i s t k h
  have hrole : ∀ u : State, u.sec.sessions[k].role = (roles u)[k] := fun u => by
    simp only [roles, Fin.getElem_fin, Vector.getElem_map]
  rw [hrole, hrole]
  have ht : outcomeRoles (roles s) (exec i s) = roles t := by rw [h, outcomeRoles_next]
  rw [← ht]
  by_cases hauth : ∃ p, i = .sessionAuth p
  · obtain ⟨p, rfl⟩ := hauth
    by_cases hslot : slotOf s p.origin = some k
    · exact .inr (.inr ⟨p, rfl, hslot⟩)
    · exact .inl (roles_execSessionAuth hslot)
  · rcases exec_lowers i (fun p e => hauth ⟨p, e⟩) s k with e | e
    · exact .inl e
    · exact .inr (.inl e)

end

section
/-! How the checks of a command's steps 9 and 10 answer, and what follows its result (R51, R56, R57, R61, R140). -/
namespace Sys2Proof.Machine

open Sys2Proof

/-! ### The checks of steps 9 and 10 -/

/-- The first check decides: a command that fails it has that check's status, another goes on to the rest. -/
theorem checked_cons (s : State) (ok : Bool) (st : Byte) (l : List (Bool × Byte)) (go : Unit → CmdResult) :
    checked s ((ok, st) :: l) go = if ¬(ok = true) then failCmd s st else checked s l go := by
  cases ok <;> rfl

theorem checked_nil (s : State) (go : Unit → CmdResult) : checked s [] go = go () := rfl

/-! ### The end of a command -/

theorem opInfo_op {op : Nat} {info : OpInfo} (h : opInfo op = some info) : info.op = op := by
  simpa using List.find?_some h

section

variable {op : Nat} {info : OpInfo} {p : Packet} {b : Bool} {u : State} {r : CmdResult}

/-- A deferred command that is accepted joins the outstanding ones and is answered with ACCEPTED (R56). -/
theorem concluded_accepted (h : opInfo op = some info) (hs : r.silent = false) (ha : r.status = 0x01) :
    concluded op p b u r = reply p.origin b p.tag 0x01 false [] .normal
      { r.st with sec := { r.st.sec with outstanding := r.st.sec.outstanding ++
        [⟨BitVec.ofNat 8 op, p.origin, slotOf u p.origin, roleOf u p.origin, p.tag, b, p.params⟩] } } := by
  simp only [concluded, h, conclude, hs, ha, opInfo_op h, if_true, Bool.false_eq_true, if_false]

/-- A command that makes no journal entry here has its final reply alone. -/
theorem concluded_unjournaled (h : opInfo op = some info) (hs : r.silent = false) (ha : r.status ≠ 0x01)
    (hj : info.journal = false ∨ r.ownEntry = true) :
    concluded op p b u r = reply p.origin b p.tag r.status true r.data r.why r.st := by
  have hskip : (info.journal && !r.ownEntry) = false := by
    rcases hj with hj | hj <;> simp [hj]
  simp only [concluded, h, conclude, hs, ha, hskip, Bool.false_eq_true, if_false]

/-- A journaled command is journaled with its status before its final reply (R140). -/
theorem concluded_journaled (h : opInfo op = some info) (hs : r.silent = false) (ha : r.status ≠ 0x01)
    (hj : info.journal = true) (ho : r.ownEntry = false) (hauth : op ≠ 0x04) :
    concluded op p b u r = reply p.origin b p.tag r.status true r.data r.why
      (journalCommand p.origin (slotOf u p.origin) (roleOf u p.origin) p.tag (BitVec.ofNat 8 op) r.status p.params
        r.st) := by
  simp only [concluded, h, conclude, hs, ha, opInfo_op h, hj, ho, hauth, Bool.not_false, Bool.and_self, if_true,
    Bool.false_eq_true, if_false]

end

/-! ### Replies -/

/-- A reply ends the interface's queue; with eight in it, or others held, it is held (R57). -/
theorem queueReply_eq (i : Iface) (x : Reply) (s : State) :
    queueReply i x s = modPort i (fun (h : HostPort) =>
      if h.heldReplies = [] ∧ h.replies.length < 8 then { h with replies := h.replies ++ [x] }
      else { h with heldReplies := h.heldReplies ++ [x] }) s := by
  simp only [queueReply, Bool.and_eq_true, List.isEmpty_iff, decide_eq_true_eq]

theorem reply_local (i : Iface) (tag st : Byte) (final : Bool) (data : List Byte) (why : ReplyPurpose) (s : State) :
    reply (.loc i) false tag st final data why s =
      queueReply i ⟨replyBytes (ownAddr s) st tag final false false data, why⟩ s := rfl

theorem reply_broadcast_accepted (i : Iface) (tag st : Byte) (data : List Byte) (why : ReplyPurpose) (s : State) :
    reply (.loc i) true tag st false data why s = s := rfl

theorem reply_broadcast_final (i : Iface) (tag st : Byte) (data : List Byte) (why : ReplyPurpose) (s : State) :
    reply (.loc i) true tag st true data why s = noteAnswer i tag (ownAddr s) st s := rfl

end Sys2Proof.Machine
end

section

open Sys2Proof Sys2Proof.Machine

/-- Settles O24: an accepted command joins the outstanding ones, a journaled one has its entry before its reply, and a
local reply is queued or held. -/
theorem concluding : Obligations.Concluding := by
  intro op info p b u r h hs
  refine ⟨concluded_accepted h hs, concluded_unjournaled h hs, concluded_journaled h hs, ?_⟩
  intro i tag st final data why t x
  exact ⟨(reply_local ..).trans (queueReply_eq ..), reply_broadcast_accepted ..,
    by rw [reply_broadcast_final, noteAnswer_hif]⟩

end

section
/-! What the bodies of the protocol commands answer, check after check (section 2.9). -/
namespace Sys2Proof.Machine

open Sys2Proof

/-- An admitted packet's row concludes with what the row's body answers. -/
theorem exec_concludes {op : Nat} {body : Packet → State → CmdResult} {p : Packet} {s u : State} {b : Bool} {i : Instr}
    {r : CmdResult} (hrow : exec i s = .next (runCommand op body p s)) (h : Admitted op p s b u) (hr : body p u = r) :
    exec i s = .next (concluded op p b u r) := by
  rw [hrow, runCommand_admitted h, hr]

section

variable (p : Packet) (u : State)

theorem nopBody_eq : nopBody p u = if ¬(p.params.length = 0) then failCmd u 0x11 else okCmd u [] := by
  simp only [nopBody, checked_cons, checked_nil, decide_eq_true_eq]

/-- The identity of Table 2-10 (R79). -/
theorem identifyBody_eq : identifyBody p u =
    if ¬(p.params.length = 0) then failCmd u 0x11 else
    okCmd u (le 2 0x1920 ++ [2, 0] ++ le 8 Config.uid.toNat ++ le 4 u.sec.fwVersion.toNat
      ++ [if u.sys.slot then 1 else 0, u.link.addr.getD 0xFF]) := by
  have hslot : BitVec.ofNat 8 (b1 u.sys.slot) = if u.sys.slot then 1 else 0 := by cases u.sys.slot <;> rfl
  simp only [identifyBody, checked_cons, checked_nil, decide_eq_true_eq, uidBytes, hslot]

theorem stampRun_eq : stampRun u = if u.time.state = .stopped then 0 else u.time.ns := by
  unfold stampRun timeRuns
  cases u.time.state <;> rfl

/-- The status of Table 2-11 (R80). -/
theorem getStatusBody_eq : getStatusBody p u =
    if ¬(p.params.length = 0) then failCmd u 0x11 else
    okCmd u ([BitVec.ofNat 8 (powerCode u.sys.power), BitVec.ofNat 8 (u.sys.cause.toNat + 16 * b1 u.sys.fallback),
      BitVec.ofNat 8 (roleOf u p.origin).toNat, 0] ++ le 2 (statusFlags u) ++ le 2 (faultBlocks u)
      ++ le 4 (reportEpoch u).toNat ++ le 8 (if u.time.state = .stopped then 0 else u.time.ns)) := by
  simp only [getStatusBody, checked_cons, checked_nil, decide_eq_true_eq, stampRun_eq]

/-- SET_POWER_STATE starts a transition of Table 4-2 (R122, R125). -/
theorem setPowerStateBody_eq : setPowerStateBody p u =
    if ¬(p.params.length = 4) then failCmd u 0x11 else
    if ¬(u8 p.params 0 ≤ 4 ∧ zeros p.params 1 3 = true) then failCmd u 0x13 else
    if ¬(transitionOk u.sys.power (powerOf (u8 p.params 0)) = true) then failCmd u 0x30 else
    if ¬(powerBusy (powerOf (u8 p.params 0)) u = false) then failCmd u 0x31 else
    acceptCmd { u with sys := { u.sys with trans := some ⟨u.sys.power, powerOf (u8 p.params 0),
      u.sys.power == .active && powerOf (u8 p.params 0) != .active && (currentEpoch u).isSome⟩ } } := by
  simp only [setPowerStateBody, checked_cons, checked_nil, decide_eq_true_eq, Bool.and_eq_true, Bool.not_eq_true']

/-- RESET arms the reset that its reply's pop begins. -/
theorem resetBody_eq : resetBody p u =
    if ¬(p.params.length = 4) then failCmd u 0x11 else
    if ¬(u8 p.params 0 ≤ 1 ∧ zeros p.params 1 3 = true) then failCmd u 0x13 else
    { st := { u with sys := { u.sys with resetArmed := some (u8 p.params 0 == 0) } }, status := 0x00, why := .reset } := by
  simp only [resetBody, checked_cons, checked_nil, decide_eq_true_eq, Bool.and_eq_true]

/-- READ_REG returns what its reads of device space give (R82). -/
theorem readRegBody_eq : readRegBody p u =
    if ¬(p.params.length = 8) then failCmd u 0x11 else
    if ¬(runOk p.params = true) then failCmd u 0x13 else
    okCmd (devReads (u8 p.params 4) (u16 p.params 6) (u32 p.params 0) u).2
      (devReads (u8 p.params 4) (u16 p.params 6) (u32 p.params 0) u).1 := by
  simp only [readRegBody, checked_cons, checked_nil, decide_eq_true_eq]

/-- What WRITE_REG returns of its run of writes: the first failure, and how many were done (R84). -/
theorem writeRun_result (x : Byte × Nat × State) :
    (match x with
      | (0, _, s) => okCmd s []
      | (st, d, s) => ({ st := s, status := st, data := le 2 d } : CmdResult)) =
    if x.1 = 0 then okCmd x.2.2 [] else { st := x.2.2, status := x.1, data := le 2 x.2.1 } := by
  obtain ⟨st, d, s⟩ := x
  by_cases h : st = 0
  · subst h; rfl
  · rw [if_neg h]
    split
    · next e => exact absurd (congrArg Prod.fst e) h
    · next e => cases e; rfl

theorem writeRegBody_eq : writeRegBody p u =
    if ¬(8 ≤ p.params.length ∧ p.params.length = 8 + u16 p.params 6 * u8 p.params 4) then failCmd u 0x11 else
    if ¬(runOk p.params = true) then failCmd u 0x13 else
    let w := match slotOf u p.origin with | some k => Writer.session k | none => Writer.firmware
    let r := devWrites w 0x0B (u8 p.params 4) (u16 p.params 6) (u32 p.params 0) (p.params.drop 8) u
    if r.1 = 0 then okCmd r.2.2 [] else { st := r.2.2, status := r.1, data := le 2 r.2.1 } := by
  simp only [writeRegBody, checked_cons, checked_nil, decide_eq_true_eq]
  rw [← writeRun_result] <;> rfl

/-- SAVE_CONFIG takes the words of the shadow to save (R59). -/
theorem saveConfigBody_eq : saveConfigBody p u =
    if ¬(p.params.length = 0) then failCmd u 0x11 else
    acceptCmd { u with sec := { u.sec with saving := u.shadow.filter (fun x => savedAddr x.1) } } := by
  simp only [saveConfigBody, checked_cons, checked_nil, decide_eq_true_eq, savedItems]

theorem loadConfigBody_eq : loadConfigBody p u =
    if ¬(p.params.length = 0) then failCmd u 0x11 else acceptCmd u := by
  simp only [loadConfigBody, checked_cons, checked_nil, decide_eq_true_eq]

end

end Sys2Proof.Machine
end

section

open Sys2Proof Sys2Proof.Machine

/-- Settles O26: each of the nine commands answers as its body's checks and work say. -/
theorem protocolCommands : Obligations.ProtocolCommands := by
  intro p s b u q
  exact ⟨fun h => exec_concludes (exec_nop p s) h (nopBody_eq p u),
    fun h => exec_concludes (exec_identify p s) h (identifyBody_eq p u),
    fun h => exec_concludes (exec_getStatus p s) h (getStatusBody_eq p u),
    fun h => exec_concludes (exec_setPowerState p s) h (setPowerStateBody_eq p u),
    fun h => exec_concludes (exec_reset p s) h (resetBody_eq p u),
    fun h => exec_concludes (exec_readReg p s) h (readRegBody_eq p u),
    fun h => exec_concludes (exec_writeReg p s) h (writeRegBody_eq p u),
    fun h => exec_concludes (exec_saveConfig p s) h (saveConfigBody_eq p u),
    fun h => exec_concludes (exec_loadConfig p s) h (loadConfigBody_eq p u)⟩

end

section
/-! What SESSION_OPEN and SESSION_CLOSE answer, and what the end of a session leaves of the slots (R66 to R70). -/
namespace Sys2Proof.Machine

open Sys2Proof

section

variable (p : Packet) (u : State)

/-- SESSION_OPEN ends the session of the slot it takes and draws a challenge for the role it names (R69). -/
theorem sessionOpenBody_eq : sessionOpenBody p u =
    if ¬(p.params.length = 4) then failCmd u 0x11 else
    if ¬(1 ≤ u8 p.params 0 ∧ u8 p.params 0 ≤ 3 ∧ zeros p.params 1 3 = true) then failCmd u 0x13 else
    if ¬((roleKey u (u8 p.params 0)).isSome = true) then failCmd u 0x20 else
    if ¬(∀ k, openSlot u p.origin = some k → u.sec.sessions[k].lockout = false) then failCmd u 0x20 else
    match openSlot u p.origin with
    | none => failCmd u 0x31
    | some k =>
      let c := Config.challenge u.sec.draws
      let t := modSession k (fun (e : Session) => { e with
        origin := some p.origin, challenge := some (c, BitVec.ofNat 2 (u8 p.params 0))
        lastMs := (endSession k u).sys.lpoMs }) (endSession k u)
      okCmd (edgeLine 20 { t with sec := { t.sec with draws := t.sec.draws + 1 } })
        (le 16 c.toNat ++ [BitVec.ofNat 8 k.val, 0, 0, 0]) := by
  simp only [sessionOpenBody, checked_cons, checked_nil, decide_eq_true_eq, Bool.and_eq_true, and_assoc,
    Option.all_eq_true, Bool.not_eq_true'] <;> rfl

theorem sessionCloseBody_eq : sessionCloseBody p u =
    if ¬(p.params.length = 0) then failCmd u 0x11 else
    okCmd (match slotOf u p.origin with | some k => endSession k u | none => u) [] := by
  rw [sessionCloseBody, checked_cons, checked_nil]
  exact if_congr (not_congr List.isEmpty_iff_length_eq_zero) rfl rfl

end

/-! ### SESSION_AUTH -/

section

variable {p : Packet} {u : State} {k : Fin 6} {c : BitVec 128} {r : BitVec 2}

/-- Without a pending challenge in the origin's slot there is nothing to authenticate (R69). -/
theorem sessionAuthBody_unchallenged (hlen : p.params.length = 16)
    (hc : ∀ k, slotOf u p.origin = some k → u.sec.sessions[k].challenge = none) :
    sessionAuthBody p u = failCmd u 0x21 := by
  cases hk : slotOf u p.origin with
  | none => exact sessionAuthBody_noSlot hlen hk
  | some k => exact sessionAuthBody_noChallenge hlen hk (hc k hk)

variable (hlen : p.params.length = 16) (hk : slotOf u p.origin = some k)
  (hc : u.sec.sessions[k].challenge = some (c, r)) (hr : ¬ AuthRight p k c r (challengeUsed k u))

include hlen hk hc hr

/-- A wrong answer before the fifth is counted and raises AUTH_FAIL (R70). -/
theorem sessionAuthBody_wrong_open (hn : failsNext u.sec.sessions[k] < 5) :
    sessionAuthBody p u =
      { st := raise 13 Src.secAuthFail noItem (authCounted p k r u.sec.sessions[k] (challengeUsed k u))
        status := 0x20, ownEntry := true } := by
  rw [sessionAuthBody_wrong hlen hk hc hr]
  simp only [if_neg (Nat.not_le.mpr hn)]

/-- The fifth wrong answer also raises the lockout (R70). -/
theorem sessionAuthBody_wrong_fifth (hn : failsNext u.sec.sessions[k] = 5) :
    sessionAuthBody p u =
      { st := raise 13 Src.secAuthLockout noItem
          (raise 13 Src.secAuthFail noItem (authCounted p k r u.sec.sessions[k] (challengeUsed k u)))
        status := 0x20, ownEntry := true } := by
  rw [sessionAuthBody_wrong hlen hk hc hr]
  simp only [if_pos hn.ge]

end

/-! ### The end of a session -/

/-- What the end of a session leaves of its slot (R66, R68). -/
def sessionEnded (k : Fin 6) (e : Session) : Session :=
  { e with role := 0, challenge := none, ks := [], keySets := 0, origin := if k.val < 2 then e.origin else none }

section

variable (k : Fin 6) (s : State)

theorem modSession_session_same (f : Session → Session) :
    (modSession k f s).sec.sessions[k] = f s.sec.sessions[k] := by
  simp only [modSession, vmod, Fin.getElem_fin, Vector.getElem_set_self]

theorem modSession_session_other {j : Fin 6} (f : Session → Session) (h : j ≠ k) :
    (modSession k f s).sec.sessions[j] = s.sec.sessions[j] := by
  have hv : k.val ≠ j.val := fun e => h (Fin.ext e.symm)
  simp only [modSession, vmod, Fin.getElem_fin, Vector.getElem_set_ne _ _ hv]

theorem endSession_sessions : (endSession k s).sec.sessions = (modSession k (sessionEnded k) s).sec.sessions := rfl

theorem endSession_session_same : (endSession k s).sec.sessions[k] = sessionEnded k s.sec.sessions[k] := by
  simp only [endSession_sessions, modSession_session_same]

theorem endSession_session_other {j : Fin 6} (h : j ≠ k) :
    (endSession k s).sec.sessions[j] = s.sec.sessions[j] := by
  simp only [endSession_sessions, modSession_session_other k s _ h]

end

end Sys2Proof.Machine
end

section

open Sys2Proof Sys2Proof.Machine

/-- Settles O27: the three session commands answer as their bodies' cases say, and a session, a challenge and a lockout
end as their rows say. -/
theorem sessions : Obligations.Sessions := by
  intro p s b u q
  refine ⟨fun h => exec_concludes (exec_sessionOpen p s) h (sessionOpenBody_eq p u),
    fun h => exec_concludes (exec_sessionClose p s) h (sessionCloseBody_eq p u),
    fun h hlen => exec_concludes (exec_sessionAuth p s) h (sessionAuthBody_badLength hlen),
    fun h hlen hc => exec_concludes (exec_sessionAuth p s) h (sessionAuthBody_unchallenged hlen hc), ?_, ?_⟩
  · intro k c r h hlen hk hc
    exact ⟨fun hr => exec_concludes (exec_sessionAuth p s) h (sessionAuthBody_right hlen hk hc hr),
      fun hr hn => exec_concludes (exec_sessionAuth p s) h (sessionAuthBody_wrong_open hlen hk hc hr hn),
      fun hr hn => exec_concludes (exec_sessionAuth p s) h (sessionAuthBody_wrong_fifth hlen hk hc hr hn)⟩
  · intro k
    refine ⟨⟨endSession k s, exec_sessionIdleTimeout k s, rfl, ?_⟩, exec_challengeExpiry k s, exec_lockoutEnd k s⟩
    rw [endSession_session_same]
    exact ⟨rfl, rfl, rfl, rfl, fun h => if_neg (Nat.not_lt.mpr h), fun j => endSession_session_other k s⟩

end

section
/-! What a register write does (R424, R426, R437, R457, R514): who may make it, and what it leaves. -/
namespace Sys2Proof.Machine

open Sys2Proof

/-! ### Who may write -/

theorem mayWrite_session_iff (k : Fin 6) (a : Nat) (s : State) : mayWrite (.session k) a s = true ↔
    (blockOf a ≤ 13 ∧ a % 4 = 0 ∧ s.sys.inReset = false ∧ asleep s = false
      ∧ writeRole a ≤ s.sec.sessions[k].role.toNat
      ∧ (∀ n, lockBit a = some n → s.sec.cfgLock.getLsbD n = true → s.sec.sessions[k].role = 3)) := by
  have hlock : (!(match lockBit a with | some n => s.sec.cfgLock.getLsbD n | none => false)
      || decide (3 ≤ s.sec.sessions[k].role.toNat)) = true ↔
      ∀ n, lockBit a = some n → s.sec.cfgLock.getLsbD n = true → s.sec.sessions[k].role = 3 := by
    have hmaker : 3 ≤ s.sec.sessions[k].role.toNat ↔ s.sec.sessions[k].role = 3 := by bv_omega
    simp only [← hmaker, Bool.or_eq_true, decide_eq_true_eq, Bool.not_eq_true']
    cases lockBit a with
    | none => exact iff_of_true (.inl rfl) (fun _ h => nomatch h)
    | some n =>
      simp only [Option.some.injEq, forall_eq', ← Bool.not_eq_true]
      exact (imp_iff_not_or).symm
  rw [← hlock]
  simp only [mayWrite, Bool.and_eq_true, decide_eq_true_eq, Bool.not_eq_true', and_assoc] <;> rfl

theorem mayWrite_extension_iff (a : Nat) (s : State) : mayWrite .extension a s = true ↔
    (2 ≤ blockOf a ∧ blockOf a ≤ 6 ∧ a % 4 = 0 ∧ s.sys.inReset = false ∧ asleep s = false) := by
  simp only [mayWrite, Bool.and_eq_true, decide_eq_true_eq, Bool.not_eq_true']
  constructor
  · rintro ⟨⟨⟨⟨-, hword⟩, hreset⟩, hawake⟩, hlow, hhigh⟩
    exact ⟨hlow, hhigh, hword, hreset, hawake⟩
  · rintro ⟨hlow, hhigh, hword, hreset, hawake⟩
    exact ⟨⟨⟨⟨hhigh.trans (by decide), hword⟩, hreset⟩, hawake⟩, hlow, hhigh⟩

section

variable {w : Writer} {k : Fin 6} {a : Nat} {v : Word} {s : State}

/-- A write that may not be made has no effect, but the extension's raises EXT_ACCESS (R418). -/
theorem writeRow_refused (h : mayWrite w a s = false) : writeRow w a v s =
    if w = .extension ∧ s.sys.inReset = false ∧ asleep s = false then raise 11 Src.engExtAccess noItem s else s := by
  unfold writeRow
  rw [h]
  cases w with
  | session k => rfl
  | firmware => rfl
  | extension => cases s.sys.inReset <;> cases asleep s <;> rfl

theorem writeRow_session (h : mayWrite (.session k) a s = true) :
    writeRow (.session k) a v s = (regWrite (.session k) 0x0B a v s).2 := if_pos h

/-- The extension's writes are counted (R418). -/
theorem writeRow_extension (h : mayWrite .extension a s = true) : writeRow .extension a v s =
    let u := (regWrite .extension 0xFF a v s).2
    { u with eng := { u.eng with hook := u.eng.hook.map (fun h => { h with writes := h.writes + 1 }) } } := if_pos h

end

/-! ### The registers with a write of their own -/

section

variable (w : Writer) (op : Byte) (v : Word) (s : State)

theorem regWrite_fltStat (b : Fin 14) : regWrite w op (Reg.flt b.val 0) v s = (0, fltW1c w b.val v s) := by
  have hoff : Reg.flt b.val 0 % 0x10000 = 0xF000 := by
    unfold Reg.flt
    omega
  have hblock : blockOf (Reg.flt b.val 0) = b.val := by
    unfold blockOf Reg.flt
    split <;> omega
  rw [regWrite]
  simp only [hoff, hblock, if_true]

theorem regWrite_hkpReinstate :
    regWrite w op Reg.hkpReinstate v s = reinstateWrite (writerByte w s) op v s := rfl

theorem regWrite_secCfgLock : regWrite w op Reg.secCfgLock v s = (0, cfgLockWrite v s) := rfl

variable {a : Nat} (hflt : a % 0x10000 ≠ 0xF000) (hhkp : ¬(blockOf a = 10 ∧ a % 0x10000 = 0x0C))
  (hsec : ¬(blockOf a = 13 ∧ a % 0x10000 = 4))
  (hcap : ¬(blockOf a = 7 ∧ 0x400 ≤ a % 0x10000 ∧ a % 0x10000 < 0x480 ∧ a % 0x10000 % 0x10 = 0xC))
  (hhif : ¬(blockOf a = 1 ∧ (a % 0x10000 = 0x0C ∨ a % 0x10000 = 0x14 ∨ a % 0x10000 = 0x24)))

include hflt hhkp hsec hcap hhif

/-- A register with no write of its own: no RW bits, an outstanding capture and the block's rule stop it, else its word
takes its place (R514). -/
theorem regWrite_plain : regWrite w op a v s =
    if regMask a = 0 then (0, s)
    else if outOp s 0x15 && captureBlocks a then (0x31, s)
    else match blockRule s (candidate s a v) (blockOf a) (a % 0x10000) with
      | some st => (st, s)
      | none => (0, takeWord a (candidate s a v) s) := by
  have hw1c : (if blockOf a = 1 then hifW1c (a % 0x10000) v s else none) = none := by
    split
    · next hb =>
      have ho : ¬(a % 0x10000 = 0x0C ∨ a % 0x10000 = 0x14 ∨ a % 0x10000 = 0x24) := fun ho => hhif ⟨hb, ho⟩
      simp only [not_or] at ho
      obtain ⟨h1, h2, h3⟩ := ho
      rw [hifW1c, if_neg h1, if_neg h2, if_neg h3]
    · rfl
  rw [regWrite]
  simp only [if_neg hflt, if_neg hhkp, if_neg hsec, if_neg hcap, hw1c] <;> rfl

theorem regWrite_stopped (h : regMask a = 0 ∨ (outOp s 0x15 = true ∧ captureBlocks a = true)
    ∨ (blockRule s (candidate s a v) (blockOf a) (a % 0x10000)).isSome) : (regWrite w op a v s).2 = s := by
  rw [regWrite_plain w op v s hflt hhkp hsec hcap hhif]
  split
  · rfl
  next hmask =>
    split
    · rfl
    next hcapture =>
      rcases h with h | ⟨h1, h2⟩ | h
      · exact absurd h hmask
      · simp [h1, h2] at hcapture
      · obtain ⟨st, hst⟩ := Option.isSome_iff_exists.mp h
        rw [hst]

theorem regWrite_taken (hmask : regMask a ≠ 0) (hcapture : outOp s 0x15 = false ∨ captureBlocks a = false)
    (hrule : blockRule s (candidate s a v) (blockOf a) (a % 0x10000) = none) :
    (regWrite w op a v s).2 = takeWord a (candidate s a v) s := by
  have hopen : ¬ (outOp s 0x15 && captureBlocks a) = true := by
    rcases hcapture with h | h <;> simp [h]
  rw [regWrite_plain w op v s hflt hhkp hsec hcap hhif, if_neg hmask, if_neg hopen, hrule]

end

end Sys2Proof.Machine
end

section
/-! What a register write leaves: the shadow word, an armed trigger, the acknowledged bits, a returned item (R329, R426,
R437, R514). -/
namespace Sys2Proof.Machine

open Sys2Proof

/-! ### Operations that leave the shadow file alone -/

section

variable (s : State)

@[simp] theorem markDark_shadow (cause mask : Nat) : (markDark cause mask s).shadow = s.shadow :=
  (congrArg State.shadow (show markDark cause mask s = _ from onlyRes_markDark cause mask s) :)

@[simp] theorem safeBegin_shadow : (safeBegin s).shadow = s.shadow := by
  unfold safeBegin
  split
  · rfl
  · simp

@[simp] theorem snuffItem_shadow (b item : Nat) : (snuffItem b item s).shadow = s.shadow := by
  simp only [snuffItem, apply_ite State.shadow, journalRaise_shadow, ite_self]

@[simp] theorem touchForget_shadow : (touchForget s).shadow = s.shadow := rfl
@[simp] theorem engineReset_shadow : (engineReset s).shadow = s.shadow := rfl
@[simp] theorem armTrigger_shadow (u : Fin 16) : (armTrigger u s).1.shadow = s.shadow := rfl

@[simp] theorem resetEffects_shadow (b : Nat) : (resetEffects b s).shadow = s.shadow := by
  have harm : ∀ t : State, ((List.finRange 16).foldl (fun t u => (armTrigger u t).1) t).shadow = t.shadow := fun t =>
    foldl_keeps State.shadow _ (fun t u => armTrigger_shadow t u) _ t
  unfold resetEffects
  split <;> simp [apply_ite State.shadow, harm]

@[simp] theorem blockReset_shadow (b src : Nat) : (blockReset b src s).shadow = s.shadow := by
  simp [blockReset, apply_ite State.shadow]

@[simp] theorem react_shadow (b src item sev : Nat) : (react b src item sev s).shadow = s.shadow := by
  simp [react, apply_ite State.shadow]

@[simp] theorem raiseIn_shadow (open0 : List Shadow) (b src item : Nat) :
    (raiseIn open0 b src item s).shadow = s.shadow := by
  simp [raiseIn, apply_ite State.shadow]

@[simp] theorem raise_shadow (b src item : Nat) : (raise b src item s).shadow = s.shadow := raiseIn_shadow s ..

@[simp] theorem armRaise_shadow (u : Fin 16) : (armRaise u s).shadow = s.shadow := by
  simp [armRaise, apply_ite State.shadow]

@[simp] theorem takeTrigger_shadow (u : Fin 16) : (takeTrigger u s).shadow = s.shadow := by
  simp [takeTrigger, disarm, apply_ite State.shadow]

@[simp] theorem rateFix_shadow : (rateFix s).shadow = s.shadow := by simp [rateFix, apply_ite State.shadow]
@[simp] theorem ppsFix_shadow : (ppsFix s).shadow = s.shadow := by simp [ppsFix, apply_ite State.shadow]
@[simp] theorem beaconFix_shadow : (beaconFix s).shadow = s.shadow := by simp [beaconFix, apply_ite State.shadow]
@[simp] theorem timeTouched_shadow : (timeTouched s).shadow = s.shadow := by simp [timeTouched]

@[simp] theorem applyNow_shadow (b : Nat) : (applyNow b s).shadow = s.shadow := by
  simp [applyNow, apply_ite State.shadow]

@[simp] theorem excFix_shadow : (excFix s).shadow = s.shadow := rfl

@[simp] theorem settleLanes_shadow (l : List Nat) : (settleLanes l s).shadow = s.shadow :=
  foldl_keeps State.shadow _ (fun t n => modLane_shadow n _ t) l s

@[simp] theorem cancelHop_shadow : (cancelHop s).shadow = s.shadow := by simp [cancelHop, apply_ite State.shadow]
@[simp] theorem newCarrier_shadow (n v2 : Nat) : (newCarrier n v2 s).shadow = s.shadow := rfl

@[simp] theorem shadowFix_shadow : (shadowFix s).shadow = s.shadow := by
  unfold shadowFix
  cases s.carr.shadow with
  | none => rfl
  | some c => exact (apply_ite State.shadow ..).trans (ite_self _)

@[simp] theorem carrApply_shadow : (carrApply s).shadow = s.shadow := by
  unfold carrApply
  extract_lets was t gone t1 t2 t3
  have h1 : t1.shadow = s.shadow := by simp [t1, t, apply_ite State.shadow]
  have h2 : t2.shadow = s.shadow := by
    unfold t2
    cases t1.carr.named <;> simp [h1]
  have h3 : t3.shadow = s.shadow := by simp [t3, h2]
  split <;> simp [h3]

@[simp] theorem carrNow_shadow : (carrNow s).shadow = s.shadow := by
  simp [carrNow, apply_ite State.shadow]

end

/-! ### A word that took its place -/

section

variable (a : Nat) (f : RegFile) (s : State)

/-- Outside the link block and the watchdog the word stands in the shadow file (R514). -/
theorem takeWord_shadow (hlink : blockOf a ≠ 8) (heng : blockOf a ≠ 11) : (takeWord a f s).shadow = f := by
  generalize ht : takeWord a f s = t
  unfold takeWord at ht
  extract_lets +onlyGivenNames b o at ht
  replace hlink : b ≠ 8 := hlink
  replace heng : b ≠ 11 := heng
  clear_value b
  split at ht
  · exact ht ▸ rfl
  split at ht
  · simp [← ht, withShadow]
  · simp [← ht, withShadow]
  · simp [← ht, withShadow]
  · simp [← ht, withShadow]
  · simp [← ht, withShadow]
  · split at ht <;> simp [← ht, withShadow]
  · exact absurd rfl hlink
  · exact ht ▸ rfl
  · exact absurd rfl heng
  · exact ht ▸ rfl

/-- Fault words and the blocks without an action of their own take the word and nothing else. -/
theorem takeWord_plain (h : 0xF000 ≤ a % 0x10000 ∨ blockOf a = 0 ∨ blockOf a = 1 ∨ blockOf a = 10) :
    takeWord a f s = { s with shadow := f } := by
  rw [takeWord]
  rcases h with h | h | h | h
  · exact if_pos h
  all_goals
    simp only [h]
    exact ite_self _

end

end Sys2Proof.Machine
end

section
/-! A trigger's word, the acknowledged bits of a block and an item returned to service (R329, R426, R437). -/
namespace Sys2Proof.Machine

open Sys2Proof

/-! ### TIME_TRGu_CFG -/

section

variable (u : Fin 16) (v : Word) (s : State)

theorem blockOf_timeTrgCfg : blockOf (Reg.timeTrgCfg u.val) = 7 := by
  unfold blockOf Reg.timeTrgCfg
  split <;> omega

theorem offset_timeTrgCfg : Reg.timeTrgCfg u.val % 0x10000 = 0x100 + 0x20 * u.val := by
  unfold Reg.timeTrgCfg
  omega

theorem regMask_timeTrgCfg : ∀ u : Fin 16, regMask (Reg.timeTrgCfg u.val) ≠ 0 := by decide

theorem candidate_timeTrgCfg :
    candidate s (Reg.timeTrgCfg u.val) v = fileSet (Reg.timeTrgCfg u.val) v s.shadow := by
  unfold candidate Reg.timeTrgCfg
  extract_lets f
  rw [if_neg (by omega), if_neg (by omega)]

theorem captureBlocks_timeTrgCfg : captureBlocks (Reg.timeTrgCfg u.val) = false := by
  unfold captureBlocks Reg.timeTrgCfg
  refine decide_eq_false ?_
  omega

theorem blockRule_timeTrgCfg (f : RegFile) :
    blockRule s f (blockOf (Reg.timeTrgCfg u.val)) (Reg.timeTrgCfg u.val % 0x10000)
      = timeRule s f (0x100 + 0x20 * u.val) := by
  rw [blockOf_timeTrgCfg, offset_timeTrgCfg, blockRule, if_neg (by omega)]

/-- A trigger's word arms the trigger, and with MODE 0 disarms it (R329). -/
theorem takeWord_timeTrgCfg (f : RegFile) : takeWord (Reg.timeTrgCfg u.val) f s =
    if fld (fileGet f (Reg.timeTrgCfg u.val)) 0 2 = 0 then disarm u { s with shadow := f }
    else armRaise u { s with shadow := f } := by
  have hu : Fin.ofNat 16 ((0x100 + 0x20 * u.val - 0x100) / 0x20) = u := by
    ext
    simp only [Fin.ofNat]
    omega
  rw [takeWord, offset_timeTrgCfg, if_neg (by omega), blockOf_timeTrgCfg]
  refine (if_pos (by omega)).trans ?_
  rw [hu]
  rfl

theorem disarm_armed : (disarm u s).time.trigs[u].armed = false := by
  simp only [disarm, vmod, Fin.getElem_fin, Vector.getElem_set_self]

variable (w : Writer) (op : Byte)

theorem regWrite_timeTrgCfg_stopped
    (h : (timeRule s (fileSet (Reg.timeTrgCfg u.val) v s.shadow) (0x100 + 0x20 * u.val)).isSome) :
    (regWrite w op (Reg.timeTrgCfg u.val) v s).2 = s := by
  have hb := blockOf_timeTrgCfg u
  have ho := offset_timeTrgCfg u
  refine regWrite_stopped w op v s (by omega) (by omega) (by omega) (by omega) (by omega) (.inr (.inr ?_))
  rwa [blockRule_timeTrgCfg, candidate_timeTrgCfg]

theorem regWrite_timeTrgCfg_taken
    (h : timeRule s (fileSet (Reg.timeTrgCfg u.val) v s.shadow) (0x100 + 0x20 * u.val) = none) :
    (regWrite w op (Reg.timeTrgCfg u.val) v s).2 =
      takeWord (Reg.timeTrgCfg u.val) (fileSet (Reg.timeTrgCfg u.val) v s.shadow) s := by
  have hb := blockOf_timeTrgCfg u
  have ho := offset_timeTrgCfg u
  rw [regWrite_taken w op v s (by omega) (by omega) (by omega) (by omega) (by omega) (regMask_timeTrgCfg u)
    (.inr (captureBlocks_timeTrgCfg u)) (by rwa [blockRule_timeTrgCfg, candidate_timeTrgCfg]), candidate_timeTrgCfg]

end

/-! ### FLT_STAT -/

theorem sumNat_append (l m : List Nat) : sumNat (l ++ m) = sumNat l + sumNat m := by
  simp only [sumNat, ← List.sum_eq_foldl, List.sum_append]

/-- The sum of the powers of two of a range's chosen places. -/
def bitSum (p : Nat → Bool) (n : Nat) : Nat := sumNat (((List.range n).map (fun i => if p i then 2 ^ i else 0)))

theorem bitSum_succ (p : Nat → Bool) (n : Nat) : bitSum p (n + 1) = 2 ^ n * (if p n then 1 else 0) + bitSum p n := by
  simp only [bitSum, List.range_succ, List.map_append, sumNat_append]
  by_cases h : p n = true <;> simp [h, sumNat, Nat.add_comm]

theorem bitSum_lt (p : Nat → Bool) (n : Nat) : bitSum p n < 2 ^ n := by
  induction n with
  | zero => exact Nat.one_pos
  | succ n ih =>
    rw [bitSum_succ, Nat.pow_succ]
    split <;> omega

/-- Its bits are the chosen places. -/
theorem testBit_bitSum (p : Nat → Bool) (n i : Nat) : (bitSum p n).testBit i = (decide (i < n) && p i) := by
  induction n with
  | zero => simp [bitSum, sumNat]
  | succ n ih =>
    rw [bitSum_succ, Nat.testBit_two_pow_mul_add _ (bitSum_lt p n), ih]
    rcases Nat.lt_trichotomy i n with h | h | h
    · simp [h, Nat.lt_succ_of_lt h]
    · subst h
      cases p i <;> simp
    · have hne : i - n ≠ 0 := by omega
      have hout : ¬ i < n + 1 := by omega
      have hone : Nat.testBit 1 (i - n) = false := Nat.testBit_lt_two_pow (Nat.one_lt_two_pow hne)
      cases p n <;> simp [hout, Nat.not_lt_of_gt h, hone]

theorem sumNat_maskBits (x : Nat) (c : Nat → Prop) [DecidablePred c] (n : Nat) :
    sumNat ((maskBits n x).map (fun i => if c i then 2 ^ i else 0)) =
      bitSum (fun i => x.testBit i && decide (c i)) n := by
  unfold maskBits bitSum
  induction List.range n with
  | nil => rfl
  | cons i l ih =>
    rw [List.map_cons, sumNat_cons, ← ih, List.filter_cons]
    by_cases h : x.testBit i = true <;> simp [h, sumNat_cons]

section

variable (s : State) (b : Nat)

theorem fltOf_modFlt (f : FaultSt → FaultSt) (h : b < 14) : fltOf (modFlt b f s) b = f (fltOf s b) := by
  rw [fltOf, modFlt, vget_vmodN, if_pos ⟨rfl, h⟩]
  rfl

/-- Acknowledging clears the named bits of FLT_STAT (R426). -/
theorem acknowledge_stat (m : Nat) (h : b < 14) :
    (fltOf (acknowledge b m s) b).stat = (fltOf s b).stat &&& ~~~(BitVec.ofNat 32 m) := by
  unfold acknowledge
  extract_lets f hadSafe stat t
  have ht : (fltOf t b).stat = stat := by
    unfold t
    rw [fltOf_modFlt s b _ h]
  split
  · exact ht
  · exact ht

/-- A bit falls when it is raised, named, and within the writer's role (R426). -/
theorem fltW1c_stat (w : Writer) (v : Word) (h : b < 14) {i : Nat} (hi : i < 32) :
    (fltOf (fltW1c w b v s) b).stat.getLsbD i = ((fltOf s b).stat.getLsbD i
      && !(v.getLsbD i && decide ((ackRole (raisedSeverity (fltOf s b) i)).toNat ≤ writerRole w s))) := by
  rw [fltW1c, acknowledge_stat s b _ h, sumNat_maskBits]
  simp only [BitVec.getLsbD_and, BitVec.getLsbD_not, BitVec.getLsbD_ofNat, testBit_bitSum, BitVec.toNat_and,
    Nat.testBit_and, BitVec.testBit_toNat, hi, decide_true, Bool.true_and]
  cases (fltOf s b).stat.getLsbD i <;> simp

end

end Sys2Proof.Machine
end

section
/-! An item returned to service through HKP_REINSTATE (R437). -/
namespace Sys2Proof.Machine

open Sys2Proof

/-- The bit of a set that `snuffAdd` and `snuffDel` write for an item. -/
theorem getLsbD_bitAdd {n : Nat} (x : BitVec n) {i : Nat} (h : i < n) : (x ||| 1#n <<< i).getLsbD i = true := by
  simp [h]

theorem getLsbD_bitDel {n : Nat} (x : BitVec n) {i : Nat} (h : i < n) : (x &&& ~~~(1#n <<< i)).getLsbD i = false := by
  simp [h]

/-- The item's fault cleared and its return journaled: the part of a reinstatement that lines and sensors share. -/
def itemReturned (role op : Byte) (b item : Nat) (s : State) : State :=
  journalRaise role op 0 0x06 ([BitVec.ofNat 8 b] ++ le 2 item)
    (clearItem b item { s with snuffDue := snuffDel b item s.snuffDue, snuffWrite := true })

section

variable (role op : Byte) (b item : Nat) (s : State)

/-- The journal entry of the return. -/
def returnEntry : RaisedEntry :=
  ⟨BitVec.ofNat 64 (stampAcq s), role, op, 0, 6, padTo 8 0 ([BitVec.ofNat 8 b] ++ le 2 item)⟩

theorem itemReturned_items (h : b < 14) : ∀ x ∈ (fltOf (itemReturned role op b item s) b).items, x.item ≠ item := by
  have e : fltOf (itemReturned role op b item s) b =
      { fltOf s b with items := (fltOf s b).items.filter (fun i => i.item != item) } := fltOf_modFlt s b _ h
  intro x hx
  rw [e] at hx
  simpa using (List.mem_filter.mp hx).2

/-- A line's share: its overruns are forgotten too. -/
def lineReturned : State :=
  let t := itemReturned role op 2 item s
  { t with grid := { t.grid with overRuns := t.grid.overRuns.filter (fun x => x.1 + 120 != item) } }

theorem gridRuns_lineReturned : gridRuns (lineReturned role op item s) = gridRuns s := rfl
theorem currentEpoch_lineReturned : currentEpoch (lineReturned role op item s) = currentEpoch s := rfl

variable {b item s}

theorem reinstateItem_idle (h : itemSnuffed s b item = false) : reinstateItem role op b item s = s := by
  rw [reinstateItem, h]
  rfl

/-- A sensor comes back with its disagreements forgotten, from the off set. -/
theorem reinstateItem_sensor (h : itemSnuffed s 10 item = true) : reinstateItem role op 10 item s =
    let t := itemReturned role op 10 item s
    { t with
      hkp := { t.hkp with disagree := vmodN t.hkp.disagree item (fun _ => 0) }
      snuffOff := snuffAdd 10 item t.snuffOff } := by
  rw [reinstateItem, h]
  rfl

/-- A line comes back with its overruns forgotten: at once without a running grid or an epoch, else at the boundary. -/
theorem reinstateItem_line (h : itemSnuffed s 2 item = true) : reinstateItem role op 2 item s =
    let t := lineReturned role op item s
    if gridRuns s = false ∨ currentEpoch s = none then { t with snuff := snuffDel 2 item t.snuff }
    else { t with snuffOff := snuffAdd 2 item t.snuffOff } := by
  have hnow : (2 = 2 ∧ ((!gridRuns (lineReturned role op item s)) = true
      ∨ (currentEpoch (lineReturned role op item s)).isNone = true)) ↔ gridRuns s = false ∨ currentEpoch s = none := by
    simp only [gridRuns_lineReturned, currentEpoch_lineReturned, Bool.not_eq_true', Option.isNone_iff_eq_none,
      true_and]
  rw [reinstateItem, h]
  exact (if_neg (by decide)).trans (if_congr hnow rfl rfl)

end

end Sys2Proof.Machine
end

section
/-! A reinstatement as HKP_REINSTATE's word asks for it, and the rows of the register writes. -/
namespace Sys2Proof.Machine

open Sys2Proof

section

variable {role op : Byte} {v : Word} {s : State}

theorem reinstateWrite_unkeyed (h : fld v 24 8 ≠ 0xC3) : reinstateWrite role op v s = (0, s) := if_pos h

theorem reinstateWrite_refused (hkey : fld v 24 8 = 0xC3) (h : (fld v 12 4 ≠ 2 ∧ fld v 12 4 ≠ 10) ∨ fld v 9 3 ≠ 0
    ∨ fld v 16 8 ≠ 0 ∨ (if fld v 12 4 = 2 then 280 else 9) ≤ fld v 0 9) : reinstateWrite role op v s = (0x13, s) :=
  (if_neg (not_not.mpr hkey)).trans (if_pos h)

theorem reinstateWrite_item (hkey : fld v 24 8 = 0xC3) (hblock : fld v 12 4 = 2 ∨ fld v 12 4 = 10)
    (h9 : fld v 9 3 = 0) (h16 : fld v 16 8 = 0) (hitem : fld v 0 9 < if fld v 12 4 = 2 then 280 else 9) :
    reinstateWrite role op v s = (0, reinstateItem role op (fld v 12 4) (fld v 0 9) s) := by
  refine (if_neg (not_not.mpr hkey)).trans (if_neg ?_)
  rintro (h | h | h | h)
  · exact hblock.elim h.1 h.2
  · exact h h9
  · exact h h16
  · exact absurd hitem (Nat.not_lt.mpr h)

end

/-- What a reinstatement of a snuffed item leaves (R437). -/
def Reinstated (role op : Byte) (b item : Nat) (s t : State) (e : RaisedEntry) : Prop :=
  t.snuffWrite = true ∧ t.sec.raised = s.sec.raised ++ [e] ∧ e.kind = 6 ∧ e.role = role ∧ e.opcode = op
  ∧ (∀ x ∈ (fltOf t b).items, x.item ≠ item) ∧ t.nvm = s.nvm
  ∧ (b = 10 → t.snuff = s.snuff ∧ t.snuffOff.sensors.getLsbD item = true ∧ t.snuffDue.sensors.getLsbD item = false
      ∧ vget t.hkp.disagree item 0 = 0)
  ∧ (b = 2 → t.snuffDue.lines.getLsbD item = false
      ∧ (gridRuns s = true → (currentEpoch s).isSome → t.snuff = s.snuff ∧ t.snuffOff.lines.getLsbD item = true)
      ∧ (gridRuns s = false ∨ currentEpoch s = none → t.snuff.lines.getLsbD item = false))

section

variable (role op : Byte) {item : Nat} {s : State}

theorem reinstated_sensor (h : itemSnuffed s 10 item = true) (hi : item < 9) :
    Reinstated role op 10 item s (reinstateItem role op 10 item s) (returnEntry role op 10 item s) := by
  rw [reinstateItem_sensor role op h]
  refine ⟨rfl, rfl, rfl, rfl, rfl, itemReturned_items role op 10 item s (by decide), rfl, fun _ => ?_, nofun⟩
  exact ⟨rfl, getLsbD_bitAdd _ hi, getLsbD_bitDel _ hi, (vget_vmodN ..).trans (if_pos ⟨rfl, hi⟩)⟩

theorem reinstated_line (h : itemSnuffed s 2 item = true) (hi : item < 280) :
    Reinstated role op 2 item s (reinstateItem role op 2 item s) (returnEntry role op 2 item s) := by
  have hitems : ∀ x ∈ (fltOf (lineReturned role op item s) 2).items, x.item ≠ item :=
    itemReturned_items role op 2 item s (by decide)
  have hdue : (lineReturned role op item s).snuffDue.lines.getLsbD item = false := getLsbD_bitDel _ hi
  rw [reinstateItem_line role op h]
  extract_lets t
  split
  · next hnow =>
    refine ⟨rfl, rfl, rfl, rfl, rfl, hitems, rfl, nofun, fun _ => ⟨hdue, fun hg he => ?_, fun _ => getLsbD_bitDel _ hi⟩⟩
    rcases hnow with hnow | hnow
    · simp [hg] at hnow
    · simp [hnow] at he
  · next hwait =>
    exact ⟨rfl, rfl, rfl, rfl, rfl, hitems, rfl, nofun,
      fun _ => ⟨hdue, fun _ _ => ⟨rfl, getLsbD_bitAdd _ hi⟩, fun hnow => absurd hnow hwait⟩⟩

theorem reinstated_item {b : Nat} (h : itemSnuffed s b item = true) (hb : b = 2 ∨ b = 10)
    (hi : item < if b = 2 then 280 else 9) :
    Reinstated role op b item s (reinstateItem role op b item s) (returnEntry role op b item s) := by
  rcases hb with rfl | rfl
  · exact reinstated_line role op h hi
  · exact reinstated_sensor role op h hi

end

end Sys2Proof.Machine
end

section

open Sys2Proof Sys2Proof.Machine

/-- Settles O53: who may write, what stops a write, and what each register's write leaves. -/
theorem registerWrites : Obligations.RegisterWrites := by
  refine ⟨mayWrite_session_iff, mayWrite_extension_iff, ?_, ?_, ?_, ?_, ?_, ?_⟩
  · intro w v a b u s no
    refine ⟨fun h => congrArg _ (writeRow_refused h), fun h => congrArg _ (writeRow_refused h),
      fun h => congrArg _ (writeRow_refused h), fun h => congrArg _ (writeRow_refused h), fun hw h => ?_, rfl⟩
    cases w with
    | session k => exact congrArg _ (writeRow_refused h)
    | firmware => exact absurd rfl hw
    | extension => exact congrArg _ (writeRow_refused h)
  · intro k v b u s w
    refine ⟨fun h => ?_, fun h => ?_, fun h => ?_, fun h => ?_⟩
    · rw [exec_faultStatAck, execFaultStatAck, writeRow_session h, regWrite_fltStat]
    · rw [exec_hkpReinstate, execHkpReinstate, writeRow_session h, regWrite_hkpReinstate]
    · exact congrArg _ ((writeRow_session h).trans (congrArg Prod.snd (regWrite_secCfgLock w 0x0B v s)))
    · intro f m
      rw [exec_triggerCfgWrite, execTriggerCfgWrite, writeRow_session h]
      refine ⟨fun hrule => ?_, fun hrule => by rw [regWrite_timeTrgCfg_stopped u v s _ _ hrule]⟩
      have htaken := (regWrite_timeTrgCfg_taken u v s w 0x0B hrule).trans (takeWord_timeTrgCfg u s f)
      exact ⟨_, rfl, htaken, fun hm => by rw [htaken, if_pos hm, disarm_armed]⟩
  · intro k a v s b o h hflt hhkp hsec hcap hhif
    rw [exec_registerWrite, execRegisterWrite, writeRow_session h]
    refine ⟨fun hstop => ?_, fun hmask hcapture hrule => ⟨_, rfl, ?_, fun hlink heng => ?_, fun hplain => ?_⟩⟩
    · rw [regWrite_stopped _ _ v s hflt hhkp hsec hcap hhif hstop]
    · exact regWrite_taken _ _ v s hflt hhkp hsec hcap hhif hmask hcapture hrule
    · rw [regWrite_taken _ _ v s hflt hhkp hsec hcap hhif hmask hcapture hrule, takeWord_shadow _ _ _ hlink heng]
    · rw [regWrite_taken _ _ v s hflt hhkp hsec hcap hhif hmask hcapture hrule, takeWord_plain _ _ _ hplain]
  · intro a v s h
    exact ⟨_, _, rfl, rfl, writeRow_extension h⟩
  · intro w b v s i hi
    exact fltW1c_stat s b.val w v b.isLt hi
  · intro r op v s b item
    refine ⟨reinstateWrite_unkeyed, reinstateWrite_refused, fun hkey hblock h9 h16 hitem => ?_⟩
    rw [reinstateWrite_item hkey hblock h9 h16 hitem]
    refine ⟨fun hidle => by rw [reinstateItem_idle r op hidle], fun hsnuffed => ⟨_, returnEntry r op b item s, rfl, ?_⟩⟩
    exact reinstated_item r op hsnuffed hblock hitem

end

section
/-! Segments cut from a packet and joined to one, and the answers of relays and broadcasts (R63 to R65, R356). -/
namespace Sys2Proof.Machine

open Sys2Proof

/-! ### Joining segments -/

/-- A reassembly is the one a segment belongs to. -/
def reasmOf (rp : Bool) (src : Byte) (g : Segment) (x : Reasm) : Bool :=
  x.isReply == rp && x.src == src && x.iface == g.iface && x.tag == g.tag

section

variable {rp : Bool} {src d : Byte} {g : Segment} {s : State}

/-- A segment that does not follow in order is dropped. -/
theorem joinSegment_outOfOrder (hseg : g.seg ≠ 0)
    (h : s.link.reasm.any (fun x => reasmOf rp src g x && x.next == g.seg) = false) :
    joinSegment rp src d g s = (s, none) := by
  refine if_pos ⟨hseg, ?_⟩
  rw [Option.isNone_iff_eq_none, List.find?_eq_none]
  intro x hx
  exact List.any_eq_false.mp h x hx

/-- Segment 0 begins its packet anew. -/
theorem joinSegment_first (hseg : g.seg = 0) : joinSegment rp src d g s =
    let rest := s.link.reasm.filter (fun x => !reasmOf rp src g x)
    if g.last then ({ s with link := { s.link with reasm := rest } }, some g.bytes)
    else ({ s with link := { s.link with reasm := rest ++ [⟨rp, src, g.iface, g.tag, 1, g.bytes, d⟩] } }, none) := by
  rw [joinSegment]
  refine (if_neg (fun h => h.1 hseg)).trans ?_
  rw [hseg]
  rfl

/-- The segment that follows in order is added to its packet. -/
theorem joinSegment_next {rest : List Reasm} {n : Nat} {b : List Byte} {e : Byte} (hn : g.seg = n) (h0 : n ≠ 0)
    (hreasm : s.link.reasm = rest ++ [⟨rp, src, g.iface, g.tag, n, b, e⟩])
    (hrest : rest.any (reasmOf rp src g) = false) :
    joinSegment rp src d g s =
      if g.last then ({ s with link := { s.link with reasm := rest } }, some (b ++ g.bytes))
      else ({ s with link := { s.link with
        reasm := rest ++ [⟨rp, src, g.iface, g.tag, n + 1, b ++ g.bytes, d⟩] } }, none) := by
  subst hn
  have hnone : ∀ x ∈ rest, reasmOf rp src g x = false := fun x hx => by simpa using List.any_eq_false.mp hrest x hx
  have hself : reasmOf rp src g ⟨rp, src, g.iface, g.tag, g.seg, b, e⟩ = true := by simp [reasmOf]
  have hold : s.link.reasm.find? (fun x => reasmOf rp src g x && x.next == g.seg) =
      some ⟨rp, src, g.iface, g.tag, g.seg, b, e⟩ := by
    rw [hreasm, List.find?_append, List.find?_eq_none.mpr (fun x hx => by simp [hnone x hx])]
    simp [hself]
  have hkept : s.link.reasm.filter (fun x => !reasmOf rp src g x) = rest := by
    rw [hreasm, List.filter_append, List.filter_eq_self.mpr (fun x hx => by simp [hnone x hx])]
    simp [hself]
  unfold reasmOf at hold hkept
  simp only [joinSegment, hold, hkept, Option.isNone_some, Bool.false_eq_true, and_false, if_false, h0, Option.map_some,
    Option.getD_some]

end

/-! ### Cutting a packet into segments -/

/-- Enough segments carry all bytes of a packet. -/
theorem segments_bytes (i tag : Byte) (n k : Nat) (l : List Byte) (h : l.length ≤ 252 * (n + 1)) :
    (segments i tag (n + 1) k l).flatMap (fun g => g.drop 4) = l := by
  induction n generalizing k l with
  | zero => simp [segments, show l.length ≤ 252 by omega]
  | succ n ih =>
    rw [segments]
    by_cases hl : l.length ≤ 252
    · simp [hl]
    · have hdrop : (l.drop 252).length ≤ 252 * (n + 1) := by
        rw [List.length_drop]
        omega
      simp [hl, ih (k + 1) (l.drop 252) hdrop]

theorem segments_form (i tag : Byte) (n k : Nat) (l : List Byte) :
    ∀ g ∈ segments i tag n k l, g.length ≤ 256 ∧ g.take 2 = [i, tag] := by
  induction n generalizing k l with
  | zero => exact fun g hg => nomatch hg
  | succ n ih =>
    intro g hg
    rw [segments] at hg
    rcases List.mem_cons.mp hg with rfl | hg
    · refine ⟨?_, rfl⟩
      simp only [List.length_append, List.length_take, List.length_cons, List.length_nil]
      omega
    · split at hg
      · exact nomatch hg
      · exact ih _ _ g hg

/-! ### Frames of packets -/

section

variable {p : Fin 4} {src d : Byte} {g : Segment} {s : State}

theorem addressedHere_iff : addressedHere s d = true ↔ (s.link.addr = some d ∨ d = 0xFF) := by
  simp [addressedHere]

theorem execCmdFrameReceive_elsewhere (h : linkRuns s = false ∨ (s.link.addr ≠ some d ∧ d ≠ 0xFF)) :
    execCmdFrameReceive p src d g s = .next s := by
  refine congrArg _ (if_pos ?_)
  simp only [Bool.or_eq_true, Bool.not_eq_true']
  refine h.imp_right (fun h => ?_)
  rw [← Bool.not_eq_true, addressedHere_iff]
  exact not_or.mpr h

/-- A whole packet waits to be taken. -/
theorem execCmdFrameReceive_here (hrun : linkRuns s = true) (h : s.link.addr = some d ∨ d = 0xFF) :
    execCmdFrameReceive p src d g s =
      let r := joinSegment false src d g s
      .next (if r.2.isSome then { r.1 with link := { r.1.link with cmdReady := r.1.link.cmdReady + 1 } } else r.1) := by
  have hhere : (!linkRuns s || !addressedHere s d) = false := by simp [hrun, addressedHere_iff.mpr h]
  rw [execCmdFrameReceive, hhere]
  rcases joinSegment false src d g s with ⟨t, b⟩
  cases b <;> rfl

theorem execRplFrameReceive_stopped (h : linkRuns s = false) : execRplFrameReceive p src g s = .next s := by
  rw [execRplFrameReceive, h]
  rfl

theorem execRplFrameReceive_part (hrun : linkRuns s = true) (h : (joinSegment true src (ownAddr s) g s).2 = none) :
    execRplFrameReceive p src g s = .next (joinSegment true src (ownAddr s) g s).1 := by
  rw [execRplFrameReceive, hrun]
  generalize joinSegment true src (ownAddr s) g s = r at h
  obtain ⟨t, b⟩ := r
  cases h
  rfl

theorem execRplFrameReceive_whole {b : List Byte} (hrun : linkRuns s = true)
    (h : (joinSegment true src (ownAddr s) g s).2 = some b) :
    execRplFrameReceive p src g s = .next (takeReply src g.iface g.tag b (joinSegment true src (ownAddr s) g s).1) := by
  rw [execRplFrameReceive, hrun]
  generalize joinSegment true src (ownAddr s) g s = r at h
  obtain ⟨t, b⟩ := r
  cases h
  rfl

end

/-! ### Relays -/

theorem find?_none_of_all_not {α : Type} {l : List α} {p : α → Bool} (h : l.all (fun x => !p x) = true) :
    l.find? p = none :=
  List.find?_eq_none.mpr (fun x hx => by simpa using List.all_eq_true.mp h x hx)

section

variable {src : Byte} {i : Iface} {tag : Byte} {b : List Byte} {s : State}

/-- A reply of a relayed command is queued for the command's interface (R63, R64). -/
theorem takeReply_relayed {r : Relay}
    (h : s.sec.relays.find? (fun r => r.iface == i && r.tag == tag && r.dest == src) = some r) :
    takeReply src i tag b s = queueReply i ⟨b, .normal⟩ { s with sec := { s.sec with
      relays := if (b.getD 5 0).getLsbD 1 then s.sec.relays.erase r
        else s.sec.relays.erase r ++ [{ r with accepted := true }] } } := by
  simp only [takeReply, h]

/-- Another reply answers a broadcast when it is final (R65). -/
theorem takeReply_unrelayed
    (h : s.sec.relays.all (fun r => !(r.iface == i && r.tag == tag && r.dest == src)) = true) :
    takeReply src i tag b s = if (b.getD 5 0).getLsbD 1 then noteAnswer i tag src (b.headD 0) s else s := by
  simp only [takeReply, find?_none_of_all_not h]

theorem execRelayTimeout_none (h : s.sec.relays.all (fun r => !(r.iface == i && r.tag == tag)) = true) :
    execRelayTimeout i tag s = .next s := by
  simp only [execRelayTimeout, find?_none_of_all_not h]

/-- A relayed command that times out is answered with TIMEOUT (R63). -/
theorem execRelayTimeout_some {r : Relay} (h : s.sec.relays.find? (fun r => r.iface == i && r.tag == tag) = some r) :
    execRelayTimeout i tag s = .next (queueReply i ⟨replyBytes (ownAddr s) 0x51 tag true false false [], .normal⟩
      { s with sec := { s.sec with relays := s.sec.relays.erase r } }) := by
  simp only [execRelayTimeout, h]

end

/-! ### The summary of a broadcast -/

/-- An answer's address. -/
def answerAddr (x : Byte × Byte) : Nat := x.1.toNat

theorem insAnswer_eq_orderedInsert (x : Byte × Byte) (l : List (Byte × Byte)) :
    insAnswer x l = l.orderedInsert (answerAddr ⁻¹'o (· ≤ ·)) x := by
  induction l with
  | nil => rfl
  | cons y l ih =>
    rw [insAnswer, List.orderedInsert_cons, ih]
    exact if_congr .rfl rfl rfl

/-- The answers in ascending order of address. -/
def answersSorted (l : List (Byte × Byte)) : List (Byte × Byte) := l.foldl (fun l x => insAnswer x l) []

theorem mem_answersSorted {x : Byte × Byte} {l : List (Byte × Byte)} : x ∈ answersSorted l ↔ x ∈ l := by
  have hfold : ∀ m, x ∈ l.foldl (fun l x => insAnswer x l) m ↔ x ∈ l ∨ x ∈ m := by
    induction l with
    | nil => simp
    | cons y l ih =>
      intro m
      rw [List.foldl_cons, ih, insAnswer_eq_orderedInsert, List.mem_orderedInsert, List.mem_cons]
      tauto
  exact (hfold []).trans (by simp)

theorem answersSorted_pairwise (l : List (Byte × Byte)) :
    ((answersSorted l).map (fun x => x.1.toNat)).Pairwise (· ≤ ·) := by
  rw [List.pairwise_map]
  refine List.foldlRecOn (motive := List.Pairwise (answerAddr ⁻¹'o (· ≤ ·))) l _ .nil (fun m hm x _ => ?_)
  rw [insAnswer_eq_orderedInsert]
  exact hm.orderedInsert x m

/-- The devices a broadcast asked that gave no answer, each with TIMEOUT. -/
def silentAnswers (b : Bcast) : List (Byte × Byte) :=
  (b.asked.filter (fun a => b.answers.all (fun x => x.1 != a))).map (fun a => (a, (0x51 : Byte)))

/-- The answers a summary lists: those that are not OK and the silent devices (R65). -/
def badAnswers (b : Bcast) : List (Byte × Byte) :=
  answersSorted (b.answers.filter (fun x => x.2 != 0) ++ silentAnswers b)

theorem mem_silentAnswers {b : Bcast} {x : Byte × Byte} :
    x ∈ silentAnswers b ↔ (x.2 = 0x51 ∧ x.1 ∈ b.asked ∧ ∀ y ∈ b.answers, y.1 ≠ x.1) := by
  obtain ⟨a, st⟩ := x
  simp only [silentAnswers, List.mem_map, List.mem_filter, List.all_eq_true, bne_iff_ne, Prod.mk.injEq]
  constructor
  · rintro ⟨a', ⟨hask, hno⟩, rfl, rfl⟩
    exact ⟨rfl, hask, hno⟩
  · rintro ⟨rfl, hask, hno⟩
    exact ⟨a, ⟨hask, hno⟩, rfl, rfl⟩

theorem mem_badAnswers {b : Bcast} {x : Byte × Byte} : x ∈ badAnswers b ↔ (x ∈ b.answers ∧ x.2 ≠ 0)
    ∨ (x.2 = 0x51 ∧ x.1 ∈ b.asked ∧ ∀ y ∈ b.answers, y.1 ≠ x.1) := by
  simp only [badAnswers, mem_answersSorted, List.mem_append, List.mem_filter, bne_iff_ne, mem_silentAnswers]

section

variable {i : Iface} {tag : Byte} {s : State}

theorem execBroadcastSummary_none (h : s.sec.bcasts.all (fun b => !(b.iface == i && b.tag == tag)) = true) :
    execBroadcastSummary i tag s = .next s := by
  simp only [execBroadcastSummary, find?_none_of_all_not h]

theorem execBroadcastSummary_some {b : Bcast}
    (h : s.sec.bcasts.find? (fun b => b.iface == i && b.tag == tag) = some b) :
    execBroadcastSummary i tag s = .next (queueReply i ⟨replyBytes (ownAddr s) 0x00 tag true false true
      ([BitVec.ofNat 8 b.answers.length, BitVec.ofNat 8 (b.answers.countP (fun x => x.2 == 0)),
        BitVec.ofNat 8 (badAnswers b).length] ++ (badAnswers b).flatMap (fun x => [x.1, x.2])), .normal⟩
      { s with sec := { s.sec with bcasts := s.sec.bcasts.erase b } }) := by
  rw [execBroadcastSummary, h]
  rfl

end

end Sys2Proof.Machine
end

section
/-! Packets of no defined command: their length, their CRC, their opcode and their destination (R51, R53). -/
namespace Sys2Proof.Machine

open Sys2Proof

/-- The TAG of a packet as far as it came. -/
def rawTag (bytes : List Byte) : Byte := if bytes.length < 2 then 0 else bytes.getD 1 0

/-- A packet's length is not the one its LENGTH field calls for. -/
def BadLength (bytes : List Byte) : Prop :=
  bytes.length < 8 ∨ 4096 < u16 bytes 2 ∨ bytes.length ≠ 8 + u16 bytes 2

/-- A packet's CRC is right. -/
def crcRight (bytes : List Byte) : Bool :=
  u16 bytes (6 + u16 bytes 2) == (crc16 (bytes.take (6 + u16 bytes 2))).toNat

/-- A packet that its own row carries out, or none. -/
def LeftToRow (bytes : List Byte) : Prop :=
  bytes = [] ∨ (¬BadLength bytes ∧ crcRight bytes = true ∧ (opInfo (u8 bytes 0)).isSome)

section

variable {o : Origin} {bytes : List Byte} {s : State}

/-- The model's test for such a packet. -/
theorem leftToRow_iff : (bytes.isEmpty
    || (!decide (bytes.length < 8 ∨ 4096 < u16 bytes 2 ∨ bytes.length ≠ 8 + u16 bytes 2)
      && crcRight bytes && (opInfo (u8 bytes 0)).isSome)) = true ↔ LeftToRow bytes := by
  simp only [LeftToRow, BadLength, Bool.or_eq_true, Bool.and_eq_true, List.isEmpty_iff, Bool.not_eq_true',
    decide_eq_false_iff_not, and_assoc]

theorem execUnknownOpcode_defined (h : LeftToRow bytes) : execUnknownOpcode o bytes s = .next s :=
  if_pos (leftToRow_iff.mpr h)

section

variable (h : ¬ LeftToRow bytes)

include h

/-- A packet of no defined command waits like another. -/
theorem execUnknownOpcode_held (hc : canTake o s = false) :
    execUnknownOpcode o bytes s = .next (holdPacket o bytes s) :=
  (if_neg (mt leftToRow_iff.mp h)).trans (if_pos (by rw [hc]; rfl))

/-- Once it is taken it is answered for its length, its CRC or its opcode, in this order (R51, R53). -/
theorem execUnknownOpcode_taken (hc : canTake o s = true) : execUnknownOpcode o bytes s = .next (
    if bytes.length < 8 ∨ 4096 < u16 bytes 2 ∨ bytes.length ≠ 8 + u16 bytes 2 then
      packetReply o (rawTag bytes) 0x11 (takePacket o s)
    else if (!crcRight bytes) = true then packetReply o (rawTag bytes) 0x10 (takePacket o s)
    else unknownCommand o (bytes.getD 0 0) (rawTag bytes) (bytes.getD 4 0) (bytes.getD 5 0)
      ((bytes.drop 6).take (u16 bytes 2)) (takePacket o s)) :=
  (if_neg (mt leftToRow_iff.mp h)).trans (if_neg (by rw [hc]; decide))

variable (hc : canTake o s = true)

include hc

theorem execUnknownOpcode_badLength (hbad : BadLength bytes) :
    execUnknownOpcode o bytes s = .next (packetReply o (rawTag bytes) 0x11 (takePacket o s)) :=
  (execUnknownOpcode_taken h hc).trans (congrArg _ (if_pos hbad))

theorem execUnknownOpcode_badCrc (hlen : ¬BadLength bytes) (hcrc : crcRight bytes = false) :
    execUnknownOpcode o bytes s = .next (packetReply o (rawTag bytes) 0x10 (takePacket o s)) :=
  (execUnknownOpcode_taken h hc).trans (congrArg _ ((if_neg hlen).trans (if_pos (by rw [hcrc]; rfl))))

theorem execUnknownOpcode_command (hlen : ¬BadLength bytes) (hcrc : crcRight bytes = true) :
    execUnknownOpcode o bytes s = .next (unknownCommand o (bytes.getD 0 0) (rawTag bytes) (bytes.getD 4 0)
      (bytes.getD 5 0) ((bytes.drop 6).take (u16 bytes 2)) (takePacket o s)) :=
  (execUnknownOpcode_taken h hc).trans (congrArg _ ((if_neg hlen).trans (if_neg (by rw [hcrc]; decide))))

end

end

/-! ### A defined form with an unknown opcode -/

section

variable {o : Origin} {i : Iface} {op tag dest flags : Byte} {params : List Byte} {u : State}

theorem unknownCommand_here (hf : flags = 0) (h : (∃ a i, o = .remote a i) ∨ dest = 0xFF ∨ destHere u dest = true) :
    unknownCommand o op tag dest flags params u = packetReply o tag 0x12 u := by
  subst hf
  cases o with
  | remote a i => rfl
  | loc i =>
    have h : dest = 0xFF ∨ destHere u dest = true := h.resolve_left nofun
    exact if_pos h

variable (h255 : dest ≠ 0xFF) (hhere : destHere u dest = false)

include h255 hhere

theorem unknownCommand_unreachable (hr : destReachable u dest = false) :
    unknownCommand (.loc i) op tag dest flags params u = packetReply (.loc i) tag 0x50 u := by
  have hnot : ¬(dest = 0xFF ∨ destHere u dest = true) := not_or.mpr ⟨h255, by simp [hhere]⟩
  exact (if_neg hnot).trans (if_pos (by rw [hr]; rfl))

theorem unknownCommand_relayed (hr : destReachable u dest = true) (hf : flags = 0) :
    unknownCommand (.loc i) op tag dest flags params u =
      relayCommand i op.toNat ⟨.loc i, tag, dest, flags, params⟩ u := by
  subst hf
  have hnot : ¬(dest = 0xFF ∨ destHere u dest = true) := not_or.mpr ⟨h255, by simp [hhere]⟩
  exact (if_neg hnot).trans (if_neg (by rw [hr]; decide))

end

theorem relayCommand_relays (i : Iface) (op : Nat) (p : Packet) (s : State) : (relayCommand i op p s).sec.relays =
    s.sec.relays ++ [⟨i, p.tag, p.dest, BitVec.ofNat 8 op, false⟩] := by
  simp only [relayCommand, sendPacket_sec]

end Sys2Proof.Machine
end

section

open Sys2Proof Sys2Proof.Machine

/-- Settles O58: segments join in order, replies and timeouts answer relays and broadcasts, and a packet of no defined
command is answered for its first fault. -/
theorem linkPackets : Obligations.LinkPackets := by
  refine ⟨?_, ?_, ?_, ?_, ?_, exec_reassemblyTimeout, ?_, ?_⟩
  · intro rp src d g s mine
    refine ⟨joinSegment_outOfOrder, fun hseg hlast => ?_, fun rest n b e hn h0 => joinSegment_next hn h0,
      fun hseg hlast => ?_⟩
    · exact (joinSegment_first hseg).trans (if_pos hlast)
    · exact (joinSegment_first hseg).trans (if_neg (by simp [hlast]))
  · intro i tag b hb
    exact ⟨segments_bytes i tag 16 0 b (by omega), segments_form i tag 17 0 b⟩
  · intro p src d g s
    exact ⟨execCmdFrameReceive_elsewhere (p := p), execCmdFrameReceive_here (p := p)⟩
  · intro p src g s
    exact ⟨execRplFrameReceive_stopped (p := p),
      fun hrun => ⟨execRplFrameReceive_part (p := p) hrun, fun b => execRplFrameReceive_whole (p := p) hrun⟩⟩
  · intro src i tag b s final
    exact ⟨fun r => takeReply_relayed, takeReply_unrelayed⟩
  · intro i tag s
    exact ⟨execRelayTimeout_none, fun r => execRelayTimeout_some, execBroadcastSummary_none, fun b hb =>
      ⟨badAnswers b, execBroadcastSummary_some hb, answersSorted_pairwise _, fun x => mem_badAnswers⟩⟩
  · intro o bytes s n tag bad crcOk u answer
    refine ⟨execUnknownOpcode_defined, fun hne hdef => ?_⟩
    have hunknown : ¬ LeftToRow bytes := fun h => h.elim hne hdef
    refine ⟨execUnknownOpcode_held hunknown, fun hc => ⟨execUnknownOpcode_badLength hunknown hc,
      execUnknownOpcode_badCrc hunknown hc, fun hlen hcrc hflags hhere => ?_, fun i hlen hcrc ho h255 hhere => ?_⟩⟩
    · exact (execUnknownOpcode_command hunknown hc hlen hcrc).trans (congrArg _ (unknownCommand_here hflags hhere))
    · subst ho
      have hcommand := execUnknownOpcode_command hunknown hc hlen hcrc
      refine ⟨fun hr => hcommand.trans (congrArg _ (unknownCommand_unreachable h255 hhere hr)), fun hr hflags => ?_⟩
      exact ⟨_, hcommand.trans (congrArg _ (unknownCommand_relayed h255 hhere hr hflags)), relayCommand_relays ..⟩

end

section
/-! The accesses of both interfaces and the stream port, and the quad serial target: BULK_READ and READ_STATE, and the
transactions that end as protocol events (R92, R107 to R109). -/
namespace Sys2Proof.Machine

open Sys2Proof

/-! ### An interface's own part of the state -/

section

variable (i : Iface) (f : HostPort → HostPort) (s : State)

/-- Changes of an interface's own part, one after the other, make one. -/
theorem modPort_modPort (g : HostPort → HostPort) : modPort i g (modPort i f s) = modPort i (fun p => g (f p)) s := by
  cases i <;> rfl

/-- The bytes an access returns are kept beside what it changes of its interface. -/
theorem returned_modPort (l : List Byte) :
    returned i (l, modPort i f s) = modPort i (fun p => { f p with lastRead := l }) s := by
  rw [returned, modPort_modPort]

@[simp] theorem portRecs_modPort (j : Iface) : portRecs j (modPort i f s) = portRecs j s := by cases i <;> rfl

@[simp] theorem portRecs_quadSelect (j : Iface) : portRecs j (quadSelect s) = portRecs j s := rfl

end

section

variable {i : Iface} {f : State → State} {s : State}

theorem access_live (h : windowLive i s = true) : access i f s = f s := if_pos h

theorem access_silent (h : windowLive i s = false) : access i f s = s := if_neg (Bool.eq_false_iff.mp h)

end

/-! ### The stream port -/

theorem length_take_append_replicate {α : Type} (n : Nat) (x : α) (l : List α) :
    (l.take n ++ List.replicate (n - l.length) x).length = n := by
  rw [List.length_append, List.length_take, List.length_replicate]
  omega

/-- A list cut to a length and filled up to it holds its first elements, and the filler past its end. -/
theorem padTo_take {α : Type} (n : Nat) (x : α) (l : List α) :
    padTo n x (l.take n) = l.take n ++ List.replicate (n - l.length) x := by
  have hfill : n - (l.take n).length = n - l.length := by rw [List.length_take]; omega
  rw [padTo, hfill]
  exact List.take_of_length_le (length_take_append_replicate n x l).le

/-- The bytes of whole records at an interface's stream cursor and past it. -/
def unreadBytes (i : Iface) (s : State) : List Byte :=
  ((portRecs i s).flatMap (fun r => r.2.bytes)).drop (hostPort s i).rdCursor

section

variable (i : Iface) (n : Nat) (s : State)

theorem length_unreadBytes : (unreadBytes i s).length = rdAvail i s := by
  rw [unreadBytes, List.length_drop, List.length_flatMap, rdAvail, portTotal, sumNat, ← List.sum_eq_foldl]

/-- The stream cursor moves by the bytes delivered, and RD_UNDERRUN tells of those past the end (R92). -/
theorem readPort_eq : readPort i n s =
    ((unreadBytes i s).take n ++ List.replicate (n - (unreadBytes i s).length) 0,
      modPort i (fun p => { p with
        rdCursor := (hostPort s i).rdCursor + min n (unreadBytes i s).length
        portStat := if (unreadBytes i s).length < n then p.portStat ||| 4 else p.portStat }) s) := by
  have hread : readPort i n s = (padTo n 0 ((unreadBytes i s).take n), modPort i (fun p => { p with
      rdCursor := (hostPort s i).rdCursor + ((unreadBytes i s).take n).length
      portStat := if ((unreadBytes i s).take n).length < n then p.portStat ||| 4 else p.portStat }) s) := rfl
  simp only [hread, padTo_take, List.length_take, min_lt_iff, lt_irrefl, false_or]

end

/-! ### The rows of the quad serial target -/

section

variable {s : State}

theorem execBulkRead_live (n : Nat) (h : windowLive .quad s = true) :
    execBulkRead n s = .next (modPort .quad (fun p => { p with
      rdCursor := s.hif.quad.rdCursor + min n (unreadBytes .quad s).length
      portStat := if (unreadBytes .quad s).length < n then p.portStat ||| 4 else p.portStat
      lastRead := (unreadBytes .quad s).take n ++ List.replicate (n - (unreadBytes .quad s).length) 0 })
      (quadSelect s)) := by
  have hbytes : unreadBytes .quad (quadSelect s) = unreadBytes .quad s := rfl
  rw [execBulkRead, access_live h, readPort_eq, returned_modPort, hbytes]
  rfl

theorem execReadState_live (n : Nat) (h : windowLive .quad s = true) :
    execReadState n s =
      .next (modPort .quad (fun p => { p with lastRead := List.replicate n (hwState s) }) (quadSelect s)) :=
  congrArg _ (access_live h)

theorem execCsAbort_live (h : windowLive .quad s = true) :
    execCsAbort s = .next (protoEvent .quad
      { s with hif := { s.hif with qspiStat := s.hif.qspiStat ||| 1, csLow := false } }) :=
  congrArg _ (access_live h)

variable {c : Byte}

theorem execBadInstr_known (h : windowLive .quad s = true) (hc : c = 0x02 ∨ c = 0x0B ∨ c = 0x05 ∨ c = 0x3B) :
    execBadInstr c s = .next s := by
  rw [execBadInstr, access_live h, if_pos hc]

theorem execBadInstr_unknown (h : windowLive .quad s = true) (hc : ¬(c = 0x02 ∨ c = 0x0B ∨ c = 0x05 ∨ c = 0x3B)) :
    execBadInstr c s = .next (protoEvent .quad
      { quadSelect s with hif := { (quadSelect s).hif with qspiStat := s.hif.qspiStat ||| 2 } }) := by
  rw [execBadInstr, access_live h, if_neg hc]

end

end Sys2Proof.Machine
end

section

open Sys2Proof Sys2Proof.Machine

/-- Settles O45: what each row of the quad serial target returns and leaves. -/
theorem quadTarget : Obligations.QuadTarget := by
  intro s h u
  refine ⟨fun n => ?_, fun n => execReadState_live n h, execCsAbort_live h, fun c => ⟨execBadInstr_known h, ?_⟩⟩
  · exact ⟨_, execBulkRead_live n h, rfl, length_take_append_replicate .., length_unreadBytes .quad s,
      rfl, rfl, rfl, rfl, (portRecs_modPort ..).trans (portRecs_quadSelect ..)⟩
  · intro h2 hB h5 h3B
    exact execBadInstr_unknown h fun hc => hc.elim h2 fun hc => hc.elim hB fun hc => hc.elim h5 h3B

end

section
/-! The command and reply mailboxes of an interface's window (R88 to R91). -/
namespace Sys2Proof.Machine

open Sys2Proof

/-! ### The offsets of the window's mailboxes -/

section

variable {i : Iface} {s : State}

theorem windowWrite_mailbox {off : Nat} (b : Byte) (hlow : windowLow s = false) (h0 : 0x100 ≤ off) (h1 : off < 0x200) :
    windowWrite i off b s = mailboxWrite i b s := by
  rw [windowWrite, if_neg (by omega), hlow, if_neg (by decide), if_pos ⟨h0, h1⟩]

theorem windowWrite_doorbell (b : Byte) (hlow : windowLow s = false) : windowWrite i 0x14 b s = doorbell i b s := by
  rw [windowWrite, hlow]
  rfl

theorem windowWrite_replyPop (hlow : windowLow s = false) : windowWrite i 0x19 1 s = popReply i s := by
  rw [windowWrite, hlow]
  rfl

theorem windowWrite_replyRewind (hlow : windowLow s = false) :
    windowWrite i 0x19 2 s = modPort i (fun p => { p with rplCursor := 0 }) s := by
  rw [windowWrite, hlow]
  rfl

theorem windowRead_reply (hlow : windowLow s = false) : windowRead i 0x200 s = replyRead i s := by
  rw [windowRead, hlow]
  rfl

end

/-! ### The command mailbox -/

section

variable {i : Iface} {s : State}

theorem mailboxWrite_open (b : Byte) (h : (hostPort s i).mbox.submitted = false) :
    mailboxWrite i b s = modPort i (fun p => { p with mbox := { p.mbox with
      buf := if (hostPort s i).mbox.buf.length < 4104 then (hostPort s i).mbox.buf ++ [b] else (hostPort s i).mbox.buf
      count := sat16 (hostPort s i).mbox.count 1 } }) s := by
  rw [mailboxWrite, h]
  cases i <;> rfl

theorem mailboxWrite_submitted (b : Byte) (h : (hostPort s i).mbox.submitted = true) :
    mailboxWrite i b s = protoEvent i (modPort i (fun p => { p with portStat := p.portStat ||| 1 }) s) :=
  if_pos h

theorem doorbell_submitted {b : Byte} (hb : b = 1 ∨ b = 2) (h : (hostPort s i).mbox.submitted = true) :
    doorbell i b s = protoEvent i s :=
  (if_pos hb).trans (if_pos h)

theorem doorbell_submit_open (h : (hostPort s i).mbox.submitted = false) :
    doorbell i 1 s = if (hostPort s i).mbox.count = 0 then s else
      modPort i (fun p => { p with mbox := { p.mbox with submitted := true } }) s := by
  rw [doorbell, h]
  rfl

theorem doorbell_discard_open (h : (hostPort s i).mbox.submitted = false) :
    doorbell i 2 s = modPort i (fun p => { p with mbox := { buf := [], count := 0, submitted := false } }) s := by
  rw [doorbell, h]
  rfl

theorem protoCnt_protoCount : (hostPort (protoCount i s) i).protoCnt = sat16 (hostPort s i).protoCnt 1 := by
  cases i <;> rfl

theorem mbox_protoCount : (hostPort (protoCount i s) i).mbox = (hostPort s i).mbox := by
  cases i <;> rfl

end

/-! ### The reply mailbox -/

section

variable {i : Iface} {s : State} {r : Reply} {l : List Reply}

theorem replyRead_byte (h : (hostPort s i).replies = r :: l) (hc : (hostPort s i).rplCursor < r.bytes.length) :
    replyRead i s =
      (r.bytes.getD (hostPort s i).rplCursor 0, modPort i (fun p => { p with rplCursor := p.rplCursor + 1 }) s) := by
  simp only [replyRead, h, if_pos hc]

/-- No reply byte stands at the cursor. -/
theorem replyRead_underrun (h : (hostPort s i).replies = [] ∨
    ∃ r l, (hostPort s i).replies = r :: l ∧ r.bytes.length ≤ (hostPort s i).rplCursor) :
    replyRead i s = (0, modPort i (fun p => { p with portStat := p.portStat ||| 2 }) s) := by
  rcases h with h | ⟨r, l, h, hc⟩
  · simp only [replyRead, h]
  · simp only [replyRead, h, if_neg (Nat.not_lt.mpr hc)]

/-- The interface after its head reply is removed: interrupt line 15, and a held reply admitted (R57, R91). -/
def replyTaken (i : Iface) (l : List Reply) (s : State) : State :=
  edgeLine 15 (modPort i (fun p => { p with
    rplCursor := 0, replies := l ++ p.heldReplies.take 1, heldReplies := p.heldReplies.drop 1 }) s)

theorem popReply_empty (h : (hostPort s i).replies = []) : popReply i s = s := by
  simp only [popReply, h]

theorem popReply_normal (h : (hostPort s i).replies = r :: l) (hr : r.purpose = .normal) :
    popReply i s = replyTaken i l s := by
  simp only [popReply, h, hr]
  rfl

/-- The commanded reset waits for its reply's pop (R133). -/
theorem popReply_reset (h : (hostPort s i).replies = r :: l) (hr : r.purpose = .reset) :
    popReply i s = resetBegin (replyTaken i l s) := by
  simp only [popReply, h, hr]
  rfl

/-- The entry to EMBER or RETAIN waits for its reply's pop (R126). -/
theorem popReply_ember {d : PowerState} (h : (hostPort s i).replies = r :: l) (hr : r.purpose = .ember)
    (hd : s.sys.emberArmed = some d) : popReply i s = sleepEnter d (replyTaken i l s) := by
  simp only [popReply, h, hr, edgeLine_sys, modPort_sys, hd]
  rfl

theorem popReply_ember_unarmed (h : (hostPort s i).replies = r :: l) (hr : r.purpose = .ember)
    (hd : s.sys.emberArmed = none) : popReply i s = replyTaken i l s := by
  simp only [popReply, h, hr, edgeLine_sys, modPort_sys, hd]
  rfl

end

/-! ### The rows of the mailboxes -/

section

variable {i : Iface} {s : State} (h : windowLive i s = true) (hlow : windowLow s = false)

include h hlow

theorem execCmdMailboxWrite_live (b : Byte) : execCmdMailboxWrite i b s = .next (mailboxWrite i b s) := by
  rw [execCmdMailboxWrite, access_live h, windowWrite_mailbox b hlow (by omega) (by omega)]

theorem execDoorbellSubmit_live : execDoorbellSubmit i s = .next (doorbell i 1 s) := by
  rw [execDoorbellSubmit, access_live h, windowWrite_doorbell 1 hlow]

theorem execDoorbellDiscard_live : execDoorbellDiscard i s = .next (doorbell i 2 s) := by
  rw [execDoorbellDiscard, access_live h, windowWrite_doorbell 2 hlow]

theorem execReplyMailboxRead_live : execReplyMailboxRead i s = .next (returned1 i (replyRead i s)) := by
  rw [execReplyMailboxRead, access_live h, windowRead_reply hlow]

theorem execReplyPop_live : execReplyPop i s = .next (popReply i s) := by
  rw [execReplyPop, access_live h, windowWrite_replyPop hlow]

theorem execReplyRewind_live : execReplyRewind i s = .next (modPort i (fun p => { p with rplCursor := 0 }) s) := by
  rw [execReplyRewind, access_live h, windowWrite_replyRewind hlow]

end

end Sys2Proof.Machine
end

section

open Sys2Proof Sys2Proof.Machine

/-- Settles O42: what each row of the command and reply mailboxes leaves on either interface. -/
theorem commandMailbox : Obligations.CommandMailbox := by
  refine ⟨fun i s b off hlive hlow h0 h1 => ?_, fun i s => ⟨protoCnt_protoCount, mbox_protoCount⟩,
    fun i s hlive hlow => ?_, fun i s b hsilent => ?_⟩
  · have hbyte : exec (.cmdMailboxWrite i b) s = .next (mailboxWrite i b s) := execCmdMailboxWrite_live hlive hlow b
    have hwindow : windowWrite i off b s = mailboxWrite i b s := windowWrite_mailbox b hlow h0 h1
    have hsubmit : exec (.doorbellSubmit i) s = .next (doorbell i 1 s) := execDoorbellSubmit_live hlive hlow
    have hdiscard : exec (.doorbellDiscard i) s = .next (doorbell i 2 s) := execDoorbellDiscard_live hlive hlow
    rw [hbyte, hwindow, hsubmit, hdiscard]
    refine ⟨fun hopen => ?_, fun hsub => ?_, fun hopen => ?_⟩
    · exact ⟨congrArg _ (mailboxWrite_open b hopen), mailboxWrite_open b hopen⟩
    · exact ⟨congrArg _ (mailboxWrite_submitted b hsub), mailboxWrite_submitted b hsub,
        congrArg _ (doorbell_submitted (.inl rfl) hsub), congrArg _ (doorbell_submitted (.inr rfl) hsub)⟩
    · exact ⟨congrArg _ (doorbell_submit_open hopen), congrArg _ (doorbell_discard_open hopen)⟩
  · have hread : exec (.replyMailboxRead i) s = .next (returned1 i (replyRead i s)) :=
      execReplyMailboxRead_live hlive hlow
    have hpop : exec (.replyPop i) s = .next (popReply i s) := execReplyPop_live hlive hlow
    rw [hread, hpop]
    refine ⟨fun r l hr hc => ?_, fun hnone => ?_, fun hnone => congrArg _ (popReply_empty hnone), fun r l hr => ?_,
      execReplyRewind_live hlive hlow⟩
    · rw [replyRead_byte hr hc]
      exact congrArg _ (returned_modPort ..)
    · rw [replyRead_underrun hnone]
      exact congrArg _ (returned_modPort ..)
    · refine congrArg _ ?_
      cases hp : r.purpose with
      | normal => exact popReply_normal hr hp
      | reset => exact popReply_reset hr hp
      | ember =>
        cases hd : s.sys.emberArmed with
        | none => exact popReply_ember_unarmed hr hp hd
        | some d => exact popReply_ember hr hp hd
  · have hnot : ∀ f : State → State, Host.Outcome.next (access i f s) = (.next s : Host.Outcome State Fault Refusal) :=
      fun f => congrArg _ (access_silent hsilent)
    exact ⟨hnot _, hnot _, hnot _, hnot _, hnot _, hnot _⟩

end

section
/-! Reads of sparse files: the part in an address range, and a word written (R31, R138). -/
namespace Sys2Proof.Machine

open Sys2Proof

/-! ### Reads of a sparse file -/

section

variable {β : Type}

/-- A filter on keys keeps the value of each key it takes and loses the others. -/
theorem look_filter_key (p : Nat → Prop) [DecidablePred p] (k : Nat) (l : List (Nat × β)) :
    look k (l.filter (fun x => decide (p x.1))) = if p k then look k l else none := by
  induction l with
  | nil => simp [look]
  | cons c l ih =>
    obtain ⟨a, b⟩ := c
    rw [List.filter_cons]
    by_cases hka : a = k
    · subst hka
      by_cases hp : p a <;> simp [look, hp, ih]
    · by_cases hp : p a <;> simp [look, hka, hp, ih]

theorem look_eq_none_of_keys {k : Nat} {l : List (Nat × β)} (h : ∀ x ∈ l, x.1 ≠ k) : look k l = none := by
  induction l with
  | nil => rfl
  | cons c l ih =>
    obtain ⟨a, b⟩ := c
    rw [List.forall_mem_cons] at h
    simp [look, h.1, ih h.2]

variable [DecidableEq β]

theorem look_sparseSet_of_ne (d : β) (v : β) {a c : Nat} (h : c ≠ a) (l : List (Nat × β)) :
    look c (sparseSet d a v l) = look c l := by
  induction l with
  | nil => by_cases hv : v = d <;> simp [sparseSet, look, hv, h.symm]
  | cons x l ih =>
    obtain ⟨b, w⟩ := x
    rw [sparseSet]
    split
    · split <;> simp [look, h.symm]
    · split
      · next hab => subst hab; split <;> simp [look, h.symm]
      · simp only [look, ih]

/-- In a file whose keys rise, a value written reads back. -/
theorem look_sparseSet_self (d : β) (a : Nat) (v : β) {l : List (Nat × β)} (hl : l.Pairwise (fun x y => x.1 < y.1)) :
    (look a (sparseSet d a v l)).getD d = v := by
  induction l with
  | nil => by_cases hv : v = d <;> simp [sparseSet, look, hv]
  | cons x l ih =>
    obtain ⟨b, w⟩ := x
    obtain ⟨hfirst, hrest⟩ := List.pairwise_cons.mp hl
    have habsent : a ≤ b → look a l = none := fun hab => look_eq_none_of_keys (fun y hy => by have := hfirst y hy; omega)
    rw [sparseSet]
    split
    · next hab =>
      have hne : b ≠ a := by omega
      by_cases hv : v = d <;> simp [look, hv, hne, habsent hab.le]
    · split
      · next hab =>
        subst hab
        by_cases hv : v = d <;> simp [look, hv, habsent le_rfl]
      · next hab => simp [look, Ne.symm hab, ih hrest]

end

/-! ### Register files -/

theorem fileGet_fileSet_self {f : RegFile} (a : Nat) (w : Word) (hf : f.Pairwise (fun x y => x.1 < y.1)) :
    fileGet (fileSet a w f) a = (w &&& regMask a) ||| (regReset a &&& ~~~(regMask a)) :=
  look_sparseSet_self (regReset a) a _ hf

theorem fileGet_fileSet_of_ne (f : RegFile) {a c : Nat} (w : Word) (h : c ≠ a) :
    fileGet (fileSet a w f) c = fileGet f c := by
  rw [fileGet, fileSet, look_sparseSet_of_ne _ _ h, fileGet]

/-! ### The words in force -/

theorem acw_applyRange {lo hi : Nat} (h : lo ≤ hi) (s : State) (a : Nat) :
    acw (applyRange lo hi s) a = if lo ≤ a ∧ a < hi then shw s a else acw s a := by
  simp only [acw, shw, fileGet, applyRange, fileSlice, look_append]
  rw [look_filter_key (· < lo), look_filter_key (fun b => lo ≤ b ∧ b < hi), look_filter_key (hi ≤ ·)]
  by_cases hlo : a < lo
  · have hin : ¬(lo ≤ a ∧ a < hi) := by omega
    have hhi : ¬hi ≤ a := by omega
    simp [hlo, hin, hhi]
  · by_cases hhi : hi ≤ a
    · have hin : ¬(lo ≤ a ∧ a < hi) := by omega
      simp [hlo, hin, hhi]
    · have hin : lo ≤ a ∧ a < hi := by omega
      simp [hlo, hin, hhi]

theorem applyNow_now {s : State} (b : Nat) (hp : s.sys.power = .active) (hs : s.time.sched = none) :
    applyNow b s = applyBlock b s := by
  simp [applyNow, hp, hs]

theorem applyNow_waits {s : State} (b : Nat) (h : ¬(s.sys.power = .active ∧ s.time.sched = none)) : applyNow b s = s :=
  if_neg (by simpa using h)

end Sys2Proof.Machine
end

section

open Sys2Proof Sys2Proof.Machine

/-- Settles O28: the words of a block reach the active file at once in ACTIVE with no schedule only, and a word written
reads back with its read/write bits. -/
theorem shadowAndActive : Obligations.ShadowAndActive := by
  refine ⟨fun s k _ => ⟨fun hpower hsched => ?_, applyNow_waits k⟩, fun f a w hf =>
    ⟨fileGet_fileSet_self a w hf, fun c hc => fileGet_fileSet_of_ne f w hc⟩⟩
  rw [applyNow_now k hpower hsched]
  exact ⟨acw_applyRange (by omega) s, rfl⟩

end

section

open Sys2Proof Sys2Proof.Machine

/-- Settles O6: every field of `State.reset` holds the value its declaration gives it. -/
theorem resetValues : Obligations.ResetValues := by
  have hroles : ∀ k : Fin 6, roleOf State.reset (.loc .twi) = 0 ∧ State.reset.sec.sessions[k].role = 0 := by decide
  have hstreams : ∀ k : Fin 16, State.reset.res.streams[k].recs = [] := by decide
  have hfaults : ∀ b : Fin 14, fltStat State.reset b.val = 0 := by decide
  have hengine : ∀ d : Fin 16, State.reset.eng.w[d] = 0 := by decide
  exact ⟨rfl, rfl, rfl, rfl, rfl, rfl, rfl, rfl, hroles, rfl, rfl, rfl, rfl, rfl, hstreams, hfaults, rfl,
    fun _ => ⟨rfl, rfl⟩, fun _ => ⟨rfl, rfl, rfl⟩, hengine, rfl, rfl, rfl, rfl, rfl, rfl, rfl, rfl, rfl⟩

end

section
/-! The transitions of Table 4-2 and their completion (R122, R123, R126). -/
namespace Sys2Proof.Machine

open Sys2Proof

/-! ### Operations that leave the SYS block alone -/

section

variable (s : State)

@[simp] theorem brdgPower_sys : (brdgPower s).sys = s.sys := by
  unfold brdgPower
  split <;> rfl

@[simp] theorem timeStop_sys : (timeStop s).sys = s.sys := rfl
@[simp] theorem timeStart_sys : (timeStart s).sys = s.sys := rfl

@[simp] theorem touchDb_sys : (touchDb s).sys = s.sys := by
  unfold touchDb
  split <;> rfl

@[simp] theorem joinFabric_sys : (joinFabric s).sys = s.sys := touchDb_sys _

@[simp] theorem portTouch_sys (n : Fin 4) : (portTouch n s).sys = s.sys := by
  unfold portTouch
  split
  · rfl
  · rw [touchDb_sys, modLink_sys]

@[simp] theorem portsFollow_sys : (portsFollow s).sys = s.sys :=
  foldl_keeps State.sys _ (fun t n => portTouch_sys t n) allPorts s

end

/-! ### The steps of a transition -/

section

variable {s : State}

/-- A device that is not asleep is in DORMANT, STANDBY or ACTIVE (Table 4-1). -/
theorem power_of_not_asleep (h : asleep s = false) :
    s.sys.power = .dormant ∨ s.sys.power = .standby ∨ s.sys.power = .active := by
  cases hp : s.sys.power <;> simp_all [asleep]

theorem leaveActive_active (h : s.sys.power = .active) : (leaveActive s).sys.power = .standby := by
  rw [leaveActive, if_pos h, brdgPower_sys]

theorem leaveActive_standby (h : s.sys.power = .standby) : (leaveActive s).sys.power = .standby := by
  rw [leaveActive, if_neg (by simp [h]), h]

theorem toDormant_sys (s : State) : (toDormant s).sys.power = .dormant ∧ (toDormant s).sys.held = false := by
  unfold toDormant
  extract_lets t
  split
  · next h => exact ⟨h.1, by simpa using h.2⟩
  · rw [portsFollow_sys, timeStop_sys]
    exact ⟨rfl, rfl⟩

theorem toStandby_power (h : asleep s = false) : (toStandby s).sys.power = .standby := by
  rcases power_of_not_asleep h with hp | hp | hp
  · rw [toStandby, hp]
    simp only [apply_ite State.sys, apply_ite SysSt.power, joinFabric_sys, portsFollow_sys, timeStart_sys, ite_self]
  · rw [toStandby, hp]
    exact leaveActive_standby hp
  · rw [toStandby, hp]
    exact leaveActive_active hp

theorem toActive_power (s : State) : (toActive s).sys.power = .active := by
  unfold toActive
  split
  · next h => exact h
  · extract_lets _ old _ powered followed
    have hfollowed : Calm powered followed :=
      keeps_ite ((calm_applyAll powered).trans (calm_configFollow old _)) (.refl powered)
    obtain ⟨-, hpower, -⟩ := hfollowed.fields
    rw [brdgPower_sys, hpower]

/-- The power state that the steps of a transition reach: those to EMBER and RETAIN as far as DORMANT (R126). -/
def stepsReach : PowerState → PowerState
  | .standby => .standby
  | .active => .active
  | _ => .dormant

theorem takeTransition_power (b : PowerState) (h : asleep s = false) :
    (takeTransition b s).sys.power = stepsReach b := by
  cases b with
  | standby => exact toStandby_power h
  | active => exact toActive_power s
  | dormant | ember | retain => exact (toDormant_sys s).1

end

/-! ### POWER_TRANSITION_COMPLETE -/

/-- The target is the present state and nothing is held: no step is taken (R123). -/
def staysPut (x : Transition) (s : State) : Bool := decide (x.target = x.start) && !s.sys.held

/-- EMBER and RETAIN are entered after the reply's pop only (R126). -/
def sleepTarget (x : Transition) : Bool := x.target == .ember || x.target == .retain

/-- The steps of a transition taken. -/
def transitionSteps (x : Transition) (s : State) : State := if staysPut x s then s else takeTransition x.target s

/-- The state in which a transition's reply is produced (R122, R126, Table 4-4). -/
def transitionDone (x : Transition) (us : Nat) (s : State) : State :=
  let t := transitionSteps x s
  edgeLine 22 { t with sys := { t.sys with
    trans := if sleepTarget x then some x else none
    lastUs := if staysPut x s then t.sys.lastUs else BitVec.ofNat 16 (min 0xFFFF us)
    emberArmed := if sleepTarget x then some x.target else none } }

section

variable {s : State} {x : Transition}

theorem exec_powerTransitionComplete_idle (us : Nat) (h : findOut s 0x08 = none) :
    exec (.powerTransitionComplete us) s = .next s := by
  rw [exec_powerTransitionComplete]
  unfold execPowerTransitionComplete
  rw [h]
  cases s.sys.trans <;> rfl

theorem exec_powerTransitionComplete_done (us : Nat) {o : Outstanding} (hx : s.sys.trans = some x)
    (ho : findOut s 0x08 = some o) (hb : x.boundary = false) (hr : s.sys.inReset = false) (ha : asleep s = false) :
    exec (.powerTransitionComplete us) s = .next (completeDeferred 0x08 0x00 ([BitVec.ofNat 8 (powerCode x.target), 0]
      ++ le 2 (min 0xFFFF us)) (if sleepTarget x then .ember else .normal) (transitionDone x us s)) := by
  rw [exec_powerTransitionComplete]
  unfold execPowerTransitionComplete
  rw [hx, ho]
  simp only [hb, hr, ha]
  rfl

theorem staysPut_iff : staysPut x s = true ↔ x.target = x.start ∧ s.sys.held = false := by
  simp [staysPut]

theorem sleepTarget_iff : sleepTarget x = true ↔ x.target = .ember ∨ x.target = .retain := by
  simp [sleepTarget]

/-- The steps reach their target, where the state they began in is still the present one. -/
theorem transitionSteps_power (ha : asleep s = false) (hstart : x.start = s.sys.power) :
    (transitionSteps x s).sys.power = stepsReach x.target := by
  unfold transitionSteps
  split
  · next h =>
    have hpower : x.target = s.sys.power := (staysPut_iff.mp h).1.trans hstart
    rw [hpower]
    rcases power_of_not_asleep ha with hp | hp | hp <;> rw [hp] <;> rfl
  · exact takeTransition_power x.target ha

theorem transitionSteps_held (h : x.target = .dormant) : (transitionSteps x s).sys.held = false := by
  unfold transitionSteps
  split
  · next hput => exact (staysPut_iff.mp hput).2
  · rw [h]
    exact (toDormant_sys s).2

theorem transitionDone_stays (us : Nat) (h : staysPut x s = true) : (transitionDone x us s).time = s.time
    ∧ (transitionDone x us s).link = s.link ∧ (transitionDone x us s).shadow = s.shadow
    ∧ (transitionDone x us s).active = s.active := by
  unfold transitionDone transitionSteps
  rw [if_pos h]
  exact ⟨rfl, rfl, rfl, rfl⟩

theorem transitionDone_armed (us : Nat) (h : x.target = .ember ∨ x.target = .retain) :
    (transitionDone x us s).sys.emberArmed = some x.target :=
  if_pos (sleepTarget_iff.mpr h)

theorem transitionDone_ends (us : Nat) (h : ¬(x.target = .ember ∨ x.target = .retain)) :
    (transitionDone x us s).sys.emberArmed = none ∧ (transitionDone x us s).sys.trans = none :=
  have hstays : ¬sleepTarget x = true := mt sleepTarget_iff.mp h
  ⟨if_neg hstays, if_neg hstays⟩

/-- SET_POWER_STATE is answered with the power state reached and its duration (R122, R126, Table 4-4). -/
theorem powerTransition_completes (us : Nat) {o : Outstanding} (hx : s.sys.trans = some x)
    (ho : findOut s 0x08 = some o) (hb : x.boundary = false) (hr : s.sys.inReset = false) (ha : asleep s = false) :
    ∃ t : State, exec (.powerTransitionComplete us) s = .next (completeDeferred 0x08 0x00
        ([BitVec.ofNat 8 (powerCode x.target), 0] ++ le 2 (min 0xFFFF us))
        (if x.target = .ember ∨ x.target = .retain then .ember else .normal) t)
      ∧ (x.start = s.sys.power → x.target = .dormant ∨ x.target = .standby ∨ x.target = .active →
          t.sys.power = x.target ∧ t.sys.emberArmed = none ∧ t.sys.trans = none)
      ∧ (x.target = .dormant → t.sys.held = false)
      ∧ (x.start = s.sys.power → x.target = .ember ∨ x.target = .retain → t.sys.power = .dormant)
      ∧ (x.target = .ember ∨ x.target = .retain → t.sys.emberArmed = some x.target)
      ∧ (x.target = x.start → s.sys.held = false →
          t.time = s.time ∧ t.link = s.link ∧ t.shadow = s.shadow ∧ t.active = s.active) := by
  have hexec := exec_powerTransitionComplete_done us hx ho hb hr ha
  simp only [sleepTarget_iff] at hexec
  have hpower : x.start = s.sys.power → (transitionDone x us s).sys.power = stepsReach x.target :=
    transitionSteps_power ha
  refine ⟨transitionDone x us s, hexec, fun hstart hawake => ?_, transitionSteps_held, fun hstart hlow => ?_,
    transitionDone_armed us, fun hsame hheld => transitionDone_stays us (staysPut_iff.mpr ⟨hsame, hheld⟩)⟩
  · rw [hpower hstart]
    rcases hawake with h | h | h <;> exact ⟨by rw [h]; rfl, transitionDone_ends us (by simp [h])⟩
  · rw [hpower hstart]
    rcases hlow with h | h <;> rw [h] <;> rfl

end

end Sys2Proof.Machine
end

section
/-! What the faults of the NVM leave alone (Table 14-10). -/
namespace Sys2Proof.Machine

open Sys2Proof

/-- What an erase or a failed operation leaves alone, with the faults it raises: the grid's memory, the reference, and
what a save takes. -/
def nvmView (s : State) := (s.gram, s.nvm.reference, s.grid.refValid, s.sec.fwVersion, s.sec.saving)

theorem Keeps.nvmFields {s t : State} (h : Keeps nvmView s t) :
    t.gram = s.gram ∧ t.nvm.reference = s.nvm.reference ∧ t.grid.refValid = s.grid.refValid
      ∧ t.sec.fwVersion = s.sec.fwVersion ∧ t.sec.saving = s.sec.saving := by
  simpa only [nvmView, Prod.mk.injEq] using h.1

section

variable (s : State)

/-- The NVM has no items that a fault could snuff (Table 14-14). -/
theorem snuffItem_nvm (item : Nat) : snuffItem 12 item s = s := if_pos (.inl (Nat.zero_le item))

theorem safeBegin_nvmView : Keeps nvmView s (safeBegin s) :=
  keeps_ite (.refl s) (((onlyRes_markDark ..).keeps (fun _ => rfl)).after rfl (fun _ => rfl))

theorem blockReset_nvmView (src : Nat) : Keeps nvmView s (blockReset 12 src s) := keeps_ite (.refl s) ⟨rfl, id⟩

theorem react_nvmView (src item sev : Nat) : Keeps nvmView s (react 12 src item sev s) := by
  unfold react
  extract_lets _ noted snuffed
  have hnoted : Keeps nvmView s noted := keeps_ite ⟨rfl, id⟩ (.refl s)
  have hsnuffed : Keeps nvmView s snuffed := by
    refine hnoted.trans (keeps_ite ?_ (.refl noted))
    rw [snuffItem_nvm]
    exact .refl noted
  exact hsnuffed.trans (keeps_ite (blockReset_nvmView ..) (keeps_ite (safeBegin_nvmView _) (.refl _)))

theorem raise_nvmView (src item : Nat) : Keeps nvmView s (raise 12 src item s) := by
  unfold raise raiseIn
  refine keeps_ite (.refl s) ?_
  extract_lets
  split
  extract_lets recorded journaled
  have hrecorded : Keeps nvmView s recorded := ⟨rfl, id⟩
  have hjournaled : Keeps nvmView s journaled := hrecorded.trans (keeps_ite ⟨rfl, id⟩ (.refl _))
  exact hjournaled.trans (keeps_ite (.refl _) (keeps_ite ⟨rfl, id⟩ (react_nvmView ..)))

theorem countErases_nvmView (k n : Nat) : Keeps nvmView s (countErases k n s) :=
  keeps_foldl (fun t i => .trans (t := countErase (k + i) t) ⟨rfl, id⟩ (keeps_ite (raise_nvmView ..) (.refl _))) _ s

theorem nvmFault_nvmView (r : NvmResult) : Keeps nvmView s (nvmFault r s) := by
  cases r with
  | ok => exact .refl s
  | eraseFail | programFail | verifyFail => exact raise_nvmView ..

theorem nvmFailed_nvmView (r : NvmResult) (k n : Nat) : Keeps nvmView s (nvmFailed r k n s) :=
  (nvmFault_nvmView _ r).after rfl id

end

end Sys2Proof.Machine
end

section
/-! The completions of SAVE_CONFIG, LOAD_CONFIG, CAPTURE_REFERENCE, NOISE_SURVEY and FABRIC_JOIN (R142, R143, R179,
R182, R245, R352). -/
namespace Sys2Proof.Machine

open Sys2Proof

variable {s : State}

/-! ### SAVE_CONFIG and LOAD_CONFIG -/

section

theorem exec_saveConfigDone_idle (r : NvmResult) (h : findOut s 0x0C = none) :
    exec (.saveConfigDone r) s = .next s := by
  rw [exec_saveConfigDone, execSaveConfigDone, h]

theorem exec_loadConfigDone_idle (h : findOut s 0x0D = none) : exec .loadConfigDone s = .next s := by
  rw [exec_loadConfigDone, execLoadConfigDone, h]

/-- SAVE_CONFIG programs the older copy with the next number and the words taken, or leaves it invalid (R142). -/
theorem saveConfig_completes (r : NvmResult) {o : Outstanding} (ho : findOut s 0x0C = some o) :
    let seq : Word := match newerCfg s with | some (_, c) => c.seq + 1 | none => Config.firstSave
    let copy : CfgCopy := ⟨seq, s.sec.fwVersion, s.sec.saving⟩
    let erased := countErases (if olderCfg s then 399 else 384) 15 (edgeLine 19 s)
    let taken : State := { erased with sec := { erased.sec with saving := [] } }
    (r = .ok → exec (.saveConfigDone r) s = .next (completeDeferred 0x0C 0x00 (cfgData (olderCfg s) copy) .normal
        (nvmGood (if olderCfg s then 399 else 384) 15 (putCfg (olderCfg s) (some copy) taken))))
      ∧ (r ≠ .ok → exec (.saveConfigDone r) s = .next (completeDeferred 0x0C 0x60 [] .normal
        (nvmFailed r (if olderCfg s then 399 else 384) 15 (putCfg (olderCfg s) none taken)))) := by
  intro seq copy erased taken
  obtain ⟨-, -, -, hversion, hsaving⟩ :=
    (countErases_nvmView (edgeLine 19 s) (if olderCfg s then 399 else 384) 15).nvmFields
  rw [edgeLine_sec] at hversion hsaving
  rw [exec_saveConfigDone]
  cases r with
  | ok =>
    refine ⟨fun _ => ?_, fun hr => absurd rfl hr⟩
    cases hn : newerCfg s <;>
      simp only [execSaveConfigDone, ho, hn, hversion, hsaving, seq, copy, erased, taken]
  | eraseFail | programFail | verifyFail =>
    exact ⟨nofun, fun _ => by simp only [execSaveConfigDone, ho, erased, taken]⟩

end

section

variable {o : Outstanding} (ho : findOut s 0x0D = some o)

include ho

theorem exec_loadConfigDone_none (h : newerCfg s = none) :
    exec .loadConfigDone s = .next (completeDeferred 0x0D 0x60 [] .normal s) := by
  rw [exec_loadConfigDone, execLoadConfigDone, ho, h]

theorem exec_loadConfigDone_some {b : Bool} {c : CfgCopy} (h : newerCfg s = some (b, c)) :
    exec .loadConfigDone s = .next (completeDeferred 0x0D 0x00 (cfgData b c) .normal
      { loadItems c.items s with sys := { (loadItems c.items s).sys with cfgDefault := false } }) := by
  rw [exec_loadConfigDone, execLoadConfigDone, ho, h]

end

/-! ### CAPTURE_REFERENCE -/

section

theorem exec_captureReferenceDone_idle (r : NvmResult) (h : s.grid.capture = none) :
    exec (.captureReferenceDone r) s = .next s := by
  rw [exec_captureReferenceDone, execCaptureReferenceDone, h]

/-- The collection of a capture closed. -/
def captureClosed (s : State) : State := { s with grid := { s.grid with capture := none } }

/-- A capture has every frame it needs. -/
def captureWhole (s : State) (c : Capture) : Bool := captureFull s c && c.firstEpoch.isSome

/-- The completion's data: stored or not, the unstable values, the spread and the CRC (Table 5-11). -/
def captureData (s : State) (c : Capture) (stored : Bool) (crc : Nat) : List Byte :=
  let (unstable, spread) := captureSpread (captureClosed s) c
  [BitVec.ofNat 8 (b1 stored), 0] ++ le 2 (min unstable 0xFFFF) ++ le 2 (min spread 0xFFFF) ++ [0, 0] ++ le 4 crc

/-- The reference area erased (R182). -/
def referenceErased (s : State) : State := countErases 416 24 (captureClosed s)

/-- The reference stored: programmed, in the grid's memory and valid (R182). -/
def referenceStored (img : List Byte) (s : State) : State :=
  let old := match s.grid.refOld with
    | some o => o
    | none => (s.grid.refValid, memRead s.gram refAt 39556)
  nvmGood 416 24 { s with
    nvm := { s.nvm with reference := some img }
    gram := memWrite refAt img s.gram
    grid := { s.grid with refValid := true, refOld := some old } }

/-- The reference lost to an operation that failed. -/
def referenceLost (r : NvmResult) (s : State) : State :=
  nvmFailed r 416 24 { s with nvm := { s.nvm with reference := none }, grid := { s.grid with refValid := false } }

variable {c : Capture} (hc : s.grid.capture = some c)

include hc

theorem exec_captureReferenceDone_waits (r : NvmResult) (hw : captureWhole s c = false)
    (he : (c.ended || !gridRuns s) = false) : exec (.captureReferenceDone r) s = .next s := by
  unfold captureWhole at hw
  simp [exec_captureReferenceDone, execCaptureReferenceDone, hc, hw, he]

theorem exec_captureReferenceDone_short (r : NvmResult) (hw : captureWhole s c = false)
    (he : (c.ended || !gridRuns s) = true) :
    exec (.captureReferenceDone r) s = .next (completeDeferred 0x15 0x30 [] .normal (captureClosed s)) := by
  unfold captureWhole at hw
  simp [exec_captureReferenceDone, execCaptureReferenceDone, hc, hw, he, captureClosed]

theorem exec_captureReferenceDone_unstable (r : NvmResult) (hw : captureWhole s c = true)
    (hu : (captureSpread (captureClosed s) c).1 ≠ 0) : exec (.captureReferenceDone r) s
      = .next (completeDeferred 0x15 0x00 (captureData s c false 0) .normal (captureClosed s)) := by
  rw [exec_captureReferenceDone]
  unfold execCaptureReferenceDone captureWhole at *
  rw [hc]
  simp only [hw]
  exact if_pos hu

theorem exec_captureReferenceDone_stored (hw : captureWhole s c = true)
    (hu : (captureSpread (captureClosed s) c).1 = 0) : exec (.captureReferenceDone .ok) s
      = .next (completeDeferred 0x15 0x00 (captureData s c true (u32 (refImage (referenceErased s) c) 39552)) .normal
        (referenceStored (refImage (referenceErased s) c) (referenceErased s))) := by
  rw [exec_captureReferenceDone]
  unfold execCaptureReferenceDone captureData referenceErased
  unfold captureWhole at hw
  unfold captureClosed at *
  rw [hc]
  simp only [hw]
  generalize countErases 416 24 _ = u
  generalize refImage u c = img
  exact if_neg (not_not.mpr hu)

theorem exec_captureReferenceDone_failed {r : NvmResult} (hr : r ≠ .ok) (hw : captureWhole s c = true)
    (hu : (captureSpread (captureClosed s) c).1 = 0) : exec (.captureReferenceDone r) s
      = .next (completeDeferred 0x15 0x60 [] .normal (referenceLost r (referenceErased s))) := by
  rw [exec_captureReferenceDone]
  unfold execCaptureReferenceDone referenceErased
  unfold captureWhole at hw
  unfold captureClosed at *
  rw [hc]
  simp only [hw]
  generalize countErases 416 24 _ = u
  cases r with
  | ok => exact absurd rfl hr
  | eraseFail | programFail | verifyFail => exact if_neg (not_not.mpr hu)

/-- A stable reference is stored, valid and in the grid's memory (R182). -/
theorem captureReference_stores (hw : captureWhole s c = true) (hu : (captureSpread (captureClosed s) c).1 = 0) :
    ∃ d t, exec (.captureReferenceDone .ok) s = .next (completeDeferred 0x15 0x00 (1 :: d) .normal t)
      ∧ t.grid.refValid = true ∧ ∃ img, t.nvm.reference = some img ∧ t.gram = memWrite refAt img s.gram := by
  have hexec := exec_captureReferenceDone_stored hc hw hu
  generalize refImage (referenceErased s) c = img at hexec
  obtain ⟨hgram, -⟩ := (countErases_nvmView (captureClosed s) 416 24).nvmFields
  exact ⟨_, _, hexec, rfl, img, rfl, congrArg (memWrite refAt img) hgram⟩

/-- An operation that fails leaves no reference (R182). -/
theorem captureReference_loses {r : NvmResult} (hr : r ≠ .ok) (hw : captureWhole s c = true)
    (hu : (captureSpread (captureClosed s) c).1 = 0) :
    ∃ t, exec (.captureReferenceDone r) s = .next (completeDeferred 0x15 0x60 [] .normal t) ∧ t.grid.refValid = false
      ∧ t.nvm.reference = none ∧ t.gram = s.gram := by
  refine ⟨_, exec_captureReferenceDone_failed hc hr hw hu, ?_⟩
  obtain ⟨herased, -⟩ := (countErases_nvmView (captureClosed s) 416 24).nvmFields
  unfold referenceLost referenceErased
  generalize countErases 416 24 (captureClosed s) = u at herased ⊢
  obtain ⟨hgram, hreference, hvalid, -⟩ := (nvmFailed_nvmView
    { u with nvm := { u.nvm with reference := none }, grid := { u.grid with refValid := false } } r 416 24).nvmFields
  exact ⟨hvalid, hreference, hgram.trans herased⟩

end

/-! ### NOISE_SURVEY and FABRIC_JOIN -/

section

theorem exec_noiseSurveyDone_idle (h : s.carr.survey = none) : exec .noiseSurveyDone s = .next s := by
  rw [exec_noiseSurveyDone, execNoiseSurveyDone, h]

theorem exec_fabricJoinDone_idle (h : s.link.joining = none) : exec .fabricJoinDone s = .next s := by
  rw [exec_fabricJoinDone, execFabricJoinDone, h]

/-- What the shadow carrier's restart leaves alone. -/
def surveyView (s : State) := (s.carr.survey, s.shadow, s.active, s.grid)

theorem shadowFix_surveyView (s : State) : surveyView (shadowFix s) = surveyView s := by
  unfold shadowFix
  split
  · split <;> rfl
  · rfl

/-- One entry is reported for each carrier surveyed. -/
theorem surveyResults_length (v : Survey) (free : Int) :
    (List.map (surveyResult v free) (if v.values = 0 then [] else maskBits 16 v.mask)).length
      = if v.values = 0 then 0 else (maskBits 16 v.mask).length := by
  rw [List.length_map]
  split <;> rfl

/-- How a survey was gathered, as a byte. -/
theorem surveyHow_byte (v : Survey) :
    (BitVec.ofNat 8 (if v.standalone && v.running then 2 else if v.running then 1 else 0) : Byte)
      = if v.standalone && v.running then 2 else if v.running then 1 else 0 := by
  split
  · rfl
  · split <;> rfl

/-- NOISE_SURVEY is answered with its entries and how they were gathered, and ends (R245, Table 7-3). -/
theorem noiseSurvey_completes {v : Survey} (h : s.carr.survey = some v) :
    ∃ d t, exec .noiseSurveyDone s = .next (completeDeferred 0x32 0x00
        ([BitVec.ofNat 8 (if v.values = 0 then 0 else (maskBits 16 v.mask).length),
          if v.standalone && v.running then 2 else if v.running then 1 else 0, 0, 0] ++ d) .normal t)
      ∧ t.carr.survey = none ∧ t.shadow = s.shadow ∧ t.active = s.active ∧ t.grid = s.grid := by
  rw [exec_noiseSurveyDone, execNoiseSurveyDone, h]
  dsimp only [freshInt]
  rw [surveyResults_length, surveyHow_byte]
  refine ⟨_, _, rfl, ?_⟩
  simpa only [surveyView, Prod.mk.injEq] using shadowFix_surveyView _

/-- FABRIC_JOIN succeeds with an address held, or as a leave; else its time is over (R352). -/
theorem fabricJoin_completes {j : Bool} (h : s.link.joining = some j) :
    let u : State := { s with link := { s.link with joining := none } }
    exec .fabricJoinDone s = .next (if j = false ∨ s.link.addr ≠ none then
      completeDeferred 0x70 0x00 (joinData u) .normal u else completeDeferred 0x70 0x51 [] .normal u) := by
  intro u
  rw [exec_fabricJoinDone, execFabricJoinDone, h]
  cases j <;> cases s.link.addr <;> rfl

end

end Sys2Proof.Machine
end

section

open Sys2Proof Sys2Proof.Machine

/-- Settles O40: what each completion event leaves, with its command outstanding and without. -/
theorem completions : Obligations.Completions := by
  intro s us r
  refine ⟨exec_powerTransitionComplete_idle us, exec_saveConfigDone_idle r, exec_loadConfigDone_idle,
    exec_captureReferenceDone_idle r, exec_noiseSurveyDone_idle, exec_fabricJoinDone_idle,
    fun x o hx ho hb hr ha => powerTransition_completes us hx ho hb hr ha,
    fun o ho => saveConfig_completes r ho,
    fun o ho => ⟨exec_loadConfigDone_none ho, fun b c => exec_loadConfigDone_some ho⟩, fun c hc => ?_,
    fun v => noiseSurvey_completes, fun j => fabricJoin_completes⟩
  exact ⟨exec_captureReferenceDone_waits hc r, exec_captureReferenceDone_short hc r,
    fun hw hu => ⟨_, exec_captureReferenceDone_unstable hc r hw hu⟩,
    fun hw hu hr => hr ▸ captureReference_stores hc hw hu, fun hw hu hr => captureReference_loses hc hr hw hu⟩

end

section
/-! Bytes of the grid RAM that nothing defines read as free bytes, whatever was written there (R228, Table 6-10; log
entries 7, 40). -/
namespace Sys2Proof.Machine

open Sys2Proof

/-- A byte of the grid RAM that is undefined to readers: the pipeline's own, or what follows the entry in a slot of the
contact table. -/
def GramUndefined (a : Nat) : Prop :=
  (0x55000 ≤ a ∧ a < 0x6C000) ∨ (0x54000 ≤ a ∧ a < 0x54A00 ∧ 16 ≤ (a - 0x54000) % 64)

theorem length_readRun (n a : Nat) (m : Memory) : (readRun n a m).length = n := by
  induction n generalizing a m with
  | zero => rfl
  | succ n ih =>
    cases m with
    | nil => rw [readRun, List.length_cons, ih]
    | cons c l =>
      obtain ⟨b, x⟩ := c
      rw [readRun]
      split <;> rw [List.length_cons, ih]

theorem length_memRead (m : Memory) (a n : Nat) : (memRead m a n).length = n := length_readRun n a _

/-- Undefined bytes read as the next free bytes: the memory has no part in them. -/
theorem gramRead_undefined (s : State) {o n : Nat} (h : ∀ i < n, GramUndefined (o + i)) :
    gramRead s o n = (List.range n).map (fun i => Config.freeByte (s.freeCtr + i)) := by
  refine List.ext_getElem (by simp [gramRead, length_memRead]) fun i hi _ => ?_
  have hn : i < n := by simpa [gramRead, length_memRead] using hi
  simp only [gramRead, List.getElem_mapIdx, List.getElem_map, List.getElem_range]
  exact if_pos (h i hn)

theorem devRead_gram (s : State) {o : Nat} (w : Nat) (h : o < 0x80000) :
    (devRead (0x00400000 + o) w s).1 = gramRead s o w := by
  have hrange : rangeOf (0x00400000 + o) = some 1 := by
    unfold rangeOf
    rw [if_neg (by omega), if_pos (by omega)]
  simp only [devRead, hrange, Nat.add_sub_cancel_left]

end Sys2Proof.Machine
end

section

open Sys2Proof Sys2Proof.Machine

/-- Refutes O7: its clause of the grid RAM leaves out the undefined bytes from 0x55000 on, but not those after each entry
of the contact table at 0x54000. After a reset, 0 and 1 written to 0x54010 read back as the same free byte. -/
theorem not_memoryCanonical : ¬ Obligations.MemoryCanonical := by
  unfold Obligations.MemoryCanonical
  rintro ⟨-, -, -, hgram, -⟩
  have hundefined : ∀ i < 1, GramUndefined (0x54010 + i) := fun i hi => .inr (by omega)
  have hfree (b : Byte) : [Config.freeByte 0] = [b] := by
    obtain ⟨hread, hwrite⟩ := hgram State.reset 0x54010 [b] (List.cons_ne_nil _ _) rfl
      (.inl (by rw [List.length_singleton]; decide))
    rw [hwrite, devRead_gram _ _ (by decide)] at hread
    exact (gramRead_undefined _ hundefined).symm.trans hread
  have hsame : ([0] : List Byte) = [1] := (hfree 0).symm.trans (hfree 1)
  exact absurd hsame (by decide)

end

section
/-! What the bodies of the grid commands answer, check after check (section 5.11). -/
namespace Sys2Proof.Machine

open Sys2Proof

/-- Two checks in a row with one status are one check that both hold. -/
theorem checked_cons_cons (s : State) (a b : Bool) (st : Byte) (l : List (Bool × Byte)) (go : Unit → CmdResult) :
    checked s ((a, st) :: (b, st) :: l) go = checked s ((a && b, st) :: l) go := by
  cases a <;> rfl

/-- Where there is a current epoch, a target that fails its test fails with BAD_PARAM (R24). -/
theorem targetBad_getD {s : State} {e : Word} (hcur : (currentEpoch s).isSome = true) (hbad : targetBad s e ≠ none) :
    (targetBad s e).getD 0 = 0x13 := by
  obtain ⟨c, hc⟩ := Option.isSome_iff_exists.mp hcur
  unfold targetBad at hbad ⊢
  rw [hc] at hbad ⊢
  dsimp only at hbad ⊢
  split at hbad
  · exact absurd rfl hbad
  · next hlate => rw [if_neg hlate]; rfl

theorem gridRuns_eq_false_iff {s : State} : gridRuns s = false ↔ s.grid.running = false ∧ s.grid.restart = false := by
  simp only [gridRuns, Bool.or_eq_false_iff]

section

variable (p : Packet) (u : State)

/-! ### Configuration -/

/-- GRID_CONFIG writes GRID_CFG and the eight schedule words where the set still fits (Table 5-9). -/
theorem gridConfigBody_eq : gridConfigBody p u =
    if ¬(8 ≤ p.params.length ∧ p.params.length = 8 + 4 * u8 p.params 4) then failCmd u 0x11 else
    if ¬(u8 p.params 0 ≤ 15 ∧ u8 p.params 1 ≤ 3 ∧ u8 p.params 3 ≤ 1 ∧ u8 p.params 4 ≤ 8 ∧ zeros p.params 5 3 = true
        ∧ ∀ i < u8 p.params 4, uN 3 p.params (8 + 4 * i) ≤ 999999 ∧ u8 p.params (11 + 4 * i) ≤ 2) then
      failCmd u 0x13 else
    let f := fileSets ((Reg.gridCfg, wd (u8 p.params 0 + 16 * u8 p.params 1 + 64 * u8 p.params 3 + 256 * u8 p.params 2))
      :: (List.range 8).map (fun i => (Reg.gridSched i,
        if i < u8 p.params 4 then wd (1 + 2 * u8 p.params (11 + 4 * i) + 16 * uN 3 p.params (8 + 4 * i)) else 0))) u.shadow
    if ¬(fitOk f (curCarrier u) (periodUs u) = true) then failCmd u 0x13 else
    okCmd (applyNow 2 (withShadow f u)) [] := by
  have hlen : (p.params.length < 8 ∨ p.params.length ≠ 8 + 4 * u8 p.params 4)
      ↔ ¬(8 ≤ p.params.length ∧ p.params.length = 8 + 4 * u8 p.params 4) := by omega
  unfold gridConfigBody
  refine if_congr hlen rfl ?_
  rw [checked_cons_cons, checked_cons]
  simp only [Bool.and_eq_true, decide_eq_true_eq, List.all_eq_true, List.mem_range, and_assoc]
  split
  · rfl
  · next hvalues =>
    obtain ⟨-, -, hsync, -⟩ := not_not.mp hvalues
    rw [checked_cons, checked_nil, Nat.mod_eq_of_lt (Nat.lt_succ_of_le hsync)]

/-- REGION_DEFINE writes a region's two words and its base gain where the regions stay apart (R170). -/
theorem regionDefineBody_eq : regionDefineBody p u =
    if ¬(p.params.length = 8) then failCmd u 0x11 else
    if ¬(u8 p.params 0 ≤ 7 ∧ u8 p.params 1 < 16 ∧ u8 p.params 2 ≤ u8 p.params 3 ∧ u8 p.params 3 ≤ 119
        ∧ u8 p.params 4 ≤ u8 p.params 5 ∧ u8 p.params 5 ≤ 159 ∧ zeros p.params 6 2 = true) then failCmd u 0x13 else
    let f := setBaseGain (u8 p.params 0) (u8 p.params 1 / 4 % 4) (fileSets
      [(Reg.gridRegionA (u8 p.params 0), wd (u32 p.params 2)), (Reg.gridRegionB (u8 p.params 0), wd (u8 p.params 1 % 4))]
      u.shadow)
    if ¬(regionsOk f = true) then failCmd u 0x13 else okCmd (applyNow 3 (applyNow 2 (withShadow f u))) [] := by
  simp only [regionDefineBody, checked_cons, checked_nil, decide_eq_true_eq, Bool.and_eq_true, and_assoc]

/-- DRIVE_PLAN writes the plan's eight words where no drive line has the reserved mode (R160). -/
theorem drivePlanBody_eq : drivePlanBody p u =
    if ¬(p.params.length = 30) then failCmd u 0x11 else
    let f := fileSets ((List.range 8).map (fun w => (Reg.gridPlan w, wd (u32 p.params (4 * w))))) u.shadow
    if ¬(∀ d ∈ List.range 120, planMode f d ≠ 3) then failCmd u 0x13 else
    okCmd (applyNow 2 (withShadow f u)) [] := by
  simp only [drivePlanBody, checked_cons, checked_nil, decide_eq_true_eq, List.all_eq_true, bne_iff_ne]

/-- SELFCAP_CONFIG writes one set's field of GRID_SELF_CFG and its nine words of lines (R168). -/
theorem selfcapConfigBody_eq : selfcapConfigBody p u =
    if ¬(p.params.length = 39) then failCmd u 0x11 else
    if ¬(u8 p.params 0 ≤ 1 ∧ u8 p.params 1 ≤ 3 ∧ u8 p.params 2 ≤ 3 ∧ u8 p.params 3 = 0) then failCmd u 0x13 else
    okCmd (applyNow 2 (withShadow (fileSets ((Reg.gridSelfCfg,
        setFld (shw u Reg.gridSelfCfg) (4 * u8 p.params 0) 4 (u8 p.params 1 + 4 * u8 p.params 2))
      :: (List.range 9).map (fun w =>
        (Reg.gridSelfLines (u8 p.params 0) w, wd (u32 (p.params.drop 4) (4 * w))))) u.shadow) u)) [] := by
  simp only [selfcapConfigBody, checked_cons, checked_nil, decide_eq_true_eq]

/-! ### Start, stop and capture -/

/-- GRID_START sets the start at the epoch it names, or at the next one (R177). -/
theorem gridStartBody_eq : gridStartBody p u =
    if ¬(p.params.length = 12) then failCmd u 0x11 else
    if ¬(u8 p.params 4 ≤ 1 ∧ zeros p.params 5 3 = true) then failCmd u 0x13 else
    if ¬((currentEpoch u).isSome = true) then failCmd u 0x30 else
    if ¬(u8 p.params 4 = 1 → targetBad u (w32 p.params 8) = none) then failCmd u 0x13 else
    if ¬(u.grid.running = false ∧ u.grid.restart = false ∧ u.grid.startAt = none ∧ slotDefs u.shadow ≠ []) then
      failCmd u 0x30 else
    let e := if u8 p.params 4 = 1 then w32 p.params 8 else reportEpoch u + 1
    okCmd { u with grid := { u.grid with startAt := some (e, u32 p.params 0) } } (le 4 e.toNat) := by
  have hstart : (!gridRuns u && u.grid.startAt.isNone && !(slotDefs u.shadow).isEmpty) = true
      ↔ u.grid.running = false ∧ u.grid.restart = false ∧ u.grid.startAt = none ∧ slotDefs u.shadow ≠ [] := by
    simp only [Bool.and_eq_true, Bool.not_eq_true', gridRuns_eq_false_iff, Option.isNone_iff_eq_none,
      List.isEmpty_eq_false_iff, and_assoc]
  have htarget : (!decide (u8 p.params 4 = 1) || (targetBad u (w32 p.params 8)).isNone) = true
      ↔ (u8 p.params 4 = 1 → targetBad u (w32 p.params 8) = none) := by
    simp only [Bool.or_eq_true, Bool.not_eq_true', decide_eq_false_iff_not, Option.isNone_iff_eq_none, ← imp_iff_not_or]
  simp only [gridStartBody, checked_cons, checked_nil, decide_eq_true_eq, Bool.and_eq_true, hstart, htarget]
  refine ite_congr rfl (fun _ => rfl) (fun _ => ite_congr rfl (fun _ => rfl) (fun _ => ite_congr rfl (fun _ => rfl)
    (fun hcur => ite_congr rfl (fun hlate => ?_) (fun _ => rfl))))
  rw [targetBad_getD (not_not.mp hcur) (fun hnone => hlate (fun _ => hnone))]

/-- GRID_STOP cancels a start, or sets the stop at the next boundary (R177). -/
theorem gridStopBody_eq : gridStopBody p u =
    if ¬(p.params.length = 0) then failCmd u 0x11 else
    let runs := gridRuns u
    let was := runs || u.grid.startAt.isSome
    let e := if was then reportEpoch u + 1 else reportEpoch u
    okCmd { u with grid := { u.grid with startAt := none, stopAt := if runs then some e else u.grid.stopAt } }
      (le 4 e.toNat ++ [if was then 1 else 0]) := by
  have hflag (was : Bool) : (BitVec.ofNat 8 (b1 was) : Byte) = if was then 1 else 0 := by cases was <;> rfl
  simp only [gridStopBody, checked_cons, checked_nil, List.isEmpty_iff_length_eq_zero, hflag]

/-- CAPTURE_REFERENCE opens its collection while the grid runs (R179). -/
theorem captureReferenceBody_eq : captureReferenceBody p u =
    if ¬(p.params.length = 0) then failCmd u 0x11 else
    if ¬(gridRuns u = true) then failCmd u 0x30 else
    acceptCmd { u with grid := { u.grid with capture := some {} } } := by
  simp only [captureReferenceBody, checked_cons, checked_nil, List.isEmpty_iff_length_eq_zero]

/-! ### READ_FRAME -/

/-- The window that READ_FRAME asks for. -/
def windowAsked : Window := ⟨u8 p.params 4, u8 p.params 5, u8 p.params 6, u8 p.params 7⟩

/-- READ_FRAME asks for the listen columns. -/
def listenAsked : Bool := decide (u8 p.params 2 = 1)

/-- The frame that READ_FRAME asks for, among those held: a slot's newest, or the one of a number. -/
def frameAsked : Option HeldFrame :=
  (u.grid.ring.take u.grid.runFrames).find?
    (fun h => if u8 p.params 0 = 0 then h.slot == u8 p.params 1 else h.seq == w32 p.params 8)

/-- The values of a frame held, as the ring keeps them: each sense lane of the window, or the lines of a self frame. -/
def heldValues (h : HeldFrame) (w : Window) : List (List Int) :=
  if h.kind = 0 then (List.range 160).map (fun n =>
    if w.s0 ≤ n ∧ n ≤ w.s1 then gramVals u.gram (ringAt h.buffer + 0x40 + n * 256) 128 else [])
  else [gramVals u.gram (ringAt h.buffer + 0xA040) 280]

/-- A window of a frame held: its epoch, its descriptor with the window's own flags, and its values (Tables 5-5 and
5-12). -/
def frameData (h : HeldFrame) (w : Window) (l : Bool) : List Byte :=
  let d := memRead u.gram (ringAt h.buffer) 20
  let fl := u8 d 15
  le 4 h.epoch.toNat ++ descriptor h.t0 h.seq h.slot h.kind (u8 d 14)
      (fl % 4 + 4 * b1 l + 8 * (fl / 8 % 4) + 32 * b1 (fl.testBit 5 && w.snuffed u) + 64 * (fl / 64)) w
    ++ valBytes (windowValues h.kind (heldValues u h w) w l)

/-- READ_FRAME is its five checks, and then the frame's data. -/
theorem readFrameBody_checked : readFrameBody p u = checked u
    [(decide (p.params.length = 12), 0x11),
     (decide (u8 p.params 0 ≤ 1 ∧ u8 p.params 1 ≤ 7 ∧ u8 p.params 2 ≤ 1 ∧ u8 p.params 3 = 0)
       && (windowAsked p).valid, 0x13),
     (!(u.grid.ring.take u.grid.runFrames).isEmpty, 0x30), ((frameAsked p u).isSome, 0x13),
     (decide ((windowAsked p).count (((frameAsked p u).map (·.kind)).getD 0) (listenAsked p) ≤ 2036), 0x13)]
    (fun _ => match frameAsked p u with
      | none => failCmd u 0x13
      | some h => okCmd u (frameData u h (windowAsked p) (listenAsked p))) := by
  have hasked : frameAsked p u = if u8 p.params 0 = 0
      then (u.grid.ring.take u.grid.runFrames).find? (fun h => h.slot == u8 p.params 1)
      else (u.grid.ring.take u.grid.runFrames).find? (fun h => h.seq == w32 p.params 8) := by
    unfold frameAsked
    split <;> rfl
  unfold readFrameBody checked windowAsked listenAsked
  dsimp only
  rw [← hasked]
  generalize firstFail _ = failed
  generalize frameAsked p u = asked
  cases failed with
  | some st => rfl
  | none => cases asked <;> rfl

/-- READ_FRAME returns a window of a frame held (R173, Table 5-12). -/
theorem readFrameBody_eq : readFrameBody p u =
    if ¬(p.params.length = 12) then failCmd u 0x11 else
    if ¬(u8 p.params 0 ≤ 1 ∧ u8 p.params 1 ≤ 7 ∧ u8 p.params 2 ≤ 1 ∧ u8 p.params 3 = 0
        ∧ (windowAsked p).valid = true) then failCmd u 0x13 else
    if ¬(u.grid.ring.take u.grid.runFrames ≠ []) then failCmd u 0x30 else
    match frameAsked p u with
    | none => failCmd u 0x13
    | some h =>
      if 2036 < (windowAsked p).count h.kind (listenAsked p) then failCmd u 0x13 else
      okCmd u (frameData u h (windowAsked p) (listenAsked p)) := by
  simp only [readFrameBody_checked, checked_cons, checked_nil, decide_eq_true_eq, Bool.and_eq_true, and_assoc,
    Bool.not_eq_true', List.isEmpty_eq_false_iff]
  cases frameAsked p u with
  | none => rfl
  | some h => simp only [Option.isSome_some, Option.map_some, Option.getD_some, not_true_eq_false, if_false, Nat.not_le]

end

end Sys2Proof.Machine
end

section

open Sys2Proof Sys2Proof.Machine

/-- Settles O29: each of the eight grid commands answers as its body's checks and work say. -/
theorem gridCommands : Obligations.GridCommands := by
  intro p s b u q
  exact ⟨fun h => exec_concludes (exec_gridConfig p s) h (gridConfigBody_eq p u),
    fun h => exec_concludes (exec_regionDefine p s) h (regionDefineBody_eq p u),
    fun h => exec_concludes (exec_drivePlan p s) h (drivePlanBody_eq p u),
    fun h => exec_concludes (exec_selfcapConfig p s) h (selfcapConfigBody_eq p u),
    fun h => exec_concludes (exec_gridStart p s) h (gridStartBody_eq p u),
    fun h => exec_concludes (exec_gridStop p s) h (gridStopBody_eq p u),
    fun h => exec_concludes (exec_captureReference p s) h (captureReferenceBody_eq p u),
    fun h => exec_concludes (exec_readFrame p s) h (readFrameBody_eq p u)⟩

end

section
/-! What the bodies of the touch commands answer, check after check (section 6.11). -/
namespace Sys2Proof.Machine

open Sys2Proof

variable (p : Packet) (u : State)

/-- TOUCH_CONFIG writes a region's touch words and its gain where its settings agree (Table 6-8). -/
theorem touchConfigBody_eq : touchConfigBody p u =
    if ¬(p.params.length = 32) then failCmd u 0x11 else
    if ¬(u8 p.params 0 ≤ 7 ∧ u8 p.params 1 < 8 ∧ u8 p.params 2 ≤ 3 ∧ u8 p.params 3 ≤ 3 ∧ u8 p.params 4 ≤ 12
        ∧ (u8 p.params 5 ≤ 1 ∨ u8 p.params 5 = 0xFF) ∧ u8 p.params 6 ≤ 15 ∧ u8 p.params 7 < 32 ∧ u8 p.params 31 = 0) then
      failCmd u 0x13 else
    let i := u8 p.params 0
    let f := fixGain i (fileSets [(Reg.tchRgnMode i, wd (u8 p.params 1 + 16 * u8 p.params 2 + 64 * u8 p.params 3
          + 256 * u8 p.params 4 + 4096 * (if u8 p.params 5 = 0xFF then 3 else u8 p.params 5) + 65536 * u8 p.params 6
          + 0x1000000 * u8 p.params 7)),
        (Reg.tchRgnThr0 i, wd (u32 p.params 8)), (Reg.tchRgnThr1 i, wd (u32 p.params 12)),
        (Reg.tchRgnThr2 i, wd (u32 p.params 16)), (Reg.tchRgnThr3 i, wd (u32 p.params 20)),
        (Reg.tchRgnThr4 i, wd (u32 p.params 24)), (Reg.tchRgnWet i, wd (uN 3 p.params 28))] u.shadow)
    if ¬(touchOk f i = true) then failCmd u 0x13 else okCmd (applyNow 3 (applyNow 2 (withShadow f u))) [] := by
  simp only [touchConfigBody, checked_cons, checked_nil, decide_eq_true_eq]
  refine ite_congr rfl (fun _ => rfl) (fun _ => ite_congr rfl (fun _ => rfl) (fun hvalues => ?_))
  obtain ⟨-, hflags, -⟩ := not_not.mp hvalues
  rw [Nat.mod_eq_of_lt hflags]

/-- CONTROL_DEFINE writes a control's settings and its elements where the whole set agrees (Table 6-9). -/
theorem controlDefineBody_eq : controlDefineBody p u =
    if ¬(12 ≤ p.params.length ∧ p.params.length = 12 + 2 * u8 p.params 2) then failCmd u 0x11 else
    if ¬(u8 p.params 0 ≤ 15 ∧ u8 p.params 1 < 16 ∧ u8 p.params 2 ≤ 32 ∧ u8 p.params 3 ≤ 7 ∧ u16 p.params 8 ≤ 4095
        ∧ zeros p.params 10 2 = true) then failCmd u 0x13 else
    let c := u8 p.params 0
    let f := fileSets ([(Reg.tchCtlCfg c, wd (u8 p.params 1 + 256 * u8 p.params 2 + 65536 * u8 p.params 3)),
        (Reg.tchCtlThr c, wd (u32 p.params 4)), (Reg.tchCtlDelta c, wd (u16 p.params 8))]
      ++ (List.range 16).map (fun w => (Reg.tchCtlEl c w, wd (u32 (p.params.drop 12) (4 * w))))) u.shadow
    if ¬(controlOk f c = true) then failCmd u 0x13 else okCmd (applyNow 3 (withShadow f u)) [] := by
  have hlen : (p.params.length < 12 ∨ p.params.length ≠ 12 + 2 * u8 p.params 2)
      ↔ ¬(12 ≤ p.params.length ∧ p.params.length = 12 + 2 * u8 p.params 2) := by omega
  simp only [controlDefineBody, hlen, checked_cons, checked_nil, Bool.and_eq_true, decide_eq_true_eq, and_assoc]

/-- GESTURE_CONFIG writes a region's gesture words where they agree (R217). -/
theorem gestureConfigBody_eq : gestureConfigBody p u =
    if ¬(p.params.length = 16) then failCmd u 0x11 else
    if ¬(u8 p.params 0 ≤ 7 ∧ u8 p.params 1 < 16 ∧ u8 p.params 2 < 16 ∧ u8 p.params 3 = 0) then failCmd u 0x13 else
    let i := u8 p.params 0
    let f := fileSets [(Reg.tchGstCfg i, wd (u8 p.params 1 + 16 * u8 p.params 2 + 256 * u16 p.params 4)),
        (Reg.tchGstT0 i, wd (u32 p.params 6)), (Reg.tchGstT1 i, wd (u32 p.params 10)),
        (Reg.tchGstT2 i, wd (u16 p.params 14))] u.shadow
    if ¬(gestOk f i = true) then failCmd u 0x13 else okCmd (applyNow 3 (withShadow f u)) [] := by
  simp only [gestureConfigBody, checked_cons, checked_nil, decide_eq_true_eq]

/-- CONTACT_POLICY writes the policy and the hold limit (R198, R207, R208). -/
theorem contactPolicyBody_eq : contactPolicyBody p u =
    if ¬(p.params.length = 12) then failCmd u 0x11 else
    if ¬(1 ≤ u16 p.params 0 ∧ u8 p.params 2 ≤ 15 ∧ u8 p.params 3 ≤ 15 ∧ u8 p.params 4 ≤ 40 ∧ u8 p.params 5 = 0
        ∧ zeros p.params 8 4 = true) then failCmd u 0x13 else
    okCmd (applyNow 3 (withShadow (fileSets [(Reg.tchPolicy, wd (u16 p.params 0 + 65536 * u8 p.params 2
        + 0x100000 * u8 p.params 3 + 0x1000000 * u8 p.params 4)), (Reg.tchHoldLimit, wd (u16 p.params 6))] u.shadow) u))
      [] := by
  simp only [contactPolicyBody, checked_cons, checked_nil, Bool.and_eq_true, decide_eq_true_eq, and_assoc]

/-- BASELINE_RESET waits for the next boundary, while the grid runs (R189). -/
theorem baselineResetBody_eq : baselineResetBody p u =
    if ¬(p.params.length = 4) then failCmd u 0x11 else
    if ¬(u8 p.params 1 ≤ 1 ∧ zeros p.params 2 2 = true) then failCmd u 0x13 else
    if ¬(gridRuns u = true) then failCmd u 0x30 else
    okCmd { u with tch := { u.tch with
        resetWait := u.tch.resetWait ++ [(u8 p.params 0, decide (u8 p.params 1 = 1))] } }
      (le 4 (reportEpoch u + 1).toNat) := by
  simp only [baselineResetBody, checked_cons, checked_nil, Bool.and_eq_true, decide_eq_true_eq]

/-- READ_CONTACTS returns the last epoch's contacts, once there are some (R219). -/
theorem readContactsBody_eq : readContactsBody p u =
    if ¬(p.params.length = 0) then failCmd u 0x11 else
    match u.tch.lastPayload with
    | none => failCmd u 0x30
    | some (e, x) => okCmd u (le 4 e.toNat ++ x) := by
  unfold readContactsBody
  cases u.tch.lastPayload with
  | none => simp only [checked_cons, List.isEmpty_iff_length_eq_zero, Bool.false_eq_true, not_false_eq_true, if_true]
  | some last => simp only [checked_cons, checked_nil, List.isEmpty_iff_length_eq_zero]

end Sys2Proof.Machine
end

section

open Sys2Proof Sys2Proof.Machine

/-- Settles O30: each of the six touch commands answers as its body's checks and work say. -/
theorem touchCommands : Obligations.TouchCommands := by
  intro p s b u q
  exact ⟨fun h => exec_concludes (exec_touchConfig p s) h (touchConfigBody_eq p u),
    fun h => exec_concludes (exec_controlDefine p s) h (controlDefineBody_eq p u),
    fun h => exec_concludes (exec_gestureConfig p s) h (gestureConfigBody_eq p u),
    fun h => exec_concludes (exec_contactPolicy p s) h (contactPolicyBody_eq p u),
    fun h => exec_concludes (exec_baselineReset p s) h (baselineResetBody_eq p u),
    fun h => exec_concludes (exec_readContacts p s) h (readContactsBody_eq p u)⟩

end

section
/-! What the raise of a fault leaves alone of the touch pipeline and the housekeeping round, and what a mutual frame
leaves alone with its faults. -/
namespace Sys2Proof.Machine

open Sys2Proof

/-- What a raise in a block other than the time base leaves alone. -/
def steadyView (s : State) := (s.shadow, s.nvm, s.time, s.hkp, s.snuff.sensors)

/-- `t` has the steady view of `s`, and the frames that wait in `s` or none: a touch restart forgets them. -/
structure Steady (s t : State) : Prop where
  view : steadyView t = steadyView s
  todo : t.tch.todo = s.tch.todo ∨ t.tch.todo = []

variable {s t u : State} {β : Type} {p : Prop} [Decidable p]

/-! ### Steps and their composition -/

theorem Steady.refl (s : State) : Steady s s := ⟨rfl, .inl rfl⟩

theorem Steady.trans (h : Steady s t) (k : Steady t u) : Steady s u :=
  ⟨k.view.trans h.view, k.todo.elim (fun e => h.todo.imp e.trans e.trans) .inr⟩

/-- A change of other parts of the state, and then a steady operation. -/
theorem Steady.after (k : Steady t u) (h : steadyView t = steadyView s) (htodo : t.tch.todo = s.tch.todo) : Steady s u :=
  .trans ⟨h, .inl htodo⟩ k

/-- A steady operation, and then a change of other parts of the state. -/
theorem Steady.upd (k : Steady s t) (h : steadyView u = steadyView t) (htodo : u.tch.todo = t.tch.todo) : Steady s u :=
  .trans k ⟨h, .inl htodo⟩

theorem steady_dite (h : p → Steady s t) (k : ¬p → Steady s u) : Steady s (if p then t else u) := by
  split
  · next hp => exact h hp
  · next hp => exact k hp

theorem steady_ite (h : Steady s t) (k : Steady s u) : Steady s (if p then t else u) :=
  steady_dite (fun _ => h) (fun _ => k)

theorem steady_ite_fst {a b : State × β} (h : Steady s a.1) (k : Steady s b.1) : Steady s (if p then a else b).1 := by
  split <;> assumption

theorem steady_foldl {f : State → β → State} (hf : ∀ s a, Steady s (f s a)) (l : List β) (s : State) :
    Steady s (l.foldl f s) :=
  List.foldlRecOn (motive := Steady s) l f (.refl s) (fun _ h a _ => h.trans (hf _ a))

theorem steady_foldl_fst {γ : Type} {f : State × γ → β → State × γ} (hf : ∀ a x, Steady a.1 (f a x).1) (l : List β)
    (a : State × γ) : Steady a.1 (l.foldl f a).1 :=
  List.foldlRecOn (motive := fun b => Steady a.1 b.1) l f (.refl a.1) (fun _ h x _ => h.trans (hf _ x))

theorem OnlyRes.steady (h : OnlyRes s t) : Steady s t := by
  rw [h]
  exact ⟨rfl, .inl rfl⟩

/-! ### Faults -/

theorem steady_markDark (cause mask : Nat) (s : State) : Steady s (markDark cause mask s) :=
  (onlyRes_markDark ..).steady

theorem steady_safeBegin (s : State) : Steady s (safeBegin s) :=
  steady_ite (.refl s) (.after (steady_markDark ..) rfl rfl)

theorem snuffAdd_sensors {b : Nat} (hb : b ≠ 10) (item : Nat) (x : SnuffSet) :
    (snuffAdd b item x).sensors = x.sensors := by
  unfold snuffAdd
  rw [if_neg hb]
  (repeat' split) <;> rfl

/-- A snuff in force at once is that of a port or of a line; a sensor's waits for its round. -/
theorem steady_snuffItem (b item : Nat) (s : State) : Steady s (snuffItem b item s) := by
  unfold snuffItem
  refine steady_ite (.refl s) ?_
  extract_lets journaled
  have hjournaled : Steady s journaled := ⟨rfl, .inl rfl⟩
  refine steady_dite (fun hport => hjournaled.upd ?_ rfl)
    (fun _ => steady_dite (fun hline => hjournaled.upd ?_ rfl) (fun _ => hjournaled.upd rfl rfl))
  · simp only [steadyView, snuffAdd_sensors (show b ≠ 10 by omega)]
  · simp only [steadyView, snuffAdd_sensors (show b ≠ 10 by omega)]

theorem steady_touchForget (s : State) : Steady s (touchForget s) := ⟨rfl, .inr rfl⟩

theorem steady_resetEffects {b : Nat} (hb : b ≠ 7) (s : State) : Steady s (resetEffects b s) := by
  unfold resetEffects
  split
  case h_2 =>
    refine .trans ?_ (steady_touchForget _)
    exact .after (steady_markDark ..) rfl rfl
  case h_3 => exact (steady_markDark 4 touchSources s).trans ((steady_touchForget _).upd rfl rfl)
  case h_7 => exact absurd rfl hb
  case h_9 => exact .after (steady_markDark ..) rfl rfl
  all_goals exact ⟨rfl, .inl rfl⟩

theorem steady_react {b : Nat} (hb : b ≠ 7) (src item sev : Nat) (s : State) : Steady s (react b src item sev s) := by
  have hirq : Steady s
      (if 1 ≤ sev then { s with hif := { s.hif with irqEvents := s.hif.irqEvents ||| 0b0001 } } else s) :=
    steady_ite ⟨rfl, .inl rfl⟩ (.refl s)
  have hsnuff := hirq.trans (steady_ite (steady_snuffItem b item _) (.refl _) (p := 2 ≤ sev))
  have hreset : ∀ t, Steady t (blockReset b src t) := fun t =>
    steady_ite (.refl t) ((steady_resetEffects hb _).after rfl rfl)
  exact hsnuff.trans (steady_ite (hreset _) (steady_ite (steady_safeBegin _) (.refl _)))

theorem steady_raiseIn {b : Nat} (hb : b ≠ 7) (open0 : List Shadow) (src item : Nat) (s : State) :
    Steady s (raiseIn open0 b src item s) := by
  unfold raiseIn
  refine steady_ite (.refl s) ?_
  extract_lets
  split
  extract_lets recorded journaled
  have hrecorded : Steady s recorded := ⟨rfl, .inl rfl⟩
  have hjournaled : Steady s journaled := hrecorded.trans (steady_ite ⟨rfl, .inl rfl⟩ (.refl _))
  exact hjournaled.trans (steady_ite (.refl _) (steady_ite ⟨rfl, .inl rfl⟩ (steady_react hb ..)))

theorem steady_raise {b : Nat} (hb : b ≠ 7) (src item : Nat) (s : State) : Steady s (raise b src item s) :=
  steady_raiseIn hb ..

/-! ### Contacts and gestures -/

theorem steady_startWindows (mask : Nat) (ignore : Bool) (s : State) : Steady s (startWindows mask ignore s) := by
  unfold startWindows
  extract_lets rs fresh cancelled opened
  have hcancelled : Steady s cancelled := ⟨rfl, .inl rfl⟩
  have hopened : Steady s opened := by
    refine hcancelled.trans (steady_foldl (fun t r => ?_) rs _)
    exact ⟨rfl, .inl rfl⟩
  exact steady_ite (.refl s) (hopened.upd rfl rfl)

theorem steady_reportCancelled (t0 : Nat) (pick : Contact → Bool) (s : State) (o : TchOut) :
    Steady s (reportCancelled t0 pick s o).1 := by
  refine steady_foldl_fst (fun a c => ?_) _ (s, o)
  exact ⟨rfl, .inl rfl⟩

theorem steady_idIssue (n : Nat) (s : State) : Steady s (idIssue n s).2 := by
  induction n generalizing s with
  | zero => exact ⟨rfl, .inl rfl⟩
  | succ n ih =>
    simp only [idIssue]
    split
    · exact (ih _).after rfl rfl
    · exact ⟨rfl, .inl rfl⟩

theorem steady_contactDown (t0 : Nat) (c : Contact) (s : State) : Steady s (contactDown t0 c s).2 := by
  unfold contactDown
  cases c.id with
  | none => exact (steady_idIssue 256 s).trans (steady_ite (.refl _) ⟨rfl, .inl rfl⟩)
  | some v => exact steady_ite (.refl s) ⟨rfl, .inl rfl⟩

theorem steady_gesture (g : GestCfg) (bit : Nat) (e : TchEv) (s : State) (o : TchOut) :
    Steady s (gesture g bit e s o).1 :=
  steady_ite_fst (steady_ite ⟨rfl, .inl rfl⟩ (.refl s)) (.refl s)

theorem steady_upGestures (t0 : Nat) (c : Contact) (s : State) (o : TchOut) : Steady s (upGestures t0 c s o).1 := by
  unfold upGestures
  refine steady_ite_fst (.refl s) ?_
  extract_lets g dt tap dbl
  have htaps : Steady s (if dbl then gesture g 1 ⟨0x21, c.region, c.id.getD 0xFF, c.x, c.y⟩ s o
      else if tap then gesture g 0 ⟨0x20, c.region, c.id.getD 0xFF, c.x, c.y⟩ s o else (s, o)).1 :=
    steady_ite_fst (steady_gesture ..) (steady_ite_fst (steady_gesture ..) (.refl s))
  split
  next u o hu =>
    rw [hu] at htaps
    extract_lets u'
    have htapped : Steady s u' := htaps.trans (steady_ite ⟨rfl, .inl rfl⟩ (.refl _))
    exact steady_ite_fst (htapped.trans (steady_gesture ..)) htapped

theorem steady_longPress (t0 : Nat) (c : Contact) (s : State) (o : TchOut) : Steady s (longPress t0 c s o).2.1 := by
  simp only [longPress]
  split
  · exact .refl s
  · split
    · exact steady_gesture ..
    · exact .refl s

theorem steady_contactStuck (t0 : Nat) (c : Contact) (s : State) (o : TchOut) : Steady s (contactStuck t0 c s o).1 :=
  (steady_raise (by decide) ..).after rfl rfl

/-- A contact with an ID goes, ends stuck, ends up or stays; a tentative one goes, goes DOWN or stays. -/
theorem steady_keepContact (t0 : Nat) (wet : Option Rect) (ds : List Det) (pairs : List (Nat × Nat)) (c : Contact)
    (a : State × TchOut × Relearn) : Steady a.1 (keepContact t0 wet ds pairs c a).1 := by
  obtain ⟨s, o, rl⟩ := a
  have hput : ∀ c, Steady s (putContact c s) := fun _ => ⟨rfl, .inl rfl⟩
  have hdrop : ∀ c, Steady s (dropContact c s) := fun _ => ⟨rfl, .inl rfl⟩
  unfold keepContact
  generalize (look c.slot pairs).bind (fun k => ds[k]?) = d
  cases d with
  | none =>
    refine steady_ite_fst (hdrop _) (steady_ite_fst (hdrop _) (steady_ite_fst (steady_contactStuck (o := o) ..)
      (steady_ite_fst ?_ (hput _))))
    exact (hdrop _).trans (steady_upGestures ..)
  | some d =>
    refine steady_ite_fst (steady_ite_fst (hdrop _) (steady_ite_fst ?_ (hput _)))
      (steady_ite_fst (hdrop _) (steady_ite_fst (steady_contactStuck (o := o) ..) (steady_ite_fst ?_ ?_)))
    · exact (steady_contactDown t0 ..).upd rfl rfl
    · exact (steady_contactDown t0 ..).upd rfl rfl
    · exact (steady_longPress t0 _ s o).upd rfl rfl

theorem steady_enterDet (t0 i : Nat) (present : List (List (Nat × Nat) × Bool)) (d : Det) (a : State × TchOut) :
    Steady a.1 (enterDet t0 i present d a).1 := by
  obtain ⟨s, o⟩ := a
  simp only [enterDet]
  split
  · exact .refl s
  split
  · refine .trans ?_ (steady_ite (.refl _) (.after (steady_raise (by decide) ..) rfl rfl))
    exact ⟨rfl, .inl rfl⟩
  split
  · exact (steady_contactDown t0 ..).upd rfl rfl
  split
  · exact (steady_contactDown t0 ..).upd rfl rfl
  · exact ⟨rfl, .inl rfl⟩

theorem steady_keeper (t0 i : Nat) (wet : Option Rect) (ds : List Det) (s : State) (o : TchOut) :
    Steady s (keeper t0 i wet ds s o).1 := by
  unfold keeper
  extract_lets cs pairs
  have hheld := steady_foldl_fst (fun a (c : Contact) => steady_keepContact t0 wet ds pairs
    ((a.1.tch.contacts.find? (fun x => x.slot == c.slot)).getD c) a) cs ((s, o, []) : State × TchOut × Relearn)
  split
  next u o rl hu =>
    rw [hu] at hheld
    exact hheld.trans (steady_foldl_fst (fun a d => steady_enterDet t0 i _ d a) _ (u, o))

/-! ### Regions -/

theorem steady_needSelf (want : Bool) (i t0 te : Nat) (s : State) (o : TchOut) :
    Steady s (needSelf want i t0 te s o).2.1 := by
  unfold needSelf
  split
  · exact .refl s
  · split
    · exact .refl s
    · exact steady_ite (.refl s) ((steady_raise (by decide) ..).after rfl rfl)

theorem steady_fieldFrame (r : Region) (t0 te : Nat) (xs : List NodeR) (s : State) (o : TchOut) :
    Steady s (fieldFrame r t0 te xs s o).2.1 :=
  (steady_needSelf ..).upd rfl rfl

theorem steady_surfaceFrame (r : Region) (t0 te : Nat) (xs : List NodeR) (s : State) (o : TchOut) :
    Steady s (surfaceFrame r t0 te xs s o).2.1 := by
  unfold surfaceFrame
  extract_lets f i st on1 off els acts dets
  have hself := steady_needSelf (waterOn f i || haloOn f i) i t0 te s o
  split
  next selfs u o hu =>
    rw [hu] at hself
    extract_lets isWet wets fingers wetNodes skip
    split
    next a k _ =>
      split
      next wet run ch _ =>
        extract_lets o rect upd u2 held hov ds
        have hkept := steady_keeper t0 i rect ds u2 o
        split
        next w o rl hw =>
          rw [hw] at hkept
          exact (hself.trans (hkept.after rfl rfl)).upd rfl rfl

theorem steady_windowEnd (r : Region) (xs : List NodeR) (vals : List (List (Option Int))) (s : State) (o : TchOut) :
    Steady s (windowEnd r xs vals s o).2.1 := by
  simp only [windowEnd]
  split
  · exact ⟨rfl, .inl rfl⟩
  · split <;> exact ⟨rfl, .inl rfl⟩

theorem steady_regionFrame (h : HeldFrame) (i : Nat) (a : State × TchOut) : Steady a.1 (regionFrame h i a).1 := by
  obtain ⟨s, o⟩ := a
  unfold regionFrame
  refine steady_ite_fst (.refl s) ?_
  extract_lets +onlyGivenNames gap opened xs none1
  have hopened : Steady s opened := steady_ite (steady_startWindows ..) (.refl s)
  clear_value opened
  refine hopened.trans (steady_ite_fst ((steady_raise (by decide) ..).after rfl rfl) ?_)
  extract_lets +onlyGivenNames timed te run
  have htimed : Steady opened timed := ⟨rfl, .inl rfl⟩
  have hrun : ∀ xs u o, Steady u (run xs u o).1 := by
    intro xs u o
    have hfeatures : ∀ o', Steady u (if (regionOf s.active i).field then fieldFrame (regionOf s.active i) h.t0 te xs u o'
        else surfaceFrame (regionOf s.active i) h.t0 te xs u o').2.1 := by
      intro o'
      split
      · exact steady_fieldFrame ..
      · exact steady_surfaceFrame ..
    exact (hfeatures _).upd rfl rfl
  clear_value run timed
  refine htimed.trans ?_
  split
  · exact hrun ..
  · have hdone := steady_reportCancelled h.t0 (fun c => c.region == i) timed o
    split
    next u o hu =>
      rw [hu] at hdone
      refine hdone.trans ?_
      extract_lets vals
      refine steady_ite_fst ⟨rfl, .inl rfl⟩ ?_
      extract_lets
      refine steady_ite_fst ⟨rfl, .inl rfl⟩ ?_
      have hend := steady_windowEnd (regionOf s.active i) xs vals u o
      split
      next ys w o hw =>
        rw [hw] at hend
        exact hend.trans (hrun ..)

/-! ### Controls, alarms and records -/

theorem steady_controlsFrame (pick : Nat → Bool) (sig : Nat → Nat → Option Int) (s : State) :
    Steady s (controlsFrame pick sig s).1 := by
  refine steady_ite_fst (.refl s) (steady_foldl_fst (fun a c => ?_) _ (s, []))
  exact ⟨rfl, .inl rfl⟩

theorem steady_sendRouted (f : Frame) (s : State) : Steady s (sendRouted f s) := by
  unfold sendRouted
  split <;> exact ⟨rfl, .inl rfl⟩

theorem steady_alarmToFabric (entry : List Byte) (s : State) : Steady s (alarmToFabric entry s) := by
  unfold alarmToFabric
  refine steady_ite ?_ (.refl s)
  extract_lets q _ queued
  have hqueued : Steady s queued := ⟨rfl, .inl rfl⟩
  split
  · exact (hqueued.trans (steady_sendRouted ..)).upd rfl rfl
  · exact hqueued

theorem steady_pushAlarm (b : Nat) (event : List Byte) (e : Word) (s : State) : Steady s (pushAlarm b event e s) := by
  refine .trans ?_ (steady_alarmToFabric ..)
  exact steady_ite ⟨rfl, .inl rfl⟩ (.after (steady_raise (by decide) ..) rfl rfl)

theorem steady_reportLowered (h : HeldFrame) (a : State × TchOut) : Steady a.1 (reportLowered h a).1 :=
  steady_reportCancelled ..

theorem showContacts_tch (t0 : Nat) (s : State) : (showContacts t0 s).tch = s.tch := by simp only [showContacts]

theorem steady_showContacts (t0 : Nat) (s : State) : Steady s (showContacts t0 s) :=
  ⟨by simp only [steadyView, showContacts], .inl (congrArg TchSt.todo (showContacts_tch ..))⟩

/-- The records of a mutual frame are steady, and the working state it shows is that of its frame (R219, R222). -/
theorem finishMutual_spec (h : HeldFrame) (ctl : List (List Byte)) (s : State) (o : TchOut) :
    Steady s (finishMutual h ctl s o) ∧ (finishMutual h ctl s o).tch.frameSeq = h.seq
      ∧ (finishMutual h ctl s o).tch.lastSlot = h.slot ∧ (finishMutual h ctl s o).tch.running = true
      ∧ (finishMutual h ctl s o).tch.lastPayload.any (fun p => p.1 == h.epoch) = true := by
  unfold finishMutual
  extract_lets fl payload evs alarmed write reported controlled recorded per
  have halarmed : Steady s alarmed := steady_foldl (fun _ _ => steady_pushAlarm ..) _ s
  have hreported : Steady s reported := halarmed.trans (steady_ite (onlyRes_emit ..).steady (.refl _))
  have hcontrolled : Steady s controlled := hreported.trans (steady_ite (.refl _) (onlyRes_emit ..).steady)
  have hrecorded : Steady s recorded := hcontrolled.trans (onlyRes_emitEvents ..).steady
  clear_value recorded
  refine ⟨.trans ?_ (steady_showContacts ..), ?_⟩
  · exact hrecorded.upd rfl rfl
  · rw [showContacts_tch]
    exact ⟨rfl, rfl, rfl, beq_self_eq_true h.epoch⟩

/-- A mutual frame through the pipeline is steady, and leaves the working state of its frame (R184 to R222). -/
theorem mutualFrame_spec (h : HeldFrame) (s : State) :
    Steady s (mutualFrame h s) ∧ (mutualFrame h s).tch.frameSeq = h.seq ∧ (mutualFrame h s).tch.lastSlot = h.slot
      ∧ (mutualFrame h s).tch.running = true
      ∧ (mutualFrame h s).tch.lastPayload.any (fun p => p.1 == h.epoch) = true := by
  unfold mutualFrame
  have hlowered := steady_reportLowered h (s, {})
  split
  next u o hu =>
    rw [hu] at hlowered
    have hregions := hlowered.trans (steady_foldl_fst (fun a i => steady_regionFrame h i a) (List.range 8) (u, o))
    split
    next w o hw =>
      rw [hw] at hregions
      have hcontrols := hregions.trans (steady_controlsFrame (fun c => bitOf (acw w (Reg.tchCtlCfg c)) 2)
        (fun d n => look (d, n) o.els) w)
      split
      next x ctl hx =>
        rw [hx] at hcontrols
        obtain ⟨hsteady, hshown⟩ := finishMutual_spec h ctl x o
        exact ⟨hcontrols.trans hsteady, hshown⟩

end Sys2Proof.Machine
end

section
/-! The row of a completed touch frame, and a node's baseline after a frame (sections 6.3 and 6.9). -/
namespace Sys2Proof.Machine

open Sys2Proof

variable {s : State}

/-! ### The row of a completed frame -/

/-- The row of a mutual frame, or of a self frame. -/
def touchRow (mut1 late : Bool) (s : State) : Host.Outcome State Fault Refusal :=
  if mut1 then execTouchMutualFrame late s else execTouchSelfFrame late s

/-- A frame of either kind through the pipeline. -/
def touchFrame (mut1 : Bool) (h : HeldFrame) (s : State) : State := if mut1 then mutualFrame h s else selfFrame h s

/-- The ring still holds a frame. -/
def ringHolds (s : State) (h : HeldFrame) : Bool := s.grid.ring.any (fun x => x.seq == h.seq)

/-- The frames left to process once the oldest is taken. -/
def dequeued (rest : List HeldFrame) (s : State) : State := { s with tch := { s.tch with todo := rest } }

theorem tchRuns_dequeued (rest : List HeldFrame) (s : State) : tchRuns (dequeued rest s) = tchRuns s := rfl

theorem takeTodo_eq_none {mut1 : Bool}
    (h : s.tch.todo = [] ∨ s.tch.todo.head?.any (fun h => (h.kind == 0) != mut1) = true) : takeTodo mut1 s = none := by
  unfold takeTodo
  cases htodo : s.tch.todo with
  | nil => rfl
  | cons x rest =>
    rw [htodo] at h
    exact if_pos (h.resolve_left (List.cons_ne_nil x rest))

theorem takeTodo_eq_some {h : HeldFrame} {rest : List HeldFrame} (htodo : s.tch.todo = h :: rest) :
    takeTodo (h.kind == 0) s = some (h, ringHolds s h, dequeued rest s) := by
  unfold takeTodo
  rw [htodo]
  exact if_neg (by simp)

theorem touchRow_idle {mut1 : Bool} (late : Bool)
    (h : s.tch.todo = [] ∨ s.tch.todo.head?.any (fun h => (h.kind == 0) != mut1) = true) :
    touchRow mut1 late s = .next s := by
  cases mut1 <;> simp only [touchRow, execTouchMutualFrame, execTouchSelfFrame, takeTodo_eq_none h, if_true, if_false,
    Bool.false_eq_true]

/-- The oldest frame is taken; the pipeline processes it where it runs, or finds it late (R195, Table 6-6). -/
theorem touchRow_taken {h : HeldFrame} {rest : List HeldFrame} (late : Bool) (htodo : s.tch.todo = h :: rest) :
    touchRow (h.kind == 0) late s =
      if !tchRuns s then .next (settleEpochs (dequeued rest s)) else
      let u := if ringHolds s h then touchFrame (h.kind == 0) h (dequeued rest s) else dequeued rest s
      .next (settleEpochs (if late || !ringHolds s h then raise 3 Src.tchPipeLate noItem u else u)) := by
  have htake := takeTodo_eq_some htodo
  unfold touchRow execTouchMutualFrame execTouchSelfFrame touchFrame
  generalize (h.kind == 0) = mut1 at htake ⊢
  cases mut1 <;> simp only [htake, if_true, if_false, Bool.false_eq_true] <;> rw [tchRuns_dequeued]

section

variable {h : HeldFrame} {rest : List HeldFrame} (late : Bool) (htodo : s.tch.todo = h :: rest)
include htodo

theorem touchRow_discarded (hoff : tchRuns s = false) :
    touchRow (h.kind == 0) late s = .next (settleEpochs (dequeued rest s)) := by
  rw [touchRow_taken late htodo, hoff]
  rfl

theorem touchRow_lost (hon : tchRuns s = true) (hlost : ringHolds s h = false) :
    touchRow (h.kind == 0) late s = .next (settleEpochs (raise 3 Src.tchPipeLate noItem (dequeued rest s))) := by
  rw [touchRow_taken late htodo, hon, hlost, Bool.not_false, Bool.or_true]
  rfl

theorem touchRow_processed (hon : tchRuns s = true) (hheld : ringHolds s h = true) :
    touchRow (h.kind == 0) late s = .next (settleEpochs (
      if late then raise 3 Src.tchPipeLate noItem (touchFrame (h.kind == 0) h (dequeued rest s))
      else touchFrame (h.kind == 0) h (dequeued rest s))) := by
  rw [touchRow_taken late htodo, hon, hheld, Bool.not_true, Bool.or_false]
  rfl

/-- A mutual frame processed in time leaves its working state (R195, R219). -/
theorem touchRow_mutual (hkind : (h.kind == 0) = true) (hon : tchRuns s = true) (hheld : ringHolds s h = true) :
    ∃ t, touchRow true false s = .next t ∧ t.tch.frameSeq = h.seq ∧ t.tch.lastSlot = h.slot ∧ t.tch.running = true
      ∧ (t.tch.todo = rest ∨ t.tch.todo = []) ∧ t.tch.lastPayload.any (fun p => p.1 == h.epoch) = true
      ∧ t.nvm = s.nvm ∧ t.shadow = s.shadow ∧ t.time = s.time := by
  have hrow := touchRow_processed false htodo hon hheld
  rw [hkind] at hrow
  obtain ⟨⟨hview, hrest⟩, hseq, hslot, hrunning, hpayload⟩ := mutualFrame_spec h (dequeued rest s)
  simp only [steadyView, Prod.mk.injEq] at hview
  obtain ⟨hshadow, hnvm, htime, -⟩ := hview
  exact ⟨_, hrow, hseq, hslot, hrunning, hrest, hpayload, hnvm, hshadow, htime⟩

end

/-! ### A node's baseline -/

/-- The contact's drift and the footprint entry that hold a node's baseline, if any (R195, R196). -/
def footAt (cs : List Contact) (x : NodeR) : Option (Int × FootNode) :=
  cs.findSome? (fun c => (c.foot.find? (fun z => decide (z.d = x.d ∧ z.n = x.n))).map (fun z => (c.drift, z)))

/-- What a frame reads at a node: its lines and its value. -/
def NodeR.reading (x : NodeR) : Nat × Nat × Option Int := (x.d, x.n, x.v)

theorem sig_eq {x : NodeR} {v : Int} (hv : x.v = some v) (hst : 2 ≤ x.st) :
    x.sig = some (roundDiv (x.b - v * 65536) 65536) := by
  unfold NodeR.sig
  rw [hv]
  exact if_neg (by omega)

section

variable {tr : Nat} {off anti : Int} {wet : Option Rect} {cs : List Contact} {rl : Relearn}
  {sums : List (Nat × Nat × Nat × Int)} {x : NodeR}

theorem surfaceNode_reading : (surfaceNode tr off anti wet cs rl sums x).1.reading = x.reading := by
  simp only [surfaceNode]
  repeat' split
  all_goals rfl

/-- A node that a stuck contact held learns anew (R198). -/
theorem surfaceNode_relearn (hrl : (x.d, x.n) ∈ rl) :
    (surfaceNode tr off anti wet cs rl sums x).1 = { x with st := 5, anti := false } := by
  unfold surfaceNode
  rw [if_pos (by simpa using hrl)]

variable (hrl : (x.d, x.n) ∉ rl)
include hrl

theorem surfaceNode_none (hv : x.v = none) : (surfaceNode tr off anti wet cs rl sums x).1 = x := by
  unfold surfaceNode
  rw [if_neg (by simpa using hrl), hv]

section

variable {v : Int} (hv : x.v = some v)
include hv

theorem surfaceNode_learn (hst : x.st ≤ 1) :
    (surfaceNode tr off anti wet cs rl sums x).1 = { x with st := 2, b := v * 65536, anti := false } := by
  unfold surfaceNode
  simp only [List.contains_iff_mem, hrl, hv, hst, if_true, if_false]

/-- The second value of RELEARN ends it, with the mean of the two (R197). -/
theorem surfaceNode_relearned {t : Int} (hst : x.st = 5)
    (hsum : sums.find? (fun q => decide (q.1 = x.d ∧ q.2.1 = x.n)) = some (x.d, x.n, 1, t)) :
    (surfaceNode tr off anti wet cs rl sums x).1 = { x with st := 2, b := (t + v) * 65536 / 2, anti := false } := by
  unfold surfaceNode
  simp only [List.contains_iff_mem, hrl, hv, hst, hsum, if_true, if_false, show ¬(5 ≤ 1) by decide]

section

variable (hst : 2 ≤ x.st) (hst5 : x.st ≠ 5)
include hst hst5

theorem surfaceNode_frozen {h : Int} {z : FootNode} (hfoot : footAt cs x = some (h, z)) :
    (surfaceNode tr off anti wet cs rl sums x).1 = { x with st := 4, b := z.bf + (h - z.hj), anti := false } := by
  unfold footAt at hfoot
  unfold surfaceNode
  simp only [List.contains_iff_mem, hrl, hv, hst5, hfoot, if_false, show ¬x.st ≤ 1 by omega]

/-- A node under no contact goes to RELEARN at its second anti frame, pauses under a signal or water, else tracks
(Table 6-1). -/
theorem surfaceNode_free (hfoot : footAt cs x = none) :
    (surfaceNode tr off anti wet cs rl sums x).1 =
      (let sg := roundDiv (x.b - v * 65536) 65536
      if sg ≤ -anti ∧ x.anti = true then { x with st := 5, anti := false }
      else if off ≤ sg ∨ wet.any (fun q => inRect q (x.d, x.n)) = true then { x with st := 3, anti := decide (sg ≤ -anti) }
      else { x with st := 2, anti := decide (sg ≤ -anti)
                    b := if tr = 0 then x.b else x.b + (v * 65536 - x.b) / 2 ^ tr }) := by
  unfold footAt at hfoot
  unfold surfaceNode
  simp only [List.contains_iff_mem, hrl, hv, hst5, hfoot, if_false, show ¬x.st ≤ 1 by omega, sig_eq hv hst, Option.getD_some,
    Bool.and_eq_true, Bool.or_eq_true, decide_eq_true_eq]
  cases wet <;> simp only [Option.any_none, Option.any_some, Bool.false_eq_true] <;> split_ifs <;> rfl

/-- Two anti frames in a row send a node to RELEARN with its baseline (R197). -/
theorem surfaceNode_anti (hfoot : footAt cs x = none) (hlow : roundDiv (x.b - v * 65536) 65536 ≤ -anti)
    (hanti : x.anti = true) :
    (surfaceNode tr off anti wet cs rl sums x).1.st = 5 ∧ (surfaceNode tr off anti wet cs rl sums x).1.b = x.b := by
  rw [surfaceNode_free hrl hv hst hst5 hfoot]
  dsimp only
  rw [if_pos ⟨hlow, hanti⟩]
  exact ⟨rfl, rfl⟩

/-- Else a node counts its anti frame, and pauses under a signal or water or tracks (R195). -/
theorem surfaceNode_paused_or_tracked (hfoot : footAt cs x = none)
    (hno : -anti < roundDiv (x.b - v * 65536) 65536 ∨ x.anti = false) :
    let y := (surfaceNode tr off anti wet cs rl sums x).1
    let sg := roundDiv (x.b - v * 65536) 65536
    let inWet := wet.any (fun q => inRect q (x.d, x.n))
    y.anti = decide (sg ≤ -anti)
      ∧ ((off ≤ sg ∨ inWet = true) → y.st = 3 ∧ y.b = x.b)
      ∧ (sg < off → inWet = false → y.st = 2 ∧ y.b = (if tr = 0 then x.b else x.b + (v * 65536 - x.b) / 2 ^ tr)) := by
  intro y sg inWet
  have hfirst : ¬(sg ≤ -anti ∧ x.anti = true) := by
    rintro ⟨hlow, hanti⟩
    exact hno.elim (not_lt.mpr hlow) (fun h => Bool.noConfusion (h.symm.trans hanti))
  have hy : y = _ := (surfaceNode_free hrl hv hst hst5 hfoot).trans (if_neg hfirst)
  rw [hy]
  refine ⟨?_, fun hpause => ?_, fun hbelow hdry => ?_⟩
  · split <;> rfl
  · rw [if_pos hpause]
    exact ⟨rfl, rfl⟩
  · rw [if_neg (not_or.mpr ⟨not_le.mpr hbelow, Bool.eq_false_iff.mp hdry⟩)]
    exact ⟨rfl, rfl⟩

end

end

end

end Sys2Proof.Machine
end

section
/-! A gang's step and a scan in EMBER (section 7.6). -/
namespace Sys2Proof.Machine

open Sys2Proof

variable {s t u : State}

/-! ### One gang's step -/

theorem sumInt_cons (x : Int) (l : List Int) : sumInt (x :: l) = x + sumInt l := by
  simp only [sumInt, ← List.sum_eq_foldl, List.sum_cons]

section

variable (cf track app tou : Nat) (q : Int) {g : GangSt}

/-- The first four values give the baseline, and detect nothing (R248). -/
theorem gangStep_first (hb : g.base = none) :
    (gangStep cf track app tou q g).2 = (false, false)
      ∧ (g.first.length < 3 → (gangStep cf track app tou q g).1.base = none)
      ∧ (g.first.length = 3 → (gangStep cf track app tou q g).1.base = some (q + sumInt g.first, 2)) := by
  simp only [gangStep, hb, List.length_cons]
  refine ⟨trivial, fun h => ?_, fun h => ?_⟩
  · rw [if_pos (by omega)]
  · rw [if_neg (by omega)]
    simp only [gangMean, sumInt_cons]

/-- A gang with a baseline detects a run longer than CONFIRM while armed, and tracks below half of APPROACH (R248, R249). -/
theorem gangStep_based {b : Int × Nat} (hb : g.base = some b) (hr : g.rebase = none) :
    let r := gangStep cf track app tou q g
    (r.2.1 = true ↔ g.armed = true ∧ gangAbove q b app = true ∧ cf < g.approachRun + 1)
      ∧ (r.2.2 = true ↔ g.armed = true ∧ gangAbove q b tou = true ∧ cf < g.touchRun + 1)
      ∧ (r.2.1 = true ∨ r.2.2 = true → r.1.armed = false)
      ∧ (gangAbove q b (app / 2 : Nat) = true → r.1.base = some b)
      ∧ (gangAbove q b (app / 2 : Nat) = false → r.1.base = some (gangTrack track q b)
          ∧ (r.2.1 = false → r.2.2 = false → r.1.armed = true)) := by
  intro r
  have hrun : ∀ (above : Bool) (n : Nat), cf < (if above then n + 1 else 0) ↔ above = true ∧ cf < n + 1 := by
    intro above n
    cases above <;> simp
  have happroach : r.2.1 = true ↔ g.armed = true ∧ gangAbove q b app = true ∧ cf < g.approachRun + 1 := by
    simp only [r, gangStep, hb, hr, Bool.and_eq_true, decide_eq_true_eq, hrun]
  have htouch : r.2.2 = true ↔ g.armed = true ∧ gangAbove q b tou = true ∧ cf < g.touchRun + 1 := by
    simp only [r, gangStep, hb, hr, Bool.and_eq_true, decide_eq_true_eq, hrun]
  have harmed : r.1.armed = if r.2.1 || r.2.2 then false else if gangAbove q b (app / 2 : Nat) then g.armed else true := by
    simp only [r, gangStep, hb, hr]
  have hbase : r.1.base = some (if gangAbove q b (app / 2 : Nat) then b else gangTrack track q b) := by
    simp only [r, gangStep, hb, hr]
  refine ⟨happroach, htouch, fun h => ?_, fun h => ?_, fun h => ⟨?_, fun ha ht => ?_⟩⟩
  · rw [harmed, if_pos (Bool.or_eq_true_iff.mpr h)]
  · rw [hbase, if_pos h]
  · rw [hbase, h]
    rfl
  · rw [harmed, ha, ht, h]
    rfl

end

/-! ### Faults while the device sleeps -/

/-- What a raise in EMBER or RETAIN leaves alone: its reaction waits (R429). -/
def sleepView (s : State) := (s.sys, s.time, s.active, s.nvm, s.snuff, s.carr, s.hif)

theorem asleep_congr (h : t.sys = s.sys) : asleep t = asleep s := by rw [asleep, asleep, h]

theorem raise_asleep (hs : asleep s = true) (b src item : Nat) : sleepView (raise b src item s) = sleepView s := by
  unfold raise raiseIn
  split
  · rfl
  extract_lets
  split
  extract_lets recorded journaled
  have hjournaled : sleepView journaled = sleepView s := by
    unfold journaled
    split <;> rfl
  have hasleep : asleep journaled = true := (asleep_congr (congrArg Prod.fst hjournaled)).trans hs
  clear_value journaled
  rw [if_pos hasleep]
  split <;> exact hjournaled

/-! ### One gang's part of a scan -/

/-- What the gangs' parts of a scan leave alone. -/
def scanView (s : State) := (s.sys, s.time, s.active, s.nvm, s.snuff, s.carr.scans)

/-- A gang's state, and whether its approach and its touch have been detected in this stay. -/
def gangPart (s : State) (g : Fin 8) : GangSt × Bool × Bool :=
  (s.carr.gangs[g], s.carr.approach.getLsbD g.val, s.carr.touch.getLsbD g.val)

/-- A scan measures a gang: it is enabled, and some line of it is not snuffed (R246, R247). -/
def gangMeasured (s : State) (g : Nat) : Bool := (gangsOn s.active).contains g && gangAlive s g

/-- A gang's step on a value, by the settings in force. -/
def gangResult (s : State) (g : Fin 8) (q : Int) : GangSt × Bool × Bool :=
  let c := fileGet s.active Reg.carrEmbCfg
  gangStep (fld c 16 3) (fld c 20 4) (gangThr s.active g.val).1 (gangThr s.active g.val).2 q s.carr.gangs[g]

/-- A gang that a scan gives no value: its runs of consecutive scans end (R247). -/
def gangLost (x : GangSt) : GangSt :=
  { x with signal := none, seen := true, overloaded := true, approachRun := 0, touchRun := 0, negRun := 0 }

/-- A gang's state replaced, with the detections `a` of approach and `b` of touch noted. -/
def setGang (g : Fin 8) (x : GangSt) (a b : Bool) (s : State) : State :=
  { s with carr := { s.carr with
    gangs := s.carr.gangs.set g.1 x g.2
    approach := if a then s.carr.approach ||| (1#8 <<< g.val) else s.carr.approach
    touch := if b then s.carr.touch ||| (1#8 <<< g.val) else s.carr.touch } }

theorem getLsbD_or_bit (a : Bool) (x : BitVec 8) (k g : Fin 8) :
    (if a then x ||| (1#8 <<< k.val) else x).getLsbD g.val = (x.getLsbD g.val || (a && decide (k = g))) := by
  have hbit : ∀ k g : Fin 8, (1#8 <<< k.val).getLsbD g.val = decide (k = g) := by decide
  cases a
  · simp
  · rw [if_pos rfl, BitVec.getLsbD_or, hbit, Bool.true_and]

theorem setGang_part_self (g : Fin 8) (x : GangSt) (a b : Bool) (s : State) :
    gangPart (setGang g x a b s) g = (x, s.carr.approach.getLsbD g.val || a, s.carr.touch.getLsbD g.val || b) := by
  simp only [gangPart, setGang, getLsbD_or_bit, Fin.getElem_fin, Vector.getElem_set_self, decide_true, Bool.and_true]

theorem setGang_part_other {g k : Fin 8} (hne : k ≠ g) (x : GangSt) (a b : Bool) (s : State) :
    gangPart (setGang k x a b s) g = gangPart s g := by
  have hval : k.val ≠ g.val := fun e => hne (Fin.ext e)
  simp only [gangPart, setGang, getLsbD_or_bit, Fin.getElem_fin, Vector.getElem_set_ne _ _ hval, hne, decide_false,
    Bool.and_false, Bool.or_false]

theorem emberGang_unmeasured {g : Fin 8} (hm : gangMeasured s g.val = false) (v : Option Int) : emberGang v g s = s := by
  rw [gangMeasured, Bool.and_eq_false_iff] at hm
  unfold emberGang
  exact if_pos (by simpa using hm)

section

variable {g : Fin 8} (hm : gangMeasured s g.val = true)
include hm

theorem emberGang_none : emberGang none g s =
    let t := setGang g (gangLost s.carr.gangs[g]) false false s
    if s.carr.gangs[g].overloaded then t else raise 4 Src.carrEmberOverload g.val t := by
  rw [gangMeasured, Bool.and_eq_true] at hm
  obtain ⟨hon, halive⟩ := hm
  simp only [emberGang, hon, halive, vmod]
  cases s.carr.gangs[g].overloaded <;> rfl

theorem emberGang_some (q : Int) : emberGang (some q) g s =
    let r := gangResult s g q
    let t := setGang g r.1 r.2.1 r.2.2 s
    if r.2.1 || r.2.2 then wakeEvent t else t := by
  rw [gangMeasured, Bool.and_eq_true] at hm
  obtain ⟨hon, halive⟩ := hm
  simp only [emberGang, hon, halive]
  rfl

end

/-- `t` differs from `s` in the gangs at most, as far as a scan sees, and WAKEn stays asserted. -/
structure ScanKeeps (s t : State) : Prop where
  view : scanView t = scanView s
  wake : s.hif.wakePin = true → t.hif.wakePin = true

theorem ScanKeeps.refl (s : State) : ScanKeeps s s := ⟨rfl, id⟩

theorem ScanKeeps.trans (h : ScanKeeps s t) (k : ScanKeeps t u) : ScanKeeps s u :=
  ⟨k.view.trans h.view, fun e => k.wake (h.wake e)⟩

theorem ScanKeeps.asleep (h : ScanKeeps s t) (hs : asleep s = true) : asleep t = true :=
  (asleep_congr (congrArg Prod.fst h.view)).trans hs

theorem ScanKeeps.measured (h : ScanKeeps s t) (g : Nat) : gangMeasured t g = gangMeasured s g := by
  have hview := h.view
  simp only [scanView, Prod.mk.injEq] at hview
  obtain ⟨-, -, hactive, -, hsnuff, -⟩ := hview
  simp only [gangMeasured, gangAlive, lineSnuffed, hactive, hsnuff]

theorem ScanKeeps.result (h : ScanKeeps s t) {g : Fin 8} (hpart : gangPart t g = gangPart s g) (q : Int) :
    gangResult t g q = gangResult s g q := by
  have hview := h.view
  simp only [scanView, Prod.mk.injEq] at hview
  obtain ⟨-, -, hactive, -⟩ := hview
  simp only [gangResult, hactive, show t.carr.gangs[g] = s.carr.gangs[g] from congrArg Prod.fst hpart]

/-- An overload's raise in EMBER leaves the scan and every gang alone. -/
theorem overload_keeps (hs : asleep s = true) (g : Nat) :
    ScanKeeps s (raise 4 Src.carrEmberOverload g s) ∧ gangPart (raise 4 Src.carrEmberOverload g s) = gangPart s := by
  have h := raise_asleep hs 4 Src.carrEmberOverload g
  simp only [sleepView, Prod.mk.injEq] at h
  obtain ⟨hsys, htime, hactive, hnvm, hsnuff, hcarr, hhif⟩ := h
  refine ⟨⟨?_, (congrArg HifSt.wakePin hhif).trans⟩, ?_⟩
  · simp only [scanView, hsys, htime, hactive, hnvm, hsnuff, hcarr]
  · funext k
    simp only [gangPart, hcarr]

section

variable (hs : asleep s = true)
include hs

theorem emberGang_keeps (v : Option Int) (g : Fin 8) : ScanKeeps s (emberGang v g s) := by
  cases hm : gangMeasured s g.val with
  | false =>
    rw [emberGang_unmeasured hm]
    exact .refl s
  | true =>
    cases v with
    | none =>
      rw [emberGang_none hm]
      extract_lets t
      have ht : ScanKeeps s t := ⟨rfl, id⟩
      split
      · exact ht
      · exact ht.trans (overload_keeps (ht.asleep hs) g.val).1
    | some q =>
      rw [emberGang_some hm]
      extract_lets r t
      split
      · exact ⟨rfl, fun _ => rfl⟩
      · exact ⟨rfl, id⟩

theorem emberGang_part_other {g k : Fin 8} (hne : k ≠ g) (v : Option Int) :
    gangPart (emberGang v k s) g = gangPart s g := by
  cases hm : gangMeasured s k.val with
  | false => rw [emberGang_unmeasured hm]
  | true =>
    cases v with
    | none =>
      rw [emberGang_none hm]
      extract_lets t
      have ht : gangPart t g = gangPart s g := setGang_part_other hne ..
      split
      · exact ht
      · exact (congrFun (overload_keeps (s := t) hs k.val).2 g).trans ht
    | some q =>
      rw [emberGang_some hm]
      extract_lets r t
      have ht : gangPart t g = gangPart s g := setGang_part_other hne ..
      split <;> exact ht

theorem emberGang_part_lost {g : Fin 8} (hm : gangMeasured s g.val = true) :
    gangPart (emberGang none g s) g = (gangLost s.carr.gangs[g], (gangPart s g).2) := by
  rw [emberGang_none hm]
  extract_lets t
  have ht : gangPart t g = (gangLost s.carr.gangs[g], (gangPart s g).2) := by
    rw [setGang_part_self, Bool.or_false, Bool.or_false, gangPart]
  split
  · exact ht
  · exact (congrFun (overload_keeps (s := t) hs g.val).2 g).trans ht

end

/-- A value steps the gang; a detection is noted and asserts WAKEn (R249). -/
theorem emberGang_part_value {g : Fin 8} (hm : gangMeasured s g.val = true) (q : Int) :
    let r := gangResult s g q
    gangPart (emberGang (some q) g s) g
        = (r.1, s.carr.approach.getLsbD g.val || r.2.1, s.carr.touch.getLsbD g.val || r.2.2)
      ∧ (r.2.1 = true ∨ r.2.2 = true → (emberGang (some q) g s).hif.wakePin = true) := by
  intro r
  rw [emberGang_some hm]
  dsimp only
  split
  · exact ⟨setGang_part_self .., fun _ => rfl⟩
  · next hno => exact ⟨setGang_part_self .., fun h => absurd (Bool.or_eq_true_iff.mpr h) hno⟩

/-! ### A scan -/

/-- The parts of some gangs in a scan, in order. -/
def scanGangs (v : List (Option Int)) (l : List (Fin 8)) (s : State) : State :=
  l.foldl (fun (t : State) (g : Fin 8) => emberGang (v.getD g.val none) g t) s

section

variable (v : List (Option Int)) (hs : asleep s = true)
include hs

theorem scanGangs_keeps (l : List (Fin 8)) : ScanKeeps s (scanGangs v l s) := by
  induction l generalizing s with
  | nil => exact .refl s
  | cons k l ih =>
    have hfirst := emberGang_keeps hs (v.getD k.val none) k
    exact hfirst.trans (ih (hfirst.asleep hs))

theorem scanGangs_part_other {g : Fin 8} {l : List (Fin 8)} (hg : g ∉ l) :
    gangPart (scanGangs v l s) g = gangPart s g := by
  induction l generalizing s with
  | nil => rfl
  | cons k l ih =>
    obtain ⟨hne, hl⟩ := not_or.mp (mt List.mem_cons.mpr hg)
    have hfirst := (emberGang_keeps hs (v.getD k.val none) k).asleep hs
    exact (ih hfirst hl).trans (emberGang_part_other hs (Ne.symm hne) _)

/-- A scan is, for one gang, that gang's part between parts of other gangs. -/
theorem scanGangs_around (g : Fin 8) : ∃ u, ScanKeeps s u ∧ gangPart u g = gangPart s g
    ∧ ScanKeeps (emberGang (v.getD g.val none) g u) (scanGangs v (List.finRange 8) s)
    ∧ gangPart (scanGangs v (List.finRange 8) s) g = gangPart (emberGang (v.getD g.val none) g u) g := by
  obtain ⟨l, l', hl⟩ := List.append_of_mem (List.mem_finRange g)
  have hnodup := List.nodup_middle.mp (hl ▸ List.nodup_finRange 8)
  obtain ⟨hbefore, hafter⟩ := not_or.mp (mt List.mem_append.mpr (List.nodup_cons.mp hnodup).1)
  have hfirst := scanGangs_keeps v hs l
  have hown := (emberGang_keeps (hfirst.asleep hs) (v.getD g.val none) g).asleep (hfirst.asleep hs)
  have hscan : scanGangs v (List.finRange 8) s = scanGangs v l' (emberGang (v.getD g.val none) g (scanGangs v l s)) := by
    rw [hl, scanGangs, List.foldl_append, List.foldl_cons]
    rfl
  rw [hscan]
  exact ⟨_, hfirst, scanGangs_part_other v hs hbefore, scanGangs_keeps v hown l', scanGangs_part_other v hown hafter⟩

/-- What a scan makes of one gang: nothing where it is not measured, an end of its runs where it has no value, else its
step (R246 to R249). -/
theorem scanGangs_part (g : Fin 8) : let t := scanGangs v (List.finRange 8) s
    (gangMeasured s g.val = false → gangPart t g = gangPart s g)
      ∧ (gangMeasured s g.val = true → v.getD g.val none = none → t.carr.gangs[g] = gangLost s.carr.gangs[g])
      ∧ (∀ q, gangMeasured s g.val = true → v.getD g.val none = some q → let r := gangResult s g q
          gangPart t g = (r.1, s.carr.approach.getLsbD g.val || r.2.1, s.carr.touch.getLsbD g.val || r.2.2)
            ∧ (r.2.1 = true ∨ r.2.2 = true → t.hif.wakePin = true)) := by
  intro t
  obtain ⟨u, hu, hpart, hrest, hlast⟩ := scanGangs_around v hs g
  rw [← hu.measured g.val]
  refine ⟨fun hm => ?_, fun hm hv => ?_, fun q hm hv => ?_⟩
  · rw [hlast, emberGang_unmeasured hm, hpart]
  · rw [hv, emberGang_part_lost (hu.asleep hs) hm] at hlast
    have hgang : u.carr.gangs[g] = s.carr.gangs[g] := congrArg Prod.fst hpart
    exact (congrArg Prod.fst hlast).trans (congrArg gangLost hgang)
  · obtain ⟨hstep, hwake⟩ := emberGang_part_value hm q
    rw [hv] at hlast hrest
    rw [← hu.result hpart]
    have hbits := congrArg Prod.snd hpart
    simp only [gangPart, Prod.mk.injEq] at hbits
    rw [← hbits.1, ← hbits.2]
    exact ⟨hlast.trans hstep, fun h => hrest.wake (hwake h)⟩

end

/-- A scan in EMBER counts, and then takes each gang in turn (R247). -/
theorem execEmberScan_runs (v : List (Option Int)) (hp : s.sys.power = .ember) (hexit : s.sys.exitPend = false)
    (hreset : s.sys.inReset = false) (hon : fld (acw s Reg.carrEmbCfg) 0 6 ≠ 0) :
    ∃ t, execEmberScan v s = .next t ∧ t.carr.scans = sat16 s.carr.scans 1 ∧ t.sys = s.sys ∧ t.time = s.time
      ∧ t.active = s.active ∧ t.nvm = s.nvm
      ∧ ∀ g : Fin 8, (gangMeasured s g.val = false → gangPart t g = gangPart s g)
        ∧ (gangMeasured s g.val = true → v.getD g.val none = none → t.carr.gangs[g] = gangLost s.carr.gangs[g])
        ∧ (∀ q, gangMeasured s g.val = true → v.getD g.val none = some q → let r := gangResult s g q
            gangPart t g = (r.1, s.carr.approach.getLsbD g.val || r.2.1, s.carr.touch.getLsbD g.val || r.2.2)
              ∧ (r.2.1 = true ∨ r.2.2 = true → t.hif.wakePin = true)) := by
  let counted : State := { s with carr := { s.carr with scans := sat16 s.carr.scans 1 } }
  have hs : asleep counted = true := by
    rw [asleep, show counted.sys.power = .ember from hp]
    rfl
  have hview := (scanGangs_keeps v hs (List.finRange 8)).view
  simp only [scanView, Prod.mk.injEq] at hview
  obtain ⟨hsys, htime, hactive, hnvm, -, hscans⟩ := hview
  refine ⟨scanGangs v (List.finRange 8) counted, ?_, hscans, hsys, htime, hactive, hnvm, fun g => scanGangs_part v hs g⟩
  unfold execEmberScan
  rw [if_neg (by simp [hp, hexit, hreset, hon])]
  rfl

theorem execEmberScan_idle (v : List (Option Int)) (h : s.sys.power ≠ .ember ∨ s.sys.exitPend = true
    ∨ s.sys.inReset = true ∨ fld (acw s Reg.carrEmbCfg) 0 6 = 0) : execEmberScan v s = .next s :=
  if_pos h

end Sys2Proof.Machine
end

section
/-! The housekeeping round and the taper (sections 14.6 and 14.7). -/
namespace Sys2Proof.Machine

open Sys2Proof

variable {s t : State}

/-! ### What the checks of a round leave alone -/

theorem mem_faultInsert {x y : Nat × Nat × Nat} {l : List (Nat × Nat × Nat)} (h : y ∈ faultInsert s x l) :
    y = x ∨ y ∈ l := by
  induction l with
  | nil => exact .inl (List.mem_singleton.mp h)
  | cons z l ih =>
    rw [faultInsert] at h
    split at h
    · exact List.mem_cons.mp h
    · rcases List.mem_cons.mp h with rfl | h
      · exact .inr List.mem_cons_self
      · exact (ih h).imp_right (List.mem_cons_of_mem z)

theorem mem_of_mem_foldr_faultInsert {y : Nat × Nat × Nat} {l : List (Nat × Nat × Nat)}
    (h : y ∈ l.foldr (faultInsert s) []) : y ∈ l := by
  induction l with
  | nil => exact h
  | cons x l ih =>
    rcases mem_faultInsert h with rfl | h
    · exact List.mem_cons_self
    · exact List.mem_cons_of_mem x (ih h)

theorem steady_raiseAll {l : List (Nat × Nat × Nat)} (hl : ∀ x ∈ l, x.1 ≠ 7) (s : State) : Steady s (raiseAll l s) :=
  List.foldlRecOn (motive := Steady s) _ _ (.refl s)
    (fun _ h x hx => h.trans (steady_raiseIn (hl x (mem_of_mem_foldr_faultInsert hx)) ..))

/-- What the checks of a round leave alone. -/
def roundView (s : State) :=
  (s.shadow, s.nvm, s.time, s.snuff.sensors, s.hkp.ch, s.hkp.disagree, s.hkp.tj, s.hkp.rounds)

theorem Steady.round (h : Steady s t) : roundView t = roundView s := by
  have hview := h.view
  simp only [steadyView, Prod.mk.injEq] at hview
  obtain ⟨hshadow, hnvm, htime, hhkp, hsensors⟩ := hview
  simp only [roundView, hshadow, hnvm, htime, hhkp, hsensors]

theorem raise_round (src item : Nat) (s : State) : roundView (raise 10 src item s) = roundView s :=
  (steady_raise (by decide) src item s).round

theorem checkStep_round (ok : Bool) (s : State) : roundView (checkStep ok s) = roundView s := by
  unfold checkStep
  split
  · rfl
  · split
    · rfl
    · exact raise_round ..

theorem sensorsLowStep_round (s : State) : roundView (sensorsLowStep s) = roundView s := by
  unfold sensorsLowStep
  split
  · split
    · rfl
    · exact raise_round ..
  · rfl

theorem tempWarnStep_round (s : State) : roundView (tempWarnStep s) = roundView s := by
  unfold tempWarnStep
  split
  · split
    · rfl
    · exact raise_round ..
  · split <;> rfl

theorem supplyStep_round (conv : List Int) (s : State) : roundView (supplyStep conv s) = roundView s := by
  refine List.foldlRecOn (motive := fun t => roundView t = roundView s) _ _ rfl (fun t h c _ => ?_)
  dsimp only
  split
  · exact h
  · split
    · exact (raise_round ..).trans h
    · exact h

theorem taperRound_round (s : State) : roundView (taperRound s) = roundView s := by
  unfold taperRound
  dsimp only
  split
  · rfl
  · split
    · split
      · split
        · exact raise_round ..
        · rfl
      · rfl
    · split
      · split <;> rfl
      · rfl

theorem taperApply_round (s : State) : roundView (taperApply s) = roundView s := rfl

/-! ### The cross-check and Tj -/

/-- The runs of rounds in a row in which each sensor has disagreed (R442). -/
def disagreeRuns (dis : List Nat) (old : Vector Nat 9) : Vector Nat 9 :=
  Vector.ofFn (fun (i : Fin 9) => if dis.contains i.val then min 3 (old[i] + 1) else 0)

/-- The runs of disagreement, and Tj, replaced. -/
def withDisagree (d : Vector Nat 9) (s : State) : State := { s with hkp := { s.hkp with disagree := d } }
def withTj (tj : Int) (s : State) : State := { s with hkp := { s.hkp with tj := tj } }

theorem crossCheck_round (dis : List Nat) (s : State) :
    roundView (crossCheck dis s) = roundView (withDisagree (disagreeRuns dis s.hkp.disagree) s) := by
  unfold crossCheck
  refine (steady_raiseAll (fun x hx => ?_) _).round
  obtain ⟨i, -, rfl⟩ := List.mem_map.mp hx
  exact (by decide : 10 ≠ 7)

/-- The sensors that Tj is taken from: those that agree, or all while none does (R442). -/
def sensorsUsed (live dis : List Nat) : List Nat :=
  let used := live.filter (fun i => !dis.contains i)
  if used.isEmpty then live else used

/-- Tj is the highest of its sensors, where there are any (R440). -/
theorem roundTj_round (live dis : List Nat) (v : Nat → Int) (s : State) :
    ∃ tj, roundView (roundTj live dis v s) = roundView (withTj tj s)
      ∧ (sensorsUsed live dis ≠ [] → (∀ i ∈ sensorsUsed live dis, v i ≤ tj) ∧ ∃ i ∈ sensorsUsed live dis, tj = v i) := by
  unfold roundTj
  dsimp only
  rw [← sensorsUsed]
  generalize sensorsUsed live dis = l
  cases l with
  | nil => exact ⟨_, rfl, fun h => absurd rfl h⟩
  | cons x l =>
    refine ⟨(l.map v).foldl max (v x), rfl, fun _ => ?_⟩
    obtain ⟨hmem, hle⟩ := List.max?_eq_some_iff.mp (List.max?_cons' (x := v x) (xs := l.map v))
    rw [← List.map_cons] at hmem hle
    obtain ⟨i, hi, htj⟩ := List.mem_map.mp hmem
    exact ⟨fun k hk => hle _ (List.mem_map_of_mem hk), i, hi, htj.symm⟩

theorem withTj_round (h : roundView t = roundView s) (tj : Int) : roundView (withTj tj t) = roundView (withTj tj s) := by
  simp only [roundView, withTj, Prod.mk.injEq] at h ⊢
  tauto

/-! ### The round -/

/-- The channels of a round: a snuffed sensor's is 0x8000 (R438). -/
def roundChannels (v : Nat → Int) (s : State) : Vector Half 24 :=
  Vector.ofFn (fun (c : Fin 24) => if c.val < 9 ∧ sensorSnuffed s c.val then 0x8000 else BitVec.ofInt 16 (v c.val))

/-- The channels replaced. -/
def withChannels (ch : Vector Half 24) (s : State) : State := { s with hkp := { s.hkp with ch := ch } }

/-- The end of a round: it is counted, its edge line latched, and HKP_CFG taken from the shadow (R444). -/
def roundEnd (s : State) : State :=
  let s := { s with hkp := { s.hkp with rounds := s.hkp.rounds + 1 } }
  edgeLine 18 (setAcw Reg.hkpCfg (shw s Reg.hkpCfg) s)

/-- The checks of a round before Tj is taken. -/
def roundChecks (ok : Bool) (dis : List Nat) (s : State) : State := sensorsLowStep (checkStep ok (crossCheck dis s))

theorem roundChecks_round (ok : Bool) (dis : List Nat) (s : State) :
    roundView (roundChecks ok dis s) = roundView (withDisagree (disagreeRuns dis s.hkp.disagree) s) :=
  (sensorsLowStep_round _).trans ((checkStep_round ok _).trans (crossCheck_round dis s))

/-- The warnings and the taper of a round, once Tj is taken. -/
def roundLevels (conv : List Int) (s : State) : State :=
  let s := taperRound (supplyStep conv (tempWarnStep s))
  if (currentEpoch s).isNone then taperApply s else s

theorem roundLevels_round (conv : List Int) (s : State) : roundView (roundLevels conv s) = roundView s := by
  have hwarned := (taperRound_round _).trans ((supplyStep_round conv _).trans (tempWarnStep_round s))
  unfold roundLevels
  dsimp only
  split
  · exact (taperApply_round _).trans hwarned
  · exact hwarned

/-- The channels read by a round, its sensors' changes applied. -/
def roundRead (v : Nat → Int) (s : State) : State :=
  withChannels (roundChannels v (sensorsApply s)) (sensorsApply s)

theorem roundRead_disagree (v : Nat → Int) (s : State) : (roundRead v s).hkp.disagree = s.hkp.disagree := by
  simp only [roundRead, withChannels, sensorsApply]

theorem execHousekeepingRound_eq (conv : List Int) (ok : Bool) (hruns : hkpRuns s = true) :
    let v := fun i => conv.getD i 0
    let live := liveSensors (sensorsApply s)
    let dis := live.filter (disagrees live v)
    execHousekeepingRound conv ok s
      = .next (roundEnd (roundLevels conv (roundTj live dis v (roundChecks ok dis (roundRead v s))))) := by
  unfold execHousekeepingRound
  rw [hruns]
  rfl

/-- Tj is taken from the sensors that agree, or from all while none does. -/
theorem sensorsUsed_eq (live : List Nat) (v : Nat → Int) :
    sensorsUsed live (live.filter (disagrees live v)) =
      (if (live.filter (fun i => !disagrees live v i)).isEmpty then live
        else live.filter (fun i => !disagrees live v i)) := by
  have hfilter : live.filter (fun i => !(live.filter (disagrees live v)).contains i)
      = live.filter (fun i => !disagrees live v i) :=
    List.filter_congr (fun i hi => by simp [hi])
  rw [sensorsUsed, hfilter]

theorem roundEnd_latches (s : State) : (roundEnd s).eng.edges.getLsbD 18 = true := by
  have hbit : (1#32 <<< 18).getLsbD 18 = true := by decide
  simp only [roundEnd, edgeLine, BitVec.getLsbD_or, hbit, Bool.or_true]

/-- A round that runs shows its channels, its runs and its Tj, and leaves the rest of the view (R438 to R444). -/
theorem execHousekeepingRound_runs (conv : List Int) (ok : Bool) (hruns : hkpRuns s = true) :
    let v := fun i => conv.getD i 0
    let live := liveSensors (sensorsApply s)
    let dis := live.filter (disagrees live v)
    ∃ t, execHousekeepingRound conv ok s = .next t ∧ t.hkp.rounds = s.hkp.rounds + 1 ∧ t.eng.edges.getLsbD 18 = true
      ∧ t.snuff.sensors = (sensorsApply s).snuff.sensors ∧ t.hkp.ch = roundChannels v (sensorsApply s)
      ∧ t.hkp.disagree = disagreeRuns dis s.hkp.disagree
      ∧ (sensorsUsed live dis ≠ [] →
          (∀ i ∈ sensorsUsed live dis, v i ≤ t.hkp.tj) ∧ ∃ i ∈ sensorsUsed live dis, t.hkp.tj = v i)
      ∧ t.nvm = s.nvm ∧ t.shadow = s.shadow ∧ t.time = s.time := by
  intro v live dis
  obtain ⟨tj, htj, hmax⟩ := roundTj_round live dis v (roundChecks ok dis (roundRead v s))
  have hchecks := roundChecks_round ok dis (roundRead v s)
  rw [roundRead_disagree] at hchecks
  have hlevels := roundLevels_round conv (roundTj live dis v (roundChecks ok dis (roundRead v s)))
  rw [htj, withTj_round hchecks] at hlevels
  have hexec : execHousekeepingRound conv ok s
      = .next (roundEnd (roundLevels conv (roundTj live dis v (roundChecks ok dis (roundRead v s))))) :=
    execHousekeepingRound_eq conv ok hruns
  generalize roundLevels conv _ = t at hlevels hexec
  simp only [roundView, withTj, withDisagree, roundRead, withChannels, sensorsApply, Prod.mk.injEq] at hlevels
  obtain ⟨hshadow, hnvm, htime, hsensors, hch, hdisagree, rfl, hrounds⟩ := hlevels
  exact ⟨roundEnd t, hexec, congrArg (· + 1) hrounds, roundEnd_latches t, hsensors, hch, hdisagree, hmax, hnvm, hshadow,
    htime⟩

theorem execHousekeepingRound_idle (conv : List Int) (ok : Bool) (h : hkpRuns s = false) :
    execHousekeepingRound conv ok s = .next s := by
  unfold execHousekeepingRound
  rw [h]
  rfl

/-! ### The taper -/

theorem raise_hkp {b : Nat} (hb : b ≠ 7) (src item : Nat) (s : State) : (raise b src item s).hkp = s.hkp := by
  have hview := (steady_raise hb src item s).view
  simp only [steadyView, Prod.mk.injEq] at hview
  obtain ⟨-, -, -, hhkp, -⟩ := hview
  exact hhkp

section

variable (hon : bitOf (acw s Reg.hkpCfg) 24 = true)
include hon

theorem taperRound_hot (hot : (100 * fld (acw s Reg.hkpCfg) 0 8 : Int) ≤ s.hkp.tj) :
    (taperRound s).hkp = if s.hkp.hotRun = 7 then { s.hkp with k := min 15 (s.hkp.k + 1), hotRun := 0, coolRun := 0 }
      else { s.hkp with hotRun := s.hkp.hotRun + 1, coolRun := 0 } := by
  simp only [taperRound, hon, Bool.not_true, Bool.false_eq_true, if_false, if_pos hot]
  split
  · split
    · exact raise_hkp (by decide) ..
    · rfl
  · rfl

theorem taperRound_cool (hot : s.hkp.tj < (100 * fld (acw s Reg.hkpCfg) 0 8 : Int))
    (cool : s.hkp.tj ≤ (100 * fld (acw s Reg.hkpCfg) 0 8 - 100 * fld (acw s Reg.hkpCfg) 8 5 : Int)) :
    (taperRound s).hkp = if s.hkp.coolRun = 63 then { s.hkp with k := s.hkp.k - 1, hotRun := 0, coolRun := 0 }
      else { s.hkp with coolRun := s.hkp.coolRun + 1, hotRun := 0 } := by
  simp only [taperRound, hon, Bool.not_true, Bool.false_eq_true, if_false, if_neg (not_le.mpr hot), if_pos cool]
  split <;> rfl

theorem taperRound_between (hot : s.hkp.tj < (100 * fld (acw s Reg.hkpCfg) 0 8 : Int))
    (cool : (100 * fld (acw s Reg.hkpCfg) 0 8 - 100 * fld (acw s Reg.hkpCfg) 8 5 : Int) < s.hkp.tj) :
    (taperRound s).hkp = { s.hkp with hotRun := 0, coolRun := 0 } := by
  simp only [taperRound, hon, Bool.not_true, Bool.false_eq_true, if_false, if_neg (not_le.mpr hot),
    if_neg (not_le.mpr cool)]

end

theorem taperPause_ofNat (hp : s.sys.power = .active) {n m : Nat} (hm : m < 16) :
    taperPause s (BitVec.ofNat 32 (16 * n + m)) = decide (m * s.hkp.kActive / 16 < (m + 1) * s.hkp.kActive / 16) := by
  have hmod : (16 * n + m) % 2 ^ 32 % 16 = m := by omega
  simp only [taperPause, hp, BitVec.toNat_ofNat, hmod, beq_self_eq_true, Bool.true_and]

/-- Of 16 epochs in a row from a multiple of 16, K are pauses (R445). -/
theorem countP_taperPause (hp : s.sys.power = .active) (hk : s.hkp.kActive ≤ 16) (n : Nat) :
    (List.range 16).countP (fun m => taperPause s (BitVec.ofNat 32 (16 * n + m))) = s.hkp.kActive := by
  have hcount : ∀ k : Fin 17, (List.range 16).countP (fun m => decide (m * k.val / 16 < (m + 1) * k.val / 16)) = k.val := by
    decide
  have hcongr : (List.range 16).countP (fun m => taperPause s (BitVec.ofNat 32 (16 * n + m)))
      = (List.range 16).countP (fun m => decide (m * s.hkp.kActive / 16 < (m + 1) * s.hkp.kActive / 16)) :=
    List.countP_congr (fun m hm => by rw [taperPause_ofNat hp (List.mem_range.mp hm)])
  exact hcongr.trans (hcount ⟨s.hkp.kActive, by omega⟩)

end Sys2Proof.Machine
end

section

open Sys2Proof Sys2Proof.Machine

/-- Settles O52: the touch row by what it takes, a node by the rows of Table 6-1, a scan gang by gang, a round by its
view after each check, the taper by its counts, and the pauses over 16 epochs. -/
theorem touchAndRounds : Obligations.TouchAndRounds := by
  refine ⟨fun late mut1 s => ?_, fun tr off anti wet cs rl sums x => ?_, fun v s => execEmberScan_idle v,
    fun v s hp hexit hreset hon => ?_,
    fun cf track app tou q g => ⟨gangStep_first cf track app tou q, fun b => gangStep_based cf track app tou q⟩,
    fun conv ok s => execHousekeepingRound_idle conv ok, fun conv ok s hruns => ?_, fun s => ?_,
    fun s n hp hk _ => countP_taperPause hp hk n⟩
  · intro run
    have hrun : ∀ b, run b = touchRow mut1 b s := by
      intro b
      simp only [run, touchRow, exec_touchMutualFrame, exec_touchSelfFrame]
    simp only [hrun]
    refine ⟨touchRow_idle late, fun h rest htodo hkind => ?_⟩
    subst hkind
    refine ⟨touchRow_discarded late htodo, touchRow_lost late htodo, touchRow_processed late htodo, fun hon hheld hkind => ?_⟩
    rw [hkind]
    exact touchRow_mutual htodo hkind hon hheld
  · intro y foot
    have hreading : y.reading = x.reading := surfaceNode_reading
    simp only [NodeR.reading, Prod.mk.injEq] at hreading
    obtain ⟨hd, hn, hv⟩ := hreading
    exact ⟨hd, hn, hv, surfaceNode_relearn, fun hrl => ⟨surfaceNode_none hrl, fun v hv => ⟨surfaceNode_learn hrl hv,
      fun hst t => surfaceNode_relearned hrl hv hst, fun hst hst5 => ⟨fun h z => surfaceNode_frozen hrl hv hst hst5,
      fun hfoot => ⟨surfaceNode_anti hrl hv hst hst5 hfoot, surfaceNode_paused_or_tracked hrl hv hst hst5 hfoot⟩⟩⟩⟩⟩
  · obtain ⟨t, hexec, hscans, hsys, htime, hactive, hnvm, hgangs⟩ := execEmberScan_runs v hp hexit hreset hon
    refine ⟨t, hexec, hscans, hsys, htime, hactive, hnvm, fun g => ?_⟩
    intro c x meas
    obtain ⟨hunmeasured, hlost, hvalue⟩ := hgangs g
    simp only [gangPart, Prod.mk.injEq] at hunmeasured hvalue
    refine ⟨hunmeasured, hlost, fun q hm hv => ?_⟩
    obtain ⟨⟨hstate, happroach, htouch⟩, hwake⟩ := hvalue q hm hv
    exact ⟨hstate, happroach, htouch, hwake⟩
  · intro v live used
    obtain ⟨t, hexec, hrounds, hedge, hsensors, hch, hdisagree, hmax, hnvm, hshadow, htime⟩ :=
      execHousekeepingRound_runs conv ok hruns
    rw [sensorsUsed_eq] at hmax
    refine ⟨t, hexec, hrounds, hedge, hsensors, fun c => ?_, fun i => ?_, fun hused => ?_, fun hused hlive => ?_, hnvm,
      hshadow, congrArg TimeSt.ns htime⟩
    · rw [hch]
      exact Vector.getElem_ofFn ..
    · rw [hdisagree]
      exact Vector.getElem_ofFn ..
    · rw [if_neg (mt List.isEmpty_iff.mp hused)] at hmax
      exact hmax hused
    · rw [if_pos (List.isEmpty_iff.mpr hused)] at hmax
      exact hmax hlive
  · intro w on1 off h
    refine ⟨fun hon hhot => ?_, fun hon hbelow hcool => ?_, fun hon hwarm hbelow => ?_⟩
    · have hh : h = _ := taperRound_hot hon hhot
      refine ⟨fun hrun => ?_, fun hrun => ?_⟩
      · rw [hh, if_neg hrun]
        exact ⟨rfl, rfl, rfl⟩
      · rw [hh, if_pos hrun]
        exact ⟨rfl, rfl⟩
    · have hh : h = _ := taperRound_cool hon hbelow hcool
      refine ⟨fun hrun => ?_, fun hrun => ?_⟩
      · rw [hh, if_neg hrun]
        exact ⟨rfl, rfl, rfl⟩
      · rw [hh, if_pos hrun]
        exact ⟨rfl, rfl⟩
    · have hh : h = _ := taperRound_between hon hbelow hwarm
      rw [hh]
      exact ⟨rfl, rfl, rfl⟩

end

section
/-! What the bodies of the carrier commands answer, check after check (sections 7.5 and 7.8). -/
namespace Sys2Proof.Machine

open Sys2Proof

/-- The epoch of a command that may ask for one: WRONG_STATE where there is no current epoch, BAD_PARAM where it is not
ahead (R24). -/
theorem checked_target (s : State) (at1 : Prop) [Decidable at1] (e : Word) (l : List (Bool × Byte)) (go : Unit → CmdResult) :
    checked s ((!decide at1 || (targetBad s e).isNone, (targetBad s e).getD 0) :: l) go =
    if at1 ∧ currentEpoch s = none then failCmd s 0x30 else
    if at1 ∧ targetBad s e ≠ none then failCmd s 0x13 else checked s l go := by
  rw [checked_cons]
  by_cases hat : at1
  · cases hcur : currentEpoch s with
    | none => simp [targetBad, hcur, hat]
    | some c =>
      by_cases hbad : targetBad s e = none
      · simp [hat, hbad]
      · rw [targetBad_getD (Option.isSome_iff_exists.mpr ⟨c, hcur⟩) hbad]
        simp [hat, hbad]
  · simp [hat]

section

variable (p : Packet) (u : State)

/-! ### CARRIER_TABLE -/

/-- The carrier that CARRIER_TABLE names (Table 7-7). -/
def carrierNamed : Option Nat := if u8 p.params 2 = 0xFF then none else some (u8 p.params 2)

/-- The words of the entries that CARRIER_TABLE carries. -/
def tableEntries : List (Nat × Word) :=
  (List.range (u8 p.params 1)).flatMap (fun j => [(Reg.carrEntryF (u8 p.params 0 + j), wd (u32 p.params (8 + 8 * j))),
    (Reg.carrEntryC (u8 p.params 0 + j), wd (u8 p.params (12 + 8 * j) + 256 * u8 p.params (13 + 8 * j)))])

/-- The shadow with the table's entries, and with the carrier it names in CARR_CFG. -/
def tableFile : RegFile :=
  let f := fileSets (tableEntries p) u.shadow
  match carrierNamed p with
  | some c => fileSet Reg.carrCfg (setFld (fileGet f Reg.carrCfg) 0 4 c) f
  | none => f

/-- The words of a table that waits for its epoch. -/
def tableWords : List (Nat × Word) :=
  match carrierNamed p with
  | some _ => tableEntries p ++ [(Reg.carrCfg, fileGet (tableFile p u) Reg.carrCfg)]
  | none => tableEntries p

/-- The carrier that CARR holds as named after CARRIER_TABLE: one that names none leaves it. -/
def namedAfter : Option Nat :=
  match carrierNamed p with
  | some c => some c
  | none => u.carr.named

/-- CARRIER_TABLE puts the table into the shadow, or lets it wait for its epoch, where the carrier in force stays good
with it (R243, Table 7-7). -/
theorem carrierTableBody_eq : carrierTableBody p u =
    if ¬(8 ≤ p.params.length ∧ p.params.length = 8 + 8 * u8 p.params 1) then failCmd u 0x11 else
    if ¬(u8 p.params 0 ≤ 15 ∧ u8 p.params 1 ≤ 16 ∧ u8 p.params 0 + u8 p.params 1 ≤ 16
        ∧ (u8 p.params 2 ≤ 15 ∨ u8 p.params 2 = 0xFF) ∧ u8 p.params 3 ≤ 1
        ∧ ∀ j < u8 p.params 1, 100000 ≤ u32 p.params (8 + 8 * j) ∧ u32 p.params (8 + 8 * j) ≤ 500000
          ∧ 2 ≤ u8 p.params (12 + 8 * j) ∧ u8 p.params (12 + 8 * j) ≤ 16 ∧ u8 p.params (13 + 8 * j) ≤ 1
          ∧ u16 p.params (14 + 8 * j) = 0) then failCmd u 0x13 else
    if ¬(carrOk (tableFile p u) ((carrierNamed p).getD (curCarrier u)) (periodUs u) = true) then failCmd u 0x13 else
    if u8 p.params 3 = 1 ∧ currentEpoch u = none then failCmd u 0x30 else
    if u8 p.params 3 = 1 ∧ targetBad u (w32 p.params 4) ≠ none then failCmd u 0x13 else
    if u.carr.pendingSet ≠ none then failCmd u 0x31 else
    if u8 p.params 3 = 1 then
      okCmd { u with carr := { u.carr with pendingSet := some (w32 p.params 4, tableWords p u, carrierNamed p) } } []
    else
      okCmd (carrNow { withShadow (tableFile p u) u with
        carr := { u.carr with named := namedAfter p u } }) [] := by
  have hlen : (p.params.length < 8 ∨ p.params.length ≠ 8 + 8 * u8 p.params 1)
      ↔ ¬(8 ≤ p.params.length ∧ p.params.length = 8 + 8 * u8 p.params 1) := by omega
  refine if_congr hlen rfl ?_
  rw [checked_cons_cons, checked_cons, checked_cons, checked_target, checked_cons, checked_nil]
  simp only [Bool.and_eq_true, decide_eq_true_eq, List.all_eq_true, List.mem_range, and_assoc,
    Option.isNone_iff_eq_none]
  rfl

/-! ### HOP_POLICY, NOISE_SURVEY and EMBER_CONFIG -/

/-- HOP_POLICY writes the hop fields where they agree with the carrier in force (R240, Table 7-8). -/
theorem hopPolicyBody_eq : hopPolicyBody p u =
    if ¬(p.params.length = 16) then failCmd u 0x11 else
    if ¬(u8 p.params 0 ≤ 1 ∧ u8 p.params 1 ≤ 64 ∧ u8 p.params 2 ≤ 15 ∧ u8 p.params 12 ≤ 1
        ∧ zeros p.params 13 3 = true) then failCmd u 0x13 else
    let cfg := setFld (setFld (setFld (setFld (setFld (shw u Reg.carrCfg) 4 1 (u8 p.params 0)) 5 1 (u8 p.params 12))
      8 7 (u8 p.params 1)) 16 4 (u8 p.params 2)) 24 8 (u8 p.params 3)
    let f := fileSets [(Reg.carrCfg, cfg), (Reg.carrHop, wd (u16 p.params 4 + 65536 * u16 p.params 6)),
      (Reg.carrHop2, wd (u16 p.params 8 + 65536 * u16 p.params 10))] u.shadow
    if ¬(hopSetOk f (curCarrier u) = true ∧ hopRulesOk f (curCarrier u) = true
        ∧ fitOk f (curCarrier u) (periodUs u) = true) then failCmd u 0x13 else
    okCmd (carrNow (withShadow f u)) [] := by
  simp only [hopPolicyBody, checked_cons, checked_nil, decide_eq_true_eq, Bool.and_eq_true, and_assoc]

/-- NOISE_SURVEY starts a survey with nothing gathered, and the shadow carrier's work ends (R245, Table 7-2). -/
theorem noiseSurveyBody_eq : noiseSurveyBody p u =
    if ¬(p.params.length = 4) then failCmd u 0x11 else
    if ¬(u8 p.params 2 ≤ 64 ∧ u8 p.params 3 = 0) then failCmd u 0x13 else
    acceptCmd { u with carr := { u.carr with
      survey := some { mask := u16 p.params 0, values := u8 p.params 2, standalone := false, running := false, got := [] }
      shadow := none, dwellLeft := 0, blocks := [], gathered := (0, 0), candWin := [] } } := by
  simp only [noiseSurveyBody, checked_cons, checked_nil, decide_eq_true_eq]

/-- EMBER_CONFIG writes the scan's settings and its eight gangs where the enabled gangs are good (R246, Table 7-9). -/
theorem emberConfigBody_eq : emberConfigBody p u =
    if ¬(p.params.length = 68) then failCmd u 0x11 else
    if ¬(u8 p.params 0 ≤ 50 ∧ u8 p.params 2 ≤ 7 ∧ u8 p.params 3 ≤ 15) then failCmd u 0x13 else
    let f := fileSets ((Reg.carrEmbCfg, wd (u8 p.params 0 + 256 * u8 p.params 1 + 65536 * u8 p.params 2
        + 0x100000 * u8 p.params 3))
      :: (List.range 8).flatMap (fun g =>
        [(Reg.carrEmbGangL g, wd (u16 p.params (4 + 8 * g) % 512 + 65536 * (u16 p.params (6 + 8 * g) % 512))),
         (Reg.carrEmbGangT g, wd (u16 p.params (8 + 8 * g) + 65536 * u16 p.params (10 + 8 * g)))])) u.shadow
    if ¬((∀ g ∈ maskBits 8 (u8 p.params 1), u16 p.params (4 + 8 * g) ≤ 279 ∧ u16 p.params (6 + 8 * g) ≤ 279)
        ∧ emberOk f = true) then failCmd u 0x13 else
    okCmd (withShadow f u) [] := by
  simp only [emberConfigBody, checked_cons, checked_nil, decide_eq_true_eq, Bool.and_eq_true, List.all_eq_true]

end

end Sys2Proof.Machine
end

section

open Sys2Proof Sys2Proof.Machine

/-- Settles O31: each of the four carrier commands answers as its body's checks and work say. -/
theorem carrierCommands : Obligations.CarrierCommands := by
  intro p s b u q
  exact ⟨fun h => exec_concludes (exec_carrierTable p s) h (carrierTableBody_eq p u),
    fun h => exec_concludes (exec_hopPolicy p s) h (hopPolicyBody_eq p u),
    fun h => exec_concludes (exec_noiseSurvey p s) h (noiseSurveyBody_eq p u),
    fun h => exec_concludes (exec_emberConfig p s) h (emberConfigBody_eq p u)⟩

end

section
/-! What the bodies of the bridge commands answer, check after check (section 8.9). -/
namespace Sys2Proof.Machine

open Sys2Proof

/-- FLAGS and EPOCH of a bridge command: an epoch that is asked for must exist and be ahead (R24). -/
theorem checked_atChecks (s : State) (n : Nat) (e : Word) (go : Unit → CmdResult) :
    checked s (atChecks s (n == 1) e) go =
    if ¬(n = 1 → (currentEpoch s).isSome = true) then failCmd s 0x30 else
    if ¬(n = 1 → targetBad s e = none) then failCmd s 0x13 else go () := by
  simp only [atChecks, checked_cons, checked_nil, Bool.or_eq_true, Bool.not_eq_true', beq_eq_false_iff_ne, ne_eq,
    Option.isNone_iff_eq_none, ← imp_iff_not_or]

section

variable (p : Packet) (u : State)

/-! ### The configuration commands -/

/-- The word that BRIDGE_CONFIG gives its lanes (Table 8-8). -/
def laneWord : Word := wd (u8 p.params 5 % 4 + 4 * u8 p.params 6 + 256 * u8 p.params 7)

/-- The lanes' words of BRIDGE_CONFIG. -/
def laneWords : List (Nat × Word) := (maskBits 32 (u32 p.params 0)).map (fun n => (Reg.brdgLaneCfg n, laneWord p))

/-- The groups' words of EXCITE_SET (Table 8-9). -/
def excitationWords : List (Nat × Word) :=
  (maskBits 8 (u8 p.params 0)).map (fun g => (Reg.brdgEgCfg g,
    wd (u8 p.params 2 + 4 * u8 p.params 3 + 256 * u8 p.params 4 + 65536 * u8 p.params 5)))

/-- The windows' words of CMWIN_SET, of lanes and of sense pairs (Table 8-10). -/
def windowWords : List (Nat × Word) :=
  (maskBits 32 (u32 p.params 0)).map (fun n => (Reg.brdgLaneWin n, wd (u8 p.params 6 + 256 * u8 p.params 7)))
    ++ (maskBits 8 (u8 p.params 4)).map (fun g => (Reg.brdgEgWin g, wd (u8 p.params 8 + 256 * u8 p.params 9)))

/-- BRIDGE_CONFIG changes its lanes where REF and the chopping of each lane's group allow it (R260, Table 8-8). -/
theorem bridgeConfigBody_eq : bridgeConfigBody p u =
    if ¬(p.params.length = 12) then failCmd u 0x11 else
    if ¬(u8 p.params 4 ≤ 1 ∧ u8 p.params 5 ≤ 3 ∧ u8 p.params 6 ≤ 7 ∧ u8 p.params 7 ≤ 3) then failCmd u 0x13 else
    if ¬(∀ n ∈ maskBits 32 (u32 p.params 0), refBad u n (laneWord p) = false
        ∧ chopOk (fileSets (laneWords p) u.shadow) (n / 4) = true) then failCmd u 0x13 else
    if ¬(u8 p.params 4 = 1 → (currentEpoch u).isSome = true) then failCmd u 0x30 else
    if ¬(u8 p.params 4 = 1 → targetBad u (w32 p.params 8) = none) then failCmd u 0x13 else
    brdgChange (laneWords p) (u8 p.params 4 == 1) (w32 p.params 8) u := by
  unfold laneWords laneWord
  simp only [bridgeConfigBody, List.cons_append, List.nil_append, checked_cons, checked_atChecks, decide_eq_true_eq,
    List.all_eq_true, Bool.and_eq_true, Bool.not_eq_true']

/-- EXCITE_SET changes its groups where their chopping fits the rates of their lanes (R260, Table 8-9). -/
theorem exciteSetBody_eq : exciteSetBody p u =
    if ¬(p.params.length = 12) then failCmd u 0x11 else
    if ¬(u8 p.params 1 ≤ 1 ∧ u8 p.params 2 ≤ 2 ∧ u8 p.params 3 ≤ 6 ∧ u8 p.params 4 ≤ 63 ∧ u8 p.params 5 ≤ 3
        ∧ zeros p.params 6 2 = true) then failCmd u 0x13 else
    if ¬(∀ g ∈ maskBits 8 (u8 p.params 0), chopOk (fileSets (excitationWords p) u.shadow) g = true) then
      failCmd u 0x13 else
    if ¬(u8 p.params 1 = 1 → (currentEpoch u).isSome = true) then failCmd u 0x30 else
    if ¬(u8 p.params 1 = 1 → targetBad u (w32 p.params 8) = none) then failCmd u 0x13 else
    brdgChange (excitationWords p) (u8 p.params 1 == 1) (w32 p.params 8) u := by
  unfold excitationWords
  simp only [exciteSetBody, List.cons_append, List.nil_append, checked_cons, checked_atChecks, decide_eq_true_eq,
    List.all_eq_true, Bool.and_eq_true, and_assoc]

/-- CMWIN_SET changes its windows where each has its low level below its high one (R266, Table 8-10). -/
theorem cmwinSetBody_eq : cmwinSetBody p u =
    if ¬(p.params.length = 16) then failCmd u 0x11 else
    if ¬(u8 p.params 5 ≤ 1 ∧ zeros p.params 10 2 = true) then failCmd u 0x13 else
    if ¬((maskBits 32 (u32 p.params 0) = [] ∨ u8 p.params 6 < u8 p.params 7)
        ∧ (maskBits 8 (u8 p.params 4) = [] ∨ u8 p.params 8 < u8 p.params 9)) then failCmd u 0x13 else
    if ¬(u8 p.params 5 = 1 → (currentEpoch u).isSome = true) then failCmd u 0x30 else
    if ¬(u8 p.params 5 = 1 → targetBad u (w32 p.params 12) = none) then failCmd u 0x13 else
    brdgChange (windowWords p) (u8 p.params 5 == 1) (w32 p.params 12) u := by
  simp only [cmwinSetBody, List.cons_append, List.nil_append, checked_cons, checked_atChecks, decide_eq_true_eq,
    Bool.and_eq_true, Bool.or_eq_true, List.isEmpty_iff, windowWords]

/-! ### CHECK_DAC and the trims -/

/-- CHECK_DAC sets the check DAC for lanes that are enabled and not snuffed, and marks the lanes it changes (R275,
R276). -/
theorem checkDacBody_eq : checkDacBody p u =
    if ¬(p.params.length = 8) then failCmd u 0x11 else
    if ¬(u8 p.params 4 ≤ 2 ∧ u8 p.params 5 ≤ 7 ∧ -2048 ≤ sx 16 (u16 p.params 6) ∧ sx 16 (u16 p.params 6) ≤ 2047
        ∧ (u8 p.params 4 = 0 → w32 p.params 0 = 0)) then failCmd u 0x13 else
    if ¬(∀ n ∈ maskBits 32 (w32 p.params 0).toNat, laneEn u.active n = true ∧ laneSnuffed u n = false) then
      failCmd u 0x13 else
    let same := BitVec.ofNat 2 (u8 p.params 4) = u.brdg.chkMode ∧ BitVec.ofNat 3 (u8 p.params 5) = u.brdg.chkAtten
      ∧ BitVec.ofNat 12 (u16 p.params 6) = u.brdg.chkCode
    okCmd { u with brdg := { u.brdg with
      chkMode := BitVec.ofNat 2 (u8 p.params 4), chkAtten := BitVec.ofNat 3 (u8 p.params 5)
      chkCode := BitVec.ofNat 12 (u16 p.params 6), chkLanes := w32 p.params 0
      chkWait := u.brdg.chkWait |||
        (if same then w32 p.params 0 ^^^ u.brdg.chkLanes else w32 p.params 0 ||| u.brdg.chkLanes) } } [] := by
  simp only [checkDacBody, checked_cons, checked_nil, decide_eq_true_eq, List.all_eq_true, Bool.and_eq_true,
    Bool.or_eq_true, Bool.not_eq_true', bne_iff_ne, beq_iff_eq, ne_eq, ← imp_iff_not_or, and_assoc]

/-- TRIM_APPLY loads the record's trims or the neutral ones, and answers whether the record is good (R279). -/
theorem trimApplyBody_eq : trimApplyBody p u =
    if ¬(p.params.length = 4) then failCmd u 0x11 else
    if ¬(u8 p.params 0 ≤ 1 ∧ zeros p.params 1 3 = true) then failCmd u 0x13 else
    okCmd (loadBridgeTrims (u8 p.params 0 == 1) u) (le 4 (if u.nvm.trimBad then 0 else 1)
      ++ le 4 (loadBridgeTrims (u8 p.params 0 == 1) u).brdg.trimCheck.toNat) := by
  have hgood : b1 (!u.nvm.trimBad) = if u.nvm.trimBad then 0 else 1 := by cases u.nvm.trimBad <;> rfl
  simp only [trimApplyBody, checked_cons, checked_nil, decide_eq_true_eq, Bool.and_eq_true, hgood]

/-- TRIM_READ returns bytes of the factory record (R277). -/
theorem trimReadBody_eq : trimReadBody p u =
    if ¬(p.params.length = 4) then failCmd u 0x11 else
    if ¬(u16 p.params 0 + u16 p.params 2 ≤ 4096) then failCmd u 0x13 else
    okCmd u (((trimRecord u).drop (u16 p.params 0)).take (u16 p.params 2)) := by
  simp only [trimReadBody, checked_cons, checked_nil, decide_eq_true_eq]

end

/-! ### LANE_REINSTATE -/

/-- A settling change marks lanes of CONV and writes nothing else. -/
theorem settleLanes_eq (l : List Nat) (s : State) : settleLanes l s = { s with conv := (settleLanes l s).conv } := by
  induction l generalizing s with
  | nil => rfl
  | cons n l ih =>
    rw [show settleLanes (n :: l) s = settleLanes l (settleLane n s) from rfl, ih]
    rfl

/-- Operations that each write the fault logic only do so one after another. -/
theorem foldl_flt_eq {α : Type} {f : State → α → State} (hf : ∀ t a, f t a = { t with flt := (f t a).flt })
    (l : List α) (s : State) : l.foldl f s = { s with flt := (l.foldl f s).flt } := by
  induction l generalizing s with
  | nil => rfl
  | cons a l ih => rw [List.foldl_cons, ih, hf]

/-- A mask names no place exactly where it is zero. -/
theorem maskBits_isEmpty {n : Nat} (x : BitVec n) : (maskBits n x.toNat).isEmpty = true ↔ x = 0 := by
  rw [List.isEmpty_iff, maskBits, List.filter_eq_nil_iff]
  constructor
  · intro h
    refine BitVec.eq_of_getLsbD_eq (fun i hi => ?_)
    have hclear : x.getLsbD i = false := Bool.eq_false_iff.mpr (h i (List.mem_range.mpr hi))
    exact hclear.trans BitVec.getLsbD_zero.symm
  · rintro rfl
    simp

section

variable (p : Packet) (u : State)

/-- The groups snuffed or about to be. -/
def groupsOut : BitVec 8 := u.snuff.groups ||| u.snuffDue.groups

/-- The lanes that LANE_REINSTATE returns: those it names that are snuffed or about to be (R437). -/
def lanesBack : BitVec 32 := w32 p.params 0 &&& (u.snuff.lanes ||| u.snuffDue.lanes)

/-- The groups that LANE_REINSTATE returns. -/
def groupsBack : BitVec 8 := BitVec.ofNat 8 (u8 p.params 4) &&& groupsOut u

/-- What LANE_REINSTATE answers: which lanes and groups came back. -/
def backData : List Byte := le 4 (lanesBack p u).toNat ++ le 1 (groupsBack p u).toNat ++ [0, 0, 0]

/-- LANE_REINSTATE names no lane of a snuffed group without its group. -/
abbrev ReinstateOk : Prop :=
  zeros p.params 5 3 = true ∧ ∀ n ∈ maskBits 32 (u32 p.params 0), (groupsOut u).getLsbD (n / 4) = true →
    (w32 (p.params.drop 4) 0).getLsbD (n / 4) = true

end

section

variable (p : Packet) (lm : BitVec 32) (gm : BitVec 8) (s : State)

/-- Lanes and groups taken off a set of snuffed items. -/
def offList (x : SnuffSet) : SnuffSet := { x with lanes := x.lanes &&& ~~~lm, groups := x.groups &&& ~~~gm }

/-- Lanes and groups off both lists, with their windows as at reset and their trips cleared; the switches of a group
that converts stay held open to its next boundary (R437). -/
def backInService : State :=
  { s with
    snuff := offList lm gm s.snuff, snuffDue := offList lm gm s.snuffDue, snuffWrite := true
    brdg := { s.brdg with
      lanes := (maskBits 32 lm.toNat).foldl (fun v n => vmodN v n (fun _ => ({} : WinSt))) s.brdg.lanes
      groups := (maskBits 8 gm.toNat).foldl (fun v g => vmodN v g (fun _ => ({} : WinSt))) s.brdg.groups
      overcurrent := s.brdg.overcurrent &&& ~~~gm
      held := s.brdg.held |||
        BitVec.ofNat 8 (sumNat (((maskBits 8 gm.toNat).filter (groupOn s)).map (fun g => 2 ^ g))) } }

/-- The faults of lanes and groups cleared (R437). -/
def itemsCleared : State :=
  (maskBits 8 gm.toNat).foldl (fun t g => clearItem 5 (32 + g) t)
    ((maskBits 32 lm.toNat).foldl (fun t n => clearItem 6 n (clearItem 5 n t)) s)

theorem itemsCleared_eq : itemsCleared lm gm s = { s with flt := (itemsCleared lm gm s).flt } := by
  unfold itemsCleared
  rw [foldl_flt_eq (fun _ _ => rfl) (maskBits 8 gm.toNat), foldl_flt_eq (fun _ _ => rfl) (maskBits 32 lm.toNat)]

/-- The state after lanes and groups come back, before the return is journaled. -/
def settledBack : State :=
  excFix (settleLanes (maskBits 32 lm.toNat ++ (maskBits 8 gm.toNat).flatMap groupLanes)
    (itemsCleared lm gm (backInService lm gm s)))

/-- The state after the return of lanes and groups. -/
def reinstated : State :=
  let t := settledBack lm gm s
  journalRaise (BitVec.ofNat 8 (roleOf t p.origin).toNat) 0x44 0 0x06 ([5] ++ le 4 lm.toNat ++ le 1 gm.toNat) t

/-- What a return of lanes and groups writes beside the lists and the group switches: faults, settling, the journal. -/
theorem reinstated_eq : reinstated p lm gm s =
    { backInService lm gm s with
      flt := (reinstated p lm gm s).flt, conv := (reinstated p lm gm s).conv, sec := (reinstated p lm gm s).sec
      brdg := { (backInService lm gm s).brdg with excOn := (reinstated p lm gm s).brdg.excOn } } := by
  unfold reinstated settledBack
  rw [settleLanes_eq, itemsCleared_eq]
  rfl

end

section

variable {p : Packet} {u : State}

/-- LANE_REINSTATE is its checks and the return of what it names; naming no snuffed item it changes nothing (R437). -/
theorem laneReinstateBody_eq (p : Packet) (u : State) : laneReinstateBody p u =
    if ¬(p.params.length = 8) then failCmd u 0x11 else
    if ¬ReinstateOk p u then failCmd u 0x13 else
    okCmd (if lanesBack p u = 0 ∧ groupsBack p u = 0 then u else reinstated p (lanesBack p u) (groupsBack p u) u)
      (backData p u) := by
  have hnone : ((maskBits 32 (lanesBack p u).toNat).isEmpty && (maskBits 8 (groupsBack p u).toNat).isEmpty) = true
      ↔ lanesBack p u = 0 ∧ groupsBack p u = 0 := by
    rw [Bool.and_eq_true, maskBits_isEmpty, maskBits_isEmpty]
  have hchecks : (zeros p.params 5 3 && (maskBits 32 (u32 p.params 0)).all
        (fun n => !(groupsOut u).getLsbD (n / 4) || (w32 (p.params.drop 4) 0).getLsbD (n / 4))) = true
      ↔ ReinstateOk p u := by
    simp only [Bool.and_eq_true, List.all_eq_true, Bool.or_eq_true, Bool.not_eq_true', ReinstateOk,
      ← Bool.not_eq_true, ← imp_iff_not_or]
  unfold laneReinstateBody
  rw [checked_cons, checked_cons_cons, checked_cons, checked_nil, apply_ite (okCmd · (backData p u))]
  exact ite_congr (by simp only [decide_eq_true_eq]) (fun _ => rfl) (fun _ =>
    if_congr (not_congr hchecks) rfl (if_congr hnone rfl rfl))

theorem laneReinstateBody_badLength (h : p.params.length ≠ 8) : laneReinstateBody p u = failCmd u 0x11 := by
  rw [laneReinstateBody_eq, if_pos h]

theorem laneReinstateBody_refused (h : p.params.length = 8) (hok : ¬ReinstateOk p u) :
    laneReinstateBody p u = failCmd u 0x13 := by
  rw [laneReinstateBody_eq, if_neg (not_not.mpr h), if_pos hok]

theorem laneReinstateBody_returns (h : p.params.length = 8) (hok : ReinstateOk p u) : laneReinstateBody p u =
    okCmd (if lanesBack p u = 0 ∧ groupsBack p u = 0 then u else reinstated p (lanesBack p u) (groupsBack p u) u)
      (backData p u) := by
  rw [laneReinstateBody_eq, if_neg (not_not.mpr h), if_neg (not_not.mpr hok)]

end

/-- What LANE_REINSTATE leaves: both lists without the lanes `lm` and the groups `gm`, their groups' trips cleared where
anything came back, and the rest of the named parts as it was. -/
def LanesReturned (lm : BitVec 32) (gm : BitVec 8) (u t : State) : Prop :=
  (lm = 0 → gm = 0 → t = u) ∧ t.snuff.lanes = u.snuff.lanes &&& ~~~lm ∧ t.snuff.groups = u.snuff.groups &&& ~~~gm
  ∧ t.snuffDue.lanes = u.snuffDue.lanes &&& ~~~lm ∧ t.snuffDue.groups = u.snuffDue.groups &&& ~~~gm
  ∧ t.brdg.overcurrent = (if lm = 0 ∧ gm = 0 then u.brdg.overcurrent else u.brdg.overcurrent &&& ~~~gm)
  ∧ t.snuff.lines = u.snuff.lines ∧ t.shadow = u.shadow ∧ t.active = u.active ∧ t.gram = u.gram ∧ t.res = u.res
  ∧ t.hif = u.hif ∧ t.link = u.link ∧ t.time = u.time ∧ t.nvm = u.nvm

theorem lanesReturned_none (u : State) : LanesReturned 0 0 u u := by
  have hkept {n : Nat} (x : BitVec n) : x = x &&& ~~~0#n := by simp
  exact ⟨fun _ _ => rfl, hkept _, hkept _, hkept _, hkept _, rfl, rfl, rfl, rfl, rfl, rfl, rfl, rfl, rfl, rfl⟩

theorem lanesReturned_reinstated (p : Packet) {lm : BitVec 32} {gm : BitVec 8} (h : ¬(lm = 0 ∧ gm = 0)) (u : State) :
    LanesReturned lm gm u (reinstated p lm gm u) := by
  rw [LanesReturned, if_neg h, reinstated_eq]
  exact ⟨fun hl hg => absurd ⟨hl, hg⟩ h, rfl, rfl, rfl, rfl, rfl, rfl, rfl, rfl, rfl, rfl, rfl, rfl, rfl, rfl⟩

theorem lanesReturned_of_back (p : Packet) (lm : BitVec 32) (gm : BitVec 8) (u : State) :
    LanesReturned lm gm u (if lm = 0 ∧ gm = 0 then u else reinstated p lm gm u) := by
  split
  · next h =>
    obtain ⟨rfl, rfl⟩ := h
    exact lanesReturned_none u
  · next h => exact lanesReturned_reinstated p h u

end Sys2Proof.Machine
end

section

open Sys2Proof Sys2Proof.Machine

/-- Settles O32: each of the seven bridge commands answers as its body's checks and work say, and LANE_REINSTATE takes
what it returns off both lists. -/
theorem bridgeCommands : Obligations.BridgeCommands := by
  intro p s b u q
  refine ⟨fun h => exec_concludes (exec_bridgeConfig p s) h (bridgeConfigBody_eq p u),
    fun h => exec_concludes (exec_exciteSet p s) h (exciteSetBody_eq p u),
    fun h => exec_concludes (exec_cmwinSet p s) h (cmwinSetBody_eq p u),
    fun h => exec_concludes (exec_checkDac p s) h (checkDacBody_eq p u),
    fun h => exec_concludes (exec_trimApply p s) h (trimApplyBody_eq p u),
    fun h => exec_concludes (exec_trimRead p s) h (trimReadBody_eq p u),
    fun h hlen => exec_concludes (exec_laneReinstate p s) h (laneReinstateBody_badLength hlen),
    fun h hlen hok => exec_concludes (exec_laneReinstate p s) h (laneReinstateBody_refused hlen hok),
    fun h hlen hok => ⟨_, exec_concludes (exec_laneReinstate p s) h (laneReinstateBody_returns hlen hok),
      lanesReturned_of_back p (lanesBack p u) (groupsBack p u) u⟩⟩

end

section
/-! Common-mode windows, lead faults and the group switches, operation by operation (sections 8.3 to 8.6). -/
namespace Sys2Proof.Machine

open Sys2Proof

/-! ### Elements of changed vectors -/

section

variable {α : Type} {n : Nat} (v : Vector α n)

theorem getElem_vmod (i k : Fin n) (f : α → α) : (vmod v i f)[k] = if i = k then f v[k] else v[k] := by
  rw [vmod, Fin.getElem_fin, Vector.getElem_set]
  by_cases h : i = k
  · subst h
    rw [if_pos rfl, if_pos rfl]
  · rw [if_neg (fun e => h (Fin.ext e)), if_neg h, Fin.getElem_fin]

theorem getElem_vmodN (i : Nat) (k : Fin n) (f : α → α) : (vmodN v i f)[k] = if i = k.val then f v[k] else v[k] := by
  unfold vmodN
  split
  · next h => rw [getElem_vmod, if_congr Fin.ext_iff rfl rfl]
  · next h =>
    have hne : i ≠ k.val := fun e => h (e.trans_lt k.isLt)
    rw [if_neg hne]

/-- Elements changed one after another, each place once. -/
theorem getElem_foldl_vmodN (f : Nat → α → α) {l : List Nat} (hl : l.Nodup) (k : Fin n) :
    (l.foldl (fun v i => vmodN v i (f i)) v)[k] = if k.val ∈ l then f k.val v[k] else v[k] := by
  induction l generalizing v with
  | nil => rfl
  | cons i l ih =>
    obtain ⟨hi, hl⟩ := List.nodup_cons.mp hl
    rw [List.foldl_cons, ih _ hl, getElem_vmodN]
    by_cases h : i = k.val
    · subst h
      rw [if_neg hi, if_pos rfl, if_pos List.mem_cons_self]
    · have hrest : k.val ∈ i :: l ↔ k.val ∈ l := List.mem_cons.trans (or_iff_right (Ne.symm h))
      rw [if_neg h, if_congr hrest rfl rfl]

end

/-! ### The state of one window -/

/-- The lanes whose samples a window marks: its own, or all of its group (R270). -/
def windowLanes : WinItem → List Nat
  | .lane n => [n.val]
  | .group g => groupLanes g.val

theorem mem_groupLanes {n g : Nat} : n ∈ groupLanes g ↔ n / 4 = g := by
  simp only [groupLanes, List.mem_cons, List.not_mem_nil, or_false]
  omega

theorem nodup_groupLanes (g : Nat) : (groupLanes g).Nodup := by
  simp [groupLanes]

theorem nodup_windowLanes (w : WinItem) : (windowLanes w).Nodup := by
  cases w with
  | lane n => exact List.nodup_singleton n.val
  | group g => exact nodup_groupLanes g.val

theorem mem_windowLanes {w : WinItem} {n : Fin 32} :
    n.val ∈ windowLanes w ↔ w = .lane n ∨ ∃ g : Fin 8, w = .group g ∧ n.val / 4 = g.val := by
  cases w with
  | lane m => simp [windowLanes, Fin.ext_iff, eq_comm]
  | group g => simp [windowLanes, mem_groupLanes]

section

variable (w : WinItem) (f : WinSt → WinSt) (s : State)

theorem winOf_modWin : winOf (modWin w f s) w = f (winOf s w) := by
  cases w with
  | lane n => exact (getElem_vmod ..).trans (if_pos rfl)
  | group g => exact (getElem_vmod ..).trans (if_pos rfl)

theorem modWin_eq : modWin w f s = { s with brdg := { s.brdg with
    lanes := (modWin w f s).brdg.lanes, groups := (modWin w f s).brdg.groups } } := by
  cases w <;> rfl

/-- A change that leaves the INVALID marking alone leaves that of every lane alone. -/
theorem modWin_invalidLeft (hf : ∀ x, (f x).invalidLeft = x.invalidLeft) (k : Fin 32) :
    (modWin w f s).brdg.lanes[k].invalidLeft = s.brdg.lanes[k].invalidLeft := by
  cases w with
  | lane n =>
    change (vmod s.brdg.lanes n f)[k].invalidLeft = _
    rw [getElem_vmod, apply_ite WinSt.invalidLeft, hf, ite_self]
  | group g => rfl

end

/-! ### What a bridge fault leaves alone -/

/-- The windows of the lanes and of the sense pairs. -/
def windowsView (s : State) := (s.brdg.lanes, s.brdg.groups)

section

variable (s : State)

theorem snuffItem_windows (item : Nat) : Keeps windowsView s (snuffItem 5 item s) :=
  keeps_ite (.refl s) (keeps_ite ⟨rfl, id⟩ (keeps_ite ⟨rfl, id⟩ ⟨rfl, id⟩))

theorem safeBegin_windows : Keeps windowsView s (safeBegin s) :=
  keeps_ite (.refl s) (((onlyRes_markDark ..).keeps (fun _ => rfl)).after rfl (fun _ => rfl))

/-- A reset of BRDG opens the switches and turns the check DAC off; the windows stand (R282). -/
theorem blockReset_windows (src : Nat) : Keeps windowsView s (blockReset 5 src s) := keeps_ite (.refl s) ⟨rfl, id⟩

theorem react_windows (src item sev : Nat) : Keeps windowsView s (react 5 src item sev s) := by
  unfold react
  extract_lets _ noted snuffed
  have hnoted : Keeps windowsView s noted := keeps_ite ⟨rfl, id⟩ (.refl s)
  have hsnuffed : Keeps windowsView s snuffed := hnoted.trans (keeps_ite (snuffItem_windows ..) (.refl noted))
  exact hsnuffed.trans (keeps_ite (blockReset_windows ..) (keeps_ite (safeBegin_windows _) (.refl _)))

theorem raise_windows (src item : Nat) : Keeps windowsView s (raise 5 src item s) := by
  unfold raise raiseIn
  refine keeps_ite (.refl s) ?_
  extract_lets
  split
  extract_lets recorded journaled
  have hrecorded : Keeps windowsView s recorded := ⟨rfl, id⟩
  have hjournaled : Keeps windowsView s journaled := hrecorded.trans (keeps_ite ⟨rfl, id⟩ (.refl _))
  exact hjournaled.trans (keeps_ite (.refl _) (keeps_ite ⟨rfl, id⟩ (react_windows ..)))

theorem winOf_raise (src item : Nat) (w : WinItem) : winOf (raise 5 src item s) w = winOf s w := by
  obtain ⟨hlanes, hgroups⟩ := Prod.mk.inj (raise_windows s src item).1
  cases w with
  | lane n => exact congrArg (·[n]) hlanes
  | group g => exact congrArg (·[g]) hgroups

end

/-! ### Events of a window -/

section

variable (w : WinItem) (s : State)

/-- An event of a window begun at `t`, in its history and raised (R269, R271). -/
def eventRaised (t : Nat) : State :=
  raise 5 (winSrc w).1 (winItemNo w) (modWin w (fun x => { x with
    events := (t :: x.events).take 8, openEv := x.openEv + 1, classed := .event }) s)

/-- The eighth newest event after one at `t` is the one that was seventh before it. -/
theorem eventRaised_eighth (t : Nat) :
    (winOf (eventRaised w s t) w).events[7]? = (t :: (winOf s w).events)[7]? := by
  rw [eventRaised, winOf_raise, winOf_modWin]
  exact List.getElem?_take_of_lt (by decide)

variable {w s} {t : Nat}

theorem winEvent_eq : winEvent w t s = match (t :: (winOf s w).events)[7]? with
    | some e => if t ≤ e + 10000000000 then winPermanent w (eventRaised w s t) else eventRaised w s t
    | none => eventRaised w s t := by
  rw [← eventRaised_eighth]
  rfl

/-- Fewer than eight events within 10 s: the event is raised alone. -/
theorem winEvent_few (h : ∀ e, (t :: (winOf s w).events)[7]? = some e → e + 10000000000 < t) :
    winEvent w t s = eventRaised w s t := by
  rw [winEvent_eq]
  split
  · next e he => exact if_neg (Nat.not_le.mpr (h e he))
  · rfl

/-- The eighth event within 10 s is permanent (R271). -/
theorem winEvent_eighth {e : Nat} (he : (t :: (winOf s w).events)[7]? = some e) (h : t ≤ e + 10000000000) :
    winEvent w t s = winPermanent w (eventRaised w s t) := by
  rw [winEvent_eq, he]
  exact if_pos h

end

/-! ### A violation begins and is classed -/

section

variable {w : WinItem} {s : State}

/-- A violation begun at t_out, not classed yet (R268). -/
def violated (w : WinItem) (a : Nat) (s : State) : State :=
  modWin w (fun x => { x with viol := some a, lastViol := some (a, none), classed := .none, clear := none }) s

theorem execWindowViolationBegin_idle (t : Long) (h : winOn s w = false ∨ (winOf s w).viol.isSome) :
    execWindowViolationBegin w t s = .next s := by
  have hidle : (!winOn s w || (winOf s w).viol.isSome) = true := by simpa using h
  exact if_pos hidle

theorem execWindowViolationBegin_begins (t : Long) (hon : winOn s w = true) (hv : (winOf s w).viol = none) :
    execWindowViolationBegin w t s = .next (match w with
      | .lane _ => violated w t.toNat s
      | .group _ => winEvent w t.toNat (violated w t.toNat s)) := by
  have hwatched : ¬((!winOn s w || (winOf s w).viol.isSome) = true) := by simp [hon, hv]
  refine (if_neg hwatched).trans ?_
  cases w <;> rfl

theorem execLeadEventClassify_idle {n : Fin 32} (h : s.brdg.lanes[n].lastViol = none ∨ s.brdg.lanes[n].classed ≠ .none
    ∨ laneSnuffed s n.val = true) : execLeadEventClassify n s = .next s := by
  unfold execLeadEventClassify
  dsimp only
  split
  · rfl
  · next a c hviol =>
    refine if_pos ?_
    simp only [Bool.or_eq_true, bne_iff_ne]
    rcases h with h | h | h
    · rw [h] at hviol
      cases hviol
    · exact .inl (.inl h)
    · exact .inl (.inr h)

/-- A lane's violation that is not classed is a lead event, unless one of its sense pair covers it (R269, R272). -/
theorem execLeadEventClassify_eq {n : Fin 32} {a : Nat} {c : Option Nat}
    (hviol : s.brdg.lanes[n].lastViol = some (a, c)) (hclass : s.brdg.lanes[n].classed = .none)
    (hsnuff : laneSnuffed s n.val = false) : execLeadEventClassify n s =
    .next (if pairCovers (groupWin s (n.val / 4)) a then s else winEvent (.lane n) a s) := by
  unfold execLeadEventClassify
  simp only [hviol, hclass, hsnuff, bne_self_eq_false, Bool.false_or]
  exact (apply_ite Host.Outcome.next ..).symm

theorem pairCovers_none {p : WinSt} (a : Nat) (h : p.lastViol = none) : pairCovers p a = false := by
  rw [pairCovers, h]

theorem pairCovers_some {p : WinSt} {a t : Nat} {d : Option Nat} (h : p.lastViol = some (t, d)) : pairCovers p a =
    if t ≤ a then d.all (fun z => decide (a < z)) else decide ((t - a) * 6144 ≤ 32000000) := by
  rw [pairCovers, h]
  cases d <;> rfl

end

/-! ### A violation ends -/

section

variable (w : WinItem) (s : State)

/-- A violation that began at `a` has ended at t_clear (R268). -/
def violationEnded (a t : Nat) : State :=
  modWin w (fun x => { x with viol := none, lastViol := some (a, some t), clear := some t }) s

/-- The next L samples of some lanes are to be marked INVALID (R270). -/
def invalidNext (l : List Nat) (s : State) : State :=
  l.foldl (fun (u : State) n =>
    let k := laneL u n
    { u with brdg := { u.brdg with
      lanes := vmodN u.brdg.lanes n (fun x => { x with invalidLeft := max x.invalidLeft k }) } }) s

theorem invalidNext_eq (l : List Nat) : invalidNext l s = { s with brdg := { s.brdg with
    lanes := l.foldl (fun v n => vmodN v n (fun x => { x with invalidLeft := max x.invalidLeft (laneL s n) }))
      s.brdg.lanes } } := by
  induction l generalizing s with
  | nil => rfl
  | cons n l ih => exact ih _

theorem invalidNext_lane {l : List Nat} (hl : l.Nodup) (k : Fin 32) : (invalidNext l s).brdg.lanes[k] =
    if k.val ∈ l then { s.brdg.lanes[k] with invalidLeft := max s.brdg.lanes[k].invalidLeft (laneL s k.val) }
    else s.brdg.lanes[k] := by
  rw [invalidNext_eq]
  exact getElem_foldl_vmodN s.brdg.lanes (fun n x => { x with invalidLeft := max x.invalidLeft (laneL s n) }) hl k

/-- The marking leaves what a window says of its violations. -/
theorem winOf_invalidNext {l : List Nat} (hl : l.Nodup) : (winOf (invalidNext l s) w).viol = (winOf s w).viol
    ∧ (winOf (invalidNext l s) w).lastViol = (winOf s w).lastViol
    ∧ (winOf (invalidNext l s) w).clear = (winOf s w).clear := by
  cases w with
  | lane n =>
    simp only [winOf]
    rw [invalidNext_lane s hl n]
    split <;> exact ⟨rfl, rfl, rfl⟩
  | group g =>
    rw [invalidNext_eq]
    exact ⟨rfl, rfl, rfl⟩

variable {w s}

theorem execWindowViolationEnd_idle (t : Long) (h : (winOf s w).viol = none) :
    execWindowViolationEnd w t s = .next s := by
  unfold execWindowViolationEnd
  rw [h]

theorem execWindowViolationEnd_ends (t : Long) {a : Nat} (h : (winOf s w).viol = some a) :
    execWindowViolationEnd w t s = .next (invalidNext (windowLanes w) (violationEnded w s a t.toNat)) := by
  unfold execWindowViolationEnd
  rw [h]
  cases w <;> rfl

theorem violationEnded_invalidLeft (a t : Nat) (k : Fin 32) :
    (violationEnded w s a t).brdg.lanes[k].invalidLeft = s.brdg.lanes[k].invalidLeft := by
  refine modWin_invalidLeft w _ s ?_ k
  exact fun _ => rfl

theorem violationEnded_laneL (a t n : Nat) : laneL (violationEnded w s a t) n = laneL s n := by
  rw [laneL, violationEnded, modWin_active, laneL]

/-- The end of a violation marks the next L samples of the window's lanes, and no others (R270). -/
theorem ended_invalidLeft (a t : Nat) (n : Fin 32) :
    (invalidNext (windowLanes w) (violationEnded w s a t)).brdg.lanes[n].invalidLeft =
      if (w = .lane n ∨ ∃ g : Fin 8, w = .group g ∧ n.val / 4 = g.val) then
        max s.brdg.lanes[n].invalidLeft (laneL s n.val)
      else s.brdg.lanes[n].invalidLeft := by
  rw [invalidNext_lane _ (nodup_windowLanes w), apply_ite WinSt.invalidLeft, violationEnded_laneL,
    violationEnded_invalidLeft]
  exact if_congr mem_windowLanes rfl rfl

theorem ended_eq (a t : Nat) : invalidNext (windowLanes w) (violationEnded w s a t) =
    { s with brdg := { s.brdg with
      lanes := (invalidNext (windowLanes w) (violationEnded w s a t)).brdg.lanes
      groups := (invalidNext (windowLanes w) (violationEnded w s a t)).brdg.groups } } := by
  rw [invalidNext_eq, violationEnded, modWin_eq]

/-- A window after the end of its violation. -/
theorem ended_window (a t : Nat) : let u := invalidNext (windowLanes w) (violationEnded w s a t)
    (winOf u w).viol = none ∧ (winOf u w).lastViol = some (a, some t) ∧ (winOf u w).clear = some t := by
  have hended : winOf (violationEnded w s a t) w = { winOf s w with
      viol := none, lastViol := some (a, some t), clear := some t } := winOf_modWin ..
  obtain ⟨hviol, hlast, hclear⟩ := winOf_invalidNext w (violationEnded w s a t) (nodup_windowLanes w)
  rw [hended] at hviol hlast hclear
  exact ⟨hviol, hlast, hclear⟩

/-! ### Events close -/

theorem execTransientClose_idle (h : (winOf s w).viol.isSome ∨ (winOf s w).clear = none) :
    execTransientClose w s = .next s := by
  unfold execTransientClose
  dsimp only
  split
  · next c hv hc => simp [hv, hc] at h
  · rfl

/-- 100 ms free of violation close a window's open events as transient (R271). -/
theorem execTransientClose_closes {c : Nat} (hv : (winOf s w).viol = none) (hc : (winOf s w).clear = some c) :
    execTransientClose w s = .next (modWin w (fun x => { x with
      clear := none, openEv := 0, transients := sat16 x.transients x.openEv }) (advanceTo (c + 100000000) s)) := by
  simp only [execTransientClose, hv, hc]

theorem execPermanentDecision_idle (h : (winOf s w).viol = none ∨ (winOf s w).classed ≠ .event) :
    execPermanentDecision w s = .next s := by
  unfold execPermanentDecision
  dsimp only
  split
  · next a hv => exact if_neg (h.resolve_left (by simp [hv]))
  · rfl

/-- An event that has lasted 1 s is permanent (R271). -/
theorem execPermanentDecision_decides {a : Nat} (hv : (winOf s w).viol = some a) (hc : (winOf s w).classed = .event) :
    execPermanentDecision w s = .next (winPermanent w (advanceTo (a + 1000000000) s)) := by
  simp only [execPermanentDecision, hv]
  exact if_pos hc

end

/-! ### The group switches -/

/-- Every group's switches stand as they are to be (R120). -/
def SwitchesFixed (s : State) : Prop := ∀ k : Fin 8, s.brdg.excOn.getLsbD k.val = excWanted s k.val

theorem switchesFixed_excFix (s : State) : SwitchesFixed (excFix s) := by
  intro k
  have hbits : (excFix s).brdg.excOn = BitVec.ofNat 8 (bitSum (excWanted s) 8) := rfl
  rw [hbits, BitVec.getLsbD_ofNat, testBit_bitSum]
  simp only [k.isLt, decide_true, Bool.true_and]
  rfl

section

variable {s : State} {g : Nat}

theorem excWanted_tripped (h : s.brdg.overcurrent.getLsbD g = true) : excWanted s g = false := by
  simp [excWanted, h]

theorem excWanted_snuffed (h : s.snuff.groups.getLsbD g = true) : excWanted s g = false := by
  simp [excWanted, h]

end

section

variable (g : Fin 8) (s : State)

/-- A group tripped by an overcurrent, with the switches as they are to be (R258). -/
def tripped : State :=
  excFix { s with brdg := { s.brdg with overcurrent := s.brdg.overcurrent ||| (1#8 <<< g.val) } }

theorem tripped_open : (tripped g s).brdg.excOn.getLsbD g.val = false :=
  (switchesFixed_excFix _ g).trans (excWanted_tripped (getLsbD_bitAdd _ g.isLt))

variable {g s}

theorem execExcOvercurrent_idle (h : s.brdg.excOn.getLsbD g.val = false) : execExcOvercurrent g s = .next s := by
  simp only [execExcOvercurrent, h, Bool.not_false, if_true]

theorem execExcOvercurrent_trips (h : s.brdg.excOn.getLsbD g.val = true) :
    execExcOvercurrent g s = .next (raise 5 Src.brdgExcOvercurrent (32 + g.val) (tripped g s)) := by
  simp only [execExcOvercurrent, h, Bool.not_true, Bool.false_eq_true, if_false, tripped]

/-- The beginning of a low excitation voltage is raised in ACTIVE (Table 8-1). -/
theorem execVexLow_eq (p : Bool) : let m : BitVec 8 := 1#8 <<< g.val
    let u : State := { s with brdg := { s.brdg with
      vexLow := if p then s.brdg.vexLow ||| m else s.brdg.vexLow &&& ~~~m } }
    execVexLow g p s = .next (if s.sys.power ≠ .active then s else
      if p = true ∧ s.brdg.vexLow.getLsbD g.val = false then raise 5 Src.brdgVexLow (32 + g.val) u else u) := by
  intro m u
  have hnew : (p && !s.brdg.vexLow.getLsbD g.val) = true ↔ p = true ∧ s.brdg.vexLow.getLsbD g.val = false := by
    rw [Bool.and_eq_true, Bool.not_eq_true']
  rw [apply_ite Host.Outcome.next]
  exact ite_congr rfl (fun _ => rfl) (fun _ => congrArg Host.Outcome.next (if_congr hnew rfl rfl))

end

/-! ### Changes at an output-sample boundary -/

section

variable (g : Nat) (gs : List Nat) (s : State)

/-- A group's words put in force: the active file, the lanes' settling and the switches change (R264, R265). -/
theorem applyGroup_eq : applyGroup g s = { s with
    active := (applyRange (Reg.brdgLaneCfg (4 * g)) (Reg.brdgLaneCfg (4 * g) + 32)
      (applyRange (Reg.brdgEgCfg g) (Reg.brdgEgCfg g + 8) s)).active
    conv := (applyGroup g s).conv, brdg := { s.brdg with excOn := (applyGroup g s).brdg.excOn } } := by
  unfold applyGroup
  dsimp only
  rw [settleLanes_eq]
  rfl

theorem switchesFixed_applyGroup : SwitchesFixed (applyGroup g s) := switchesFixed_excFix _

/-- Held groups that close change the lanes' settling and the switches (R282). -/
theorem closeHeld_eq : closeHeld gs s = { s with
    conv := (closeHeld gs s).conv
    brdg := { s.brdg with held := (closeHeld gs s).brdg.held, excOn := (closeHeld gs s).brdg.excOn } } := by
  unfold closeHeld
  split
  · rfl
  · dsimp only
    rw [settleLanes_eq]
    rfl

theorem switchesFixed_closeHeld (h : SwitchesFixed s) : SwitchesFixed (closeHeld gs s) := by
  unfold closeHeld
  split
  · exact h
  · exact switchesFixed_excFix _

variable {s}

/-- Once the reset is over, a group held open is held no more (R282). -/
theorem closeHeld_released (g : Fin 8) (h : s.brdg.restart = false) :
    (closeHeld [g.val] s).brdg.held.getLsbD g.val = false := by
  have hbit : ∀ g : Fin 8, BitVec.ofNat 8 (sumNat [2 ^ g.val]) = 1#8 <<< g.val := by decide
  have hheld : (closeHeld [g.val] s).brdg.held = s.brdg.held &&& ~~~(BitVec.ofNat 8
      (sumNat (([g.val].filter (fun g => s.brdg.held.getLsbD g)).map (fun g => 2 ^ g)))) := by
    unfold closeHeld
    rw [if_neg (by simp [h])]
    dsimp only
    rw [settleLanes_eq]
    rfl
  rw [hheld]
  cases hon : s.brdg.held.getLsbD g.val with
  | false => rw [BitVec.getLsbD_and, hon, Bool.false_and]
  | true =>
    rw [List.filter_cons_of_pos hon]
    exact (congrArg (fun m => (s.brdg.held &&& ~~~m).getLsbD g.val) (hbit g)).trans (getLsbD_bitDel _ g.isLt)

end

/-- What a boundary of a group's samples leaves of a change that waits (R264, R282). -/
theorem brdgChange_applied (g : Fin 8) (s : State) : let t := closeHeld [g.val] (applyGroup g.val s)
    t.active = (applyRange (Reg.brdgLaneCfg (4 * g.val)) (Reg.brdgLaneCfg (4 * g.val) + 32)
        (applyRange (Reg.brdgEgCfg g.val) (Reg.brdgEgCfg g.val + 8) s)).active
    ∧ (s.brdg.restart = false → t.brdg.held.getLsbD g.val = false) ∧ SwitchesFixed t
    ∧ t.shadow = s.shadow ∧ t.nvm = s.nvm ∧ t.time = s.time ∧ t.snuff = s.snuff := by
  have hreleased : s.brdg.restart = false → (closeHeld [g.val] (applyGroup g.val s)).brdg.held.getLsbD g.val = false :=
    fun h => closeHeld_released g (by rw [applyGroup_eq]; exact h)
  refine ⟨?_, hreleased, switchesFixed_closeHeld _ _ (switchesFixed_applyGroup g.val s), ?_⟩
  all_goals rw [closeHeld_eq, applyGroup_eq]
  exact ⟨rfl, rfl, rfl, rfl⟩

/-! ### Snuffs at an output-sample boundary -/

section

variable {s : State}

theorem getLsbD_bitAdd_ne {n : Nat} (x : BitVec n) {i k : Nat} (h : k ≠ i) :
    (x ||| 1#n <<< i).getLsbD k = x.getLsbD k := by
  rcases Nat.lt_or_ge k i with hlt | hge
  · simp [hlt]
  · have hsub : k - i ≠ 0 := by omega
    simp [BitVec.getLsbD_one, hsub]

/-- A lane's snuff takes effect, with its window no longer watched (R273). -/
theorem applySnuff_lane {n : Fin 32} (h : s.snuffDue.lanes.getLsbD n.val = true) : applySnuff (.lane n) s = { s with
    snuff := { s.snuff with lanes := s.snuff.lanes ||| (1#32 <<< n.val) }
    snuffDue := { s.snuffDue with lanes := s.snuffDue.lanes &&& ~~~(1#32 <<< n.val) }
    brdg := { s.brdg with lanes := vmod s.brdg.lanes n winStop } } := by
  simp only [applySnuff, h, if_true]

theorem applySnuff_lane_idle {n : Fin 32} (h : s.snuffDue.lanes.getLsbD n.val = false) :
    applySnuff (.lane n) s = s := by
  simp only [applySnuff, h, Bool.false_eq_true, if_false]

/-- A group's snuff takes effect: its pair's window and its lanes' are no longer watched, its switches open (R273). -/
def groupSnuffed (g : Fin 8) (s : State) : State :=
  { s with
    snuff := { s.snuff with groups := s.snuff.groups ||| (1#8 <<< g.val) }
    snuffDue := { s.snuffDue with groups := s.snuffDue.groups &&& ~~~(1#8 <<< g.val) }
    brdg := { s.brdg with
      groups := vmod s.brdg.groups g winStop
      lanes := (groupLanes g.val).foldl (fun v n => vmodN v n winStop) s.brdg.lanes } }

theorem applySnuff_group {g : Fin 8} (h : s.snuffDue.groups.getLsbD g.val = true) :
    applySnuff (.group g) s = excFix (groupSnuffed g s) := by
  simp only [applySnuff, h, if_true, groupSnuffed]

theorem applySnuff_group_idle {g : Fin 8} (h : s.snuffDue.groups.getLsbD g.val = false) :
    applySnuff (.group g) s = s := by
  simp only [applySnuff, h, Bool.false_eq_true, if_false]

theorem groupSnuffed_lane (g : Fin 8) (k : Fin 32) : (groupSnuffed g s).brdg.lanes[k] =
    if k.val / 4 = g.val then winStop s.brdg.lanes[k] else s.brdg.lanes[k] :=
  (getElem_foldl_vmodN s.brdg.lanes (fun _ => winStop) (nodup_groupLanes g.val) k).trans
    (if_congr mem_groupLanes rfl rfl)

theorem groupSnuffed_open (g : Fin 8) : (excFix (groupSnuffed g s)).brdg.excOn.getLsbD g.val = false :=
  (switchesFixed_excFix _ g).trans (excWanted_snuffed (getLsbD_bitAdd _ g.isLt))

end

end Sys2Proof.Machine
end

section

open Sys2Proof Sys2Proof.Machine

/-- Settles O55: the window rows date, class, raise and close violations as their conditions say, an overcurrent opens
its group, and shadow words and snuffs that wait take effect at a boundary. -/
theorem windowEvents : Obligations.WindowEvents := by
  unfold Obligations.WindowEvents
  refine ⟨?begin, ?classify, ?event, ?ends, ?close, ?overcurrent, fun g p s => execVexLow_eq p, ?apply, ?lane, ?group⟩
  case begin =>
    intro w t s v
    refine ⟨execWindowViolationBegin_idle t, fun hon hv => ⟨?_, ?_⟩⟩
    · rintro n rfl
      exact execWindowViolationBegin_begins t hon hv
    · rintro g rfl
      exact execWindowViolationBegin_begins t hon hv
  case classify =>
    intro n s x p
    refine ⟨execLeadEventClassify_idle, fun a c hviol hclass hsnuff => ?_⟩
    have hclassed := execLeadEventClassify_eq hviol hclass hsnuff
    refine ⟨fun hp => hclassed.trans ?_, fun t d hp => hclassed.trans ?_⟩
    · rw [pairCovers_none a hp]
      rfl
    · rw [pairCovers_some hp]
  case event =>
    intro w t s u
    exact ⟨winEvent_few, fun e => winEvent_eighth, rfl⟩
  case ends =>
    intro w t s
    refine ⟨execWindowViolationEnd_idle t, fun a hviol => ⟨_, execWindowViolationEnd_ends t hviol, ?_⟩⟩
    obtain ⟨hnone, hlast, hclear⟩ := ended_window (w := w) (s := s) a t.toNat
    exact ⟨hnone, hlast, hclear, ended_invalidLeft a t.toNat, ended_eq a t.toNat⟩
  case close =>
    intro w s x
    exact ⟨execTransientClose_idle, fun c => execTransientClose_closes, execPermanentDecision_idle,
      fun a => execPermanentDecision_decides⟩
  case overcurrent =>
    intro g s
    exact ⟨execExcOvercurrent_idle, fun hon => ⟨tripped g s, execExcOvercurrent_trips hon, rfl, tripped_open g s,
      switchesFixed_excFix _, rfl⟩⟩
  case apply =>
    intro g s
    exact ⟨fun hoff => if_neg (by simp [hoff]), fun hon => ⟨_, if_pos hon, rfl, brdgChange_applied g s⟩⟩
  case lane =>
    intro s n
    refine ⟨fun hoff => congrArg Host.Outcome.next (applySnuff_lane_idle hoff),
      fun hdue => ⟨_, congrArg Host.Outcome.next (applySnuff_lane hdue), getLsbD_bitAdd _ n.isLt,
        getLsbD_bitDel _ n.isLt, ?_, fun k hk => ⟨getLsbD_bitAdd_ne _ (Fin.val_ne_of_ne hk), ?_⟩, rfl⟩⟩
    · exact congrArg WinSt.viol ((getElem_vmod s.brdg.lanes n n winStop).trans (if_pos rfl))
    · exact (getElem_vmod s.brdg.lanes n k winStop).trans (if_neg hk.symm)
  case group =>
    intro s g
    refine ⟨fun hoff => congrArg Host.Outcome.next (applySnuff_group_idle hoff),
      fun hdue => ⟨_, congrArg Host.Outcome.next (applySnuff_group hdue), getLsbD_bitAdd _ g.isLt,
        getLsbD_bitDel _ g.isLt, groupSnuffed_open g, ?_, fun k hk => ?_, fun k hk => ?_, rfl, rfl⟩⟩
    · exact congrArg WinSt.viol ((getElem_vmod s.brdg.groups g g winStop).trans (if_pos rfl))
    · exact congrArg WinSt.viol ((groupSnuffed_lane g k).trans (if_pos hk))
    · exact (groupSnuffed_lane g k).trans (if_neg hk)

end

section
/-! What the bodies of the converter commands answer, check after check (section 9.9). -/
namespace Sys2Proof.Machine

open Sys2Proof

/-! ### The epoch of a converter command -/

/-- FLAGS and EPOCH of a converter command, and the checks after them: an epoch that is asked for must exist and be
ahead (R24). -/
theorem checked_atChecks_append (s : State) (n : Nat) (e : Word) (l : List (Bool × Byte)) (go : Unit → CmdResult) :
    checked s (atChecks s (n == 1) e ++ l) go =
    if n = 1 ∧ currentEpoch s = none then failCmd s 0x30 else
    if n = 1 ∧ targetBad s e ≠ none then failCmd s 0x13 else checked s l go := by
  simp only [atChecks, List.cons_append, List.nil_append, checked_cons, Bool.or_eq_true, Bool.not_eq_true',
    beq_eq_false_iff_ne, ne_eq, not_or, not_not, Bool.not_eq_true, Option.isSome_eq_false_iff,
    Option.isNone_iff_eq_none]

/-- The checks of CONV_START, CONV_STOP and DECIM_SYNC: there must be a current epoch, and one that is named
must be ahead (R24). -/
theorem checked_atEpochChecks (q : List Byte) (o len : Nat) (s : State) (go : Unit → CmdResult) :
    checked s (atEpochChecks q o len s) go =
    if ¬(q.length = len) then failCmd s 0x11 else
    if ¬(u8 q o ≤ 1 ∧ zeros q (o + 1) 3 = true) then failCmd s 0x13 else
    if ¬((currentEpoch s).isSome = true) then failCmd s 0x30 else
    if ¬(u8 q o = 1 → targetBad s (w32 q (o + 4)) = none) then failCmd s 0x13 else go () := by
  simp only [atEpochChecks, checked_cons, checked_nil, decide_eq_true_eq, Bool.and_eq_true, Bool.or_eq_true,
    bne_iff_ne, ne_eq, Option.isNone_iff_eq_none, ← imp_iff_not_or]

section

variable (p : Packet) (u : State)

/-! ### The configuration commands -/

/-- The words that CONV_CONFIG gives its lanes, and the interval where that is their source (Table 9-12). -/
def converterWords : List (Nat × Word) :=
  (maskBits 32 (u32 p.params 0)).flatMap (fun n => [(Reg.convLaneCfg n,
      wd ((if u8 p.params 5 = 0xFF then laneRate u.shadow n else u8 p.params 5) + 16 * laneResp u.shadow n
        + 256 * u8 p.params 6 + 4096 * u8 p.params 7 + 65536 * u8 p.params 8)),
    (Reg.convLaneSrc n, wd (u16 p.params 10 + 65536 * u16 p.params 12))])
  ++ (if u8 p.params 7 = 3 then [(Reg.convInterval, wd (u32 p.params 16))] else [])

/-- The words that FILTER_SELECT gives its lanes: the response, and the rate where one is named (R288). -/
def filterWords : List (Nat × Word) :=
  (maskBits 32 (u32 p.params 0)).map (fun n => (Reg.convLaneCfg n,
    if u8 p.params 6 = 0xFF then setFld (shw u (Reg.convLaneCfg n)) 4 4 (u8 p.params 5)
    else setFld (setFld (shw u (Reg.convLaneCfg n)) 4 4 (u8 p.params 5)) 0 4 (u8 p.params 6)))

/-- The words that ONSET_CONFIG gives its lanes (Table 9-13). -/
def onsetWords : List (Nat × Word) :=
  (maskBits 32 (u32 p.params 0)).flatMap (fun n =>
    [(Reg.convLaneOns0 n, wd (u8 p.params 4 + 256 * u8 p.params 5 + 65536 * u8 p.params 6 + 2 ^ 24 * u8 p.params 7)),
     (Reg.convLaneOns1 n, wd (u16 p.params 8 + 65536 * u16 p.params 10)), (Reg.convLaneOns2 n, wd (u16 p.params 12))])

/-- The file that the next boundary puts in force: the shadow, with the change that waits for that boundary. -/
def boundaryFile : RegFile :=
  match u.conv.pendingSet with
  | some (e, pws) => if nextEpoch u = some e then fileSets pws u.shadow else u.shadow
  | none => u.shadow

/-- SRC_SEL by the source: a timer, a trigger input, or 0 for a source without a choice (Table 9-12). -/
theorem sourceSel_iff (src sel : Nat) :
    (if src = 2 then decide (sel ≤ 15) else if src = 4 then decide (sel ≤ 3) else sel == 0) = true
    ↔ (src = 2 → sel ≤ 15) ∧ (src = 4 → sel ≤ 3) ∧ (src ≠ 2 → src ≠ 4 → sel = 0) := by
  by_cases htimer : src = 2
  · simp [htimer]
  · by_cases htrig : src = 4 <;> simp [htimer, htrig]

/-- CONV_CONFIG changes its lanes where each keeps its rules with the new words (R28, Table 9-12). -/
theorem convConfigBody_eq : convConfigBody p u =
    if ¬(p.params.length = 24) then failCmd u 0x11 else
    if ¬(u8 p.params 4 ≤ 1 ∧ (u8 p.params 5 ≤ 15 ∨ u8 p.params 5 = 0xFF) ∧ u8 p.params 6 ≤ 3 ∧ u8 p.params 7 ≤ 4
        ∧ u8 p.params 9 = 0 ∧ zeros p.params 14 2 = true
        ∧ (u8 p.params 7 = 2 → u8 p.params 8 ≤ 15) ∧ (u8 p.params 7 = 4 → u8 p.params 8 ≤ 3)
        ∧ (u8 p.params 7 ≠ 2 → u8 p.params 7 ≠ 4 → u8 p.params 8 = 0)
        ∧ (u8 p.params 7 = 3 → intervalOk (u32 p.params 16) = true)) then failCmd u 0x13 else
    if ¬((u8 p.params 5 = 0xFF ∨ rateFits (periodUs u) (u8 p.params 5) = true)
        ∧ ∀ n ∈ maskBits 32 (u32 p.params 0),
          convLaneOk (fileSets (converterWords p u) u.shadow) (periodUs u) n = true) then failCmd u 0x13 else
    if u8 p.params 4 = 1 ∧ currentEpoch u = none then failCmd u 0x30 else
    if u8 p.params 4 = 1 ∧ targetBad u (w32 p.params 20) ≠ none then failCmd u 0x13 else
    if u.conv.pendingSet ≠ none then failCmd u 0x31 else
    convChange (converterWords p u) (u8 p.params 4 == 1) (w32 p.params 20) u := by
  unfold converterWords
  simp only [convConfigBody, List.cons_append, List.nil_append, checked_cons, checked_atChecks_append, checked_nil,
    Bool.and_eq_true, Bool.or_eq_true, decide_eq_true_eq, sourceSel_iff, bne_iff_ne, beq_iff_eq, ne_eq,
    ← imp_iff_not_or, List.all_eq_true, Option.isNone_iff_eq_none, and_assoc]

/-- FILTER_SELECT changes its lanes where each keeps its rules with the new response and rate (R28, R288). -/
theorem filterSelectBody_eq : filterSelectBody p u =
    if ¬(p.params.length = 12) then failCmd u 0x11 else
    if ¬(u8 p.params 4 ≤ 1 ∧ u8 p.params 5 ≤ 0xB ∧ (u8 p.params 6 ≤ 15 ∨ u8 p.params 6 = 0xFF) ∧ u8 p.params 7 = 0) then
      failCmd u 0x13 else
    if ¬((u8 p.params 6 = 0xFF ∨ rateFits (periodUs u) (u8 p.params 6) = true)
        ∧ ∀ n ∈ maskBits 32 (u32 p.params 0),
          convLaneOk (fileSets (filterWords p u) u.shadow) (periodUs u) n = true) then failCmd u 0x13 else
    if u8 p.params 4 = 1 ∧ currentEpoch u = none then failCmd u 0x30 else
    if u8 p.params 4 = 1 ∧ targetBad u (w32 p.params 8) ≠ none then failCmd u 0x13 else
    if u.conv.pendingSet ≠ none then failCmd u 0x31 else
    convChange (filterWords p u) (u8 p.params 4 == 1) (w32 p.params 8) u := by
  unfold filterWords
  simp only [filterSelectBody, List.cons_append, List.nil_append, checked_cons, checked_atChecks_append, checked_nil,
    Bool.and_eq_true, Bool.or_eq_true, decide_eq_true_eq, beq_iff_eq, ne_eq, List.all_eq_true,
    Option.isNone_iff_eq_none]

/-- THRESH_SET changes the level and the hysteresis of one threshold of a lane (R302). -/
theorem threshSetBody_eq : threshSetBody p u =
    if ¬(p.params.length = 16) then failCmd u 0x11 else
    if ¬(u8 p.params 0 ≤ 31 ∧ u8 p.params 1 ≤ 1 ∧ u8 p.params 2 ≤ 7 ∧ -8388608 ≤ sx 32 (u32 p.params 4)
        ∧ sx 32 (u32 p.params 4) ≤ 8388607 ∧ u32 p.params 8 ≤ 0xFFFFFF ∧ zeros p.params 12 4 = true) then
      failCmd u 0x13 else
    convChange
      [(Reg.convLaneThr (u8 p.params 0) (u8 p.params 1), wd (ux 24 (sx 32 (u32 p.params 4)) + 2 ^ 24 * u8 p.params 2)),
       (Reg.convLaneHys (u8 p.params 0) (u8 p.params 1), wd (u32 p.params 8 + 2 ^ 24 * u8 p.params 3))] false 0 u := by
  simp only [threshSetBody, checked_cons, checked_nil, decide_eq_true_eq, Bool.and_eq_true, and_assoc]

/-- ONSET_CONFIG changes its lanes, and turns a detector on only where the next boundary's rate is 12 kS/s or more
(Table 9-13). -/
theorem onsetConfigBody_eq : onsetConfigBody p u =
    if ¬(p.params.length = 16) then failCmd u 0x11 else
    if ¬(u8 p.params 4 ≤ 3 ∧ 2 ≤ u8 p.params 5 ∧ u8 p.params 5 ≤ 64 ∧ u8 p.params 6 ≤ 8 ∧ 16 ≤ u8 p.params 7
        ∧ 16 ≤ u16 p.params 8 ∧ zeros p.params 14 2 = true) then failCmd u 0x13 else
    if ¬(u8 p.params 4 % 2 = 1 → ∀ n ∈ maskBits 32 (u32 p.params 0), laneRate (boundaryFile u) n ≤ 4) then
      failCmd u 0x13 else
    convChange (onsetWords p) false 0 u := by
  simp only [onsetConfigBody, checked_cons, checked_nil, decide_eq_true_eq, Bool.and_eq_true, Bool.or_eq_true,
    beq_iff_eq, ← Nat.mod_two_not_eq_one, ← imp_iff_not_or, List.all_eq_true, and_assoc]
  -- the two sides differ by `boundaryFile` and `onsetWords` written out
  rfl

/-! ### The starts, the stops and the resets -/

/-- A lane that does not convert starts at an epoch; one that does loses its stop (R290). -/
def startLane (e : Word) (x : LaneSt) : LaneSt :=
  if x.on then { x with stopAt := none } else { x with startAt := some e }

/-- A lane that converts stops at an epoch; one that does not loses its start (R290). -/
def stopLane (e : Word) (x : LaneSt) : LaneSt :=
  if x.on then { x with stopAt := some e } else { x with startAt := none }

/-- CONV_START starts the enabled lanes that it names, and returns the epoch and the lanes that start (R290). -/
theorem convStartBody_eq : convStartBody p u =
    if ¬(p.params.length = 12) then failCmd u 0x11 else
    if ¬(∀ n ∈ maskBits 32 (u32 p.params 0), laneEn u.shadow n = true) then failCmd u 0x13 else
    if ¬(u8 p.params 4 ≤ 1 ∧ zeros p.params 5 3 = true) then failCmd u 0x13 else
    if ¬((currentEpoch u).isSome = true) then failCmd u 0x30 else
    if ¬(u8 p.params 4 = 1 → targetBad u (w32 p.params 8) = none) then failCmd u 0x13 else
    let e := atTarget p.params 4 u
    okCmd ((maskBits 32 (u32 p.params 0)).foldl (fun t n => modLane n (startLane e) t) u)
      (le 4 e.toNat
        ++ le 4 (bitsOf 32 (fun n => ((maskBits 32 (u32 p.params 0)).filter (fun k => !(laneOf u k).on)).contains n))) := by
  unfold convStartBody startLane
  simp only [List.cons_append, List.nil_append, checked_cons, checked_atEpochChecks, decide_eq_true_eq, List.all_eq_true]
  exact ite_congr rfl (fun _ => rfl) (fun hlen => ite_congr rfl (fun _ => rfl) (fun _ => if_neg hlen))

/-- CONV_STOP stops the lanes that it names, and returns the epoch and the lanes that stop (R290). -/
theorem convStopBody_eq : convStopBody p u =
    if ¬(p.params.length = 12) then failCmd u 0x11 else
    if ¬(u8 p.params 4 ≤ 1 ∧ zeros p.params 5 3 = true) then failCmd u 0x13 else
    if ¬((currentEpoch u).isSome = true) then failCmd u 0x30 else
    if ¬(u8 p.params 4 = 1 → targetBad u (w32 p.params 8) = none) then failCmd u 0x13 else
    let e := atTarget p.params 4 u
    okCmd ((maskBits 32 (u32 p.params 0)).foldl (fun t n => modLane n (stopLane e) t) u)
      (le 4 e.toNat
        ++ le 4 (bitsOf 32 (fun n => ((maskBits 32 (u32 p.params 0)).filter (fun k => (laneOf u k).on)).contains n))) := by
  unfold convStopBody stopLane
  exact checked_atEpochChecks p.params 4 12 u _

/-- DECIM_SYNC adds a reset of the decimators at its epoch, which it returns (R294). -/
theorem decimSyncBody_eq : decimSyncBody p u =
    if ¬(p.params.length = 8) then failCmd u 0x11 else
    if ¬(u8 p.params 0 ≤ 1 ∧ zeros p.params 1 3 = true) then failCmd u 0x13 else
    if ¬((currentEpoch u).isSome = true) then failCmd u 0x30 else
    if ¬(u8 p.params 0 = 1 → targetBad u (w32 p.params 4) = none) then failCmd u 0x13 else
    let e := atTarget p.params 0 u
    okCmd { u with conv := { u.conv with decimAt := u.conv.decimAt ++ [e] } } (le 4 e.toNat) :=
  checked_atEpochChecks p.params 0 8 u _

end

end Sys2Proof.Machine
end

section

open Sys2Proof Sys2Proof.Machine

/-- Settles O33: each of the seven converter commands answers as its body's checks and work say. -/
theorem converterCommands : Obligations.ConverterCommands := by
  intro p s b u q
  exact ⟨fun h => exec_concludes (exec_convConfig p s) h (convConfigBody_eq p u),
    fun h => exec_concludes (exec_filterSelect p s) h (filterSelectBody_eq p u),
    fun h => exec_concludes (exec_threshSet p s) h (threshSetBody_eq p u),
    fun h => exec_concludes (exec_onsetConfig p s) h (onsetConfigBody_eq p u),
    fun h => exec_concludes (exec_convStart p s) h (convStartBody_eq p u),
    fun h => exec_concludes (exec_convStop p s) h (convStopBody_eq p u),
    fun h => exec_concludes (exec_decimSync p s) h (decimSyncBody_eq p u)⟩

end

section
/-! One TIME tick adds INCR to the counter as a number of 96 bits (R311). -/
namespace Sys2Proof.Machine

open Sys2Proof

/-- A sum of counter words with its carry, taken modulo 2^64 and 2^32, is the sum of the numbers modulo 2^96. -/
theorem counter_add (ns frac incr : Nat) :
    (ns + (frac + incr) / 2 ^ 32) % 2 ^ 64 * 2 ^ 32 + (frac + incr) % 2 ^ 32 = (ns * 2 ^ 32 + frac + incr) % 2 ^ 96 := by
  omega

theorem step_front {s : State} {c : Instr} {rest : List Instr} (h : s.pending = c :: rest) :
    step s = exec c { s with pending := rest } := by
  rw [step, h]

theorem step_idle {s : State} (h : s.pending = []) : step s = .next (tickTime s) := by
  rw [step, h]

theorem tickTime_stopped {s : State} (h : s.time.state = .stopped) : tickTime s = s := by
  rw [tickTime, timeRuns, h]
  rfl

theorem tickTime_running {s : State} (h : s.time.state ≠ .stopped) :
    tickTime s = { s with time := { s.time with
      ns := (s.time.ns + (s.time.frac + s.time.incr) / 2 ^ 32) % 2 ^ 64, frac := (s.time.frac + s.time.incr) % 2 ^ 32 } } :=
  if_pos (bne_iff_ne.mpr h)

end Sys2Proof.Machine
end

section

open Sys2Proof Sys2Proof.Machine

/-- Settles O1: the front of the queue is run on its rest, and a tick is an addition of 96 bits. -/
theorem stepFront : Obligations.StepFront :=
  ⟨fun _ _ _ h => step_front h,
    fun _ h hstop => (step_idle h).trans (congrArg _ (tickTime_stopped hstop)),
    fun s h hrun _ => ⟨_, _, Nat.mod_lt _ (by decide), counter_add s.time.ns s.time.frac s.time.incr,
      (step_idle h).trans (congrArg _ (tickTime_running hrun))⟩,
    fun _ _ => rfl, fun _ _ _ => rfl⟩

end

section
/-! What the bodies of the time commands answer, check after check (section 10.10). -/
namespace Sys2Proof.Machine

open Sys2Proof

section

variable (p : Packet) (u : State)

/-- TIME_SET by its mode, on the lamplighter with no slew and no load pending (Table 10-10). -/
theorem timeSetBody_eq : timeSetBody p u =
    if ¬(p.params.length = 12) then failCmd u 0x11 else
    if ¬(u8 p.params 0 ≤ 3 ∧ zeros p.params 1 3 = true
        ∧ (u8 p.params 0 = 3 → -1000000 ≤ sx 64 (u64 p.params 4) ∧ sx 64 (u64 p.params 4) ≤ 1000000)) then
      failCmd u 0x13 else
    if ¬(isLamplighter u = true ∧ (u8 p.params 0 ≤ 1 ∨ u.time.acq = true) ∧ u.time.slew = none ∧ u.time.ppsSet = none) then
      failCmd u 0x30 else
    okCmd (if u8 p.params 0 = 0 then
        (if u.time.acq then stepTo (u64 p.params 4) u else acquireLamplighter (u64 p.params 4) u)
      else if u8 p.params 0 = 1 then { u with time := { u.time with ppsSet := some (u64 p.params 4) } }
      else if u8 p.params 0 = 2 then stepBy (sx 64 (u64 p.params 4) * 65536) u
      else if sx 64 (u64 p.params 4) = 0 then u
      else setRate u.time.y { u with time := { u.time with slew := some (sx 64 (u64 p.params 4)) } })
      (le 8 (if u.time.state = .stopped then 0 else u.time.ns)) := by
  simp only [timeSetBody, checked_cons, checked_nil, decide_eq_true_eq, Bool.and_eq_true, Bool.or_eq_true, bne_iff_ne,
    ne_eq, ← imp_iff_not_or, Option.isNone_iff_eq_none, and_assoc, stampRun_eq]
  refine ite_congr rfl (fun _ => rfl) fun _ => ite_congr rfl (fun _ => rfl) fun _ => ite_congr rfl (fun _ => rfl) fun _ => ?_
  split
  case h_1 h | h_2 h | h_3 h => simp only [h, if_true, if_false, OfNat.ofNat_ne_zero, OfNat.ofNat_ne_one, one_ne_zero]
  case h_4 h0 h1 h2 => simp only [if_neg h0, if_neg h1, if_neg h2]

/-- TIME_GET returns the state of the time base (Table 10-11). -/
theorem timeGetBody_eq : timeGetBody p u =
    if ¬(p.params.length = 0) then failCmd u 0x11 else
    okCmd u (le 8 (if u.time.state = .stopped then 0 else u.time.ns) ++ [BitVec.ofNat 8 (timeCode u.time.state),
      BitVec.ofNat 8 u.time.depth, portByte u.link.parent,
      BitVec.ofNat 8 (b1 u.time.acq + 2 * b1 (isLamplighter u) + 4 * b1 u.time.ppsOn + 8 * b1 u.time.clamped
        + 16 * b1 u.time.slew.isSome)]
      ++ leI 4 u.time.thetaReg ++ leI 4 u.time.pathReg ++ leI 4 u.time.y ++ le 4 (reportEpoch u).toNat) := by
  simp only [timeGetBody, checked_cons, checked_nil, List.isEmpty_iff_length_eq_zero, stampRun_eq]
  rfl

/-- SERVO_CONFIG writes the servo's words and the ports' asymmetries, in force at the next tick (Table 10-12). -/
theorem servoConfigBody_eq : servoConfigBody p u =
    if ¬(p.params.length = 20) then failCmd u 0x11 else
    if ¬(u8 p.params 0 ≤ 7 ∧ u8 p.params 1 ≤ 15 ∧ u8 p.params 2 ≤ 7 ∧ u8 p.params 3 ≤ 15 ∧ u8 p.params 4 ≤ 3
        ∧ 1 ≤ u8 p.params 5 ∧ u16 p.params 6 ≤ 500 ∧ -500000000 ≤ sx 32 (u32 p.params 8)
        ∧ sx 32 (u32 p.params 8) ≤ 500000000) then failCmd u 0x13 else
    okCmd (timeTouched (setShws ([(Reg.timeServoCfg, wd (u8 p.params 0 + 16 * u8 p.params 1 + 256 * u8 p.params 2
        + 4096 * u8 p.params 3 + 65536 * u8 p.params 4 + 2 ^ 24 * u8 p.params 5)), (Reg.timePpsCfg, wd (u16 p.params 6)),
      (Reg.timeRateTrim, w32 p.params 8)]
      ++ (List.range 4).map (fun n => (Reg.timePortAsym n, wd (u16 p.params (12 + 2 * n))))) u)) [] := by
  simp only [servoConfigBody, checked_cons, checked_nil, decide_eq_true_eq]

/-- BEACON_CONFIG writes the beacon interval and the beacon ports (R317). -/
theorem beaconConfigBody_eq : beaconConfigBody p u =
    if ¬(p.params.length = 4) then failCmd u 0x11 else
    if ¬(u8 p.params 0 ≤ 5 ∧ u8 p.params 1 ≤ 15 ∧ zeros p.params 2 2 = true) then failCmd u 0x13 else
    okCmd (timeTouched (setShw Reg.timeBeaconCfg (wd (u8 p.params 0 + 16 * u8 p.params 1)) u)) [] := by
  simp only [beaconConfigBody, checked_cons, checked_nil, decide_eq_true_eq, Bool.and_eq_true, and_assoc]

/-- TRIGGER_SET writes a trigger's registers and takes them (R329). -/
theorem triggerSetBody_eq : triggerSetBody p u =
    if ¬(p.params.length = 20) then failCmd u 0x11 else
    if ¬(u8 p.params 0 ≤ 15 ∧ u8 p.params 1 ≤ 3 ∧ u8 p.params 2 ≤ 1 ∧ u8 p.params 3 = 0
        ∧ (u8 p.params 1 = 2 → 10000 ≤ u32 p.params 12)) then failCmd u 0x13 else
    if ¬(trigFits u (u8 p.params 1) (u64 p.params 4) (u32 p.params 12) = true) then failCmd u 0x13 else
    if ¬(trigState u (u8 p.params 1) = true) then failCmd u 0x30 else
    let k : Fin 16 := Fin.ofNat 16 (u8 p.params 0)
    let t := takeTrigger k (setShws [(Reg.timeTrgCfg k, wd (u8 p.params 1 + 4 * u8 p.params 2)),
      (Reg.timeTrgInstLo k, w32 p.params 4), (Reg.timeTrgInstHi k, w32 p.params 8),
      (Reg.timeTrgPeriod k, w32 p.params 12), (Reg.timeTrgCount k, w32 p.params 16)] u)
    okCmd t (le 8 (if t.time.trigs[k].armed then t.time.trigs[k].next else 0)) := by
  simp only [triggerSetBody, checked_cons, checked_nil, decide_eq_true_eq, ne_eq, ← imp_iff_not_or]

/-- CAPTURE_CONFIG writes a unit's configuration and clears VALID and OVERRUN (R330). -/
theorem captureConfigBody_eq : captureConfigBody p u =
    if ¬(p.params.length = 4) then failCmd u 0x11 else
    if ¬(u8 p.params 0 ≤ 7 ∧ u8 p.params 1 ≤ 6 ∧ 1 ≤ u8 p.params 2 ∧ u8 p.params 2 ≤ 3 ∧ u8 p.params 3 ≤ 1) then
      failCmd u 0x13 else
    let t := setShw (Reg.timeCapCfg (u8 p.params 0)) (wd (u8 p.params 1 + 16 * u8 p.params 2 + 256 * u8 p.params 3)) u
    okCmd { t with time := { t.time with
      caps := vmodN t.time.caps (u8 p.params 0) (fun x => { x with valid := false, overrun := false }) } } [] := by
  simp only [captureConfigBody, checked_cons, checked_nil, decide_eq_true_eq]

/-- EPOCH_SET establishes the schedule from T0 with N0 = 0 where the configuration fits its period (R22, R23). -/
theorem epochSetBody_eq : epochSetBody p u =
    if ¬(p.params.length = 12) then failCmd u 0x11 else
    if ¬(1000 ≤ u32 p.params 0 ∧ u32 p.params 0 ≤ 1000000) then failCmd u 0x13 else
    if ¬(u.time.ns + 1000000 ≤ u64 p.params 4 ∧ u64 p.params 4 ≤ u.time.ns + 1000000000000) then failCmd u 0x13 else
    if ¬(periodFits u.shadow (curCarrier u) (u32 p.params 0) = true) then failCmd u 0x13 else
    if ¬(isLamplighter u = true ∧ timeAcq u = true ∧ u.time.sched = none) then failCmd u 0x30 else
    okCmd { u with time := { u.time with
      sched := some ⟨u32 p.params 0, u64 p.params 4, 0⟩, epoch := none, lastAcq := none } } [] := by
  simp only [epochSetBody, checked_cons, checked_nil, decide_eq_true_eq, Bool.and_eq_true, Option.isNone_iff_eq_none,
    and_assoc]

end

end Sys2Proof.Machine
end

section

open Sys2Proof Sys2Proof.Machine

/-- Settles O34: each of the seven time commands answers as its body's checks and work say. -/
theorem timeCommands : Obligations.TimeCommands := by
  intro p s b u q
  exact ⟨fun h => exec_concludes (exec_timeSet p s) h (timeSetBody_eq p u),
    fun h => exec_concludes (exec_timeGet p s) h (timeGetBody_eq p u),
    fun h => exec_concludes (exec_servoConfig p s) h (servoConfigBody_eq p u),
    fun h => exec_concludes (exec_beaconConfig p s) h (beaconConfigBody_eq p u),
    fun h => exec_concludes (exec_triggerSet p s) h (triggerSetBody_eq p u),
    fun h => exec_concludes (exec_captureConfig p s) h (captureConfigBody_eq p u),
    fun h => exec_concludes (exec_epochSet p s) h (epochSetBody_eq p u)⟩

end

section
/-! An edge of a pin at the capture units (R330), and at the lanes of a start source (R291). -/
namespace Sys2Proof.Machine

open Sys2Proof

variable {s : State} {src : Nat} {falling : Bool} {t : Long}

/-! ### Time marks -/

/-- A time mark writes the streams that take it; one that finds no room is a fault of the reservoir. -/
theorem steady_addMark (entry : List Byte) (s : State) : Steady s (addMark entry s) := by
  refine steady_foldl (fun u k => ?_) allStreams s
  dsimp only
  split
  · exact .refl u
  · exact steady_ite (.refl u) (steady_ite ⟨rfl, .inl rfl⟩ (steady_ite ⟨rfl, .inl rfl⟩
      ((steady_raise (by decide) ..).after rfl rfl)))

theorem Steady.time_eq {s t : State} (h : Steady s t) : t.time = s.time :=
  congrArg (fun v => v.2.2.1) h.view

theorem Steady.shadow_eq {s t : State} (h : Steady s t) : t.shadow = s.shadow := congrArg Prod.fst h.view

/-! ### One capture unit -/

/-- The unit is set to the source and to the polarity of the edge (Table 10-6). -/
abbrev takesEdge (src : Nat) (falling : Bool) (s : State) (c : Fin 8) : Prop :=
  fld (shw s (Reg.timeCapCfg c)) 0 3 = src ∧ bitOf (shw s (Reg.timeCapCfg c)) (if falling then 5 else 4) = true

/-- A unit's results with an edge at `t` stored (R330). -/
def captured (falling : Bool) (t : Long) (s : State) (x : CapSt) : CapSt :=
  { x with time := t, valid := true, overrun := x.overrun || x.valid, falling := falling
           step := s.time.stepTick == some (s.time.ns, s.time.frac), count := sat16 x.count 1 }

/-- A capture that raises nothing writes its unit's results only. -/
theorem captureOne_quiet {c : Fin 8}
    (h : s.time.caps[c].valid = false ∨ srcEnabled s 7 Src.timeCaptureOverrun = false) :
    (captureOne c falling t s).shadow = s.shadow
      ∧ (captureOne c falling t s).time = { s.time with caps := vmod s.time.caps c (captured falling t s) } := by
  unfold captureOne
  extract_lets x step x' _ stored raised
  have hraised : raised = stored := by
    rcases h with hvalid | hoff
    · exact if_neg (Bool.eq_false_iff.mp hvalid)
    · exact (congrArg (ite _ · _) (raise_disabled (s := stored) hoff noItem)).trans (ite_self _)
  have hmark : Steady stored (if bitOf (shw raised (Reg.timeCapCfg c)) 8 then
      mark t.toNat 0x80 c.val falling step 0 raised else raised) :=
    hraised ▸ steady_ite (steady_addMark ..) (.refl _)
  exact ⟨hmark.shadow_eq, hmark.time_eq⟩

/-! ### The units one after another -/

/-- One unit's part in the captures of an edge. -/
def captureStep (src : Nat) (falling : Bool) (t : Long) (s : State) (c : Fin 8) : State :=
  if takesEdge src falling s c then captureOne c falling t s else s

theorem captureEdge_eq_foldl :
    captureEdge src falling t s = (List.finRange 8).foldl (captureStep src falling t) s := rfl

theorem captureStep_quiet {c : Fin 8}
    (h : s.time.caps[c].valid = false ∨ srcEnabled s 7 Src.timeCaptureOverrun = false) :
    (captureStep src falling t s c).shadow = s.shadow
      ∧ (captureStep src falling t s c).time = { s.time with
          caps := if takesEdge src falling s c then vmod s.time.caps c (captured falling t s) else s.time.caps } := by
  unfold captureStep
  split
  · exact captureOne_quiet h
  · exact ⟨rfl, rfl⟩

theorem captureStep_cap {c : Fin 8}
    (h : s.time.caps[c].valid = false ∨ srcEnabled s 7 Src.timeCaptureOverrun = false) (k : Fin 8) :
    (captureStep src falling t s c).time.caps[k] =
      if c = k ∧ takesEdge src falling s c then captured falling t s s.time.caps[k] else s.time.caps[k] := by
  rw [(captureStep_quiet h).2]
  by_cases htake : takesEdge src falling s c
  · simp only [if_pos htake, getElem_vmod, and_iff_left htake]
  · simp only [htake, and_false, if_false]

/-- A quiet edge stores its instant in the listed units that take it, and leaves the others. -/
theorem captureSteps_quiet {l : List (Fin 8)} (hl : l.Nodup)
    (h : (∀ c ∈ l, s.time.caps[c].valid = false) ∨ srcEnabled s 7 Src.timeCaptureOverrun = false) (k : Fin 8) :
    (l.foldl (captureStep src falling t) s).shadow = s.shadow
      ∧ (l.foldl (captureStep src falling t) s).time.caps[k] =
        if k ∈ l ∧ takesEdge src falling s k then captured falling t s s.time.caps[k] else s.time.caps[k] := by
  induction l generalizing s with
  | nil => exact ⟨rfl, (if_neg (fun e => List.not_mem_nil e.1)).symm⟩
  | cons c l ih =>
    obtain ⟨hc, hl⟩ := List.nodup_cons.mp hl
    have hhead := h.imp_left (fun hvalid => hvalid c List.mem_cons_self)
    obtain ⟨hshadow, htime⟩ := captureStep_quiet (src := src) (falling := falling) (t := t) hhead
    have hcap := captureStep_cap (src := src) (falling := falling) (t := t) hhead
    rw [List.foldl_cons]
    generalize captureStep src falling t s c = u at hshadow htime hcap ⊢
    have hother : ∀ j ∈ l, u.time.caps[j] = s.time.caps[j] := fun j hj =>
      (hcap j).trans (if_neg (fun e : c = j ∧ _ => hc (e.1 ▸ hj)))
    have htail : (∀ j ∈ l, u.time.caps[j].valid = false) ∨ srcEnabled u 7 Src.timeCaptureOverrun = false :=
      h.imp (fun hvalid j hj => hother j hj ▸ hvalid j (List.mem_cons_of_mem c hj))
        (srcEnabled_congr hshadow ..).trans
    have htakes : takesEdge src falling u k ↔ takesEdge src falling s k := by
      simp only [takesEdge, shw, hshadow]
    have hstored : captured falling t u = captured falling t s := by
      funext x
      simp only [captured, htime]
    obtain ⟨hrest, hcaps⟩ := ih hl htail
    refine ⟨hrest.trans hshadow, hcaps.trans ?_⟩
    rw [hstored]
    by_cases hk : k ∈ l
    · simp only [hother k hk, hk, htakes, List.mem_cons, or_true]
    · by_cases hck : c = k
      · subst hck
        simp [hk, hcap]
      · simp [hk, hcap, hck, Ne.symm hck]

/-- A quiet edge stores its instant in each unit that takes it (R330). -/
theorem captureEdge_quiet
    (h : (∀ c : Fin 8, s.time.caps[c].valid = false) ∨ srcEnabled s 7 Src.timeCaptureOverrun = false) (c : Fin 8) :
    (captureEdge src falling t s).shadow = s.shadow
      ∧ (captureEdge src falling t s).time.caps[c] =
        if takesEdge src falling s c then captured falling t s s.time.caps[c] else s.time.caps[c] := by
  obtain ⟨hshadow, hcap⟩ := captureSteps_quiet (src := src) (falling := falling) (t := t) (List.nodup_finRange 8)
    (h.imp_left (fun hvalid k _ => hvalid k)) c
  rw [captureEdge_eq_foldl]
  exact ⟨hshadow, hcap.trans (if_congr (and_iff_right (List.mem_finRange c)) rfl rfl)⟩

/-! ### Lanes of a start source -/

theorem vmodN_id {α : Type} {n : Nat} (v : Vector α n) (i : Nat) : vmodN v i (fun x => x) = v := by
  unfold vmodN
  split
  · exact Vector.set_getElem_self _
  · rfl

/-- A lane with an event of its start source at `e` (R291, R292). -/
def laneEvent (f : RegFile) (n e : Nat) (x : LaneSt) : LaneSt :=
  { x with trigs := sat16 x.trigs 1, evq := if laneBurst f n = 0 then x.evq else x.evq ++ [e] }

/-- Each converting lane that is selected takes the event once. -/
theorem convEvent_lane (sel : Nat → Bool) (e : Nat) (s : State) (n : Fin 32) :
    (convEvent sel e s).conv.lanes[n] =
      if laneOn s n.val && sel n.val then laneEvent s.active n.val e s.conv.lanes[n] else s.conv.lanes[n] := by
  have hlanes : (convEvent sel e s).conv.lanes = lanes32.foldl (fun v i =>
      vmodN v i (fun x => if laneOn s i && sel i then laneEvent s.active i e x else x)) s.conv.lanes := by
    refine (List.foldl_hom (fun u : State => u.conv.lanes) (fun u i => ?_)).symm
    dsimp only
    cases laneOn s i && sel i with
    | true => rfl
    | false => exact vmodN_id ..
  rw [hlanes]
  exact (getElem_foldl_vmodN _ _ List.nodup_range n).trans (if_pos (List.mem_range.mpr n.isLt))

end Sys2Proof.Machine
end

section
/-! The rows of the pins' edges, of PPSOUT, of the triggers and of a slew (sections 10.1, 10.5 and 10.7). -/
namespace Sys2Proof.Machine

open Sys2Proof

variable {s : State} {falling : Bool} {t : Long}

/-- The guard of the edges of TRIG and PPSIN: the time base is stopped, or the block is not in STANDBY or ACTIVE. -/
theorem edgeIgnored_iff : (!timeRuns s || !awake s) = true ↔ timeRuns s = false ∨ awake s = false := by
  rw [Bool.or_eq_true, Bool.not_eq_true', Bool.not_eq_true']

theorem not_edgeIgnored (hrun : timeRuns s = true) (hawake : awake s = true) : ¬(!timeRuns s || !awake s) = true := by
  simp [hrun, hawake]

/-! ### SYNC -/

theorem execSyncEdge_output (h : bitOf (shw s Reg.hifPinCfg) 4 = true) : execSyncEdge falling t s = .next s := if_pos h

/-- An edge of SYNC that is not enabled, or with the time base stopped, moves the level only (R114). -/
theorem execSyncEdge_idle (hin : bitOf (shw s Reg.hifPinCfg) 4 = false)
    (h : bitOf (shw s Reg.hifPinCfg) 6 = false ∨ timeRuns s = false ∨ awake s = false) :
    execSyncEdge falling t s = .next { s with hif := { s.hif with syncLevel := !falling } } := by
  have hidle : (!bitOf (shw s Reg.hifPinCfg) 6 || !timeRuns s || !awake s) = true := by
    simpa [or_assoc] using h
  exact (if_neg (Bool.eq_false_iff.mp hin)).trans (if_pos hidle)

/-- An edge of SYNC that acts is captured; a rising one in ACTIVE asks for the decimator reset (R295). -/
theorem execSyncEdge_acts (hin : bitOf (shw s Reg.hifPinCfg) 4 = false) (hen : bitOf (shw s Reg.hifPinCfg) 6 = true)
    (hrun : timeRuns s = true) (hawake : awake s = true) :
    execSyncEdge falling t s =
      let v := captureEdge 1 falling t { s with hif := { s.hif with syncLevel := !falling } }
      .next (if falling = false ∧ v.sys.power = .active then syncReset t v else v) := by
  have hact : ¬(!bitOf (shw s Reg.hifPinCfg) 6 || !timeRuns s || !awake s) = true := by
    simp [hen, hrun, hawake]
  refine (if_neg (Bool.eq_false_iff.mp hin)).trans ((if_neg hact).trans ?_)
  simp only [Bool.and_eq_true, Bool.not_eq_true', beq_iff_eq]

theorem syncReset_first (h : s.conv.syncFrom = none) : syncReset t s = { s with conv := { s.conv with
    syncEdge := t, syncFrom := some (t.toNat + fld (acw s Reg.convSyncCfg) 0 16 * 1000) } } := by
  rw [syncReset, h]

theorem syncReset_ignored (h : s.conv.syncFrom.isSome = true) :
    syncReset t s = raise 6 Src.convSyncIgnored noItem { s with conv := { s.conv with syncEdge := t } } := by
  obtain ⟨from₀, hfrom⟩ := Option.isSome_iff_exists.mp h
  rw [syncReset, hfrom]

/-! ### PPSIN -/

section

variable {u : State} (hrun : timeRuns s = true) (hawake : awake s = true) (hu : captureEdge 6 falling t s = u)
include hrun hawake hu

/-- An edge of PPSIN of the other polarity is captured and does no more. -/
theorem execPpsinEdge_other (hedge : falling ≠ bitOf (shw u Reg.timeServoCfg) 17) :
    execPpsinEdge falling t s = .next u := by
  simp [execPpsinEdge, hrun, hawake, hu, hedge]

/-- An edge of PPSIN loads the time that SET_AT_PPS left for it, with what has passed since the edge (R327). -/
theorem execPpsinEdge_load (hedge : falling = bitOf (shw u Reg.timeServoCfg) 17) {v : Nat}
    (hset : u.time.ppsSet = some v) :
    execPpsinEdge falling t s =
      let w : State := { u with time := { u.time with ppsSet := none } }
      .next (if u.time.acq then stepTo (v + (u.time.ns - t.toNat)) w
        else acquireLamplighter (v + (u.time.ns - t.toNat)) w) := by
  simp [execPpsinEdge, hrun, hawake, hu, ← hedge, hset]

/-- With no load pending an edge of PPSIN drives the PPS servo where it runs (R323). -/
theorem execPpsinEdge_servo (hedge : falling = bitOf (shw u Reg.timeServoCfg) 17) (hset : u.time.ppsSet = none) :
    execPpsinEdge falling t s = .next (if u.time.ppsOn then ppsServo t.toNat u else u) := by
  simp [execPpsinEdge, hrun, hawake, hu, ← hedge, hset]

end

/-- θ of an edge `r` ns after a whole second, which is nearest to the one before or to the one after it (R323). -/
def ppsTheta (r : Nat) : Int := (if 500000000 < r then (r : Int) - 1000000000 else r) * 65536

theorem ppsTheta_late {r : Nat} (h : r < 500000000) : ppsTheta r = (r : Int) * 65536 := by
  rw [ppsTheta, if_neg h.not_gt]

theorem ppsTheta_early {r : Nat} (h : 500000000 < r) : ppsTheta r = ((r : Int) - 1000000000) * 65536 := by
  rw [ppsTheta, if_pos h]

/-- The PPS servo with an edge seen (R323). -/
def ppsMet (s : State) : State := { s with time := { s.time with ppsSeen := true, ppsLost := false } }

section

variable {n : Nat} (hhalf : n % 1000000000 ≠ 500000000)
include hhalf

/-- Off the half second, an edge's θ is found without a free choice. -/
theorem ppsServo_eq : ppsServo n s =
    let theta := ppsTheta (n % 1000000000)
    if thetaBig theta then
      match s.time.bigTheta with
      | some b =>
        if thetaAgree theta b then
          noteTheta theta (stepBy (-theta) { ppsMet s with time := { (ppsMet s).time with bigTheta := none } })
        else badExchange { ppsMet s with time := { (ppsMet s).time with bigTheta := some theta } }
      | none => badExchange { ppsMet s with time := { (ppsMet s).time with bigTheta := some theta } }
    else
      noteTheta theta (servo theta 1000000000 (fld (shw s Reg.timeServoCfg) 8 3) (fld (shw s Reg.timeServoCfg) 12 4)
        { ppsMet s with time := { (ppsMet s).time with bigTheta := none } }) := by
  simp only [ppsServo, if_neg hhalf, decide_eq_true_eq]
  rfl

theorem ppsServo_small (h : thetaBig (ppsTheta (n % 1000000000)) = false) :
    ppsServo n s = noteTheta (ppsTheta (n % 1000000000)) (servo (ppsTheta (n % 1000000000)) 1000000000
      (fld (shw s Reg.timeServoCfg) 8 3) (fld (shw s Reg.timeServoCfg) 12 4)
      { ppsMet s with time := { (ppsMet s).time with bigTheta := none } }) :=
  (ppsServo_eq hhalf).trans (if_neg (Bool.eq_false_iff.mp h))

/-- A first large θ waits for a second that agrees (R326). -/
theorem ppsServo_firstBig (h : thetaBig (ppsTheta (n % 1000000000)) = true) (hfirst : s.time.bigTheta = none) :
    ppsServo n s = badExchange { ppsMet s with time := { (ppsMet s).time with
      bigTheta := some (ppsTheta (n % 1000000000)) } } := by
  rw [ppsServo_eq hhalf]
  dsimp only
  rw [if_pos h, hfirst]

end

theorem execPpsLost_idle (hlost : (s.time.ppsOn && !s.time.ppsLost) = false) (hset : s.time.ppsSet = none) :
    execPpsLost s = .next s := by
  simp [execPpsLost, hlost, hset]

/-- Two seconds without an edge freeze the servo's y at I, or cancel a load that waits for the edge (R323). -/
theorem execPpsLost_raises {lost : Bool} (hl : (s.time.ppsOn && !s.time.ppsLost) = lost)
    (h : lost = true ∨ s.time.ppsSet.isSome = true) :
    execPpsLost s =
      let u : State := { s with time := { s.time with ppsSet := none, ppsLost := s.time.ppsLost || lost } }
      .next (raise 7 Src.timePpsLost noItem (if lost then setRate (clampY s.time.integ) u else u)) := by
  subst hl
  have hact : ¬(!(s.time.ppsOn && !s.time.ppsLost) && s.time.ppsSet.isNone) = true := by
    rw [Bool.and_eq_true, Bool.not_eq_true', Option.isNone_iff_eq_none]
    rintro ⟨hno, hnone⟩
    exact h.elim (fun e => Bool.noConfusion (e.symm.trans hno)) (fun e => by rw [hnone] at e; cases e)
  exact if_neg hact

/-! ### PPSOUT -/

/-- The counter advanced to an instant, and PPSOUT driven there. -/
def ppsOutAt (n : Nat) (b : Bool) (s : State) : State :=
  { advanceTo n s with time := { (advanceTo n s).time with ppsOut := b } }

theorem ppsOutAt_ns (n : Nat) (b : Bool) (s : State) : (ppsOutAt n b s).time.ns = max s.time.ns n := advanceTo_ns ..

theorem ppsOutAt_eq (n : Nat) (b : Bool) (s : State) : ppsOutAt n b s = { s with time := { s.time with
    ppsOut := b, ns := (ppsOutAt n b s).time.ns, frac := (ppsOutAt n b s).time.frac } } := by
  unfold ppsOutAt advanceTo
  split <;> rfl

theorem execPpsoutPulse_fall (h : s.time.ppsOut = true) : execPpsoutPulse s = .next (ppsOutAt
    (s.time.ns / 1000000000 * 1000000000 + fld (shw s Reg.timePpsCfg) 0 9 * 1000000) false s) := if_pos h

theorem execPpsoutPulse_idle (h : s.time.ppsOut = false) (hidle : timeAcq s = false ∨ fld (shw s Reg.timePpsCfg) 0 9 = 0) :
    execPpsoutPulse s = .next s :=
  (if_neg (Bool.eq_false_iff.mp h)).trans (if_pos (by simpa using hidle))

theorem execPpsoutPulse_rise (h : s.time.ppsOut = false) (hacq : timeAcq s = true)
    (hw : fld (shw s Reg.timePpsCfg) 0 9 ≠ 0) :
    execPpsoutPulse s = .next (ppsOutAt (ceilDiv s.time.ns 1000000000 * 1000000000) true s) :=
  (if_neg (Bool.eq_false_iff.mp h)).trans (if_neg (by simpa [hacq] using hw))

/-- The next whole second at or after an instant. -/
theorem ceilDiv_second (n : Nat) : ceilDiv n 1000000000 * 1000000000 % 1000000000 = 0
    ∧ n ≤ ceilDiv n 1000000000 * 1000000000 ∧ ceilDiv n 1000000000 * 1000000000 < n + 1000000000 := by
  unfold ceilDiv
  omega

/-! ### Triggers -/

section

variable {start p n : Nat}

theorem lt_firstAfter (hp : 0 < p) : n < firstAfter start p n := by
  unfold firstAfter
  split
  · assumption
  · have hquot := Nat.lt_mul_div_succ (n - start) hp
    rw [if_neg hp.ne', Nat.mul_comm]
    omega

theorem firstAfter_sub_mod : (firstAfter start p n - start) % p = 0 := by
  unfold firstAfter
  split
  · rw [Nat.sub_self, Nat.zero_mod]
  · split
    · rw [Nat.sub_self, Nat.zero_mod]
    · rw [Nat.add_sub_cancel_left, Nat.mul_mod_left]

theorem firstAfter_le (h : start ≤ n) : firstAfter start p n ≤ n + p := by
  unfold firstAfter
  rw [if_neg h.not_gt]
  split
  · omega
  · have hquot := Nat.div_mul_le_self (n - start) p
    rw [Nat.add_mul, Nat.one_mul]
    omega

end

section

variable {x : TrigSt} {n : Nat}

/-- A firing counts down, unless the count is unlimited (R329). -/
theorem trigNext_count : (trigNext s x n true).count = if x.count = 0xFFFFFFFF then x.count else x.count - 1 := by
  simp only [trigNext, Bool.true_and, bne_iff_ne, ne_eq, ite_not]

theorem trigNext_once (h : x.mode = 1) (fired : Bool) : (trigNext s x n fired).armed = false := by
  simp only [trigNext, h, Option.isSome_none, Bool.false_and]

/-- A periodic trigger stays armed while firings remain, for the first instant of its run after the last (Table 10-5). -/
theorem trigNext_periodic (h : x.mode = 2) (fired : Bool) :
    (trigNext s x n fired).armed = decide ((trigNext s x n fired).count ≠ 0)
      ∧ ((trigNext s x n fired).armed = true → (trigNext s x n fired).next = firstAfter x.instant x.period n) := by
  have harmed : (trigNext s x n fired).armed = decide ((trigNext s x n fired).count ≠ 0) := by
    simp only [trigNext, h, Option.isSome_some, Bool.true_and]
    exact (decide_not ..).symm
  refine ⟨harmed, fun hon => ?_⟩
  have hcount := of_decide_eq_true (harmed.symm.trans hon)
  simp only [trigNext, h] at hcount ⊢
  exact if_neg hcount

end

theorem execTimeTriggerFire_idle {u : Fin 16} (h : s.time.trigs[u].armed = false ∨ timeRuns s = false) :
    execTimeTriggerFire u s = .next s := if_pos (by simpa using h)

/-! ### Slews -/

theorem execSlewEnd_none (h : s.time.slew = none) : execSlewEnd s = .next s := by
  rw [execSlewEnd, h]

/-- A slew with y at its limit gains nothing and does not end; another ends with INCR at y again (TIME_SET). -/
theorem execSlewEnd_some {v : Int} (h : s.time.slew = some v) :
    execSlewEnd s = if s.time.y = (if 0 < v then -500000000 else 500000000) then .next s else
      .next { s with time := { s.time with slew := none, incr := incrOf s.time.y } } := by
  rw [execSlewEnd, h]
  rfl

end Sys2Proof.Machine
end

section
/-! The rows of the time base's events as the statement of the edges takes them. -/
namespace Sys2Proof.Machine

open Sys2Proof

/-- TRIG_EDGE moves the level, is captured, and feeds the lanes of its source at the selected polarity (R116, R330). -/
theorem trigEdge_row (n : Fin 4) (falling : Bool) (t : Long) (s : State) : let m : BitVec 4 := 1#4 <<< n.val
    let u : State := { s with hif := { s.hif with
      trigLevel := if falling then s.hif.trigLevel &&& ~~~m else s.hif.trigLevel ||| m } }
    let v := captureEdge (2 + n.val) falling t u
    ((timeRuns s = false ∨ awake s = false) → exec (.trigEdge n falling t) s = .next u)
    ∧ (timeRuns s = true → awake s = true → exec (.trigEdge n falling t) s =
      .next (if bitOf (shw v Reg.hifTrigCfg) (8 * n.val + b1 falling) then convEvent (sourceSel v 4 n.val) t.toNat v
        else v)) :=
  ⟨fun h => if_pos (edgeIgnored_iff.mpr h), fun hrun hawake => if_neg (not_edgeIgnored hrun hawake)⟩

/-- PPSIN_EDGE is captured; one of the set polarity ends SET_AT_PPS or drives the PPS servo (R323, R327). -/
theorem ppsinEdge_row (falling : Bool) (t : Long) (s : State) : let u := captureEdge 6 falling t s
    ((timeRuns s = false ∨ awake s = false) → exec (.ppsinEdge falling t) s = .next s)
    ∧ (timeRuns s = true → awake s = true →
        (falling ≠ bitOf (shw u Reg.timeServoCfg) 17 → exec (.ppsinEdge falling t) s = .next u)
      ∧ (falling = bitOf (shw u Reg.timeServoCfg) 17 →
          (∀ v, u.time.ppsSet = some v → let w : State := { u with time := { u.time with ppsSet := none } }
            exec (.ppsinEdge falling t) s = .next (if u.time.acq then stepTo (v + (u.time.ns - t.toNat)) w
              else acquireLamplighter (v + (u.time.ns - t.toNat)) w))
        ∧ (u.time.ppsSet = none →
            exec (.ppsinEdge falling t) s = .next (if u.time.ppsOn then ppsServo t.toNat u else u)))) := by
  intro u
  have hu : captureEdge 6 falling t s = u := rfl
  clear_value u
  rw [exec_ppsinEdge]
  exact ⟨fun h => if_pos (edgeIgnored_iff.mpr h), fun hrun hawake =>
    ⟨execPpsinEdge_other hrun hawake hu, fun hedge =>
      ⟨fun _ hset => execPpsinEdge_load hrun hawake hu hedge hset, execPpsinEdge_servo hrun hawake hu hedge⟩⟩⟩

/-- A small θ feeds the PPS servo, a first large one waits (R323, R326). -/
theorem ppsServo_row (t : Nat) (s : State) : let r := t % 1000000000
    let v : State := { s with time := { s.time with ppsSeen := true, ppsLost := false } }
    let kp := fld (shw s Reg.timeServoCfg) 8 3
    let ki := fld (shw s Reg.timeServoCfg) 12 4
    (r < 1000000 → ppsServo t s =
      noteTheta (r * 65536) (servo (r * 65536) 1000000000 kp ki { v with time := { v.time with bigTheta := none } }))
    ∧ (999000000 < r → ppsServo t s = noteTheta ((r - 1000000000) * 65536)
        (servo ((r - 1000000000) * 65536) 1000000000 kp ki { v with time := { v.time with bigTheta := none } }))
    ∧ (1000000 ≤ r → r < 500000000 → s.time.bigTheta = none →
        ppsServo t s = badExchange { v with time := { v.time with bigTheta := some ((r : Int) * 65536) } }) := by
  intro r v kp ki
  have hr : r < 1000000000 := Nat.mod_lt _ (by decide)
  refine ⟨fun h => ?_, fun h => ?_, fun hlo hhi hfirst => ?_⟩
  · have htheta : ppsTheta r = (r : Int) * 65536 := ppsTheta_late (by omega)
    have hsmall : thetaBig (ppsTheta r) = false := decide_eq_false (by omega)
    exact htheta ▸ ppsServo_small (show r ≠ 500000000 by omega) hsmall
  · have htheta : ppsTheta r = ((r : Int) - 1000000000) * 65536 := ppsTheta_early (by omega)
    have hsmall : thetaBig (ppsTheta r) = false := decide_eq_false (by omega)
    exact htheta ▸ ppsServo_small (show r ≠ 500000000 by omega) hsmall
  · have htheta : ppsTheta r = (r : Int) * 65536 := ppsTheta_late hhi
    have hbig : thetaBig (ppsTheta r) = true := decide_eq_true (by omega)
    exact htheta ▸ ppsServo_firstBig (show r ≠ 500000000 by omega) hbig hfirst

/-- PPSOUT falls at its width, and rises at the next whole second of an acquired counter (R324). -/
theorem ppsoutPulse_row (s : State) : let w := fld (shw s Reg.timePpsCfg) 0 9
    (s.time.ppsOut = true → ∃ t, exec .ppsoutPulse s = .next t ∧ t.time.ppsOut = false
      ∧ t.time.ns = max s.time.ns (s.time.ns / 1000000000 * 1000000000 + w * 1000000)
      ∧ t = { s with time := { s.time with ppsOut := false, ns := t.time.ns, frac := t.time.frac } })
    ∧ (s.time.ppsOut = false → (timeAcq s = false ∨ w = 0) → exec .ppsoutPulse s = .next s)
    ∧ (s.time.ppsOut = false → timeAcq s = true → w ≠ 0 → ∃ t, exec .ppsoutPulse s = .next t ∧ t.time.ppsOut = true
      ∧ t.time.ns % 1000000000 = 0 ∧ s.time.ns ≤ t.time.ns ∧ t.time.ns < s.time.ns + 1000000000
      ∧ t = { s with time := { s.time with ppsOut := true, ns := t.time.ns, frac := t.time.frac } }) := by
  refine ⟨fun h => ⟨_, execPpsoutPulse_fall h, rfl, ppsOutAt_ns .., ppsOutAt_eq ..⟩, execPpsoutPulse_idle,
    fun h hacq hw => ?_⟩
  obtain ⟨hwhole, hle, hlt⟩ := ceilDiv_second s.time.ns
  have hns := (ppsOutAt_ns (ceilDiv s.time.ns 1000000000 * 1000000000) true s).trans (max_eq_right hle)
  rw [← hns] at hwhole hle hlt
  exact ⟨_, execPpsoutPulse_rise h hacq hw, rfl, hwhole, hle, hlt, ppsOutAt_eq ..⟩

/-- A trigger fires at its instant, counts, feeds its lanes, marks and takes its next instant (R329). -/
theorem timeTriggerFire_row (u : Fin 16) (s : State) : let x := s.time.trigs[u]
    ((x.armed = false ∨ timeRuns s = false) → exec (.timeTriggerFire u) s = .next s)
    ∧ (x.armed = true → timeRuns s = true → let a := advanceTo x.next s
        let x' : TrigSt := { trigNext a x x.next true with fired := sat16 x.fired 1 }
        let w := setShw (Reg.timeTrgCount u) x'.count { a with time := { a.time with trigs := a.time.trigs.set u.1 x' u.2 } }
        let v := convEvent (sourceSel w 2 u.val) x.next w
        exec (.timeTriggerFire u) s = .next (if x.mark then mark x.next 0x81 u.val false false 0 v else v)
        ∧ x'.count = (if x.count = 0xFFFFFFFF then x.count else x.count - 1)
        ∧ (x.mode = 1 → x'.armed = false)
        ∧ (x.mode = 2 → 0 < x.period → x'.armed = decide (x'.count ≠ 0)
            ∧ (x'.armed = true → x.next < x'.next ∧ (x'.next - x.instant) % x.period = 0
              ∧ (x.instant ≤ x.next → x'.next ≤ x.next + x.period)))) := by
  intro x
  refine ⟨execTimeTriggerFire_idle, fun harmed hrun => ?_⟩
  intro a x' w v
  have hact : ¬(!x.armed || !timeRuns s) = true := by simp [harmed, hrun]
  refine ⟨if_neg hact, trigNext_count (s := a) (n := x.next), fun hmode => trigNext_once hmode true, fun hmode hper => ?_⟩
  obtain ⟨hon, hnext⟩ := trigNext_periodic (s := a) (n := x.next) hmode true
  refine ⟨hon, fun hstays => ?_⟩
  have hnext' : x'.next = firstAfter x.instant x.period x.next := hnext hstays
  rw [hnext']
  exact ⟨lt_firstAfter hper, firstAfter_sub_mod, firstAfter_le⟩

end Sys2Proof.Machine
end

section

open Sys2Proof Sys2Proof.Machine

/-- Settles O49: each edge, pulse, firing and slew is an equation of its row; a quiet capture is followed unit by unit,
and an event of a start source lane by lane. -/
theorem timeEdges : Obligations.TimeEdges := by
  refine ⟨fun falling t s => ?_, fun t s => ?_, trigEdge_row,
    fun _ _ _ _ c hquiet => captureEdge_quiet hquiet c, convEvent_lane,
    ppsinEdge_row, ppsServo_row, fun s => ?_, ppsoutPulse_row, fun s => ?_, timeTriggerFire_row, fun s => ?_,
    fun s => rfl⟩
  · exact ⟨execSyncEdge_output, execSyncEdge_idle, execSyncEdge_acts⟩
  · exact ⟨syncReset_first, syncReset_ignored⟩
  · exact ⟨execPpsLost_idle, execPpsLost_raises rfl⟩
  · rw [exec_tclkLost, execTclkLost]
    simp only [Bool.not_eq_true']
    exact (apply_ite Host.Outcome.next ..).symm
  · exact ⟨execSlewEnd_none, fun v hslew => ⟨fun hlim => (execSlewEnd_some hslew).trans (if_pos hlim),
      fun hlim => (execSlewEnd_some hslew).trans (if_neg hlim)⟩⟩

end

section
/-! What the bodies of the fabric commands answer, check after check (section 11.10). -/
namespace Sys2Proof.Machine

open Sys2Proof

section

variable (p : Packet) (u : State)

/-- FABRIC_JOIN begins the join of a standalone device, or the leave of a joined one (R348). -/
theorem fabricJoinBody_eq : fabricJoinBody p u =
    if ¬(p.params.length = 4) then failCmd u 0x11 else
    if ¬(u8 p.params 0 ≤ 1 ∧ zeros p.params 1 3 = true) then failCmd u 0x13 else
    if ¬(u.link.joined = decide (u8 p.params 0 = 1)) then failCmd u 0x30 else
    let t := if u8 p.params 0 = 0 then joinFabric u else leaveFabric u
    acceptCmd { t with link := { t.link with joining := some (decide (u8 p.params 0 = 0)) } } := by
  simp only [fabricJoinBody, checked_cons, checked_nil, decide_eq_true_eq, Bool.and_eq_true, beq_eq_decide]

/-- FABRIC_STATUS returns Table 11-11. -/
theorem fabricStatusBody_eq : fabricStatusBody p u =
    if ¬(p.params.length = 0) then failCmd u 0x11 else
    okCmd u (le 4 (linkStatWord u) ++ [(llShown u).1, portByte u.link.parent,
        if u.link.joined then BitVec.ofNat 8 u.link.depth else 0xFF, BitVec.ofNat 8 (deviceCount u)]
      ++ allPorts.map (fun n => (BitVec.ofNat 8 (portStatWord u n) : Byte)) ++ le 2 u.link.modeGen.toNat
      ++ le 2 u.link.modeId.toNat ++ le 2 (prepId u) ++ [0, 0] ++ le 4 (prepTarget u) ++ le 8 (llShown u).2.2.toNat
      ++ le 4 u.link.topoGen.toNat) := by
  simp only [fabricStatusBody, checked_cons, checked_nil, decide_eq_true_eq]

/-- ROUTE_READ returns the entries of consecutive addresses (R352). -/
theorem routeReadBody_eq : routeReadBody p u =
    if ¬(p.params.length = 4) then failCmd u 0x11 else
    if ¬(u8 p.params 0 ≤ 0xFD ∧ u8 p.params 0 + u8 p.params 1 ≤ 254 ∧ zeros p.params 2 2 = true) then
      failCmd u 0x13 else
    okCmd u ((List.range (u8 p.params 1)).flatMap (fun i => routeEntry u (u8 p.params 0 + i))) := by
  simp only [routeReadBody, checked_cons, checked_nil, decide_eq_true_eq, Bool.and_eq_true, and_assoc]

/-- MODE_PREPARE holds the change and sends it to every device, its own acknowledgement noted (R361, R362). -/
theorem modePrepareBody_eq : modePrepareBody p u =
    let c := changeOf p.params
    if ¬(12 ≤ p.params.length ∧ p.params.length = 12 + 12 * u16 p.params 10) then failCmd u 0x11 else
    if ¬(c.id ≠ 0 ∧ (c.newP = 0 ∨ (1000 ≤ c.newP ∧ c.newP ≤ 1000000)) ∧ u16 p.params 10 ≤ 255
        ∧ (∀ i < u16 p.params 10, zeros p.params (13 + 12 * i) 3 = true)
        ∧ ∀ w ∈ c.writes, modeAddr w.addr.toNat = true) then failCmd u 0x13 else
    if ¬(isLamplighter u = true ∧ (currentEpoch u).isSome = true) then failCmd u 0x30 else
    if ¬(modeTargetOk c.target u = true) then failCmd u 0x13 else
    if ¬(u.link.flight = none ∧ u.link.prep = none) then failCmd u 0x31 else
    if ¬(modeCheck c u = 0) then failCmd u 0x13 else
    let t := (takeChange c u).2
    acceptCmd (modeToAll (modeDevices u) (preparePayload c) { t with link := { t.link with flight := some {
      change := c, asked := modeDevices u, acks := [(ownAddr t, 0)], prepared := false, commitSent := false
      commitAcks := [], applied := [], aborted := false, abortAcks := [] } } }) := by
  simp only [modePrepareBody, checked_cons, checked_nil, decide_eq_true_eq, Bool.and_eq_true, List.all_eq_true,
    List.mem_range, Option.isNone_iff_eq_none, beq_iff_eq, and_assoc]

/-- PORT_CONFIG reinstates the named ports where asked, writes their words and restarts them (R338, R437). -/
theorem portConfigBody_eq : portConfigBody p u =
    if ¬(p.params.length = 4) then failCmd u 0x11 else
    if ¬(1 ≤ u8 p.params 0 ∧ u8 p.params 0 ≤ 15 ∧ u8 p.params 1 ≤ 2 ∧ u8 p.params 2 ≤ 7 ∧ u8 p.params 3 = 0) then
      failCmd u 0x13 else
    let ns := allPorts.filter (fun n => (u8 p.params 0).testBit n.val)
    let t := if (u8 p.params 2).testBit 2 then
      ns.foldl (fun t n => reinstatePort (BitVec.ofNat 8 (roleOf t p.origin).toNat) n t) u else u
    okCmd (ns.foldl (fun t n => portTouch n t)
      (setShws (ns.map (fun n => (Reg.linkPortCfg n, wd (u8 p.params 1 + 4 * (u8 p.params 2 % 4))))) t)) [] := by
  simp only [portConfigBody, checked_cons, checked_nil, decide_eq_true_eq]

/-- LAMPLIGHTER_PRIORITY writes LINK_CFG and unsettles a joined device. -/
theorem lamplighterPriorityBody_eq : lamplighterPriorityBody p u =
    if ¬(p.params.length = 4) then failCmd u 0x11 else
    if ¬(u8 p.params 1 ≠ 0xFE ∧ u8 p.params 2 ≤ 1 ∧ u8 p.params 3 = 0) then failCmd u 0x13 else
    okCmd (touchDb (setShw Reg.linkCfg (wd (u8 p.params 0 + 256 * u8 p.params 1 + 65536 * u8 p.params 2)) u)) [] := by
  simp only [lamplighterPriorityBody, checked_cons, checked_nil, decide_eq_true_eq]

/-- MODE_COMMIT orders the change in flight of its identifier to commit, early enough, or to abort (R363). -/
theorem modeCommitBody_eq : modeCommitBody p u =
    if ¬(p.params.length = 4) then failCmd u 0x11 else
    if ¬(u8 p.params 2 ≤ 1 ∧ u8 p.params 3 = 0) then failCmd u 0x13 else
    match u.link.flight.filter (fun f => f.change.id == BitVec.ofNat 16 (u16 p.params 0)) with
    | none =>
      if u.link.prep.any (fun x => x.change.id == BitVec.ofNat 16 (u16 p.params 0)) = true then failCmd u 0x30
      else failCmd u 0x13
    | some f =>
      if isLamplighter u = true ∧ f.prepared = true ∧ f.aborted = false ∧ f.commitSent = false
          ∧ (u8 p.params 2 = 0 → u.time.ns + 2000000 ≤ targetStart f.change u) then
        acceptCmd (orderAll (decide (u8 p.params 2 = 0)) f u)
      else failCmd u 0x30 := by
  simp only [modeCommitBody, checked_cons, checked_nil, decide_eq_true_eq]
  refine ite_congr rfl (fun _ => rfl) fun _ => ite_congr rfl (fun _ => rfl) fun _ => ?_
  cases u.link.flight.filter (fun f => f.change.id == BitVec.ofNat 16 (u16 p.params 0)) with
  | none =>
    simp only [Option.isSome_none, Bool.false_or, Option.any_none, Bool.false_eq_true, not_false_eq_true, ite_self,
      ite_not]
  | some f =>
    simp only [Option.isSome_some, Bool.true_or, Option.any_some, not_true_eq_false, if_false, Bool.and_eq_true,
      Bool.or_eq_true, Bool.not_eq_true', decide_eq_false_iff_not, decide_eq_true_eq, ← imp_iff_not_or, and_assoc,
      ite_not]
    exact (ite_and ..).symm

end

end Sys2Proof.Machine
end

section

open Sys2Proof Sys2Proof.Machine

/-- Settles O36: each of the seven fabric commands answers as its body's checks and work say. -/
theorem fabricCommands : Obligations.FabricCommands := by
  intro p s b u q
  exact ⟨fun h => exec_concludes (exec_fabricJoin p s) h (fabricJoinBody_eq p u),
    fun h => exec_concludes (exec_fabricStatus p s) h (fabricStatusBody_eq p u),
    fun h => exec_concludes (exec_routeRead p s) h (routeReadBody_eq p u),
    fun h => exec_concludes (exec_modePrepare p s) h (modePrepareBody_eq p u),
    fun h => exec_concludes (exec_portConfig p s) h (portConfigBody_eq p u),
    fun h => exec_concludes (exec_lamplighterPriority p s) h (lamplighterPriorityBody_eq p u),
    fun h => exec_concludes (exec_modeCommit p s) h (modeCommitBody_eq p u)⟩

end

section
/-! The order and the credit in which frames leave a port (R345, R346). -/
namespace Sys2Proof.Machine

open Sys2Proof

/-! ### The frame that leaves next -/

section

variable {p : PortSt} {c : Fin 4} {f : Frame}

/-- The head of a class is its first waiting frame, which the port carries with the credit it holds. -/
theorem headOf_eq_some (h : headOf p c = some f) :
    p.waiting.find? (fun g => g.cls == c) = some f ∧ portCarries p f = true ∧ frameUnits f ≤ p.credit[c] := by
  unfold headOf at h
  split at h
  · next g hfind =>
    split at h
    · next hcarry =>
      obtain ⟨hport, hunits⟩ := Bool.and_eq_true_iff.mp hcarry
      cases h
      exact ⟨hfind, hport, of_decide_eq_true hunits⟩
    · cases h
  · cases h

/-- The next frame to leave is the head of its class. -/
theorem headOf_of_pickFrame (h : pickFrame p = some f) : ∃ c, headOf p c = some f := by
  unfold pickFrame at h
  split at h
  · next h0 => exact ⟨0, h0.trans h⟩
  split at h
  · next hstarved =>
    split at hstarved
    · exact ⟨2, hstarved.trans h⟩
    · cases hstarved
  split at h
  · next h1 => exact ⟨1, h1.trans h⟩
  split at h
  · next h2 => exact ⟨2, h2.trans h⟩
  · exact ⟨3, h⟩

/-- The next frame to leave is the oldest of its class, and the port holds its credit. -/
theorem pickFrame_spec (h : pickFrame p = some f) :
    p.waiting.find? (fun g => g.cls == f.cls) = some f ∧ portCarries p f = true ∧ frameUnits f ≤ p.credit[f.cls] := by
  obtain ⟨c, hc⟩ := headOf_of_pickFrame h
  obtain ⟨hfind, hport, hunits⟩ := headOf_eq_some hc
  have hcls : f.cls = c := by simpa using List.find?_some hfind
  subst hcls
  exact ⟨hfind, hport, hunits⟩

theorem pickFrame_loop (h : p.loop = true) : pickFrame p = none := by
  refine Option.eq_none_iff_forall_ne_some.mpr fun f hf => ?_
  obtain ⟨_, hport, _⟩ := pickFrame_spec hf
  simp [portCarries, h] at hport

end

/-- Taking the oldest frame of a class from a list leaves the frames of each class in order behind it. -/
theorem filter_cons_erase_of_find? {l : List Frame} {f : Frame} (h : l.find? (fun g => g.cls == f.cls) = some f)
    (c : Fin 4) : (f :: l.erase f).filter (fun g => g.cls == c) = l.filter (fun g => g.cls == c) := by
  induction l with
  | nil => cases h
  | cons g l ih =>
    by_cases hg : g = f
    · subst hg
      rw [List.erase_cons_head]
    · rw [List.erase_cons_tail (by simpa using hg)]
      have hcls : (g.cls == f.cls) = false := by
        by_contra hcls
        rw [List.find?_cons_of_pos (by simpa using hcls)] at h
        exact hg (Option.some.inj h)
      rw [List.find?_cons_of_neg (by simp [hcls])] at h
      have ih := ih h
      simp only [List.filter_cons] at ih ⊢
      by_cases hc : g.cls = c
      · subst hc
        have hf : (f.cls == g.cls) = false := by
          rw [Bool.beq_comm]
          exact hcls
        simp only [hf] at ih ⊢
        simpa using ih
      · simpa [hc] using ih

/-! ### Waiting frames leave -/

section

variable {α : Type} (t n : Nat) (p : PortSt)

/-- What a frame that leaves does not change, the frames that leave do not. -/
theorem drainPort_keeps (g : PortSt → α)
    (hg : ∀ f x, g (frameLeaves t f { x with waiting := x.waiting.erase f }) = g x) :
    g (drainPort t n p) = g p := by
  induction n generalizing p with
  | zero => rfl
  | succ n ih =>
    rw [drainPort]
    split
    · rfl
    · rw [ih, hg]

@[simp] theorem drainPort_state : (drainPort t n p).state = p.state := drainPort_keeps t n p (·.state) fun _ _ => rfl
@[simp] theorem drainPort_nbrUid : (drainPort t n p).nbrUid = p.nbrUid :=
  drainPort_keeps t n p (·.nbrUid) fun _ _ => rfl
@[simp] theorem drainPort_nbrPort : (drainPort t n p).nbrPort = p.nbrPort :=
  drainPort_keeps t n p (·.nbrPort) fun _ _ => rfl
@[simp] theorem drainPort_nbrAddr : (drainPort t n p).nbrAddr = p.nbrAddr :=
  drainPort_keeps t n p (·.nbrAddr) fun _ _ => rfl
@[simp] theorem drainPort_loop : (drainPort t n p).loop = p.loop := drainPort_keeps t n p (·.loop) fun _ _ => rfl
@[simp] theorem drainPort_mismatch : (drainPort t n p).mismatch = p.mismatch :=
  drainPort_keeps t n p (·.mismatch) fun _ _ => rfl

theorem drainPort_of_loop (h : p.loop = true) : drainPort t n p = p := by
  cases n with
  | zero => rfl
  | succ n => rw [drainPort, pickFrame_loop h]

end

/-- The frames that wait on a port leave as far as credit allows. -/
def drained (t : Nat) (p : PortSt) : PortSt := drainPort t p.waiting.length p

/-- The credit that the frames of a class in a list take. -/
def classUnits (c : Fin 4) (l : List Frame) : Nat := sumNat ((l.filter (fun f => f.cls == c)).map frameUnits)

theorem classUnits_cons (c : Fin 4) (f : Frame) (l : List Frame) :
    classUnits c (f :: l) = (if f.cls = c then frameUnits f else 0) + classUnits c l := by
  by_cases h : f.cls = c
  · simp [classUnits, h, sumNat_cons]
  · simp [classUnits, h]

/-- The credit a frame takes as it leaves, where the port holds it. -/
theorem frameLeaves_credit {t : Nat} {f : Frame} {p : PortSt} (h : frameUnits f ≤ p.credit[f.cls]) (c : Fin 4) :
    (frameLeaves t f p).credit[c] + (if f.cls = c then frameUnits f else 0) = p.credit[c] := by
  change (vmod p.credit f.cls (· - frameUnits f))[c] + _ = _
  rw [getElem_vmod]
  by_cases hc : f.cls = c
  · subst hc
    rw [if_pos rfl, if_pos rfl]
    exact Nat.sub_add_cancel h
  · rw [if_neg hc, if_neg hc, Nat.add_zero]

/-- Frames leave a port in the order of their class, none lost and none twice, and each takes its credit (R345,
R346). -/
theorem drainPort_leaves (t n : Nat) (p : PortSt) : ∃ out, (drainPort t n p).sent = p.sent ++ out ∧ ∀ c : Fin 4,
    (out ++ (drainPort t n p).waiting).filter (fun f => f.cls == c) = p.waiting.filter (fun f => f.cls == c)
    ∧ (drainPort t n p).credit[c] + classUnits c out = p.credit[c] := by
  induction n generalizing p with
  | zero => exact ⟨[], (List.append_nil _).symm, fun c => ⟨rfl, rfl⟩⟩
  | succ n ih =>
    rw [drainPort]
    split
    · exact ⟨[], (List.append_nil _).symm, fun c => ⟨rfl, rfl⟩⟩
    · next f hpick =>
      obtain ⟨hfind, _, hunits⟩ := pickFrame_spec hpick
      obtain ⟨out, hsent, hclass⟩ := ih (frameLeaves t f { p with waiting := p.waiting.erase f })
      generalize drainPort t n _ = q at hsent hclass ⊢
      refine ⟨f :: out, hsent.trans (List.append_assoc ..), fun c => ⟨?_, ?_⟩⟩
      · have hwait : (out ++ q.waiting).filter (fun g => g.cls == c) =
            (p.waiting.erase f).filter (fun g => g.cls == c) := (hclass c).1
        calc (f :: (out ++ q.waiting)).filter (fun g => g.cls == c)
            = (f :: p.waiting.erase f).filter (fun g => g.cls == c) := by rw [List.filter_cons, List.filter_cons, hwait]
          _ = p.waiting.filter (fun g => g.cls == c) := filter_cons_erase_of_find? hfind c
      · have htaken : (frameLeaves t f { p with waiting := p.waiting.erase f }).credit[c]
            + (if f.cls = c then frameUnits f else 0) = p.credit[c] :=
          frameLeaves_credit (t := t) hunits c
        have hcredit := (hclass c).2
        rw [classUnits_cons]
        omega

end Sys2Proof.Machine
end

section
/-! The operations on one port of the link, and the rows of the ports (R338, R339, R342, Table 11-10). -/
namespace Sys2Proof.Machine

open Sys2Proof

/-! ### One port changed -/

section

variable (p : Fin 4) (f : PortSt → PortSt) (s : State)

theorem modLink_port : (modLink p f s).link.ports[p] = f s.link.ports[p] := (getElem_vmod ..).trans (if_pos rfl)

theorem modLink_otherPort (n : Fin 4) (h : n ≠ p) : (modLink p f s).link.ports[n] = s.link.ports[n] :=
  (getElem_vmod ..).trans (if_neg (Ne.symm h))

theorem modLink_eq : modLink p f s = { s with link := { s.link with ports := (modLink p f s).link.ports } } := rfl

/-- A change of one port leaves the other ports and the rest of the device alone. -/
theorem modLink_frame : (∀ n : Fin 4, n ≠ p → (modLink p f s).link.ports[n] = s.link.ports[n])
    ∧ modLink p f s = { s with link := { s.link with ports := (modLink p f s).link.ports } } :=
  ⟨modLink_otherPort p f s, rfl⟩

theorem modLink_modLink (g : PortSt → PortSt) : modLink p g (modLink p f s) = modLink p (fun x => g (f x)) s := by
  have hport := modLink_port p f s
  simp only [Fin.getElem_fin] at hport
  simp only [modLink, vmod, Fin.getElem_fin, Vector.getElem_set_self, Vector.set_set]

/-- A change that leaves the port as it is leaves the state as it is. -/
theorem modLink_self (h : f s.link.ports[p] = s.link.ports[p]) : modLink p f s = s := by
  have hports : vmod s.link.ports p f = s.link.ports := by
    rw [vmod, h]
    exact Vector.set_getElem_self _
  rw [modLink, hports]

theorem drainOn_modLink : drainOn p (modLink p f s) = modLink p (fun x => drained s.time.ns (f x)) s :=
  modLink_modLink ..

end

/-! ### A database that changed -/

section

variable (s : State)

theorem touchDb_ports : (touchDb s).link.ports = s.link.ports := by
  unfold touchDb
  split <;> rfl

theorem touchDb_eq : touchDb s =
    { s with link := { s.link with dirty := (touchDb s).link.dirty, settled := (touchDb s).link.settled } } := by
  unfold touchDb
  split <;> rfl

theorem touchDb_joined (h : s.link.joined = true) :
    (touchDb s).link.dirty = true ∧ (touchDb s).link.settled = false := by
  rw [touchDb, if_pos h]
  exact ⟨rfl, rfl⟩

/-- A changed port of a joined device unsettles its database, beside which the rest stays. -/
theorem touchDb_modLink (p : Fin 4) (f : PortSt → PortSt) : let t := touchDb (modLink p f s)
    t.link.ports[p] = f s.link.ports[p] ∧ (∀ n : Fin 4, n ≠ p → t.link.ports[n] = s.link.ports[n])
    ∧ (s.link.joined = true → t.link.dirty = true ∧ t.link.settled = false)
    ∧ t = { s with link := { s.link with
        ports := t.link.ports, dirty := t.link.dirty, settled := t.link.settled } } := by
  refine ⟨?_, fun n h => ?_, touchDb_joined (modLink p f s), ?_⟩
  · rw [touchDb_ports, modLink_port]
  · rw [touchDb_ports, modLink_otherPort p f s n h]
  · rw [touchDb_ports]
    exact touchDb_eq (modLink p f s)

theorem drainOn_touchDb (p : Fin 4) : drainOn p (touchDb s) = touchDb (drainOn p s) := by
  unfold touchDb
  simp only [show (drainOn p s).link.joined = s.link.joined from rfl]
  split <;> rfl

end

/-! ### HELLO on the ports one after another -/

/-- The links of `t` differ from those of `s` in the ports at most. -/
def OnlyPorts (s t : State) : Prop := t = { s with link := { s.link with ports := t.link.ports } }

theorem OnlyPorts.modLink {s t : State} (h : OnlyPorts s t) (n : Fin 4) (f : PortSt → PortSt) :
    OnlyPorts s (modLink n f t) := by
  unfold OnlyPorts
  rw [modLink_eq, h]

/-- Ports changed one after another, each once. -/
theorem foldl_modLink_port (f : Fin 4 → PortSt → PortSt) {l : List (Fin 4)} (hl : l.Nodup) (s : State) (n : Fin 4) :
    (l.foldl (fun t m => modLink m (f m) t) s).link.ports[n] =
      if n ∈ l then f n s.link.ports[n] else s.link.ports[n] := by
  induction l generalizing s with
  | nil => rfl
  | cons m l ih =>
    obtain ⟨hm, hl⟩ := List.nodup_cons.mp hl
    rw [List.foldl_cons, ih hl]
    by_cases h : n = m
    · subst h
      rw [if_neg hm, if_pos List.mem_cons_self, modLink_port]
    · have hrest : n ∈ m :: l ↔ n ∈ l := List.mem_cons.trans (or_iff_right h)
      rw [modLink_otherPort m (f m) s n h, if_congr hrest rfl rfl]

theorem foldl_modLink_onlyPorts (f : Fin 4 → PortSt → PortSt) (l : List (Fin 4)) (s : State) :
    OnlyPorts s (l.foldl (fun t m => modLink m (f m) t) s) :=
  List.foldlRecOn (motive := OnlyPorts s) l _ rfl (fun _ h m _ => h.modLink m (f m))

/-- A port with the HELLO of `s` sent on it, where it is TRAINED or UP without a loop (R339). -/
def helloPort (s : State) (n : Fin 4) (x : PortSt) : PortSt :=
  if (x.state = .trained ∨ x.state = .up) ∧ x.loop = false then
    queueFrame s.time.ns (hopFrame s 0 (helloPayload s n)) x else x

/-- One port's part of HELLO_SEND changes that port alone. -/
theorem helloStep_eq {s t : State} (h : OnlyPorts s t) (n : Fin 4) :
    (let p := t.link.ports[n]
      if (p.state == .trained || p.state == .up) && !p.loop then sendOn n (hopFrame t 0 (helloPayload t n)) t else t)
      = modLink n (helloPort s n) t := by
  have hframe : hopFrame t 0 (helloPayload t n) = hopFrame s 0 (helloPayload s n) := by rw [h]; rfl
  have htime : t.time = s.time := by rw [h]
  simp only [Bool.and_eq_true, Bool.or_eq_true, beq_iff_eq, Bool.not_eq_true', hframe]
  by_cases hsend : (t.link.ports[n].state = .trained ∨ t.link.ports[n].state = .up) ∧ t.link.ports[n].loop = false
  · rw [if_pos hsend]
    simp only [sendOn, modLink, vmod, helloPort, if_pos hsend, htime]
  · rw [if_neg hsend]
    exact (modLink_self n _ t (if_neg hsend)).symm

/-- HELLO_SEND changes each port as the state before it says (R339). -/
theorem execHelloSend_eq {s : State} (h : linkRuns s = true) :
    execHelloSend s = .next (allPorts.foldl (fun t n => modLink n (helloPort s n) t) s) := by
  have hfold : ∀ (l : List (Fin 4)) (t : State), OnlyPorts s t → l.foldl (fun t n =>
      let p := t.link.ports[n]
      if (p.state == .trained || p.state == .up) && !p.loop then sendOn n (hopFrame t 0 (helloPayload t n)) t else t) t
      = l.foldl (fun t n => modLink n (helloPort s n) t) t := by
    intro l
    induction l with
    | nil => exact fun _ _ => rfl
    | cons n l ih =>
      intro t ht
      rw [List.foldl_cons, List.foldl_cons, helloStep_eq ht, ih _ (ht.modLink n _)]
  rw [execHelloSend, if_pos h, hfold allPorts s rfl]

end Sys2Proof.Machine
end

section
/-! The rows of the ports (R338, R339, R342, R345, Table 11-10). -/
namespace Sys2Proof.Machine

open Sys2Proof

variable {p : Fin 4} {s : State}

/-! ### Training -/

/-- The rows of training ask for ports that run and for a port in TRAINING. -/
theorem trainingGuard_iff :
    (linkRuns s && s.link.ports[p].state == .training) = true ↔
      linkRuns s = true ∧ s.link.ports[p].state = .training := by
  rw [Bool.and_eq_true, beq_iff_eq]

theorem not_trainingGuard (h : linkRuns s = false ∨ s.link.ports[p].state ≠ .training) :
    ¬(linkRuns s && s.link.ports[p].state == .training) = true := by
  rw [trainingGuard_iff, not_and_or, Bool.not_eq_true]
  exact h

/-- A port that trained knows its neighbour, or its own loop (R338). -/
def trainedPort (uid : Long) (x : PortSt) : PortSt :=
  { x with state := .trained, nbrUid := uid, loop := uid == Config.uid, mismatch := false }

theorem execPortTrained_idle {uid : Long} (h : linkRuns s = false ∨ s.link.ports[p].state ≠ .training) :
    execPortTrained p uid s = .next s :=
  congrArg _ (if_neg (not_trainingGuard h))

theorem execPortTrained_trains {uid : Long} (hrun : linkRuns s = true) (h : s.link.ports[p].state = .training) :
    execPortTrained p uid s = .next (modLink p (fun x => drained s.time.ns (trainedPort uid x)) s) :=
  congrArg _ ((if_pos (trainingGuard_iff.mpr ⟨hrun, h⟩)).trans (drainOn_modLink p (trainedPort uid) s))

theorem execPortMismatch_idle (h : linkRuns s = false ∨ s.link.ports[p].state ≠ .training) :
    execPortMismatch p s = .next s :=
  congrArg _ (if_neg (not_trainingGuard h))

theorem execPortMismatch_raises (hrun : linkRuns s = true) (h : s.link.ports[p].state = .training) :
    execPortMismatch p s = .next (raise 8 Src.linkPortMismatch p.val
      (modLink p (fun x => { x with mismatch := true }) s)) :=
  congrArg _ (if_pos (trainingGuard_iff.mpr ⟨hrun, h⟩))

/-! ### HELLO -/

theorem execHelloSend_idle (h : linkRuns s = false) : execHelloSend s = .next s := by
  rw [execHelloSend, if_neg (Bool.not_eq_true _ ▸ h)]

theorem mem_allPorts (n : Fin 4) : n ∈ allPorts := by
  revert n
  decide

/-- HELLO is taken on a running port, TRAINED or UP, without a loop (R339). -/
theorem helloGuard_iff : (linkRuns s && (s.link.ports[p].state == .trained || s.link.ports[p].state == .up)
      && !s.link.ports[p].loop) = true ↔
    linkRuns s = true ∧ (s.link.ports[p].state = .trained ∨ s.link.ports[p].state = .up)
      ∧ s.link.ports[p].loop = false := by
  simp only [Bool.and_eq_true, Bool.or_eq_true, beq_iff_eq, Bool.not_eq_true', and_assoc]

theorem execHelloReceive_idle {h : Hello} (hidle : linkRuns s = false
      ∨ (s.link.ports[p].state ≠ .trained ∧ s.link.ports[p].state ≠ .up) ∨ s.link.ports[p].loop = true) :
    execHelloReceive p h s = .next s := by
  refine congrArg _ (if_neg ?_)
  rw [helloGuard_iff, not_and_or, not_and_or, not_or, Bool.not_eq_true, Bool.not_eq_false]
  exact hidle

/-- A port UP with the neighbour that a HELLO names (R339). -/
def greetedPort (h : Hello) (x : PortSt) : PortSt :=
  { x with state := .up, nbrUid := h.uid, nbrPort := h.port, nbrAddr := h.addr }

theorem greetedPort_drained {h : Hello} {t : Nat} {x y : PortSt} (hy : y = drained t (greetedPort h x)) :
    y.state = .up ∧ y.nbrUid = h.uid ∧ y.nbrPort = h.port ∧ y.nbrAddr = h.addr := by
  rw [hy]
  exact ⟨drainPort_state .., drainPort_nbrUid .., drainPort_nbrPort .., drainPort_nbrAddr ..⟩

/-- A port that was UP with the neighbour of the HELLO leaves the database alone, another changes it (R339, R349). -/
theorem execHelloReceive_takes {h : Hello} (hrun : linkRuns s = true)
    (hstate : s.link.ports[p].state = .trained ∨ s.link.ports[p].state = .up) (hloop : s.link.ports[p].loop = false) :
    execHelloReceive p h s = .next (
      if s.link.ports[p].state = .up ∧ s.link.ports[p].nbrUid = h.uid ∧ s.link.ports[p].nbrPort = h.port then
        modLink p (fun x => drained s.time.ns (greetedPort h x)) s
      else touchDb (modLink p (fun x => drained s.time.ns (greetedPort h x)) s)) := by
  refine congrArg Host.Outcome.next ((if_pos (helloGuard_iff.mpr ⟨hrun, hstate, hloop⟩)).trans ?_)
  simp only [Bool.and_eq_true, beq_iff_eq, and_assoc]
  rw [← drainOn_modLink, ← drainOn_touchDb]
  exact apply_ite (drainOn p) ..

/-! ### Link down -/

theorem execLinkDown_idle {errs : Nat} (hup : s.link.ports[p].state ≠ .up)
    (htrained : s.link.ports[p].state ≠ .trained) :
    execLinkDown p errs s = .next s := by
  refine congrArg _ (if_neg ?_)
  simp only [Bool.or_eq_true, beq_iff_eq]
  exact not_or.mpr ⟨hup, htrained⟩

/-- The retrains of a port within 60 s, the one now included (Table 11-10). -/
def recentRetrains (p : Fin 4) (s : State) : List Nat :=
  (s.sys.lpoMs :: s.link.ports[p].retrainMs).filter (fun t => decide (s.sys.lpoMs < t + 60000))

/-- A port whose link went down is back in training and counts the retrain (R339). -/
def downPort (errs : Nat) (ms : List Nat) (x : PortSt) : PortSt :=
  { toTraining x with
    codeErr := sat16 x.codeErr errs, retrains := sat16 x.retrains 1, retrainMs := if 8 ≤ ms.length then [] else ms }

/-- 8 retrains within 60 s raise LINK_UNSTABLE beside LINK_DOWN (Table 11-10). -/
theorem execLinkDown_down {errs : Nat} (h : s.link.ports[p].state = .up ∨ s.link.ports[p].state = .trained) :
    execLinkDown p errs s = .next (raiseAll ([(8, Src.linkLinkDown, p.val)]
        ++ (if 8 ≤ (recentRetrains p s).length then [(8, Src.linkLinkUnstable, p.val)] else []))
      (touchDb (modLink p (downPort errs (recentRetrains p s)) s))) := by
  have hup : (s.link.ports[p].state == .up || s.link.ports[p].state == .trained) = true := by
    rw [Bool.or_eq_true, beq_iff_eq, beq_iff_eq]
    exact h
  refine congrArg Host.Outcome.next ((if_pos hup).trans ?_)
  simp only [decide_eq_true_eq]
  rfl

/-! ### Discarded frames -/

/-- The CRC errors of a port within 1 s, the one now included (Table 11-10). -/
def recentCrcErrors (p : Fin 4) (s : State) : List Nat :=
  (s.sys.lpoMs :: s.link.ports[p].crcMs).filter (fun t => decide (s.sys.lpoMs < t + 1000))

theorem execFrameDiscard_other {why : DiscardCause} (h : why ≠ .crc) :
    execFrameDiscard p why s = .next (modLink p (fun x => { x with discards := sat16 x.discards 1 }) s) :=
  congrArg Host.Outcome.next (if_neg h)

/-- A CRC error noted on a port; the sixteenth within 1 s ends the list (Table 11-10). -/
def crcNoted (ms : List Nat) (x : PortSt) : PortSt :=
  { x with crcErr := sat16 x.crcErr 1, crcMs := if 16 ≤ ms.length then [] else ms }

/-- 16 CRC errors within 1 s raise CRC_ERRORS. -/
theorem execFrameDiscard_crc : execFrameDiscard p .crc s =
    let u := modLink p (fun x => crcNoted (recentCrcErrors p s) { x with discards := sat16 x.discards 1 }) s
    .next (if 16 ≤ (recentCrcErrors p s).length then raise 8 Src.linkCrcErrors p.val u else u) := by
  have hcount : ∀ t : State, t = modLink p (fun x => { x with discards := sat16 x.discards 1 }) s →
      execFrameDiscard p .crc s = .next (if 16 ≤ (recentCrcErrors p t).length then
        raise 8 Src.linkCrcErrors p.val (modLink p (crcNoted (recentCrcErrors p t)) t)
        else modLink p (crcNoted (recentCrcErrors p t)) t) := by
    rintro t rfl
    refine congrArg Host.Outcome.next ((if_pos rfl).trans ?_)
    simp only [decide_eq_true_eq]
    rfl
  have hms : recentCrcErrors p (modLink p (fun x => { x with discards := sat16 x.discards 1 }) s) =
      recentCrcErrors p s := by
    rw [recentCrcErrors, modLink_port]
    rfl
  rw [hcount _ rfl, hms, modLink_modLink]

/-! ### The rows as the statement of the ports takes them -/

/-- Frames that leave: order, credit, and what a port keeps (R345, R346). -/
theorem drainPort_row (t n : Nat) (p : PortSt) : let q := drainPort t n p
    (∀ c : Fin 4, (q.sent ++ q.waiting).filter (fun f => f.cls == c) =
        (p.sent ++ p.waiting).filter (fun f => f.cls == c))
    ∧ p.sent <+: q.sent
    ∧ (∀ c : Fin 4, q.credit[c] + classUnits c (q.sent.drop p.sent.length) = p.credit[c])
    ∧ q.state = p.state ∧ q.loop = p.loop ∧ q.nbrUid = p.nbrUid ∧ (p.loop = true → q = p) := by
  obtain ⟨out, hsent, hclass⟩ := drainPort_leaves t n p
  have hout : (drainPort t n p).sent.drop p.sent.length = out := by rw [hsent, List.drop_left]
  refine ⟨fun c => ?_, ⟨out, hsent.symm⟩, fun c => ?_, drainPort_state .., drainPort_loop .., drainPort_nbrUid ..,
    drainPort_of_loop t n p⟩
  · rw [hsent, List.append_assoc, List.filter_append, (hclass c).1, List.filter_append]
  · rw [hout]
    exact (hclass c).2

/-- PORT_TRAINED on a port in TRAINING (R338). -/
theorem portTrained_row (uid : Long) (hrun : linkRuns s = true) (h : s.link.ports[p].state = .training) :
    ∃ t, exec (.portTrained p uid) s = .next t ∧ t.link.ports[p].state = .trained ∧ t.link.ports[p].nbrUid = uid
      ∧ t.link.ports[p].loop = (uid == Config.uid) ∧ t.link.ports[p].mismatch = false
      ∧ (∀ n : Fin 4, n ≠ p → t.link.ports[n] = s.link.ports[n])
      ∧ t = { s with link := { s.link with ports := t.link.ports } } := by
  refine ⟨_, execPortTrained_trains hrun h, ?_, ?_, ?_, ?_, modLink_frame ..⟩
  all_goals rw [modLink_port]
  · exact drainPort_state ..
  · exact drainPort_nbrUid ..
  · exact drainPort_loop ..
  · exact drainPort_mismatch ..

/-- PORT_MISMATCH on a port in TRAINING (R338). -/
theorem portMismatch_row (hrun : linkRuns s = true) (h : s.link.ports[p].state = .training) :
    ∃ u, exec (.portMismatch p) s = .next (raise 8 Src.linkPortMismatch p.val u) ∧ u.link.ports[p].mismatch = true
      ∧ u.link.ports[p].state = .training ∧ (∀ n : Fin 4, n ≠ p → u.link.ports[n] = s.link.ports[n])
      ∧ u = { s with link := { s.link with ports := u.link.ports } } := by
  refine ⟨_, execPortMismatch_raises hrun h, ?_, ?_, modLink_frame ..⟩
  all_goals rw [modLink_port]
  exact h

/-- HELLO_RECEIVE on a TRAINED or UP port without a loop (R339). -/
theorem helloReceive_row (h : Hello) (hrun : linkRuns s = true)
    (hstate : s.link.ports[p].state = .trained ∨ s.link.ports[p].state = .up) (hloop : s.link.ports[p].loop = false) :
    let x := s.link.ports[p]
    ∃ t, exec (.helloReceive p h) s = .next t
      ∧ t.link.ports[p].state = .up ∧ t.link.ports[p].nbrUid = h.uid ∧ t.link.ports[p].nbrPort = h.port
      ∧ t.link.ports[p].nbrAddr = h.addr
      ∧ (∀ n : Fin 4, n ≠ p → t.link.ports[n] = s.link.ports[n])
      ∧ (s.link.joined = true → (x.state ≠ .up ∨ x.nbrUid ≠ h.uid ∨ x.nbrPort ≠ h.port) →
          t.link.dirty = true ∧ t.link.settled = false)
      ∧ (x.state = .up → x.nbrUid = h.uid → x.nbrPort = h.port → t.link.settled = s.link.settled)
      ∧ t = { s with link := { s.link with
          ports := t.link.ports, dirty := t.link.dirty, settled := t.link.settled } } := by
  intro x
  have hrow := execHelloReceive_takes (h := h) hrun hstate hloop
  by_cases hsame : x.state = .up ∧ x.nbrUid = h.uid ∧ x.nbrPort = h.port
  · obtain ⟨hup, huid, hport, haddr⟩ :=
      greetedPort_drained (modLink_port p (fun x => drained s.time.ns (greetedPort h x)) s)
    exact ⟨_, hrow.trans (congrArg _ (if_pos hsame)), hup, huid, hport, haddr, modLink_otherPort _ _ _,
      fun _ hnew => absurd hsame (by rwa [not_and_or, not_and_or]), fun _ _ _ => rfl, rfl⟩
  · obtain ⟨hgreeted, hothers, hjoined, hrest⟩ := touchDb_modLink s p (fun x => drained s.time.ns (greetedPort h x))
    obtain ⟨hup, huid, hport, haddr⟩ := greetedPort_drained hgreeted
    exact ⟨_, hrow.trans (congrArg _ (if_neg hsame)), hup, huid, hport, haddr, hothers, fun hj _ => hjoined hj,
      fun hup huid hport => absurd ⟨hup, huid, hport⟩ hsame, hrest⟩

end Sys2Proof.Machine
end

section

open Sys2Proof Sys2Proof.Machine

/-- Settles O56: frames leave a port in the order of their class for its credit, and each row of a port changes that
port alone, as its case says. -/
theorem linkPorts : Obligations.LinkPorts := by
  refine ⟨drainPort_row,
    fun p uid s => ⟨fun h => ⟨execPortTrained_idle h, execPortMismatch_idle h⟩,
      fun hrun h => ⟨portTrained_row uid hrun h, portMismatch_row hrun h⟩⟩,
    fun s => ⟨execHelloSend_idle, fun hrun => ⟨_, execHelloSend_eq hrun, fun n => ?_, foldl_modLink_onlyPorts ..⟩⟩,
    fun p h s => ⟨execHelloReceive_idle, helloReceive_row h⟩,
    fun p errs s => ⟨execLinkDown_idle, fun h => ?_⟩,
    fun p c n s => ⟨_, congrArg Host.Outcome.next (drainOn_modLink ..), modLink_port .., modLink_frame ..⟩,
    fun p why s => ⟨execFrameDiscard_other, ?_⟩⟩
  · exact (foldl_modLink_port (helloPort s) (by decide) s n).trans (if_pos (mem_allPorts n))
  · obtain ⟨hport, hothers, hjoined, hrest⟩ := touchDb_modLink s p (downPort errs (recentRetrains p s))
    exact ⟨_, execLinkDown_down h, hport, hothers, fun hj => (hjoined hj).2, hrest⟩
  · rintro rfl
    exact execFrameDiscard_crc

end

section
/-! What a routed frame, and a change of one stream, leave alone (R353, R379). -/
namespace Sys2Proof.Machine

open Sys2Proof

/-! ### A frame sent on its route -/

section

variable (f : Frame) (s : State)

/-- A routed frame changes the ports, or counts as NO_ROUTE (R353). -/
theorem sendRouted_eq : sendRouted f s =
    { s with link := { s.link with
      ports := (sendRouted f s).link.ports, noRoute := (sendRouted f s).link.noRoute } } := by
  unfold sendRouted
  split <;> rfl

@[simp] theorem sendRouted_alarmResent : (sendRouted f s).link.alarmResent = s.link.alarmResent := by rw [sendRouted_eq]
@[simp] theorem sendRouted_reserved : (sendRouted f s).link.reserved = s.link.reserved := by rw [sendRouted_eq]
@[simp] theorem ownAddr_sendRouted : ownAddr (sendRouted f s) = ownAddr s := by rw [sendRouted_eq]; rfl

end

/-- Frames of this device sent one after another are the frames it would make before the first of them. -/
theorem foldl_sendRouted_ownFrame {α : Type} (dest : Byte) (cls : Fin 4) (type : Nat) (pay : α → List Byte) (l : List α)
    {s t : State} (h : ownAddr t = ownAddr s) :
    l.foldl (fun t a => sendRouted (ownFrame t dest cls type (pay a)) t) t =
      (l.map (fun a => ownFrame s dest cls type (pay a))).foldl (fun t f => sendRouted f t) t := by
  induction l generalizing t with
  | nil => rfl
  | cons a l ih =>
    have hframe : ownFrame t dest cls type (pay a) = ownFrame s dest cls type (pay a) := by rw [ownFrame, h]; rfl
    rw [List.foldl_cons, List.map_cons, List.foldl_cons, hframe, ih ((ownAddr_sendRouted ..).trans h)]

/-! ### One stream changed -/

section

variable (k : Fin 16) (f : StreamSt → StreamSt) (s : State)

theorem modStream_stream : (modStream k f s).res.streams[k] = f s.res.streams[k] := (getElem_vmod ..).trans (if_pos rfl)

theorem modStream_otherStream (j : Fin 16) (h : j ≠ k) : (modStream k f s).res.streams[j] = s.res.streams[j] :=
  (getElem_vmod ..).trans (if_neg (Ne.symm h))

/-- A change of one stream leaves the other streams and the rest of the device alone. -/
theorem modStream_frame : (∀ j : Fin 16, j ≠ k → (modStream k f s).res.streams[j] = s.res.streams[j])
    ∧ modStream k f s = { s with res := { s.res with streams := (modStream k f s).res.streams } } :=
  ⟨modStream_otherStream k f s, rfl⟩

end

/-! ### A share that may return to the pool -/

section

variable (x : StreamSt)

@[simp] theorem freeShare_admitted : (freeShare x).admitted = x.admitted := by unfold freeShare; split <;> rfl
@[simp] theorem freeShare_rx : (freeShare x).rx = x.rx := by unfold freeShare; split <;> rfl
@[simp] theorem freeShare_recs : (freeShare x).recs = x.recs := by unfold freeShare; split <;> rfl
@[simp] theorem freeShare_segBase : (freeShare x).segBase = x.segBase := by unfold freeShare; split <;> rfl
@[simp] theorem freeShare_segsOut : (freeShare x).segsOut = x.segsOut := by unfold freeShare; split <;> rfl
@[simp] theorem freeShare_ackedBytes : (freeShare x).ackedBytes = x.ackedBytes := by unfold freeShare; split <;> rfl
@[simp] theorem freeShare_rxNext : (freeShare x).rxNext = x.rxNext := by unfold freeShare; split <;> rfl

end

end Sys2Proof.Machine
end

section
/-! The segments of a fabric stream at its origin: sent, sent again and acknowledged (R357). -/
namespace Sys2Proof.Machine

open Sys2Proof

variable {k : Fin 16} {s : State}

/-! ### The next segment -/

/-- The bytes of the next segment of a stream. -/
def nextSegment (x : StreamSt) : List Byte :=
  ((x.recs.flatMap (·.bytes)).drop (x.ackedBytes + sumNat x.segsOut)).take 252

/-- A stream sends a segment: an admitted fabric stream of this device with bytes left, less than 1,024 segments out. -/
def SegmentDue (k : Fin 16) (s : State) : Prop :=
  linkRuns s = true ∧ (streamDef s.shadow k).drain = 3 ∧ s.res.streams[k].admitted = true ∧ s.res.streams[k].rx = none
    ∧ nextSegment s.res.streams[k] ≠ [] ∧ s.res.streams[k].segsOut.length < 1024

theorem nextSegment_eq (x : StreamSt) : ((streamBytes x).drop (sumNat x.segsOut)).take 252 = nextSegment x := by
  rw [streamBytes, List.drop_drop, nextSegment]

theorem segmentGuard_iff : ¬(!linkRuns s || (streamDef s.shadow k).drain != 3 || !(s.res.streams[k] : StreamSt).admitted
      || (s.res.streams[k] : StreamSt).rx.isSome || (nextSegment s.res.streams[k]).isEmpty
      || decide (1024 ≤ (s.res.streams[k] : StreamSt).segsOut.length)) = true ↔ SegmentDue k s := by
  simp only [SegmentDue, Bool.or_eq_true, not_or, Bool.not_eq_true', Bool.not_eq_false, bne_iff_ne, ne_eq, not_not,
    Option.isSome_iff_ne_none, List.isEmpty_iff, decide_eq_true_eq, Nat.not_le, and_assoc]

theorem execStreamSegmentSend_idle (h : ¬SegmentDue k s) : execStreamSegmentSend k s = .next s := by
  rw [← segmentGuard_iff, not_not, ← nextSegment_eq] at h
  exact congrArg Host.Outcome.next (if_pos h)

theorem execStreamSegmentSend_sends (h : SegmentDue k s) :
    let x : StreamSt := s.res.streams[k]
    execStreamSegmentSend k s = .next (sendRouted (streamFrame s (BitVec.ofNat 8 (streamDef s.shadow k).dest) k
        (x.segBase + BitVec.ofNat 16 x.segsOut.length) (nextSegment x))
      (modStream k (fun x => { x with segsOut := x.segsOut ++ [(nextSegment s.res.streams[k]).length] }) s)) := by
  rw [← segmentGuard_iff] at h
  simp only [← nextSegment_eq] at h ⊢
  exact congrArg Host.Outcome.next (if_neg h)

/-! ### Segments sent again -/

/-- The frames of unacknowledged segments of the given lengths, from segment `q` on. -/
def resendFrames (s : State) (dest : Byte) (k : Nat) : Half → List Byte → List Nat → List Frame
  | _, _, [] => []
  | q, b, n :: l => streamFrame s dest k q (b.take n) :: resendFrames s dest k (q + 1) (b.drop n) l

section

variable (dest : Byte) (k : Nat) (q : Half) (b : List Byte) (l : List Nat)

theorem resendSegs_eq {t : State} (h : ownAddr t = ownAddr s) : resendSegs dest k q b l t =
    (resendFrames s dest k q b l).foldl (fun t f => sendRouted f t) t := by
  induction l generalizing q b t with
  | nil => rfl
  | cons n l ih =>
    have hframe : streamFrame t dest k q (b.take n) = streamFrame s dest k q (b.take n) := by
      rw [streamFrame, ownFrame, h]
      rfl
    rw [resendSegs, resendFrames, List.foldl_cons, hframe, ih _ _ ((ownAddr_sendRouted ..).trans h)]

theorem resendFrames_length : (resendFrames s dest k q b l).length = l.length := by
  induction l generalizing q b with
  | nil => rfl
  | cons n l ih => rw [resendFrames, List.length_cons, List.length_cons, ih]

/-- The frames carry the bytes one after another. -/
theorem resendFrames_bytes : (resendFrames s dest k q b l).flatMap (fun f => f.payload.drop 4) = b.take (sumNat l) := by
  induction l generalizing q b with
  | nil => rfl
  | cons n l ih =>
    rw [resendFrames, List.flatMap_cons, ih, sumNat_cons, List.take_add]
    rfl

/-- The frame of the i-th segment has its number. -/
theorem resendFrames_head (i : Nat) {f : Frame} (h : (resendFrames s dest k q b l)[i]? = some f) :
    f.type = 0x14 ∧ f.payload.take 4 = [BitVec.ofNat 8 k, 0] ++ le 2 (q + BitVec.ofNat 16 i).toNat := by
  induction l generalizing q b i with
  | nil => cases h
  | cons n l ih =>
    cases i with
    | zero =>
      obtain rfl := Option.some.inj h
      rw [BitVec.add_zero]
      exact ⟨rfl, rfl⟩
    | succ i =>
      rw [BitVec.ofNat_add, BitVec.add_comm (BitVec.ofNat 16 i), ← BitVec.add_assoc]
      exact ih _ _ i h

end

theorem execStreamResendTimeout_idle
    (h : linkRuns s = false ∨ (streamDef s.shadow k).drain ≠ 3 ∨ s.res.streams[k].rx ≠ none) :
    execStreamResendTimeout k s = .next s := by
  refine congrArg Host.Outcome.next (if_pos ?_)
  simpa only [Bool.or_eq_true, Bool.not_eq_true', bne_iff_ne, ne_eq, Option.isSome_iff_ne_none, or_assoc] using h

theorem execStreamResendTimeout_resends (hrun : linkRuns s = true) (hdrain : (streamDef s.shadow k).drain = 3)
    (hrx : s.res.streams[k].rx = none) : execStreamResendTimeout k s = .next ((resendFrames s
      (BitVec.ofNat 8 (streamDef s.shadow k).dest) k s.res.streams[k].segBase (streamBytes s.res.streams[k])
      s.res.streams[k].segsOut).foldl (fun t f => sendRouted f t) s) := by
  refine congrArg Host.Outcome.next ((if_neg ?_).trans (resendSegs_eq _ _ _ _ _ rfl))
  simp only [hrun, hdrain, hrx, Bool.not_true, bne_self_eq_false, Option.isSome_none, Bool.or_self, Bool.false_eq_true,
    not_false_eq_true]

/-! ### Acknowledged bytes -/

/-- Records acknowledged whole go, and what is left is what follows the acknowledged bytes. -/
theorem dropAcked_spec (a : Nat) (l : List Rec) :
    ((dropAcked a l).1.flatMap (·.bytes)).drop (dropAcked a l).2 = (l.flatMap (·.bytes)).drop a
    ∧ (dropAcked a l).1 <:+ l := by
  induction l generalizing a with
  | nil => exact ⟨by simp [dropAcked], List.suffix_rfl⟩
  | cons r l ih =>
    rw [dropAcked]
    by_cases hwhole : r.bytes.length ≤ a
    · obtain ⟨hbytes, hsuffix⟩ := ih (a - r.bytes.length)
      rw [if_pos hwhole, hbytes, List.flatMap_cons, List.drop_append, List.drop_eq_nil_of_le hwhole, List.nil_append]
      exact ⟨rfl, hsuffix.trans (List.suffix_cons r l)⟩
    · rw [if_neg hwhole]
      exact ⟨rfl, List.suffix_rfl⟩

/-- Segments that an acknowledgement of segment `q` covers. -/
def ackedSegs (x : StreamSt) (q : Half) : Nat := (q - x.segBase).toNat + 1

/-- A stream with its first `n` segments acknowledged. -/
def ackStream (n : Nat) (x : StreamSt) : StreamSt :=
  let a := dropAcked (x.ackedBytes + sumNat (x.segsOut.take n)) x.recs
  freeShare { x with
    segBase := x.segBase + BitVec.ofNat 16 n, segsOut := x.segsOut.drop n, recs := a.1, ackedBytes := a.2 }

theorem streamAckReceive_early {p : Fin 4} {src : Byte} {q : Half}
    (h : s.res.streams[k].segsOut.length < ackedSegs s.res.streams[k] q) :
    exec (.streamAckReceive p src k q) s = .next s :=
  congrArg Host.Outcome.next (if_pos h)

theorem streamAckReceive_acks {p : Fin 4} {src : Byte} {q : Half}
    (h : ackedSegs s.res.streams[k] q ≤ s.res.streams[k].segsOut.length) : exec (.streamAckReceive p src k q) s =
      .next (modStream k (ackStream (ackedSegs s.res.streams[k] q)) s) :=
  congrArg Host.Outcome.next (if_neg (Nat.not_lt.mpr h))

/-- The segment after the acknowledged one is the first unacknowledged. -/
theorem segBase_acked (x : StreamSt) (q : Half) : x.segBase + BitVec.ofNat 16 (ackedSegs x q) = q + 1 := by
  rw [ackedSegs, BitVec.ofNat_add, BitVec.ofNat_toNat, BitVec.setWidth_eq, ← BitVec.add_assoc,
    BitVec.add_comm x.segBase, BitVec.sub_add_cancel]
  rfl

/-- An acknowledgement releases exactly the bytes of its segments. -/
theorem ackStream_spec (x : StreamSt) (q : Half) : let n := ackedSegs x q
    (ackStream n x).segBase = q + 1 ∧ (ackStream n x).segsOut = x.segsOut.drop n
    ∧ ((ackStream n x).recs.flatMap (·.bytes)).drop (ackStream n x).ackedBytes
        = (x.recs.flatMap (·.bytes)).drop (x.ackedBytes + sumNat (x.segsOut.take n))
    ∧ (ackStream n x).recs <:+ x.recs ∧ (ackStream n x).rxNext = x.rxNext := by
  intro n
  obtain ⟨hbytes, hsuffix⟩ := dropAcked_spec (x.ackedBytes + sumNat (x.segsOut.take n)) x.recs
  refine ⟨(freeShare_segBase _).trans (segBase_acked x q), freeShare_segsOut _, ?_, ?_, freeShare_rxNext _⟩
  · rw [ackStream, freeShare_recs, freeShare_ackedBytes]
    exact hbytes
  · rw [ackStream, freeShare_recs]
    exact hsuffix

end Sys2Proof.Machine
end

section
/-! The segments of a fabric stream at its destination (R357, R384, R385), and late drains (R383). -/
namespace Sys2Proof.Machine

open Sys2Proof

/-! ### What a received segment leaves alone -/

/-- `t` differs from `s` in the stream `k`, the reservoir's bytes and order, the ports and NO_ROUTE at most. -/
def OnlyStream (k : Fin 16) (s t : State) : Prop :=
  (∀ j : Fin 16, j ≠ k → t.res.streams[j] = s.res.streams[j])
  ∧ t = { s with
      res := { s.res with streams := t.res.streams, mem := t.res.mem, order := t.res.order }
      link := { s.link with ports := t.link.ports, noRoute := t.link.noRoute } }

section

variable {k : Fin 16} {s t u : State}

theorem OnlyStream.refl (k : Fin 16) (s : State) : OnlyStream k s s := ⟨fun _ _ => rfl, rfl⟩

theorem OnlyStream.trans (h : OnlyStream k s t) (h' : OnlyStream k t u) : OnlyStream k s u := by
  obtain ⟨hj, ht⟩ := h
  obtain ⟨hj', hu⟩ := h'
  refine ⟨fun j hne => (hj' j hne).trans (hj j hne), ?_⟩
  rw [hu, ht]

theorem onlyStream_modStream (k : Fin 16) (f : StreamSt → StreamSt) (s : State) : OnlyStream k s (modStream k f s) :=
  ⟨modStream_otherStream k f s, rfl⟩

theorem onlyStream_sendRouted (k : Fin 16) (f : Frame) (s : State) : OnlyStream k s (sendRouted f s) :=
  ⟨fun j _ => by rw [sendRouted_res], by rw [sendRouted_eq]⟩

theorem OnlyStream.ownAddr (h : OnlyStream k s t) : ownAddr t = ownAddr s := by
  rw [h.2]
  rfl

theorem OnlyStream.time (h : OnlyStream k s t) : t.time = s.time := by rw [h.2]

end

/-! ### Records taken from received bytes -/

/-- Length of the record at the front of received bytes (R372). -/
def frontLength (b : List Byte) : Nat := 12 + pad4 (u16 b 2)

/-- The record at the front of the received bytes, STREAM rewritten (R385). -/
def frontRecord (k : Fin 16) (s : State) : Rec :=
  let x : StreamSt := s.res.streams[k]
  ⟨s.res.order, w32 x.rxBytes 4, (x.rxBytes.take (frontLength x.rxBytes)).set 1 (BitVec.ofNat 8 k.val), false, x.wp⟩

/-- A stream that took the record `r` from the front of its received bytes. -/
def frontTaken (r : Rec) (x : StreamSt) : StreamSt :=
  { x with
    recs := x.recs ++ [r], seq := r.seq + 1
    wp := if x.pages * 4096 = 0 then 0 else (x.wp + frontLength x.rxBytes) % (x.pages * 4096)
    rxBytes := x.rxBytes.drop (frontLength x.rxBytes) }

/-- The record at the front of the received bytes written into the receive share. -/
def takeFront (k : Fin 16) (s : State) : State :=
  let x : StreamSt := s.res.streams[k]
  { s with res := { s.res with
    mem := placeBytes x.base (x.pages * 4096) x.wp (frontRecord k s).bytes s.res.mem, order := s.res.order + 1
    streams := vmod s.res.streams k (frontTaken (frontRecord k s)) } }

section

variable (k : Fin 16) (n : Nat) (s : State)

theorem takeRecords_succ : takeRecords k (n + 1) s =
    if (s.res.streams[k] : StreamSt).rxBytes.length < 12
      ∨ (s.res.streams[k] : StreamSt).rxBytes.length < frontLength (s.res.streams[k] : StreamSt).rxBytes then s
    else takeRecords k n (takeFront k s) := rfl

theorem takeRecords_part (h : (s.res.streams[k] : StreamSt).rxBytes.length < 12) : takeRecords k n s = s := by
  cases n with
  | zero => rfl
  | succ n => rw [takeRecords_succ, if_pos (.inl h)]

theorem takeFront_stream : (takeFront k s).res.streams[k] = frontTaken (frontRecord k s) s.res.streams[k] :=
  (getElem_vmod ..).trans (if_pos rfl)

theorem onlyStream_takeFront : OnlyStream k s (takeFront k s) :=
  ⟨fun _ h => (getElem_vmod ..).trans (if_neg (Ne.symm h)), rfl⟩

theorem onlyStream_takeRecords : OnlyStream k s (takeRecords k n s) := by
  induction n generalizing s with
  | zero => exact .refl k s
  | succ n ih =>
    rw [takeRecords_succ]
    split
    · exact .refl k s
    · exact (onlyStream_takeFront k s).trans (ih _)

end

/-- A record taken from received bytes names the receive stream and keeps its SEQ. -/
def Renamed (k : Fin 16) (r : Rec) : Prop := r.bytes[1]? = some (BitVec.ofNat 8 k.val) ∧ r.seq = w32 r.bytes 4

/-- Bytes 4 to 7 of a record's front are left by a change of byte 1. -/
theorem w32_take_set {b : List Byte} {n : Nat} (h : 8 ≤ n) (x : Byte) : w32 ((b.take n).set 1 x) 4 = w32 b 4 := by
  rw [w32, w32, u32, u32, uN, uN, List.drop_set_of_lt (by decide), List.drop_take, List.take_take,
    Nat.min_eq_left (by omega)]

section

variable {k : Fin 16} {s : State}

theorem frontRecord_length (h : frontLength s.res.streams[k].rxBytes ≤ s.res.streams[k].rxBytes.length) :
    (frontRecord k s).bytes.length = frontLength s.res.streams[k].rxBytes := by
  rw [frontRecord, List.length_set, List.length_take, Nat.min_eq_left h]

theorem frontRecord_renamed (h : frontLength s.res.streams[k].rxBytes ≤ s.res.streams[k].rxBytes.length) :
    Renamed k (frontRecord k s) := by
  have hlen := frontRecord_length h
  have hlong : 12 ≤ frontLength s.res.streams[k].rxBytes := Nat.le_add_right 12 _
  rw [frontRecord, List.length_set] at hlen
  refine ⟨List.getElem?_set_self (by omega), (w32_take_set (by omega) _).symm⟩

/-- Received bytes become whole records in order; what a transport counts stays (R385). -/
theorem takeRecords_spec (k : Fin 16) (n : Nat) (s : State) :
    let x : StreamSt := s.res.streams[k]
    let y : StreamSt := (takeRecords k n s).res.streams[k]
    y.rxNext = x.rxNext ∧ y.rxCount = x.rxCount ∧ y.rxAck = x.rxAck
    ∧ ∃ rs, y.recs = x.recs ++ rs ∧ sumNat (rs.map (fun r => r.bytes.length)) + y.rxBytes.length = x.rxBytes.length
      ∧ ∀ r ∈ rs, Renamed k r := by
  induction n generalizing s with
  | zero => exact ⟨rfl, rfl, rfl, [], (List.append_nil _).symm, Nat.zero_add _, fun _ h => nomatch h⟩
  | succ n ih =>
    rw [takeRecords_succ]
    split
    · exact ⟨rfl, rfl, rfl, [], (List.append_nil _).symm, Nat.zero_add _, fun _ h => nomatch h⟩
    · next hpart =>
      have hwhole : frontLength s.res.streams[k].rxBytes ≤ s.res.streams[k].rxBytes.length := by omega
      obtain ⟨hnext, hcount, hack, rs, hrecs, hlen, hrenamed⟩ := ih (takeFront k s)
      rw [takeFront_stream] at hnext hcount hack hrecs hlen
      refine ⟨hnext, hcount, hack, frontRecord k s :: rs, hrecs.trans (List.append_assoc ..), ?_, ?_⟩
      · rw [frontTaken, List.length_drop] at hlen
        rw [List.map_cons, sumNat_cons, frontRecord_length hwhole]
        omega
      · exact List.forall_mem_cons.mpr ⟨frontRecord_renamed hwhole, hrenamed⟩

/-- A single whole record in the received bytes is taken alone, and no byte is left. -/
theorem takeRecords_single (n : Nat) (h : 12 ≤ s.res.streams[k].rxBytes.length)
    (hlen : s.res.streams[k].rxBytes.length = frontLength s.res.streams[k].rxBytes) :
    takeRecords k (n + 1) s = takeFront k s ∧ (takeFront k s).res.streams[k].rxBytes = []
    ∧ (frontRecord k s).bytes = s.res.streams[k].rxBytes.set 1 (BitVec.ofNat 8 k.val) := by
  have hempty : (takeFront k s).res.streams[k].rxBytes = [] := by
    rw [takeFront_stream, frontTaken, ← hlen, List.drop_length]
  refine ⟨?_, hempty, ?_⟩
  · rw [takeRecords_succ, if_neg (by omega), takeRecords_part _ _ _ (by rw [hempty]; decide)]
  · rw [frontRecord, ← hlen, List.take_length]

end

/-! ### The acknowledgement of a segment -/

section

variable (k : Fin 16) (src : Byte) (num : Nat) (s : State)

/-- An acknowledgement is due: 32 segments since the last, or 1 ms (R357). -/
def AckDue (k : Fin 16) (s : State) : Prop :=
  32 ≤ s.res.streams[k].rxCount ∨ s.res.streams[k].rxAck + 1000000 ≤ s.time.ns

/-- The acknowledged stream counts its segments anew. -/
def ackCounted (k : Fin 16) (s : State) : State := modStream k (fun x => { x with rxCount := 0, rxAck := s.time.ns }) s

theorem streamAck_due (h : AckDue k s) : streamAck k src num s =
    sendRouted (ownFrame s src 2 0x15 ([BitVec.ofNat 8 num, 0] ++ le 2 (s.res.streams[k].rxNext - 1).toNat))
      (ackCounted k s) := if_pos h

theorem streamAck_not_due (h : ¬AckDue k s) : streamAck k src num s = s := if_neg h

theorem onlyStream_streamAck : OnlyStream k s (streamAck k src num s) := by
  by_cases h : AckDue k s
  · rw [streamAck_due _ _ _ _ h]
    exact (onlyStream_modStream ..).trans (onlyStream_sendRouted ..)
  · rw [streamAck_not_due _ _ _ _ h]
    exact .refl k s

/-- An acknowledgement leaves the records, the bytes received and the next segment. -/
theorem streamAck_stream : (streamAck k src num s).res.mem = s.res.mem
    ∧ (streamAck k src num s).res.streams[k].recs = s.res.streams[k].recs
    ∧ (streamAck k src num s).res.streams[k].rxNext = s.res.streams[k].rxNext
    ∧ (streamAck k src num s).res.streams[k].rxBytes = s.res.streams[k].rxBytes := by
  by_cases h : AckDue k s
  · rw [streamAck_due _ _ _ _ h, sendRouted_res, ackCounted, modStream_stream]
    exact ⟨rfl, rfl, rfl, rfl⟩
  · rw [streamAck_not_due _ _ _ _ h]
    exact ⟨rfl, rfl, rfl, rfl⟩

end

end Sys2Proof.Machine
end

section
/-! A segment at its destination, and a late drain, case by case (R357, R383 to R385). -/
namespace Sys2Proof.Machine

open Sys2Proof

variable {k : Fin 16} {s : State} {p : Fin 4} {src : Byte} {g : StreamSeg}

/-! ### A segment that is taken -/

/-- A segment is taken in order, where the receive share has room for it (R357, R384). -/
def TakesSegment (k : Fin 16) (g : StreamSeg) (s : State) : Prop :=
  g.seq = s.res.streams[k].rxNext ∧ s.res.streams[k].rxBytes.length + g.bytes.length ≤ freeSpace s.res.streams[k]

/-- A stream that counted a segment and holds its bytes. -/
def segmentAdded (g : StreamSeg) (x : StreamSt) : StreamSt :=
  { x with rxNext := x.rxNext + 1, rxCount := x.rxCount + 1, rxBytes := x.rxBytes ++ g.bytes }

/-- The whole records that a segment completes are taken. -/
def segmentTaken (k : Fin 16) (g : StreamSeg) (s : State) : State :=
  takeRecords k (g.bytes.length + 1) (modStream k (segmentAdded g) s)

theorem onlyStream_segmentTaken (k : Fin 16) (g : StreamSeg) (s : State) : OnlyStream k s (segmentTaken k g s) :=
  (onlyStream_modStream ..).trans (onlyStream_takeRecords ..)

/-- A segment counts once, and its bytes become records or wait for the rest of one; a segment that is a record is
that record (R384, R385). -/
theorem segmentTaken_spec (k : Fin 16) (g : StreamSeg) (s : State) :
    let x : StreamSt := s.res.streams[k]
    let y : StreamSt := (segmentTaken k g s).res.streams[k]
    y.rxNext = x.rxNext + 1 ∧ y.rxCount = x.rxCount + 1 ∧ y.rxAck = x.rxAck
    ∧ ∃ rs, y.recs = x.recs ++ rs
      ∧ sumNat (rs.map (fun r => r.bytes.length)) + y.rxBytes.length = x.rxBytes.length + g.bytes.length
      ∧ (∀ r ∈ rs, Renamed k r)
      ∧ (x.rxBytes = [] → 12 ≤ g.bytes.length → g.bytes.length = frontLength g.bytes →
          rs.map (·.bytes) = [g.bytes.set 1 (BitVec.ofNat 8 k.val)] ∧ y.rxBytes = []) := by
  intro x y
  have hadded : (modStream k (segmentAdded g) s).res.streams[k] = segmentAdded g x := modStream_stream ..
  obtain ⟨hnext, hcount, hack, rs, hrecs, hlen, hrenamed⟩ :=
    takeRecords_spec k (g.bytes.length + 1) (modStream k (segmentAdded g) s)
  rw [hadded] at hnext hcount hack hrecs hlen
  refine ⟨hnext, hcount, hack, rs, hrecs, hlen.trans List.length_append, hrenamed, fun hfirst hlong hone => ?_⟩
  have hbytes : (modStream k (segmentAdded g) s).res.streams[k].rxBytes = g.bytes := by
    rw [hadded, segmentAdded, hfirst, List.nil_append]
  obtain ⟨htaken, hempty, hrecord⟩ := takeRecords_single (k := k) (s := modStream k (segmentAdded g) s) g.bytes.length
    (by rw [hbytes]; exact hlong) (by rw [hbytes]; exact hone)
  have htaken : segmentTaken k g s = takeFront k (modStream k (segmentAdded g) s) := htaken
  have hrs : rs = [frontRecord k (modStream k (segmentAdded g) s)] := by
    refine List.append_cancel_left (as := x.recs) (hrecs.symm.trans ?_)
    change (segmentTaken k g s).res.streams[k].recs = _
    rw [htaken, takeFront_stream, hadded]
    rfl
  refine ⟨?_, ?_⟩
  · rw [hrs, List.map_singleton, hrecord, hbytes]
  · change (segmentTaken k g s).res.streams[k].rxBytes = _
    rw [htaken, hempty]

/-! ### STREAM_FRAME_RECEIVE -/

/-- The receive stream of a segment (R385). -/
def receiveStream (src : Byte) (g : StreamSeg) (s : State) : Option (Fin 16) :=
  allStreams.find? (fun k => (s.res.streams[k] : StreamSt).rx == some (src, g.stream.val))

theorem streamFrameReceive_idle (h : linkRuns s = false ∨ receiveStream src g s = none) :
    exec (.streamFrameReceive p src g) s = .next s := by
  refine congrArg Host.Outcome.next ?_
  rcases h with hstopped | hnone
  · exact if_pos (by rw [hstopped]; rfl)
  · unfold receiveStream at hnone
    simp only [hnone, ite_self]

theorem streamFrameReceive_eq (hown : receiveStream src g s = some k) (hrun : linkRuns s = true) :
    exec (.streamFrameReceive p src g) s = .next (streamAck k src g.stream.val
      (if g.seq == (s.res.streams[k] : StreamSt).rxNext && decide ((s.res.streams[k] : StreamSt).rxBytes.length
          + g.bytes.length ≤ freeSpace (s.res.streams[k] : StreamSt)) then segmentTaken k g s else s)) := by
  unfold receiveStream at hown
  simp only [exec_streamFrameReceive, execStreamFrameReceive, hown, hrun]
  rfl

theorem takesGuard_iff : (g.seq == (s.res.streams[k] : StreamSt).rxNext
    && decide ((s.res.streams[k] : StreamSt).rxBytes.length + g.bytes.length
      ≤ freeSpace (s.res.streams[k] : StreamSt))) = true ↔ TakesSegment k g s := by
  rw [Bool.and_eq_true, beq_iff_eq, decide_eq_true_eq, TakesSegment]

theorem streamFrameReceive_leaves (hown : receiveStream src g s = some k) (hrun : linkRuns s = true)
    (h : ¬TakesSegment k g s) : exec (.streamFrameReceive p src g) s = .next (streamAck k src g.stream.val s) := by
  rw [streamFrameReceive_eq hown hrun, if_neg (takesGuard_iff.not.mpr h)]

theorem streamFrameReceive_takes (hown : receiveStream src g s = some k) (hrun : linkRuns s = true)
    (h : TakesSegment k g s) :
    exec (.streamFrameReceive p src g) s = .next (streamAck k src g.stream.val (segmentTaken k g s)) := by
  rw [streamFrameReceive_eq hown hrun, if_pos (takesGuard_iff.mpr h)]

/-- The 32nd segment taken, and one taken 1 ms after the last acknowledgement, is acknowledged (R357). -/
theorem streamAck_segmentTaken (htakes : TakesSegment k g s)
    (h : 31 ≤ s.res.streams[k].rxCount ∨ s.res.streams[k].rxAck + 1000000 ≤ s.time.ns) :
    ∃ u : State, u.res.streams[k].rxCount = 0 ∧ streamAck k src g.stream.val (segmentTaken k g s) =
      sendRouted (ownFrame s src 2 0x15 ([BitVec.ofNat 8 g.stream.val, 0] ++ le 2 g.seq.toNat)) u := by
  obtain ⟨hnext, hcount, hack, -⟩ := segmentTaken_spec k g s
  have honly := onlyStream_segmentTaken k g s
  have hdue : AckDue k (segmentTaken k g s) := by
    rw [AckDue, hcount, hack, honly.time]
    omega
  have hseq : (segmentTaken k g s).res.streams[k].rxNext - 1 = g.seq := by
    rw [hnext, BitVec.add_sub_cancel, htakes.1]
  refine ⟨ackCounted k (segmentTaken k g s), congrArg StreamSt.rxCount (modStream_stream ..), ?_⟩
  rw [streamAck_due _ _ _ _ hdue, hseq, ownFrame, honly.ownAddr]
  rfl

/-- STREAM_FRAME_RECEIVE of a segment of a receive stream: taken once in order, acknowledged when due (R357). -/
theorem streamFrameReceive_row (hown : receiveStream src g s = some k) (hrun : linkRuns s = true) :
    let st : StreamSt := s.res.streams[k]
    ∃ t, exec (.streamFrameReceive p src g) s = .next t
      ∧ (∀ j : Fin 16, j ≠ k → t.res.streams[j] = s.res.streams[j])
      ∧ t = { s with
          res := { s.res with streams := t.res.streams, mem := t.res.mem, order := t.res.order }
          link := { s.link with ports := t.link.ports, noRoute := t.link.noRoute } }
      ∧ (¬ TakesSegment k g s → t.res.streams[k].recs = st.recs ∧ t.res.streams[k].rxNext = st.rxNext
          ∧ t.res.streams[k].rxBytes = st.rxBytes ∧ t.res.mem = s.res.mem)
      ∧ (TakesSegment k g s → t.res.streams[k].rxNext = st.rxNext + 1
        ∧ (∃ rs, t.res.streams[k].recs = st.recs ++ rs
          ∧ sumNat (rs.map (fun r => r.bytes.length)) + t.res.streams[k].rxBytes.length
              = st.rxBytes.length + g.bytes.length
          ∧ (∀ r ∈ rs, r.bytes[1]? = some (BitVec.ofNat 8 k.val) ∧ r.seq = w32 r.bytes 4)
          ∧ (st.rxBytes = [] → 12 ≤ g.bytes.length → g.bytes.length = 12 + pad4 (u16 g.bytes 2) →
              rs.map (·.bytes) = [g.bytes.set 1 (BitVec.ofNat 8 k.val)] ∧ t.res.streams[k].rxBytes = []))
        ∧ (31 ≤ st.rxCount ∨ st.rxAck + 1000000 ≤ s.time.ns → ∃ u, u.res.streams[k].rxCount = 0
          ∧ t = sendRouted (ownFrame s src 2 0x15 ([BitVec.ofNat 8 g.stream.val, 0] ++ le 2 g.seq.toNat)) u)) := by
  by_cases htakes : TakesSegment k g s
  · obtain ⟨hothers, hrest⟩ := (onlyStream_segmentTaken k g s).trans (onlyStream_streamAck k src g.stream.val _)
    obtain ⟨-, hrecs, hnext, hbytes⟩ := streamAck_stream k src g.stream.val (segmentTaken k g s)
    obtain ⟨hnext', -, -, hspec⟩ := segmentTaken_spec k g s
    refine ⟨_, streamFrameReceive_takes hown hrun htakes, hothers, hrest, fun h => absurd htakes h,
      fun _ => ⟨hnext.trans hnext', ?_, streamAck_segmentTaken htakes⟩⟩
    rw [hrecs, hbytes]
    exact hspec
  · obtain ⟨hothers, hrest⟩ := onlyStream_streamAck k src g.stream.val s
    obtain ⟨hmem, hrecs, hnext, hbytes⟩ := streamAck_stream k src g.stream.val s
    exact ⟨_, streamFrameReceive_leaves hown hrun htakes, hothers, hrest, fun _ => ⟨hrecs, hnext, hbytes, hmem⟩,
      fun h => absurd h htakes⟩

/-! ### A late drain -/

/-- The oldest record of an admitted stream with a declared drain of this device is late for the first time (R383). -/
def LateRecord (k : Fin 16) (s : State) (r : Rec) : Prop :=
  r.late = false ∧ s.res.streams[k].admitted = true ∧ streamDrain s k ≠ 3 ∧ drainLat s.shadow (streamDrain s k) ≠ 0

theorem lateGuard_iff {r : Rec} : ¬(!(s.res.streams[k] : StreamSt).admitted || r.late || streamDrain s k == 3
    || drainLat s.shadow (streamDrain s k) == 0) = true ↔ LateRecord k s r := by
  simp only [LateRecord, Bool.or_eq_true, not_or, Bool.not_eq_true', Bool.not_eq_false, Bool.not_eq_true, beq_iff_eq,
    and_assoc, ne_eq]
  exact and_left_comm

theorem execDrainLate_nil (h : s.res.streams[k].recs = []) : execDrainLate k s = .next s := by
  rw [Fin.getElem_fin] at h
  simp only [execDrainLate, Fin.getElem_fin, h]

theorem execDrainLate_cons {r : Rec} {l : List Rec} (h : s.res.streams[k].recs = r :: l) :
    execDrainLate k s = .next (if !(s.res.streams[k] : StreamSt).admitted || r.late || streamDrain s k == 3
        || drainLat s.shadow (streamDrain s k) == 0 then s
      else raise 9 Src.resDrainLate noItem
        (modStream k (fun x => { x with recs := { r with late := true } :: l }) s)) := by
  rw [Fin.getElem_fin] at h
  simp only [execDrainLate, Fin.getElem_fin, h]

theorem execDrainLate_quiet (h : ¬∃ r l, s.res.streams[k].recs = r :: l ∧ LateRecord k s r) :
    execDrainLate k s = .next s := by
  cases hrecs : s.res.streams[k].recs with
  | nil => exact execDrainLate_nil hrecs
  | cons r l =>
    have hquiet : ¬LateRecord k s r := fun hlate => h ⟨r, l, hrecs, hlate⟩
    rw [execDrainLate_cons hrecs, if_pos (not_not.mp (lateGuard_iff.not.mpr hquiet))]

/-- DRAIN_LATE is raised for a late record, which is marked (R383). -/
theorem execDrainLate_late {r : Rec} {l : List Rec} (hrecs : s.res.streams[k].recs = r :: l) (h : LateRecord k s r) :
    execDrainLate k s = .next (raise 9 Src.resDrainLate noItem
      (modStream k (fun x => { x with recs := { r with late := true } :: l }) s)) := by
  rw [execDrainLate_cons hrecs, if_neg (lateGuard_iff.mpr h)]

end Sys2Proof.Machine
end

section
/-! Alarms across the fabric: at the lamplighter and at their origin (R358, R387). -/
namespace Sys2Proof.Machine

open Sys2Proof

variable {s : State}

/-! ### The lamplighter's alarm queue -/

/-- The acknowledgement of an alarm. -/
def alarmAck (src : Byte) (a : AlarmMsg) (s : State) : Frame := ownFrame s src 2 0x11 (le 2 a.aseq.toNat ++ [0, 0])

/-- The last accepted numbers with a source's new one behind at most 63 of its own (R358). -/
def noteAseq (src : Byte) (q : Half) (l : List (Byte × Half)) : List (Byte × Half) :=
  let mine := l.filter (fun x => x.1 == src)
  l.filter (fun x => x.1 != src) ++ mine.drop (mine.length - 63) ++ [(src, q)]

/-- The queue's entry of an alarm, LOST_BEFORE as owed (R387). -/
def alarmEntry (a : AlarmMsg) (lost : Bool) : List Byte :=
  (padTo 32 0 a.entry).set 22 (BitVec.ofNat 8 (1 + 2 * b1 lost))

/-- An alarm queued. -/
def alarmQueued (src : Byte) (a : AlarmMsg) (s : State) : State :=
  { s with
    res := { s.res with alarms := s.res.alarms ++ [alarmEntry a s.res.lostBefore], lostBefore := false }
    eng := { s.eng with edges := s.eng.edges ||| (1#32 <<< 23) }
    link := { s.link with seenAseq := noteAseq src a.aseq s.link.seenAseq } }

theorem mem_noteAseq (src : Byte) (q : Half) (l : List (Byte × Half)) : (src, q) ∈ noteAseq src q l :=
  List.mem_append_right _ (List.mem_singleton.mpr rfl)

theorem noteAseq_length (src : Byte) (q : Half) (l : List (Byte × Half)) :
    ((noteAseq src q l).filter (fun x => x.1 == src)).length ≤ 64 := by
  have hothers : (l.filter (fun x => x.1 != src)).filter (fun x => x.1 == src) = [] := by
    rw [List.filter_filter, List.filter_eq_nil_iff]
    intro x _
    by_cases h : x.1 = src <;> simp [h]
  have hmine := List.length_filter_le (fun x : Byte × Half => x.1 == src)
    ((l.filter (fun x => x.1 == src)).drop ((l.filter (fun x => x.1 == src)).length - 63))
  have hlast := List.length_filter_le (fun x : Byte × Half => x.1 == src) [(src, q)]
  rw [List.length_drop] at hmine
  rw [List.length_singleton] at hlast
  simp only [noteAseq, List.filter_append, List.length_append, hothers, List.length_nil]
  omega

/-- An entry of 32 bytes keeps all but its flags. -/
theorem alarmEntry_of_length {a : AlarmMsg} (h : a.entry.length = 32) (lost : Bool) :
    alarmEntry a lost = a.entry.set 22 (if lost then 3 else 1) := by
  have hpad : padTo 32 0 a.entry = a.entry := by
    rw [padTo, h, Nat.sub_self, List.replicate_zero, List.append_nil, ← h, List.take_length]
  rw [alarmEntry, hpad]
  cases lost <;> rfl

section

variable {p : Fin 4} {src : Byte} {a : AlarmMsg}

theorem alarmFrameReceive_idle (h : linkRuns s = false ∨ s.link.joined = false ∨ isLamplighter s = false) :
    exec (.alarmFrameReceive p src a) s = .next s := by
  refine congrArg Host.Outcome.next (if_pos ?_)
  simpa only [Bool.or_eq_true, Bool.not_eq_true', or_assoc] using h

variable (hrun : linkRuns s = true) (hjoined : s.link.joined = true) (hlamp : isLamplighter s = true)

include hrun hjoined hlamp

theorem alarmFrameReceive_eq : exec (.alarmFrameReceive p src a) s = .next (
    if s.link.seenAseq.contains (src, a.aseq) then sendRouted (alarmAck src a s) s
    else if !alarmRoom s then s else sendRouted (alarmAck src a s) (alarmQueued src a s)) := by
  have hguard : (!linkRuns s || !s.link.joined || !isLamplighter s) = false := by rw [hrun, hjoined, hlamp]; rfl
  exact congrArg Host.Outcome.next (if_neg (Bool.eq_false_iff.mp hguard))

/-- An alarm seen before is acknowledged again. -/
theorem alarmFrameReceive_seen (h : (src, a.aseq) ∈ s.link.seenAseq) :
    exec (.alarmFrameReceive p src a) s = .next (sendRouted (alarmAck src a s) s) := by
  rw [alarmFrameReceive_eq hrun hjoined hlamp, if_pos (List.contains_iff_mem.mpr h)]

theorem alarmFrameReceive_full (h : (src, a.aseq) ∉ s.link.seenAseq) (hfull : 64 ≤ s.res.alarms.length) :
    exec (.alarmFrameReceive p src a) s = .next s := by
  have hroom : alarmRoom s = false := decide_eq_false (Nat.not_lt.mpr hfull)
  rw [alarmFrameReceive_eq hrun hjoined hlamp, if_neg (List.contains_iff_mem.not.mpr h), hroom]
  rfl

theorem alarmFrameReceive_queues (h : (src, a.aseq) ∉ s.link.seenAseq) (hroom : s.res.alarms.length < 64) :
    exec (.alarmFrameReceive p src a) s = .next (sendRouted (alarmAck src a s) (alarmQueued src a s)) := by
  have hroom : alarmRoom s = true := decide_eq_true hroom
  rw [alarmFrameReceive_eq hrun hjoined hlamp, if_neg (List.contains_iff_mem.not.mpr h), hroom]
  rfl

end

/-! ### The origin's pending alarms -/

section

variable {x : Byte} {u : Long} {pr la : Byte}

theorem isLamplighter_of_ll (hll : s.link.ll = some (u, pr, la)) : isLamplighter s = (u == Config.uid) := by
  rw [isLamplighter, hll]

theorem execAlarmResend_unassigned (h : s.link.addr = none ∨ s.link.ll = none) : execAlarmResend s = .next s := by
  rcases h with h | h
  · simp only [execAlarmResend, h]
  · cases haddr : s.link.addr <;> simp only [execAlarmResend, h, haddr]

/-- A device that is the lamplighter holds no alarm for the fabric. -/
theorem sendHeldAlarms_own (haddr : s.link.addr = some x) (hll : s.link.ll = some (u, pr, la)) (h : u = Config.uid) :
    sendHeldAlarms s = { s with link := { s.link with alarms := [] } } := by
  have hlamp : isLamplighter s = true := by rw [isLamplighter_of_ll hll, beq_iff_eq, h]
  simp only [sendHeldAlarms, haddr, hll, hlamp, if_true]

/-- The frame that carries an alarm to the lamplighter's address. -/
def alarmFrame (s : State) (la : Byte) (resent : Byte) (a : PendAlarm) : Frame :=
  ownFrame s la 0 0x10 (le 2 a.aseq.toNat ++ [resent, 0] ++ a.entry)

/-- The held alarms noted as sent. -/
def alarmsNoted (n : Nat) (s : State) : State :=
  { s with link := { s.link with
    alarms := s.link.alarms.map (fun a => { a with sent := true }), alarmSent := sat16 s.link.alarmSent n } }

/-- Alarms of which none was sent yet are sent to the elected lamplighter, in order (R358). -/
theorem sendHeldAlarms_unsent (haddr : s.link.addr = some x) (hll : s.link.ll = some (u, pr, la)) (h : u ≠ Config.uid)
    (hunsent : ∀ a ∈ s.link.alarms, a.sent = false) : sendHeldAlarms s =
      (s.link.alarms.map (alarmFrame s la 0)).foldl (fun t f => sendRouted f t)
        (alarmsNoted s.link.alarms.length s) := by
  have hlamp : isLamplighter s = false := by rw [isLamplighter_of_ll hll, beq_eq_false_iff_ne]; exact h
  have hall : s.link.alarms.filter (fun a => !a.sent) = s.link.alarms :=
    List.filter_eq_self.mpr fun a ha => by rw [hunsent a ha]; rfl
  unfold sendHeldAlarms
  split
  · next hll' =>
    rw [hll] at hll'
    cases hll'
    rw [if_neg (Bool.eq_false_iff.mp hlamp)]
    simp only [hall]
    exact foldl_sendRouted_ownFrame la 0 0x10 (fun a : PendAlarm => le 2 a.aseq.toNat ++ [0, 0] ++ a.entry) _ rfl
  · next hnone => exact absurd hll (hnone x u pr la haddr)

/-- One alarm sent again, counted and raised (R358). -/
def alarmAgain (la : Byte) (t : State) (a : PendAlarm) : State :=
  let t := sendRouted (alarmFrame t la 1 a) t
  raise 8 Src.linkAlarmResend noItem { t with link := { t.link with alarmResent := sat16 t.link.alarmResent 1 } }

theorem execAlarmResend_eq (haddr : s.link.addr = some x) (hll : s.link.ll = some (u, pr, la)) :
    execAlarmResend s = .next (if !linkRuns s || isLamplighter s then sendHeldAlarms s
      else sendHeldAlarms ((s.link.alarms.filter (·.sent)).foldl (alarmAgain la) s)) := by
  simp only [execAlarmResend, haddr, hll]
  rfl

theorem execAlarmResend_own (haddr : s.link.addr = some x) (hll : s.link.ll = some (u, pr, la)) (h : u = Config.uid) :
    execAlarmResend s = .next { s with link := { s.link with alarms := [] } } := by
  have hlamp : (!linkRuns s || isLamplighter s) = true := by
    rw [isLamplighter_of_ll hll, h, beq_self_eq_true, Bool.or_true]
  rw [execAlarmResend_eq haddr hll, if_pos hlamp, sendHeldAlarms_own haddr hll h]

theorem execAlarmResend_unsent (haddr : s.link.addr = some x) (hll : s.link.ll = some (u, pr, la)) (h : u ≠ Config.uid)
    (hunsent : ∀ a ∈ s.link.alarms, a.sent = false) : execAlarmResend s =
      .next ((s.link.alarms.map (alarmFrame s la 0)).foldl (fun t f => sendRouted f t)
        (alarmsNoted s.link.alarms.length s)) := by
  have hnone : s.link.alarms.filter (·.sent) = [] :=
    List.filter_eq_nil_iff.mpr fun a ha => by rw [hunsent a ha]; decide
  rw [execAlarmResend_eq haddr hll, hnone, List.foldl_nil, ite_self, sendHeldAlarms_unsent haddr hll h hunsent]

theorem execAlarmResend_sent {a : PendAlarm} (haddr : s.link.addr = some x) (hll : s.link.ll = some (u, pr, la))
    (h : u ≠ Config.uid) (hrun : linkRuns s = true) (ha : s.link.alarms = [a]) (hsent : a.sent = true) :
    execAlarmResend s = .next (sendHeldAlarms (alarmAgain la s a)) := by
  have hlamp : (!linkRuns s || isLamplighter s) = false := by
    rw [isLamplighter_of_ll hll, hrun, beq_eq_false_iff_ne.mpr h]
    rfl
  have hagain : s.link.alarms.filter (·.sent) = [a] := by rw [ha, List.filter_singleton, hsent]; rfl
  rw [execAlarmResend_eq haddr hll, hlamp, hagain]
  rfl

end

end Sys2Proof.Machine
end

section
/-! Admission of a stream along its route: requests at a device on the route and at the destination, and answers at the
origin (R378; log entry 44). -/
namespace Sys2Proof.Machine

open Sys2Proof

/-! ### Shares and reservations -/

/-- Records laid out anew change their stream, and bytes of the reservoir. -/
theorem layOut_eq (k : Fin 16) (s : State) : ∃ rs wp mem, layOut k s =
    { s with res := { s.res with
      mem := mem, streams := vmod s.res.streams k (fun x => { x with recs := rs, wp := wp }) } } := ⟨_, _, _, rfl⟩

/-- A stream with a share granted (R378, R379). -/
def granted (base pages e rate : Nat) (x : StreamSt) : StreamSt :=
  { x with
    admitted := true, overAdmit := false, base := base, pages := pages, e := e, rate := rate, asking := none }

/-- A grant admits its stream, whose records may be laid out anew, and leaves the other streams and the fabric. -/
theorem grant_spec (k : Fin 16) (base pages e rate : Nat) (s : State) : let t := grant k base pages e rate s
    (∃ rs wp, t.res.streams[k] = { granted base pages e rate s.res.streams[k] with recs := rs, wp := wp })
    ∧ (∀ j : Fin 16, j ≠ k → t.res.streams[j] = s.res.streams[j]) ∧ t.link = s.link := by
  intro t
  let u : State := modStream k (granted base pages e rate) s
  have hk : u.res.streams[k] = granted base pages e rate s.res.streams[k] := modStream_stream ..
  have hothers : ∀ j : Fin 16, j ≠ k → u.res.streams[j] = s.res.streams[j] := modStream_otherStream k _ s
  have ht : t = if s.res.streams[k].base != base || s.res.streams[k].pages != pages then layOut k u else u := rfl
  clear_value t
  split at ht
  · obtain ⟨rs, wp, mem, hlay⟩ := layOut_eq k u
    rw [ht, hlay]
    refine ⟨⟨rs, wp, ?_⟩, fun j h => ?_, rfl⟩
    · exact (getElem_vmod ..).trans
        ((if_pos rfl).trans (congrArg (fun x : StreamSt => { x with recs := rs, wp := wp }) hk))
    · exact (getElem_vmod ..).trans ((if_neg (Ne.symm h)).trans (hothers j h))
  · rw [ht]
    exact ⟨⟨_, _, hk⟩, hothers, rfl⟩

/-! ### The reservation of a stream on its route -/

section

variable (k : Fin 16) (s : State)

theorem releaseRoute_local (h : (streamDef s.shadow k).drain ≠ 3) : releaseRoute k s = s := if_neg h

theorem releaseRoute_fabric (h : (streamDef s.shadow k).drain = 3) : ∃ f, releaseRoute k s =
    sendRouted f (unreserve (ownAddr s) k s) := ⟨_, if_pos h⟩

@[simp] theorem releaseRoute_res : (releaseRoute k s).res = s.res := by
  by_cases h : (streamDef s.shadow k).drain = 3
  · obtain ⟨f, hf⟩ := releaseRoute_fabric k s h
    rw [hf, sendRouted_res, unreserve_res]
  · rw [releaseRoute_local k s h]

/-- The origin of a fabric stream drops its own reservation (R378). -/
theorem releaseRoute_reserved : (releaseRoute k s).link.reserved = if (streamDef s.shadow k).drain = 3 then
    s.link.reserved.filter (fun r => !(r.1 == ownAddr s && r.2.1 == k.val)) else s.link.reserved := by
  by_cases h : (streamDef s.shadow k).drain = 3
  · obtain ⟨f, hf⟩ := releaseRoute_fabric k s h
    rw [hf, sendRouted_reserved, if_pos h]
    rfl
  · rw [releaseRoute_local k s h, if_neg h]

/-- No reservation of the stream is left at its origin, where it drains over the fabric. -/
theorem releaseRoute_ownReserved :
    (releaseRoute k s).link.reserved.filter (fun r => r.1 == ownAddr s && r.2.1 == k.val) =
      if (streamDef s.shadow k).drain = 3 then []
      else s.link.reserved.filter (fun r => r.1 == ownAddr s && r.2.1 == k.val) := by
  rw [releaseRoute_reserved]
  split
  · rw [List.filter_filter, List.filter_eq_nil_iff]
    intro r _
    rw [Bool.and_not_self]
    decide
  · rfl

end

/-- A withdrawn stream is not admitted and receives from no origin. -/
theorem withdraw_stream (k : Fin 16) (s : State) :
    (withdraw k s).res.streams[k].admitted = false ∧ (withdraw k s).res.streams[k].rx = none := by
  unfold withdraw
  extract_lets t x u
  rw [modStream_stream, freeShare_admitted, freeShare_rx]
  exact ⟨rfl, rfl⟩

/-! ### The origin's part -/

section

variable {src : Byte} {a : AdmissionReply} {s : State}

theorem admissionReplyReceive_none (h : s.res.streams[a.stream].asking = none) :
    exec (.admissionReplyReceive src a) s = .next s := by
  rw [Fin.getElem_fin] at h
  simp only [exec_admissionReplyReceive, execAdmissionReplyReceive, Fin.getElem_fin, h]

theorem admissionReplyReceive_asking {q : Asking} (h : s.res.streams[a.stream].asking = some q) :
    exec (.admissionReplyReceive src a) s = .next (if !a.granted then askFail a.stream s else if a.final then
      reply q.origin false q.tag 0x00 true (admitData q.e q.rate q.share q.pages 0) .normal
        (grant a.stream q.base q.pages q.e q.rate s) else s) := by
  rw [Fin.getElem_fin] at h
  simp only [exec_admissionReplyReceive, execAdmissionReplyReceive, Fin.getElem_fin, h]

theorem askFail_asking {k : Fin 16} {q : Asking} (h : s.res.streams[k].asking = some q) : askFail k s =
    reply q.origin false q.tag 0x40 true (admitData q.e q.rate q.share 0 6) .normal
      (releaseRoute k (modStream k (fun x => { x with asking := none }) s)) := by
  rw [Fin.getElem_fin] at h
  simp only [askFail, Fin.getElem_fin, h]

/-- A grant on the route is followed by others; the destination's completes the admission (R378). -/
theorem admissionReplyReceive_route {q : Asking} (h : s.res.streams[a.stream].asking = some q)
    (hgranted : a.granted = true) (hfinal : a.final = false) : exec (.admissionReplyReceive src a) s = .next s := by
  rw [admissionReplyReceive_asking h, hgranted, hfinal]
  rfl

theorem admissionReplyReceive_granted {q : Asking} (h : s.res.streams[a.stream].asking = some q)
    (hgranted : a.granted = true) (hfinal : a.final = true) : exec (.admissionReplyReceive src a) s =
      .next (reply q.origin false q.tag 0x00 true (admitData q.e q.rate q.share q.pages 0) .normal
        (grant a.stream q.base q.pages q.e q.rate s)) := by
  rw [admissionReplyReceive_asking h, hgranted, hfinal]
  rfl

theorem admissionReplyReceive_refused {q : Asking} (h : s.res.streams[a.stream].asking = some q)
    (hgranted : a.granted = false) : exec (.admissionReplyReceive src a) s =
      .next (reply q.origin false q.tag 0x40 true (admitData q.e q.rate q.share 0 6) .normal
        (releaseRoute a.stream (modStream a.stream (fun x => { x with asking := none }) s))) := by
  rw [admissionReplyReceive_asking h, hgranted, ← askFail_asking h]
  rfl

end

/-! ### The destination's part -/

/-- The destination grants a receive share on one of its streams (R378, R385). -/
theorem grantReceive_spec {q : AdmissionReq} {s t : State} (h : grantReceive q s = some t) :
    t.link = s.link ∧ ∃ k : Fin 16, t.res.streams[k].rx = some (q.src, q.stream.val) ∧ t.res.streams[k].admitted = true
      ∧ t.res.streams[k].rxNext = 0 ∧ t.res.streams[k].e = q.e ∧ t.res.streams[k].rate = q.rate
      ∧ ∀ j : Fin 16, j ≠ k → t.res.streams[j] = s.res.streams[j] := by
  unfold grantReceive at h
  extract_lets d mine idle lat share pages w at h
  split at h
  · cases h
  · next k _ =>
    split at h
    · cases h
    · split at h
      · cases h
      · next base _ =>
        obtain rfl := Option.some.inj h
        obtain ⟨⟨rs, wp, hk⟩, hothers, hlink⟩ := grant_spec k base pages q.e q.rate
          (setShw (Reg.resStreamCfg k) (wd (d + 256 * q.src.toNat + 65536 * q.sources)) s)
        refine ⟨hlink, k, ?_, ?_, ?_, ?_, ?_, fun j hj => ?_⟩
        · rw [modStream_stream]
        · rw [modStream_stream, hk]; rfl
        · rw [modStream_stream]
        · rw [modStream_stream, hk]; rfl
        · rw [modStream_stream, hk]; rfl
        · rw [modStream_otherStream _ _ _ _ hj, hothers j hj]; rfl

end Sys2Proof.Machine
end

section
/-! An admission request at its destination and at a device on its route (R378; log entry 44). -/
namespace Sys2Proof.Machine

open Sys2Proof

variable {p : Fin 4} {q : AdmissionReq} {s t : State}

/-- The answer to a request at this device. -/
def requestAnswer (q : AdmissionReq) (s : State) (granted final : Bool) : Frame :=
  admissionAnswer s q.src q.stream.val granted final

/-- The request or release on its way to the next device, in its origin's name. -/
def requestOnward (q : AdmissionReq) (s : State) : Frame :=
  { admissionFrame s q.dest q.stream.val (ifaceByte q.iface).toNat q.e q.rate q.sources q.release with
    source := q.src, hops := 15 }

theorem requestAnswer_congr (h : ownAddr t = ownAddr s) (g f : Bool) :
    requestAnswer q t g f = requestAnswer q s g f := by
  rw [requestAnswer, admissionAnswer, ownFrame, h]
  rfl

/-! ### At the destination -/

theorem admissionRequestReceive_refused (hhere : destHere s q.dest = true) (hrel : q.release = false)
    (h : grantReceive q s = none) :
    exec (.admissionRequestReceive p q) s = .next (sendRouted (requestAnswer q s false true) s) := by
  simp only [exec_admissionRequestReceive, execAdmissionRequestReceive, hhere, hrel, h]
  rfl

theorem admissionRequestReceive_granted (hhere : destHere s q.dest = true) (hrel : q.release = false)
    (h : grantReceive q s = some t) :
    exec (.admissionRequestReceive p q) s = .next (sendRouted (requestAnswer q s true true) t) := by
  have haddr : ownAddr t = ownAddr s := by rw [ownAddr, (grantReceive_spec h).1]; rfl
  simp only [exec_admissionRequestReceive, execAdmissionRequestReceive, hhere, hrel, h, ← requestAnswer_congr haddr]
  rfl

/-- The streams that receive from an origin's stream. -/
def receives (q : AdmissionReq) (s : State) (j : Fin 16) : Bool :=
  (s.res.streams[j] : StreamSt).rx == some (q.src, q.stream.val)

theorem admissionRequestReceive_released_none (hhere : destHere s q.dest = true) (hrel : q.release = true)
    (h : ∀ k : Fin 16, s.res.streams[k].rx ≠ some (q.src, q.stream.val)) :
    exec (.admissionRequestReceive p q) s = .next s := by
  have hnone : allStreams.find? (receives q s) = none :=
    List.find?_eq_none.mpr fun j _ => by rw [receives, beq_iff_eq]; exact h j
  unfold receives at hnone
  simp only [exec_admissionRequestReceive, execAdmissionRequestReceive, hhere, hrel, hnone]
  rfl

/-- A release withdraws the one receive stream of its origin's stream. -/
theorem admissionRequestReceive_released {k : Fin 16} (hhere : destHere s q.dest = true) (hrel : q.release = true)
    (hk : s.res.streams[k].rx = some (q.src, q.stream.val))
    (hone : ∀ j : Fin 16, s.res.streams[j].rx = some (q.src, q.stream.val) → j = k) :
    exec (.admissionRequestReceive p q) s = .next (setShw (Reg.resStreamCfg k) 0 (withdraw k s)) := by
  have hfind : allStreams.find? (receives q s) = some k := by
    have hreceives : receives q s k = true := beq_iff_eq.mpr hk
    obtain ⟨j, hj⟩ := Option.isSome_iff_exists.mp (List.find?_isSome.mpr ⟨k, List.mem_finRange k, hreceives⟩)
    have hmine : receives q s j = true := List.find?_some hj
    exact hj.trans (congrArg some (hone j (beq_iff_eq.mp hmine)))
  unfold receives at hfind
  simp only [exec_admissionRequestReceive, execAdmissionRequestReceive, hhere, hrel, hfind]
  rfl

/-! ### On the route -/

/-- The reservations of other streams. -/
def otherReservations (q : AdmissionReq) (s : State) : List (Byte × Nat × Nat × Nat) :=
  s.link.reserved.filter (fun r => !(r.1 == q.src && r.2.1 == q.stream.val))

/-- The egress port has room for the request's R beside the other reservations. -/
def RouteRoom (q : AdmissionReq) (n : Fin 4) (s : State) : Prop :=
  portUsed { s with link := { s.link with reserved := otherReservations q s } } n + q.rate ≤ portRoom s n

theorem admissionRequestReceive_passes (haway : destHere s q.dest = false) (hrel : q.release = true) :
    exec (.admissionRequestReceive p q) s = .next (sendRouted (requestOnward q s)
      { s with link := { s.link with reserved := otherReservations q s } }) := by
  simp only [exec_admissionRequestReceive, execAdmissionRequestReceive, haway, requestOnward, hrel]
  rfl

theorem admissionRequestReceive_unrouted (haway : destHere s q.dest = false) (hrel : q.release = false)
    (h : routePort s q.dest = none) :
    exec (.admissionRequestReceive p q) s = .next (sendRouted (requestAnswer q s false false) s) := by
  simp only [exec_admissionRequestReceive, execAdmissionRequestReceive, haway, hrel, h]
  rfl

section

variable {n : Fin 4}

theorem reservePort_full (h : ¬RouteRoom q n s) : reservePort q.src q.stream.val n q.rate s = none := if_neg h

theorem reservePort_room (h : RouteRoom q n s) : reservePort q.src q.stream.val n q.rate s =
    some { s with link := { s.link with
      reserved := otherReservations q s ++ [(q.src, q.stream.val, n.val, q.rate)] } } := if_pos h

variable (haway : destHere s q.dest = false) (hrel : q.release = false) (hroute : routePort s q.dest = some n)

include haway hrel hroute

theorem admissionRequestReceive_full (h : ¬RouteRoom q n s) :
    exec (.admissionRequestReceive p q) s = .next (sendRouted (requestAnswer q s false false) s) := by
  simp only [exec_admissionRequestReceive, execAdmissionRequestReceive, haway, hrel, hroute, reservePort_full h]
  rfl

/-- With room, the device reserves, answers, and passes the request on (R378). -/
theorem admissionRequestReceive_reserves (h : RouteRoom q n s) :
    exec (.admissionRequestReceive p q) s = .next (sendRouted (requestOnward q s)
      (sendRouted (requestAnswer q s true false) { s with link := { s.link with
        reserved := otherReservations q s ++ [(q.src, q.stream.val, n.val, q.rate)] } })) := by
  simp only [exec_admissionRequestReceive, execAdmissionRequestReceive, haway, hroute, reservePort_room h,
    requestOnward, hrel]
  rfl

end

end Sys2Proof.Machine
end

section
/-! The rows of fabric streams, alarms and admission as their statement takes them. -/
namespace Sys2Proof.Machine

open Sys2Proof

/-- STREAM_SEGMENT_SEND of a stream with a segment due (R357). -/
theorem streamSegmentSend_row {k : Fin 16} {s : State} (h : SegmentDue k s) : let st : StreamSt := s.res.streams[k]
    ∃ f u, exec (.streamSegmentSend k) s = .next (sendRouted f u) ∧ f.dest = BitVec.ofNat 8 (streamDef s.shadow k).dest
      ∧ f.type = 0x14 ∧ f.cls = 1
      ∧ f.payload = [BitVec.ofNat 8 k.val, 0] ++ le 2 (st.segBase + BitVec.ofNat 16 st.segsOut.length).toNat
          ++ nextSegment st
      ∧ u.res.streams[k] = { st with segsOut := st.segsOut ++ [(nextSegment st).length] }
      ∧ (∀ j : Fin 16, j ≠ k → u.res.streams[j] = s.res.streams[j])
      ∧ u = { s with res := { s.res with streams := u.res.streams } } :=
  ⟨_, _, execStreamSegmentSend_sends h, rfl, rfl, rfl, rfl, modStream_stream .., modStream_frame ..⟩

/-- STREAM_RESEND_TIMEOUT of a fabric stream of this device (R357). -/
theorem streamResendTimeout_row {k : Fin 16} {s : State} (hrun : linkRuns s = true)
    (hdrain : (streamDef s.shadow k).drain = 3) (hrx : s.res.streams[k].rx = none) :
    let st : StreamSt := s.res.streams[k]
    ∃ fs : List Frame, exec (.streamResendTimeout k) s = .next (fs.foldl (fun t f => sendRouted f t) s)
      ∧ fs.length = st.segsOut.length
      ∧ fs.flatMap (fun f => f.payload.drop 4) =
          ((st.recs.flatMap (·.bytes)).drop st.ackedBytes).take (sumNat st.segsOut)
      ∧ ∀ i f, fs[i]? = some f → f.type = 0x14
          ∧ f.payload.take 4 = [BitVec.ofNat 8 k.val, 0] ++ le 2 (st.segBase + BitVec.ofNat 16 i).toNat :=
  ⟨_, execStreamResendTimeout_resends hrun hdrain hrx, resendFrames_length .., resendFrames_bytes ..,
    fun i _ h => resendFrames_head _ _ _ _ _ i h⟩

/-- STREAM_ACK_RECEIVE of segments that are out (R357). -/
theorem streamAckReceive_row {k : Fin 16} {q : Half} {s : State} (p : Fin 4) (src : Byte)
    (h : ackedSegs s.res.streams[k] q ≤ s.res.streams[k].segsOut.length) :
    let st : StreamSt := s.res.streams[k]
    let n := ackedSegs st q
    ∃ t, exec (.streamAckReceive p src k q) s = .next t
      ∧ t.res.streams[k].segBase = q + 1 ∧ t.res.streams[k].segsOut = st.segsOut.drop n
      ∧ (t.res.streams[k].recs.flatMap (·.bytes)).drop t.res.streams[k].ackedBytes
          = (st.recs.flatMap (·.bytes)).drop (st.ackedBytes + sumNat (st.segsOut.take n))
      ∧ t.res.streams[k].recs <:+ st.recs ∧ t.res.streams[k].rxNext = st.rxNext
      ∧ (∀ j : Fin 16, j ≠ k → t.res.streams[j] = s.res.streams[j])
      ∧ t = { s with res := { s.res with streams := t.res.streams } } := by
  intro st n
  obtain ⟨hbase, hout, hbytes, hsuffix, hnext⟩ := ackStream_spec st q
  have hk : (modStream k (ackStream n) s).res.streams[k] = ackStream n st := modStream_stream ..
  rw [← hk] at hbase hout hbytes hsuffix hnext
  exact ⟨_, streamAckReceive_acks h, hbase, hout, hbytes, hsuffix, hnext, modStream_frame ..⟩

/-- DRAIN_LATE: a late record is raised once (R383). -/
theorem drainLate_row (k : Fin 16) (s : State) : let st : StreamSt := s.res.streams[k]
    let late := ∃ r l, st.recs = r :: l ∧ LateRecord k s r
    (¬ late → exec (.drainLate k) s = .next s)
    ∧ (late → ∃ u, exec (.drainLate k) s = .next (raise 9 Src.resDrainLate noItem u)
        ∧ (∀ r l, st.recs = r :: l → u.res.streams[k] = { st with recs := { r with late := true } :: l })
        ∧ (∀ j : Fin 16, j ≠ k → u.res.streams[j] = s.res.streams[j])
        ∧ u = { s with res := { s.res with streams := u.res.streams } }) := by
  refine ⟨execDrainLate_quiet, ?_⟩
  rintro ⟨r, l, hrecs, hlate⟩
  refine ⟨_, execDrainLate_late hrecs hlate, fun r' l' hrecs' => ?_, modStream_frame ..⟩
  obtain ⟨rfl, rfl⟩ := List.cons.inj (hrecs.symm.trans hrecs')
  exact modStream_stream ..

/-- ALARM_FRAME_RECEIVE of a new alarm with room in the queue (R358, R387). -/
theorem alarmFrameReceive_row {src : Byte} {a : AlarmMsg} {s : State} (p : Fin 4) (hrun : linkRuns s = true)
    (hjoined : s.link.joined = true) (hlamp : isLamplighter s = true) (h : (src, a.aseq) ∉ s.link.seenAseq)
    (hroom : s.res.alarms.length < 64) :
    ∃ u e, exec (.alarmFrameReceive p src a) s = .next (sendRouted (alarmAck src a s) u)
      ∧ u.res = { s.res with alarms := s.res.alarms ++ [e], lostBefore := false }
      ∧ u.eng = { s.eng with edges := s.eng.edges ||| (1#32 <<< 23) }
      ∧ (src, a.aseq) ∈ u.link.seenAseq ∧ (u.link.seenAseq.filter (fun x => x.1 == src)).length ≤ 64
      ∧ (a.entry.length = 32 → e = a.entry.set 22 (if s.res.lostBefore then 3 else 1))
      ∧ u = { s with res := u.res, eng := u.eng, link := { s.link with seenAseq := u.link.seenAseq } } :=
  ⟨_, _, alarmFrameReceive_queues hrun hjoined hlamp h hroom, rfl, rfl, mem_noteAseq .., noteAseq_length ..,
    fun h => alarmEntry_of_length h _, rfl⟩

theorem alarmAckReceive_row (p : Fin 4) (src : Byte) (q : Half) (s : State) :
    ∃ t, exec (.alarmAckReceive p src q) s = .next t
      ∧ (∀ a, a ∈ t.link.alarms ↔ a ∈ s.link.alarms ∧ a.aseq ≠ q) ∧ t.link.alarms.Sublist s.link.alarms
      ∧ t = { s with link := { s.link with alarms := t.link.alarms } } :=
  ⟨_, rfl, fun _ => List.mem_filter.trans (and_congr_right' bne_iff_ne), List.filter_sublist, rfl⟩

/-- ALARM_RESEND at a device that follows, with one alarm sent before (R358). -/
theorem alarmResend_row {x : Byte} {u : Long} {pr la : Byte} {a : PendAlarm} {s : State} (haddr : s.link.addr = some x)
    (hll : s.link.ll = some (u, pr, la)) (h : u ≠ Config.uid) (hrun : linkRuns s = true) (ha : s.link.alarms = [a])
    (hsent : a.sent = true) :
    ∃ v, exec .alarmResend s = .next (sendHeldAlarms (raise 8 Src.linkAlarmResend noItem v))
      ∧ v.link.alarmResent = sat16 s.link.alarmResent 1
      ∧ { v with link := { v.link with alarmResent := s.link.alarmResent } } = sendRouted (alarmFrame s la 1 a) s := by
  refine ⟨_, execAlarmResend_sent haddr hll h hrun ha hsent, congrArg (sat16 · 1) (sendRouted_alarmResent ..), ?_⟩
  rw [← sendRouted_alarmResent (alarmFrame s la 1 a) s]

/-- A granted request at its destination gives a stream that receives (R378, R385). -/
theorem admissionGranted_row {q : AdmissionReq} {s t : State} (p : Fin 4) (hhere : destHere s q.dest = true)
    (hrel : q.release = false) (h : grantReceive q s = some t) :
    ∃ (u : State) (k : Fin 16),
      exec (.admissionRequestReceive p q) s = .next (sendRouted (requestAnswer q s true true) u)
      ∧ u.res.streams[k].rx = some (q.src, q.stream.val) ∧ u.res.streams[k].admitted = true
      ∧ u.res.streams[k].rxNext = 0
      ∧ u.res.streams[k].e = q.e ∧ u.res.streams[k].rate = q.rate
      ∧ (∀ j : Fin 16, j ≠ k → u.res.streams[j] = s.res.streams[j]) := by
  obtain ⟨-, k, hspec⟩ := grantReceive_spec h
  exact ⟨t, k, admissionRequestReceive_granted hhere hrel h, hspec⟩

/-- The destination's grant completes an admission (R378, R379). -/
theorem admissionCompleted_row {src : Byte} {a : AdmissionReply} {q : Asking} {s : State}
    (h : s.res.streams[a.stream].asking = some q) (hgranted : a.granted = true) (hfinal : a.final = true) :
    ∃ u : State, exec (.admissionReplyReceive src a) s = .next
        (reply q.origin false q.tag 0x00 true (admitData q.e q.rate q.share q.pages 0) .normal u)
      ∧ u.res.streams[a.stream].admitted = true ∧ u.res.streams[a.stream].asking = none
      ∧ u.res.streams[a.stream].pages = q.pages ∧ u.res.streams[a.stream].base = q.base
      ∧ u.res.streams[a.stream].e = q.e
      ∧ (∀ j : Fin 16, j ≠ a.stream → u.res.streams[j] = s.res.streams[j]) := by
  obtain ⟨⟨rs, wp, hk⟩, hothers, -⟩ := grant_spec a.stream q.base q.pages q.e q.rate s
  refine ⟨_, admissionReplyReceive_granted h hgranted hfinal, ?_, ?_, ?_, ?_, ?_, hothers⟩
  all_goals rw [hk]; rfl

/-- A refusal on the route ends an admission, and the origin's reservation (R378). -/
theorem admissionRefused_row {src : Byte} {a : AdmissionReply} {q : Asking} {s : State}
    (h : s.res.streams[a.stream].asking = some q) (hgranted : a.granted = false) :
    ∃ u : State, exec (.admissionReplyReceive src a) s = .next
        (reply q.origin false q.tag 0x40 true (admitData q.e q.rate q.share 0 6) .normal u)
      ∧ u.res.streams[a.stream] = { s.res.streams[a.stream] with asking := none }
      ∧ (∀ j : Fin 16, j ≠ a.stream → u.res.streams[j] = s.res.streams[j])
      ∧ u.link.reserved.filter (fun r => r.1 == ownAddr s && r.2.1 == a.stream.val)
          = (if (streamDef s.shadow a.stream).drain = 3 then []
            else s.link.reserved.filter (fun r => r.1 == ownAddr s && r.2.1 == a.stream.val)) := by
  refine ⟨_, admissionReplyReceive_refused h hgranted, ?_, fun j hj => ?_,
    releaseRoute_ownReserved a.stream (modStream a.stream (fun x => { x with asking := none }) s)⟩
  · rw [releaseRoute_res, modStream_stream]
  · rw [releaseRoute_res, modStream_otherStream _ _ _ j hj]

end Sys2Proof.Machine
end

section

open Sys2Proof Sys2Proof.Machine

/-- Settles O59: each row of fabric streams, alarms and admission is an equation of its case; what it sends and what it
leaves are read off the equation. -/
theorem fabricStreams : Obligations.FabricStreams := by
  refine ⟨fun k s => ⟨execStreamSegmentSend_idle, streamSegmentSend_row, streamResendTimeout_row,
      execStreamResendTimeout_idle⟩,
    fun p src k q s => ⟨streamAckReceive_early, streamAckReceive_row p src⟩,
    fun p src g s => ⟨streamFrameReceive_idle, fun k => streamFrameReceive_row⟩,
    drainLate_row,
    fun p src a s => ⟨alarmFrameReceive_idle, fun hrun hjoined hlamp =>
      ⟨alarmFrameReceive_seen hrun hjoined hlamp, alarmFrameReceive_full hrun hjoined hlamp,
        alarmFrameReceive_row p hrun hjoined hlamp⟩⟩,
    alarmAckReceive_row,
    fun s => ⟨execAlarmResend_unassigned, fun x u pr la haddr hll => ⟨execAlarmResend_own haddr hll,
      execAlarmResend_unsent haddr hll, fun h hrun a => alarmResend_row haddr hll h hrun⟩⟩,
    fun p q s => ⟨fun hhere hrel => ⟨admissionRequestReceive_refused hhere hrel, fun t =>
        admissionGranted_row p hhere hrel⟩,
      admissionRequestReceive_released_none, fun hhere hrel k hk hone => ?_, admissionRequestReceive_passes,
      fun haway hrel => ⟨admissionRequestReceive_unrouted haway hrel, fun n hroute =>
        ⟨admissionRequestReceive_full haway hrel hroute, admissionRequestReceive_reserves haway hrel hroute⟩⟩⟩,
    fun src a s => ⟨admissionReplyReceive_none, fun q => admissionReplyReceive_route,
      fun q => admissionCompleted_row, fun q => admissionRefused_row⟩⟩
  exact ⟨_, admissionRequestReceive_released hhere hrel hk hone, withdraw_stream k s⟩

end

section

-- One proof after another keeps the memory of the whole text's compile within the check's limit.
set_option Elab.async false

section
/-! Every row answers a next state that keeps the queue and the canonical memories, row by row (Table 2-5, chapters 3
and 14). -/
namespace Sys2Proof.Machine

open Sys2Proof

theorem commandRow_keep {i : Instr} {op : Nat} {p : Packet} (h : CommandRow i op p) (s : State) : KeepO s (exec i s) := by
  cases h <;> simp only [exec, Keep.refl,
    execNop_keep, execIdentify_keep, execGetStatus_keep, execSessionOpen_keep, execSessionAuth_keep,
    execSessionClose_keep, execSetPowerState_keep, execReset_keep, execReadReg_keep, execWriteReg_keep,
    execSaveConfig_keep, execLoadConfig_keep, execGridConfig_keep, execRegionDefine_keep, execDrivePlan_keep,
    execGridStart_keep, execGridStop_keep, execCaptureReference_keep, execReadFrame_keep, execSelfcapConfig_keep,
    execTouchConfig_keep, execControlDefine_keep, execGestureConfig_keep, execBaselineReset_keep,
    execContactPolicy_keep, execReadContacts_keep, execCarrierTable_keep, execHopPolicy_keep, execNoiseSurvey_keep,
    execEmberConfig_keep, execBridgeConfig_keep, execExciteSet_keep, execCmwinSet_keep, execCheckDac_keep,
    execLaneReinstate_keep, execTrimApply_keep, execTrimRead_keep, execConvConfig_keep, execFilterSelect_keep,
    execConvStart_keep, execConvStop_keep, execDecimSync_keep, execThreshSet_keep, execOnsetConfig_keep,
    execTimeSet_keep, execTimeGet_keep, execServoConfig_keep, execTriggerSet_keep, execCaptureConfig_keep,
    execBeaconConfig_keep, execEpochSet_keep, execFabricJoin_keep, execFabricStatus_keep, execRouteRead_keep,
    execModePrepare_keep, execModeCommit_keep, execPortConfig_keep, execLamplighterPriority_keep,
    execStreamDefine_keep, execStreamAdmit_keep, execStreamStart_keep, execStreamStop_keep, execStreamRead_keep,
    execDrainDeclare_keep, execFaultRead_keep, execFaultAck_keep, execSeveritySet_keep, execThermalConfig_keep,
    execHealthRead_keep, execKeySet_keep, execJournalRead_keep, execJournalPolicy_keep, execImageBegin_keep,
    execImageData_keep, execImageEnd_keep, execImageActivate_keep, execDecodeLoad_keep]

theorem engineRow_keep {i : Instr} {n : Nat} (h : EngineRow i n) (s : State) : KeepO s (exec i s) := by
  cases h <;> simp only [exec, Keep.refl,
    execAdd_keep, execAdc_keep, execSub_keep, execSbc_keep, execAnd_keep, execOr_keep, execXor_keep, execMov_keep,
    execCmp_keep, execTst_keep, execMulu_keep, execMuls_keep, execDivu_keep, execDivs_keep, execShl_keep,
    execShr_keep, execSar_keep, execRol_keep, execRor_keep, execShlr_keep, execShrr_keep, execSarr_keep, execNeg_keep,
    execNot_keep, execInc_keep, execDec_keep, execSwapn_keep, execClr_keep, execMovi_keep, execAddi_keep,
    execCmpi_keep, execAndi_keep, execLd_keep, execSt_keep, execBra_keep, execCall_keep, execSkip_keep, execSkbc_keep,
    execSkbs_keep, execBclr_keep, execBset_keep, execCustomerOpcode_keep, execSysNop_keep, execRet_keep,
    execReti_keep, execEi_keep, execDi_keep, execWait_keep, execJmpi_keep, execCalli_keep, execMfs_keep, execMts_keep,
    execPush_keep, execPop_keep, execPadd_keep, execPushp_keep, execPopp_keep, execMovp_keep, execPcmp_keep,
    execRepImm_keep, execRepReg_keep, execLbreak_keep, execJmp_keep, execCallAbs_keep, execLdp_keep, execLoopImm_keep,
    execLoopReg_keep]

/-- Every row completes and keeps the queue. -/
theorem exec_keep (i : Instr) (s : State) : KeepO s (exec i s) := by
  cases i
  case nop | identify | getStatus | sessionOpen | sessionAuth | sessionClose | setPowerState | reset | readReg |
      writeReg | saveConfig | loadConfig | gridConfig | regionDefine | drivePlan | gridStart | gridStop |
      captureReference | readFrame | selfcapConfig | touchConfig | controlDefine | gestureConfig | baselineReset
      | contactPolicy | readContacts | carrierTable | hopPolicy | noiseSurvey | emberConfig | bridgeConfig |
      exciteSet | cmwinSet | checkDac | laneReinstate | trimApply | trimRead | convConfig | filterSelect |
      convStart | convStop | decimSync | threshSet | onsetConfig | timeSet | timeGet | servoConfig | triggerSet
      | captureConfig | beaconConfig | epochSet | fabricJoin | fabricStatus | routeRead | modePrepare |
      modeCommit | portConfig | lamplighterPriority | streamDefine | streamAdmit | streamStart | streamStop |
      streamRead | drainDeclare | faultRead | faultAck | severitySet | thermalConfig | healthRead | keySet |
      journalRead | journalPolicy | imageBegin | imageData | imageEnd | imageActivate | decodeLoad => exact commandRow_keep (by constructor) s
  case add | adc | sub | sbc | and | or | xor | mov | cmp | tst | mulu | muls | divu | divs | shl | shr | sar |
      rol | ror | shlr | shrr | sarr | neg | not | inc | dec | swapn | clr | movi | addi | cmpi | andi | ld | st
      | bra | call | skip | skbc | skbs | bclr | bset | customerOpcode | sysNop | ret | reti | ei | di | wait |
      jmpi | calli | mfs | mts | push | pop | padd | pushp | popp | movp | pcmp | repImm | repReg | lbreak | jmp
      | callAbs | ldp | loopImm | loopReg => exact engineRow_keep (by constructor) s
  all_goals
    simp only [exec, Keep.refl,
    execPowerTransitionComplete_keep, execSaveConfigDone_keep, execLoadConfigDone_keep, execCaptureReferenceDone_keep,
    execNoiseSurveyDone_keep, execFabricJoinDone_keep, execModePrepareDone_keep, execModeCommitDone_keep,
    execKeySetDone_keep, execJournalPolicyDone_keep, execImageEndDone_keep, execImageActivateDone_keep,
    execDecodeLoadDone_keep, execRelayTimeout_keep, execBroadcastSummary_keep, execCmdMailboxWrite_keep,
    execDoorbellSubmit_keep, execDoorbellDiscard_keep, execReplyMailboxRead_keep, execReplyPop_keep,
    execReplyRewind_keep, execStreamPortRead_keep, execStreamCommit_keep, execStreamRewind_keep,
    execAlarmPortRead_keep, execWakeExitRequest_keep, execWakeRelease_keep, execStatusFieldLatch_keep,
    execI2cAddressPhase_keep, execPointerLoad_keep, execI2cWriteByte_keep, execI2cReadByte_keep, execCondDiscard_keep,
    execStopCondition_keep, execSclTimeout_keep, execSdaTimeout_keep, execQspiWrite_keep, execQspiRead_keep,
    execReadState_keep, execBulkRead_keep, execCsAbort_keep, execBadInstr_keep, execCsnExitRequest_keep,
    execSyncEdge_keep, execTrigEdge_keep, execPpsinEdge_keep, execPpsLost_keep, execPpsoutPulse_keep,
    execTclkLost_keep, execPor_keep, execSupplyReset_keep, execPinReset_keep, execResetBegin_keep,
    execFirmwareRestart_keep, execImageSelfCheck_keep, execStartupConfigLoad_keep, execEmberEntry_keep,
    execExitComplete_keep, execSafeLogProgram_keep, execThermalShutdown_keep, execThermalRestart_keep,
    execWdogWarn_keep, execWatchdogExpiry_keep, execEpochBoundary_keep, execGridFrameStart_keep,
    execGridFrameComplete_keep, execIdleListenFrame_keep, execDriveOvercurrent_keep, execVtxLow_keep,
    execTouchMutualFrame_keep, execTouchSelfFrame_keep, execEmberScan_keep, execHousekeepingRound_keep,
    execBridgeSample_keep, execConvIntervalEvent_keep, execModOverload_keep, execModUnlock_keep,
    execWindowViolationBegin_keep, execLeadEventClassify_keep, execWindowViolationEnd_keep, execTransientClose_keep,
    execPermanentDecision_keep, execExcOvercurrent_keep, execVexLow_keep, execBrdgChangeApply_keep,
    execBrdgSnuffApply_keep, execTimeTriggerFire_keep, execSlewEnd_keep, execSyncFrameSend_keep,
    execSyncFrameReceive_keep, execDelayReqSend_keep, execDelayReqReceive_keep, execDelayRespReceive_keep,
    execDelayRespTimeout_keep, execBeaconMissed_keep, execPortTrained_keep, execHelloSend_keep, execHelloReceive_keep,
    execLinkDown_keep, execCreditReceive_keep, execFrameForward_keep, execTopoOriginate_keep, execTopoReceive_keep,
    execTopoExpiry_keep, execDatabaseSettled_keep, execAssignReceive_keep, execCmdFrameReceive_keep,
    execRplFrameReceive_keep, execReassemblyTimeout_keep, execStreamSegmentSend_keep, execStreamFrameReceive_keep,
    execStreamAckReceive_keep, execStreamResendTimeout_keep, execAlarmFrameReceive_keep, execAlarmAckReceive_keep,
    execAlarmResend_keep, execAdmissionRequestReceive_keep, execModePrepareReceive_keep, execModeAckReceive_keep,
    execModeCommitReceive_keep, execModeAbortReceive_keep, execModeAppliedReceive_keep, execModeCommitResend_keep,
    execPreparedChangeDiscard_keep, execDrainLate_keep, execReplyStall_keep, execSessionIdleTimeout_keep,
    execChallengeExpiry_keep, execLockoutEnd_keep, execStateParity_keep, execBlockResetRestart_keep,
    execJournalEntryProgram_keep, execJournalSectorErase_keep, execSnuffListWrite_keep, execKeyAreaUpdate_keep,
    execFaultStatAck_keep, execHkpReinstate_keep, execSecCfgLockWrite_keep, execTriggerCfgWrite_keep,
    execTimeNowLatch_keep, execRegisterWrite_keep, execApertureBaseWrite_keep, execWdkick_keep,
    execInterruptEntry_keep, execWaitResume_keep, execMulDelivery_keep, execDivDelivery_keep, execExtOverrun_keep,
    execLpoTick_keep, execPllUnlock_keep, execSupplyBackInRange_keep, execUnknownOpcode_keep, execIllegalOpcode_keep,
    execPortMismatch_keep, execFrameDiscard_keep, execAdmissionReplyReceive_keep, execTmodeChange_keep]

/-- A step takes the front of the queue off, if there is one, and neither puts a command in nor takes another out. -/
theorem step_tail (s : State) : ∃ t, step s = .next t ∧ t.pending = s.pending.tail := by
  cases hq : s.pending with
  | nil => exact ⟨tickTime s, step_idle hq, (tickTime_keep s (.refl s)).pend.trans hq⟩
  | cons c rest =>
    obtain ⟨t, ht, hkeep⟩ := exec_keep c { s with pending := rest }
    exact ⟨t, (step_front hq).trans ht, hkeep.pend⟩

end Sys2Proof.Machine
end

section

open Sys2Proof Sys2Proof.Machine

/-- Settles O2: every row and the tick answer a next state and keep the queue they are given. -/
theorem stepTotal : Obligations.StepTotal := step_tail

/-- Settles O3: the memories and the queue of the reset state are empty. -/
theorem resetInv : Obligations.ResetInv := rfl

end

section
/-! What a row of the engine answers on an engine that executes it, and how cycles, results on their way and the end of
an instruction lie to each other (R400, R402, R407, R409). -/
namespace Sys2Proof.Machine

open Sys2Proof

/-! ### Cycles -/

/-- What cycles do to the engine (R409, R419). -/
def spendEng (n : Nat) (e : EngSt) : EngSt := { e with
  cycles := e.cycles + n
  mulDue := e.mulDue.map (fun (m : MulDue) => { m with left := m.left - n })
  divDue := e.divDue.map (fun (d : DivDue) => { d with left := d.left - n })
  hook := e.hook.map (fun (h : HookSave) => if h.inHandler = 0 then { h with budget := h.budget - n } else h) }

theorem spend_modEng (n : Nat) (s : State) : spend n s = modEng (spendEng n) s := rfl

theorem spendEng_zero (e : EngSt) : spendEng 0 e = e := by
  have hmul : e.mulDue.map (fun (m : MulDue) => { m with left := m.left - 0 }) = e.mulDue := List.map_id _
  have hdiv : e.divDue.map (fun (d : DivDue) => { d with left := d.left - 0 }) = e.divDue := Option.map_id'
  have hhook : e.hook.map (fun (h : HookSave) => if h.inHandler = 0 then { h with budget := h.budget - 0 } else h) = e.hook := by
    rw [show (fun (h : HookSave) => if h.inHandler = 0 then { h with budget := h.budget - 0 } else h) = id from
      funext fun h => ite_id h, Option.map_id, id]
  simp only [spendEng, hmul, hdiv, hhook, Nat.add_zero]

@[simp] theorem spend_zero (s : State) : spend 0 s = s := by
  rw [spend_modEng, modEng, spendEng_zero]

/-! ### A ready row -/

theorem engineNext_ready {x : Shape} {s : State} (body : State → Eff) (h : EngReady x.words s) :
    engineNext x body s = .next (finish x.words (due s).eng.frp (body (due s))) :=
  congrArg _ (runRow_ready x body s h)

/-- A row that changes registers alone retires what it does to the engine with the results of the cycle delivered. -/
theorem engineNext_regOp {s : State} (f : EngSt → EngSt) {g : EngSt → EngSt} (h : EngReady 1 s)
    (hfg : f (due s).eng = g (due s).eng) : engineNext plain (regOp f) s = .next (retire 1 1 g (due s)) := by
  rw [engineNext_ready (x := plain) _ h, retire, regOp, modEng, modEng, hfg]
  rfl

theorem engineNext_regOp_barred {s : State} (f : EngSt → EngSt) {g : EngSt → EngSt} (h : EngReady 1 s)
    (hfg : f (due s).eng = g (due s).eng) : engineNext (barred 1) (regOp f) s = .next (retire 1 1 g (due s)) := by
  rw [engineNext_ready (x := barred 1) _ h, retire, regOp, modEng, modEng, hfg]
  rfl

/-! ### The end of an instruction outside a hook and a repetition -/

section
variable {n : Nat} {u : State} (h : u.eng.hook = none)
include h

theorem finish_next (cost : Nat) (l : List Nat) :
    finish n false { st := u, cost := cost, faults := l } = raiseEng l (modEng (advance n) (spend cost u)) :=
  finish_none n _ h

theorem finish_jump (cost : Nat) (l : List Nat) (t : Half) :
    finish n false { st := u, cost := cost, faults := l, flow := .jump t } = raiseEng l (modEng (setPc t) (spend cost u)) :=
  finish_none n _ h

theorem finish_over (cost : Nat) (l : List Nat) (k : Nat) :
    finish n false { st := u, cost := cost, faults := l, flow := .over k } = raiseEng l (modEng (advance (n + k)) (spend cost u)) :=
  finish_none n _ h

theorem finish_done (cost : Nat) : finish n false { st := u, cost := cost, flow := .done } = spend cost u :=
  finish_none n _ h

end

theorem due_hook {s : State} (h : s.eng.hook = none) : (due s).eng.hook = none := (deliverDue_hook s.eng).trans h

theorem due_frp {s : State} (h : s.eng.frp = false) : (due s).eng.frp = false := (deliverDue_frp s.eng).trans h

theorem inExt_of_no_hook {e : EngSt} (h : e.hook = none) : inExt e = false := by simp [inExt, hookRuns, h]

end Sys2Proof.Machine
end

section
/-! The special registers, their latches and their held writes (R393). -/
namespace Sys2Proof.Machine

open Sys2Proof

theorem srWrite_writable {k : Nat} (h : k ≤ 5) (b : Byte) (e : EngSt) : (srWrite k b e).isSome := by
  interval_cases k <;> rfl

theorem srWrite_barred {k : Nat} (h : 6 ≤ k) (b : Byte) (e : EngSt) : srWrite k b e = none := by
  obtain ⟨j, rfl⟩ := Nat.exists_eq_add_of_le' h
  rfl

theorem mts_written {r k : Fin 16} {s : State} {e : EngSt} (h : EngReady 1 s)
    (hw : srWrite k (wGet (due s).eng r) (due s).eng = some e) :
    exec (.mts r k) s = .next (retire 1 1 (fun _ => e) (due s)) := by
  rw [exec_mts, execMts, engineNext_ready (x := plain) _ h, mtsBody, hw]
  rfl

theorem mts_barred {r k : Fin 16} {s : State} (h : EngReady 1 s) (hk : 6 ≤ k.val) : exec (.mts r k) s =
    .next (finish 1 (due s).eng.frp { st := due s, faults := [Src.engIllegalOpcode] }) := by
  rw [exec_mts, execMts, engineNext_ready (x := plain) _ h, mtsBody, srWrite_barred hk]
  rfl

theorem mfs_read (d k : Fin 16) {s : State} (h : EngReady 1 s) :
    exec (.mfs d k) s = .next (retire 1 1 (fun e => wSet d (srRead k e).1 (srRead k e).2) (due s)) :=
  engineNext_regOp _ h rfl

end Sys2Proof.Machine
end

section

open Sys2Proof Sys2Proof.Machine

/-- Settles O10: each row retires what its operation does to the engine of the cycle. -/
theorem registerRows : Obligations.RegisterRows := by
  refine ⟨fun _ _ _ _ _ h => ?_, fun _ _ _ _ _ _ _ h => ?_, fun _ _ _ h => ?_⟩
  · and_intros <;> exact engineNext_regOp _ h rfl
  · have hpair : ∀ x y : Half, (x == y) = decide (x = y) := fun x y => rfl
    refine ⟨?_, ?_, ?_, ?_, ?_, ?_, ?_, ?_, ?_⟩ <;> exact engineNext_regOp _ h rfl
  · exact engineNext_ready (x := { words := 2 }) _ h

/-- Settles O11: reads and writes of the special registers by their cases, MTS by what the write answers. -/
theorem specialRegisters : Obligations.SpecialRegisters :=
  ⟨fun _ => ⟨rfl, fun _ => rfl, rfl, fun _ => rfl, rfl, fun _ => rfl, rfl, fun _ => rfl, rfl, rfl, rfl, rfl, rfl, rfl, rfl, rfl⟩,
    fun _ _ _ => ⟨⟨_, rfl, rfl, rfl⟩, _, rfl, rfl, rfl⟩,
    fun _ k _ h => ⟨fun _ => mts_written h, fun hk => ⟨srWrite_barred hk _ _, mts_barred h hk⟩,
      fun hk => srWrite_writable hk _ _, fun d => mfs_read d k h⟩⟩

end

section
/-! What a row that computes in registers leaves alone (R401, Tables 13-5 and 13-6). -/
namespace Sys2Proof.Machine

open Sys2Proof

/-- What a row that computes in registers leaves of the engine, whatever its passage moves. -/
def standing (e : EngSt) :=
  (e.ram, e.sp, e.edges, e.aps, e.stackLim, e.decode, e.fdz, e.fie, e.mul, e.quo, e.rem)

/-- An operation leaves all of that, the hook, the repetition, and the registers W it is not said to touch. -/
def Computes (touched : Nat → Prop) (f : EngSt → EngSt) : Prop := ∀ e : EngSt,
  standing (f e) = standing e ∧ ((f e).hook = e.hook ∧ (f e).repcnt = e.repcnt ∧ (f e).frp = e.frp)
  ∧ ∀ j, j < 16 → ¬touched j → wGet (f e) j = wGet e j

theorem computes_wSet {d : Nat} (hd : d < 16) (b : EngSt → Byte) : Computes (fun j => j = d) (fun e => wSet d (b e) e) :=
  fun e => ⟨rfl, ⟨rfl, rfl, rfl⟩, fun j _ hj => (wGet_wSet d _ e j hd).trans (if_neg (Ne.symm hj))⟩

theorem computes_aluTo (d : Fin 16) (o : EngSt → AluOut) : Computes (fun j => j = d.val) (aluTo d o) :=
  fun e => ⟨rfl, (computes_wSet d.isLt fun e => (o e).val) e |>.2⟩

theorem computes_aluTest (o : EngSt → AluOut) : Computes (fun _ => False) (aluTest o) := fun _ => ⟨rfl, ⟨rfl, rfl, rfl⟩, fun _ _ _ => rfl⟩

theorem wGet_pSet {p : Nat} (hp : p < 8) (x : Half) (e : EngSt) (j : Nat) : wGet (pSet p x e) j =
    if 2 * p + 1 = j then BitVec.ofNat 8 (x.toNat / 256) else if 2 * p = j then BitVec.ofNat 8 x.toNat else wGet e j := by
  rw [pSet, wGet_wSet _ _ _ _ (by omega), wGet_wSet _ _ _ _ (by omega)]

theorem computes_pSet (p : Fin 8) (x : EngSt → Half) :
    Computes (fun j => j = 2 * p.val ∨ j = 2 * p.val + 1) (fun e => pSet p (x e) e) := by
  refine fun e => ⟨rfl, ⟨rfl, rfl, rfl⟩, fun j _ hj => ?_⟩
  rw [wGet_pSet p.isLt, if_neg (by omega), if_neg (by omega)]

/-- The outcome differs from the state with the results of the cycle delivered in what an instruction's passage moves,
and in what its operation touches. -/
def Framed (touched : Nat → Prop) (s : State) (o : Host.Outcome State Fault Refusal) : Prop :=
  ∃ t, o = .next t ∧ EngOnly (due s) t ∧ t.eng.sp = s.eng.sp ∧ t.eng.edges = s.eng.edges ∧ t.eng.aps = s.eng.aps
    ∧ t.eng.stackLim = s.eng.stackLim ∧ t.eng.decode = s.eng.decode ∧ t.eng.hook = none ∧ t.eng.fdz = (due s).eng.fdz
    ∧ t.eng.fie = s.eng.fie ∧ t.eng.mul = (due s).eng.mul ∧ t.eng.quo = (due s).eng.quo ∧ t.eng.rem = (due s).eng.rem
    ∧ (s.eng.frp = false → t.eng.repcnt = s.eng.repcnt ∧ t.eng.frp = false)
    ∧ ∀ j, j < 16 → ¬touched j → wGet t.eng j = wGet s.eng j

theorem retire_framed {touched : Nat → Prop} {f : EngSt → EngSt} {s : State} (hk : s.eng.hook = none) (hf : Computes touched f)
    (n cost : Nat) : Framed touched s (.next (retire n cost f (due s))) := by
  obtain ⟨hstand, ⟨hhook, hcount, hrp⟩, hregs⟩ := hf (due s).eng
  have hnone : (f (due s).eng).hook = none := hhook.trans (due_hook hk)
  obtain ⟨e, hfin, he, hrep⟩ := finish_only n (due s).eng.frp { st := modEng f (due s), cost := cost } hnone rfl
  have hkept : standing e = standing (due s).eng := by rw [he]; exact hstand
  have hh : e.hook = none := by rw [he]; exact hnone
  have hw : e.w = (f (due s).eng).w := by rw [he]; rfl
  simp only [standing, Prod.mk.injEq, due_eng, deliverDue_sp, deliverDue_edges, deliverDue_aps, deliverDue_stackLim,
    deliverDue_decode, deliverDue_fie] at hkept
  obtain ⟨hram, hsp, hedges, haps, hlim, hdec, hdz, hie, hmul, hquo, hrem⟩ := hkept
  rw [retire, hfin]
  refine ⟨_, rfl, ⟨rfl, hram⟩, hsp, hedges, haps, hlim, hdec, hh, hdz, hie, hmul, hquo, hrem, fun hs => ?_, fun j hj ht => ?_⟩
  · obtain ⟨hc, hr⟩ := hrep (due_frp hs)
    exact ⟨hc.trans (hcount.trans (deliverDue_repcnt _)), hr.trans (hrp.trans (due_frp hs))⟩
  · exact (congrArg (vget · j 0) hw).trans ((hregs j hj ht).trans (wGet_deliverDue _ j))

theorem framed_regOp {touched : Nat → Prop} {f : EngSt → EngSt} {s : State} (h : EngReady 1 s) (hk : s.eng.hook = none)
    (hf : Computes touched f) : Framed touched s (engineNext plain (regOp f) s) := by
  rw [engineNext_regOp f h rfl]
  exact retire_framed hk hf 1 1

theorem framed_ldp (p : Fin 8) (x : Half) {s : State} (h : EngReady 2 s) (hk : s.eng.hook = none) :
    Framed (fun j => j = 2 * p.val ∨ j = 2 * p.val + 1) s (exec (.ldp p x) s) := by
  rw [exec_ldp, execLdp, engineNext_ready (x := { words := 2 }) _ h]
  exact retire_framed hk (computes_pSet p fun _ => x) 2 2

end Sys2Proof.Machine
end

section

open Sys2Proof Sys2Proof.Machine

/-- Settles O12: each row retires an operation that computes in registers, and retiring one keeps the frame. -/
theorem registerFrame : Obligations.RegisterFrame := by
  intro d r k b p q imm x s hk
  refine ⟨fun h => ⟨?_, ?_, ?_⟩, fun h => ?_⟩
  · iterate 25 refine List.forall_mem_cons.2 ⟨framed_regOp h hk (computes_aluTo d _), ?_⟩
    iterate 2 refine List.forall_mem_cons.2 ⟨framed_regOp h hk (computes_wSet d.isLt _), ?_⟩
    exact List.forall_mem_nil _
  · have htest : ∀ o, Framed (fun _ => False) s (engineNext plain (regOp (aluTest o)) s) :=
      fun o => framed_regOp h hk (computes_aluTest o)
    have hrest : ∀ f : EngSt → EngSt, Computes (fun _ => False) f → Framed (fun _ => False) s (engineNext plain (regOp f) s) :=
      fun f => framed_regOp h hk
    iterate 3 refine List.forall_mem_cons.2 ⟨htest _, ?_⟩
    iterate 6 refine List.forall_mem_cons.2 ⟨hrest _ fun _ => ⟨rfl, ⟨rfl, rfl, rfl⟩, fun _ _ _ => rfl⟩, ?_⟩
    exact List.forall_mem_nil _
  · iterate 2 refine List.forall_mem_cons.2 ⟨framed_regOp h hk (computes_pSet p _), ?_⟩
    exact List.forall_mem_nil _
  · exact framed_ldp p x h hk

end

section
/-! The edge cases of the shifts and rotates (R410, Table 13-9). -/
namespace Sys2Proof.Machine

open Sys2Proof

theorem aluShl_pos {k : Nat} (hk : k ≠ 0) (a : Byte) :
    aluShl a k = { outZN (a <<< k) with c := some (decide (k ≤ 8) && a.getLsbD (8 - k)) } := if_neg hk

theorem aluShr_pos {k : Nat} (hk : k ≠ 0) (a : Byte) :
    aluShr a k = { outZN (a >>> k) with c := some (decide (k ≤ 8) && a.getLsbD (k - 1)) } := if_neg hk

theorem aluSar_pos {k : Nat} (hk : k ≠ 0) (a : Byte) :
    aluSar a k = { outZN (a.sshiftRight k) with c := some (if k ≤ 8 then a.getLsbD (k - 1) else a.msb) } := if_neg hk

theorem sshiftRight_out {k : Nat} (hk : 8 ≤ k) (a : Byte) : a.sshiftRight k = if a.msb then 0xFF else 0x00 := by
  refine BitVec.eq_of_getLsbD_eq fun i hi => ?_
  rw [BitVec.getLsbD_sshiftRight, decide_eq_false (by omega), if_neg (by omega)]
  cases a.msb
  · simp
  · interval_cases i <;> rfl

theorem rotateLeft_zero (a : Byte) : a.rotateLeft 0 = a := by
  simp [BitVec.rotateLeft, BitVec.rotateLeftAux, BitVec.ushiftRight_eq_zero]

theorem rotateRight_zero (a : Byte) : a.rotateRight 0 = a := by
  simp [BitVec.rotateRight, BitVec.rotateRightAux, BitVec.shiftLeft_eq_zero]

/-- A rotate by a multiple of 8 leaves the value and C; another has C the last bit rotated round. -/
theorem aluRol_edges (a : Byte) (k : Nat) : (aluRol a k).val = a.rotateLeft (k % 8)
    ∧ (k % 8 = 0 → (aluRol a k).c = none) ∧ (k % 8 ≠ 0 → (aluRol a k).c = some ((aluRol a k).val.getLsbD 0)) := by
  by_cases hk : k % 8 = 0
  · simp [aluRol, hk, outZN, rotateLeft_zero]
  · simp [aluRol, hk, outZN]

theorem aluRor_edges (a : Byte) (k : Nat) : (aluRor a k).val = a.rotateRight (k % 8)
    ∧ (k % 8 = 0 → (aluRor a k).c = none) ∧ (k % 8 ≠ 0 → (aluRor a k).c = some ((aluRor a k).val.getLsbD 7)) := by
  by_cases hk : k % 8 = 0
  · simp [aluRor, hk, outZN, rotateRight_zero]
  · simp [aluRor, hk, outZN, BitVec.msb_eq_getLsbD_last]

end Sys2Proof.Machine
end

section

open Sys2Proof Sys2Proof.Machine

/-- Settles O9: the rows of Table 13-9 by their values, the shifts and rotates by the range of the count. -/
theorem arithmeticEdges : Obligations.ArithmeticEdges := by
  refine ⟨by decide, by decide, by decide, by decide, by decide, by decide, by decide, by decide, by decide, by decide,
    by decide, by decide, by decide, by decide, by decide, ?_⟩
  refine ⟨fun a k h1 h7 => ?_, fun a => ?_, fun a k h9 h15 => ?_, fun a k h8 h15 => ?_,
    fun a => ⟨rfl, rfl, rfl, rfl, rfl, rfl⟩, fun a k => ?_, fun d r s h => ?_⟩
  · rw [aluShl_pos (by omega), aluShr_pos (by omega), decide_eq_true (by omega : k ≤ 8)]
    exact ⟨rfl, rfl, rfl, rfl⟩
  · exact ⟨BitVec.shiftLeft_eq_zero (Nat.le_refl 8), rfl, BitVec.ushiftRight_eq_zero (Nat.le_refl 8), rfl⟩
  · rw [aluShl_pos (by omega), aluShr_pos (by omega), decide_eq_false (by omega : ¬k ≤ 8)]
    exact ⟨BitVec.shiftLeft_eq_zero (by omega), rfl, BitVec.ushiftRight_eq_zero (by omega), rfl⟩
  · rw [aluSar_pos (by omega)]
    refine ⟨sshiftRight_out h8 a, ?_⟩
    rcases Nat.eq_or_lt_of_le h8 with rfl | h9
    · exact congrArg some (BitVec.msb_eq_getLsbD_last a).symm
    · exact congrArg some (if_neg (by omega))
  · obtain ⟨hl, hl0, hl1⟩ := aluRol_edges a k
    obtain ⟨hr, hr0, hr1⟩ := aluRor_edges a k
    exact ⟨hl, hr, fun h => ⟨hl0 h, hr0 h⟩, fun h => ⟨hl1 h, hr1 h⟩⟩
  · exact ⟨engineNext_regOp _ h rfl, engineNext_regOp _ h rfl, engineNext_regOp _ h rfl⟩

end

section
/-! The multiplier and the divider: what they compute, and when it is delivered (R409). -/
namespace Sys2Proof.Machine

open Sys2Proof

/-! ### Products, quotients and remainders -/

theorem toInt_ofInt_of_fits {w : Nat} {i : Int} (hlo : -(2 ^ w : Nat) ≤ 2 * i) (hhi : 2 * i < (2 ^ w : Nat)) :
    (BitVec.ofInt w i).toInt = i := by
  rw [BitVec.toInt_ofInt]
  exact Int.bmod_eq_of_le_mul_two (by push_cast at *; omega) (by push_cast at *; omega)

theorem byte_toInt_bounds (a : Byte) : -128 ≤ a.toInt ∧ a.toInt ≤ 127 :=
  ⟨BitVec.le_toInt a, Int.le_of_lt_add_one (BitVec.toInt_lt (x := a))⟩

theorem mulUnsigned_toNat (a b : Byte) : (mulUnsigned a b).toNat = a.toNat * b.toNat := by
  have h : a.toNat * b.toNat ≤ 255 * 255 := Nat.mul_le_mul (Nat.le_of_lt_succ a.isLt) (Nat.le_of_lt_succ b.isLt)
  rw [mulUnsigned, BitVec.toNat_ofNat]
  exact Nat.mod_eq_of_lt (by omega)

theorem mulSigned_toInt (a b : Byte) : (mulSigned a b).toInt = a.toInt * b.toInt := by
  obtain ⟨ha, ha'⟩ := byte_toInt_bounds a
  obtain ⟨hb, hb'⟩ := byte_toInt_bounds b
  exact toInt_ofInt_of_fits (by push_cast; nlinarith) (by push_cast; nlinarith)

theorem divUnsigned_fits {a : Half} {b : Byte} (hb : b ≠ 0) (hq : a.toNat / b.toNat ≤ 255) :
    (divUnsigned a b).quo.toNat = a.toNat / b.toNat ∧ (divUnsigned a b).rem.toNat = a.toNat % b.toNat := by
  have hpos : b.toNat ≠ 0 := fun h => hb (BitVec.eq_of_toNat_eq h)
  have hrem : a.toNat % b.toNat < 256 := (Nat.mod_lt _ (Nat.pos_of_ne_zero hpos)).trans b.isLt
  rw [divUnsigned, if_neg hb, if_neg (by omega)]
  exact ⟨Nat.mod_eq_of_lt (by omega), Nat.mod_eq_of_lt hrem⟩

theorem divSigned_fits {a : Half} {b : Byte} (hb : b ≠ 0) (hlo : -128 ≤ a.toInt.tdiv b.toInt)
    (hhi : a.toInt.tdiv b.toInt ≤ 127) : (divSigned a b).quo.toInt = a.toInt.tdiv b.toInt
      ∧ (divSigned a b).rem.toInt = a.toInt.tmod b.toInt ∧ (divSigned a b).v = false ∧ (divSigned a b).dz = false := by
  obtain ⟨hb1, hb2⟩ := byte_toInt_bounds b
  have hpos : b.toInt ≠ 0 := fun h => hb (BitVec.eq_of_toInt_eq h)
  have hrem : (a.toInt.tmod b.toInt).natAbs < b.toInt.natAbs := by
    rw [Int.natAbs_tmod]
    exact Nat.mod_lt _ (Int.natAbs_pos.mpr hpos)
  rw [divSigned, if_neg hb, if_neg (by omega), if_neg (by omega)]
  exact ⟨toInt_ofInt_of_fits (by push_cast; omega) (by push_cast; omega),
    toInt_ofInt_of_fits (by push_cast; omega) (by push_cast; omega), rfl, rfl⟩

/-! ### Delivery -/

theorem deliverDue_no_product {e : EngSt} (h : e.mulDue = []) : (deliverDue e).mul = e.mul ∧ (deliverDue e).mulDue = [] := by
  unfold deliverDue
  simp only [h, List.filter_nil, List.foldl_nil]
  cases e.divDue with
  | none => exact ⟨rfl, rfl⟩
  | some d => by_cases h0 : d.left = 0 <;> simp [h0, takeQuotient]

theorem deliverDue_one_product {e : EngSt} {m : MulDue} (h : e.mulDue = [m]) :
    (deliverDue e).mul = if m.left = 0 then m.product else e.mul := by
  unfold deliverDue
  simp only [h]
  by_cases h0 : m.left = 0 <;> cases e.divDue <;> simp [h0, takeProduct, takeQuotient, apply_ite EngSt.mul]

theorem takeProducts_divide (l : List MulDue) (x : EngSt) :
    l.foldl (fun t m => takeProduct m t) x = { x with mul := (l.foldl (fun t m => takeProduct m t) x).mul } := by
  induction l generalizing x with
  | nil => rfl
  | cons m l ih => rw [List.foldl_cons, ih]; rfl

/-- What the divider holds in sight: the quotient, the remainder and the flags it delivers. -/
def divided (e : EngSt) := (e.quo, e.rem, e.fv, e.fdz)

theorem deliverDue_no_divide {e : EngSt} (h : ∀ d, e.divDue = some d → d.left ≠ 0) : divided (deliverDue e) = divided e := by
  unfold deliverDue
  extract_lets due x
  have hx : divided x = divided e ∧ x.divDue = e.divDue := by
    simp only [x]
    rw [takeProducts_divide]
    exact ⟨rfl, rfl⟩
  cases hd : x.divDue with
  | none => exact hx.1
  | some d =>
    have h0 : d.left ≠ 0 := h d (hx.2 ▸ hd)
    simp only [h0, if_false]
    exact hx.1

theorem deliverDue_divide {e : EngSt} {d : DivDue} (h : e.divDue = some d) (h0 : d.left = 0) :
    divided (deliverDue e) = (d.quo, d.rem, d.v, d.dz) ∧ (deliverDue e).divDue = none := by
  unfold deliverDue
  extract_lets due x
  have hx : x.divDue = some d := by
    simp only [x]
    rw [takeProducts_divide]
    exact h
  rw [hx]
  simp only [h0, if_true]
  exact ⟨rfl, rfl⟩

/-! ### A row outside a hook and a repetition -/

theorem retire_eq {n cost : Nat} {f : EngSt → EngSt} {u : State} (hk : (f u.eng).hook = none) (hr : u.eng.frp = false) :
    retire n cost f u = modEng (fun e => advance n (spendEng cost (f e))) u := by
  rw [retire, hr]
  exact finish_next hk cost []

/-- What is on its way, and what was delivered, does not move with the PC. -/
theorem advance_results (n : Nat) (e : EngSt) : (advance n e).mulDue = e.mulDue ∧ (advance n e).divDue = e.divDue
    ∧ (advance n e).mul = e.mul ∧ divided (advance n e) = divided e := by
  rw [advance_eq]
  exact ⟨rfl, rfl, rfl, rfl⟩

/-- A product issued (R409). -/
def issueMul (p : Half) (e : EngSt) : EngSt := { e with mulDue := e.mulDue ++ [⟨2, p⟩] }

/-- A product issued on an idle multiplier stands in MUL from the second cycle after. -/
theorem product_delivered {s t : State} {p : Half} (hm : s.eng.mulDue = []) (hk : s.eng.hook = none) (hr : s.eng.frp = false)
    (ht : t = retire 1 1 (issueMul p) (due s)) :
    (due t).eng.mul = s.eng.mul ∧ (due (spend 1 t)).eng.mul = p := by
  obtain ⟨hmul, hlist⟩ := deliverDue_no_product hm
  rw [retire_eq (f := issueMul p) (due_hook hk) (due_frp hr)] at ht
  obtain ⟨hdue, -, hstands, -⟩ := advance_results 1 (spendEng 1 (issueMul p (due s).eng))
  have hone : t.eng.mulDue = [⟨1, p⟩] := by
    rw [ht]
    refine hdue.trans ?_
    simp only [spendEng, issueMul, due_eng, hlist]
    rfl
  have hold : t.eng.mul = s.eng.mul := by
    rw [ht]
    exact hstands.trans hmul
  refine ⟨(deliverDue_one_product hone).trans hold, ?_⟩
  have hzero : (spend 1 t).eng.mulDue = [⟨0, p⟩] := by
    show t.eng.mulDue.map _ = _
    rw [hone]
    rfl
  exact deliverDue_one_product hzero

/-- A divide issued stands in QUO and REM, with V and DZ, from the tenth cycle after, and not before. -/
theorem divide_delivered {s t : State} {o : DivOut} (hk : s.eng.hook = none) (hr : s.eng.frp = false)
    (ht : t = retire 1 1 (issueDiv o) (due s)) :
    (∀ n, n < 9 → divided (due (spend n t)).eng = divided (due s).eng)
    ∧ divided (due (spend 9 t)).eng = (o.quo, o.rem, o.v, o.dz) ∧ (due (spend 9 t)).eng.divDue = none := by
  rw [retire_eq (f := issueDiv o) (due_hook hk) (due_frp hr)] at ht
  obtain ⟨-, hdue, -, hstands⟩ := advance_results 1 (spendEng 1 (issueDiv o (due s).eng))
  have hone : t.eng.divDue = some ⟨9, o.quo, o.rem, o.v, o.dz⟩ := by
    rw [ht]
    exact hdue
  have hold : divided t.eng = divided (due s).eng := by
    rw [ht]
    exact hstands
  have hleft : ∀ n, (spend n t).eng.divDue = some ⟨9 - n, o.quo, o.rem, o.v, o.dz⟩ := by
    intro n
    show t.eng.divDue.map _ = _
    rw [hone]
    rfl
  refine ⟨fun n hn => ?_, deliverDue_divide (hleft 9) rfl⟩
  refine (deliverDue_no_divide fun d hd => ?_).trans hold
  obtain rfl := Option.some.inj ((hleft n).symm.trans hd)
  exact Nat.sub_ne_zero_of_lt hn

end Sys2Proof.Machine
end

section
/-! The rows of the multiplier and the divider. -/
namespace Sys2Proof.Machine

open Sys2Proof

theorem mulDelivery_ready {s : State} {m : MulDue} {l : List MulDue} (hu : unitsRun s = true) (h : s.eng.mulDue = m :: l) :
    exec .mulDelivery s = .next { s with eng := { s.eng with mul := m.product, mulDue := l } } := by
  show execMulDelivery s = _
  rw [execMulDelivery, h]
  simp only [hu, if_true]
  rfl

theorem mulDelivery_idle {s : State} (h : unitsRun s = false ∨ s.eng.mulDue = []) : exec .mulDelivery s = .next s := by
  show execMulDelivery s = _
  rw [execMulDelivery]
  rcases h with h | h <;> rw [h]
  split <;> rfl

theorem divDelivery_ready {s : State} {x : DivDue} (hu : unitsRun s = true) (h : s.eng.divDue = some x) :
    exec .divDelivery s =
      .next { s with eng := { s.eng with quo := x.quo, rem := x.rem, fv := x.v, fdz := x.dz, divDue := none } } := by
  show execDivDelivery s = _
  rw [execDivDelivery, h]
  simp only [hu, if_true]
  rfl

theorem divDelivery_idle {s : State} (h : unitsRun s = false ∨ s.eng.divDue = none) : exec .divDelivery s = .next s := by
  show execDivDelivery s = _
  rw [execDivDelivery]
  rcases h with h | h <;> rw [h]
  split <;> rfl

end Sys2Proof.Machine
end

section

open Sys2Proof Sys2Proof.Machine

/-- Settles O13: the rows retire the issue of their result, and the results fall due by their cycles. -/
theorem multiplierDivider : Obligations.MultiplierDivider := by
  refine ⟨fun d r p s h => ?_, fun a b hb => ⟨divUnsigned_fits hb, divSigned_fits hb⟩, fun _ _ _ => mulDelivery_ready,
    fun _ _ => divDelivery_ready, fun _ => mulDelivery_idle, fun _ => divDelivery_idle⟩
  have hmulu : exec (.mulu d r) s = .next (retire 1 1 (issueMul (mulUnsigned (wGet (due s).eng d) (wGet (due s).eng r))) (due s)) :=
    engineNext_regOp _ h rfl
  have hmuls : exec (.muls d r) s = .next (retire 1 1 (issueMul (mulSigned (wGet (due s).eng d) (wGet (due s).eng r))) (due s)) :=
    engineNext_regOp _ h rfl
  have hdivu : exec (.divu p r) s = .next (retire 1 1 (issueDiv (divUnsigned (pGet (due s).eng p) (wGet (due s).eng r))) (due s)) :=
    engineNext_regOp _ h rfl
  refine ⟨hmulu, hmuls, hdivu, engineNext_regOp _ h rfl, fun hm hk hr t ht => ?_, fun hm hk hr t ht => ?_, fun hk hr t ht => ?_⟩
  · obtain ⟨hfirst, hsecond⟩ := product_delivered hm hk hr (Host.Outcome.next.inj (ht.symm.trans hmulu))
    refine ⟨hfirst, ?_⟩
    rw [hsecond, mulUnsigned_toNat]
    simp
  · obtain ⟨hfirst, hsecond⟩ := product_delivered hm hk hr (Host.Outcome.next.inj (ht.symm.trans hmuls))
    refine ⟨hfirst, ?_⟩
    rw [hsecond, mulSigned_toInt]
    simp
  · obtain ⟨hbefore, htenth, hnone⟩ := divide_delivered hk hr (Host.Outcome.next.inj (ht.symm.trans hdivu))
    simp only [divided, Prod.mk.injEq] at hbefore htenth
    obtain ⟨hquo, hrem, hv, hdz⟩ := htenth
    exact ⟨hbefore, hquo, hrem, hv, hdz, hnone⟩

end

section
/-! LD and ST (R400, R395), and the stack in RAM (R399). -/
namespace Sys2Proof.Machine

open Sys2Proof

/-! ### LD and ST -/

theorem ldstInc_leaves (p : Fin 8) (inc : Bool) (e : EngSt) : (ldstInc p inc e).hook = e.hook ∧ (ldstInc p inc e).sp = e.sp
    ∧ ∀ m, (ldstInc p inc { e with ram := m }).w = (ldstInc p inc e).w := by
  cases inc <;> exact ⟨rfl, rfl, fun _ => rfl⟩

/-- The pair that INC steps is the only one that moves. -/
theorem ldstInc_wGet {p : Fin 8} {inc : Bool} {j : Nat} (hj : inc = false ∨ (j ≠ 2 * p.val ∧ j ≠ 2 * p.val + 1)) (e : EngSt) :
    wGet (ldstInc p inc e) j = wGet e j := by
  cases inc
  · rfl
  · obtain ⟨hlo, hhi⟩ := hj.resolve_left (by simp)
    exact (wGet_pSet p.isLt _ e j).trans ((if_neg hhi.symm).trans (if_neg hlo.symm))

section
variable {d r : Fin 16} {p : Fin 8} {inc : Bool} {disp : Fin 16} {s : State} (h : EngReady 1 s)
include h

theorem ld_ready : exec (.ld d p inc disp) s = .next (finish 1 (due s).eng.frp (loadBody d p inc disp (due s))) :=
  engineNext_ready (x := plain) _ h

theorem st_ready : exec (.st r p inc disp) s = .next (finish 1 (due s).eng.frp (storeBody r p inc disp (due s))) :=
  engineNext_ready (x := plain) _ h

theorem ld_ram (hx : inExt (due s).eng = false) (ha : ldstAddr p disp (due s).eng < 0x8000) : exec (.ld d p inc disp) s =
    .next (retire 1 1 (fun e => ldstInc p inc (wSet d (memByte s.eng.ram (ldstAddr p disp (due s).eng)) e)) (due s)) := by
  rw [ld_ready h, loadBody, dataRead_ram _ _ hx ha, due_eng, deliverDue_ram]
  rfl

/-- ST to RAM outside the extension and a hook: the byte, the pair that steps, and the passage of an instruction. -/
theorem st_ram (hx : inExt (due s).eng = false) (ha : ldstAddr p disp (due s).eng < 0x8000) (hk : s.eng.hook = none) :
    ∃ t, exec (.st r p inc disp) s = .next t ∧ t = { s with eng := t.eng }
      ∧ t.eng.ram = memWrite (ldstAddr p disp (due s).eng) [wGet s.eng r] s.eng.ram ∧ t.eng.sp = s.eng.sp
      ∧ t.eng.w = (ldstInc p inc (due s).eng).w := by
  rw [st_ready h, storeBody, dataWrite_ram _ _ _ hx ha]
  obtain ⟨e, hfin, he, -⟩ := finish_only 1 (due s).eng.frp
    { st := modEng (fun e => ldstInc p inc { e with ram := memWrite (ldstAddr p disp (due s).eng) [wGet (due s).eng r] e.ram }) (due s) }
    ((ldstInc_leaves p inc _).1.trans (due_hook hk)) rfl
  refine ⟨_, congrArg _ hfin, rfl, ?_, ?_, ?_⟩ <;> rw [he]
  · simp
  · exact (ldstInc_leaves p inc _).2.1.trans (deliverDue_sp _)
  · exact (ldstInc_leaves p inc _).2.2 _

end

end Sys2Proof.Machine
end

section

open Sys2Proof Sys2Proof.Machine

/-- Settles O14: the rows run their bodies, and in RAM the access is one byte of the memory. -/
theorem loadStore : Obligations.LoadStore := by
  refine fun d r p inc disp s h => ⟨ld_ready h, st_ready h, fun ha hx => ⟨ld_ram h hx ha, fun hk => ?_⟩⟩
  obtain ⟨t, ht, hs, hram, hsp, hw⟩ := st_ram (r := r) h hx ha hk
  have hbyte : ∀ c, memByte t.eng.ram c = if c = _ then wGet s.eng r else memByte s.eng.ram c := fun c => by
    rw [hram]
    exact memByte_memWrite_one _ _ _ c
  refine ⟨t, ht, (hbyte _).trans (if_pos rfl), fun c hc => (hbyte c).trans (if_neg hc), ?_, ?_, ?_, ?_, hsp, fun j _ hj => ?_⟩
  iterate 4 rw [hs]
  exact (congrArg (vget · j 0) hw).trans ((ldstInc_wGet hj _).trans (wGet_deliverDue _ j))

end

section
/-! The rows of the stack (R399). -/
namespace Sys2Proof.Machine

open Sys2Proof

theorem pushOk_eq_false {e : EngSt} {n k : Nat} (hk : k < n) (h : (e.sp - BitVec.ofNat 16 (k + 1)).toNat < e.stackLim.toNat) :
    pushOk e n = false := by
  rw [pushOk, List.all_eq_false]
  exact ⟨k, List.mem_range.mpr hk, by simpa using h⟩

theorem popOk_eq_true {e : EngSt} {n : Nat} (h : e.sp.toNat + n ≤ 0x8000) : popOk e n = true := decide_eq_true h

theorem popOk_eq_false {e : EngSt} {n : Nat} (h : 0x8000 < e.sp.toNat + n) : popOk e n = false :=
  decide_eq_false (Nat.not_le.mpr h)

/-! ### Pushes and pops -/

theorem pushBody_refused {cost : Nat} {l : List Byte} {u : State} (h : pushOk u.eng l.length = false) :
    pushBody cost l u = { st := u, cost := cost, faults := [Src.engStackFault] } := by
  rw [pushBody, h]
  rfl

theorem popBody_refused {cost n : Nat} {put : List Byte → EngSt → EngSt} {u : State} (h : popOk u.eng n = false) :
    popBody cost n put u = { st := u, cost := cost, faults := [Src.engStackFault] } := by
  rw [popBody, h]
  rfl

/-- A push to RAM outside the extension moves SP and the bytes it names. -/
theorem pushBody_ram {cost : Nat} {l : List Byte} {u : State} (hx : inExt u.eng = false) (hlo : l.length ≤ u.eng.sp.toNat)
    (hhi : u.eng.sp.toNat ≤ 0x8000) (hlim : u.eng.stackLim.toNat ≤ u.eng.sp.toNat - l.length) :
    ∃ m, pushBody cost l u = { st := modEng (fun e => { e with sp := e.sp - BitVec.ofNat 16 l.length, ram := m }) u, cost := cost }
      ∧ ∀ a, memByte m a = if u.eng.sp.toNat - l.length ≤ a ∧ a < u.eng.sp.toNat then l.getD (u.eng.sp.toNat - 1 - a) 0
          else memByte u.eng.ram a := by
  obtain ⟨m, hst, hstall, hfaults, hbytes⟩ := pushBytes_ram l { st := u } hx hlo hhi
  refine ⟨m, ?_, hbytes⟩
  rw [pushBody, pushOk_ram _ _ hlo hlim]
  simp only [Bool.not_true, Bool.false_eq_true, if_false, hst, hstall, hfaults, Nat.add_zero]

theorem popBody_ram {cost n : Nat} {put : List Byte → EngSt → EngSt} {u : State} (hx : inExt u.eng = false)
    (hsp : u.eng.sp.toNat + n ≤ 0x8000) : popBody cost n put u = { st := modEng (fun e =>
      put ((List.range n).map (fun i => memByte u.eng.ram (u.eng.sp.toNat + i))) { e with sp := e.sp + BitVec.ofNat 16 n }) u
                                                                   cost := cost } := by
  obtain ⟨hl, hst, hstall, hfaults⟩ := popBytes_ram n { st := u } hx hsp
  rw [popBody, popOk_eq_true hsp]
  simp only [Bool.not_true, Bool.false_eq_true, if_false, hl, hst, hstall, hfaults, Nat.add_zero]
  rfl

/-- One byte pushed is one byte written. -/
theorem pushBody_byte {cost : Nat} {b : Byte} {u : State} (hx : inExt u.eng = false) (hlo : 1 ≤ u.eng.sp.toNat)
    (hhi : u.eng.sp.toNat ≤ 0x8000) (hlim : u.eng.stackLim.toNat ≤ u.eng.sp.toNat - 1) : pushBody cost [b] u =
      { st := modEng (fun e => { e with sp := e.sp - 1, ram := memWrite (u.eng.sp.toNat - 1) [b] e.ram }) u, cost := cost } := by
  have hsp : (u.eng.sp - 1).toNat = u.eng.sp.toNat - 1 := subNat_toNat u.eng.sp 1 hlo
  have hw := dataWrite_ram (u.eng.sp.toNat - 1) b (modEng (fun e => { e with sp := e.sp - 1 }) u) hx (by omega)
  rw [pushBody, pushOk_ram u.eng [b].length hlo hlim]
  simp only [Bool.not_true, Bool.false_eq_true, if_false, pushBytes, modEng_eng, hsp, hw]
  rfl

/-! ### Pairs of bytes -/

theorem pGet_toNat (e : EngSt) (p : Nat) : (pGet e p).toNat = (wGet e (2 * p)).toNat + 256 * (wGet e (2 * p + 1)).toNat := by
  rw [pGet, BitVec.toNat_ofNat]
  have hlo := (wGet e (2 * p)).isLt
  have hhi := (wGet e (2 * p + 1)).isLt
  omega

theorem pGet_high (e : EngSt) (p : Nat) : BitVec.ofNat 8 ((pGet e p).toNat / 256) = wGet e (2 * p + 1) := by
  apply BitVec.eq_of_toNat_eq
  have hlo := (wGet e (2 * p)).isLt
  have hhi := (wGet e (2 * p + 1)).isLt
  rw [pGet_toNat, BitVec.toNat_ofNat]
  omega

theorem pGet_low (e : EngSt) (p : Nat) : BitVec.ofNat 8 (pGet e p).toNat = wGet e (2 * p) := by
  apply BitVec.eq_of_toNat_eq
  have hlo := (wGet e (2 * p)).isLt
  rw [pGet_toNat, BitVec.toNat_ofNat]
  omega

theorem u16_pair (a b : Byte) : u16 [a, b] 0 = a.toNat + 256 * b.toNat := by simp [u16, uN, unle]

/-- A pair written from two bytes holds them. -/
theorem pSet_bytes (p : Nat) (a b : Byte) (e : EngSt) :
    pSet p (BitVec.ofNat 16 (u16 [a, b] 0)) e = wSet (2 * p + 1) b (wSet (2 * p) a e) := by
  have ha := a.isLt
  have hb := b.isLt
  have hlow : BitVec.ofNat 8 (BitVec.ofNat 16 (u16 [a, b] 0)).toNat = a := by
    apply BitVec.eq_of_toNat_eq
    rw [u16_pair, BitVec.toNat_ofNat, BitVec.toNat_ofNat]
    omega
  have hhigh : BitVec.ofNat 8 ((BitVec.ofNat 16 (u16 [a, b] 0)).toNat / 256) = b := by
    apply BitVec.eq_of_toNat_eq
    rw [u16_pair, BitVec.toNat_ofNat, BitVec.toNat_ofNat]
    omega
  rw [pSet, hlow, hhigh]

/-! ### The rows -/

section
variable {r d : Fin 16} {p : Fin 8} {s : State} (h : EngReady 1 s)
include h

theorem push_ready : exec (.push r) s = .next (finish 1 (due s).eng.frp (pushBody 1 [wGet (due s).eng r] (due s))) :=
  engineNext_ready (x := plain) _ h

theorem pushp_ready : exec (.pushp p) s =
    .next (finish 1 (due s).eng.frp (pushBody 2 [wGet (due s).eng (2 * p.val + 1), wGet (due s).eng (2 * p.val)] (due s))) := by
  rw [← pGet_high, ← pGet_low]
  exact engineNext_ready (x := plain) _ h

theorem pop_ready :
    exec (.pop d) s = .next (finish 1 (due s).eng.frp (popBody 1 1 (fun l e => wSet d (l.getD 0 0) e) (due s))) :=
  engineNext_ready (x := plain) _ h

theorem popp_ready :
    exec (.popp p) s = .next (finish 1 (due s).eng.frp (popBody 2 2 (fun l e => pSet p (BitVec.ofNat 16 (u16 l 0)) e) (due s))) :=
  engineNext_ready (x := plain) _ h

theorem call_ready (rel : BitVec 12) :
    exec (.call rel) s = .next (finish 1 (due s).eng.frp (callTo 1 3 (relTarget rel (due s).eng) (due s))) :=
  engineNext_ready (x := barred 1) _ h

theorem calli_ready : exec (.calli p) s = .next (finish 1 (due s).eng.frp (callTo 1 3 (pGet (due s).eng p) (due s))) :=
  engineNext_ready (x := barred 1) _ h

theorem ret_ready : exec .ret s = .next (finish 1 (due s).eng.frp (returnTo (due s))) :=
  engineNext_ready (x := barred 1) _ h

theorem reti_ready : exec .reti s = .next (finish 1 (due s).eng.frp (interruptReturn (due s))) :=
  engineNext_ready (x := barred 1) _ h

end

theorem callAbs_ready (t : Half) {s : State} (h : EngReady 2 s) :
    exec (.callAbs t) s = .next (finish 2 (due s).eng.frp (callTo 2 3 t (due s))) :=
  engineNext_ready (x := barred 2) _ h

theorem callTo_refused {n cost : Nat} {t : Half} {u : State} (hx : inExt u.eng = false) (h : pushOk u.eng 2 = false) :
    callTo n cost t u = { st := u, cost := cost, faults := [Src.engStackFault] } := by
  rw [callTo, hx, h]
  rfl

theorem returnTo_refused {u : State} (h : popOk u.eng 2 = false) :
    returnTo u = { st := u, cost := 3, faults := [Src.engStackFault] } := by
  rw [returnTo, h]
  rfl

theorem interruptReturn_refused {u : State} (h : popOk u.eng 4 = false) :
    interruptReturn u = { st := u, cost := 5, faults := [Src.engStackFault] } := by
  rw [interruptReturn, h]
  rfl

theorem enterLine_refused {k : Nat} {s : State} (h : pushOk (due s).eng 4 = false) :
    enterLine k s = raiseEng [Src.engStackFault] (due s) := by
  rw [enterLine]
  simp only [show pushOk (modEng deliverDue s).eng 4 = false from h]
  rfl

end Sys2Proof.Machine
end

section

open Sys2Proof Sys2Proof.Machine

/-- Settles O16: a push within the limit and a pop within RAM are accesses of bytes, the others only raise. -/
theorem stackRows : Obligations.StackRows := by
  refine ⟨fun r d p s h => ⟨fun hlo hhi hlim hx => ?_, fun hlo hhi hlim hx => ?_, fun hsp hx => ?_, fun hsp hx => ?_,
    fun hlim => ?_, fun hlim => ?_, fun hsp => ?_, fun hsp => ?_, fun hsp => ?_⟩, fun t s h hlim hx => ?_, fun k s hlim => ?_⟩
  · rw [push_ready h, pushBody_byte hx hlo hhi hlim]
    rfl
  · obtain ⟨m, hm, hbytes⟩ := pushBody_ram (cost := 2) (l := [wGet (due s).eng (2 * p.val + 1), wGet (due s).eng (2 * p.val)])
      hx hlo hhi hlim
    refine ⟨m, ?_, (hbytes _).trans ?_, (hbytes _).trans ?_, fun a h1 h2 => (hbytes a).trans (if_neg ?_)⟩
    · rw [pushp_ready h, hm]
      rfl
    · rw [if_pos (by simp only [List.length_cons, List.length_nil]; omega), Nat.sub_self]
      rfl
    · rw [if_pos (by simp only [List.length_cons, List.length_nil]; omega),
        show (due s).eng.sp.toNat - 1 - ((due s).eng.sp.toNat - 2) = 1 by omega]
      rfl
    · simp only [List.length_cons, List.length_nil]
      omega
  · rw [pop_ready h, popBody_ram hx hsp]
    rfl
  · rw [popp_ready h, popBody_ram hx hsp]
    simp only [List.range_succ, List.range_zero, List.nil_append, List.map_cons, List.map_nil,
      List.cons_append, pSet_bytes]
    rfl
  · have hone : ∀ n, 0 < n → pushOk (due s).eng n = false := fun n hn => pushOk_eq_false hn hlim
    rw [push_ready h, pushp_ready h, pushBody_refused (hone _ (by simp)), pushBody_refused (hone _ (by simp))]
    exact ⟨rfl, rfl⟩
  · have htwo : pushOk (due s).eng 2 = false := pushOk_eq_false Nat.one_lt_two hlim
    rw [pushp_ready h, pushBody_refused htwo]
    refine ⟨rfl, fun rel hx => ?_, fun hx => ?_⟩
    · rw [call_ready h, callTo_refused hx htwo]
    · rw [calli_ready h, callTo_refused hx htwo]
  · rw [pop_ready h, popBody_refused (popOk_eq_false hsp)]
  · rw [popp_ready h, ret_ready h, popBody_refused (popOk_eq_false hsp), returnTo_refused (popOk_eq_false hsp)]
    exact ⟨rfl, rfl⟩
  · rw [reti_ready h, interruptReturn_refused (popOk_eq_false hsp)]
  · have htwo : pushOk (due s).eng 2 = false := by
      rw [← deliverDue_stackLim] at hlim
      rcases hlim with h1 | h2
      · exact pushOk_eq_false Nat.two_pos h1
      · exact pushOk_eq_false Nat.one_lt_two h2
    rw [callAbs_ready t h, callTo_refused hx htwo, due_eng, deliverDue_frp]
  · rw [← deliverDue_stackLim] at hlim
    exact enterLine_refused (pushOk_eq_false (by decide : 3 < 4) hlim)

end

section
/-! Transfers, calls and returns outside the extension and at its edge (R400, R418). -/
namespace Sys2Proof.Machine

open Sys2Proof

/-! ### Jumps -/

theorem jumpTo_made {cost : Nat} {t : Half} {u : State} (hx : inExt u.eng = false) :
    jumpTo cost t u = { st := u, cost := cost, flow := .jump t } := by
  rw [jumpTo, hx]
  rfl

theorem jumpTo_barred {cost : Nat} {t : Half} {u : State} (hx : inExt u.eng = true) (ht : t.toNat < 0xC000) :
    jumpTo cost t u = { st := u, cost := cost, faults := [Src.engExtAccess] } := by
  rw [jumpTo, hx, decide_eq_true ht]
  rfl

theorem callTo_barred {n cost : Nat} {t : Half} {u : State} (hx : inExt u.eng = true) (ht : t.toNat < 0xC000) :
    callTo n cost t u = { st := u, cost := cost, faults := [Src.engExtAccess] } := by
  rw [callTo, hx, decide_eq_true ht]
  rfl

section
variable {p : Fin 8} {s : State} (h : EngReady 1 s)
include h

theorem bra_ready (rel : BitVec 12) :
    exec (.bra rel) s = .next (finish 1 (due s).eng.frp (jumpTo 2 (relTarget rel (due s).eng) (due s))) :=
  engineNext_ready (x := barred 1) _ h

theorem jmpi_ready : exec (.jmpi p) s = .next (finish 1 (due s).eng.frp (jumpTo 2 (pGet (due s).eng p) (due s))) :=
  engineNext_ready (x := barred 1) _ h

end

theorem jmp_ready (t : Half) {s : State} (h : EngReady 2 s) :
    exec (.jmp t) s = .next (finish 2 (due s).eng.frp (jumpTo 2 t (due s))) :=
  engineNext_ready (x := barred 2) _ h

/-- A jump made outside a hook and a repetition goes on at its target. -/
theorem finish_jumpTo {n cost : Nat} {t : Half} {u : State} (hx : inExt u.eng = false) (hk : u.eng.hook = none)
    (hr : u.eng.frp = false) : finish n u.eng.frp (jumpTo cost t u) = modEng (setPc t) (spend cost u) := by
  rw [jumpTo_made hx, hr, finish_jump hk]
  rfl

/-! ### Calls -/

/-- The two bytes of a return address as a call pushes them. -/
def returnBytes (n : Nat) (e : EngSt) : List Byte :=
  [BitVec.ofNat 8 ((pcPlus n e).toNat / 256), BitVec.ofNat 8 (pcPlus n e).toNat]

/-- RAM holds a return address below the SP of the call, and is otherwise as it was. -/
def Returns (n : Nat) (e : EngSt) (m : Memory) : Prop :=
  memByte m (e.sp.toNat - 1) = BitVec.ofNat 8 ((e.pc.toNat + n) % 65536 / 256)
  ∧ memByte m (e.sp.toNat - 2) = BitVec.ofNat 8 (e.pc.toNat + n)
  ∧ ∀ a, a ≠ e.sp.toNat - 1 → a ≠ e.sp.toNat - 2 → memByte m a = memByte e.ram a

theorem pcPlus_toNat (n : Nat) (e : EngSt) : (pcPlus n e).toNat = (e.pc.toNat + n) % 65536 := by
  rw [pcPlus, BitVec.toNat_add, BitVec.toNat_ofNat]
  omega

/-- The call is one from the firmware to the hook table (R417). -/
def hookCall (t : Half) (e : EngSt) : Bool := e.hook.isNone && decide (e.pc.toNat < 0xC000) && isHookWord t

/-- The engine once a hook call has saved what the hook needs. -/
def hooked (t ret : Half) (s : State) (e : EngSt) : EngSt :=
  { e with hook := (beginHook t ret s).eng.hook, lastHook := (beginHook t ret s).eng.lastHook }

theorem hookRuns_spend (n : Nat) (s : State) : hookRuns (spend n s).eng = hookRuns s.eng := by
  simp only [hookRuns, spend, modEng]
  cases s.eng.hook with
  | none => rfl
  | some h => by_cases h0 : h.inHandler = 0 <;> simp [h0]

theorem inExt_spend (n : Nat) (s : State) : inExt (spend n s).eng = inExt s.eng :=
  congrArg (· && decide (0xC000 ≤ s.eng.pc.toNat)) (hookRuns_spend n s)

/-- A call outside the extension pushes its return address; one to the hook table saves what the hook needs. -/
theorem callTo_made {n cost : Nat} {t : Half} {u : State} (hx : inExt u.eng = false) (hlo : 2 ≤ u.eng.sp.toNat)
    (hhi : u.eng.sp.toNat ≤ 0x8000) (hlim : u.eng.stackLim.toNat ≤ u.eng.sp.toNat - 2) :
    ∃ m, Returns n u.eng m ∧ callTo n cost t u = {
      st := modEng (fun e => bif hookCall t u.eng then hooked t (pcPlus n u.eng) (spend cost u) e else e)
        (modEng (fun e => { e with sp := e.sp - 2, ram := m }) (spend cost u))
      cost := 0, flow := .jump t } := by
  obtain ⟨m, hst, hstall, hfaults, hbytes⟩ := pushBytes_ram (returnBytes n u.eng) { st := spend cost u }
    ((inExt_spend cost u).trans hx) hlo hhi
  change ∀ a, memByte m a = if u.eng.sp.toNat - 2 ≤ a ∧ a < u.eng.sp.toNat
    then (returnBytes n u.eng).getD (u.eng.sp.toNat - 1 - a) 0 else memByte u.eng.ram a at hbytes
  refine ⟨m, ⟨(hbytes _).trans ?_, (hbytes _).trans ?_, fun a h1 h2 => (hbytes a).trans (if_neg ?_)⟩, ?_⟩
  · rw [if_pos (by omega), Nat.sub_self, ← pcPlus_toNat]
    rfl
  · rw [if_pos (by omega), show u.eng.sp.toNat - 1 - (u.eng.sp.toNat - 2) = 1 by omega]
    refine BitVec.eq_of_toNat_eq (Eq.trans (BitVec.toNat_ofNat ..) ?_)
    rw [pcPlus_toNat, BitVec.toNat_ofNat]
    omega
  · omega
  · rw [callTo, hx, pushOk_ram u.eng 2 hlo hlim]
    unfold returnBytes at hst hstall hfaults
    simp only [Bool.false_and, Bool.not_true, Bool.false_eq_true, if_false, hst, hstall, hfaults]
    cases hc : hookCall t u.eng <;> unfold hookCall at hc <;> rw [hc] <;> rfl

/-- A call to no hook word, outside a hook and a repetition, is the push of its return address and the transfer. -/
theorem finish_callTo {n : Nat} {t : Half} {u : State} (hx : inExt u.eng = false) (ht : isHookWord t = false)
    (hk : u.eng.hook = none) (hr : u.eng.frp = false) (hlo : 2 ≤ u.eng.sp.toNat) (hhi : u.eng.sp.toNat ≤ 0x8000)
    (hlim : u.eng.stackLim.toNat ≤ u.eng.sp.toNat - 2) : ∃ m, Returns n u.eng m ∧ finish n u.eng.frp (callTo n 3 t u) =
      { spend 3 u with eng := { (spend 3 u).eng with pc := t, wrap := false, sp := u.eng.sp - 2, ram := m } } := by
  obtain ⟨m, hret, hcall⟩ := callTo_made (n := n) (cost := 3) (t := t) hx hlo hhi hlim
  have hplain : hookCall t u.eng = false := by rw [hookCall, ht, Bool.and_false]
  refine ⟨m, hret, ?_⟩
  rw [hcall, hplain, hr, finish_jump (by rw [modEng_eng, modEng_eng, spend_eng 3 u hk]; exact hk), spend_zero]
  rfl

/-! ### Returns -/

/-- A return outside a hook pops its address and goes on there. -/
theorem returnTo_made {u : State} (hx : inExt u.eng = false) (hk : u.eng.hook = none) (hsp : u.eng.sp.toNat + 2 ≤ 0x8000) :
    returnTo u = { st := modEng (fun e => { e with sp := e.sp + 2 }) u, cost := 3, flow := .jump (BitVec.ofNat 16
      ((memByte u.eng.ram u.eng.sp.toNat).toNat + 256 * (memByte u.eng.ram (u.eng.sp.toNat + 1)).toNat)) } := by
  obtain ⟨hl, hst, hstall, hfaults⟩ := popBytes_ram 2 { st := u } hx hsp
  rw [returnTo, popOk_eq_true hsp, hk]
  simp only [Bool.not_true, Bool.false_eq_true, if_false, hx, Bool.false_and, hl, hst, hstall, hfaults, ← u16_pair]
  rfl

end Sys2Proof.Machine
end

section

open Sys2Proof Sys2Proof.Machine

/-- Settles O17: outside the extension a transfer is made, in it one out of the region is not. -/
theorem transfers : Obligations.Transfers := by
  refine ⟨fun rel p t s => ?_, fun rel p t s => ?_⟩
  · intro u e go near calls hx hr
    have hfrp : (due s).eng.frp = false := due_frp hr
    have hgo : ∀ {n x}, s.eng.hook = none → finish n (due s).eng.frp (jumpTo 2 x (due s)) = go 2 x :=
      fun hk => finish_jumpTo hx (due_hook hk) hfrp
    have hcall : ∀ {i n x}, exec i s = .next (finish n (due s).eng.frp (callTo n 3 x (due s))) → calls i n x := by
      intro i n x hi ht hk hlo hhi hlim
      obtain ⟨m, ⟨hhigh, hlow, hrest⟩, hfin⟩ := finish_callTo (n := n) (t := x) hx ht hk hfrp hlo hhi hlim
      exact ⟨_, hi.trans (congrArg _ hfin), rfl, hhigh, hlow, hrest⟩
    refine ⟨fun h => ⟨fun hk => ⟨?_, ?_⟩, hcall (call_ready h rel), hcall (calli_ready h), fun hk hsp => ?_⟩,
      fun h => ⟨fun hk => ?_, hcall (callAbs_ready t h)⟩⟩
    · rw [bra_ready h, hgo hk]
      rfl
    · rw [jmpi_ready h, hgo hk]
    · rw [ret_ready h, returnTo_made hx (due_hook hk) hsp, hfrp, finish_jump (by exact due_hook hk)]
      rfl
    · rw [jmp_ready t h, hgo hk]
  · intro u e out near hx
    have hjump : ∀ {i n x}, exec i s = .next (finish n e.frp (jumpTo 2 x u)) → x.toNat < 0xC000 → exec i s = out n 2 :=
      fun hi ht => by rw [hi, jumpTo_barred hx ht]
    have hcall : ∀ {i n x}, exec i s = .next (finish n e.frp (callTo n 3 x u)) → x.toNat < 0xC000 → exec i s = out n 3 :=
      fun hi ht => by rw [hi, callTo_barred hx ht]
    exact ⟨fun h => ⟨fun ht => ⟨hjump (bra_ready h rel) ht, hcall (call_ready h rel) ht⟩,
      fun ht => ⟨hjump (jmpi_ready h) ht, hcall (calli_ready h) ht⟩⟩,
      fun h ht => ⟨hjump (jmp_ready t h) ht, hcall (callAbs_ready t h) ht⟩⟩

end

section
/-! Skips and repetition (R402, R407). -/
namespace Sys2Proof.Machine

open Sys2Proof

/-- An operation that cycles do not look at, and the end of its instruction. -/
theorem finish_modEng {n cost : Nat} {l : List Nat} {f : EngSt → EngSt} {u : State} (hk : (f u.eng).hook = none)
    (hf : ∀ e, spendEng cost (f e) = f (spendEng cost e)) : finish n false { st := modEng f u, cost := cost, faults := l } =
      raiseEng l { spend cost u with eng := advance n (f (spend cost u).eng) } := by
  rw [finish_next hk, spend_modEng, modEng_modEng, modEng_modEng]
  simp only [hf]
  rfl

/-! ### Skips -/

/-- The conditions in the order of Table 13-8. -/
theorem condHolds_table (k : Fin 16) (e : EngSt) : condHolds k e =
    [e.fz, !e.fz, e.fc, !e.fc, e.fn, !e.fn, e.fv, !e.fv, e.fdz, !e.fdz, !e.fc && !e.fz, e.fc || e.fz,
      e.fn ^^ e.fv, !(e.fn ^^ e.fv), !(e.fn ^^ e.fv) && !e.fz, (e.fn ^^ e.fv) || e.fz].getD k.val false := by
  have heq : (e.fn == e.fv) = !(e.fn ^^ e.fv) := by cases e.fn <;> cases e.fv <;> rfl
  fin_cases k
  pick_goal 14
  · exact heq
  pick_goal 14
  · exact congrArg (· && !e.fz) heq
  all_goals rfl

section
variable {s : State} (h : EngReady 1 s)
include h

theorem skip_ready (k : Fin 16) :
    exec (.skip k) s = .next (retire 1 1 (fun e => { e with skipNext := condHolds k (due s).eng }) (due s)) :=
  engineNext_regOp_barred _ h rfl

theorem skbc_ready (d : Fin 16) (b : Fin 8) : exec (.skbc d b) s =
    .next (retire 1 1 (fun e => { e with skipNext := !(wGet (due s).eng d).getLsbD b.val }) (due s)) :=
  engineNext_regOp_barred _ h rfl

theorem skbs_ready (d : Fin 16) (b : Fin 8) : exec (.skbs d b) s =
    .next (retire 1 1 (fun e => { e with skipNext := (wGet (due s).eng d).getLsbD b.val }) (due s)) :=
  engineNext_regOp_barred _ h rfl

end

/-- What a skip decides is passed over in one cycle. -/
theorem skipRow_over {x : Shape} {u : State} (hk : u.eng.hook = none) (hx : x.isRep = false ∨ u.eng.repFirst = true) :
    skipRow x u = { spend 1 u with
      eng := advance x.words { (spend 1 u).eng with skipNext := false, repFirst := false } } := by
  have hc : (x.isRep && !u.eng.repFirst) = false := by rcases hx with h | h <;> simp [h]
  rw [skipRow, hc]
  exact finish_modEng hk fun _ => rfl

/-- A REP a skip decides waits for the instruction it governs. -/
theorem skipRow_rep {x : Shape} {u : State} (hk : u.eng.hook = none) (hx : x.isRep = true) (hr : u.eng.repFirst = false) :
    skipRow x u = { u with eng := advance x.words { u.eng with repFirst := true } } := by
  rw [skipRow, hx, hr, Bool.not_false, Bool.and_self, if_pos rfl,
    finish_modEng (f := fun e => { e with repFirst := true }) hk fun _ => rfl, spend_zero]
  rfl

theorem engineRow_skipped {i : Instr} {n : Nat} {s : State} (hi : EngineRow i n) (h : EngSkips n s) :
    ∃ x : Shape, x.words = n ∧ x.isRep = isRepRow i ∧ exec i s = .next (skipRow x (due s)) := by
  obtain ⟨x, body, hx⟩ := engineRow_exec hi
  obtain ⟨hexec, hwords, hrep, -⟩ := hx s
  exact ⟨_, hwords, hrep, hexec.trans (congrArg _ (runRow_skip _ _ _ (hwords.symm ▸ h)))⟩

/-! ### Repetition -/

theorem repImm_ready (n : Byte) {s : State} (h : EngReady 1 s) :
    exec (.repImm n) s = .next (finish 1 (due s).eng.frp (startRep n (due s))) :=
  engineNext_ready (x := repShape) _ h

theorem repReg_ready (r : Fin 16) {s : State} (h : EngReady 1 s) :
    exec (.repReg r) s = .next (finish 1 (due s).eng.frp (startRep (wGet (due s).eng r) (due s))) :=
  engineNext_ready (x := repShape) _ h

theorem finish_startRep {c : Byte} {u : State} (hk : u.eng.hook = none) (hr : u.eng.frp = false) :
    finish 1 u.eng.frp (startRep c u) = { spend 1 u with
      eng := advance 1 { (spend 1 u).eng with repcnt := c, frp := c != 0, repFirst := true } } := by
  rw [hr]
  exact finish_modEng hk fun _ => rfl

/-- An instruction that REP may not precede raises and is passed over; one with a count of 0 is passed over. -/
theorem governed_over {i : Instr} {n : Nat} {s : State} (hi : EngineRow i n) (h : EngGoverned n s) (hk : s.eng.hook = none) :
    (barsRep s i = true → exec i s = .next (raiseEng [Src.engIllegalRep] { spend 1 (due s) with
      eng := advance n { (spend 1 (due s)).eng with repFirst := false, frp := false, repcnt := 0 } }))
    ∧ (barsRep s i = false → s.eng.repcnt = 0 → exec i s = .next { spend 1 (due s) with
      eng := advance n { (spend 1 (due s)).eng with repFirst := false } }) := by
  obtain ⟨x, body, hx⟩ := engineRow_exec hi
  obtain ⟨hexec, rfl, -, hbar⟩ := hx s
  rw [hexec, runRow_governed _ _ _ h, hbar]
  refine ⟨fun hb => congrArg _ ?_, fun hb h0 => congrArg _ ?_⟩
  · rw [hb]
    exact finish_modEng (f := fun e => { e with repFirst := false, frp := false, repcnt := 0 }) (due_hook hk) fun _ => rfl
  · simp only [hb, h0, Bool.not_false, Bool.not_true, Bool.false_eq_true, if_false, if_true]
    exact finish_modEng (f := fun e => { e with repFirst := false }) (due_hook hk) fun _ => rfl

theorem takeProducts_repFirst_off (l : List MulDue) (x : EngSt) : l.foldl (fun t m => takeProduct m t) { x with repFirst := false } =
    { l.foldl (fun t m => takeProduct m t) x with repFirst := false } := by
  induction l generalizing x with
  | nil => rfl
  | cons m l ih => exact ih (takeProduct m x)

/-- Delivery does not look at a REP that governs. -/
theorem deliverDue_repFirst_off (e : EngSt) :
    deliverDue { e with repFirst := false } = { deliverDue e with repFirst := false } := by
  have h := takeProducts_repFirst_off (e.mulDue.filter (fun m => m.left == 0))
    { e with mulDue := e.mulDue.filter (fun m => m.left != 0) }
  dsimp only [deliverDue] at h ⊢
  rw [h]
  dsimp only
  split
  · split <;> rfl
  · rfl

/-- A governed instruction with iterations to run is executed as in a repetition under way. -/
theorem governed_runs {i : Instr} {n : Nat} {s : State} (hi : EngineRow i n) (h : EngGoverned n s)
    (hb : barsRep s i = false)
    (h0 : s.eng.repcnt ≠ 0) (hr : s.eng.frp = true) : exec i s = exec i { s with eng := { s.eng with repFirst := false } } := by
  obtain ⟨x, body, hx⟩ := engineRow_exec hi
  obtain ⟨hexec, rfl, -, hbar⟩ := hx s
  have ⟨hruns, hfetch, hskip, _⟩ := h
  have hdue : due { s with eng := { s.eng with repFirst := false } } = modEng (fun e => { e with repFirst := false }) (due s) :=
    congrArg (fun e => { s with eng := e }) (deliverDue_repFirst_off s.eng)
  have hready : EngReady (x s.eng.decode).words { s with eng := { s.eng with repFirst := false } } :=
    ⟨hruns, by rw [hdue]; exact hfetch, hskip, rfl⟩
  rw [hexec, (hx _).1, runRow_governed _ _ _ h, runRow_ready _ _ _ hready, hdue, hbar, hb]
  simp only [Bool.not_false, Bool.not_true, Bool.false_eq_true, if_false, h0, modEng_eng, due_eng, deliverDue_frp, hr]

/-- An iteration of an operation that leaves the count and the hook. -/
theorem retire_iteration {f : EngSt → EngSt} {u : State} (hf : ∀ e, (f e).repcnt = e.repcnt ∧ (f e).hook = e.hook)
    (hk : u.eng.hook = none) (hr : u.eng.frp = true) :
    (1 < u.eng.repcnt.toNat → retire 1 1 f u = { spend 1 (modEng f u) with
      eng := { (spend 1 (modEng f u)).eng with repcnt := u.eng.repcnt - 1 } })
    ∧ (u.eng.repcnt.toNat ≤ 1 → retire 1 1 f u = { spend 1 (modEng f u) with
      eng := advance 1 { (spend 1 (modEng f u)).eng with repcnt := 0, frp := false } }) := by
  have hcnt : (modEng f u).eng.repcnt = u.eng.repcnt := (hf _).1
  rw [retire, hr, finish_rep 1 _ ((hf _).2.trans hk)]
  simp only [hcnt]
  refine ⟨fun h => ?_, fun h => ?_⟩
  · rw [if_neg (by omega), ← hcnt]
    rfl
  · rw [if_pos h]
    rfl

end Sys2Proof.Machine
end

section

open Sys2Proof Sys2Proof.Machine

/-- Settles O18: a skip is a change of one register, and what it decides is passed over. -/
theorem skips : Obligations.Skips := by
  refine ⟨fun k d b s h => ⟨?_, skbc_ready h d b, skbs_ready h d b⟩, fun i n s hi h hk => ?_⟩
  · exact (skip_ready h k).trans (by rw [condHolds_table])
  · obtain ⟨x, rfl, hrep, hexec⟩ := engineRow_skipped hi h
    refine ⟨fun hc => ?_, fun hi hr => ?_⟩
    · rw [hexec, skipRow_over (due_hook hk) (by rwa [hrep, due_eng, deliverDue_repFirst])]
    · rw [hexec, skipRow_rep (due_hook hk) (hrep.trans hi) (by rwa [due_eng, deliverDue_repFirst])]

/-- Settles O20: REP, what it bars or passes over, and the iterations one by one. -/
theorem repetition : Obligations.Repetition := by
  refine ⟨fun n r s h hk hr => ?_, fun i n s hi h hk => governed_over hi h hk, fun f u hf hk hr => retire_iteration hf hk hr,
    fun i n s hi h hb h0 hr => governed_runs hi h hb h0 hr, fun b e h => ?_, fun b e h => ?_⟩
  · rw [repImm_ready n h, repReg_ready r h, finish_startRep (due_hook hk) (due_frp hr), finish_startRep (due_hook hk) (due_frp hr)]
    exact ⟨rfl, rfl⟩
  · rw [srWrite, h]
    rfl
  · rw [srWrite, h]
    rfl

end

section
/-! Loops: LOOP, the end test and LBREAK (R403, R405). -/
namespace Sys2Proof.Machine

open Sys2Proof

/-! ### The end test -/

theorem advance_past {n : Nat} {e : EngSt}
    (h : e.ldepth = 0 ∨ e.loop.lend.toNat < e.pc.toNat ∨ e.pc.toNat + n ≤ e.loop.lend.toNat) :
    advance n e = setNext (e.pc.toNat + n) e := if_neg (by omega)

theorem advance_end {n : Nat} {e : EngSt} (h0 : 0 < e.ldepth) (h1 : e.pc.toNat ≤ e.loop.lend.toNat)
    (h2 : e.loop.lend.toNat < e.pc.toNat + n) : advance n e = endTest (e.pc.toNat + n) e := if_pos ⟨h0, h1, h2⟩

/-- The engine once the innermost loop gave way to the enclosing loop `l`. -/
def outerLoop (l : LoopRegs) (t : List LoopRegs) (e : EngSt) : EngSt :=
  { e with loop := l, loopStack := t, ldepth := e.ldepth - 1 }

theorem popLoop_cons {e : EngSt} {l : LoopRegs} {t : List LoopRegs} (h : e.loopStack = l :: t) : popLoop e = outerLoop l t e := by
  rw [popLoop, h]
  rfl

theorem endLoop_last {k next : Nat} {e : EngSt} (hd : e.ldepth = 1) (hs : e.loopStack = []) :
    endLoop (k + 1) next e = setNext next { e with ldepth := 0 } := by
  rw [endLoop, popLoop, hs]
  simp only [hd, Nat.sub_self, Nat.lt_irrefl, false_and, if_false]

theorem endLoop_succ (k next : Nat) (e : EngSt) : endLoop (k + 1) next e =
    if 0 < (popLoop e).ldepth ∧ (popLoop e).loop.lend = e.loop.lend then
      (if 1 < (popLoop e).loop.lcount.toNat then
        setPc (popLoop e).loop.lstart { popLoop e with loop := { (popLoop e).loop with lcount := (popLoop e).loop.lcount - 1 } }
       else endLoop k next (popLoop e))
    else setNext next (popLoop e) := rfl

theorem endLoop_apart {k next : Nat} {e : EngSt} {l : LoopRegs} {t : List LoopRegs} (hs : e.loopStack = l :: t)
    (hl : l.lend ≠ e.loop.lend) : endLoop (k + 1) next e = setNext next (outerLoop l t e) := by
  rw [endLoop_succ, popLoop_cons hs]
  exact if_neg fun h => hl h.2

theorem endLoop_shared {k next : Nat} {e : EngSt} {l : LoopRegs} {t : List LoopRegs} (hd : 1 < e.ldepth)
    (hs : e.loopStack = l :: t) (hl : l.lend = e.loop.lend) : endLoop (k + 1) next e =
      if 1 < l.lcount.toNat then setPc l.lstart (outerLoop { l with lcount := l.lcount - 1 } t e)
      else endLoop k next (outerLoop l t e) := by
  rw [endLoop_succ, popLoop_cons hs]
  exact if_pos ⟨Nat.sub_pos_of_lt hd, hl⟩

/-- The chain of ends is no longer than the loops there are. -/
theorem endLoop_enough {k next : Nat} {e : EngSt} (h0 : 0 < e.ldepth) (hk : e.ldepth ≤ k) :
    endLoop (k + 1) next e = endLoop k next e := by
  induction k generalizing e with
  | zero => omega
  | succ k ih =>
    have hpop : (popLoop e).ldepth = e.ldepth - 1 := by unfold popLoop; split <;> rfl
    rw [endLoop_succ (k + 1), endLoop_succ k next e]
    split
    · rename_i hin
      split
      · rfl
      · exact ih hin.1 (by omega)
    · rfl

/-! ### Cycles and the end of a loop -/

theorem endLoop_spendEng (c k next : Nat) (e : EngSt) : endLoop k next (spendEng c e) = spendEng c (endLoop k next e) := by
  induction k generalizing e with
  | zero => rfl
  | succ k ih =>
    have hpop : popLoop (spendEng c e) = spendEng c (popLoop e) := by
      unfold popLoop
      rw [show (spendEng c e).loopStack = e.loopStack from rfl]
      split <;> rfl
    rw [endLoop_succ, endLoop_succ, hpop]
    show (if 0 < (popLoop e).ldepth ∧ (popLoop e).loop.lend = e.loop.lend then _ else _) = _
    split
    · show (if 1 < (popLoop e).loop.lcount.toNat then _ else _) = _
      split
      · rfl
      · exact ih _
    · rfl

theorem endLoop_hook (k next : Nat) (e : EngSt) : (endLoop k next e).hook = e.hook := by
  have hpop : ∀ x : EngSt, (popLoop x).hook = x.hook := fun x => by unfold popLoop; split <;> rfl
  induction k generalizing e with
  | zero => rfl
  | succ k ih =>
    rw [endLoop_succ]
    split
    · split
      · exact hpop e
      · exact (ih _).trans (hpop e)
    · exact hpop e

/-! ### LOOP -/

/-- The body of a LOOP is not empty and ends in the region of its PC. -/
def BodyFits (len : Half) (e : EngSt) : Prop :=
  len ≠ 0 ∧ e.pc.toNat + 2 + len.toNat - 1 < (if e.pc.toNat < 0xC000 then 0xC000 else 0x10000)

theorem bodyFits_test {len : Half} {e : EngSt} : BodyFits len e ↔
    ¬(len = 0 ∨ (if e.pc.toNat < 0xC000 then 0xC000 else 0x10000) ≤ e.pc.toNat + 2 + len.toNat - 1) := by
  rw [BodyFits, not_or, not_le]

/-- LOOP by its two tests: the body does not fit, the loops are four deep already. -/
theorem startLoop_eq {c len : Half} {u : State} (bad deep : Bool)
    (hbad : decide (len = 0 ∨ (if u.eng.pc.toNat < 0xC000 then 0xC000 else 0x10000) ≤ u.eng.pc.toNat + 2 + len.toNat - 1) = bad)
    (hdeep : decide (c ≠ 0 ∧ 4 ≤ u.eng.ldepth) = deep) : startLoop c len u =
      if bad || deep || c = 0 then
        { st := u, cost := 2, flow := .over len.toNat
          faults := (if bad then [Src.engIllegalOpcode] else []) ++ (if deep then [Src.engLoopOverflow] else []) }
      else
        { st := modEng (fun e => { e with
            loopStack := if 1 ≤ e.ldepth then e.loop :: e.loopStack else e.loopStack
            loop := {
              lstart := BitVec.ofNat 16 (u.eng.pc.toNat + 2), lend := BitVec.ofNat 16 (u.eng.pc.toNat + 2 + len.toNat - 1), lcount := c }
            ldepth := e.ldepth + 1 }) u
          cost := 2 } := by
  subst hbad hdeep
  rfl

theorem loopImm_ready (n : Byte) (len : Half) {s : State} (h : EngReady 2 s) :
    exec (.loopImm n len) s = .next (finish 2 (due s).eng.frp (startLoop (n.setWidth 16) len (due s))) :=
  engineNext_ready (x := barred 2) _ h

theorem loopReg_ready (p : Fin 8) (len : Half) {s : State} (h : EngReady 2 s) :
    exec (.loopReg p len) s = .next (finish 2 (due s).eng.frp (startLoop (pGet (due s).eng p) len (due s))) :=
  engineNext_ready (x := barred 2) _ h

/-! ### LBREAK -/

theorem lbreak_ready {s : State} (h : EngReady 1 s) : exec .lbreak s = .next (finish 1 (due s).eng.frp (breakLoop (due s))) :=
  engineNext_ready (x := barred 1) _ h

theorem breakLoop_none {u : State} (h : u.eng.ldepth = 0) : breakLoop u = { st := u, faults := [Src.engIllegalOpcode] } :=
  if_pos h

theorem finish_breakLoop {u : State} (h : 1 ≤ u.eng.ldepth) (hx : inExt u.eng = false) (hk : u.eng.hook = none) :
    finish 1 false (breakLoop u) =
      { spend 2 u with eng := endLoop 4 ((spend 2 u).eng.loop.lend.toNat + 1) (spend 2 u).eng } := by
  have hend : ∀ n, (endLoop 4 n u.eng).hook = u.eng.hook := fun n => endLoop_hook 4 n u.eng
  rw [breakLoop, if_neg (by omega), hx, Bool.false_and, if_neg Bool.false_ne_true, finish_done ((hend _).trans hk)]
  exact congrArg (fun e => { u with eng := e }) (endLoop_spendEng 2 4 (u.eng.loop.lend.toNat + 1) u.eng).symm

end Sys2Proof.Machine
end

section

open Sys2Proof Sys2Proof.Machine

/-- Settles O19: LOOP by its two tests, the end test by the loops there are, LBREAK as the end of the innermost one. -/
theorem loops : Obligations.Loops := by
  refine ⟨fun n p len s h hk hr => ?_, fun n e _ => ⟨advance_past, fun h0 h1 h2 => ⟨fun hc => ?_, fun hc => ?_⟩⟩,
    fun next e h0 h4 => ⟨endLoop_last, fun l t hd hs => ⟨endLoop_apart hs, fun hl hc => ?_, fun hl hc => ?_⟩⟩,
    fun s h hk hr => ⟨fun h0 => ?_, fun h1 => ?_⟩⟩
  · intro u e v loops
    have hover : ∀ l, finish 2 (due s).eng.frp { st := due s, cost := 2, flow := .over len.toNat, faults := l } =
        raiseEng l { v with eng := advance (2 + len.toNat) v.eng } := fun l => by
      rw [due_frp hr]
      exact finish_over (due_hook hk) 2 l _
    have hloop : ∀ {i c}, exec i s = .next (finish 2 (due s).eng.frp (startLoop c len (due s))) → loops i c := by
      intro i c hi
      refine ⟨fun (hf : BodyFits len e) hc => ?_, fun (hf : BodyFits len e) hc hd => ?_, fun (hf : BodyFits len e) hc hd => ?_,
        fun (hf : ¬BodyFits len e) hc => ?_, fun (hf : ¬BodyFits len e) hc hd => ?_⟩
      · rw [hi, startLoop_eq false false (decide_eq_false (bodyFits_test.mp hf)) (decide_eq_false (by simp [hc])), if_pos (by simp [hc])]
        exact congrArg _ (hover [])
      · rw [hi, startLoop_eq false false (decide_eq_false (bodyFits_test.mp hf)) (decide_eq_false fun h => Nat.not_le.mpr hd h.2),
          if_neg (by simpa using hc), due_frp hr]
        exact congrArg _ (finish_modEng (due_hook hk) fun _ => rfl)
      · rw [hi, startLoop_eq false true (decide_eq_false (bodyFits_test.mp hf)) (decide_eq_true ⟨hc, hd⟩), if_pos (by simp)]
        exact congrArg _ (hover [Src.engLoopOverflow])
      · rw [hi, startLoop_eq true false (decide_eq_true (not_not.mp (mt bodyFits_test.mpr hf)))
          (decide_eq_false fun h => hc.elim h.1 (Nat.not_lt.mpr h.2)), if_pos (by simp)]
        exact congrArg _ (hover [Src.engIllegalOpcode])
      · rw [hi, startLoop_eq true true (decide_eq_true (not_not.mp (mt bodyFits_test.mpr hf))) (decide_eq_true ⟨hc, hd⟩), if_pos (by simp)]
        exact congrArg _ (hover [Src.engIllegalOpcode, Src.engLoopOverflow])
    exact ⟨hloop (loopImm_ready n len h), hloop (loopReg_ready p len h)⟩
  · rw [advance_end h0 h1 h2]
    exact if_pos hc
  · rw [advance_end h0 h1 h2]
    exact if_neg (by omega)
  · rw [endLoop_shared hd hs hl, if_pos hc]
    rfl
  · rw [endLoop_shared hd hs hl, if_neg (by omega)]
    exact (endLoop_enough (Nat.sub_pos_of_lt hd) (Nat.sub_le_of_le_add h4)).symm
  · rw [lbreak_ready h, breakLoop_none ((deliverDue_ldepth _).trans h0), due_frp hr]
  · rw [lbreak_ready h, due_frp hr, finish_breakLoop ((deliverDue_ldepth _).symm ▸ h1) (inExt_of_no_hook (due_hook hk)) (due_hook hk)]

end

section
/-! Interrupts: the entry of a line, RETI and WAIT (R411, R413). -/
namespace Sys2Proof.Machine

open Sys2Proof

/-! ### The line taken -/

theorem lineReady_iff (s : State) (k : Nat) :
    lineReady s k = true ↔ linePending s k = true ∧ (shw s Reg.engIrqEn).getLsbD k = true := by
  rw [lineReady, Bool.and_eq_true]
  rfl

theorem firstLine_lowest {s : State} {k : Nat} (h : firstLine s = some k) : k < 24 ∧ lineReady s k = true
    ∧ ∀ j, j < k → lineReady s j = false := by
  obtain ⟨hk, hmem, hlow⟩ := List.find?_range_eq_some.mp h
  exact ⟨List.mem_range.mp hmem, hk, fun j hj => by simpa using hlow j hj⟩

/-! ### The entry of a line -/

/-- The engine as the entry of a line leaves it before its pushes (R411). -/
def lineTaken (k : Nat) (e : EngSt) : EngSt := { e with
  waiting := false, handler := e.handler + 1, edges := e.edges &&& ~~~(1#32 <<< k)
  hook := e.hook.map (fun (h : HookSave) => { h with inHandler := h.inHandler + 1 }) }

/-- The bytes the entry of a line pushes, the first one highest. -/
def entryPushes (e : EngSt) : List Byte :=
  [BitVec.ofNat 8 (e.pc.toNat / 256), BitVec.ofNat 8 e.pc.toNat, flagsByte e, e.repcnt]

theorem lineTaken_no_hook {k : Nat} {e : EngSt} (h : e.hook = none) : lineTaken k e =
    { e with waiting := false, handler := e.handler + 1, edges := e.edges &&& ~~~(1#32 <<< k) } := by
  rw [lineTaken, h]
  rfl

theorem modEng_congr {f g : EngSt → EngSt} {s : State} (h : f s.eng = g s.eng) : modEng f s = modEng g s :=
  congrArg (fun e => { s with eng := e }) h

theorem enterLine_pushes {k : Nat} {s : State} (h : pushOk (due s).eng 4 = true) : enterLine k s =
    raiseEng (pushBytes (entryPushes (due s).eng) { st := modEng (lineTaken k) (due s) }).faults
      (modEng (fun e => setPc (BitVec.ofNat 16 (0x40 + 2 * k)) { e with fie := false, frp := false })
        (spend (4 + (pushBytes (entryPushes (due s).eng) { st := modEng (lineTaken k) (due s) }).stall)
          (pushBytes (entryPushes (due s).eng) { st := modEng (lineTaken k) (due s) }).st)) := by
  rw [enterLine]
  simp only [show pushOk (modEng deliverDue s).eng 4 = true from h]
  rfl

/-- The entry of a line outside a hook, with its stack in RAM. -/
theorem enterLine_made {k : Nat} {s : State} (hk : s.eng.hook = none) (hlo : 4 ≤ s.eng.sp.toNat) (hhi : s.eng.sp.toNat ≤ 0x8000)
    (hlim : s.eng.stackLim.toNat ≤ s.eng.sp.toNat - 4) : ∃ m,
      (∀ a, memByte m a = if s.eng.sp.toNat - 4 ≤ a ∧ a < s.eng.sp.toNat then (entryPushes (due s).eng).getD (s.eng.sp.toNat - 1 - a) 0
        else memByte (due s).eng.ram a)
      ∧ enterLine k s = { spend 4 (due s) with eng := { (spend 4 (due s)).eng with
          waiting := false, handler := (due s).eng.handler + 1, edges := (due s).eng.edges &&& ~~~(1#32 <<< k), fie := false, frp := false
          pc := BitVec.ofNat 16 (0x40 + 2 * k), wrap := false, sp := (due s).eng.sp - 4, ram := m } } := by
  have hsp : (due s).eng.sp = s.eng.sp := deliverDue_sp _
  have htaken : modEng (lineTaken k) (due s) = modEng (fun e => { e with
      waiting := false, handler := e.handler + 1, edges := e.edges &&& ~~~(1#32 <<< k) }) (due s) :=
    modEng_congr (lineTaken_no_hook (due_hook hk))
  obtain ⟨m, hst, hstall, hfaults, hbytes⟩ := pushBytes_ram (entryPushes (due s).eng) { st := modEng (lineTaken k) (due s) }
    (inExt_of_no_hook (congrArg (Option.map _) (due_hook hk))) (hsp.symm ▸ hlo) (hsp.symm ▸ hhi)
  refine ⟨m, fun a => (hbytes a).trans ?_, ?_⟩
  · show (if (due s).eng.sp.toNat - 4 ≤ a ∧ a < (due s).eng.sp.toNat then _ else memByte (due s).eng.ram a) = _
    rw [← hsp]
    rfl
  · rw [enterLine_pushes (pushOk_ram _ _ (hsp.symm ▸ hlo) (by rw [hsp, due_eng, deliverDue_stackLim]; exact hlim)), hst, hstall, hfaults, htaken]
    generalize due s = u
    rfl

/-! ### RETI -/

/-- The engine as RETI leaves it once FLAGS and REPCNT are popped (R408, R411). -/
def resumed (f n : Byte) (e : EngSt) : EngSt := { writeFlags f e with
  frp := f.getLsbD 5, repcnt := n, handler := e.handler - 1
  hook := e.hook.map (fun (h : HookSave) => { h with inHandler := h.inHandler - 1 }) }

/-- The same outside a hook. -/
def resumedPlain (f n : Byte) (e : EngSt) : EngSt :=
  { writeFlags f e with frp := f.getLsbD 5, repcnt := n, handler := e.handler - 1 }

theorem resumed_no_hook {f n : Byte} {e : EngSt} (h : e.hook = none) : resumed f n e = resumedPlain f n e := by
  cases e
  dsimp only at h
  subst h
  rfl

theorem interruptReturn_made {u : State} (hx : inExt u.eng = false) (hsp : u.eng.sp.toNat + 4 ≤ 0x8000) :
    interruptReturn u = {
      st := modEng (resumed (memByte u.eng.ram (u.eng.sp.toNat + 1)) (memByte u.eng.ram (u.eng.sp.toNat + 0)))
        (spend 5 (modEng (fun e => { e with sp := e.sp + 4 }) u))
      cost := 0
      flow := .jump (BitVec.ofNat 16 ((memByte u.eng.ram (u.eng.sp.toNat + 2)).toNat
        + 256 * (memByte u.eng.ram (u.eng.sp.toNat + 3)).toNat)) } := by
  obtain ⟨hl, hst, hstall, hfaults⟩ := popBytes_ram 4 { st := u } hx hsp
  have htarget : ∀ a b c d : Byte, u16 [a, b, c, d] 2 = c.toNat + 256 * d.toNat := fun a b c d => by simp [u16, uN, unle]
  rw [interruptReturn, popOk_eq_true hsp]
  simp only [Bool.not_true, Bool.false_eq_true, if_false, hx, Bool.false_and, hl, hst, hstall, hfaults]
  rw [← htarget (memByte u.eng.ram (u.eng.sp.toNat + 0)) (memByte u.eng.ram (u.eng.sp.toNat + 1))]
  rfl

/-- RETI outside a hook and a repetition. -/
theorem finish_interruptReturn {u : State} (hk : u.eng.hook = none) (hsp : u.eng.sp.toNat + 4 ≤ 0x8000) :
    finish 1 false (interruptReturn u) = { spend 5 u with eng := {
      writeFlags (memByte u.eng.ram (u.eng.sp.toNat + 1)) (spend 5 u).eng with
        frp := (memByte u.eng.ram (u.eng.sp.toNat + 1)).getLsbD 5, repcnt := memByte u.eng.ram (u.eng.sp.toNat + 0)
        handler := u.eng.handler - 1, sp := u.eng.sp + 4, wrap := false
        pc := BitVec.ofNat 16 ((memByte u.eng.ram (u.eng.sp.toNat + 2)).toNat
          + 256 * (memByte u.eng.ram (u.eng.sp.toNat + 3)).toNat) } } := by
  have hnone : (spend 5 (modEng (fun e => { e with sp := e.sp + 4 }) u)).eng.hook = none := congrArg (Option.map _) hk
  rw [interruptReturn_made (inExt_of_no_hook hk) hsp, modEng_congr (resumed_no_hook hnone), finish_jump (by exact hnone), spend_zero]
  rfl

/-! ### WAIT -/

theorem wait_ready {s : State} (h : EngReady 1 s) : exec .wait s = .next (finish 1 (due s).eng.frp (waitBody (due s))) :=
  engineNext_ready (x := barred 1) _ h

/-- WAIT does nothing in the extension, and while an enabled line is pending. -/
theorem waitBody_none {u : State} (h : inExt u.eng = true ∨ firstLine u ≠ none) : waitBody u = regOp id u :=
  if_pos (by rcases h with h | h <;> simp [h, Option.isSome_iff_ne_none])

theorem waitBody_waits {u : State} (hx : inExt u.eng = false) (h : firstLine u = none) :
    waitBody u = regOp (fun e => { e with waiting := true }) u :=
  if_neg (by simp [hx, h])

/-! ### The rows of the unit -/

theorem interruptEntry_idle {s : State} (h : unitsRun s = false ∨ s.eng.fie = false ∨ s.eng.skipNext = true
    ∨ s.eng.repFirst = true ∨ firstLine s = none) : exec .interruptEntry s = .next s := by
  show execInterruptEntry s = _
  rw [execInterruptEntry]
  cases hl : firstLine s with
  | none => rfl
  | some k =>
    have hc : (unitsRun s && entryPoint s.eng) = false := by
      rcases h with h | h | h | h | h
      · simp [h]
      · simp [entryPoint, h]
      · simp [entryPoint, h]
      · simp [entryPoint, h]
      · simp [h] at hl
    simp only [hc, Bool.false_eq_true, if_false]

theorem interruptEntry_taken {k : Nat} {s : State} (hu : unitsRun s = true) (hie : s.eng.fie = true)
    (hs : s.eng.skipNext = false) (hr : s.eng.repFirst = false) (hl : firstLine s = some k) :
    exec .interruptEntry s = .next (enterLine k s) := by
  show execInterruptEntry s = _
  rw [execInterruptEntry, hl]
  simp [hu, entryPoint, hie, hs, hr]

theorem waitResume_taken {k : Nat} {s : State} (hu : unitsRun s = true) (hw : s.eng.waiting = true) (hl : firstLine s = some k) :
    (s.eng.fie = true → exec .waitResume s = .next (enterLine k s))
    ∧ (s.eng.fie = false → exec .waitResume s = .next { s with eng := { s.eng with waiting := false } }) := by
  have hrow : exec .waitResume s = .next (if s.eng.fie then enterLine k s else modEng (fun e => { e with waiting := false }) s) := by
    show execWaitResume s = _
    rw [execWaitResume, hl]
    simp [hu, hw]
  exact ⟨fun h => hrow.trans (by rw [h]; rfl), fun h => hrow.trans (by rw [h]; rfl)⟩

theorem waitResume_idle {s : State} (h : unitsRun s = false ∨ s.eng.waiting = false ∨ firstLine s = none) :
    exec .waitResume s = .next s := by
  show execWaitResume s = _
  rw [execWaitResume]
  cases hl : firstLine s with
  | none => rfl
  | some k =>
    have hc : (unitsRun s && s.eng.waiting) = false := by
      rcases h with h | h | h
      · simp [h]
      · simp [h]
      · simp [h] at hl
    simp only [hc, Bool.false_eq_true, if_false]

end Sys2Proof.Machine
end

section

open Sys2Proof Sys2Proof.Machine

/-- Settles O21: the line taken, its pushes and the vector, their return, and WAIT by the lines pending. -/
theorem interrupts : Obligations.Interrupts := by
  refine ⟨fun k s hu hie hs hr hl hk hlo hhi hlim => ?_, fun k s hl => ?_, fun s => interruptEntry_idle,
    fun s h hk hr hsp => ?_, fun s h hx => ⟨fun hl => ?_, fun hl => ?_⟩, fun s h hx => ?_, fun s hw => ?_,
    fun k s => waitResume_taken, fun s => waitResume_idle⟩
  · have hsp : (due s).eng.sp = s.eng.sp := deliverDue_sp _
    obtain ⟨m, hbytes, henter⟩ := enterLine_made (k := k) hk hlo hhi hlim
    rw [← hsp] at hbytes hlo
    refine ⟨_, (interruptEntry_taken hu hie hs hr hl).trans (congrArg _ henter), rfl, ?_, ?_, ?_, ?_, fun a ha => ?_⟩
    all_goals refine (hbytes _).trans ?_
    · rw [if_pos (by omega), Nat.sub_self]
      rfl
    · rw [if_pos (by omega), show (due s).eng.sp.toNat - 1 - ((due s).eng.sp.toNat - 2) = 1 by omega]
      rfl
    · rw [if_pos (by omega), show (due s).eng.sp.toNat - 1 - ((due s).eng.sp.toNat - 3) = 2 by omega]
      rfl
    · rw [if_pos (by omega), show (due s).eng.sp.toNat - 1 - ((due s).eng.sp.toNat - 4) = 3 by omega]
      rfl
    · exact if_neg (by omega)
  · obtain ⟨hk, hready, hlow⟩ := firstLine_lowest hl
    obtain ⟨hp, hen⟩ := (lineReady_iff s k).mp hready
    exact ⟨hk, hp, hen, fun j hj hboth => by simpa [(lineReady_iff s j).mpr hboth] using hlow j hj⟩
  · rw [reti_ready h, due_frp hr, finish_interruptReturn (due_hook hk) (by rw [due_eng, deliverDue_sp]; exact hsp)]
  · rw [wait_ready h, waitBody_waits hx hl]
    rfl
  · rw [wait_ready h, waitBody_none (.inr hl)]
    rfl
  · rw [wait_ready h, waitBody_none (.inl hx)]
    rfl
  · simp [engineRuns, hw]

end

section
/-! Customer and illegal opcodes, fetches that may not be made, and the local registers (R394, R396, R414, R415). -/
namespace Sys2Proof.Machine

open Sys2Proof

/-! ### Opcodes -/

theorem customerOpcode_ready (k : Fin 16) (b : Byte) {s : State} (h : EngReady 1 s) :
    exec (.customerOpcode k b) s = .next (finish 1 (due s).eng.frp (customer k b (due s))) :=
  engineNext_ready (x := { repeatable := (s.eng.decode[k] : DecodeEntry).repOk }) _ h

theorem customer_entry (k : Fin 16) (b : Byte) (s : State) : customer k b (due s) =
    if (s.eng.decode[k] : DecodeEntry).en then
      microRun (4 * (s.eng.decode[k] : DecodeEntry).limit.toNat) (s.eng.decode[k] : DecodeEntry).start.toNat b {} [] (spend 1 (due s))
    else noOp Src.engIllegalOpcode (due s) := by
  have hentry : vget (due s).eng.decode k {} = s.eng.decode[k] := by
    rw [due_eng, deliverDue_decode]
    exact dif_pos k.isLt
  rw [customer, hentry]

theorem illegalOpcode_legal {w : Half} {s : State} (h : legalWord w.toNat = true) : exec (.illegalOpcode w) s = .next s := by
  rw [exec_illegalOpcode, execIllegalOpcode, if_pos h]

theorem illegalOpcode_ready {w : Half} {s : State} (h : EngReady 1 s) (hw : legalWord w.toNat = false) :
    exec (.illegalOpcode w) s = .next (finish 1 s.eng.frp { st := due s, faults := [Src.engIllegalOpcode] }) := by
  rw [exec_illegalOpcode, execIllegalOpcode, if_neg (by simp [hw]), engineNext_ready (x := plain) _ h, due_eng, deliverDue_frp]
  rfl

theorem engineRow_unfetched {i : Instr} {n : Nat} {s : State} (hi : EngineRow i n) (hr : engineRuns s = true)
    (hf : fetchOk (due s).eng n = false) : exec i s = .next (raiseEng [Src.engFetchFault] (due s)) := by
  obtain ⟨x, body, hx⟩ := engineRow_exec hi
  obtain ⟨hexec, hwords, -, -⟩ := hx s
  exact hexec.trans (congrArg _ (runRow_fetch _ _ _ hr (hwords.symm ▸ hf)))

theorem engineRow_idle {i : Instr} {n : Nat} {s : State} (hi : EngineRow i n) (hr : engineRuns s = false) :
    exec i s = .next s := by
  obtain ⟨x, body, hx⟩ := engineRow_exec hi
  exact (hx s).1.trans (congrArg _ (runRow_idle _ _ _ hr))

/-! ### Local registers -/

theorem localEvent_idle {a : Nat} {v : Byte} {s : State} (h : engineRuns s = false) : localEvent a v s = s := by
  rw [localEvent, h]
  rfl

/-- A local register the engine may write takes its byte. -/
theorem localEvent_written {a : Nat} {v : Byte} {s : State} (hr : engineRuns s = true) (ha : 0xFF00 ≤ a)
    (hx : inExt s.eng = false ∨ extMayTouch s.eng a true = true) :
    localEvent a v s = raiseEng (localWrite a v s).faults (localWrite a v s).st := by
  have hmay : (inExt s.eng && !extMayTouch s.eng a true) = false := by rcases hx with h | h <;> simp [h]
  rw [localEvent, if_pos hr, dataWrite, if_neg (by simp [hmay]), if_neg (by omega), if_neg (by omega), if_neg (by omega)]

theorem localEvent_barred {a : Nat} {v : Byte} {s : State} (hr : engineRuns s = true) (hx : inExt s.eng = true)
    (ht : extMayTouch s.eng a true = false) : localEvent a v s = raiseEng [Src.engExtAccess] s := by
  rw [localEvent, if_pos hr, dataWrite, if_pos (by simp [hx, ht])]
  rfl

/-- Of the aperture bases the extension may write that of AP3 alone. -/
theorem extMayTouch_base (n : Fin 4) (e : EngSt) : extMayTouch e (0xFF02 + 4 * n.val) true = decide (n = 3) := by
  fin_cases n <;> rfl

theorem extMayTouch_wdkick (e : EngSt) : extMayTouch e 0xFF12 true = false := rfl

/-- An aperture whose base is written whole (R396). -/
def rebased (v : Byte) (p : Aperture) : Aperture :=
  { p with base := BitVec.ofNat 20 (p.b0.toNat + 256 * p.b1.toNat + 65536 * (v.toNat % 16)), latch := none, wbuf := none }

theorem localWrite_base (n : Fin 4) (v : Byte) (s : State) : localWrite (0xFF02 + 4 * n.val) v s =
    { st := modEng (fun e => { e with aps := e.aps.set n.val (rebased v e.aps[n]) n.isLt }) s } := by
  fin_cases n <;> rfl

theorem localWrite_wdkick (v : Byte) (s : State) : localWrite 0xFF12 v s = { st := kick v s } := rfl

end Sys2Proof.Machine
end

section

open Sys2Proof Sys2Proof.Machine

/-- Settles O22: opcodes by their entry or their word, fetches by R394, local registers by who may write them. -/
theorem customerOpcodes : Obligations.CustomerOpcodes := by
  refine ⟨fun k b s h => ⟨fun hen => ?_, fun hen => ?_⟩, fun w s => illegalOpcode_ready, fun w s => illegalOpcode_legal,
    fun i n s => engineRow_unfetched, fun i n s => engineRow_idle, fun n v s hr hx => ?_, fun v s hr hx => ?_,
    fun n v s hr hx hn => ?_, fun n v s hr => ⟨congrArg _ (localEvent_idle hr), congrArg _ (localEvent_idle hr)⟩⟩
  · rw [customerOpcode_ready k b h, customer_entry, if_neg (Bool.eq_false_iff.mp hen)]
    rfl
  · rw [customerOpcode_ready k b h, customer_entry, if_pos hen]
  · have hmay : inExt s.eng = false ∨ extMayTouch s.eng (0xFF02 + 4 * n.val) true = true := by
      rw [extMayTouch_base, decide_eq_true_iff]
      exact hx
    exact congrArg _ ((localEvent_written hr (by omega) hmay).trans (by rw [localWrite_base]; rfl))
  · refine congrArg _ ((localEvent_written hr (by omega) (.inl hx)).trans ?_)
    rw [localWrite_wdkick, raiseEng_nil, kick]
    rfl
  · exact ⟨congrArg _ (localEvent_barred hr hx (by rw [extMayTouch_base]; exact decide_eq_false hn)),
      congrArg _ (localEvent_barred hr hx (extMayTouch_wdkick s.eng))⟩

end

section
/-! A run of bytes read from a canonical memory, byte by byte. -/
namespace Sys2Proof.Machine

open Sys2Proof

theorem dropWhile_below {a : Nat} {m : Memory} (w : memWfFrom a m = true) : m.dropWhile (fun c => decide (c.1 < a)) = m := by
  cases m with
  | nil => rfl
  | cons c l =>
    simp only [memWfFrom, Bool.and_eq_true, decide_eq_true_eq] at w
    rw [List.dropWhile_cons_of_neg (by simpa using w.1.1)]

theorem readRun_succ {lo : Nat} {m : Memory} (n a : Nat) (w : memWfFrom lo m = true) :
    readRun (n + 1) a (m.dropWhile (fun c => decide (c.1 < a)))
      = memByte m a :: readRun n (a + 1) (m.dropWhile (fun c => decide (c.1 < a + 1))) := by
  induction m generalizing lo with
  | nil => rfl
  | cons c l ih =>
    obtain ⟨k, b⟩ := c
    simp only [memWfFrom, Bool.and_eq_true, decide_eq_true_eq] at w
    obtain ⟨-, hl⟩ := w
    rcases Nat.lt_trichotomy k a with hk | rfl | hk
    · have hbyte : memByte ((k, b) :: l) a = memByte l a := by
        simp [memByte, look, show (k == a) = false by simp; omega]
      rw [List.dropWhile_cons_of_pos (by simpa using hk), List.dropWhile_cons_of_pos (by simp; omega), hbyte]
      exact ih hl
    · rw [List.dropWhile_cons_of_neg (by simp), List.dropWhile_cons_of_pos (by simp), dropWhile_below hl]
      simp [readRun, memByte, look]
    · have hbyte : memByte ((k, b) :: l) a = memDefault := by
        simp [memByte, look, show (k == a) = false by simp; omega, look_eq_none_of_lt hl (show a < k + 1 by omega)]
      rw [List.dropWhile_cons_of_neg (by simp; omega), List.dropWhile_cons_of_neg (by simp; omega), hbyte, readRun,
        if_neg (by omega)]

theorem memRead_succ {m : Memory} (w : Memory.wf m = true) (a n : Nat) :
    memRead m a (n + 1) = memByte m a :: memRead m (a + 1) n :=
  readRun_succ n a w

theorem memRead_pair {m : Memory} (w : Memory.wf m = true) (a : Nat) : memRead m a 2 = [memByte m a, memByte m (a + 1)] := by
  rw [memRead_succ w, memRead_one _ _ w]

end Sys2Proof.Machine
end

section
/-! The hooks of the extension: the call that begins one, its budget, and its ends (R417, R419). -/
namespace Sys2Proof.Machine

open Sys2Proof

/-! ### The end of a hook -/

/-- W8 to W15 restored, one by one from W8 up. -/
def restoreHigh (w8 : Vector Byte 8) (n : Nat) (e : EngSt) : EngSt :=
  (List.range n).foldl (fun t i => wSet (8 + i) (vget w8 i 0) t) e

theorem restoreHigh_succ (w8 : Vector Byte 8) (n : Nat) (e : EngSt) :
    restoreHigh w8 (n + 1) e = wSet (8 + n) (vget w8 n 0) (restoreHigh w8 n e) := by
  simp only [restoreHigh, List.range_succ, List.foldl_append, List.foldl_cons, List.foldl_nil]

theorem restoreHigh_eq (w8 : Vector Byte 8) (n : Nat) (e : EngSt) :
    restoreHigh w8 n e = { e with w := (restoreHigh w8 n e).w } := by
  induction n with
  | zero => rfl
  | succ n ih => rw [restoreHigh_succ, ih]; rfl

theorem wGet_restoreHigh (w8 : Vector Byte 8) {n : Nat} (hn : n ≤ 8) (e : EngSt) (j : Nat) :
    wGet (restoreHigh w8 n e) j = if 8 ≤ j ∧ j < 8 + n then vget w8 (j - 8) 0 else wGet e j := by
  induction n with
  | zero => rw [if_neg (by omega)]; rfl
  | succ n ih =>
    rw [restoreHigh_succ, wGet_wSet _ _ _ _ (by omega), ih (by omega)]
    by_cases hj : 8 + n = j
    · subst hj
      rw [if_pos rfl, if_pos (by omega), show 8 + n - 8 = n by omega]
    · simp only [if_neg hj, show (8 ≤ j ∧ j < 8 + (n + 1)) ↔ (8 ≤ j ∧ j < 8 + n) by omega]

theorem popLoop_eq (e : EngSt) : popLoop e =
    { e with loop := (popLoop e).loop, loopStack := (popLoop e).loopStack, ldepth := e.ldepth - 1 } := by
  unfold popLoop
  split <;> rfl

/-- Discarding loops moves the loop registers alone. -/
theorem loopsDownTo_eq (k d : Nat) (e : EngSt) : loopsDownTo k d e = { e with
    loop := (loopsDownTo k d e).loop, loopStack := (loopsDownTo k d e).loopStack, ldepth := (loopsDownTo k d e).ldepth } := by
  induction k generalizing e with
  | zero => rfl
  | succ k ih =>
    rw [loopsDownTo]
    split
    · rw [ih (popLoop e), popLoop_eq e]
    · rfl

theorem loopsDownTo_calls (k d : Nat) (e : EngSt) : (loopsDownTo k d e).calls = e.calls := by rw [loopsDownTo_eq]

theorem loopsDownTo_overruns (k d : Nat) (e : EngSt) : (loopsDownTo k d e).overruns = e.overruns := by rw [loopsDownTo_eq]

theorem loopsDownTo_ldepth {k d : Nat} {e : EngSt} (h : e.ldepth ≤ k) : (loopsDownTo k d e).ldepth = min e.ldepth d := by
  induction k generalizing e with
  | zero => exact (Nat.min_eq_left (h.trans (Nat.zero_le d))).symm
  | succ k ih =>
    have hpop : (popLoop e).ldepth = e.ldepth - 1 := congrArg EngSt.ldepth (popLoop_eq e)
    rw [loopsDownTo]
    split
    · rw [ih (by omega), hpop]
      omega
    · omega

/-- What the end of a hook makes of the engine (R417 to R419). -/
structure HookEnded (h : HookSave) (t : Half) (e v : EngSt) : Prop where
  pc : v.pc = t
  sp : v.sp = h.sp
  hook : v.hook = none
  frp : v.frp = false
  high : ∀ j, j < 8 → wGet v (8 + j) = vget h.w8 j 0
  low : ∀ j, j < 8 → wGet v j = wGet e j
  ldepth : e.ldepth ≤ 4 → v.ldepth = min e.ldepth h.ldepth
  ram : v.ram = e.ram
  calls : v.calls = sat16 e.calls 1
  overruns : v.overruns = e.overruns

/-- The engine at the end of a hook. -/
def afterHook (h : HookSave) (t : Half) (e : EngSt) : EngSt :=
  let r := restoreHigh h.w8 8 (loopsDownTo 4 h.ldepth e)
  { r with sp := h.sp, pc := t, wrap := false, frp := false, repFirst := false, skipNext := false, hook := none
           calls := sat16 r.calls 1, lastW0 := wGet r 0 }

theorem afterHook_ended (h : HookSave) (t : Half) (e : EngSt) : HookEnded h t e (afterHook h t e) := by
  have hw : ∀ j, wGet (afterHook h t e) j = if 8 ≤ j ∧ j < 8 + 8 then vget h.w8 (j - 8) 0 else wGet e j := fun j => by
    refine (wGet_restoreHigh h.w8 (Nat.le_refl 8) (loopsDownTo 4 h.ldepth e) j).trans ?_
    rw [loopsDownTo_eq]
    rfl
  have hregs := restoreHigh_eq h.w8 8 (loopsDownTo 4 h.ldepth e)
  exact {
    pc := rfl, sp := rfl, hook := rfl, frp := rfl
    high := fun j hj => by rw [hw, if_pos (by omega), Nat.add_sub_cancel_left]
    low := fun j hj => by rw [hw, if_neg (by omega)]
    ldepth := fun hd => (congrArg EngSt.ldepth hregs).trans (loopsDownTo_ldepth hd)
    ram := (congrArg EngSt.ram hregs).trans (loopsDownTo_ram 4 h.ldepth e)
    calls := congrArg (sat16 · 1) ((congrArg EngSt.calls hregs).trans (loopsDownTo_calls 4 h.ldepth e))
    overruns := (congrArg EngSt.overruns hregs).trans (loopsDownTo_overruns 4 h.ldepth e) }

theorem endHook_eng {h : HookSave} {s : State} (hk : s.eng.hook = some h) (t : Half) :
    (endHook t s).eng = afterHook h t s.eng := by
  rw [endHook, hk]
  dsimp only
  split
  · rfl
  · rw [journalRaise_eng]
    rfl

theorem endHook_ended {h : HookSave} {s : State} (hk : s.eng.hook = some h) (t : Half) :
    HookEnded h t s.eng (endHook t s).eng :=
  endHook_eng hk t ▸ afterHook_ended h t s.eng

theorem overrunHook_eq {h : HookSave} {s : State} (hk : s.eng.hook = some h) : overrunHook s =
    endHook h.ret (modEng (fun e => { e with overruns := sat16 e.overruns 1 }) s) := by
  rw [overrunHook, hk]

/-- A hook that overran has ended at its return address and is counted. -/
theorem overrunHook_ended {h : HookSave} {s : State} (hk : s.eng.hook = some h) :
    HookEnded h h.ret { s.eng with overruns := sat16 s.eng.overruns 1 } (overrunHook s).eng := by
  rw [overrunHook_eq hk]
  exact endHook_ended (s := modEng (fun e => { e with overruns := sat16 e.overruns 1 }) s) hk h.ret

/-! ### The budget -/

/-- The way on of an instruction outside a repetition. -/
def goOn (n : Nat) (flow : Flow) (s : State) : State :=
  match flow with
  | .next => modEng (advance n) s
  | .over k => modEng (advance (n + k)) s
  | .jump t => modEng (setPc t) s
  | .done => s

theorem goOn_hook (n : Nat) (flow : Flow) (s : State) : (goOn n flow s).eng.hook = s.eng.hook := by
  match flow with
  | .next => exact advance_hook n s.eng
  | .over k => exact advance_hook (n + k) s.eng
  | .jump _ => rfl
  | .done => rfl

theorem finish_goOn (n : Nat) (r : Eff) : finish n false r =
    if budgetSpent (spend r.cost r.st).eng then raiseEng (r.faults ++ [Src.engExtOverrun]) (overrunHook (goOn n r.flow (spend r.cost r.st)))
    else raiseEng r.faults (goOn n r.flow (spend r.cost r.st)) := by
  have hspent : budgetSpent (goOn n r.flow (spend r.cost r.st)).eng = budgetSpent (spend r.cost r.st).eng := by
    rw [budgetSpent, goOn_hook, budgetSpent]
  rw [← hspent]
  rfl

theorem spend_hook_running {h : HookSave} {s : State} (hk : s.eng.hook = some h) (h0 : h.inHandler = 0) (n : Nat) :
    (spend n s).eng.hook = some { h with budget := h.budget - n } := by
  simp [spend, hk, h0]

theorem spend_hook_handler {h : HookSave} {s : State} (hk : s.eng.hook = some h) (h0 : h.inHandler ≠ 0) (n : Nat) :
    (spend n s).eng.hook = some h := by
  simp [spend, hk, h0]

theorem budgetSpent_iff {h : HookSave} {e : EngSt} (hk : e.hook = some h) :
    budgetSpent e = decide (h.inHandler = 0 ∧ h.budget = 0) := by
  rw [budgetSpent, hk]

/-- Without a hook whose budget is spent an instruction ends as it does outside a hook. -/
theorem finish_unspent {n : Nat} {r : Eff} (h : budgetSpent (spend r.cost r.st).eng = false) :
    finish n false r = raiseEng r.faults (goOn n r.flow (spend r.cost r.st)) := by
  rw [finish_goOn, h]
  rfl

theorem finish_spent {n : Nat} {r : Eff} (h : budgetSpent (spend r.cost r.st).eng = true) : finish n false r =
    raiseEng (r.faults ++ [Src.engExtOverrun]) (overrunHook (goOn n r.flow (spend r.cost r.st))) := by
  rw [finish_goOn, h]
  rfl

/-! ### The call and the return -/

/-- What a hook call saves (R419). -/
structure HookSaved (t ret : Half) (s : State) (h : HookSave) : Prop where
  hook : h.hook = (t.toNat - 0xC000) / 2
  high : ∀ j, j < 8 → vget h.w8 j 0 = wGet s.eng (8 + j)
  sp : h.sp = s.eng.sp
  ldepth : h.ldepth = s.eng.ldepth
  ret : h.ret = ret
  inHandler : h.inHandler = 0
  budget : h.budget = 64 * fld (shw s Reg.engExtCfg) 16 16

theorem hooked_hook (t ret : Half) (s : State) (e : EngSt) :
    ∃ h, (hooked t ret s e).hook = some h ∧ HookSaved t ret s h :=
  ⟨_, rfl, rfl, fun j hj => by simp [vget, hj], rfl, rfl, rfl, rfl, rfl⟩

/-- A call from the firmware to a hook word saves what the hook needs and starts its budget. -/
theorem finish_hookCall {n : Nat} {t : Half} {u : State} (hk : u.eng.hook = none) (hr : u.eng.frp = false)
    (hpc : u.eng.pc.toNat < 0xC000) (ht : isHookWord t = true) (hlo : 2 ≤ u.eng.sp.toNat) (hhi : u.eng.sp.toNat ≤ 0x8000)
    (hlim : u.eng.stackLim.toNat ≤ u.eng.sp.toNat - 2) (hb : fld (shw u Reg.engExtCfg) 16 16 ≠ 0) :
    ∃ v h, finish n u.eng.frp (callTo n 3 t u) = v ∧ v.eng.pc = t ∧ v.eng.sp = u.eng.sp - 2 ∧ v.eng.w = u.eng.w
      ∧ v.eng.hook = some h ∧ HookSaved t (pcPlus n u.eng) (spend 3 u) h := by
  obtain ⟨m, -, hcall⟩ := callTo_made (n := n) (cost := 3) (t := t) (inExt_of_no_hook hk) hlo hhi hlim
  have hhook : hookCall t u.eng = true := by rw [hookCall, hk, ht, decide_eq_true hpc]; rfl
  obtain ⟨h, hsome, hsaved⟩ := hooked_hook t (pcPlus n u.eng) (spend 3 u) { (spend 3 u).eng with sp := u.eng.sp - 2, ram := m }
  have hbudget : h.budget ≠ 0 := by
    rw [hsaved.budget]
    exact Nat.mul_ne_zero (by decide) hb
  refine ⟨_, h, rfl, ?_⟩
  rw [hcall, hr, hhook, finish_unspent (by rw [spend_zero]; exact (budgetSpent_iff hsome).trans (by simp [hbudget]))]
  exact ⟨rfl, rfl, rfl, hsome, hsaved⟩

/-- The RET of a hook that brings SP back ends the hook at the address popped. -/
theorem returnTo_last {h : HookSave} {u : State} (hk : u.eng.hook = some h) (h0 : h.inHandler = 0)
    (hpc : 0xC000 ≤ u.eng.pc.toNat) (hsp : u.eng.sp.toNat + 2 = h.sp.toNat) (hhi : u.eng.sp.toNat + 2 ≤ 0x8000) :
    returnTo u = { st := endHook (BitVec.ofNat 16 (u16 (memRead u.eng.ram u.eng.sp.toNat 2) 0)) (spend 3 u), cost := 0, flow := .done } := by
  rw [returnTo, popOk_eq_true hhi, hk]
  simp [inExt, hookRuns, hk, h0, hpc, hsp]

end Sys2Proof.Machine
end

section

open Sys2Proof Sys2Proof.Machine

/-- Settles O23: a hook call saves the registers and starts the budget; RET, the spent budget and EXT_OVERRUN end the
hook. -/
theorem hooks : Obligations.Hooks := by
  refine ⟨fun rel p t s hk hr hpc hlo hhi hlim hb => ?_, fun h s hrdy hk h0 hpc hr hsp hhi hwf hd => ?_,
    fun n cost f h u hf hk hr => ⟨fun h0 hc => ?_, fun h0 => ?_, fun h0 hc => ?_⟩, fun h s hu hk h0 hd => ?_, fun s hs => ?_⟩
  · intro hooks
    have hcall : ∀ {i n x}, exec i s = .next (finish n (due s).eng.frp (callTo n 3 x (due s))) → hooks i n x := by
      intro i n x hi hx1 hx2
      obtain ⟨v, h, hfin, hvpc, hvsp, hvw, hvh, hsaved⟩ := finish_hookCall (n := n) (t := x) (u := due s) (due_hook hk)
        (due_frp hr) (by simpa using hpc) (decide_eq_true ⟨hx1, hx2⟩) (by simpa using hlo) (by simpa using hhi)
        (by simpa using hlim) hb
      refine ⟨v, hi.trans (congrArg _ hfin), hvpc, by simpa using hvsp, fun j _ => ?_, h, hvh, hsaved.hook, fun j hj => ?_,
        ?_, ?_, ?_, hsaved.inHandler, hsaved.budget⟩
      · rw [wGet, hvw, due_eng, deliverDue_w, wGet]
      · exact (hsaved.high j hj).trans (wGet_deliverDue s.eng _)
      · exact hsaved.sp.trans (deliverDue_sp s.eng)
      · exact hsaved.ldepth.trans (deliverDue_ldepth s.eng)
      · rw [hsaved.ret, pcPlus, due_eng, deliverDue_pc]
    refine ⟨fun hrdy => ⟨?_, ?_⟩, fun hrdy => hcall (callAbs_ready t hrdy)⟩
    · have htarget : relTarget rel (due s).eng = s.eng.pc + 1 + rel.signExtend 16 := by simp [relTarget, pcPlus]
      exact htarget ▸ hcall (call_ready hrdy rel)
    · have htarget : pGet (due s).eng p = pGet s.eng p := pGet_deliverDue s.eng p
      exact htarget ▸ hcall (calli_ready hrdy)
  · have hk' : (due s).eng.hook = some h := (deliverDue_hook s.eng).trans hk
    have hlast := returnTo_last hk' h0 (by simpa using hpc) (by simpa using hsp) (by simpa using hhi)
    have hended := endHook_ended (spend_hook_running hk' h0 3)
      (BitVec.ofNat 16 (u16 (memRead (due s).eng.ram (due s).eng.sp.toNat 2) 0))
    have hlow := (memByte s.eng.ram s.eng.sp.toNat).isLt
    have hhigh := (memByte s.eng.ram (s.eng.sp.toNat + 1)).isLt
    refine ⟨_, by rw [ret_ready hrdy, hlast, due_frp hr, finish_done hended.hook, spend_zero], hended.sp, hended.hook,
      hended.frp, ?_, fun j hj => ⟨hended.high j hj, ?_⟩, ?_, ?_⟩
    · rw [hended.pc, due_eng, deliverDue_ram, deliverDue_sp, memRead_pair hwf, u16_pair, BitVec.toNat_ofNat]
      omega
    · exact (hended.low j hj).trans (wGet_deliverDue s.eng j)
    · exact (hended.ldepth ((deliverDue_ldepth s.eng).le.trans hd)).trans (congrArg (min · h.ldepth) (deliverDue_ldepth s.eng))
    · exact hended.calls.trans (congrArg (sat16 · 1) (deliverDue_calls s.eng))
  · have hlive : budgetSpent (spend cost (modEng f u)).eng = false := by
      rw [budgetSpent_iff (spend_hook_running ((hf u.eng).1.trans hk) h0 cost)]
      simp
      omega
    rw [retire, hr, finish_unspent hlive, raiseEng_nil, goOn_hook]
    exact spend_hook_running ((hf u.eng).1.trans hk) h0 cost
  · have hlive : budgetSpent (spend cost (modEng f u)).eng = false := by
      rw [budgetSpent_iff (spend_hook_handler ((hf u.eng).1.trans hk) h0 cost)]
      simp [h0]
    rw [retire, hr, finish_unspent hlive, raiseEng_nil, goOn_hook]
    exact spend_hook_handler ((hf u.eng).1.trans hk) h0 cost
  · have hspend := spend_hook_running (s := modEng f u) ((hf u.eng).1.trans hk) h0 cost
    have hended := overrunHook_ended ((goOn_hook n .next _).trans hspend)
    refine ⟨_, by rw [retire, hr, finish_spent ((budgetSpent_iff hspend).trans (by simp [h0, hc]))]; rfl, hended.pc, hended.sp,
      hended.hook, hended.frp, hended.high⟩
  · have hended := overrunHook_ended hk
    have hrow : exec .extOverrun s = .next (raiseEng [Src.engExtOverrun] (overrunHook s)) := by
      show execExtOverrun s = _
      simp [execExtOverrun, hu, hookRuns, hk, h0]
    have hcount : (overrunHook s).eng.overruns = sat16 s.eng.overruns 1 := hended.overruns
    exact ⟨_, hrow, hended.pc, hended.sp, hended.hook, hended.frp, fun j hj => ⟨hended.high j hj, hended.low j hj⟩,
      hended.ldepth hd, hended.ram, hended.calls, hcount⟩
  · show execExtOverrun s = _
    rw [execExtOverrun, if_neg (by rcases hs with hs | hs <;> simp [hs])]

end

section
/-! The bytes of a word, and a word with one of them replaced. -/
namespace Sys2Proof.Machine

open Sys2Proof

theorem byte_eq_extract (w : Word) (k : Nat) : w.toNat / 256 ^ k % 256 = (w.extractLsb' (8 * k) 8).toNat := by
  rw [BitVec.extractLsb'_toNat, Nat.shiftRight_eq_div_pow, Nat.pow_mul]

theorem getLsbD_setFld_byte (o : Word) (i : Nat) (v : Byte) {j : Nat} (hj : j < 32) :
    (setFld o (8 * i) 8 v.toNat).getLsbD j = if 8 * i ≤ j ∧ j < 8 * i + 8 then v.getLsbD (j - 8 * i) else o.getLsbD j := by
  have hmask : ∀ k, Nat.testBit 255 k = decide (k < 8) := Nat.testBit_two_pow_sub_one 8
  have hv : v.toNat % 256 = v.toNat := Nat.mod_eq_of_lt v.isLt
  simp only [setFld, BitVec.getLsbD_or, BitVec.getLsbD_and, BitVec.getLsbD_not, BitVec.getLsbD_shiftLeft, BitVec.getLsbD_ofNat, hj,
    Nat.reducePow, Nat.reduceSub, hmask, hv, BitVec.testBit_toNat]
  by_cases hlo : j < 8 * i
  · simp [hlo, show ¬ 8 * i ≤ j by omega]
  · by_cases hhi : j - 8 * i < 8
    · simp [hlo, hhi, show 8 * i ≤ j by omega, show j < 8 * i + 8 by omega, show j - 8 * i < 32 by omega]
    · simp [hlo, hhi, show ¬ j < 8 * i + 8 by omega, BitVec.getLsbD_of_ge v (j - 8 * i) (by omega)]

/-- The byte replaced is the new one, the others are the old. -/
theorem byte_setFld (o : Word) {i k : Nat} (v : Byte) (hk : k < 4) :
    (setFld o (8 * i) 8 v.toNat).toNat / 256 ^ k % 256 = if k = i then v.toNat else o.toNat / 256 ^ k % 256 := by
  rw [byte_eq_extract, byte_eq_extract, ← apply_ite BitVec.toNat]
  congr 1
  refine BitVec.eq_of_getLsbD_eq fun j hj => ?_
  rw [BitVec.getLsbD_extractLsb', getLsbD_setFld_byte o i v (by omega)]
  by_cases hki : k = i
  · subst hki
    rw [if_pos (by omega), if_pos rfl, Nat.add_sub_cancel_left, decide_eq_true hj, Bool.true_and]
  · rw [if_neg (by omega), if_neg hki, BitVec.getLsbD_extractLsb', decide_eq_true hj, Bool.true_and]

theorem toNat_bytes (w : Word) : w.toNat = w.toNat / 256 ^ 0 % 256 + 256 * (w.toNat / 256 ^ 1 % 256)
    + 65536 * (w.toNat / 256 ^ 2 % 256) + 16777216 * (w.toNat / 256 ^ 3 % 256) := by
  have hw := w.isLt
  omega

theorem setFld_zero_toNat {i : Nat} (v : Byte) (hi : i < 4) : (setFld 0 (8 * i) 8 v.toNat).toNat = v.toNat * 256 ^ i := by
  rw [toNat_bytes, byte_setFld 0 v (by decide), byte_setFld 0 v (by decide), byte_setFld 0 v (by decide), byte_setFld 0 v (by decide)]
  interval_cases i <;> simp [Nat.mul_comm]

theorem setFld_high (o : Word) (v : Byte) : setFld o 24 8 v.toNat = BitVec.ofNat 32 (o.toNat % 2 ^ 24 + 2 ^ 24 * v.toNat) := by
  have hv := v.isLt
  refine BitVec.eq_of_toNat_eq ?_
  rw [toNat_bytes, byte_setFld (i := 3) o v (by decide), byte_setFld (i := 3) o v (by decide), byte_setFld (i := 3) o v (by decide),
    byte_setFld (i := 3) o v (by decide), BitVec.toNat_ofNat]
  simp only [Nat.reduceEqDiff, if_true, if_false]
  omega

theorem wordByte_toNat (w : Word) (k : Nat) : (wordByte w k).toNat = w.toNat / 256 ^ k % 256 := BitVec.toNat_ofNat ..

theorem w32_le_four (w : Word) : w32 (le 4 w.toNat) 0 = w := by
  refine BitVec.eq_of_toNat_eq ?_
  have hw := w.isLt
  simp only [w32, u32, uN, le, List.drop_zero, List.take_succ_cons, List.take_zero, unle, BitVec.toNat_ofNat]
  omega

end Sys2Proof.Machine
end

section
/-! The engine's data space: RAM, apertures, reserved addresses, and what R418 withholds (R395 to R398). -/
namespace Sys2Proof.Machine

open Sys2Proof

/-! ### The ranges of Table 1-6 -/

theorem rangeOf_res {d : Nat} (h : d < 0x00200000) : rangeOf d = some 0 := by simp [rangeOf, h]

theorem rangeOf_eram {d : Nat} (hlo : 0x00800000 ≤ d) (hhi : d < 0x00808000) : rangeOf d = some 2 := by
  simp [rangeOf, hlo, hhi, show ¬ d < 0x00200000 by omega, show ¬ d < 0x00480000 by omega]

theorem rangeOf_reg {d : Nat} (hlo : 0x01000000 ≤ d) (hhi : d < 0x010E0000) : rangeOf d = some 3 := by
  simp [rangeOf, hlo, hhi, show ¬ d < 0x00200000 by omega, show ¬ d < 0x00480000 by omega, show ¬ d < 0x00808000 by omega]

theorem rangeOf_nvm {d : Nat} (hlo : 0x02000000 ≤ d) (hhi : d < 0x02100000) : rangeOf d = some 4 := by
  simp [rangeOf, hlo, hhi, show ¬ d < 0x00200000 by omega, show ¬ d < 0x00480000 by omega, show ¬ d < 0x00808000 by omega,
    show ¬ d < 0x010E0000 by omega]

/-! ### What an aperture reaches -/

theorem apertureRead_none {a : Nat} {s : State} (hd : rangeOf (apertureAddr s.eng a) = none) :
    apertureRead a s = { faults := [Src.engUnmappedAccess], stall := 4, st := s } := by
  rw [apertureRead, hd]

/-! ### The regions of the data space, outside the extension -/

section
variable {a : Nat} {s : State} (hx : inExt s.eng = false)
include hx

theorem dataRead_low (ha : a < 0x8000) : dataRead a s = { val := memByte s.eng.ram a, st := s } := by
  simp [dataRead, hx, ha]

theorem dataWrite_low (v : Byte) (ha : a < 0x8000) :
    dataWrite a v s = { st := { s with eng := { s.eng with ram := memWrite a [v] s.eng.ram } } } := by
  simp [dataWrite, hx, ha, modEng]

theorem dataRead_reserved (hlo : 0xC000 ≤ a) (hhi : a < 0xFF00) : dataRead a s = accFault Src.engUnmappedAccess s := by
  simp [dataRead, hx, hhi, show ¬ a < 0x8000 by omega, show ¬ a < 0xC000 by omega]

theorem dataWrite_reserved (v : Byte) (hlo : 0xC000 ≤ a) (hhi : a < 0xFF00) :
    dataWrite a v s = accFault Src.engUnmappedAccess s := by
  simp [dataWrite, hx, hhi, show ¬ a < 0x8000 by omega, show ¬ a < 0xC000 by omega]

theorem dataRead_aperture (hlo : 0x8000 ≤ a) (hhi : a < 0xC000) : dataRead a s = apertureRead a s := by
  simp [dataRead, hx, hhi, show ¬ a < 0x8000 by omega]

theorem dataWrite_aperture (v : Byte) (hlo : 0x8000 ≤ a) (hhi : a < 0xC000) : dataWrite a v s = apertureWrite a v s := by
  simp [dataWrite, hx, hhi, show ¬ a < 0x8000 by omega]

/-! ### What an aperture reaches -/

theorem apertureRead_reg (hd : rangeOf (apertureAddr s.eng a) = some 3) :
    apertureRead a s = latchRead ((a - 0x8000) / 0x1000) (apertureAddr s.eng a) s := by
  rw [apertureRead, hd]
  exact (if_neg (by rw [hx]; simp)).trans (if_pos rfl)

theorem apertureRead_memory {r : Nat} {x : List Byte × State} (hr : r ≠ 3) (hd : rangeOf (apertureAddr s.eng a) = some r)
    (hread : devRead (apertureAddr s.eng a) 1 s = x) :
    apertureRead a s = { val := x.1.getD 0 0, stall := if r = 4 then 12 else 4, st := x.2 } := by
  rw [apertureRead, hd, hread]
  exact (if_neg (by rw [hx]; simp)).trans (if_neg hr)

theorem apertureWrite_none (v : Byte) (hd : rangeOf (apertureAddr s.eng a) = none) :
    apertureWrite a v s = { faults := [Src.engUnmappedAccess], stall := 2, st := s } := by
  simp [apertureWrite, hd, hx]

theorem apertureWrite_reg (v : Byte) (hd : rangeOf (apertureAddr s.eng a) = some 3) :
    apertureWrite a v s = bufferWrite ((a - 0x8000) / 0x1000) (apertureAddr s.eng a) v s := by
  simp [apertureWrite, hd, hx]

theorem apertureWrite_nvm (v : Byte) (hd : rangeOf (apertureAddr s.eng a) = some 4) :
    apertureWrite a v s = { faults := [Src.engUnmappedAccess], stall := 2, st := s } := by
  simp [apertureWrite, hd, hx]

theorem apertureWrite_memory {r : Nat} (v : Byte) (hr : r < 3) (hd : rangeOf (apertureAddr s.eng a) = some r) :
    apertureWrite a v s = { stall := 2, st := memWriteDev (apertureAddr s.eng a) [v] s } := by
  interval_cases r <;> simp [apertureWrite, hd, hx]

end

theorem devRead_res (w : Nat) {d : Nat} (s : State) (h : rangeOf d = some 0) : devRead d w s = (memRead s.res.mem d w, s) := by
  simp only [devRead, h]

theorem devRead_eram (w : Nat) {d : Nat} (s : State) (h : rangeOf d = some 2) :
    devRead d w s = (memRead s.eng.ram (d - 0x00800000) w, s) := by
  simp only [devRead, h]

theorem devRead_nvm (w : Nat) {d : Nat} (s : State) (h : rangeOf d = some 4) :
    devRead d w s = (nvmRead s (d - 0x02000000) w, s) := by
  simp only [devRead, h]

theorem devRead_reg (w : Nat) {d : Nat} (s : State) (h : rangeOf d = some 3) :
    devRead d w s = (le 4 (readWord s d).toNat, blockRc (blockOf d) (d % 0x10000) s) := by
  simp only [devRead, h]

theorem memWriteDev_res {d : Nat} (bs : List Byte) (s : State) (h : rangeOf d = some 0) :
    memWriteDev d bs s = { s with res := { s.res with mem := memWrite d bs s.res.mem } } := by
  simp only [memWriteDev, h]

theorem memWriteDev_eram {d : Nat} (bs : List Byte) (s : State) (h : rangeOf d = some 2) :
    memWriteDev d bs s = { s with eng := { s.eng with ram := memWrite (d - 0x00800000) bs s.eng.ram } } := by
  simp only [memWriteDev, h]

/-! ### What R418 leaves to the extension -/

theorem extMayTouch_read (e : EngSt) (a : Nat) : extMayTouch e a false = true ↔ (0x6000 ≤ a ∧ a < 0x7000)
    ∨ (a < 0x8000 ∧ e.stackLim.toNat ≤ a ∧ a < hookTop e) ∨ (0xB000 ≤ a ∧ a < 0xFF00) ∨ 0xFF0C ≤ a := by
  unfold extMayTouch
  split_ifs <;> simp only [Bool.or_eq_true, decide_eq_true_eq, Bool.not_false, true_iff] <;> omega

theorem extMayTouch_write (e : EngSt) (a : Nat) :
    extMayTouch e a true = true ↔ extMayTouch e a false = true ∧ ¬(0xFF10 ≤ a ∧ a < 0xFF13) := by
  unfold extMayTouch
  split_ifs <;> simp only [Bool.or_eq_true, decide_eq_true_eq, Bool.not_true, Bool.not_false, true_and,
    Bool.false_eq_true, true_iff, false_iff] <;> omega

/-! ### The latch and the buffer of an aperture -/

/-- The word of the latch from which a byte is read, if it is. -/
def latched (n d : Nat) (s : State) : Option Word :=
  match (vget s.eng.aps n {}).latch with
  | some (k, w) => if k = d / 4 * 4 ∧ d % 4 ≠ 0 then some w else none
  | none => none

theorem latchRead_eq (n d : Nat) (s : State) : latchRead n d s = match latched n d s with
    | some w => { val := wordByte w (d % 4), st := s }
    | none => { val := wordByte (w32 (devRead (d / 4 * 4) 4 s).1 0) (d % 4), stall := 4
                st := modAp n (fun p => { p with latch := some (d / 4 * 4, w32 (devRead (d / 4 * 4) 4 s).1 0) })
                  (devRead (d / 4 * 4) 4 s).2 } := rfl

/-- A byte of the word the latch holds comes from it, without an access. -/
theorem latchRead_held {n d : Nat} {s : State} {w : Word} (h : (vget s.eng.aps n {}).latch = some (d / 4 * 4, w))
    (hd : d % 4 ≠ 0) : latchRead n d s = { val := wordByte w (d % 4), st := s } := by
  have hheld : latched n d s = some w := by
    rw [latched, h]
    exact if_pos ⟨rfl, hd⟩
  rw [latchRead_eq, hheld]

/-- Another byte reads the word whole into the latch. -/
theorem latchRead_fresh {n d : Nat} {s : State} (hr : rangeOf (d / 4 * 4) = some 3)
    (h : d % 4 = 0 ∨ ∀ w, (vget s.eng.aps n {}).latch ≠ some (d / 4 * 4, w)) : latchRead n d s = {
      val := wordByte (readWord s (d / 4 * 4)) (d % 4), stall := 4
      st := modAp n (fun p => { p with latch := some (d / 4 * 4, readWord s (d / 4 * 4)) })
        (blockRc (blockOf (d / 4 * 4)) (d / 4 * 4 % 0x10000) s) } := by
  have hheld : latched n d s = none := by
    unfold latched
    split
    next k w hl =>
      refine if_neg fun hk => ?_
      rcases h with h | h
      · exact hk.2 h
      · exact h w (hk.1 ▸ hl)
    next => rfl
  rw [latchRead_eq, hheld, devRead_reg 4 s hr, w32_le_four]

theorem vget_modAp {n : Nat} (hn : n < 4) (f : Aperture → Aperture) (s : State) :
    vget (modAp n f s).eng.aps n {} = f (vget s.eng.aps n {}) := by
  rw [modAp, modEng_eng, vget_vmodN, if_pos ⟨rfl, hn⟩]

/-- The word a byte write gathers into: the buffer's where it holds this word, else 0. -/
def buffered (n d : Nat) (s : State) : Word :=
  match (vget s.eng.aps n {}).wbuf with
  | some (k, w) => if k = d / 4 * 4 then w else 0
  | none => 0

theorem buffered_held {n d : Nat} {s : State} {o : Word} (h : (vget s.eng.aps n {}).wbuf = some (d / 4 * 4, o)) :
    buffered n d s = o := by
  rw [buffered, h]
  exact if_pos rfl

theorem buffered_other {n d : Nat} {s : State} (h : ∀ o, (vget s.eng.aps n {}).wbuf ≠ some (d / 4 * 4, o)) :
    buffered n d s = 0 := by
  unfold buffered
  split
  next k w hb => exact if_neg fun (hk : k = d / 4 * 4) => h w (hk ▸ hb)
  next => rfl

theorem bufferWrite_gathers {n d : Nat} (v : Byte) (s : State) (hd : d % 4 ≠ 3) : bufferWrite n d v s = {
    st := modAp n (fun p => { p with wbuf := some (d / 4 * 4, setFld (buffered n d s) (8 * (d % 4)) 8 v.toNat) }) s } := by
  unfold bufferWrite
  rw [if_neg hd]
  rfl

theorem bufferWrite_issues {n d : Nat} (v : Byte) {s : State} (hx : inExt s.eng = false) (hd : d % 4 = 3)
    (hlock : d / 4 * 4 ≠ Reg.secCfgLock) : bufferWrite n d v s = {
      stall := 2
      st := writeRow .firmware (d / 4 * 4) (BitVec.ofNat 32 ((buffered n d s).toNat % 2 ^ 24 + 2 ^ 24 * v.toNat))
        (modAp n (fun p => { p with wbuf := none }) s) } := by
  have hx' : inExt (modAp n (fun p => { p with wbuf := none }) s).eng = false := hx
  unfold bufferWrite
  simp only [hd, if_true, hlock, if_false, hx', Bool.false_eq_true]
  rw [← setFld_high]
  rfl

end Sys2Proof.Machine
end

section

open Sys2Proof Sys2Proof.Machine

/-- Settles O15: each region of the data space answers as R395 to R398 say, and R418 withholds what it names. -/
theorem dataSpace : Obligations.DataSpace := by
  refine ⟨fun a v s hx => ⟨fun ha => ⟨dataRead_low hx ha, dataWrite_low hx v ha⟩,
    fun hlo hhi => ⟨dataRead_reserved hx hlo hhi, dataWrite_reserved hx v hlo hhi⟩, fun hlo hhi => ?_⟩, fun a v s hx => ?_, fun a e => ?_⟩
  · intro n d
    have hn : n < 4 := by omega
    have hread : dataRead a s = apertureRead a s := dataRead_aperture hx hlo hhi
    have hwrite : dataWrite a v s = apertureWrite a v s := dataWrite_aperture hx v hlo hhi
    rw [hread, hwrite]
    refine ⟨fun hd hwf => ?_, fun hd1 hd2 hwf => ?_, fun hd1 hd2 => ?_, fun hd => ?_, fun hd1 hd2 => ?_⟩
    · have hr : rangeOf (apertureAddr s.eng a) = some 0 := rangeOf_res hd
      rw [apertureRead_memory hx (by decide) hr (devRead_res _ _ hr),
        apertureWrite_memory hx v (by decide) hr, memRead_one _ _ hwf,
        memWriteDev_res _ _ hr]
      exact ⟨rfl, rfl, rfl, rfl, rfl⟩
    · have hr : rangeOf (apertureAddr s.eng a) = some 2 := rangeOf_eram hd1 hd2
      rw [apertureRead_memory hx (by decide) hr (devRead_eram _ _ hr),
        apertureWrite_memory hx v (by decide) hr, memRead_one _ _ hwf,
        memWriteDev_eram _ _ hr]
      exact ⟨rfl, rfl, rfl, rfl⟩
    · have hr : rangeOf (apertureAddr s.eng a) = some 4 := rangeOf_nvm hd1 hd2
      rw [apertureRead_memory hx (by decide) hr (devRead_nvm _ _ hr), apertureWrite_nvm hx v hr]
      exact ⟨rfl, rfl, rfl, rfl⟩
    · exact ⟨apertureRead_none hd, apertureWrite_none hx v hd⟩
    · have hword : rangeOf (d / 4 * 4) = some 3 := rangeOf_reg (by omega) (by omega)
      have hreg : apertureRead a s = latchRead n d s := apertureRead_reg hx (rangeOf_reg hd1 hd2)
      have hbuf : apertureWrite a v s = bufferWrite n d v s := apertureWrite_reg hx v (rangeOf_reg hd1 hd2)
      rw [hreg, hbuf]
      refine ⟨fun w hl h0 => ?_, fun h => ?_, fun h3 => ?_, fun h3 hlock o ho => ?_⟩
      · rw [latchRead_held hl h0]
        exact ⟨wordByte_toNat w (d % 4), rfl, rfl⟩
      · rw [latchRead_fresh hword h]
        exact ⟨rfl, rfl, wordByte_toNat _ (d % 4), congrArg Aperture.latch (vget_modAp hn _ _)⟩
      · rw [bufferWrite_gathers v s h3]
        refine ⟨rfl, rfl, _, congrArg Aperture.wbuf (vget_modAp hn _ _), rfl, ?_, fun o ho j hj hjd => ?_, fun ho => ?_⟩
        · rw [byte_setFld _ v (by omega), if_pos rfl]
        · rw [byte_setFld _ v hj, if_neg hjd, buffered_held ho]
        · rw [buffered_other ho, setFld_zero_toNat v (by omega)]
      · rw [bufferWrite_issues v hx h3 hlock, buffered_held ho]
        exact ⟨rfl, rfl, rfl⟩
  · exact ⟨fun h => by rw [dataRead, hx, h]; rfl, fun h => by rw [dataWrite, hx, h]; rfl⟩
  · exact ⟨extMayTouch_read e a, extMayTouch_write e a⟩

end

section
/-! Raising a fault: what is recorded, and what the reaction of each severity does and leaves alone (R424, R427, R429,
R431, R435). -/
namespace Sys2Proof.Machine

open Sys2Proof

variable {s : State}

/-! ### The reset of a block and the SAFE hold -/

/-- What neither the reset of a block nor the beginning of the hold touches. -/
def tailView (s : State) :=
  (s.shadow, s.gram, s.nvm, s.pending, s.flt.blocks, s.flt.deferred, s.snuff, s.snuffDue, s.hif.irqEvents, s.sec.raised)

/-- What the reset of a block leaves alone once its reset shadow is open. -/
def resetView (s : State) := (tailView s, s.flt.shadows, s.safe)

theorem markDark_resetView (cause mask : Nat) (s : State) : Keeps resetView s (markDark cause mask s) :=
  (onlyRes_markDark cause mask s).keeps (fun _ => rfl)

theorem resetEffects_resetView (b : Nat) (s : State) : Keeps resetView s (resetEffects b s) := by
  unfold resetEffects
  split
  case h_2 => exact .after ((markDark_resetView ..).upd rfl id) rfl (fun _ => rfl)
  case h_3 => exact (markDark_resetView 4 touchSources s).upd rfl id
  case h_7 =>
    have harm := keeps_foldl (v := resetView) (f := fun t u => (armTrigger u t).1) (fun _ _ => ⟨rfl, id⟩) (List.finRange 16)
    exact (harm _).after (s := s) rfl id |>.trans (keeps_ite ⟨rfl, id⟩ (.refl _))
  case h_9 => exact .after (markDark_resetView ..) rfl id
  all_goals exact ⟨rfl, id⟩

theorem blockReset_eq {b : Nat} (src : Nat) (h : s.flt.shadows.any (fun x => x.block == b) = false) : blockReset b src s =
    resetEffects b (applyBlock b { s with flt := { s.flt with shadows := s.flt.shadows ++ [⟨b, src⟩] } }) := by
  rw [blockReset, if_neg (by simp [h])]

theorem blockReset_resetView {b : Nat} (src : Nat) (h : s.flt.shadows.any (fun x => x.block == b) = false) :
    resetView (blockReset b src s) = (tailView s, s.flt.shadows ++ [⟨b, src⟩], s.safe) := by
  rw [blockReset_eq src h]
  exact (resetEffects_resetView b _).1

theorem blockReset_tailView (b src : Nat) (s : State) : tailView (blockReset b src s) = tailView s := by
  cases h : s.flt.shadows.any (fun x => x.block == b) with
  | false => exact congrArg Prod.fst (blockReset_resetView src h)
  | true => rw [blockReset, if_pos h]

theorem safeBegin_held (h : s.safe.hold = true) : safeBegin s = s := if_pos h

/-- Where no hold is in progress the hold begins, and dark records follow. -/
theorem safeBegin_begins (h : s.safe.hold = false) : OnlyRes
    { s with
      safe := { s.safe with hold := true, latch := true, logDue := s.safe.logDue ++ [true], resumeAfter := none }
      grid := { s.grid with frame := none }, brdg := { s.brdg with excOn := 0 }, conv := { s.conv with paused := true } }
    (safeBegin s) := by
  rw [safeBegin, h]
  exact onlyRes_markDark ..

theorem safeBegin_tailView (s : State) : (tailView (safeBegin s), (safeBegin s).flt.shadows) = (tailView s, s.flt.shadows) := by
  cases h : s.safe.hold with
  | true => rw [safeBegin_held h]
  | false => rw [safeBegin_begins h]; rfl

/-! ### The snuff of an item -/

/-- The mark of an item in a set of snuffed items. -/
def snuffOn (b item : Nat) (x : SnuffSet) : Bool :=
  if b = 2 then x.lines.getLsbD item
  else if b = 5 ∨ b = 6 then (if item < 32 then x.lanes.getLsbD item else x.groups.getLsbD (item - 32))
  else if b = 8 then x.ports.getLsbD item
  else if b = 10 then x.sensors.getLsbD item
  else false

theorem itemSnuffed_eq (s : State) (b item : Nat) : itemSnuffed s b item = (snuffOn b item s.snuff || snuffOn b item s.snuffDue) := rfl

theorem snuffOn_snuffAdd {b item : Nat} (h : item < itemCount b) (x : SnuffSet) : snuffOn b item (snuffAdd b item x) = true := by
  have hbit : ∀ {w : Nat} (y : BitVec w) (k : Nat), k < w → (y ||| 1#w <<< k).getLsbD k = true := fun y k hk => by
    simp [hk]
  unfold itemCount at h
  unfold snuffOn snuffAdd
  split_ifs at h ⊢ <;> grind

/-- What a snuff leaves alone. -/
def snuffView (s : State) := (s.shadow, s.gram, s.nvm, s.pending, s.flt, s.safe, s.hif.irqEvents)

theorem snuffItem_snuffView (b item : Nat) (s : State) : Keeps snuffView s (snuffItem b item s) :=
  keeps_ite (.refl s) (keeps_ite ⟨rfl, id⟩ (keeps_ite ⟨rfl, id⟩ ⟨rfl, id⟩))

theorem snuffItem_raised (b item : Nat) (s : State) : s.sec.raised <+: (snuffItem b item s).sec.raised := by
  unfold snuffItem
  split
  · exact List.prefix_refl _
  · extract_lets recorded
    have hraised : s.sec.raised <+: recorded.sec.raised := List.prefix_append ..
    repeat' split
    all_goals exact hraised

theorem snuffItem_snuffs {b item : Nat} (h : item < itemCount b) (s : State) : itemSnuffed (snuffItem b item s) b item = true := by
  unfold snuffItem
  split
  next hold => exact hold.resolve_left (Nat.not_le.mpr h)
  next =>
    extract_lets recorded
    repeat' split
    all_goals simp [itemSnuffed_eq, snuffOn_snuffAdd h]

/-! ### The reaction of a severity -/

/-- The event FAULT of the interrupt flags set. -/
def irqFault (s : State) : State := { s with hif := { s.hif with irqEvents := s.hif.irqEvents ||| 0b0001 } }

/-- The reaction as far as the snuff of the item (Table 14-2). -/
def flagged (b item : Nat) (s : State) : State := snuffItem b item (irqFault s)

theorem react_zero (b src item : Nat) (s : State) : react b src item 0 s = s := rfl

theorem react_one (b src item : Nat) (s : State) :
    react b src item 1 s = irqFault s := rfl

theorem react_snuffs {sev : Nat} (b src item : Nat) (s : State) (h : 2 ≤ sev) : react b src item sev s =
    if sev = 3 then blockReset b src (flagged b item s) else if sev = 4 then safeBegin (flagged b item s) else flagged b item s := by
  rw [react, if_pos (by omega : 1 ≤ sev), if_pos h]
  rfl

theorem react_tailView {sev : Nat} (b src item : Nat) (s : State) (h : 2 ≤ sev) :
    tailView (react b src item sev s) = tailView (flagged b item s) := by
  rw [react_snuffs b src item s h]
  split_ifs
  · exact blockReset_tailView ..
  · exact congrArg Prod.fst (safeBegin_tailView _)
  · rfl

theorem flagged_snuffView (b item : Nat) (s : State) : snuffView (flagged b item s) =
    snuffView (irqFault s) := (snuffItem_snuffView ..).1

theorem flagged_shadows (b item : Nat) (s : State) : (flagged b item s).flt.shadows = s.flt.shadows :=
  congrArg (fun v => v.2.2.2.2.1.shadows) (flagged_snuffView b item s)

theorem flagged_safe (b item : Nat) (s : State) : (flagged b item s).safe = s.safe :=
  congrArg (fun v => v.2.2.2.2.2.1) (flagged_snuffView b item s)

/-- What every reaction leaves alone. -/
def reactView (s : State) := (s.shadow, s.gram, s.nvm, s.pending, s.flt.blocks, s.flt.deferred)

theorem reactView_of_tailView {t u : State} (h : tailView t = tailView u) : reactView t = reactView u := by
  simp only [tailView, Prod.mk.injEq] at h
  simp only [reactView, h]

theorem flagged_reactView (b item : Nat) (s : State) : reactView (flagged b item s) = reactView s := by
  have h := flagged_snuffView b item s
  simp only [snuffView, Prod.mk.injEq] at h
  simp only [reactView, h]
  rfl

theorem react_reactView (b src item sev : Nat) (s : State) : reactView (react b src item sev s) = reactView s := by
  match sev with
  | 0 => rfl
  | 1 => rfl
  | n + 2 => exact (reactView_of_tailView (react_tailView b src item s (by omega))).trans (flagged_reactView b item s)

theorem react_raised (b src item sev : Nat) (s : State) : s.sec.raised <+: (react b src item sev s).sec.raised := by
  match sev with
  | 0 => exact List.prefix_refl _
  | 1 => exact List.prefix_refl _
  | n + 2 =>
    have h : (react b src item (n + 2) s).sec.raised = (flagged b item s).sec.raised :=
      congrArg (fun v => v.2.2.2.2.2.2.2.2.2) (react_tailView b src item s (by omega))
    rw [h]
    exact snuffItem_raised b item (irqFault s)

theorem react_irqEvents {sev : Nat} (b src item : Nat) (s : State) (h : 1 ≤ sev) :
    (react b src item sev s).hif.irqEvents = s.hif.irqEvents ||| 1 := by
  match sev with
  | 1 => rfl
  | n + 2 =>
    exact (congrArg (fun v => v.2.2.2.2.2.2.2.2.1) (react_tailView (sev := n + 2) b src item s (by omega))).trans
      (congrArg (fun v => v.2.2.2.2.2.2) (flagged_snuffView b item s))

theorem react_itemSnuffed {b item sev : Nat} (src : Nat) (s : State) (h : 2 ≤ sev) (hi : item < itemCount b) :
    itemSnuffed (react b src item sev s) b item = true := by
  have htail := react_tailView b src item s h
  simp only [tailView, Prod.mk.injEq] at htail
  obtain ⟨-, -, -, -, -, -, hsnuff, hdue, -⟩ := htail
  rw [itemSnuffed_eq, hsnuff, hdue, ← itemSnuffed_eq]
  exact snuffItem_snuffs hi _

theorem react_reset {b : Nat} (src item : Nat) (h : s.flt.shadows.any (fun x => x.block == b) = false) :
    (react b src item 3 s).flt.shadows = s.flt.shadows ++ [⟨b, src⟩] ∧ (react b src item 3 s).safe = s.safe := by
  have hshadows := flagged_shadows b item s
  have hview := blockReset_resetView (s := flagged b item s) src (by rw [hshadows]; exact h)
  simp only [resetView, Prod.mk.injEq] at hview
  rw [react_snuffs b src item s (by decide), if_pos rfl, hview.2.1, hview.2.2, hshadows, flagged_safe]
  exact ⟨rfl, rfl⟩

theorem react_hold (b src item : Nat) (s : State) : react b src item 4 s = safeBegin (flagged b item s) :=
  react_snuffs b src item s (by decide)

theorem react_shadows {sev : Nat} (b src item : Nat) (s : State) (h : sev ≠ 3) :
    (react b src item sev s).flt.shadows = s.flt.shadows := by
  match sev with
  | 0 => rfl
  | 1 => rfl
  | n + 2 =>
    rw [react_snuffs b src item s (by omega), if_neg h]
    split
    · exact (congrArg Prod.snd (safeBegin_tailView _)).trans (flagged_shadows b item s)
    · exact flagged_shadows b item s

theorem react_safe {b sev : Nat} (src item : Nat) (hb : s.flt.shadows.any (fun x => x.block == b) = false) (h : sev ≠ 4) :
    (react b src item sev s).safe = s.safe := by
  match sev with
  | 0 => rfl
  | 1 => rfl
  | n + 2 =>
    by_cases h3 : n + 2 = 3
    · rw [h3]
      exact (react_reset src item hb).2
    · rw [react_snuffs b src item s (by omega), if_neg h3, if_neg h]
      exact flagged_safe b item s

/-! ### The recording -/

/-- The entry of an occurrence (Table 15-7). -/
def occurEntry (b src item sev conf : Nat) (conseq esc : Bool) (cb cs : Nat) (s : State) : State :=
  journalRaise 0xFF 0xFF (BitVec.ofNat 8 sev) 0x04
    ([BitVec.ofNat 8 b, BitVec.ofNat 8 src, BitVec.ofNat 8 conf, BitVec.ofNat 8 (b1 conseq + 2 * b1 esc)]
      ++ le 2 item ++ [BitVec.ofNat 8 cb, BitVec.ofNat 8 cs]) s

theorem occurEntry_eq (b src item sev conf : Nat) (conseq esc : Bool) (cb cs : Nat) (s : State) :
    ∃ e : RaisedEntry, e.kind = 4 ∧ e.result = BitVec.ofNat 8 sev ∧ occurEntry b src item sev conf conseq esc cb cs s =
      { s with sec := { s.sec with raised := s.sec.raised ++ [e] } } :=
  ⟨_, rfl, rfl, rfl⟩

/-- An occurrence recorded, and journaled where its severity `n` calls for it. -/
def recorded (n b src item sev conf : Nat) (conseq esc : Bool) (cb cs : Nat) (s : State) : State :=
  if 1 ≤ n then occurEntry b src item sev conf conseq esc cb cs (modFlt b (recordFault src item sev conseq esc cb cs) s)
  else modFlt b (recordFault src item sev conseq esc cb cs) s

/-- The reaction of an occurrence, deferred in EMBER and RETAIN (R433). -/
def reacted (b src item sev : Nat) (sleeps : Bool) (s : State) : State :=
  if sleeps then { s with flt := { s.flt with deferred := s.flt.deferred ++ [(b, src, item, sev)] } } else react b src item sev s

theorem reacted_view (b src item sev : Nat) (sleeps : Bool) (s : State) : let t := reacted b src item sev sleeps s
    t.shadow = s.shadow ∧ t.gram = s.gram ∧ t.nvm = s.nvm ∧ t.pending = s.pending ∧ t.flt.blocks = s.flt.blocks := by
  cases sleeps with
  | true => exact ⟨rfl, rfl, rfl, rfl, rfl⟩
  | false =>
    have h := react_reactView b src item sev s
    simp only [reactView, Prod.mk.injEq] at h
    exact ⟨h.1, h.2.1, h.2.2.1, h.2.2.2.1, h.2.2.2.2.1⟩

theorem reacted_raised (b src item sev : Nat) (sleeps : Bool) (s : State) :
    s.sec.raised <+: (reacted b src item sev sleeps s).sec.raised := by
  cases sleeps with
  | true => exact List.prefix_refl _
  | false => exact react_raised b src item sev s

theorem reacted_zero_sec (b src item : Nat) (sleeps : Bool) (s : State) : (reacted b src item 0 sleeps s).sec = s.sec := by
  cases sleeps <;> rfl

section
variable {b src : Nat} (hb : s.flt.shadows.any (fun x => x.block == b) = false) (hen : srcEnabled s b src = true)
include hb hen

theorem raise_consequential {x : Shadow} (item : Nat) (hc : (if neverConsequential b src then none
    else s.flt.shadows.find? (fun x => (consumers x.block).contains b)) = some x) : raise b src item s =
      recorded (srcSeverity s b src) b src item 0 (srcSeverity s b src) true false x.block x.source s := by
  unfold raise raiseIn
  rw [if_neg (by simp [hb, hen]), hc]
  simp only [Option.isSome_some, Bool.true_and, Bool.not_true, Bool.false_and, Bool.or_false, decide_eq_true_eq, if_true,
    Option.map_some, Option.getD_some]
  rfl

theorem raise_direct {item sev : Nat} {esc : Bool} (hc : (if neverConsequential b src then none
    else s.flt.shadows.find? (fun x => (consumers x.block).contains b)) = none) (hn : nextSeverity s b src item = (sev, esc)) :
    raise b src item s = reacted b src item sev (asleep s) (recorded sev b src item sev (srcSeverity s b src) false esc 0 0 s) := by
  unfold raise raiseIn
  rw [if_neg (by simp [hb, hen]), hc]
  simp only [hn, Option.isSome_none, Bool.false_and, Bool.not_false, Bool.true_and, Bool.false_or, decide_eq_true_eq,
    Bool.false_eq_true, if_false, Option.map_none, Option.getD_none]
  unfold reacted recorded occurEntry
  split <;> rfl

end

/-- A state with a block's fault logic changed and entries raised. -/
def noted (b : Nat) (f : FaultSt → FaultSt) (l : List RaisedEntry) (s : State) : State :=
  { s with flt := { s.flt with blocks := vmodN s.flt.blocks b f }, sec := { s.sec with raised := s.sec.raised ++ l } }

/-- An occurrence of configured or raised severity `n` recorded changes the block's fault logic, and the journal where
`n` is not 0. -/
theorem recorded_eq (n b src item sev conf : Nat) (conseq esc : Bool) (cb cs : Nat) (s : State) : ∃ l : List RaisedEntry,
    recorded n b src item sev conf conseq esc cb cs s = noted b (recordFault src item sev conseq esc cb cs) l s
      ∧ (n = 0 → l = []) ∧ (1 ≤ n → ∃ e : RaisedEntry, e.kind = 4 ∧ e.result = BitVec.ofNat 8 sev ∧ l = [e]) := by
  by_cases hn : 1 ≤ n
  · obtain ⟨e, hkind, hresult, heq⟩ := occurEntry_eq b src item sev conf conseq esc cb cs
      (modFlt b (recordFault src item sev conseq esc cb cs) s)
    refine ⟨[e], ?_, fun h => absurd h (by omega), fun _ => ⟨e, hkind, hresult, rfl⟩⟩
    rw [recorded, if_pos hn, heq]
    rfl
  · refine ⟨[], ?_, fun _ => rfl, fun h => absurd h hn⟩
    rw [recorded, if_neg hn, noted, List.append_nil]
    rfl

theorem noted_nil_sec (b : Nat) (f : FaultSt → FaultSt) (s : State) : (noted b f [] s).sec = s.sec := by
  rw [noted, List.append_nil]

theorem fltOf_of_blocks {t : State} {b : Nat} {f : FaultSt → FaultSt} (hb : b < 14)
    (h : t.flt.blocks = vmodN s.flt.blocks b f) : fltOf t b = f (fltOf s b) := by
  rw [fltOf, h, vget_vmodN, if_pos ⟨rfl, hb⟩]
  rfl

theorem fltOf_other {t : State} {b k : Nat} {f : FaultSt → FaultSt} (hk : k ≠ b)
    (h : t.flt.blocks = vmodN s.flt.blocks b f) : fltOf t k = fltOf s k := by
  rw [fltOf, h, vget_vmodN, if_neg (fun e => hk e.1.symm)]
  rfl

theorem sat16_zero (c : Half) : sat16 c 0 = c := by
  have hc := c.isLt
  rw [sat16, Nat.add_zero, Nat.min_eq_right (by omega), BitVec.ofNat_toNat, BitVec.setWidth_eq]

theorem react_deferred (b src item sev : Nat) (s : State) : (react b src item sev s).flt.deferred = s.flt.deferred :=
  congrArg (fun v => v.2.2.2.2.2) (react_reactView b src item sev s)

/-- The hold begun by a SAFE reaction. -/
theorem safeBegin_hold (s : State) : (safeBegin s).safe.hold = true := by
  cases h : s.safe.hold with
  | true => rw [safeBegin_held h, h]
  | false => rw [safeBegin_begins h]

/-- A SAFE reaction without a hold in progress: the latch, the log word, the outputs and the acquisition (R144, R145). -/
theorem react_begins (b src item : Nat) (h : s.safe.hold = false) :
    (react b src item 4 s).safe.latch = true ∧ (react b src item 4 s).brdg.excOn = 0 ∧ (react b src item 4 s).grid.frame = none
      ∧ (react b src item 4 s).conv.paused = true ∧ (react b src item 4 s).safe.logDue = s.safe.logDue ++ [true] := by
  have hflag := flagged_safe b item s
  rw [react_hold, safeBegin_begins (by rw [hflag]; exact h)]
  exact ⟨rfl, rfl, rfl, rfl, by rw [hflag]⟩

end Sys2Proof.Machine
end

section

open Sys2Proof Sys2Proof.Machine

/-- Settles O48: a raise is recorded, and its reaction is that of the severity it takes. -/
theorem raising : Obligations.Raising := by
  intro b src item s hb _
  refine ⟨fun h => ?_, fun hopen hen => ?_⟩
  · unfold raise raiseIn
    rw [if_pos (by rcases h with h | h <;> simp [h])]
  intro t cause sev
  refine ⟨rfl, ?_⟩
  cases hc : cause with
  | some x =>
    obtain ⟨l, heq, hnote, hentry⟩ := recorded_eq (srcSeverity s b src) b src item 0 (srcSeverity s b src) true false x.block x.source s
    have ht : t = noted b (recordFault src item 0 true false x.block x.source) l s := (raise_consequential hopen hen item hc).trans heq
    have hblocks := congrArg (fun u : State => u.flt.blocks) ht
    rw [fltOf_of_blocks hb hblocks]
    refine ⟨rfl, rfl, (ite_not ..).symm, fun k hk => fltOf_other hk hblocks, by rw [ht]; rfl, by rw [ht]; rfl, by rw [ht]; rfl,
      by rw [ht]; rfl, ?_, nofun⟩
    intro y hy
    obtain rfl : x = y := Option.some.inj hy
    refine ⟨rfl, by rw [ht]; rfl, by rw [ht]; rfl, fun h0 => ?_, fun h1 => ?_⟩
    · rw [ht, hnote h0, noted_nil_sec]
    · obtain ⟨e, hkind, hresult, rfl⟩ := hentry h1
      exact ⟨e, hkind, hresult, by rw [ht]; rfl⟩
  | none =>
    obtain ⟨l, heq, hnote, hentry⟩ := recorded_eq sev b src item sev (srcSeverity s b src) false (nextSeverity s b src item).2 0 0 s
    have ht := raise_direct hopen hen hc (show nextSeverity s b src item = (sev, (nextSeverity s b src item).2) from rfl)
    rw [heq] at ht
    change t = reacted b src item sev (asleep s) _ at ht
    obtain ⟨hshadow, hgram, hnvm, hpending, hblocks⟩ := reacted_view b src item sev (asleep s)
      (noted b (recordFault src item sev false (nextSeverity s b src item).2 0 0) l s)
    rw [← ht] at hshadow hgram hnvm hpending hblocks
    rw [fltOf_of_blocks hb hblocks]
    refine ⟨rfl, rfl, (ite_not ..).symm, fun k hk => fltOf_other hk hblocks, hshadow, hnvm, hgram, hpending, nofun,
      fun _ => ⟨sat16_zero _, fun h0 => ?_, fun h1 => ?_, fun ha => ?_, fun ha => ?_⟩⟩
    · rw [ht, h0, reacted_zero_sec, hnote h0, noted_nil_sec]
    · obtain ⟨e, hkind, hresult, rfl⟩ := hentry h1
      exact ⟨e, hkind, hresult, by rw [ht]; exact reacted_raised b src item sev (asleep s) (noted b _ [e] s)⟩
    · rw [ha] at ht
      exact ⟨by rw [ht]; rfl, by rw [ht]; rfl, by rw [ht]; rfl⟩
    · rw [ha] at ht
      change t = react b src item sev _ at ht
      refine ⟨?_, fun h0 => ?_, fun h1 => ?_, fun h1 => ?_, fun h2 hi => ?_, fun h3 => ?_, fun h3 => ?_, fun h4 => ⟨?_, fun hs => ?_⟩,
        fun h4 => ?_⟩
      · rw [ht, react_deferred]
        rfl
      · rw [ht, h0, react_zero, hnote h0, noted, List.append_nil]
      · rw [ht, h1, react_one]
        rfl
      · rw [ht, react_irqEvents b src item _ h1]
        rfl
      · rw [ht, react_itemSnuffed src _ h2 hi]
      · rw [ht, h3, (react_reset src item (by exact hopen)).1]
        rfl
      · rw [ht, react_shadows b src item _ h3]
        rfl
      · rw [ht, h4, react_hold, safeBegin_hold]
      · rw [ht, h4]
        exact react_begins b src item hs
      · rw [ht, react_safe src item (by exact hopen) h4]
        rfl

end

section
/-! What the bodies of the stream commands answer, check after check (section 12.8). -/
namespace Sys2Proof.Machine

open Sys2Proof

/-- What STREAM_ADMIT answers to the results of the checks of Table 12-4: the number of the first that fails, E, R, the
share and its pages. -/
def admitAnswer (p : Packet) (k : Fin 16) : Nat × Nat × Nat × Nat × Nat → State → CmdResult
  | (chk, e, r, share, pages), u =>
    let d := streamDef u.shadow k.val
    let base := (fitPages pages 0 (sharesBut u k)).getD 0
    let bad : Nat → CmdResult := fun c => { st := u, status := 0x40, data := admitData e r share 0 c }
    if chk ≠ 0 then bad chk
    else if d.drain ≠ 3 then okCmd (grant k base pages e r u) (admitData e r share pages 0)
    else match routePort u (BitVec.ofNat 8 d.dest) with
      | none => bad 6
      | some n => match reservePort (ownAddr u) k.val n r u with
        | none => bad 6
        | some t =>
          let t := modStream k (fun (x : StreamSt) =>
            { x with asking := some ⟨p.origin, p.tag, BitVec.ofNat 8 d.dest, pages, base, e, r, share⟩ }) t
          { st := sendRouted (admissionFrame t (BitVec.ofNat 8 d.dest) k.val d.iface e r d.sources false) t
            status := 0x00, silent := true }

section

variable (p : Packet) (u : State)

/-- STREAM_DEFINE withdraws the admission of a stream that does not run and writes its words (R375). -/
theorem streamDefineBody_eq : streamDefineBody p u =
    if ¬(p.params.length = 24) then failCmd u 0x11 else
    if ¬(u8 p.params 0 ≤ 15 ∧ u8 p.params 1 ≤ 3 ∧ u8 p.params 3 ≤ 1 ∧ u16 p.params 4 ≤ 0x1FF ∧ u8 p.params 7 ≤ 1
        ∧ zeros p.params 22 2 = true ∧ streamOk (streamDef (fileSets (streamWords12 p.params) u.shadow)
          (Fin.ofNat 16 (u8 p.params 0)).val) (inForce u) (periodUs u) = true) then failCmd u 0x13 else
    if ¬((u.res.streams[(Fin.ofNat 16 (u8 p.params 0) : Fin 16)] : StreamSt).running = false) then failCmd u 0x30 else
    okCmd (modStream (Fin.ofNat 16 (u8 p.params 0)) (fun (x : StreamSt) => { x with seq := 0 })
      (withShadow (fileSets (streamWords12 p.params) u.shadow) (withdraw (Fin.ofNat 16 (u8 p.params 0)) u))) [] := by
  simp only [streamDefineBody, checked_cons, checked_nil, decide_eq_true_eq, Bool.and_eq_true, Bool.not_eq_true', and_assoc]

/-- STREAM_ADMIT answers the checks of Table 12-4, grants a host drain's share, and asks a device for a stream to it
(R378). -/
theorem streamAdmitBody_eq : streamAdmitBody p u =
    if ¬(p.params.length = 4) then failCmd u 0x11 else
    if ¬(u8 p.params 0 ≤ 15 ∧ u8 p.params 1 = 0) then failCmd u 0x13 else
    if ¬(u.time.sched ≠ none ∧ streamDefined u (Fin.ofNat 16 (u8 p.params 0)).val = true
        ∧ (u.res.streams[(Fin.ofNat 16 (u8 p.params 0) : Fin 16)] : StreamSt).running = false
        ∧ (u.res.streams[(Fin.ofNat 16 (u8 p.params 0) : Fin 16)] : StreamSt).rx = none) then failCmd u 0x30 else
    if ¬((u.res.streams[(Fin.ofNat 16 (u8 p.params 0) : Fin 16)] : StreamSt).asking = none) then failCmd u 0x31 else
    admitAnswer p (Fin.ofNat 16 (u8 p.params 0))
      (admitChecks (Fin.ofNat 16 (u8 p.params 0)) (inForce u) ((periodUs u).getD 1) (u16 p.params 2) u) u := by
  rw [streamAdmitBody]
  generalize admitChecks (Fin.ofNat 16 (u8 p.params 0)) (inForce u) ((periodUs u).getD 1) (u16 p.params 2) u = c
  obtain ⟨chk, e, r, share, pages⟩ := c
  simp only [checked_cons, checked_nil, decide_eq_true_eq, Bool.and_eq_true, Bool.not_eq_true',
    Option.isNone_iff_eq_none, Option.isSome_iff_ne_none, and_assoc]
  rfl

/-- STREAM_START sets the start of the named streams, all of them admitted (R380). -/
theorem streamStartBody_eq : streamStartBody p u =
    if ¬(p.params.length = 8) then failCmd u 0x11 else
    if ¬(u8 p.params 2 ≤ 1 ∧ u8 p.params 3 = 0) then failCmd u 0x13 else
    if ¬((currentEpoch u).isSome = true) then failCmd u 0x30 else
    if ¬(u8 p.params 2 = 1 → targetBad u (w32 p.params 4) = none) then failCmd u 0x13 else
    if ¬(∀ k ∈ streamsOf (u16 p.params 0), (u.res.streams[k] : StreamSt).admitted = true
        ∧ (u.res.streams[k] : StreamSt).rx = none) then failCmd u 0x30 else
    let e := if u8 p.params 2 = 1 then w32 p.params 4 else reportEpoch u + 1
    okCmd ((streamsOf (u16 p.params 0)).foldl (fun t k => modStream k (fun (x : StreamSt) =>
        if x.running then { x with stopAt := none } else { x with startAt := some e }) t) u)
      (le 4 e.toNat ++ le 2 (sumNat (((streamsOf (u16 p.params 0)).filter
        (fun k => !(u.res.streams[k] : StreamSt).running)).map (fun k => 2 ^ k.val))) ++ [0, 0]) := by
  simp only [streamStartBody, streamRunChecks, streamTarget, List.cons_append, List.nil_append, checked_cons, checked_nil,
    decide_eq_true_eq, Bool.and_eq_true, Bool.or_eq_true, bne_iff_ne, ne_eq, ← imp_iff_not_or, Option.isNone_iff_eq_none,
    List.all_eq_true]

/-- STREAM_STOP sets the stop of the named streams (R380). -/
theorem streamStopBody_eq : streamStopBody p u =
    if ¬(p.params.length = 8) then failCmd u 0x11 else
    if ¬(u8 p.params 2 ≤ 1 ∧ u8 p.params 3 = 0) then failCmd u 0x13 else
    if ¬((currentEpoch u).isSome = true) then failCmd u 0x30 else
    if ¬(u8 p.params 2 = 1 → targetBad u (w32 p.params 4) = none) then failCmd u 0x13 else
    let e := if u8 p.params 2 = 1 then w32 p.params 4 else reportEpoch u + 1
    okCmd ((streamsOf (u16 p.params 0)).foldl (fun t k => modStream k (fun (x : StreamSt) =>
        if x.running then { x with stopAt := some e } else { x with startAt := none }) t) u)
      (le 4 e.toNat ++ le 2 (sumNat (((streamsOf (u16 p.params 0)).filter
        (fun k => (u.res.streams[k] : StreamSt).running)).map (fun k => 2 ^ k.val))) ++ [0, 0]) := by
  simp only [streamStopBody, streamRunChecks, streamTarget, checked_cons, checked_nil, decide_eq_true_eq, Bool.or_eq_true,
    bne_iff_ne, ne_eq, ← imp_iff_not_or, Option.isNone_iff_eq_none]

/-- STREAM_READ releases up to ACK and returns whole records (R382). -/
theorem streamReadBody_eq : streamReadBody p u =
    if ¬(p.params.length = 8) then failCmd u 0x11 else
    if ¬(u8 p.params 0 ≤ 15 ∧ u8 p.params 1 = 0 ∧ u16 p.params 2 ≤ 4088
        ∧ streamDrain u (Fin.ofNat 16 (u8 p.params 0)).val = 2) then failCmd u 0x13 else
    let k : Fin 16 := Fin.ofNat 16 (u8 p.params 0)
    let t := releaseRecs k (fun r => laterW (w32 p.params 4) r.seq) u
    let st : StreamSt := t.res.streams[k]
    let rs := fitRecs (u16 p.params 2) st.recs
    let next : Word := match rs.getLast? with
      | some r => r.seq + 1
      | none => (st.recs.head?.map (·.seq)).getD st.seq
    okCmd t (le 4 next.toNat ++ le 2 (rs.flatMap (·.bytes)).length ++ [0, 0] ++ rs.flatMap (·.bytes)) := by
  simp only [streamReadBody, checked_cons, checked_nil, decide_eq_true_eq, Bool.and_eq_true, beq_iff_eq, and_assoc]
    <;> rfl

/-- DRAIN_DECLARE writes the drain's words (R383). -/
theorem drainDeclareBody_eq : drainDeclareBody p u =
    let ws := [(Reg.resDrainRate (u8 p.params 0), w32 p.params 4), (Reg.resDrainLat (u8 p.params 0), w32 p.params 8)]
    if ¬(p.params.length = 12) then failCmd u 0x11 else
    if ¬(u8 p.params 0 ≤ 2 ∧ u32 p.params 8 ≤ 10000000 ∧ zeros p.params 1 3 = true
        ∧ drainOk u (fileSets ws u.shadow) (u8 p.params 0) = true) then failCmd u 0x13 else
    okCmd (withShadow (fileSets ws u.shadow) u) [] := by
  simp only [drainDeclareBody, checked_cons, checked_nil, decide_eq_true_eq, Bool.and_eq_true, and_assoc]

end

end Sys2Proof.Machine
end

section

open Sys2Proof Sys2Proof.Machine

/-- Settles O37: each of the six stream commands answers as its body's checks and work say. -/
theorem streamCommands : Obligations.StreamCommands := by
  intro p s b u q
  exact ⟨fun h => exec_concludes (exec_streamDefine p s) h (streamDefineBody_eq p u),
    fun h => exec_concludes (exec_streamStart p s) h (streamStartBody_eq p u),
    fun h => exec_concludes (exec_streamStop p s) h (streamStopBody_eq p u),
    fun h => exec_concludes (exec_streamRead p s) h (streamReadBody_eq p u),
    fun h => exec_concludes (exec_drainDeclare p s) h (drainDeclareBody_eq p u),
    fun h => exec_concludes (exec_streamAdmit p s) h (streamAdmitBody_eq p u)⟩

end

section
/-! What the bodies of the key, journal, image and decode table commands answer, check after check (sections 15.2 to
15.7). -/
namespace Sys2Proof.Machine

open Sys2Proof

section

variable (p : Packet) (u : State)

/-! ### Keys -/

/-- KEY_SET keeps the key of the right MAC for its completion, and journals a wrong one (R452, R453). -/
theorem keySetBody_eq : keySetBody p u =
    let q := p.params
    if ¬(q.length = 84) then failCmd u 0x11 else
    if ¬(u8 q 0 ≤ 3 ∧ u8 q 1 ≤ 1 ∧ zeros q 2 2 = true ∧ (u8 q 1 = 1 → u8 q 0 < 2) ∧ (u8 q 0 ≠ 3 → zeros q 36 32 = true)
        ∧ (u8 q 1 = 1 → zeros q 4 64 = true)) then failCmd u 0x13 else
    if ¬(u8 q 0 = 3 → onCurve (unbe ((q.drop 4).take 32), unbe (((q.drop 4).take 64).drop 32)) = true) then failCmd u 0x13 else
    let t := u8 q 0
    let field := (q.drop 4).take 64
    let role := (roleOf u p.origin).toNat
    let slot := slotOf u p.origin
    let n : Byte := match slot with | some k => (u.sec.sessions[k] : Session).keySets | none => 0
    let ks : List Byte := match slot with | some k => (u.sec.sessions[k] : Session).ks | none => []
    let want := if role = 0 then List.replicate 16 (0 : Byte) else
      (hmac ks ([0x4B, 0x4D, 0x41, 0x43, BitVec.ofNat 8 t, BitVec.ofNat 8 (u8 q 1), n] ++ field)).take 16
    let key := if t = 3 ∨ role = 0 then field else xorBytes field (hmac ks ([0x57, 0x52, 0x41, 0x50, BitVec.ofNat 8 t, n]))
    if (q.drop 68).take 16 = want then
      acceptCmd (edgeLine 20 { u with sec := { u.sec with
        keyJob := some ⟨t, u8 q 1 == 1, key.take (if t = 3 then 64 else 32), if role = 0 then none else slot⟩ } })
    else { st := journalAuthFail 0xA0 slot p.origin role role
             (match slot with | some k => (u.sec.sessions[k] : Session).fails | none => 0) false u
           status := 0x20, ownEntry := true } := by
  have hx : ((p.params.drop 4).take 64).take 32 = (p.params.drop 4).take 32 := List.take_take ..
  simp only [keySetBody, checked_cons, checked_nil, decide_eq_true_eq, Bool.and_eq_true, Bool.or_eq_true, Bool.not_eq_true',
    Bool.and_eq_false_imp, beq_iff_eq, bne_iff_ne, ne_eq, decide_eq_false_iff_not, Nat.not_le, Bool.not_eq_false', hx,
    and_assoc, ← imp_iff_not_or, ← or_iff_not_imp_left]
    <;> rfl

/-! ### The journal -/

/-- JOURNAL_POLICY is accepted with a policy of 0 or 1. -/
theorem journalPolicyBody_eq : journalPolicyBody p u =
    if ¬(p.params.length = 4) then failCmd u 0x11 else
    if ¬(u8 p.params 0 ≤ 1 ∧ zeros p.params 1 3 = true) then failCmd u 0x13 else acceptCmd u := by
  simp only [journalPolicyBody, checked_cons, checked_nil, decide_eq_true_eq, Bool.and_eq_true]

/-- What JOURNAL_READ answers once a release is made: the entries from FROM on that fit, marked as read by the slot
(R463). -/
def journalReadDone (q : List Byte) (k : Fin 6) (t : State) : CmdResult :=
  let out := (t.nvm.journal.filter (fun e => decide (u32 q 0 ≤ e.seq))).take (u16 q 4)
  okCmd { t with
      nvm := { t.nvm with journal := t.nvm.journal.map (fun (e : JEntry) =>
        if out.any (fun x => x.seq == e.seq) then { e with read := true, readBy := e.readBy ||| (1#6 <<< k.val) } else e) }
      sec := { t.sec with lostSinceRead := false } }
    (le 4 (journalHead t) ++ le 4 (journalOldest t) ++ le 4 t.sec.keys.released.toNat ++ le 2 out.length
      ++ [BitVec.ofNat 8 (b1 t.sec.keys.policy),
          BitVec.ofNat 8 (b1 (journalFull t) + 2 * b1 (journalRefuses t) + 4 * b1 t.sec.lostSinceRead)]
      ++ (hmac (t.sec.sessions[k] : Session).ks ([0x4A, 0x48, 0x45, 0x44] ++ le 4 (journalHead t) ++ lastChain t)).take 16
      ++ out.flatMap entryBytes)

/-- JOURNAL_READ in a slot: the release first, where it is asked for and R463 allows it, then the entries. -/
theorem journalReadBody_eq {k : Fin 6} (hslot : slotOf u p.origin = some k) : journalReadBody p u =
    let q := p.params
    if ¬(q.length = 12) then failCmd u 0x11 else
    if ¬((u16 q 4 ≤ 127 ∧ u8 q 6 ≤ 1 ∧ u8 q 7 = 0) ∧ (u8 q 6 = 1 → releaseOk u k (u32 q 8) = true)) then failCmd u 0x13 else
    journalReadDone q k (if u8 q 6 = 1 then release k (u32 q 8) u else u) := by
  rw [journalReadBody, hslot]
  dsimp only
  rw [checked_cons, checked_cons_cons, checked_cons, checked_nil]
  refine if_congr (by rw [decide_eq_true_eq]) rfl (if_congr (not_congr ?_) rfl
    (congrArg (journalReadDone p.params k) (if_congr beq_iff_eq rfl rfl)))
  simp only [Bool.and_eq_true, Bool.or_eq_true, Bool.not_eq_true', decide_eq_true_eq, beq_eq_false_iff_ne, imp_iff_not_or, ne_eq]

/-! ### Images -/

/-- IMAGE_BEGIN invalidates the inactive slot, erases the region and begins the transfer (R467). -/
theorem imageBeginBody_eq : imageBeginBody p u =
    let q := p.params
    if ¬(q.length = 164) then failCmd u 0x11 else
    if ¬((u8 q 0 = 1 ∨ u8 q 0 = 2) ∧ u8 q 1 ≤ 1 ∧ zeros q 2 2 = true ∧ headerOk (u8 q 0) (q.drop 4) = true) then failCmd u 0x13 else
    if headerPermitted u (u8 q 0) (q.drop 4) = false then failCmd (raise 13 Src.secImageCheck noItem u) 0x20 else
    let other := !u.sec.keys.confirmed
    let t := eraseRegion other (u8 q 0) (modSlot other (fun i => { i with valid := false })
      (modRegionOf other (u8 q 0) (some (mkImage (q.drop 4) [])) u))
    let t := if t.sec.keys.pendingAct then keysUpdate { t.sec.keys with pendingAct := false, trial := 0 } t else t
    okCmd (edgeLine 20 { t with sec := { t.sec with transfer := some ⟨BitVec.ofNat 8 (u8 q 0), u8 q 1 == 1, q.drop 4, []⟩ } })
      [if other then 1 else 0, 0, 0, 0] := by
  have hslot : ∀ b : Bool, (BitVec.ofNat 8 (b1 b) : Byte) = if b then 1 else 0 := by decide
  simp only [imageBeginBody, checked_cons, checked_nil, decide_eq_true_eq, Bool.and_eq_true, Bool.not_eq_true', and_assoc, hslot,
    imageRefuse]

/-- IMAGE_DATA appends bytes that follow those received, within the length of the header (R467). -/
theorem imageDataBody_eq : imageDataBody p u =
    let q := p.params
    if ¬(5 ≤ q.length) then failCmd u 0x11 else
    match u.sec.transfer with
    | none => failCmd u 0x30
    | some t =>
      let bytes := t.received ++ q.drop 4
      if u32 q 0 ≠ t.received.length ∨ u32 t.header 16 < bytes.length then failCmd u 0x13 else
      let v := modRegionOf (!u.sec.keys.confirmed) t.kind.toNat (some (mkImage t.header bytes)) u
      okCmd (edgeLine 19 { v with sec := { v.sec with transfer := some { t with received := bytes } } }) (le 4 bytes.length) := by
  rw [imageDataBody]
  simp only [Nat.not_le]
  cases u.sec.transfer with
  | none => rfl
  | some t =>
    simp only [checked_cons_cons]
    simp only [checked_cons, checked_nil, Bool.and_eq_true, decide_eq_true_eq, not_and_or, Nat.not_le, ne_eq]

/-- IMAGE_END is accepted while a transfer is open. -/
theorem imageEndBody_eq : imageEndBody p u =
    if ¬(p.params.length = 0) then failCmd u 0x11 else
    if ¬(u.sec.transfer.isSome = true) then failCmd u 0x30 else acceptCmd u := by
  simp only [imageEndBody, checked_cons, checked_nil, List.isEmpty_iff, List.length_eq_zero_iff]

/-- IMAGE_ACTIVATE of the inactive slot needs it valid, with firmware that is not rolled back (R468). -/
theorem imageActivateBody_eq : imageActivateBody p u =
    let q := p.params
    if ¬(q.length = 4) then failCmd u 0x11 else
    if ¬(u8 q 0 ≤ 1 ∧ zeros q 1 3 = true) then failCmd u 0x13 else
    if ¬((u8 q 0 == 1) ≠ u.sec.keys.confirmed →
        (imageSlot u (u8 q 0 == 1)).valid = true ∧ (imageSlot u (u8 q 0 == 1)).fw ≠ none) then failCmd u 0x30 else
    if ¬((u8 q 0 == 1) ≠ u.sec.keys.confirmed → (imageSlot u (u8 q 0 == 1)).fw.all
        (fun f => decide (u.sec.keys.fwCounter.toNat ≤ f.rollback.toNat)) = true) then failCmd u 0x20 else
    acceptCmd u := by
  simp only [imageActivateBody, checked_cons, checked_nil, decide_eq_true_eq, Bool.and_eq_true, Bool.or_eq_true, Bool.not_eq_true',
    bne_eq_false_iff_eq, Option.isSome_iff_ne_none, or_iff_not_imp_left, ne_eq]

/-! ### The decode table -/

/-- DECODE_LOAD is accepted with a permitted header and the digest of its payload (R465, R473). -/
theorem decodeLoadBody_eq : decodeLoadBody p u =
    let q := p.params
    if ¬(q.length = 1248) then failCmd u 0x11 else
    if ¬(headerOk 3 (q.take 160) = true) then failCmd u 0x13 else
    if ¬(∀ k ∈ List.range 16, bitOf (w32 (q.drop 160) (4 * k)) 8 = true → fld (w32 (q.drop 160) (4 * k)) 16 8 ≠ 0) then
      failCmd u 0x13 else
    if headerPermitted u 3 (q.take 160) = true ∧ sha256 (q.drop 160) = ((q.take 160).drop 32).take 32 then
      acceptCmd (edgeLine 20 u)
    else failCmd (raise 13 Src.secImageCheck noItem u) 0x20 := by
  simp only [decodeLoadBody, checked_cons, checked_nil, decide_eq_true_eq, Bool.and_eq_true, Bool.or_eq_true, Bool.not_eq_true',
    List.all_eq_true, Bool.eq_false_iff, ← imp_iff_not_or, imageRefuse, ne_eq]

end

end Sys2Proof.Machine
end

section

open Sys2Proof Sys2Proof.Machine

/-- Settles O39: each of the eight commands answers as its body's checks and work say. -/
theorem keyImageCommands : Obligations.KeyImageCommands := by
  intro p s b u q
  refine ⟨fun h => exec_concludes (exec_keySet p s) h (keySetBody_eq p u),
    fun h => exec_concludes (exec_journalPolicy p s) h (journalPolicyBody_eq p u),
    fun h => exec_concludes (exec_imageBegin p s) h (imageBeginBody_eq p u),
    fun h => exec_concludes (exec_imageData p s) h (imageDataBody_eq p u),
    fun h => exec_concludes (exec_imageEnd p s) h (imageEndBody_eq p u),
    fun h => exec_concludes (exec_imageActivate p s) h (imageActivateBody_eq p u),
    fun h => exec_concludes (exec_decodeLoad p s) h (decodeLoadBody_eq p u), fun k h hslot => ?_⟩
  intro rel t out ok
  have hbody := journalReadBody_eq p u hslot
  refine ⟨fun hlen => exec_concludes (exec_journalRead p s) h (hbody.trans (if_pos hlen)),
    fun hlen hbad => exec_concludes (exec_journalRead p s) h (hbody.trans ((if_neg (not_not.mpr hlen)).trans (if_pos hbad))),
    fun hlen hok hrel => exec_concludes (exec_journalRead p s) h
      (hbody.trans ((if_neg (not_not.mpr hlen)).trans (if_neg (not_not.mpr ⟨hok, hrel⟩))))⟩

end

end
